-- ==== Sys2Proof/Syntax.lean ====
section
/-!
DEFINITION. Sys2Proof/Syntax.lean: the commands that the block takes. One constructor of `Instr` for each row of the
operation table; its operands are what the outside world supplies with that step (a register value, a frame, a
measured quantity).
-/

namespace Sys2Proof

/-- A byte. -/
abbrev Byte := BitVec 8

/-- A 32-bit register word. -/
abbrev Word := BitVec 32

/-- A wall-link port (R259). -/
inductive Port where
  | a | b
  deriving DecidableEq, Repr

/-- The ports on which commands arrive (R240). -/
inductive CmdPort where
  | a | b | service
  deriving DecidableEq, Repr

/-- The sources of register accesses (R249, R516). -/
inductive Source where
  | tumbler | service | portA | portB | jtag
  deriving DecidableEq, Repr

/-- A frame: its header as one 128-bit little-endian value (R291) and its payload. -/
structure Frame where
  hdr : BitVec 128
  payload : List Byte
  deriving DecidableEq, Repr

/-- A command as it arrives (R243), but for its opcode, which the row names. -/
structure CmdReq where
  /-- port of arrival -/
  port : CmdPort
  /-- DEST of the CONTROL frame -/
  dest : BitVec 12
  /-- SRC of the CONTROL frame -/
  src : BitVec 12
  /-- FLAGS -/
  flags : Byte
  /-- CMD_ID -/
  cmdId : BitVec 16
  /-- ARG_LEN as sent -/
  argLen : BitVec 16
  /-- the two bytes at offset 0x06 -/
  zero : BitVec 16
  /-- SESSION -/
  session : BitVec 64
  /-- the argument bytes that arrived -/
  args : List Byte
  deriving DecidableEq, Repr

/-- The power-good inputs (R483). -/
inductive PowerGood where
  | aux0 | aux1 | core
  deriving DecidableEq, Repr

/-- The rows of R485 that raise CORE_SUPPLY_FAULT, in its order: the core too low, the core outside its window, an
auxiliary supply. -/
inductive Supply where
  | coreLow | coreWindow | aux
  deriving DecidableEq, Repr

/-- The two instants of a pin reset (R489): the pin has been low for 10 µs; 1 ms has passed since it rose. -/
inductive PinEdge where
  | low | released
  deriving DecidableEq, Repr

/-- The hardwired safety inputs (R382). -/
inductive InputAB where
  | a | b
  deriving DecidableEq, Repr

/-- What the channels observe at a 1 ms tick (R374, R380, R400). -/
structure TickObs where
  /-- the two channels disagree about the function in force -/
  mismatch : Bool
  /-- a drive-enable pin or VLED disable does not match the function in force -/
  pinFail : Bool
  /-- summed phase current, mA -/
  phaseMa : Nat
  /-- the highest DRV_ECHO of the slots returned since the last tick -/
  maxEcho : Nat
  /-- the raw levels of SIA[0], SIA[1], SIB[0] and SIB[1], bit 0 first, 1 high (R404) -/
  raw : BitVec 4
  deriving DecidableEq, Repr

/-- What is observed at a deadline of SLO (R379). -/
structure SloObs where
  /-- an output pin disagrees on read-back -/
  pinFail : Bool
  /-- summed phase current, mA -/
  phaseMa : Nat
  /-- a reachable cell reports DRV_EN = 1 -/
  cellOn : Bool
  deriving DecidableEq, Repr

/-- What a port’s receiver has found on one lane at the end of EQ (R279, R280). -/
structure EqObs where
  /-- measured eye width, 1/256 UI -/
  eye : BitVec 8
  /-- CTLE setting reached -/
  ctle : Fin 16
  /-- the five DFE taps reached -/
  dfe : List Int
  deriving DecidableEq, Repr

/-- A two-phase store or erase of the NVM that can complete (R454). -/
inductive NvmJob where
  | settings | retained | program
  deriving DecidableEq, Repr

/-- What a scrub pass over the NVM found (R206, R451). -/
structure ScrubObs where
  /-- pages whose corrected bits were refreshed -/
  refreshed : Nat
  /-- corrected reads -/
  corrected : Nat
  /-- an uncorrectable page, if there was one: its offset in units of 512 B -/
  bad : Option (Fin 8192)
  deriving DecidableEq, Repr

/-- What a band of the colour pipeline meets (R91, R98). -/
structure BandObs where
  /-- 64 B bursts of working records that the ECC cannot correct, numbered by pixel / 4 -/
  badBursts : List Nat
  /-- zones whose cap fails its parity check -/
  badZones : List Nat
  deriving DecidableEq, Repr

/-- What one cell returned in a read-back (R135): its address and its words, none for a word that arrived with a word error (R121). -/
structure SlotObs where
  cell : Fin 1024
  words : List (Option Word)
  deriving DecidableEq, Repr

/-- What a locate finds (R150): the highest address PXO reaches, the lowest address PXI reaches, and the
round trips measured from PXO and from PXI, in ns. -/
structure LocateObs where
  aLast : Option (Fin 1024)
  bFirst : Option (Fin 1024)
  rtA : BitVec 16
  rtB : BitVec 16
  deriving DecidableEq, Repr

/-- The echo of a feeder’s SYNC: the ring index and the SEQ that it carries (R128). -/
structure EchoObs where
  index : BitVec 6
  seq : BitVec 16
  deriving DecidableEq, Repr

/-- What a restore probe finds (R154): PXO reaches B_FIRST; the SYNC echo returns round the whole ring. -/
structure ProbeObs where
  reaches : Bool
  echo : Bool
  deriving DecidableEq, Repr

/-- Ledger bursts that the ECC cannot correct (R185): those that the pass finds, and those that fail later, which the next read of the ledger
finds, whether it is for a plan, a store or the next pass. -/
structure LedgerErrs where
  found : List Nat := []
  later : List Nat := []
  deriving DecidableEq, Repr

/-- The blocks that a lane receives, as they come off the line (R269, R271). -/
structure LaneBlocks where
  lane : Fin 4
  blocks : List (BitVec 66)
  deriving DecidableEq, Repr

/-- The bits that the checker of a lane receives (R286). -/
structure LaneBits where
  lane : Fin 4
  received : List Bool
  deriving DecidableEq, Repr

/-- What a 250 ms thermal evaluation reads (R433, R437). -/
structure ThermObs where
  /-- the twelve logic-die sensors, 1/16 °C -/
  sensors : List Int
  /-- the power-die temperature, 1/16 °C -/
  pdie : Int
  /-- the conversions of NTC 0 to 7, averaged over 10 ms, as 12-bit ratios -/
  ntc : List (BitVec 12)
  deriving DecidableEq, Repr

/-- The quantities with a threshold (R439). -/
inductive ThermQty where
  | dieWarn | dieLimit | dieShut | pdieWarn | pdieLimit | pdieShut | dieRise
  | ringRise (k : Fin 64)
  | knee (k : Fin 64)
  deriving DecidableEq, Repr

/-- What the bring-up of one ring finds (R142, R151): the cells enumerated through the whole ring, whether PXI answered, and
when it did not, the locate; the round trips in ns; and what the cells return to the READ of step 5. -/
structure RingBring where
  found : BitVec 11
  answered : Bool
  aLast : Option (Fin 1024)
  bFirst : Option (Fin 1024)
  rtA : BitVec 16
  rtB : BitVec 16
  slots : List SlotObs
  deriving DecidableEq, Repr

/-- What BOOT meets in steps 1 to 5 of R490. -/
structure BootObs where
  /-- CLKSEL as sampled at reset release -/
  clksel : Bool
  /-- SCFG -/
  straps : BitVec 6
  /-- the safety self-test of R400 passes -/
  safetyOk : Bool
  /-- the self-test of the check units passes (R426) -/
  checksOk : Bool
  /-- Ward’s known-answer tests pass (R361) -/
  katOk : Bool
  /-- DRAM training completes -/
  dramOk : Bool
  /-- installed DRAM in GiB -/
  dramGib : BitVec 2
  /-- the read eye and the write eye of each byte lane that training measures, in 1/256 UI (R204) -/
  readEyes : List Byte
  writeEyes : List Byte
  /-- uncorrectable pages of the NVM (R451), each its offset in units of 512 B -/
  nvmBad : List (Fin 8192)
  /-- the first PMBus command does not fail three times (R203, R490) -/
  pmbusOk : Bool
  /-- a trial image accepts what settings area L holds (R458) -/
  migrates : Bool
  deriving DecidableEq, Repr

/-- The commands, one constructor for each row of the operation table, in its order: those with operands (BAD_OPCODE last),
then those without: compiled Lean admits operands on the first 244 constructors only, the kernel on all. -/
inductive Instr where
  /-- INRUSH_COMPLETE: HSW_VOUT reaches VBUS − 0.5 V with full gate drive; the hot-swap controller enters ON and supply sequencing starts. (R476) -/
  | inrushComplete (ms : BitVec 16)
  /-- POWER_GOOD_RISE: A power-good input rises; 1 ms later the power die raises the next enable, or releases the logic-die reset after CORE_PG. (R483) -/
  | powerGoodRise (which : PowerGood)
  /-- CORE_SUPPLY_FAULT: A core or auxiliary supply leaves its window for 10 µs; the engine either holds the logic die in reset with cause SUPPLY or enters SAFE. (R485) -/
  | coreSupplyFault (supply : Supply)
  /-- PIN_RESET: PORST_L has been low for at least 10 µs; the logic die is reset with cause PIN, and the reset is released 1 ms after the pin rises. (R489) -/
  | pinReset (edge : PinEdge)
  /-- PORT_PARK: Once the departure frame is sent, each used lane sends 32 PARK blocks and goes to electrical idle, and the port enters PARKED. (R278) -/
  | portPark (p : Port)
  /-- DEPARTURE_RESET: Once any page program in progress has completed, the logic die is held in reset and the engine is in STANDBY. (R480) -/
  | departureReset (us : BitVec 16)
  /-- BOOT_START: The logic-die reset is released and BOOT starts: PLL lock, safety self-test, slot verification, DRAM training, settings, calibration and ledger loads. (R490) -/
  | bootStart (obs : BootObs)
  /-- BOOT_COMPLETE: BOOT ends; held records are created and the engine enters JOIN, SAFE or SERVICE. (R490) -/
  | bootComplete (ms : BitVec 16) (rings : List RingBring)
  /-- JOIN_COMPLETE: Tile ID, map and a time domain have all been acquired, and the engine goes from JOIN to DARK. (R22) -/
  | joinComplete (ms : BitVec 16)
  /-- FLIP: A flip instant is reached in wall time; cells apply LATCH and the feeders start the next frame. (R319) -/
  | flip (n : Nat)
  /-- TAKE_POINT: The start of vertical blanking is reached; shadow state becomes active, layer sources are chosen and the LATCH is decided. (R49) -/
  | takePoint (n : Nat)
  /-- LATCH_LAUNCH: At flip − 15 µs − W/2, the feeder launches LATCH with COUNT 12,000 on its ring. (R129) -/
  | latchLaunch (ring : Fin 64)
  /-- TIME_COMPARE_FIRE: Time compare n reaches its target; it disarms itself and fires TCMPn. (R336) -/
  | timeCompareFire (n : Fin 8)
  /-- SYNC: A TIME SYNC frame is checked for tag and sequence, stamped at arrival, and forwarded cut-through. (R324) -/
  | sync (p : Port) (f : Frame) (sinceStart : Nat) (residence : Nat)
  /-- FOLLOW_UP: A FOLLOW_UP for a held SYNC forms a domain sample and is sent on with the corrected CORRECTION. (R324) -/
  | followUp (p : Port) (f : Frame)
  /-- FOLLOW_UP_TIMEOUT: No FOLLOW_UP has arrived within 10 ms of a SYNC; no sample is formed and no FOLLOW_UP is sent. (R324) -/
  | followUpTimeout (p : Port)
  /-- PDELAY_REQ: A received PDELAY_REQ is stamped and answered with PDELAY_RESP within 10 µs. (R322) -/
  | pdelayReq (p : Port) (f : Frame) (turnaround : Nat)
  /-- PDELAY_RESP: A received PDELAY_RESP yields a link-delay sample, and the median is updated. (R322) -/
  | pdelayResp (p : Port) (f : Frame) (sinceStart : Nat)
  /-- PDELAY_SEND: Every 125 ms, each ACTIVE port with an assigned partner sends PDELAY_REQ. (R322) -/
  | pdelaySend (p : Port)
  /-- PDELAY_TIMEOUT: No response has arrived within 1 ms, and the request is discarded. (R322) -/
  | pdelayTimeout (p : Port)
  /-- DOMAIN_LOSS_TIMEOUT: 3 SYNC intervals pass without a sample and the domain is lost. (R328) -/
  | domainLossTimeout (d0 : Bool) (d1 : Bool)
  /-- CAPTURE_EDGE: An enabled capture source edge is stamped into the capture FIFO, or lost if the FIFO is full. (R338) -/
  | captureEdge (source : Fin 7) (rising : Bool)
  /-- HOLD_MAX_S: A write to TIME_CFG.HOLD_MAX_S applies at once, also to a holdover in progress. (R331) -/
  | holdMaxS (src : Source) (w : Word)
  /-- COMPARE_ARM: A write to TIME_CMP_n_HI arms compare n, or is refused with BUSY while Tn waits on it. (R336) -/
  | compareArm (src : Source) (n : Fin 8) (w : Word)
  /-- ADC_SNAPSHOT_ARM: A write to TIME_ADC_HI arms the ADC snapshot. (R337) -/
  | adcSnapshotArm (src : Source) (w : Word)
  /-- TIME_CAP_SW: A write of CAPTURE records a capture of source 8. (R338) -/
  | timeCapSw (src : Source) (w : Word)
  /-- TIME_CAP_DATA0_READ: A read returns and removes the oldest capture and latches its stamp into TIME_CAP_DATA1. (R341) -/
  | timeCapData0Read (src : Source) (consume : Bool)
  /-- TIME_NOW_READ: A read of TIME_NOW_LO returns W bits [31:0] and snapshots bits [63:32] for the reader's source. (R341) -/
  | timeNowRead (src : Source)
  /-- TIME_LOCAL_READ: A read of TIME_LOCAL_LO returns the local counter and snapshots its high bits. (R341) -/
  | timeLocalRead (src : Source)
  /-- COMP_COMMIT: A write to COMP_COMMIT issues a COMMIT with its mask, GLOBALS bit and token. (R54) -/
  | compCommit (src : Source) (w : Word)
  /-- STREAM: A delivered STREAM frame is checked against its context, authenticated, checked for replay and landed. (R312) -/
  | stream (p : Port) (f : Frame)
  /-- COL_TAKE: A write to COL_TAKE requests an ENV and/or COLOUR take with a token. (R75) -/
  | colTake (src : Source) (w : Word)
  /-- COL_ENV_DATA: A write sets two shadow caps and advances ADDR by 2. (R90) -/
  | colEnvData (src : Source) (w : Word)
  /-- COL_ENV_FILL: A write fills a rectangle of shadow zone caps with FILL_CAP. (R90) -/
  | colEnvFill (src : Source) (w : Word)
  /-- COL_TF_DATA: A write sets one custom transfer-table entry and advances ADDR. (R116) -/
  | colTfData (src : Source) (w : Word)
  /-- BAND_COMPLETE: The codes of a four-line band are in the back buffer of the code plane. (R74) -/
  | bandComplete (obs : BandObs)
  /-- RING_ROW_SEND: The feeder sends CODES and a KIND 0 READ for the next landed cell row of its ring. (R127) -/
  | ringRowSend (ring : Fin 64)
  /-- READ_RETURN: Read-back slots return; cells are confirmed, retried or KEEP-marked, and temperature and headroom are passed on. (R136) -/
  | readReturn (ring : Fin 64) (kind : Fin 4) (slots : List SlotObs)
  /-- SYNC_ECHO: The echo of the feeder's SYNC returns; a wrong ring index fences the ring. (R128) -/
  | syncEcho (ring : Fin 64) (echo : EchoObs)
  /-- BREAK_DETECT: Lock loss, a missing echo or a failed READ block reveals a break; streaming stops and the locate starts. (R149) -/
  | breakDetect (ring : Fin 64)
  /-- LOCATE_COMPLETE: The binary search gives A_LAST and B_FIRST; the ring runs in Hinge mode, loses cells, or is lost. (R151) -/
  | locateComplete (ring : Fin 64) (obs : LocateObs)
  /-- RESTORE_PROBE: Every 1,000 ms the feeder probes whether the ring is whole and returns it to RING mode. (R154) -/
  | restoreProbe (ring : Fin 64) (probe : ProbeObs)
  /-- CELL_REENUM: In the blanking after a silent frame, ENUM is sent; a cell that answers had reset and gets a resend. (R147) -/
  | cellReenum (ring : Fin 64) (answered : List (Fin 1024)) (found : BitVec 11)
  /-- CAIRN_RESTREAM: Every 100 ms the sign is checked against its CRC, restreamed and rechecked. (R157) -/
  | cairnRestream (upsets : List (Fin 65536 × BitVec 32))
  /-- VF_SWEEP_START: RING_MEAS with KIND 1 starts a 48-round VF sweep on all rings. (R144) -/
  | vfSweepStart (src : Source) (w : Word)
  /-- OS_SWEEP_START: RING_MEAS with KIND 2 starts a one-round open/short sweep. (R144) -/
  | osSweepStart (src : Source) (w : Word)
  /-- SWEEP_STOP: RING_MEAS with KIND 0 stops a sweep without results for the round in progress. (R145) -/
  | sweepStop (src : Source) (w : Word)
  /-- CLR_RT_FENCE: From SERVICE, clears run-time fences, sends UNFENCE and rebuilds FENCED. (R146) -/
  | clrRtFence (src : Source) (w : Word)
  /-- RAIL_RAMP_END: 1 ms after the ramp end, REG_OK is set if VLED is within ±50 mV and the peak limit becomes 14 A. (R167) -/
  | railRampEnd (vledMv : BitVec 13)
  /-- RAIL_START_TIMEOUT: REG_OK is still clear at 20 ms; RAIL_SHORT or RAIL_START_FAIL is raised and the LED supply is fenced. (R167) -/
  | railStartTimeout (vledMv : BitVec 13)
  /-- RAIL_OCP: A phase reaches its 14 A peak limit; the pulse ends and the event is counted. (R169) -/
  | railOcp (phase : Fin 4)
  /-- RAIL_OCP_SUSTAINED: The peak limit is hit in half the cycles over 10 ms; the set point is held. (R169) -/
  | railOcpSustained (phase : Fin 4)
  /-- PHASE_IMBALANCE: A phase deviates more than 30 % for 100 ms and is disabled, and the limits scale. (R169) -/
  | phaseImbalance (phase : Fin 4)
  /-- POWER_LIMIT_STEP: Every 250 ms, K_POWER falls or rises by one against PLIMIT_W. (R172) -/
  | powerLimitStep (p100mw : BitVec 12)
  /-- LEDGER_PASS_COMPLETE: The ledger pass finishes adding the sample's dose to every emitter. (R181) -/
  | ledgerPassComplete (bad : LedgerErrs)
  /-- STORE_NOW: AGE_CTRL.STORE_NOW starts a ledger store. (R186) -/
  | storeNow (src : Source) (w : Word)
  /-- PLAN_NOW: AGE_CTRL.PLAN_NOW starts a plan pass. (R196) -/
  | planNow (src : Source) (w : Word)
  /-- CLR_LANE_DERATE: From SERVICE, restores both port start rates to 12.8 Gbit/s. (R205) -/
  | clrLaneDerate (src : Source) (w : Word)
  /-- AVS_EVALUATION: The adaptive-voltage loop acts on the least replica slack: it raises, lowers or holds, or raises a fault. (R202) -/
  | avsEvaluation (slackPs : List (BitVec 10)) (written : Bool)
  /-- AVS_CHECK: 2 ms after a PMBus write, ADC channel 17 is compared with the command; a mismatch raises AVS_MISMATCH. (R203) -/
  | avsCheck (ch17Mv : BitVec 12)
  /-- MEM_EYE_CHECK: Every 60 min the read eye is re-measured, and NEXT_SET or MEM_MARGIN is set. (R204) -/
  | memEyeCheck (eyes : List (BitVec 8))
  /-- LANE_MARGIN_CHECK: Every 60 min each lane's eye is recorded, and a port's start rate may be lowered. (R205) -/
  | laneMarginCheck (eyesA : List (BitVec 8)) (eyesB : List (BitVec 8))
  /-- NVM_SCRUB: The engine reads every NVM page and refreshes those with corrected bits. (R206) -/
  | nvmScrub (obs : ScrubObs)
  /-- ADD: rd ← ra + rb. (R224) -/
  | add (t : Fin 8) (rd : Fin 16) (ra : Fin 16) (rb : Fin 16)
  /-- SUB: rd ← ra − rb. (R224) -/
  | sub (t : Fin 8) (rd : Fin 16) (ra : Fin 16) (rb : Fin 16)
  /-- AND: rd ← ra & rb. (R224) -/
  | and (t : Fin 8) (rd : Fin 16) (ra : Fin 16) (rb : Fin 16)
  /-- OR: rd ← ra | rb. (R224) -/
  | or (t : Fin 8) (rd : Fin 16) (ra : Fin 16) (rb : Fin 16)
  /-- XOR: rd ← ra ^ rb. (R224) -/
  | xor (t : Fin 8) (rd : Fin 16) (ra : Fin 16) (rb : Fin 16)
  /-- SHL: Shifts left by rb[4:0]. (R224) -/
  | shl (t : Fin 8) (rd : Fin 16) (ra : Fin 16) (rb : Fin 16)
  /-- SHR: Logical shift right by rb[4:0]. (R224) -/
  | shr (t : Fin 8) (rd : Fin 16) (ra : Fin 16) (rb : Fin 16)
  /-- SAR: Arithmetic shift right by rb[4:0]. (R224) -/
  | sar (t : Fin 8) (rd : Fin 16) (ra : Fin 16) (rb : Fin 16)
  /-- MUL: Low 32 bits of ra × rb. (R224) -/
  | mul (t : Fin 8) (rd : Fin 16) (ra : Fin 16) (rb : Fin 16)
  /-- MULHU: High 32 bits of the unsigned product. (R224) -/
  | mulhu (t : Fin 8) (rd : Fin 16) (ra : Fin 16) (rb : Fin 16)
  /-- DIVU: Unsigned division, with 0xFFFF_FFFF for a divisor of 0. (R224) -/
  | divu (t : Fin 8) (rd : Fin 16) (ra : Fin 16) (rb : Fin 16)
  /-- REMU: Unsigned remainder, with ra for a divisor of 0. (R224) -/
  | remu (t : Fin 8) (rd : Fin 16) (ra : Fin 16) (rb : Fin 16)
  /-- MIN: The lesser of ra and rb, signed. (R224) -/
  | min (t : Fin 8) (rd : Fin 16) (ra : Fin 16) (rb : Fin 16)
  /-- MAX: The greater of ra and rb, signed. (R224) -/
  | max (t : Fin 8) (rd : Fin 16) (ra : Fin 16) (rb : Fin 16)
  /-- SLT: Signed set-less-than. (R224) -/
  | slt (t : Fin 8) (rd : Fin 16) (ra : Fin 16) (rb : Fin 16)
  /-- SLTU: Unsigned set-less-than. (R224) -/
  | sltu (t : Fin 8) (rd : Fin 16) (ra : Fin 16) (rb : Fin 16)
  /-- ADDI: rd ← ra + simm. (R224) -/
  | addi (t : Fin 8) (rd : Fin 16) (ra : Fin 16) (imm : BitVec 18)
  /-- ANDI: rd ← ra & uimm. (R224) -/
  | andi (t : Fin 8) (rd : Fin 16) (ra : Fin 16) (imm : BitVec 18)
  /-- ORI: rd ← ra | uimm. (R224) -/
  | ori (t : Fin 8) (rd : Fin 16) (ra : Fin 16) (imm : BitVec 18)
  /-- XORI: rd ← ra ^ uimm. (R224) -/
  | xori (t : Fin 8) (rd : Fin 16) (ra : Fin 16) (imm : BitVec 18)
  /-- SHLI: Shift left by an immediate. (R224) -/
  | shli (t : Fin 8) (rd : Fin 16) (ra : Fin 16) (imm : BitVec 5)
  /-- SHRI: Logical shift right by an immediate. (R224) -/
  | shri (t : Fin 8) (rd : Fin 16) (ra : Fin 16) (imm : BitVec 5)
  /-- SARI: Arithmetic shift right by an immediate. (R224) -/
  | sari (t : Fin 8) (rd : Fin 16) (ra : Fin 16) (imm : BitVec 5)
  /-- LUI: rd ← uimm << 14. (R224) -/
  | lui (t : Fin 8) (rd : Fin 16) (imm : BitVec 18)
  /-- SLTI: Signed set-less-than against an immediate. (R224) -/
  | slti (t : Fin 8) (rd : Fin 16) (ra : Fin 16) (imm : BitVec 18)
  /-- LD: Loads a data-memory word. (R224) -/
  | ld (t : Fin 8) (rd : Fin 16) (ra : Fin 16) (imm : BitVec 18)
  /-- LDB: Loads a data-memory byte, zero-extended. (R224) -/
  | ldb (t : Fin 8) (rd : Fin 16) (ra : Fin 16) (imm : BitVec 18)
  /-- ST: Stores a data-memory word. (R224) -/
  | st (t : Fin 8) (rd : Fin 16) (ra : Fin 16) (imm : BitVec 18)
  /-- STB: Stores a data-memory byte. (R224) -/
  | stb (t : Fin 8) (rd : Fin 16) (ra : Fin 16) (imm : BitVec 18)
  /-- SWAP: Atomically exchanges rd and a data word. (R224) -/
  | swap (t : Fin 8) (rd : Fin 16) (ra : Fin 16) (imm : BitVec 18)
  /-- LDX: Reads an engine-address word with WALL authority and R7 effects. (R226) -/
  | ldx (t : Fin 8) (rd : Fin 16) (ra : Fin 16) (imm : BitVec 18)
  /-- STX: Writes an engine-address word with WALL authority, subject to field authority. (R226) -/
  | stx (t : Fin 8) (rd : Fin 16) (ra : Fin 16) (imm : BitVec 18)
  /-- BEQ: Branches if equal. (R224) -/
  | beq (t : Fin 8) (rd : Fin 16) (ra : Fin 16) (off : BitVec 18)
  /-- BNE: Branches if not equal. (R224) -/
  | bne (t : Fin 8) (rd : Fin 16) (ra : Fin 16) (off : BitVec 18)
  /-- BLT: Branches if less, signed. (R224) -/
  | blt (t : Fin 8) (rd : Fin 16) (ra : Fin 16) (off : BitVec 18)
  /-- BGE: Branches if greater or equal, signed. (R224) -/
  | bge (t : Fin 8) (rd : Fin 16) (ra : Fin 16) (off : BitVec 18)
  /-- BLTU: Branches if less, unsigned. (R224) -/
  | bltu (t : Fin 8) (rd : Fin 16) (ra : Fin 16) (off : BitVec 18)
  /-- BGEU: Branches if greater or equal, unsigned. (R224) -/
  | bgeu (t : Fin 8) (rd : Fin 16) (ra : Fin 16) (off : BitVec 18)
  /-- JMP: Jumps relative to the PC. (R224) -/
  | jmp (t : Fin 8) (off : BitVec 18)
  /-- JR: Jumps to ra. (R224) -/
  | jr (t : Fin 8) (ra : Fin 16)
  /-- CALL: Pushes the return address and jumps relative to the PC. (R224) -/
  | call (t : Fin 8) (off : BitVec 18)
  /-- CALLR: Pushes the return address and jumps to ra. (R224) -/
  | callr (t : Fin 8) (ra : Fin 16)
  /-- RET: Pops the return address. (R224) -/
  | ret (t : Fin 8)
  /-- HALT: The thread halts with CAUSE 1. (R224) -/
  | halt (t : Fin 8)
  /-- WAITF: Waits for the uimm-th take point and returns its flip number. (R230) -/
  | waitf (t : Fin 8) (rd : Fin 16) (imm : BitVec 18)
  /-- WAITT: Waits for an absolute wall time through compare n. (R231) -/
  | waitt (t : Fin 8) (rd : Fin 16) (ra : Fin 16) (rb : Fin 16)
  /-- WAITD: Waits for a delay in µs through compare n. (R231) -/
  | waitd (t : Fin 8) (rd : Fin 16) (ra : Fin 16) (imm : BitVec 18)
  /-- WAITE: Waits for masked events or a timeout. (R229) -/
  | waite (t : Fin 8) (rd : Fin 16) (ra : Fin 16) (imm : BitVec 18)
  /-- TIME: Reads time, the flip number, the frame period or the local counter by selector. (R232) -/
  | time (t : Fin 8) (rd : Fin 16) (sel : Fin 5)
  /-- LAYER: Copies 8 data words into a layer's shadow descriptor. (R235) -/
  | layer (t : Fin 8) (rd : Fin 16) (ra : Fin 16) (rb : Fin 16)
  /-- TUMBLER_COMMIT: The Tumbler COMMIT device operation issues a COMMIT and stalls until admission ends. (R235) -/
  | tumblerCommit (t : Fin 8) (rd : Fin 16) (ra : Fin 16)
  /-- TUMBLER_MODE: The Tumbler MODE device operation requests a timing-mode change from a MODE block. (R235) -/
  | tumblerMode (t : Fin 8) (rd : Fin 16) (ra : Fin 16)
  /-- ENV: Requests an ENV take with a token. (R235) -/
  | env (t : Fin 8) (rd : Fin 16) (ra : Fin 16)
  /-- TUMBLER_CAL: The Tumbler CAL device operation requests a user-calibration update from a CAL block. (R235) -/
  | tumblerCal (t : Fin 8) (rd : Fin 16) (ra : Fin 16)
  /-- TUMBLER_MEAS: The Tumbler MEAS device operation starts or stops a measurement sweep. (R235) -/
  | tumblerMeas (t : Fin 8) (rd : Fin 16) (ra : Fin 16)
  /-- TUMBLER_STORE: The Tumbler STORE device operation starts a store of the given kind. (R235) -/
  | tumblerStore (t : Fin 8) (rd : Fin 16) (ra : Fin 16)
  /-- SIG: Fires software events SW0 to SW3. (R235) -/
  | sig (t : Fin 8) (rd : Fin 16) (ra : Fin 16)
  /-- POST: Queues a STATUS frame upstream with data from data memory. (R235) -/
  | post (t : Fin 8) (rd : Fin 16) (ra : Fin 16) (rb : Fin 16)
  /-- SREQ: Delivers a safety-function demand to the monitor within 1 µs. (R236) -/
  | sreq (t : Fin 8) (rd : Fin 16) (imm : BitVec 18)
  /-- ILLEGAL_INSTRUCTION: An illegal encoding or opcode takes the ILLEGAL exception and halts the thread. (R221) -/
  | illegalInstruction (t : Fin 8)
  /-- RUNAWAY: A thread exceeds its run limit since leaving a wait and takes the RUNAWAY exception. (R213) -/
  | runaway (t : Fin 8)
  /-- WAITE_TIMEOUT: A WAITE timeout expires and rd receives 0. (R229) -/
  | waiteTimeout (t : Fin 8)
  /-- TUM_START: TUM_CTRL.START restarts the named threads from their entry points after a program check. (R238) -/
  | tumStart (src : Source) (w : Word)
  /-- TUM_HALT: TUM_CTRL.HALT halts the named threads with CAUSE 10. (R238) -/
  | tumHalt (src : Source) (w : Word)
  /-- PROG_STORE: TUM_CTRL.PROG_STORE starts a program store to the older NVM copy. (R218) -/
  | progStore (src : Source) (w : Word)
  /-- TUM_DB_DATA: A read returns and removes the oldest doorbell word. (R238) -/
  | tumDbData (src : Source) (consume : Bool)
  /-- PING: Returns DEV_ID and ID_STATE. (R250) -/
  | ping (q : CmdReq)
  /-- READ: Reads 1 to 2,048 words from one row of the address map. (R251) -/
  | read (q : CmdReq)
  /-- WRITE: Writes 1 to 2,048 words after checking every word. (R251) -/
  | write (q : CmdReq)
  /-- COMMIT: Issues a COMMIT and replies with the admission result. (R250) -/
  | commit (q : CmdReq)
  /-- MODE: Requests a timing-mode change from a 16 B MODE block. (R60) -/
  | mode (q : CmdReq)
  /-- COLOUR_TAKE: Requests an ENV and/or COLOUR take and replies with the landing result. (R75) -/
  | colourTake (q : CmdReq)
  /-- CAL: Requests a user-calibration update of a pixel rectangle. (R96) -/
  | cal (q : CmdReq)
  /-- MEAS: Starts or stops a measurement sweep. (R144) -/
  | meas (q : CmdReq)
  /-- STORE: Starts a settings, retained, ledger or user-calibration store. (R235) -/
  | store (q : CmdReq)
  /-- DOORBELL: Queues a word to TUM_DB_DATA, or is refused with BUSY when four are queued. (R250) -/
  | doorbell (q : CmdReq)
  /-- PROG_LOAD: Writes instructions into program memory while all threads are halted. (R218) -/
  | progLoad (q : CmdReq)
  /-- LIGHT_ON: Moves the engine from DARK to LIT unless STALE, a demand or an open CRITICAL record refuses it. (R24) -/
  | lightOn (q : CmdReq)
  /-- LIGHT_OFF: Moves the engine from LIT to DARK. (R251) -/
  | lightOff (q : CmdReq)
  /-- SAFE_REQ: Adds a REQUEST safety cause with the function given. (R251) -/
  | safeReq (q : CmdReq)
  /-- FAULT_ACK: Acknowledges a fault record or all records, releasing fences and SAFE causes when the conditions have gone. (R415) -/
  | faultAck (q : CmdReq)
  /-- CONFIG_REFRESH: Stores both epochs, clears STALE and starts a user-calibration store. (R251) -/
  | configRefresh (q : CmdReq)
  /-- SHUTDOWN: Leaves LIT, stores the ledger, settings and user calibration, then replies. (R251) -/
  | shutdown (q : CmdReq)
  /-- UPDATE_START: Checks an image header and enters UPDATE, marking and erasing the inactive slot. (R461) -/
  | updateStart (q : CmdReq)
  /-- UPDATE_ABORT: Aborts staging, marks the slot INVALID and returns to the previous state. (R463) -/
  | updateAbort (q : CmdReq)
  /-- RESTART: Sets a STAGED slot to TRIAL, stores the ledger and restarts. (R464) -/
  | restart (q : CmdReq)
  /-- ATTEST: Returns a signed attestation record with the nonce. (R364) -/
  | attest (q : CmdReq)
  /-- PROOF_READ: Returns up to 16 proof-of-play records. (R369) -/
  | proofRead (q : CmdReq)
  /-- SESSION_OPEN: Unwraps a session secret and opens a session, keeping the old one as the previous session. (R350) -/
  | sessionOpen (q : CmdReq)
  /-- ENTER_SERVICE: From the service port, moves DARK or SAFE to SERVICE and halts the threads. (R22) -/
  | enterService (q : CmdReq)
  /-- LEAVE_SERVICE: Leaves SERVICE for SAFE, DARK or JOIN and restarts the threads. (R22) -/
  | leaveService (q : CmdReq)
  /-- OWNER_ENROLL: Enrolls, transfers or releases ownership and replaces the owner key and K_wall. (R347) -/
  | ownerEnroll (q : CmdReq)
  /-- SAFETY_PARAM: Checks and stores a safety parameter set, which takes effect at once. (R387) -/
  | safetyParam (q : CmdReq)
  /-- NVM_ERASE: Erases an NVM region for the next BOOT. (R471) -/
  | nvmErase (q : CmdReq)
  /-- DEBUG_UNLOCK: Issues a challenge, or checks an owner signature and opens JTAG. (R365) -/
  | debugUnlock (q : CmdReq)
  /-- SEAL_CHANGE: SEAL_INTACT changes; transactions are abandoned or enabled and the change is logged. (R503) -/
  | sealChange (high : Bool)
  /-- TRAIN_DETECTED: A valid TRAIN block is received with block lock in DETECT, and the port enters RATE. (R272) -/
  | trainDetected (p : Port) (lane : Fin 4) (payload : BitVec 64) (trains : List (Fin 4 × BitVec 64))
  /-- RATE_AGREED: Both sides send the same RATE_SEL with ACK; the PLLs relock and the port enters EQ, or it enters QUIET. (R275) -/
  | rateAgreed (p : Port) (payload : BitVec 64)
  /-- EQ_REQUEST: A received EQ request steps the transmit FIR filter and updates EQ_STAT. (R279) -/
  | eqRequest (p : Port) (lane : Fin 4) (payload : BitVec 64)
  /-- EQ_DONE: Both sides send DONE with ACK, or the 40 ms timeout prunes weak lanes, and the port enters ALIGN. (R279) -/
  | eqDone (p : Port) (payload : BitVec 64) (timeout : Bool) (obs : List EqObs)
  /-- ALIGN_DONE: The port is deskewed and 16 IDLE blocks have arrived with RX_ALIGNED; the port enters ACTIVE. (R272) -/
  | alignDone (p : Port) (skews : List (BitVec 8))
  /-- TRAINING_TIMEOUT: 50 ms pass in a training state; the attempt fails and the port returns to DETECT or QUIET. (R274) -/
  | trainingTimeout (p : Port)
  /-- QUIET_RETRY: Every 1,000 ms in QUIET, a retry cycle starts with the counters at 2. (R276) -/
  | quietRetry (p : Port)
  /-- SIGNAL_DETECT: A receiver in QUIET detects signal, and a new cycle starts within 1 ms. (R276) -/
  | signalDetect (p : Port)
  /-- BLOCK_LOCK: A lane achieves block lock after 64 valid headers. (R269) -/
  | blockLock (p : Port) (obs : LaneBlocks)
  /-- BLOCK_LOCK_LOSS: 16 invalid headers within 64 blocks lose block lock. (R269) -/
  | blockLockLoss (p : Port) (obs : LaneBlocks)
  /-- AM_RECEIVED: An alignment marker is received, BIP is checked and skew is measured. (R270) -/
  | amReceived (p : Port) (lane : Fin 4) (blocks : List (BitVec 66)) (payload : BitVec 64) (skew : BitVec 8)
  /-- MARKER_LOCK_LOSS: 3 expected AM positions pass without a marker, and marker lock is lost. (R271) -/
  | markerLockLoss (p : Port) (obs : LaneBlocks)
  /-- PARK_RECEIVED: 2 PARK blocks end ACTIVE without a fault and are counted in PARKS. (R277) -/
  | parkReceived (p : Port) (lane : Fin 4)
  /-- RETRAIN_TRIGGER: A clamp is pressed for 1 ms or BIP errors pass 256 in a second; the port retrains into EQ. (R281) -/
  | retrainTrigger (p : Port) (lane : Fin 4)
  /-- RETRAIN_FOLLOW: A partner TRAIN block with STATE 3 takes the ACTIVE port into EQ. (R281) -/
  | retrainFollow (p : Port) (lane : Fin 4) (payload : BitVec 64)
  /-- ADAPT_FREEZE: 4,096 consecutive IDLE blocks freeze adaptation on a lane. (R281) -/
  | adaptFreeze (p : Port) (lane : Fin 4)
  /-- ADAPT_RESUME: 64 data blocks since the freeze resume adaptation. (R281) -/
  | adaptResume (p : Port) (lane : Fin 4)
  /-- RETRAIN: LNK_CTRL.RETRAIN forces a retrain in ACTIVE. (R281) -/
  | retrain (src : Source) (p : Port) (w : Word)
  /-- CLR_FENCE: From SERVICE, clears all lane fences of the port. (R283) -/
  | clrFence (src : Source) (p : Port) (w : Word)
  /-- PORT_ENABLE: LNK_CTRL.ENABLE disables the port or starts a cycle. (R289) -/
  | portEnable (src : Source) (p : Port) (w : Word)
  /-- LNK_EYE: LNK_EYE.START starts an eye measurement of all used lanes. (R280) -/
  | lnkEye (src : Source) (p : Port) (w : Word)
  /-- EYE_MEASURE_COMPLETE: The eye measurement completes and its result is reported in LNK_EYE_STATUS. (R280) -/
  | eyeMeasureComplete (p : Port) (eyes : List (BitVec 8))
  /-- TEST_EN: Setting TEST_EN in SERVICE takes the port into TEST with the configured patterns. (R284) -/
  | testEn (src : Source) (p : Port) (w : Word)
  /-- TEST_EXIT: Clearing TEST_EN fences failed lanes and starts a new cycle. (R284) -/
  | testExit (src : Source) (p : Port) (w : Word)
  /-- PRBS_SYNC_TIMEOUT: A checker not in sync 10 ms after TEST_EN sets FAIL. (R286) -/
  | prbsSyncTimeout (p : Port) (obs : LaneBits)
  /-- PRBS_SYNC_LOSS: A checker loses sync, reseeds, and sets FAIL after more than 4 losses in 1 s. (R286) -/
  | prbsSyncLoss (p : Port) (obs : LaneBits)
  /-- LNK_INJECT: Inverts one bit or a burst of bits on the selected lanes. (R287) -/
  | lnkInject (src : Source) (p : Port) (w : Word)
  /-- FORWARDING_DECISION: A frame header has arrived; HCRC and class are checked and the frame is delivered, forwarded, turned or dropped. (R294) -/
  | forwardingDecision (p : Port) (hdr : BitVec 128)
  /-- FRAME_TRAILER: A frame's trailer CRC is checked; a failed cut-through copy is stomped and the frame is dropped. (R300) -/
  | frameTrailer (p : Port) (payload : List Byte) (trailer : Word)
  /-- EGRESS_SEND: The port line is free; the next queued frame is chosen by class priority and aging, and starts. (R298) -/
  | egressSend (p : Port)
  /-- ANNOUNCE: A received ANNOUNCE sets the entry's DIR, HOPS and FRESH, and head-end hops. (R304) -/
  | announce (p : Port) (f : Frame)
  /-- DEPART: A received DEPART sets the entry to DEPARTED and DIR_VIA. (R305) -/
  | depart (p : Port) (f : Frame)
  /-- ASSIGN: An ASSIGN with the tile's TILE_UID stores the ID and wall epoch, possibly marking STALE. (R307) -/
  | assign (p : Port) (f : Frame)
  /-- LOAD: MAP LOAD entries enter the pending map of their generation. (R303) -/
  | load (p : Port) (f : Frame)
  /-- DONE: MAP DONE replaces the map in one step, or discards the pending map. (R303) -/
  | done (p : Port) (f : Frame)
  /-- ENTRY_STALE: A FRESH entry without ANNOUNCE for 350 ms becomes STALE and DIR_VIA. (R305) -/
  | entryStale (id : BitVec 12)
  /-- STREAM_CONTEXT_WRITE: A write to a context entry is checked as a whole, and an in-progress frame is abandoned. (R311) -/
  | streamContextWrite (src : Source) (n : Fin 256) (words : List (Fin 4 × Word))
  /-- UPDATE: An UPDATE frame's body data is queued for staging, or dropped. (R462) -/
  | update (p : Port) (f : Frame)
  /-- NVM_UPD_DATA: A SERVICE write stages one body word at NEXT_OFFSET. (R462) -/
  | nvmUpdData (src : Source) (w : Word)
  /-- KEY_LOAD: WARD_KEYLOAD_CTRL unwraps a stream key into a slot and reports CODE. (R356) -/
  | keyLoad (src : Source) (w : Word)
  /-- KEY_CLEAR: WARD_KEYLOAD_CTRL with CLEAR empties the slot. (R356) -/
  | keyClear (src : Source) (w : Word)
  /-- INPUT_SAFE: An input channel's filtered state goes safe; its cause arises and the function is applied. (R382) -/
  | inputSafe (input : InputAB) (ch : Bool)
  /-- INPUT_HEALTHY: An input channel's filtered state returns to healthy. (R382) -/
  | inputHealthy (input : InputAB) (ch : Bool) (pressMs : Nat)
  /-- TEST_PULSE: Every 50 ms a SIT output pulses and the channels are checked; two failures latch FAULTED. (R383) -/
  | testPulse (output : Bool) (failA : Bool) (failB : Bool)
  /-- INPUT_DISCREPANCY: The discrepancy count reaches DISC_MS; the input latches FAULTED and a MAJOR fault is raised. (R384) -/
  | inputDiscrepancy (input : InputAB)
  /-- SAFETY_TICK: On each 1 ms tick, the channels compare functions, check outputs and count discrepancies. (R374) -/
  | safetyTick (obs : TickObs)
  /-- SLO_CHECK: At the 10 µs, 1 ms and 20 ms deadlines, the read-back, current and cell DRV_EN checks apply. (R379) -/
  | sloCheck (stage : Fin 3) (obs : SloObs)
  /-- HEARTBEAT: A master HEARTBEAT PDU is checked and restarts the watchdog. (R391) -/
  | heartbeat (p : Port) (pdu : List Byte)
  /-- DEMAND: An accepted DEMAND PDU raises the BC_DEMAND cause. (R394) -/
  | demand (p : Port) (pdu : List Byte)
  /-- ACK: A master ACK PDU clears the named causes whose reset conditions hold. (R397) -/
  | ack (p : Port) (pdu : List Byte)
  /-- STATUS_PDU: A received STATUS PDU is checked and counted. (R391) -/
  | statusPdu (p : Port) (pdu : List Byte)
  /-- SAFETY_STRAP_CHANGED: A strap that changes after BOOT raises a CRITICAL fault. (R386) -/
  | safetyStrapChanged (straps : BitVec 6)
  /-- FAULT_EVENT_EXPIRY: An event source's condition ends 1 s after its latest occurrence. (R406) -/
  | faultEventExpiry (source : BitVec 8) (detail : BitVec 16)
  /-- HANDLING_END: A record's HANDLE_US handling time ends, and later faults create new records. (R413) -/
  | handlingEnd (number : Word)
  /-- FLT_INJECT: From SERVICE, injects a fault source in REACT or NO_REACTION mode. (R422) -/
  | fltInject (src : Source) (w : Word)
  /-- FLT_INJECT_CLEAR: FLT_INJECT with CLEAR ends an injected L condition. (R422) -/
  | fltInjectClear (src : Source) (w : Word)
  /-- CLR_FIRST: Clears FLT_FIRST and FLT_FIRST_INFO. (R412) -/
  | clrFirst (src : Source) (w : Word)
  /-- CHK_START: Starts a CRC computation with the configured parameters. (R426) -/
  | chkStart (src : Source) (u : Fin 4) (w : Word)
  /-- CHK_DATA_B: Queues one byte into the check unit. (R427) -/
  | chkDataB (src : Source) (u : Fin 4) (w : Word)
  /-- CHK_DATA_H: Queues two bytes into the check unit. (R427) -/
  | chkDataH (src : Source) (u : Fin 4) (w : Word)
  /-- CHK_DATA_W: Queues four bytes into the check unit. (R427) -/
  | chkDataW (src : Source) (u : Fin 4) (w : Word)
  /-- CHK_CLOSE: Closes the computation once the queue drains. (R428) -/
  | chkClose (src : Source) (u : Fin 4) (w : Word)
  /-- CHK_DRAIN_COMPLETE: The queue has drained; the result is formed and compared with CHK_EXPECT. (R428) -/
  | chkDrainComplete (u : Fin 4)
  /-- CHK_ALIVE_FEED: Feeds the alive counter; a sequence break raises CHECK_ALIVE_u. (R429) -/
  | chkAliveFeed (src : Source) (u : Fin 4) (w : Word)
  /-- ALIVE_DEADLINE: A gap longer than DEADLINE_US between feeds raises CHECK_ALIVE_u. (R429) -/
  | aliveDeadline (u : Fin 4)
  /-- CHK_RSTATUS: A read snapshots CHK_RESULT and consumes FRESH. (R428) -/
  | chkRstatus (src : Source) (u : Fin 4) (consume : Bool)
  /-- RING_SIG_CNT: A read snapshots the signature registers and consumes FRESH. (R141) -/
  | ringSigCnt (src : Source) (consume : Bool)
  /-- DIE_SENSOR_FAIL: A logic-die sensor out of range, or outvoted for 1 s, fails. (R434) -/
  | dieSensorFail (sensor : Fin 12) (reading : Int)
  /-- THERMAL_EVALUATION: Every 250 ms, board temperatures, rates, K_THR and SKIP are evaluated. (R437) -/
  | thermalEvaluation (obs : ThermObs)
  /-- NTC_CROSSCHECK_FAIL: An NTC that differs from cell temperature by 10 °C for 10 s fails. (R437) -/
  | ntcCrosscheckFail (ntc : Fin 8)
  /-- THRESHOLD_CROSSING: A temperature or rate threshold dwell of 500 ms ends and the source is raised or released. (R438) -/
  | thresholdCrossing (q : ThermQty) (up : Bool) (value : Int)
  /-- THERMAL_RELEASE: Sensor 0 has been at or below 132 °C for 500 ms, and the thermal reset may be released. (R443) -/
  | thermalRelease (reading : Int)
  /-- THERM_TRIM_CTRL: A write of START triggers a self-trim run. (R445) -/
  | thermTrimCtrl (src : Source) (w : Word)
  /-- SELF_TRIM_COMPLETE: A run completes; out-of-range trims are rejected and the others await a take point. (R446) -/
  | selfTrimComplete (trims : List (Int × Bool))
  /-- NVM_STORE_COMPLETE: A two-phase NVM store writes COMMIT and reports its result. (R453) -/
  | nvmStoreComplete (kind : NvmJob) (ok : Bool)
  /-- BACKGROUND_ERASE_DONE: The background erase of the next target completes and the store stops counting as running. (R454) -/
  | backgroundEraseDone (kind : NvmJob)
  /-- USER_CAL_STORE_COMPLETE: A user-calibration store to the tile flash writes COMMIT. (R111) -/
  | userCalStoreComplete (ok : Bool)
  /-- CONFIRM: A tagged write of CONFIRM confirms the trial, or is refused with NOT_READY. (R466) -/
  | confirm (src : Source) (w : Word)
  /-- CAIRN_START: NVM_CAIRN_CTRL.START begins a Cairn plane write in SERVICE. (R469) -/
  | cairnStart (src : Source) (w : Word)
  /-- NVM_CAIRN_DATA: Writes the next Cairn plane word. (R469) -/
  | nvmCairnData (src : Source) (w : Word)
  /-- CAIRN_COMMIT: NVM_CAIRN_CTRL.COMMIT checks the word count and CRC, then stores through the journal. (R469) -/
  | cairnCommit (src : Source) (w : Word)
  /-- CAIRN_STORE_COMPLETE: The Cairn plane and header are stored and NVM_CAIRN_STATUS reports. (R469) -/
  | cairnStoreComplete (ok : Bool)
  /-- REGISTER_WRITE: A write to a register field with no row of its own sets its value under its access type and authority. (R7) -/
  | registerWrite (src : Source) (addr : Word) (w : Word)
  /-- REGISTER_READ: A read of a register field that clears an RC field or consumes a FRESH bit, from any source, including JTAG debug access. (R7) -/
  | registerRead (src : Source) (addr : Word) (consume : Bool)
  /-- SERVICE_WRITE: A service-port transaction other than REPLY ends: a WRITE with a bad CRC, one that arrives while a command executes, or an unknown first byte is discarded and counted. (R257) -/
  | serviceWrite (bits : List Bool)
  /-- CAIRN_COMPLETION_DEADLINE: 1.5 ms, or 1.75 ms with a locate running, after the SSG request, a ring whose Cairn frame is not complete raises CAIRN_MON. (R157) -/
  | cairnCompletionDeadline (ring : Fin 64)
  /-- BAD_OPCODE: A command whose opcode is not in the catalogue is refused with BAD_OPCODE, counted and replied to within 10 µs. (R250) -/
  | badOpcode (opcode : Byte) (q : CmdReq)
  /-- HOUSEKEEPING_UP: The 3.3 V housekeeping supply reaches regulation after VBUS rises above 7.5 V, and the engine goes from OFF to STANDBY. (R475) -/
  | housekeepingUp
  /-- HOUSEKEEPING_LOST: VBUS falls below 6.0 V or ADC channel 16 reads below 2.7 V, and the engine enters OFF. (R475) -/
  | housekeepingLost
  /-- INRUSH_START: PRESENT_L has been asserted for 100 ms with VBUS in range and cool-down over, and the hot-swap gate starts regulated inrush. (R476) -/
  | inrushStart
  /-- INRUSH_TIMEOUT: Inrush has lasted 250 ms; the controller trips with DETAIL 0 and holds an INRUSH_FAIL event. (R476) -/
  | inrushTimeout
  /-- BREAKER_TRIP: The shunt voltage reaches 100 mV in ON; the gate turns off within 1 µs and the controller trips with DETAIL 1. (R476) -/
  | breakerTrip
  /-- BREAKER_OVERLOAD: The shunt voltage has held at or above 50 mV for 2 ms in ON; the controller trips with DETAIL 2. (R476) -/
  | breakerOverload
  /-- BUS_UV: VBUS has been below 7.5 V for 100 µs; the gate goes off and the engine enters STANDBY. (R476) -/
  | busUv
  /-- TRIP_COOLDOWN_END: 10 s have passed in TRIPPED; the controller returns to GATE_OFF with cool-down over. (R476) -/
  | tripCooldownEnd
  /-- BUS_OV: The bus has been above 68 V for 10 µs; BUS_OV is raised and the engine enters SAFE with the gate still on. (R478) -/
  | busOv
  /-- SEQUENCE_TIMEOUT: A power-good input is more than 10 ms late; all enables fall in reverse order and CORE_SUPPLY_FAULT is held for the next BOOT. (R483) -/
  | sequenceTimeout
  /-- SEQUENCE_RETRY: 1 s after a failed sequence, supply sequencing restarts from step 1. (R483) -/
  | sequenceRetry
  /-- SUPPLY_SHUTDOWN: At entry to STANDBY, the power die drops CORE_EN, then AUX_EN[1] 5 ms later, then AUX_EN[0] 5 ms after that. (R484) -/
  | supplyShutdown
  /-- HOUSEKEEPING_UV: ADC channel 16 has been below 3.0 V for 100 µs; the engine raises HOUSEKEEPING_UV and enters SAFE. (R485) -/
  | housekeepingUv
  /-- REFCLK_LOSS: The reference has been outside 20 to 30 MHz for 4 µs; REFCLK_LOSS is raised, the engine enters SAFE and the root PLL holds its control value. (R488) -/
  | refclkLoss
  /-- PLL_UNLOCK: The root PLL lock indication has dropped for 1 µs; PLL_UNLOCK is raised and the engine enters SAFE. (R488) -/
  | pllUnlock
  /-- CLOCK_RESET: 10 ms after a clock fault, the power die places the logic die in reset with cause CLOCK. (R488) -/
  | clockReset
  /-- CLOCK_RECOVERED: The reference has been within limits for 10 ms; the power die releases the clock reset. (R488) -/
  | clockRecovered
  /-- MGMT_WATCHDOG: The management watchdog expires; the engine enters SAFE, writes the NVM log entry, and resets the logic die within 1 ms. (R406) -/
  | mgmtWatchdog
  /-- JTAG_SYSTEM_RESET: A JTAG system reset while JTAG is open resets the logic die with cause DEBUG. (R489) -/
  | jtagSystemReset
  /-- DEPARTURE: PRESENT_L deassertion is taken after 0.5 µs; light is removed, no new store starts, and DEPART is queued. (R480) -/
  | departure
  /-- DEPARTURE_GATE_OFF: 0.6 ms after the deassertion, HSW_GATE turns off. (R480) -/
  | departureGateOff
  /-- ADC_SNAPSHOT: At its target, ADC channels 0 to 6 are copied together into TIME_ADCSNAP. (R337) -/
  | adcSnapshot
  /-- HOLDOVER_EXPIRY: Holdover exceeds HOLD_MAX_S; wall time is lost, flips stop, LIT exits to DARK and TIME_LOST is raised. (R331) -/
  | holdoverExpiry
  /-- SLEW_COMPLETE: The rejoin slew reaches |Δ| ≤ 8 ns; the domain becomes active and SLEWING clears. (R332) -/
  | slewComplete
  /-- SWITCH_BACK: The preferred standby has been QUALIFIED for 60 s, and W switches back to it. (R330) -/
  | switchBack
  /-- FRAME_LOCK_EDGE: A FRAME_LOCK rising edge updates the period and the phase after the preceding flip. (R339) -/
  | frameLockEdge
  /-- FLOCK_LOST: An enabled FRAME_LOCK has shown no edge for 100 ms; an INFO fault is raised. (R339) -/
  | flockLost
  /-- COMMIT_ADMISSION: A queued commit is admitted or refused against fence, CONF_HZ, limits, sync groups, pins and budget. (R58) -/
  | commitAdmission
  /-- TAKE_LANDING: An ENV or COLOUR landing completes or is refused, and its pending copy is formed. (R75) -/
  | takeLanding
  /-- CAL_RECORD_REBUILD: Before the next take point, the four affected records are rebuilt from the tile flash. (R98) -/
  | calRecordRebuild
  /-- CAL_UPDATE_COMPLETE: A CAL update finishes rewriting its records and CAL_BUSY clears. (R97) -/
  | calUpdateComplete
  /-- CAIRN_LATCH: Once the Cairn frame has been streamed, the feeders launch an immediate LATCH. (R156) -/
  | cairnLatch
  /-- LED_EVAL_TIMEOUT: No take point for 50 ms; the rail target is evaluated on the reports received. (R165) -/
  | ledEvalTimeout
  /-- RAIL_OV: VLED above its limit for 10 µs turns all gates off and fences the LED supply. (R169) -/
  | railOv
  /-- RAIL_UV: VLED has been 300 mV below the reference for 1 ms; the event is counted. (R169) -/
  | railUv
  /-- RAIL_UV_HOLD: Under-voltage has lasted 100 ms; the set point is held. (R169) -/
  | railUvHold
  /-- RAIL_SENSE: Remote and local sense differ by 600 mV for 10 ms; the loop regulates on local − 100 mV. (R169) -/
  | railSense
  /-- ADC_SELFCHECK: The ADC reference or zero check fails; a MINOR fault is raised and the set point is held. (R177) -/
  | adcSelfcheck
  /-- BOARD_DERATE_STEP: Every 250 ms each ring's K_BOARD is evaluated with dwell and stepped. (R173) -/
  | boardDerateStep
  /-- LEDGER_STORE_START: A ledger store starts after 55 min of operating time, or on request, shutdown or restart. (R186) -/
  | ledgerStoreStart
  /-- LEDGER_ERASE_COMPLETE: The background erase of the next ledger target half completes, and the store copy proceeds. (R186) -/
  | ledgerEraseComplete
  /-- LEDGER_STORE_COMPLETE: The header and COMMIT of the ledger half are written and the store reports OK. (R186) -/
  | ledgerStoreComplete
  /-- LEDGER_STORE_FAIL: An unreadable write fails the ledger store and raises LEDGER_STORE_FAIL. (R188) -/
  | ledgerStoreFail
  /-- LEDGER_STORE_RETRY: 5 min after a failed store, the next ledger store starts. (R188) -/
  | ledgerStoreRetry
  /-- PLAN_REWRITE_COMPLETE: The rewrite of working records completes; the new RES factors take effect at the next take point. (R197) -/
  | planRewriteComplete
  /-- DQS_TRACKING: Every 100 ms the DQS oscillator tracking runs. (R204) -/
  | dqsTracking
  /-- SERVICE_REPLY: A service-port REPLY transaction returns RSTATE and the held reply. (R256) -/
  | serviceReply
  /-- ANNOUNCE_SEND: Every 100 ms, and on ACTIVE entry or assignment, the tile broadcasts ANNOUNCE on both ports. (R304) -/
  | announceSend
  /-- PREVIOUS_SESSION_END: 10 s after its replacement, the previous session ends. (R350) -/
  | previousSessionEnd
  /-- PROOF_RECORD_SIGNED: Ward signs a closed proof record within 5 ms and stores it. (R366) -/
  | proofRecordSigned
  /-- DEBUG_CHALLENGE_EXPIRY: A debug challenge expires after 600 s. (R365) -/
  | debugChallengeExpiry
  /-- WARD_ENTROPY: A DRBG or entropy health test fails and Ward is fenced. (R370) -/
  | wardEntropy
  /-- WARD_SEALED_ECC: An uncorrectable sealed-region read fences Ward. (R370) -/
  | wardSealedEcc
  /-- ACK_PRESS: A valid press on the acknowledgement input clears every cause whose reset condition holds. (R385) -/
  | ackPress
  /-- SAFETY_XCOMPARE: Two consecutive channel mismatches make channel B perform SLO. (R374) -/
  | safetyXcompare
  /-- ALIVE_TIMEOUT: 2 ms without channel A's alive toggle makes channel B perform SLO and drive FAULT. (R374) -/
  | aliveTimeout
  /-- FADE_DONE: At FADE_MS, the fade completes and SLO is performed. (R380) -/
  | fadeDone
  /-- SSG_DRIVE_ENABLE: After the Cairn LATCH applies, the drive enables are reasserted. (R381) -/
  | ssgDriveEnable
  /-- BC_WATCHDOG: WDG_MS pass after the last master PDU; the WATCHDOG cause arises. (R393) -/
  | bcWatchdog
  /-- BC_DEMAND_TIMEOUT: 50 ms pass without a DEMAND PDU, and BC_DEMAND meets its reset condition. (R376) -/
  | bcDemandTimeout
  /-- DEMAND_REPEAT: Every 10 ms while an input stays safe or FAULTED, the DEMAND PDU is repeated. (R395) -/
  | demandRepeat
  /-- STATUS_PDU_SEND: Every 100 ms and on change, a STATUS PDU is sent to the master. (R396) -/
  | statusPduSend
  /-- FAULT_PAIR_HEALTHY: The HEALTHY pattern resumes within 1 ms after the last FAULT condition ends. (R420) -/
  | faultPairHealthy
  /-- FLT_PAIR_READBACK: A fault-pair pin disagrees for 3 reads and raises a CRITICAL fault. (R420) -/
  | fltPairReadback
  /-- FLASH_FAIL: A tile-flash operation times out or reads back wrong, and the tile flash is fenced. (R473) -/
  | flashFail
  /-- SHUTDOWN_RESET: Once the page program completes, the logic die is held in reset and the engine is in STANDBY. (R444) -/
  | shutdownReset
  /-- TRIM_DAILY: 24 h of operating time after the last run triggers a self-trim. (R445) -/
  | trimDaily
  /-- SELF_TRIM_START: A triggered or held self-trim run starts measuring blocks into shadow trims. (R445) -/
  | selfTrimStart
  /-- TRIM_TIMEOUT: A run not complete in 20 ms commits nothing and raises TRIM_FAIL. (R447) -/
  | trimTimeout
  /-- TRIM_APPLY_TIMEOUT: 50 ms after completion without a take point, the trims enter force. (R448) -/
  | trimApplyTimeout
  /-- SLOT_ERASE_COMPLETE: The inactive slot is erased and PHASE becomes RECEIVING. (R461) -/
  | slotEraseComplete
  /-- STAGING_COMPLETE: All body data has been staged; the digest is verified and the slot becomes STAGED or INVALID. (R463) -/
  | stagingComplete
  /-- TRIAL_CONFIRM: The trial's conditions all hold; it confirms itself, swaps the areas and raises ARB_FW. (R466) -/
  | trialConfirm
  /-- TRIAL_TIMER_EXPIRY: CONFIRM_MIN expires unconfirmed; the ledger is stored, then the slot is made INVALID and the engine resets. (R467) -/
  | trialTimerExpiry
  /-- CAIRN_RELOAD: The renderer reloads the plane into SRAM once SSG is not in force. (R470) -/
  | cairnReload
  /-- LOG_APPEND: A queued entry is appended to the circular NVM log at the lowest priority. (R472) -/
  | logAppend
  /-- T_DIE_MOVE: T_die has moved by at least 8 °C from its value at the start of the last completed run, and a self-trim run is triggered. (R445) -/
  | tDieMove
  /-- COMP_INTERNAL: The composer detects an internal fault; the MAJOR source fences the composer, so commits are refused and every pixel shows COMP_BG. (R406) -/
  | compInternal
  /-- COLOUR_INTERNAL: The colour pipeline detects an internal fault and is fenced; it writes code 0 to the whole back buffer at once and then writes nothing. (R105) -/
  | colourInternal
  /-- TUMBLER_PARITY: A Tumbler parity error raises a MAJOR fault that fences Tumbler, halting every thread with CAUSE 10. (R406) -/
  | tumblerParity
  deriving DecidableEq, Repr

end Sys2Proof
end

