-- ==== Sys2Proof/Decode.lean ====
section
/-!
DEFINITION. Sys2Proof/Decode.lean: the commands that a word spells by the operation table’s bits. The table gives no row any bits
(every row’s list of fields is empty), so no word spells a command.
-/

namespace Sys2Proof

/-- The command that the `nbits` bits of `w` spell: none, since no row of the table has bits. -/
def decodeTableWord (_nbits _w : Nat) : Option Instr := none

end Sys2Proof
end

