-- ==== Sys2Proof/Word.lean ====
section
/-!
DEFINITION. Sys2Proof/Word.lean: the plainest arithmetic of words: fields, saturation, clamping.
-/

namespace Sys2Proof

/-- Bits [hi:lo] of a word as a number (R4). -/
def fld (w : BitVec 32) (hi lo : Nat) : Nat := (w.toNat >>> lo) % 2 ^ (hi + 1 - lo)

/-- A flag as the number it reads as. -/
def b2n (b : Bool) : Nat := if b then 1 else 0

/-- A count that saturates at the largest value of a field of `w` bits. -/
def sat (w n : Nat) : Nat := min n (2 ^ w - 1)

/-- `n` held within `lo` to `hi` (a write of another value stores the nearer bound). -/
def clampN (lo hi n : Nat) : Nat := max lo (min hi n)

/-- The same for signed numbers. -/
def clampI (lo hi n : Int) : Int := max lo (min hi n)

/-- A word put together from fields, each with its lowest bit position. -/
def pack (l : List (Nat × Nat)) : BitVec 32 :=
  BitVec.ofNat 32 (l.foldl (fun a p => a + p.2 * 2 ^ p.1) 0)

/-- A signed number as the value of a field of `w` bits. -/
def sfield (w : Nat) (i : Int) : Nat := (i % (2 ^ w : Int)).toNat

/-- The number that a field of `w` bits holds in two’s complement. -/
def ofSfield (w n : Nat) : Int := if n % 2 ^ w < 2 ^ (w - 1) then (n % 2 ^ w : Nat) else ((n % 2 ^ w : Nat) : Int) - 2 ^ w

end Sys2Proof
end

