-- ==== Sys2Proof/Config.lean ====
section
/-!
DEFINITION. Sys2Proof/Config.lean: what is fixed for the machine, and the free values: constants with no body, of which
nothing can be proved but that they are what they are (log entry 8).
-/

namespace Sys2Proof.Config

/-- The vendor root’s ID and public key, held in the mask ROM (R345). -/
opaque rootId : List (BitVec 8)
opaque rootPub : List (BitVec 8)

/-- The vendor root’s signature over bytes 0x00 to 0x9F of the engine’s identity certificate (R345). -/
opaque rootSig : List (BitVec 8) → List (BitVec 8)

/-- 32 fresh bytes from the DRBG (R344, R365), for each draw. -/
opaque drbg : Nat → BitVec 256

/-- What Ward drew from the DRBG at first power-up for its identity signing key, 0, and its identity agreement key, 1 (R344). -/
opaque identity : Nat → Nat

/-- The per-message secret of an ECDSA signature (R342), for each draw. -/
opaque nonce : Nat → Nat

/-- The engine’s fixed internal delay in the round trip of a ring, in ns (R129): the spec gives no value. -/
opaque ringFixedNs : Nat

/-- What the PI servo of R326 adds to the offset, in 2^-16 ns, and to the rate, in ppb, for a residual: the spec gives no
gains. First argument: how many samples the domain has had. -/
opaque servoOffset : Nat → Int → Int
opaque servoRate : Nat → Int → Int

/-- What an equaliser request of the receiver is (R279, R281): the setting adaptation has reached. -/
opaque adapt : Nat → Int

/-- One output of the HLG OOTF (R81), of the scene luminance, the component (both 20 bits) and PEAK_REF: the spec bounds its
error and states no value within the bound; `ColourOps` holds it within that bound. -/
opaque ootf : Nat → Nat → Nat → Nat

/-- A temperature weight (R184), of the temperature, T_REF and DOUBLE in 1/16 °C: the spec bounds its error and states no value within
the bound; `AgeOps` holds it within that bound. -/
opaque weight : Int → Int → Nat → Nat

/-- The floor of a colour of which no emitter is counted (R196): the spec states none. -/
opaque emptyFloor : Nat → BitVec 16

/-- A word that the spec leaves open, for each value of the model’s counter. -/
opaque freeWord : Nat → BitVec 32

/-- The TYPE code of a kind of NVM log entry (R472): the spec gives none. -/
opaque logType : Nat → BitVec 8

end Sys2Proof.Config
end

