-- ==== Sys2Proof/Machine/State/Safety.lean ====
section
/-!
DEFINITION. Sys2Proof/Machine/State/Safety.lean: the safety monitor (chapter 13).
-/

namespace Sys2Proof.Machine

/-- The safety functions, with the codes of SAF_STATUS.FUNC and of the DEMAND PDU (R390). -/
inductive SafeFunc where
  | sfd | slo | ssg
  deriving DecidableEq, Repr

/-- A safety parameter set (R387); the values at reset are the factory values. -/
structure SafetyParams where
  /-- TP_EN. Width: 1 bit. Rule: R387. Reset: 1. -/
  tpEn : Bool := true
  /-- FILTER_MS. Width: 4 bits. Rule: R387. Reset: 2. -/
  filterMs : Nat := 2
  /-- SSG_LEVEL. Width: 6 bits. Rule: R387. Reset: 47. -/
  ssgLevel : Nat := 47
  /-- DISC_MS. Width: 16 bits. Rule: R387. Reset: 100. -/
  discMs : Nat := 100
  /-- FADE_MS. Width: 16 bits. Rule: R387. Reset: 1,000. -/
  fadeMs : Nat := 1000
  /-- WDG_MS. Width: 16 bits. Rule: R387. Reset: 100. -/
  wdgMs : Nat := 100
  /-- AGE_TOL_MS. Width: 8 bits. Rule: R387. Reset: 10. -/
  ageTolMs : Nat := 10
  /-- WDG_FUNC. Width: 2 bits. Rule: R387. Reset: 2 SLO. -/
  wdgFunc : SafeFunc := .slo
  /-- MASTER_CONN. Width: 32 bits. Rule: R387. Reset: 0. -/
  masterConn : BitVec 32 := 0
  /-- OWN_CONN. Width: 32 bits. Rule: R387. Reset: 0. -/
  ownConn : BitVec 32 := 0
  /-- SCFG_EXPECT. Width: 8 bits. Rule: R387. Reset: 0. -/
  scfgExpect : BitVec 8 := 0
  /-- PARAM_CRC. Width: 32 bits. Rule: R387. Reset: DESIGN CHOICE 0 until a set is in force (log entry 3). -/
  pcrc : BitVec 32 := 0
  deriving DecidableEq, Repr

/-- One hardwired input with its two channels (R382 to R385). -/
structure SafeInput where
  /-- raw level of channel 0, true high. Width: 1 bit. Rule: R404. Reset: 0. -/
  raw0 : Bool := false
  /-- raw level of channel 1. Width: 1 bit. Rule: R404. Reset: 0. -/
  raw1 : Bool := false
  /-- filtered channel 0, true healthy. Width: 1 bit. Rule: R404. Reset: 0. -/
  filt0 : Bool := false
  /-- filtered channel 1. Width: 1 bit. Rule: R404. Reset: 0. -/
  filt1 : Bool := false
  /-- the FAULTED latch. Width: 1 bit. Rule: R384. Reset: 0. -/
  faulted : Bool := false
  /-- both channels have been safe together since the cause arose. Width: 1 bit. Rule: R376. Reset: 1, as both filtered channels read safe at reset. -/
  bothSafe : Bool := true
  /-- both channels have been safe together since the latch. Width: 1 bit. Rule: R384. Reset: 0. -/
  latchSafe : Bool := false
  /-- channel 0 has passed a test pulse since both returned to healthy. Width: 1 bit. Rule: R384. Reset: 0. -/
  latchPass0 : Bool := false
  /-- channel 1 has passed a test pulse likewise. Width: 1 bit. Rule: R384. Reset: 0. -/
  latchPass1 : Bool := false
  /-- latched by a discrepancy, whose condition lasts. Width: 1 bit. Rule: R384. Reset: 0. -/
  byDisc : Bool := false
  /-- latched by test pulses, whose condition lasts. Width: 1 bit. Rule: R383. Reset: 0. -/
  byPulse : Bool := false
  /-- ticks of disagreement counted. Width: 16 bits. Rule: R384. Reset: 0. -/
  discCount : Nat := 0
  /-- consecutive test-pulse failures. Width: 2 bits. Rule: R383. Reset: 0. -/
  tpFails : Nat := 0
  deriving DecidableEq, Repr

/-- The safety monitor: channel B holds the causes through a logic-die reset (R376). -/
structure Saf where
  /-- cause IN_A with its function. Width: 1 cause. Rule: R376. Reset: inactive. -/
  inA : Option SafeFunc := none
  /-- cause IN_B. Width: 1 cause. Rule: R376. Reset: inactive. -/
  inB : Option SafeFunc := none
  /-- cause BC_DEMAND. Width: 1 cause. Rule: R376. Reset: inactive. -/
  bcDemand : Option SafeFunc := none
  /-- cause WATCHDOG. Width: 1 cause. Rule: R376. Reset: inactive. -/
  watchdog : Option SafeFunc := none
  /-- cause REQUEST. Width: 1 cause. Rule: R376. Reset: inactive. -/
  request : Option SafeFunc := none
  /-- cause INTERNAL, always SLO. Width: 1 cause. Rule: R376. Reset: inactive. -/
  internal : Option SafeFunc := none
  /-- no DEMAND PDU has been accepted for 50 ms. Width: 1 bit. Rule: R376. Reset: 1. -/
  bcQuiet : Bool := true
  /-- master PDUs valid in a row since the last failure or expiry, up to 3. Width: 2 bits. Rule: R376. Reset: 0. -/
  wdgValidRun : Nat := 0
  /-- the outputs of SLO are in force. Width: 1 bit. Rule: R375. Reset: 1. -/
  sloOut : Bool := true
  /-- DRV_EN_A_L is asserted. Width: 1 bit. Rule: R404. Reset: 0. -/
  drvEnA : Bool := false
  /-- DRV_EN_B_L is asserted. Width: 1 bit. Rule: R404. Reset: 0. -/
  drvEnB : Bool := false
  /-- VLED disable is asserted. Width: 1 bit. Rule: R404. Reset: 1. -/
  vledDis : Bool := true
  /-- a fade is in progress. Width: 1 bit. Rule: R380. Reset: 0. -/
  fading : Bool := false
  /-- FADE_DONE. Width: 1 bit. Rule: R404. Reset: 0. -/
  fadeDone : Bool := false
  /-- L0, the highest effective level at the decision. Width: 10 bits. Rule: R380. Reset: 0, no fade. -/
  fadeL0 : Nat := 0
  /-- I0, the summed phase current at the decision. Width: mA. Rule: R380. Reset: 0, no fade. -/
  fadeI0 : Nat := 0
  /-- 1 ms ticks since the decision. Width: 16 bits. Rule: R380. Reset: 0, no fade. -/
  fadeTick : Nat := 0
  /-- the safety ceiling of R133. Width: 8 bits. Rule: R404. Reset: 0xBF. -/
  ceiling : Nat := 191
  /-- the ceiling of 1 ms earlier. Width: 8 bits. Rule: R380. Reset: 0xBF. -/
  ceil1 : Nat := 191
  /-- the ceiling of 2 ms earlier. Width: 8 bits. Rule: R380. Reset: 0xBF. -/
  ceil2 : Nat := 191
  /-- SSG was demanded while the outputs of SLO were in force, and the sign is requested before the drive enables. Width: 1 bit. Rule: R381. Reset: 0. -/
  ssgAsked : Bool := false
  /-- input A. Width: 1 input. Rule: R382. Reset: see SafeInput. -/
  inputA : SafeInput := {}
  /-- input B. Width: 1 input. Rule: R382. Reset: see SafeInput. -/
  inputB : SafeInput := {}
  /-- a valid press has ended on the acknowledgement input. Width: 1 bit. Rule: R385. Reset: 0. -/
  ackReady : Bool := false
  /-- SCFG taken at BOOT. Width: 6 bits. Rule: R404. Reset: Straps: read at BOOT; DESIGN CHOICE 0 before it (log entry 3). -/
  straps : BitVec 6 := 0
  /-- SCFG as it reads now. Width: 6 bits. Rule: R386. Reset: DESIGN CHOICE 0 (log entry 3). -/
  strapsNow : BitVec 6 := 0
  /-- the parameter set in force. Width: 1 set. Rule: R387. Reset: Parameters: the factory set until BOOT has read the stored one. -/
  params : SafetyParams := {}
  /-- the stored set was valid at BOOT, or a set has been accepted since. Width: 1 bit. Rule: R388. Reset: 0. -/
  paramsOk : Bool := false
  /-- SELFTEST_OK. Width: 1 bit. Rule: R404. Reset: 0. -/
  selftestOk : Bool := false
  /-- WDG_ARMED. Width: 1 bit. Rule: R404. Reset: 0. -/
  wdgArmed : Bool := false
  /-- the watchdog has expired and not restarted since. Width: 1 bit. Rule: R393. Reset: 0. -/
  wdgExpired : Bool := false
  /-- SINCE_MS. Width: 16 bits, saturating. Rule: R404. Reset: 0xFFFF. -/
  sinceMs : Nat := 0xFFFF
  /-- a master PDU has been accepted since BOOT. Width: 1 bit. Rule: R391. Reset: 0. -/
  masterSeen : Bool := false
  /-- SEQ of the last accepted master PDU. Width: 16 bits. Rule: R391. Reset: DESIGN CHOICE 0 (log entry 3). -/
  masterSeq : BitVec 16 := 0
  /-- its ALIVE. Width: 8 bits. Rule: R391. Reset: DESIGN CHOICE 0 (log entry 3). -/
  masterAlive : BitVec 8 := 0
  /-- its SENDER_TIME. Width: 32 bits. Rule: R391. Reset: DESIGN CHOICE 0 (log entry 3). -/
  masterTime : BitVec 32 := 0
  /-- local time of its acceptance. Width: time. Rule: R391. Reset: DESIGN CHOICE 0 (log entry 3). -/
  masterLocal : Nat := 0
  /-- its SENDER_ID, the destination of STATUS PDUs. Width: 12 bits. Rule: R396. Reset: none. -/
  masterId : BitVec 12 := 0
  /-- SEQ of the engine's own next PDU. Width: 16 bits. Rule: R396. Reset: DESIGN CHOICE 0 (log entry 3). -/
  ownSeq : BitVec 16 := 0
  /-- ALIVE of the engine's own next PDU. Width: 8 bits. Rule: R389. Reset: DESIGN CHOICE 0 (log entry 3). -/
  ownAlive : BitVec 8 := 0
  /-- the next own PDU carries RESTART = 1. Width: 1 bit. Rule: R396. Reset: 1. -/
  ownRestart : Bool := true
  /-- consecutive mismatches between the channels. Width: 2 bits. Rule: R374. Reset: 0. -/
  xMism : Nat := 0
  /-- SAF_BC.RX_OK. Width: 8 bits, saturating. Rule: R404. Reset: 0. -/
  rxOk : Nat := 0
  /-- SAF_BC.CRC_ERRS. Width: 8 bits, saturating. Rule: R404. Reset: 0. -/
  crcErrs : Nat := 0
  /-- SAF_BC.SEQ_ERRS. Width: 8 bits, saturating. Rule: R404. Reset: 0. -/
  seqErrs : Nat := 0
  /-- SAF_BC.AGE_ERRS. Width: 8 bits, saturating. Rule: R404. Reset: 0. -/
  ageErrs : Nat := 0
  /-- SAF_DEMAND_SRC.SENDER_ID. Width: 12 bits. Rule: R404. Reset: 0. -/
  demandFrom : BitVec 12 := 0
  /-- SAF_DEMAND_SRC.FUNC. Width: 2 bits. Rule: R404. Reset: 0. -/
  demandFunc : Nat := 0
  /-- DEMANDS_RX. Width: 16 bits, saturating. Rule: R404. Reset: 0. -/
  demandsRx : Nat := 0
  /-- SAF_DIAG.XCOMPARE. Width: 8 bits, saturating. Rule: R404. Reset: 0. -/
  xcompare : Nat := 0
  /-- SAF_DIAG.OUT_FAILS. Width: 8 bits, saturating. Rule: R404. Reset: 0. -/
  outFails : Nat := 0
  /-- SAF_DIAG.WDG_TRIPS. Width: 8 bits, saturating. Rule: R404. Reset: 0. -/
  wdgTrips : Nat := 0
  /-- SAF_DIAG.ACK_REFUSED. Width: 8 bits, saturating. Rule: R404. Reset: 0. -/
  ackRefused : Nat := 0
  /-- SAF_INPUT.TP_FAILS. Width: 8 bits, saturating. Rule: R404. Reset: 0. -/
  tpFailCount : Nat := 0
  /-- SAF_INPUT.LONG_PRESS. Width: 8 bits, saturating. Rule: R404. Reset: 0. -/
  longPress : Nat := 0
  deriving DecidableEq, Repr

end Sys2Proof.Machine
end

