-- ==== Sys2Proof/Machine/State/Nvm.lean ====
section
/-!
DEFINITION. Sys2Proof/Machine/State/Nvm.lean: persistent storage and firmware update (chapter 16).
-/

namespace Sys2Proof.Machine

/-- A sparse table keyed by number: strictly rising keys, no entry equal to what an unlisted key reads as. -/
abbrev Sparse (α : Type) := List (Nat × α)

/-- The states of a firmware slot, in the order of their codes (R464). -/
inductive SlotState where
  | empty | staging | staged | trial | confirmed | old | invalid
  deriving DecidableEq, Repr

/-- NVM_UPD_STATUS.PHASE, in the order of its codes (R474). -/
inductive UpdPhase where
  | idle | erasing | receiving | verifying | staged | failed
  deriving DecidableEq, Repr

/-- What a two-phase store writes (R452 to R454). -/
inductive StoreKind where
  | settings | retained | program | safetyParams | bootControl
  deriving DecidableEq, Repr

/-- One stored copy (R452): the fields of its header page, and its body. Every field of an erased copy reads ones. -/
structure Copy (α : Type) where
  /-- MAGIC. Width: 32 bits. Rule: R452. Reset: erased. -/
  magic : BitVec 32 := 0xFFFFFFFF
  /-- KIND. Width: 16 bits. Rule: R452. Reset: erased. -/
  kind : Nat := 0xFFFF
  /-- FORMAT. Width: 16 bits. Rule: R452. Reset: erased. -/
  format : Nat := 0xFFFF
  /-- GENERATION; of a Tumbler program copy word 6 of its image (R216). Width: 32 bits. Rule: R452. Reset: erased. -/
  gen : BitVec 32 := 0xFFFFFFFF
  /-- BODY_LEN. Width: 32 bits. Rule: R452. Reset: erased. -/
  len : Nat := 0xFFFFFFFF
  /-- CRC-32C of the body. Width: 32 bits. Rule: R452. Reset: erased. -/
  crc : BitVec 32 := 0xFFFFFFFF
  /-- COMMIT. Width: 32 bits. Rule: R452. Reset: erased. -/
  commit : BitVec 32 := 0xFFFFFFFF
  /-- a page of it is partly programmed or partly erased, or the ECC cannot correct it. Width: 1 bit. Rule: R451. Reset: 0. -/
  bad : Bool := false
  /-- the copy is erased and can be written. Width: 1 bit. Rule: R453. Reset: 1. -/
  erased : Bool := true
  /-- the content of the body pages. Width: the body. Rule: R452. Reset: see the structure that holds it. -/
  body : α
  deriving DecidableEq, Repr

/-- The two copies of one stored item, the lower offset first (R453). -/
structure Pair (α : Type) where
  /-- copy at the lower offset. Width: 1 copy. Rule: R453. Reset: see the structure that holds it. -/
  c0 : Copy α
  /-- copy at the higher offset. Width: 1 copy. Rule: R453. Reset: see the structure that holds it. -/
  c1 : Copy α
  deriving DecidableEq, Repr

/-- The settings body (R457): everything that a settings store writes. -/
structure Settings where
  /-- tile ID. Width: 12 bits. Rule: R457. Reset: default 0 (log entry 4). -/
  tileId : BitVec 12 := 0
  /-- wall epoch. Width: 32 bits. Rule: R457. Reset: default 0 (log entry 4). -/
  wallEpoch : BitVec 32 := 0
  /-- settings epoch. Width: 32 bits. Rule: R457. Reset: default 0 (log entry 4). -/
  settingsEpoch : BitVec 32 := 0
  /-- TILE_UID seen at the last CONFIG_REFRESH. Width: 128 bits. Rule: R457. Reset: default 0 (log entry 4). -/
  tileUid : BitVec 128 := 0
  /-- FLT_SEV_m. Width: 16 words. Rule: R457. Reset: the severities of R406 (an empty list stands for them). -/
  sev : List (BitVec 32) := []
  /-- start rate of port A, encoded as RATE. Width: 2 bits. Rule: R457. Reset: 12.8 Gbit/s. -/
  rateA : Nat := 0
  /-- start rate of port B. Width: 2 bits. Rule: R457. Reset: 12.8 Gbit/s. -/
  rateB : Nat := 0
  /-- COL_ENV_LIMIT.LIMIT. Width: 16 bits. Rule: R457. Reset: default 0xFFFF (log entry 4). -/
  envLimit : Nat := 0xFFFF
  /-- LED_CFG.PHASES_M1. Width: 2 bits. Rule: R457. Reset: 0x3. -/
  phasesM1 : Nat := 3
  /-- LED_VLIM. Width: 32 bits. Rule: R457. Reset: VMIN_MV 0x09C4, VMAX_MV 0x157C. -/
  ledVlim : BitVec 32 := 0x157C09C4
  /-- LED_POWER.PLIMIT_W. Width: 8 bits. Rule: R457. Reset: 0xC8. -/
  plimitW : Nat := 200
  /-- LED_KNEE.KNEE_C. Width: 8 bits. Rule: R457. Reset: 0x37. -/
  kneeC : Nat := 55
  /-- AGE_LEVEL and AGE_LEVEL_B: the overrides, 0 for none. Width: 3 × 16 bits. Rule: R457. Reset: no override, EXCLUDE 0 (R209). -/
  levels : List Nat := [0, 0, 0]
  /-- AGE_LEVEL_B.EXCLUDE. Width: 12 bits. Rule: R457. Reset: 0. -/
  exclude : Nat := 0
  /-- AGE_CTRL[2:0]. Width: 3 bits. Rule: R457. Reset: LEDGER_EN, PLAN_EN, AVS_EN 1. -/
  ageCtrl : BitVec 3 := 7
  /-- AGE_AVS.PMBUS_ADDR. Width: 7 bits. Rule: R457. Reset: 0x40. -/
  avsAddr : Nat := 0x40
  /-- AGE_AVS.VOUT_EXP_NEG. Width: 4 bits. Rule: R457. Reset: 0x9. -/
  avsExp : Nat := 9
  /-- AGE_AVS_LIM. Width: 32 bits. Rule: R457. Reset: VMIN_MV 0x2BC, VMAX_MV 0x352. -/
  avsLim : BitVec 32 := 0x035202BC
  /-- THERM_NTC_CFG. Width: 32 bits. Rule: R457. Reset: BETA 0x0F6E, RATIO_PU 0x10. -/
  ntcCfg : BitVec 32 := 0x00100F6E
  /-- THERM_NTC_MAP_0. Width: 32 bits. Rule: R457. Reset: 0x1B12_0900. -/
  ntcMap0 : BitVec 32 := 0x1B120900
  /-- THERM_NTC_MAP_1. Width: 32 bits. Rule: R457. Reset: 0x3F36_2D24. -/
  ntcMap1 : BitVec 32 := 0x3F362D24
  deriving DecidableEq, Repr

/-- The boot control record (R464). -/
structure BootRecord where
  /-- state of slot 0. Width: 8 bits. Rule: R464. Reset: CONFIRMED (factory). -/
  slot0 : SlotState := .confirmed
  /-- state of slot 1. Width: 8 bits. Rule: R464. Reset: DESIGN CHOICE EMPTY (log entry 5). -/
  slot1 : SlotState := .empty
  /-- TRIES. Width: 8 bits. Rule: R464. Reset: DESIGN CHOICE 0 (log entry 5). -/
  tries : Nat := 0
  /-- AREA_L, true for 1. Width: 8 bits. Rule: R464. Reset: 0 (factory). -/
  areaL : Bool := false
  /-- CONFIRM_MIN. Width: 8 bits. Rule: R464. Reset: 15. -/
  confirmMin : Nat := 15
  deriving DecidableEq, Repr

/-- A firmware slot: the image header and its body (R460), with what the check of R361 finds in it. -/
structure FwSlot where
  /-- the image header. Width: 1,024 bytes. Rule: R460. Reset: DESIGN CHOICE empty (log entry 5). -/
  header : List (BitVec 8) := []
  /-- the body programmed so far. Width: at most 1,047,552 bytes. Rule: R460. Reset: DESIGN CHOICE empty (log entry 5). -/
  body : List (BitVec 8) := []
  /-- a page of the slot that the ECC cannot correct. Width: 1 bit. Rule: R451. Reset: 0. -/
  bad : Bool := false
  deriving DecidableEq, Repr

/-- The Cairn header (R469). -/
structure CairnHeader where
  /-- codes of entries 1 to 3, in the order R, G, B. Width: 9 codes. Rule: R469. Reset: none stored. -/
  palette : List (BitVec 16)
  /-- CRC-32 of the plane. Width: 32 bits. Rule: R469. Reset: none stored. -/
  crc : BitVec 32
  deriving DecidableEq, Repr

/-- An entry of the NVM log (R472). -/
structure LogEntry where
  /-- TYPE. Width: 8 bits. Rule: R472. Reset: empty log. -/
  typ : Nat
  /-- DETAIL. Width: 8 bits. Rule: R472. Reset: empty log. -/
  detail : Nat
  /-- W in ns, bit 63 set when taken from the local counter. Width: 64 bits. Rule: R472. Reset: empty log. -/
  time : BitVec 64
  /-- the data. Width: 20 bytes. Rule: R472. Reset: empty log. -/
  data : List (BitVec 8)
  deriving DecidableEq, Repr

/-- A two-phase store that runs (R453). -/
structure StoreJob (α : Type) where
  /-- what it writes. Width: the body. Rule: R453. Reset: no store. -/
  body : α
  /-- it was started by Tumbler or a command as kind 0 or 1. Width: 1 bit. Rule: R235. Reset: no store. -/
  tumbler : Bool
  deriving DecidableEq, Repr

/-- The NVM and its block of registers (R450 to R474). All but the registers outlive a reset. -/
structure Nvm where
  /-- boot control record. Width: 2 copies. Rule: R464. Reset: slot 0 CONFIRMED, AREA_L 0 (factory). -/
  boot : Pair BootRecord := { c0 := { magic := 0x4D564E4F, kind := 1, format := 1, gen := 0, len := 16, crc := 0x9C43CDE0, commit := 0x5A5AC3C3, erased := false, body := {} }, c1 := { body := {} } }
  /-- firmware slot 0. Width: 1 MiB. Rule: R450. Reset: DESIGN CHOICE empty (log entry 5). -/
  slot0 : FwSlot := {}
  /-- firmware slot 1. Width: 1 MiB. Rule: R450. Reset: DESIGN CHOICE empty (log entry 5). -/
  slot1 : FwSlot := {}
  /-- settings area 0. Width: 2 copies. Rule: R458. Reset: DESIGN CHOICE no valid copy (log entry 5). -/
  area0 : Pair Settings := { c0 := { body := {} }, c1 := { body := {} } }
  /-- settings area 1. Width: 2 copies. Rule: R458. Reset: DESIGN CHOICE no valid copy (log entry 5). -/
  area1 : Pair Settings := { c0 := { body := {} }, c1 := { body := {} } }
  /-- Tumbler program store, 16,384 words a copy. Width: 2 copies. Rule: R217. Reset: DESIGN CHOICE no valid copy (log entry 5). -/
  prog : Pair (Sparse (BitVec 32)) := { c0 := { body := [] }, c1 := { body := [] } }
  /-- Tumbler retained region, 256 words a copy. Width: 2 copies. Rule: R219. Reset: DESIGN CHOICE no valid copy (log entry 5). -/
  retained : Pair (Sparse (BitVec 32)) := { c0 := { body := [] }, c1 := { body := [] } }
  /-- safety parameter set. Width: 2 copies. Rule: R387. Reset: no stored set (factory: R388). -/
  safety : Pair SafetyParams := { c0 := { body := {} }, c1 := { body := {} } }
  /-- Cairn header. Width: 2 copies. Rule: R469. Reset: DESIGN CHOICE no valid header (log entry 5). -/
  cairnHdr : Pair CairnHeader := { c0 := { body := { palette := [], crc := 0 } }, c1 := { body := { palette := [], crc := 0 } } }
  /-- the Cairn plane at its home. Width: 65,536 words. Rule: R469. Reset: DESIGN CHOICE zero (log entry 5). -/
  plane : Sparse (BitVec 32) := []
  /-- a page of the plane that the ECC cannot correct. Width: 1 bit. Rule: R451. Reset: 0. -/
  planeBad : Bool := false
  /-- PLANE_OK. Width: 1 bit. Rule: R474. Reset: 0. -/
  planeOk : Bool := false
  /-- the journal entry of the Cairn plane, being written or committed, whose home is not complete. Width: 1 entry. Rule: R455. Reset: empty. -/
  journal : Option (Sparse (BitVec 32) × CairnHeader) := none
  /-- local time of the latest boot control write, whose phases take at most 2 ms (R454). Width: time. Rule: R453. Reset: none. -/
  bootWroteAt : Option Nat := none
  /-- local time of the latest safety parameter write. Width: time. Rule: R453. Reset: none. -/
  safetyWroteAt : Option Nat := none
  /-- the NVM log, newest first. Width: 12,288 entries. Rule: R472. Reset: DESIGN CHOICE empty (log entry 5). -/
  log : List LogEntry := []
  /-- entries that wait to be appended, oldest first. Width: list. Rule: R472. Reset: empty. -/
  logQueue : List LogEntry := []
  /-- NVM_STATUS.ECC_CORR. Width: 16 bits, saturating. Rule: R474. Reset: 0. -/
  eccCorr : Nat := 0
  /-- NVM_STORE_STATUS.CODE. Width: 8 bits. Rule: R474. Reset: 0. -/
  stCode : BitVec 8 := 0
  /-- NVM_STORE_STATUS.KIND. Width: 2 bits. Rule: R474. Reset: 0. -/
  stKind : Nat := 0
  /-- NVM_STORE_STATUS.VALID. Width: 1 bit. Rule: R474. Reset: 1. -/
  stValid : Bool := true
  /-- NVM_STORE_STATUS.FRESH. Width: 1 bit. Rule: R474. Reset: 0. -/
  stFresh : Bool := false
  /-- a settings store that writes, with its body. Width: 1 job. Rule: R453. Reset: none. -/
  jobSettings : Option Settings := none
  /-- a retained-region store that writes. Width: 1 job. Rule: R453. Reset: none. -/
  jobRetained : Option (Sparse (BitVec 32)) := none
  /-- a program store that writes. Width: 1 job. Rule: R218. Reset: none. -/
  jobProg : Option (Sparse (BitVec 32)) := none
  /-- a further settings store starts once the one that runs is over. Width: 1 bit. Rule: R457. Reset: 0. -/
  settingsAgain : Bool := false
  /-- the TILE_UID seen at the last CONFIG_REFRESH. Width: 128 bits. Rule: R457. Reset: Settings; 0 until loaded. -/
  settingsUid : BitVec 128 := 0
  /-- BOOT found a valid copy of the settings area in use. Width: 1 bit. Rule: R459. Reset: 0. -/
  settingsOk : Bool := false
  /-- stores whose background erase of the next target runs. Width: list. Rule: R454. Reset: none. -/
  erasing : List StoreKind := []
  /-- NVM_FW.RUN_SLOT. Width: 1 bit. Rule: R474. Reset: Boot; slot 0 until BOOT has chosen. -/
  runSlot : Bool := false
  /-- NVM_FW.TRIAL. Width: 1 bit. Rule: R474. Reset: Boot; 0 until BOOT has chosen. -/
  trial : Bool := false
  /-- NVM_FW.MIGRATED. Width: 1 bit. Rule: R474. Reset: 0. -/
  migrated : Bool := false
  /-- the trial image rejected L's content or N's store failed. Width: 1 bit. Rule: R458. Reset: 0. -/
  migrateFailed : Bool := false
  /-- NVM_FW_VERSION. Width: 32 bits. Rule: R474. Reset: Boot; 0 until the image runs. -/
  version : BitVec 32 := 0
  /-- NVM_SETTINGS.FORMAT_USED. Width: 16 bits. Rule: R474. Reset: Boot; DESIGN CHOICE 1 until the image runs (log entry 5). -/
  formatUsed : Nat := 1
  /-- local time of entry to BOOT, from which the trial timer counts. Width: time. Rule: R467. Reset: 0. -/
  bootAt : Nat := 0
  /-- local time at which the engine first reached DARK since BOOT. Width: time. Rule: R466. Reset: not reached. -/
  darkAt : Option Nat := none
  /-- an S3 record has been created since BOOT. Width: 1 bit. Rule: R466. Reset: 0. -/
  s3Seen : Bool := false
  /-- a tagged write of CONFIRM has been accepted. Width: 1 bit. Rule: R466. Reset: 0. -/
  confirmAsked : Bool := false
  /-- AUTO_CONFIRM. Width: 1 bit. Rule: R474. Reset: 1. -/
  autoConfirm : Bool := true
  /-- CONFIRM_MIN. Width: 8 bits. Rule: R474. Reset: 0x0F. -/
  confirmMin : Nat := 15
  /-- HOLD_S. Width: 16 bits. Rule: R474. Reset: 0x003C. -/
  holdS : Nat := 60
  /-- the trial timer has expired and the ledger store before the reset runs. Width: 1 bit. Rule: R467. Reset: 0. -/
  fallbackDue : Bool := false
  /-- NVM_UPD_STATUS.PHASE. Width: 3 bits. Rule: R474. Reset: 0 IDLE. -/
  phase : UpdPhase := .idle
  /-- NVM_UPD_STATUS.CODE. Width: 8 bits. Rule: R474. Reset: 0. -/
  updCode : BitVec 8 := 0
  /-- NVM_UPD_STATUS.FRESH. Width: 1 bit. Rule: R474. Reset: 0. -/
  updFresh : Bool := false
  /-- NVM_UPD_NEXT. Width: 32 bits. Rule: R474. Reset: 0. -/
  nextOffset : BitVec 32 := 0
  /-- NVM_UPD_SEQ. Width: 32 bits. Rule: R474. Reset: 0. -/
  nextSeq : BitVec 32 := 0
  /-- the slot being staged. Width: 1 bit. Rule: R461. Reset: DESIGN CHOICE slot 0 (log entry 5). -/
  updTarget : Bool := false
  /-- NVM_UPD_DROP. Width: 16 bits, saturating. Rule: R474. Reset: 0. -/
  drops : Nat := 0
  /-- staged bytes that wait to be programmed. Width: at most 65,536 bytes. Rule: R462. Reset: 0. -/
  waiting : Nat := 0
  /-- local time up to which the programming of those bytes is reckoned. Width: time. Rule: R462. Reset: 0. -/
  progAt : Nat := 0
  /-- a Cairn write has been started. Width: 1 bit. Rule: R469. Reset: 0. -/
  cairnOpen : Bool := false
  /-- the words written since START. Width: 65,536 words. Rule: R469. Reset: DESIGN CHOICE empty (log entry 5). -/
  cairnBuf : Sparse (BitVec 32) := []
  /-- how many words have been written since START, further ones included. Width: 17 bits. Rule: R469. Reset: 0. -/
  cairnCount : Nat := 0
  /-- NVM_CAIRN_CRC. Width: 32 bits. Rule: R474. Reset: 0. -/
  cairnCrc : BitVec 32 := 0
  /-- NVM_CAIRN_PAL_n. Width: 9 codes. Rule: R474. Reset: Stored; 0 until BOOT has read the header. -/
  pal : List (BitVec 16) := List.replicate 9 0
  /-- NVM_CAIRN_STATUS.CODE. Width: 8 bits. Rule: R474. Reset: 0. -/
  cairnCode : BitVec 8 := 0
  /-- NVM_CAIRN_STATUS.VALID. Width: 1 bit. Rule: R474. Reset: 1. -/
  cairnValid : Bool := true
  /-- NVM_CAIRN_STATUS.FRESH. Width: 1 bit. Rule: R474. Reset: 0. -/
  cairnFresh : Bool := false
  /-- the renderer has a reload of the plane to do. Width: 1 bit. Rule: R470. Reset: 0. -/
  reload : Bool := false
  deriving DecidableEq, Repr

end Sys2Proof.Machine
end

