-- ==== Sys2Proof/Machine/State/Age.lean ====
section
/-!
DEFINITION. Sys2Proof/Machine/State/Age.lean: ageing, dose ledger and margins (chapter 6).
-/

namespace Sys2Proof.Machine

/-- The ageing model (R193, R194); the values at reset are the default model. -/
structure AgeModel where
  /-- T_REF. Width: signed 16 bits, 1/16 °C. Rule: R194. Reset: 25 °C. -/
  tRef : Int := 400
  /-- DOUBLE. Width: 16 bits, 1/16 °C. Rule: R194. Reset: 12 °C. -/
  dbl : Nat := 192
  /-- planned levels P of R, G, B. Width: 3 × 16 bits, Q15. Rule: R194. Reset: 0x6CCD. -/
  level : List Nat := [0x6CCD, 0x6CCD, 0x6CCD]
  /-- DOSE_H and ETA of each knot, per colour. Width: 3 × 16 knots. Rule: R194. Reset: (0 h, 0x8000) and (50,000 h, 0x599A) repeated. -/
  knots : List (List (Nat × Nat)) := List.replicate 3 ((0, 0x8000) :: List.replicate 15 (50000, 0x599A))
  deriving DecidableEq, Repr

/-- A dose sample whose pass runs (R181). -/
structure Sample where
  /-- the emitters that accrue: number 3·(1,024·y + x) + e, code used, level used. Width: emitters. Rule: R183. Reset: no pass. -/
  emit : List (Nat × Nat × Nat)
  /-- temperature weight of each zone. Width: 1,024 × 16 bits, Q4.12. Rule: R184. Reset: no pass. -/
  weights : List Nat
  /-- dt_us. Width: 32 bits. Rule: R182. Reset: no pass. -/
  dtUs : Nat
  /-- local time of the sampled flip. Width: µs. Rule: R182. Reset: no pass. -/
  atUs : Nat
  deriving DecidableEq, Repr

/-- An entry of the history (R201). -/
structure HistEntry where
  /-- OP_HOURS. Width: 32 bits. Rule: R201. Reset: empty. -/
  hours : Nat
  /-- floors R, G, B. Width: 3 × 16 bits, Q15. Rule: R201. Reset: empty. -/
  floors : List Nat
  deriving DecidableEq, Repr

/-- Ageing, dose ledger and margins (R180 to R209). The ledger itself lies in DRAM and in the tile flash. -/
structure Age where
  /-- LEDGER_EN. Width: 1 bit. Rule: R209. Reset: 1. -/
  ledgerEn : Bool := true
  /-- PLAN_EN. Width: 1 bit. Rule: R209. Reset: 1. -/
  planEn : Bool := true
  /-- AVS_EN. Width: 1 bit. Rule: R209. Reset: 1. -/
  avsEn : Bool := true
  /-- AGE_STORE_STATUS.CODE. Width: 8 bits. Rule: R209. Reset: 0. -/
  code : BitVec 8 := 0
  /-- HALF loaded or last stored, true for B. Width: 1 bit. Rule: R209. Reset: 0. -/
  half : Bool := false
  /-- BUSY. Width: 1 bit. Rule: R209. Reset: 0. -/
  busy : Bool := false
  /-- FRESH. Width: 1 bit. Rule: R209. Reset: 0. -/
  fresh : Bool := false
  /-- step 2 of the store runs, its erase being done. Width: 1 bit. Rule: R186. Reset: 0. -/
  copying : Bool := false
  /-- the target half is erased. Width: 1 bit. Rule: R186. Reset: DESIGN CHOICE 0 (log entry 3). -/
  erased : Bool := false
  /-- pixels whose doses the running store has copied, in pixel order. Width: 21 bits. Rule: R186. Reset: 0. -/
  copyPos : Nat := 0
  /-- doses as the store copied them, of emitters changed since. Width: emitters × 48 bits. Rule: R186. Reset: none. -/
  copyOld : Sparse (BitVec 48) := []
  /-- OP_SECONDS at the start of the store. Width: 64 bits. Rule: R189. Reset: no store. -/
  storeOpS : Nat := 0
  /-- the last store failed and the next is due 5 min later. Width: 1 bit. Rule: R188. Reset: 0. -/
  retry : Bool := false
  /-- a restart waits for the store. Width: 1 bit. Rule: R251. Reset: 0. -/
  forRestart : Bool := false
  /-- AGE_GEN. Width: 32 bits. Rule: R209. Reset: 0. -/
  gen : BitVec 32 := 0
  /-- half B holds the newest valid generation. Width: 1 bit. Rule: R190. Reset: DESIGN CHOICE half A (log entry 3). -/
  newestB : Bool := false
  /-- some half is valid. Width: 1 bit. Rule: R190. Reset: 0. -/
  anyValid : Bool := false
  /-- operating seconds of the ledger at entry to JOIN. Width: seconds. Rule: R209. Reset: 0. -/
  opBase : Nat := 0
  /-- local time of entry to JOIN, from which operating time counts. Width: time. Rule: R186. Reset: not reached. -/
  joinAt : Option Nat := none
  /-- PASS_COUNT. Width: 32 bits. Rule: R189. Reset: 0. -/
  passCount : BitVec 32 := 0
  /-- AGE_PASS.SAMPLES. Width: 16 bits, saturating. Rule: R209. Reset: 0. -/
  samples : Nat := 0
  /-- AGE_PASS.SKIPPED. Width: 16 bits, saturating. Rule: R209. Reset: 0. -/
  skipped : Nat := 0
  /-- the sample whose pass runs. Width: 1 sample. Rule: R181. Reset: none. -/
  sample : Option Sample := none
  /-- local time of the last applied sample, or of the first sample since BOOT. Width: µs. Rule: R182. Reset: none. -/
  lastSampleUs : Option Nat := none
  /-- the 8 frame periods that the first sample counts, until one has been applied. Width: µs. Rule: R182. Reset: 0. -/
  firstUs : Nat := 0
  /-- compensation of each emitter since the last rewrite, emitter e of pixel (x, y) at 3·(1,024·y + x) + e. Width: 3,145,728 × 16 bits, Q15. Rule: R196. Reset: 0x8000. -/
  comp : Sparse (BitVec 16) := []
  /-- MODEL_OK. Width: 1 bit. Rule: R209. Reset: 0. -/
  modelOk : Bool := false
  /-- LEDGER_OK. Width: 1 bit. Rule: R209. Reset: 0. -/
  ledgerOk : Bool := false
  /-- the ageing model in use. Width: 1 model. Rule: R194. Reset: the default model (T_REF_C 0x19, DOUBLE_C 0x0C). -/
  model : AgeModel := {}
  /-- level overrides of R, G, B, 0 for none. Width: 3 × 16 bits. Rule: R200. Reset: Model: no override until loaded. -/
  ovr : List Nat := [0, 0, 0]
  /-- EXCLUDE. Width: 12 bits. Rule: R209. Reset: 0. -/
  exclude : Nat := 0
  /-- applied floors of R, G, B. Width: 3 × 16 bits. Rule: R209. Reset: 0x8000. -/
  applied : List Nat := [0x8000, 0x8000, 0x8000]
  /-- floors computed at the last pass. Width: 3 × 16 bits. Rule: R196. Reset: 0x8000. -/
  computed : List Nat := [0x8000, 0x8000, 0x8000]
  /-- RES factors of the pass whose rewrite runs. Width: 3 × 16 bits. Rule: R197. Reset: none. -/
  resNext : Option (List Nat) := none
  /-- the local counter at the plan pass whose rewrite runs. Width: 64 bits. Rule: R197. Reset: 0. -/
  rewriteAt : Nat := 0
  /-- records that the rewrite has done, in pixel order. Width: 21 bits. Rule: R197. Reset: 0. -/
  rewritePos : Nat := 0
  /-- RES factors that await the next take point. Width: 3 × 16 bits. Rule: R197. Reset: none. -/
  resReady : Option (List Nat) := none
  /-- HOURS of each colour. Width: 3 × 20 bits. Rule: R209. Reset: 0xFFFFF. -/
  horizon : List Nat := [0xFFFFF, 0xFFFFF, 0xFFFFF]
  /-- VALID of each colour. Width: 3 × 1 bit. Rule: R209. Reset: 0. -/
  horizonOk : List Bool := [false, false, false]
  /-- EXHAUSTED. Width: 3 bits. Rule: R209. Reset: 0. -/
  exhausted : BitVec 3 := 0
  /-- LOW. Width: 1 bit. Rule: R209. Reset: 0. -/
  low : Bool := false
  /-- RESERVE_MIN. Width: 16 bits. Rule: R209. Reset: 0. -/
  reserveMin : Nat := 0
  /-- the history, oldest first. Width: at most 192 entries. Rule: R201. Reset: empty. -/
  history : List HistEntry := []
  /-- PMBUS_ADDR. Width: 7 bits. Rule: R209. Reset: 0x40. -/
  avsAddr : Nat := 0x40
  /-- VOUT_EXP_NEG. Width: 4 bits. Rule: R209. Reset: 0x9. -/
  avsExp : Nat := 9
  /-- VCORE_MV. Width: 12 bits. Rule: R209. Reset: 0x2EE. -/
  vcoreMv : Nat := 750
  /-- the latest VOUT_COMMAND value sent. Width: 16 bits. Rule: R203. Reset: none sent. -/
  vcoreCmd : Option (BitVec 16) := none
  /-- the bytes of that transaction on the PMBus, in order. Width: 5 bytes. Rule: R203. Reset: none sent. -/
  pmbus : List (BitVec 8) := []
  /-- VMIN_MV. Width: 12 bits. Rule: R209. Reset: 0x2BC. -/
  avsVmin : Nat := 700
  /-- VMAX_MV. Width: 12 bits. Rule: R209. Reset: 0x352. -/
  avsVmax : Nat := 850
  /-- the evaluations of the last second: local time, least slack in ps and its replica, newest first. Width: evaluations. Rule: R209. Reset: none: MIN_PS and WORST read 0. -/
  slacks : List (Nat × Nat × Nat) := []
  /-- STEPS_UP. Width: 16 bits, saturating. Rule: R209. Reset: 0. -/
  stepsUp : Nat := 0
  /-- AVS_MISMATCH: nothing more is written until BOOT. Width: 1 bit. Rule: R203. Reset: 0. -/
  avsDead : Bool := false
  /-- local time since which the least slack has been at least 100 ps. Width: time. Rule: R202. Reset: none. -/
  slackSince : Option Nat := none
  /-- timing set in force. Width: 1 bit. Rule: R209. Reset: 0. -/
  memSet : Bool := false
  /-- NEXT_SET; it outlives a reset, as the next BOOT trains with it. Width: 1 bit. Rule: R209. Reset: 0. -/
  nextSet : Bool := false
  /-- read eye of each byte lane, 1/256 UI. Width: 4 × 8 bits. Rule: R204. Reset: none measured: EYE_MIN reads 0. -/
  readEyes : List Nat := []
  /-- write eye of each byte lane, 1/256 UI, as BOOT trained it. Width: 4 × 8 bits. Rule: R204. Reset: none measured. -/
  writeEyes : List Nat := []
  /-- START_A. Width: 2 bits. Rule: R209. Reset: 0. -/
  startA : Nat := 0
  /-- START_B. Width: 2 bits. Rule: R209. Reset: 0. -/
  startB : Nat := 0
  /-- WIDTH_MIN_A. Width: 8 bits. Rule: R209. Reset: 0. -/
  laneA : Nat := 0
  /-- WIDTH_MIN_B. Width: 8 bits. Rule: R209. Reset: 0. -/
  laneB : Nat := 0
  /-- REFRESHED. Width: 16 bits, saturating. Rule: R209. Reset: 0. -/
  refreshed : Nat := 0
  /-- INTERVAL_H. Width: 8 bits. Rule: R209. Reset: 0x18. -/
  intervalH : Nat := 24
  /-- pages refreshed since the last self-ageing record. Width: 16 bits. Rule: R207. Reset: 0. -/
  refreshedRec : Nat := 0
  /-- ledger bursts in DRAM that the ECC cannot correct and that no read has found yet (R185). Width: indices. Rule: the model’s own field. Reset: none. -/
  upset : List Nat := []
  /-- DQS tracking runs made since BOOT. Width: count. Rule: the model’s own field. Reset: 0. -/
  dqsRuns : Nat := 0
  deriving DecidableEq, Repr

end Sys2Proof.Machine
end

