-- ==== Sys2Proof/Machine/State/Comp.lean ====
section
/-!
DEFINITION. Sys2Proof/Machine/State/Comp.lean: layers and composition (chapter 2).
-/

namespace Sys2Proof.Machine

/-- Who issued a COMMIT or a take request, and therefore who gets its result (R54, R75). -/
inductive Issuer where
  | register
  | thread (t : Fin 8) (rd : Fin 16)
  | command (port : CmdPort) (src : BitVec 12) (cmdId : BitVec 16) (session : BitVec 64)
  deriving DecidableEq, Repr

/-- LSTATE of a layer (R34), in the order of its codes. -/
inductive LState where
  | off | showing | holding | transparent
  deriving DecidableEq, Repr

/-- The eight words of a layer's shadow or active descriptor (R34), reserved bits zero. -/
structure LayerWords where
  /-- offset 0x00. Width: 32 bits. Rule: R34. Reset: CADENCE 1, N_HOLD 3, the rest 0. -/
  w0 : BitVec 32 := 0x00003100
  /-- offset 0x04. Width: 32 bits. Rule: R34. Reset: 0. -/
  w1 : BitVec 32 := 0
  /-- offset 0x08. Width: 32 bits. Rule: R34. Reset: 0. -/
  w2 : BitVec 32 := 0
  /-- offset 0x0C. Width: 32 bits. Rule: R34. Reset: 0. -/
  w3 : BitVec 32 := 0
  /-- offset 0x10. Width: 32 bits. Rule: R34. Reset: 0. -/
  w4 : BitVec 32 := 0
  /-- offset 0x14. Width: 32 bits. Rule: R34. Reset: 0. -/
  w5 : BitVec 32 := 0
  /-- offset 0x18. Width: 32 bits. Rule: R34. Reset: 0. -/
  w6 : BitVec 32 := 0
  /-- offset 0x1C. Width: 32 bits. Rule: R34. Reset: GLOBAL_ALPHA 0x3FF. -/
  w7 : BitVec 32 := 0x3FF
  deriving DecidableEq, Repr

/-- One layer (R34, R49). -/
structure Layer where
  /-- shadow part. Width: 8 words. Rule: R34. Reset: see LayerWords. -/
  shadow : LayerWords := {}
  /-- active part. Width: 8 words. Rule: R34. Reset: see LayerWords. -/
  active : LayerWords := {}
  /-- LSTATE. Width: 2 bits. Rule: R34. Reset: 0 OFF. -/
  lstate : LState := .off
  /-- SHOWN_BUF. Width: 2 bits. Rule: R34. Reset: 0. -/
  shownBuf : Nat := 0
  /-- the layer has a shown frame. Width: 1 bit. Rule: R50. Reset: 0. -/
  shownValid : Bool := false
  /-- SHOWN_SEQ. Width: 32 bits. Rule: R34. Reset: 0. -/
  shownSeq : BitVec 32 := 0
  /-- HOLD_COUNT. Width: 4 bits. Rule: R34. Reset: 0. -/
  hold : Nat := 0
  /-- SINCE. Width: 4 bits, saturating. Rule: R34. Reset: 0. -/
  since : Nat := 0
  /-- CULLED. Width: 1 bit. Rule: R34. Reset: 0. -/
  culled : Bool := false
  /-- LATE. Width: 1 bit. Rule: R34. Reset: 0. -/
  late : Bool := false
  /-- LATE_TOTAL. Width: 16 bits, saturating. Rule: R34. Reset: 0. -/
  lateTotal : Nat := 0
  /-- COST_MBPS. Width: 16 bits. Rule: R34. Reset: 0. -/
  costMbps : Nat := 0
  /-- COST_PX. Width: 16 bits. Rule: R34. Reset: 0. -/
  costPx : Nat := 0
  deriving DecidableEq, Repr

/-- A COMMIT that is being admitted or waits (R54, R55). -/
structure CommitReq where
  /-- LAYER_MASK. Width: 16 bits. Rule: R54. Reset: none waits. -/
  mask : BitVec 16
  /-- GLOBALS. Width: 1 bit. Rule: R54. Reset: none waits. -/
  globals : Bool
  /-- TOKEN. Width: 8 bits. Rule: R54. Reset: none waits. -/
  token : BitVec 8
  /-- who gets the result. Width: issuer. Rule: R54. Reset: none waits. -/
  by_ : Issuer
  deriving DecidableEq, Repr

/-- What admission snapshots when it starts (R57). -/
structure CommitSnap where
  /-- the shadow parts. Width: 16 descriptors. Rule: R57. Reset: none. -/
  layers : List LayerWords
  /-- COMP_BG. Width: 32 bits. Rule: R57. Reset: none. -/
  bg : BitVec 32
  /-- COMP_CONF. Width: 32 bits. Rule: R57. Reset: none. -/
  conf : BitVec 32
  deriving DecidableEq, Repr

/-- The pending configuration (R57). -/
structure PendingCfg where
  /-- the candidate descriptors. Width: 16 descriptors. Rule: R57. Reset: none pending. -/
  layers : List LayerWords
  /-- layers named by the commits that landed. Width: 16 bits. Rule: R57. Reset: none pending. -/
  mask : BitVec 16
  /-- COMP_BG and COMP_CONF when a commit took them. Width: 2 words. Rule: R54. Reset: none pending. -/
  globals : Option (BitVec 32 × BitVec 32)
  deriving DecidableEq, Repr

/-- A timing mode (R60). -/
structure Mode where
  /-- numerator of the frame rate in Hz. Width: 32 bits. Rule: R235. Reset: 60. -/
  num : Nat
  /-- denominator of the frame rate. Width: 32 bits. Rule: R235. Reset: 1. -/
  den : Nat
  /-- SEG argument. Width: 24 bits. Rule: R174. Reset: 0x00_0515. -/
  seg : BitVec 24
  /-- dither depth D. Width: 5 bits. Rule: R99. Reset: 16. -/
  depth : Nat
  /-- vertical blanking in µs. Width: 16 bits. Rule: R60. Reset: 200. -/
  vblankUs : Nat
  /-- target flip number, low 32 bits, 0 for the next take point. Width: 32 bits. Rule: R235. Reset: no mode pending. -/
  target : BitVec 32
  deriving DecidableEq, Repr

/-- The composer (R30 to R71). -/
structure Comp where
  /-- COMP_BG, shadow. Width: 32 bits. Rule: R71. Reset: 0. -/
  bg : BitVec 32 := 0
  /-- COMP_CONF, shadow. Width: 32 bits. Rule: R71. Reset: CONF_HZ 0x0A. -/
  conf : BitVec 32 := 0x0A
  /-- COMP_BG in force. Width: 32 bits. Rule: R54. Reset: 0. -/
  bgActive : BitVec 32 := 0
  /-- COMP_CONF in force. Width: 32 bits. Rule: R54. Reset: CONF_HZ 0x0A. -/
  confActive : BitVec 32 := 0x0A
  /-- VBLANK_US. Width: 16 bits. Rule: R71. Reset: 0x00C8. -/
  vblankUs : Nat := 200
  /-- VBLANK_ACTIVE. Width: 16 bits. Rule: R71. Reset: 0x00C8. -/
  vblankActive : Nat := 200
  /-- the layers. Width: 16 layers. Rule: R34. Reset: see Layer. -/
  layers : List Layer := List.replicate 16 {}
  /-- the layers as composed in the frame that the next flip latches. Width: 16 layers. Rule: R366. Reset: see Layer. -/
  toLatch : List Layer := List.replicate 16 {}
  /-- the layers as composed in the frame of the back buffer. Width: 16 layers. Rule: R366. Reset: see Layer. -/
  inBack : List Layer := List.replicate 16 {}
  /-- the pending configuration. Width: 1 configuration. Rule: R57. Reset: none. -/
  pending : Option PendingCfg := none
  /-- the snapshot of the commit being admitted. Width: 1 snapshot. Rule: R57. Reset: none. -/
  admitting : Option CommitSnap := none
  /-- the commit being admitted and those that wait behind it. Width: at most 5. Rule: R55. Reset: empty. -/
  queue : List CommitReq := []
  /-- COMP_COMMIT_STATUS.CODE. Width: 8 bits. Rule: R71. Reset: 0. -/
  resCode : BitVec 8 := 0
  /-- LAYER. Width: 4 bits. Rule: R71. Reset: 0. -/
  resLayer : Nat := 0
  /-- DETAIL. Width: 4 bits. Rule: R71. Reset: 0. -/
  resDetail : Nat := 0
  /-- TOKEN. Width: 8 bits. Rule: R71. Reset: 0. -/
  resToken : BitVec 8 := 0
  /-- FRESH. Width: 1 bit. Rule: R59. Reset: 0. -/
  resFresh : Bool := false
  /-- ACTIVE_MBPS: the admitted layer cost of the active configuration in MB/s, rounded up. Width: 16 bits. Rule: R71. Reset: 0. -/
  activeMbps : Nat := 0
  /-- ACTIVE_PX: its pixel cost in units of 4,096 px, rounded up. Width: 16 bits. Rule: R71. Reset: 0. -/
  activePx : Nat := 0
  /-- layers that the admitted cost counted as opaque. Width: 16 bits. Rule: R68. Reset: 0. -/
  countedOpaque : BitVec 16 := 0
  /-- the recomputed cost did not fit: uncovered areas show the background. Width: 1 bit. Rule: R68. Reset: 0. -/
  uncovered : Bool := false
  /-- TAKE_COUNT. Width: 32 bits. Rule: R71. Reset: 0. -/
  takeCount : BitVec 32 := 0
  /-- COMP_LAND_DROP.DROPS. Width: 16 bits, saturating. Rule: R71. Reset: 0. -/
  drops : Nat := 0
  /-- LAST_CTX. Width: 8 bits. Rule: R71. Reset: 0. -/
  lastCtx : Nat := 0
  /-- numerator of the frame rate in force, in Hz. Width: 32 bits. Rule: R60. Reset: DESIGN CHOICE 60 (log entry 6). -/
  num : Nat := 60
  /-- denominator of the frame rate in force. Width: 32 bits. Rule: R60. Reset: DESIGN CHOICE 1 (log entry 6). -/
  den : Nat := 1
  /-- the pending mode change. Width: 1 mode. Rule: R60. Reset: none. -/
  pendingMode : Option Mode := none
  /-- 1 from the take point of F to flip F, 2 from F to F′. Width: 2 bits. Rule: R63. Reset: 0, no rate change. -/
  rateStep : Nat := 0
  /-- NUM of the frame rate that a rate change leaves. Width: count. Rule: R63. Reset: 1, no rate change. -/
  wasNum : Nat := 1
  /-- DEN of the frame rate that a rate change leaves. Width: count. Rule: R63. Reset: 0, no rate change. -/
  wasDen : Nat := 0
  /-- number, at that rate, of the flip F at which the frame rate changes. Width: count. Rule: R63. Reset: 0, no rate change. -/
  rateFlip : Nat := 0
  /-- number of the latest flip reached. Width: 64 bits. Rule: R319. Reset: 0. -/
  lastFlip : Nat := 0
  /-- number of the flip whose take point was reached last. Width: 64 bits. Rule: R21. Reset: 0. -/
  lastTake : Nat := 0
  /-- instant, in ns of W, of the latest flip that fired since W became valid. Width: 64 bits. Rule: R333. Reset: none. -/
  lastFlipNs : Option Nat := none
  /-- the same of the latest take point. Width: 64 bits. Rule: R333. Reset: none. -/
  lastTakeNs : Option Nat := none
  /-- the same of the first flip that fired since W became valid. Width: 64 bits. Rule: R333. Reset: none. -/
  firstFlipNs : Option Nat := none
  /-- the same of the first take point. Width: 64 bits. Rule: R333. Reset: none. -/
  firstTakeNs : Option Nat := none
  /-- instants of W from the first to the latest flip that fired each time W was valid before. Width: spans. Rule: R333. Reset: none. -/
  flipSpans : List (Nat × Nat) := []
  /-- the same of take points. Width: spans. Rule: R333. Reset: none. -/
  takeSpans : List (Nat × Nat) := []
  /-- instant, in ns of W, of the flip whose take point was reached last. Width: 64 bits. Rule: R335. Reset: 0. -/
  takenFlipNs : Nat := 0
  /-- a frame is being composed. Width: 1 bit. Rule: R18. Reset: 0. -/
  composing : Bool := false
  /-- bands that the composer has composed of that frame, 0 to 256. Width: 9 bits. Rule: R106. Reset: 0. -/
  composed : Nat := 0
  /-- bands of the frame being composed that are in the back buffer, 0 to 256. Width: 9 bits. Rule: R74. Reset: 0. -/
  bands : Nat := 0
  /-- the frame of the back buffer was begun at a take point in LIT, so its codes are latched. Width: 1 bit. Rule: R131. Reset: 0. -/
  litFrame : Bool := false
  /-- the fenced composer passes COMP_BG, until the first take point after the fence is lifted. Width: 1 bit. Rule: R417. Reset: 0. -/
  bgOnly : Bool := false
  /-- X of the own tile-map entry at the last take point. Width: 20 bits. Rule: R100. Reset: 0. -/
  tileX : Nat := 0
  /-- Y likewise. Width: 20 bits. Rule: R100. Reset: 0. -/
  tileY : Nat := 0
  /-- ROT likewise. Width: 2 bits. Rule: R100. Reset: 0. -/
  tileRot : Nat := 0
  /-- the frame being composed is an N-th one, and is sent upstream as it is composed. Width: 1 bit. Rule: R69. Reset: 0. -/
  confOn : Bool := false
  /-- reduced rows that wait for their CONFIDENCE frame, the top row first. Width: up to 4 rows of 768 B. Rule: R69. Reset: empty. -/
  confRows : List (List (BitVec 8)) := []
  /-- number, on the local counter, of the latest flip sampled while SSG is in force. Width: 64 bits. Rule: R183. Reset: 0. -/
  localFlip : Nat := 0
  /-- a frame rate is in force: a take point has been reached since reset. Width: 1 bit. Rule: R71. Reset: 0. -/
  rateSet : Bool := false
  /-- flips counted toward the next confidence frame. Width: count. Rule: R69. Reset: 0. -/
  confCount : Nat := 0
  /-- confidence frames sent since BOOT. Width: count. Rule: the model’s own field. Reset: 0. -/
  confSent : Nat := 0
  deriving DecidableEq, Repr

end Sys2Proof.Machine
end

