-- ==== Sys2Proof/Machine/State/Colour.lean ====
section
/-!
DEFINITION. Sys2Proof/Machine/State/Colour.lean: colour, calibration and dimming codes (chapter 3).
-/

namespace Sys2Proof.Machine

/-- The COLOUR group of double-buffered settings (R75). -/
structure ColourGroup where
  /-- COL_TF.TF. Width: 3 bits. Rule: R116. Reset: 0x1. -/
  tf : Nat := 1
  /-- COL_TF.RANGE. Width: 1 bit. Rule: R116. Reset: 0. -/
  narrow : Bool := false
  /-- COL_PEAK.PEAK_REF. Width: 16 bits. Rule: R116. Reset: RATED_WHITE: the fallback 500 until BOOT has loaded the identity. -/
  peakRef : Nat := 500
  /-- COL_GAMUT_SRC.SRC. Width: 2 bits. Rule: R116. Reset: 0x1. -/
  src : Nat := 1
  /-- COL_GAMUT_0 to _8. Width: 9 × 18 bits. Rule: R116. Reset: Identity: the identity matrix. -/
  coef : List (BitVec 18) := [0x10000, 0, 0, 0, 0x10000, 0, 0, 0, 0x10000]
  /-- COL_YW_R, _G, _B. Width: 3 × 16 bits. Rule: R116. Reset: Identity: the fallback weights until loaded. -/
  yw : List Nat := [13933, 46871, 4732]
  /-- COL_DITHER.MODE. Width: 2 bits. Rule: R116. Reset: 0x2. -/
  dither : Nat := 2
  /-- the custom transfer table. Width: 4,096 × 20 bits. Rule: R116. Reset: 0. -/
  custom : Sparse (BitVec 20) := []
  deriving DecidableEq, Repr

/-- A COLOUR group as landed, with what the landing computed (R80, R81, R84). -/
structure ActiveColour where
  /-- the settings. Width: 1 group. Rule: R75. Reset: see ColourGroup. -/
  grp : ColourGroup := {}
  /-- gamut matrix. Width: 9 × signed 18 bits. Rule: R83. Reset: the identity matrix until BOOT has formed G. -/
  g : List Int := [0x10000, 0, 0, 0, 0x10000, 0, 0, 0, 0x10000]
  /-- HLG_GAMMA. Width: 16 bits. Rule: R116. Reset: 0x1333. -/
  gamma : Nat := 0x1333
  deriving DecidableEq, Repr

/-- An ENV or COLOUR landing that runs (R75). -/
structure Landing where
  /-- snapshot of the ENV group. Width: 1,024 caps. Rule: R75. Reset: none runs. -/
  env : Option (Sparse (BitVec 16))
  /-- snapshot of the COLOUR group. Width: 1 group. Rule: R75. Reset: none runs. -/
  colour : Option ColourGroup
  /-- TOKEN. Width: 8 bits. Rule: R75. Reset: none runs. -/
  token : BitVec 8
  /-- who gets the result. Width: issuer. Rule: R75. Reset: none runs. -/
  by_ : Issuer
  deriving DecidableEq, Repr

/-- The tile identity fields in force (R108, R115). -/
structure Identity where
  /-- TILE_UID. Width: 128 bits. Rule: R108. Reset: DESIGN CHOICE 0 until read (log entry 3). -/
  uid : BitVec 128 := 0
  /-- PRIM_RX to WHITE_Y. Width: 8 × 16 bits. Rule: R108. Reset: BT.709 primaries and D65 until read. -/
  prims : List Nat := [41943, 21627, 19661, 39322, 9830, 3932, 20493, 21561]
  /-- YW_R, YW_G, YW_B. Width: 3 × 16 bits. Rule: R108. Reset: the fallback weights until read. -/
  yw : List Nat := [13933, 46871, 4732]
  /-- RATED_WHITE. Width: 16 bits. Rule: R108. Reset: 500 until read. -/
  ratedWhite : Nat := 500
  /-- CAL_DRIVE_R, _G, _B. Width: 3 × 10 bits. Rule: R108. Reset: 0 until read. -/
  calDrive : List Nat := [0, 0, 0]
  deriving DecidableEq, Repr

/-- A user-calibration update (R96, R97, R235). -/
structure CalReq where
  /-- first column. Width: 10 bits. Rule: R235. Reset: none waits. -/
  x : Nat
  /-- first line. Width: 10 bits. Rule: R235. Reset: none waits. -/
  y : Nat
  /-- width. Width: 11 bits. Rule: R235. Reset: none waits. -/
  w : Nat
  /-- height. Width: 11 bits. Rule: R235. Reset: none waits. -/
  h : Nat
  /-- ADD instead of SET. Width: 1 bit. Rule: R96. Reset: none waits. -/
  add : Bool
  /-- sets the user fence. Width: 1 bit. Rule: R96. Reset: none waits. -/
  fence : Bool
  /-- clears the user fence. Width: 1 bit. Rule: R96. Reset: none waits. -/
  unfence : Bool
  /-- the deltas of R, G, B. Width: 3 × signed 6 bits. Rule: R96. Reset: none waits. -/
  ug : List Int
  deriving DecidableEq, Repr

/-- The colour pipeline and the calibration data (R72 to R116). -/
structure Col where
  /-- COLOUR shadow registers. Width: 1 group. Rule: R75. Reset: see ColourGroup. -/
  shadow : ColourGroup := {}
  /-- the landed COLOUR take that awaits its take point. Width: 1 group. Rule: R75. Reset: none. -/
  pending : Option ActiveColour := none
  /-- the COLOUR group in force. Width: 1 group. Rule: R75. Reset: see ActiveColour. -/
  active : ActiveColour := {}
  /-- envelope shadow table. Width: 1,024 × 16 bits. Rule: R116. Reset: 0xFFFF. -/
  envShadow : Sparse (BitVec 16) := []
  /-- the landed ENV take that awaits its take point. Width: 1,024 × 16 bits. Rule: R75. Reset: none. -/
  envPending : Option (Sparse (BitVec 16)) := none
  /-- active envelope table. Width: 1,024 × 16 bits. Rule: R114. Reset: 0xFFFF. -/
  envActive : Sparse (BitVec 16) := []
  /-- lowest cap of the active table, tracked at each take. Width: 16 bits. Rule: R91. Reset: 0xFFFF. -/
  envLowest : Nat := 0xFFFF
  /-- zones whose cap failed parity since the last ENV take. Width: zones. Rule: R91. Reset: none. -/
  envBad : List Nat := []
  /-- the landings that run. Width: at most 2. Rule: R75. Reset: none. -/
  landings : List Landing := []
  /-- COL_TAKE_STATUS.CODE. Width: 8 bits. Rule: R116. Reset: 0. -/
  resCode : BitVec 8 := 0
  /-- COL_TAKE_STATUS.TOKEN. Width: 8 bits. Rule: R116. Reset: 0. -/
  resToken : BitVec 8 := 0
  /-- COL_TAKE_STATUS.FRESH. Width: 1 bit. Rule: R116. Reset: 0. -/
  resFresh : Bool := false
  /-- RES_R, RES_G, RES_B in force. Width: 3 × 16 bits. Rule: R116. Reset: 0x8000. -/
  res : List Nat := [0x8000, 0x8000, 0x8000]
  /-- FILL_CAP. Width: 16 bits. Rule: R116. Reset: 0xFFFF. -/
  fillCap : BitVec 16 := 0xFFFF
  /-- LIMIT. Width: 16 bits. Rule: R116. Reset: Settings; 0xFFFF until loaded. -/
  limit : Nat := 0xFFFF
  /-- LIMIT_ACTIVE. Width: 16 bits. Rule: R116. Reset: Settings; 0xFFFF until loaded. -/
  limitActive : Nat := 0xFFFF
  /-- ZONES_CAPPED. Width: 11 bits. Rule: R116. Reset: 0. -/
  zonesCapped : Nat := 0
  /-- zones that capped in the frame being composed. Width: zones. Rule: R86. Reset: none. -/
  zonesNow : List Nat := []
  /-- PARITY_ERRORS. Width: 16 bits, saturating. Rule: R116. Reset: 0. -/
  parityErrors : Nat := 0
  /-- GAMUT_CLIPS. Width: 16 bits, saturating. Rule: R116. Reset: 0. -/
  gamutClips : Nat := 0
  /-- DRIVE_CLIPS. Width: 16 bits, saturating. Rule: R116. Reset: 0. -/
  driveClips : Nat := 0
  /-- REC_ERRORS. Width: 16 bits, saturating. Rule: R116. Reset: 0. -/
  recErrors : Nat := 0
  /-- DEPTH_ACTIVE. Width: 5 bits. Rule: R116. Reset: 0x10. -/
  depth : Nat := 16
  /-- FRONT, true for buffer 1. Width: 1 bit. Rule: R116. Reset: 0. -/
  front : Bool := false
  /-- the zero frame of a fenced pipeline is in the back buffer and not yet latched in every ring. Width: 1 bit. Rule: R105. Reset: 0. -/
  zeroed : Bool := false
  /-- the pipeline writes no codes: fenced, or not yet at a take point since the fence was lifted. Width: 1 bit. Rule: R105. Reset: 0. -/
  halted : Bool := false
  /-- the tile identity in force. Width: 1 identity. Rule: R108. Reset: see Identity. -/
  ident : Identity := {}
  /-- MAGIC and FORMAT of the tile identity are correct. Width: 1 bit. Rule: R115. Reset: 0. -/
  identOk : Bool := false
  /-- FACTORY_OK. Width: 1 bit. Rule: R116. Reset: 0. -/
  factoryOk : Bool := false
  /-- USER_OK. Width: 1 bit. Rule: R116. Reset: 0. -/
  userOk : Bool := false
  /-- USER_HALF, true for B. Width: 1 bit. Rule: R116. Reset: 0. -/
  userHalf : Bool := false
  /-- newest valid generation of the user halves. Width: 32 bits. Rule: R112. Reset: 0, none valid. -/
  userGen : BitVec 32 := 0
  /-- some user half is valid. Width: 1 bit. Rule: R112. Reset: 0. -/
  userAny : Bool := false
  /-- SETTINGS_EPOCH of the user half loaded. Width: 32 bits. Rule: R459. Reset: 0. -/
  userEpoch : BitVec 32 := 0
  /-- IDLE_OK. Width: 1 bit. Rule: R116. Reset: 0. -/
  idleOk : Bool := false
  /-- a user-calibration store runs. Width: 1 bit. Rule: R111. Reset: 0. -/
  userStore : Bool := false
  /-- pixels that the running store has copied, in pixel order. Width: 21 bits. Rule: R111. Reset: 0. -/
  storePos : Nat := 0
  /-- user fields as the store copied them, of pixels changed since. Width: pixels × 24 bits. Rule: R111. Reset: none. -/
  storeOld : Sparse (BitVec 24) := []
  /-- the working records have been loaded since the reset. Width: 1 bit. Rule: R114. Reset: 0. -/
  calLoaded : Bool := false
  /-- CAL updates that await their take point or run. Width: list. Rule: R97. Reset: empty. -/
  calQueue : List CalReq := []
  /-- the oldest of them runs. Width: 1 bit. Rule: R97. Reset: 0. -/
  calRunning : Bool := false
  /-- the local counter at the take point where it started. Width: 64 bits. Rule: R97. Reset: 0. -/
  calAt : Nat := 0
  /-- records that it has rewritten, in pixel order. Width: 21 bits. Rule: R97. Reset: 0. -/
  calPos : Nat := 0
  /-- 64 B bursts of working records to rebuild before the next take point. Width: burst numbers. Rule: R98. Reset: none. -/
  rebuild : List Nat := []
  /-- pixels with a user fence, ascending. Width: pixels. Rule: R96. Reset: none. -/
  userFence : List Nat := []
  /-- pixels with a run-time fence, ascending. Width: pixels. Rule: R146. Reset: none. -/
  rtFence : List Nat := []
  deriving DecidableEq, Repr

end Sys2Proof.Machine
end

