-- ==== Sys2Proof/Machine/State/Commands.lean ====
section
/-!
DEFINITION. Sys2Proof/Machine/State/Commands.lean: commands and ports (chapter 8), per-source selectors and snapshots (chapter 19).
-/

namespace Sys2Proof.Machine

/-- One of the last 16 commands accepted for execution (R247). -/
structure Recent where
  /-- port of arrival. Width: 2 bits. Rule: R247. Reset: none. -/
  port : CmdPort
  /-- SRC; 0 on the service port. Width: 12 bits. Rule: R247. Reset: none. -/
  src : BitVec 12
  /-- CMD_ID. Width: 16 bits. Rule: R247. Reset: none. -/
  cmdId : BitVec 16
  /-- local time of its first arrival. Width: time. Rule: R247. Reset: none. -/
  at_ : Nat
  /-- its SESSION field. Width: 64 bits. Rule: R354. Reset: none. -/
  session : BitVec 64
  /-- the stored reply, none while it executes. Width: bytes. Rule: R247. Reset: none. -/
  reply : Option (List (BitVec 8))
  deriving DecidableEq, Repr

/-- A command accepted and not yet replied to (R249). -/
structure OutCmd where
  /-- port of arrival. Width: 2 bits. Rule: R249. Reset: none. -/
  port : CmdPort
  /-- SRC. Width: 12 bits. Rule: R249. Reset: none. -/
  src : BitVec 12
  /-- CMD_ID. Width: 16 bits. Rule: R249. Reset: none. -/
  cmdId : BitVec 16
  /-- its SESSION field, 0 on the service port. Width: 64 bits. Rule: R354. Reset: none. -/
  session : BitVec 64
  /-- OPCODE. Width: 8 bits. Rule: R249. Reset: none. -/
  opcode : BitVec 8
  /-- FLAGS.QUIET. Width: 1 bit. Rule: R243. Reset: none. -/
  quiet : Bool
  deriving DecidableEq, Repr

/-- Commands and the service port (R240 to R258). -/
structure Cmd where
  /-- CMD_STAT.ACCEPTED. Width: 16 bits, saturating. Rule: R258. Reset: 0. -/
  accepted : Nat := 0
  /-- CMD_STAT.REFUSED. Width: 16 bits, saturating. Rule: R258. Reset: 0. -/
  refused : Nat := 0
  /-- CMD_LAST.OPCODE. Width: 8 bits. Rule: R258. Reset: 0. -/
  lastOp : BitVec 8 := 0
  /-- CMD_LAST.STATUS. Width: 8 bits. Rule: R258. Reset: 0. -/
  lastStatus : BitVec 8 := 0
  /-- CMD_LAST.PORT. Width: 2 bits. Rule: R258. Reset: 0. -/
  lastPort : Nat := 0
  /-- CMD_TAGFAIL.COUNT. Width: 16 bits, saturating. Rule: R258. Reset: 0. -/
  tagFail : Nat := 0
  /-- CMD_TAGFAIL.LAST_SRC. Width: 12 bits. Rule: R258. Reset: 0. -/
  tagFailSrc : BitVec 12 := 0
  /-- local time at which CMD_TAG_FLOOD was last raised for port A. Width: time. Rule: R253. Reset: none. -/
  floodA : Option Nat := none
  /-- the same for port B. Width: time. Rule: R253. Reset: none. -/
  floodB : Option Nat := none
  /-- local times of the BAD_TAG refusals on port A within the last second. Width: list of times. Rule: R253. Reset: none. -/
  tagWindowA : List Nat := []
  /-- the same for port B. Width: list of times. Rule: R253. Reset: none. -/
  tagWindowB : List Nat := []
  /-- CMD_SVC.ERRORS. Width: 16 bits, saturating. Rule: R258. Reset: 0. -/
  svcErrors : Nat := 0
  /-- CMD_EPOCH. Width: 32 bits. Rule: R258. Reset: Settings; 0 until loaded. -/
  wallEpoch : BitVec 32 := 0
  /-- CMD_SEPOCH. Width: 32 bits. Rule: R258. Reset: Settings; 0 until loaded. -/
  settingsEpoch : BitVec 32 := 0
  /-- the last commands accepted for execution, newest first. Width: at most 16. Rule: R247. Reset: none. -/
  recent : List Recent := []
  /-- commands accepted and not yet replied to. Width: at most 8 a port. Rule: R249. Reset: none. -/
  outstanding : List OutCmd := []
  /-- the reply held for the service port. Width: bytes. Rule: R256. Reset: none. -/
  svcReply : Option (List (BitVec 8)) := none
  /-- that reply has been read. Width: 1 bit. Rule: R256. Reset: 0. -/
  svcRead : Bool := false
  /-- what the latest service-port REPLY transaction returned. Width: bytes. Rule: R256. Reset: none. -/
  svcOut : List (BitVec 8) := []
  /-- a SHUTDOWN command in progress. Width: 1 command. Rule: R251. Reset: none. -/
  shutdownFrom : Option OutCmd := none
  deriving DecidableEq, Repr

/-- The copies of selectors and snapshots that one source of accesses has (R516). -/
structure PerSource where
  /-- RING_SEL. Width: 6 bits. Rule: R516. Reset: 0. -/
  ringSel : Nat := 0
  /-- LNK_LANE_SEL of port A. Width: 32 bits. Rule: R516. Reset: 0. -/
  laneSelA : BitVec 32 := 0
  /-- LNK_LANE_SEL of port B. Width: 32 bits. Rule: R516. Reset: 0. -/
  laneSelB : BitVec 32 := 0
  /-- LED_ADC_SEL. Width: 32 bits. Rule: R516. Reset: 0. -/
  adcSel : BitVec 32 := 0
  /-- the value of LED_ADC_VAL before the latest selection. Width: 12 bits. Rule: R178. Reset: 0. -/
  adcPrev : BitVec 12 := 0
  /-- THERM_SENS_SEL. Width: 32 bits. Rule: R516. Reset: 0. -/
  sensSel : BitVec 32 := 0
  /-- WARD_SLOT_SEL. Width: 32 bits. Rule: R516. Reset: 0. -/
  slotSel : BitVec 32 := 0
  /-- NVM_LOG_SEL. Width: 32 bits. Rule: R516. Reset: 0. -/
  logSel : BitVec 32 := 0
  /-- COL_ENV_ADDR. Width: 10 bits. Rule: R516. Reset: 0. -/
  envAddr : Nat := 0
  /-- COL_TF_ADDR. Width: 12 bits. Rule: R516. Reset: 0. -/
  tfAddr : Nat := 0
  /-- TIME_NOW_HI. Width: 32 bits. Rule: R516. Reset: 0. -/
  nowHi : BitVec 32 := 0
  /-- TIME_LOCAL_HI. Width: 32 bits. Rule: R516. Reset: 0. -/
  localHi : BitVec 32 := 0
  /-- RING_SIG_LO. Width: 32 bits. Rule: R516. Reset: 0. -/
  sigLo : BitVec 32 := 0
  /-- RING_SIG_HI. Width: 32 bits. Rule: R516. Reset: 0. -/
  sigHi : BitVec 32 := 0
  /-- RING_SIG_FLIP. Width: 32 bits. Rule: R516. Reset: 0. -/
  sigFlip : BitVec 32 := 0
  /-- CHK_RESULT of unit 0. Width: 32 bits. Rule: R516. Reset: 0. -/
  chk0 : BitVec 32 := 0
  /-- CHK_RESULT of unit 1. Width: 32 bits. Rule: R516. Reset: 0. -/
  chk1 : BitVec 32 := 0
  /-- CHK_RESULT of unit 2. Width: 32 bits. Rule: R516. Reset: 0. -/
  chk2 : BitVec 32 := 0
  /-- CHK_RESULT of unit 3. Width: 32 bits. Rule: R516. Reset: 0. -/
  chk3 : BitVec 32 := 0
  /-- TIME_CAP_DATA1. Width: 32 bits. Rule: R516. Reset: 0. -/
  capData1 : BitVec 32 := 0
  deriving DecidableEq, Repr

/-- The five copies of R516. -/
structure Sel where
  /-- the copy shared by the Tumbler threads. Width: 1 copy. Rule: R516. Reset: see PerSource. -/
  tumbler : PerSource := {}
  /-- the service port's copy. Width: 1 copy. Rule: R516. Reset: see PerSource. -/
  service : PerSource := {}
  /-- port A's copy. Width: 1 copy. Rule: R516. Reset: see PerSource. -/
  portA : PerSource := {}
  /-- port B's copy. Width: 1 copy. Rule: R516. Reset: see PerSource. -/
  portB : PerSource := {}
  /-- JTAG's copy. Width: 1 copy. Rule: R516. Reset: see PerSource. -/
  jtag : PerSource := {}
  deriving DecidableEq, Repr

/-- What the latest register access answered (the model's output of REGISTER_READ and of every row that is a read). -/
structure Access where
  /-- who accessed. Width: 5 values. Rule: the model’s own field. Reset: none. -/
  source : Source
  /-- the address. Width: 32 bits. Rule: the model’s own field. Reset: none. -/
  addr : Nat
  /-- the word read, 0 for a write. Width: 32 bits. Rule: R7. Reset: none. -/
  data : BitVec 32
  /-- the status the access got, 0 for OK. Width: 8 bits. Rule: R244. Reset: none. -/
  status : BitVec 8
  deriving DecidableEq, Repr

end Sys2Proof.Machine
end

