-- ==== Sys2Proof/Machine/State/Faults.lean ====
section
/-!
DEFINITION. Sys2Proof/Machine/State/Faults.lean: fault collector and check units (chapter 14): conditions, records, fences, fault pair, check units.
-/

namespace Sys2Proof.Machine

/-- A unit that a MAJOR reaction fences (R417). -/
inductive FenceUnit where
  | unit (i : Nat)
  | ring (k : Nat)
  | none
  deriving DecidableEq, Repr

/-- A fault condition that is present (R406, R413, R422): its source, its DETAIL instance, and how it came about. -/
structure Cond where
  /-- fault source number 0x00 to 0xFF. Width: 8 bits. Rule: R405. Reset: no condition present. -/
  src : Nat
  /-- DETAIL instance. Width: 16 bits. Rule: R409. Reset: no condition present. -/
  detail : Nat
  /-- true for a condition held by an injection. Width: 1 bit. Rule: R422. Reset: no condition present. -/
  injected : Bool
  /-- false for an injection in NO_REACTION mode. Width: 1 bit. Rule: R423. Reset: no condition present. -/
  react : Bool
  /-- severity configured when the fault arose. Width: 2 bits. Rule: R408. Reset: no condition present. -/
  sev : Fin 4
  deriving DecidableEq, Repr

/-- One fault that a record holds, the creating one or a merged one (R409, R414). -/
structure Member where
  /-- fault source number. Width: 8 bits. Rule: R409. Reset: no record. -/
  src : Nat
  /-- DETAIL instance. Width: 16 bits. Rule: R409. Reset: no record. -/
  detail : Nat
  /-- severity of that fault. Width: 2 bits. Rule: R409. Reset: no record. -/
  sev : Fin 4
  /-- false for an injection in NO_REACTION mode. Width: 1 bit. Rule: R423. Reset: no record. -/
  react : Bool
  /-- the unit that the fault fenced when it arose; none where it fenced none. Width: 4 bits, or a ring. Rule: R415. Reset: no record. -/
  unit : FenceUnit
  deriving DecidableEq, Repr

/-- A fault record of R409. ACTIVE is computed from the members' conditions. -/
structure FaultRecord where
  /-- RECORD_NO. Width: 32 bits. Rule: R409. Reset: empty slot. -/
  number : BitVec 32
  /-- SOURCE. Width: 8 bits. Rule: R409. Reset: empty slot. -/
  src : Nat
  /-- SEVERITY, highest of the source and every merged fault. Width: 2 bits. Rule: R409. Reset: empty slot. -/
  severity : Fin 4
  /-- ORIG_SEV. Width: 2 bits. Rule: R409. Reset: empty slot. -/
  origSev : Fin 4
  /-- INJECTED. Width: 1 bit. Rule: R409. Reset: empty slot. -/
  injected : Bool
  /-- W_VALID. Width: 1 bit. Rule: R409. Reset: empty slot. -/
  wValid : Bool
  /-- ACKED. Width: 1 bit. Rule: R409. Reset: empty slot. -/
  acked : Bool
  /-- MERGE_COUNT. Width: 8 bits, saturating. Rule: R409. Reset: empty slot. -/
  mergeCount : Nat
  /-- LAST_MERGED. Width: 8 bits. Rule: R409. Reset: empty slot. -/
  lastMerged : Nat
  /-- MERGED_BLOCKS. Width: 16 bits. Rule: R409. Reset: empty slot. -/
  mergedBlocks : BitVec 16
  /-- DETAIL. Width: 16 bits. Rule: R409. Reset: empty slot. -/
  detail : Nat
  /-- TIME_US. Width: 32 bits. Rule: R409. Reset: empty slot. -/
  timeUs : BitVec 32
  /-- the faults that the record holds. Width: list. Rule: R413. Reset: empty slot. -/
  members : List Member
  /-- true until HANDLE_US has passed since creation. Width: 1 bit. Rule: R413. Reset: empty slot. -/
  handling : Bool
  deriving DecidableEq, Repr

/-- A fault that arose in the command being executed and is not yet recorded (R411). Empty between commands. -/
structure NewFault where
  /-- fault source number. Width: 8 bits. Rule: R411. Reset: none. -/
  src : Nat
  /-- DETAIL instance. Width: 16 bits. Rule: R411. Reset: none. -/
  detail : Nat
  /-- true for an injection. Width: 1 bit. Rule: R422. Reset: none. -/
  injected : Bool
  /-- false for an injection in NO_REACTION mode. Width: 1 bit. Rule: R423. Reset: none. -/
  react : Bool
  deriving DecidableEq, Repr

/-- The fault collector (R405 to R424, R431). -/
structure Flt where
  /-- the record slots, slot i at 0x0006_0000 + 16·i. Width: 64 records of 16 B. Rule: R410. Reset: all empty. -/
  slots : List (Option FaultRecord) := List.replicate 64 none
  /-- next record number. Width: 32 bits. Rule: R410. Reset: 1. -/
  nextNo : BitVec 32 := 1
  /-- FLT_NEWEST. Width: 32 bits. Rule: R431. Reset: 0. -/
  newest : BitVec 32 := 0
  /-- the conditions present. Width: list. Rule: R406. Reset: none present. -/
  conds : List Cond := []
  /-- FLT_FENCE.UNITS, one bit per fenced unit. Width: 10 bits. Rule: R417. Reset: 0. -/
  fences : BitVec 10 := 0
  /-- one bit per fenced ring. Width: 64 bits. Rule: R417. Reset: 0. -/
  ringFences : BitVec 64 := 0
  /-- FLT_FIRST. Width: 32 bits. Rule: R412. Reset: 0. -/
  first : BitVec 32 := 0
  /-- FLT_FIRST_INFO, kept after the record is displaced. Width: 32 bits. Rule: R412. Reset: 0. -/
  firstInfo : BitVec 32 := 0
  /-- FLT_CFG.HANDLE_US, 10 to 10,000. Width: 14 bits. Rule: R413. Reset: 0x03E8. -/
  handleUs : Nat := 1000
  /-- FLT_SEV_0 to _15. Width: 16 words of 32 bits. Rule: R408. Reset: Defaults: the severities of R406 until loaded (an empty list stands for them). -/
  sev : List (BitVec 32) := []
  /-- FLT_COUNT.CREATED. Width: 16 bits, saturating. Rule: R431. Reset: 0. -/
  created : Nat := 0
  /-- FLT_COUNT.MERGED. Width: 16 bits, saturating. Rule: R431. Reset: 0. -/
  merged : Nat := 0
  /-- FLT_OVERFLOW.FULL. Width: 16 bits, saturating. Rule: R431. Reset: 0. -/
  full : Nat := 0
  /-- FLT_INJ_COUNT. Width: 16 bits, saturating. Rule: R431. Reset: 0. -/
  injected : Nat := 0
  /-- L sources held by injection. Width: at most 4 sources. Rule: R422. Reset: none. -/
  injHeld : List Nat := []
  /-- FLT_PAIR.MISMATCHES. Width: 16 bits, saturating. Rule: R431. Reset: 0. -/
  mismatches : Nat := 0
  /-- the fault pair shows FAULT. Width: 1 bit. Rule: R419. Reset: 1 (PATTERN). -/
  pairFault : Bool := true
  /-- faults of the command in progress, empty between commands. Width: list. Rule: R411. Reset: none. -/
  newFaults : List NewFault := []
  /-- sources with their DETAIL that arise in the next CORE cycle: what the record of a loss has lost. Width: list. Rule: R228. Reset: none. -/
  later : List (Nat × Nat) := []
  /-- consecutive reads of the fault pair that disagreed, up to 3. Width: 2 bits. Rule: R420. Reset: 0. -/
  readRun : Nat := 0
  /-- S1 sources already logged, each with the hour of operation in which it was. Width: list. Rule: R410. Reset: none. -/
  s1Logged : List (Nat × Nat) := []
  deriving DecidableEq, Repr

/-- A check unit (R425 to R432). -/
structure Chk where
  /-- CHK_CFG. Width: 32 bits. Rule: R432. Reset: PRESET 1, WIDTH_M1 0x1F, TARGET 0xF, the rest 0. -/
  cfg : BitVec 32 := 0x000F00F9
  /-- CHK_POLY. Width: 32 bits. Rule: R432. Reset: 0. -/
  poly : BitVec 32 := 0
  /-- CHK_INIT. Width: 32 bits. Rule: R432. Reset: 0. -/
  init : BitVec 32 := 0
  /-- CHK_XOROUT. Width: 32 bits. Rule: R432. Reset: 0. -/
  xorout : BitVec 32 := 0
  /-- CHK_EXPECT. Width: 32 bits. Rule: R432. Reset: 0. -/
  expect : BitVec 32 := 0
  /-- CHK_DEADLINE. Width: 24 bits. Rule: R432. Reset: 0. -/
  deadlineUs : Nat := 0
  /-- width in force since the last CHK_START. Width: 6 bits. Rule: R425. Reset: 32 (preset 1). -/
  width : Nat := 32
  /-- polynomial in force since the last CHK_START. Width: 32 bits. Rule: R425. Reset: preset 1. -/
  curPoly : BitVec 32 := 0x04C11DB7
  /-- REFIN in force. Width: 1 bit. Rule: R425. Reset: preset 1. -/
  refin : Bool := true
  /-- REFOUT in force. Width: 1 bit. Rule: R425. Reset: preset 1. -/
  refout : Bool := true
  /-- XOROUT in force. Width: 32 bits. Rule: R425. Reset: preset 1. -/
  curXor : BitVec 32 := 0xFFFFFFFF
  /-- the running CRC. Width: 32 bits. Rule: R426. Reset: DESIGN CHOICE 0 (log entry 3). -/
  crc : BitVec 32 := 0
  /-- a CHK_START has come since BOOT. Width: 1 bit. Rule: R427. Reset: 0. -/
  started : Bool := false
  /-- CHK_CLOSE has come since the last CHK_START. Width: 1 bit. Rule: R428. Reset: 0. -/
  closed : Bool := false
  /-- TARGET in force since the last CHK_START. Width: 4 bits. Rule: R425. Reset: 15 (none). -/
  target : Nat := 15
  /-- COMPARE in force for the computation in progress. Width: 1 bit. Rule: R425. Reset: 0. -/
  compare : Bool := false
  /-- a closed computation has not yet formed its result (VALID = 0). Width: 1 bit. Rule: R428. Reset: 0. -/
  draining : Bool := false
  /-- the data writes that wait. Width: at most 8 entries. Rule: R427. Reset: empty. -/
  queue : List (List (BitVec 8)) := []
  /-- the latest result. Width: 32 bits. Rule: R432. Reset: 0. -/
  result : BitVec 32 := 0
  /-- MATCH of the latest result. Width: 1 bit. Rule: R432. Reset: 0. -/
  matched : Bool := false
  /-- FRESH of the latest result. Width: 1 bit. Rule: R432. Reset: 0. -/
  fresh : Bool := false
  /-- the next feed is accepted whatever its value. Width: 1 bit. Rule: R429. Reset: 1. -/
  aliveFirst : Bool := true
  /-- the previous feed. Width: 8 bits. Rule: R429. Reset: DESIGN CHOICE 0 (log entry 3). -/
  alivePrev : Nat := 0
  /-- the deadline of the present gap can still fire. Width: 1 bit. Rule: R429. Reset: 0. -/
  aliveArmed : Bool := false
  /-- local time of the latest feed. Width: time. Rule: R429. Reset: DESIGN CHOICE 0 (log entry 3). -/
  aliveAt : Nat := 0
  /-- CHK_ERR.MISMATCHES. Width: 8 bits, saturating. Rule: R432. Reset: 0. -/
  mism : Nat := 0
  /-- CHK_ERR.ALIVE_ERRS. Width: 8 bits, saturating. Rule: R432. Reset: 0. -/
  aliveErrs : Nat := 0
  /-- CHK_ERR.TIMEOUTS. Width: 8 bits, saturating. Rule: R432. Reset: 0. -/
  timeouts : Nat := 0
  /-- CHK_ERR.DISCARDS. Width: 8 bits, saturating. Rule: R432. Reset: 0. -/
  discards : Nat := 0
  deriving DecidableEq, Repr

end Sys2Proof.Machine
end

