-- ==== Sys2Proof/Machine/State/Led.lean ====
section
/-!
DEFINITION. Sys2Proof/Machine/State/Led.lean: LED rail and drive (chapter 5), temperature and self-trim (chapter 15).
-/

namespace Sys2Proof.Machine

/-- Board derating of one ring (R173). -/
structure BoardDerate where
  /-- K_BOARD_k. Width: 6 bits. Rule: R179. Reset: 0x20. -/
  k : Nat := 32
  /-- up_dwell. Width: counter. Rule: R173. Reset: 0. -/
  upDwell : Nat := 0
  /-- down_dwell. Width: counter. Rule: R173. Reset: 0. -/
  downDwell : Nat := 0
  /-- LED_RING_k.STEPS. Width: 16 bits, saturating. Rule: R179. Reset: 0. -/
  steps : Nat := 0
  deriving DecidableEq, Repr

/-- The newest conversion of an ADC channel (R177, R178). -/
structure AdcChannel where
  /-- CODE. Width: 12 bits. Rule: R178. Reset: 0. -/
  code : BitVec 12 := 0
  /-- a conversion exists. Width: 1 bit. Rule: R178. Reset: 0. -/
  valid : Bool := false
  /-- it has not been read. Width: 1 bit. Rule: R178. Reset: 0. -/
  fresh : Bool := false
  deriving DecidableEq, Repr

/-- The LED supply controller (R160 to R179). -/
structure Led where
  /-- LED_CFG.PHASES_M1. Width: 2 bits. Rule: R179. Reset: 0x3. -/
  phasesM1 : Nat := 3
  /-- LED_CFG.FIXED. Width: 1 bit. Rule: R179. Reset: 0. -/
  fixed : Bool := false
  /-- MARGIN_MV. Width: 10 bits. Rule: R179. Reset: 0x096. -/
  marginMv : Nat := 150
  /-- VMIN_MV. Width: 13 bits. Rule: R179. Reset: 0x09C4. -/
  vminMv : Nat := 2500
  /-- VMAX_MV. Width: 13 bits. Rule: R179. Reset: 0x157C. -/
  vmaxMv : Nat := 5500
  /-- VFIX_MV. Width: 13 bits. Rule: R179. Reset: 0x0CE4. -/
  vfixMv : Nat := 3300
  /-- VSTART_MV. Width: 13 bits. Rule: R179. Reset: 0x0CE4. -/
  vstartMv : Nat := 3300
  /-- SET_MV, the set point in force. Width: 13 bits. Rule: R179. Reset: 0. -/
  setMv : Nat := 0
  /-- REF_MV at refAt; it moves toward the set point from there (R162). Width: 13 bits. Rule: R179. Reset: 0. -/
  refMv : Nat := 0
  /-- local time at which REF_MV held that value. Width: time. Rule: R162. Reset: 0. -/
  refAt : Nat := 0
  /-- the start ramp of R167 runs. Width: 1 bit. Rule: R167. Reset: 0. -/
  starting : Bool := false
  /-- a start awaits REG_OK, at most 20 ms. Width: 1 bit. Rule: R167. Reset: 0. -/
  startWait : Bool := false
  /-- REG_OK. Width: 1 bit. Rule: R179. Reset: 0. -/
  regOk : Bool := false
  /-- the phases are enabled. Width: 1 bit. Rule: R167. Reset: 0. -/
  on : Bool := false
  /-- phases in use since the last start. Width: 3 bits. Rule: R167. Reset: 4. -/
  phases : Nat := 4
  /-- phases disabled by PHASE_IMBALANCE. Width: 4 bits. Rule: R169. Reset: 0. -/
  disabled : BitVec 4 := 0
  /-- peak current limit per phase. Width: amperes. Rule: R167. Reset: 6. -/
  peakA : Nat := 6
  /-- RAIL_OCP_SUSTAINED holds the set point. Width: 1 bit. Rule: R169. Reset: 0. -/
  ocpHeld : Bool := false
  /-- RAIL_UV holds the set point. Width: 1 bit. Rule: R169. Reset: 0. -/
  uvHeld : Bool := false
  /-- ADC_SELFCHECK holds the set point. Width: 1 bit. Rule: R177. Reset: 0. -/
  adcHeld : Bool := false
  /-- RAIL_SENSE: the loop regulates on the local voltage minus 100 mV. Width: 1 bit. Rule: R169. Reset: 0. -/
  onLocal : Bool := false
  /-- the present shortfall has been raised. Width: 1 bit. Rule: R166. Reset: 0. -/
  shortfall : Bool := false
  /-- a rise started at the last take point. Width: 1 bit. Rule: R166. Reset: 0. -/
  rising : Bool := false
  /-- highest demand D_i over slots returned since the last evaluation. Width: signed 16 bits. Rule: R164. Reset: none. -/
  dMax : Option Int := none
  /-- the conversions of channel 0 over the last 8 µs, newest first. Width: 4 × 12 bits. Rule: R179. Reset: none. -/
  vledWin : List Nat := []
  /-- VLED_SENSE as last measured. Width: 13 bits. Rule: R179. Reset: 0. -/
  vledMv : Nat := 0
  /-- local output voltage as last measured. Width: 13 bits. Rule: R177. Reset: 0. -/
  localMv : Nat := 0
  /-- average phase currents in mA as last measured. Width: 4 currents. Rule: R179. Reset: 0. -/
  phaseMa : List Nat := [0, 0, 0, 0]
  /-- VBUS in 10 mV. Width: 16 bits. Rule: R179. Reset: 0. -/
  vbus10mv : Nat := 0
  /-- bus current in mA. Width: 16 bits. Rule: R179. Reset: 0. -/
  ibusMa : Nat := 0
  /-- 50 ms average rail power. Width: 12 bits. Rule: R179. Reset: 0. -/
  p100mw : Nat := 0
  /-- PLIMIT_W. Width: 8 bits. Rule: R179. Reset: 0xC8. -/
  plimitW : Nat := 200
  /-- K_POWER. Width: 6 bits. Rule: R179. Reset: 0x20. -/
  kPower : Nat := 32
  /-- evaluations in a row with P at or below 95 % of the limit. Width: counter. Rule: R172. Reset: 0. -/
  lowDwell : Nat := 0
  /-- KNEE_C. Width: 8 bits. Rule: R179. Reset: 0x37. -/
  kneeC : Nat := 55
  /-- LED_FAULT.OCP. Width: 8 bits, saturating. Rule: R179. Reset: 0. -/
  ocp : Nat := 0
  /-- LED_FAULT.UV. Width: 8 bits, saturating. Rule: R179. Reset: 0. -/
  uv : Nat := 0
  /-- LED_FAULT.LAG. Width: 8 bits, saturating. Rule: R179. Reset: 0. -/
  lag : Nat := 0
  /-- LED_FAULT.PLIM_STEPS. Width: 8 bits, saturating. Rule: R179. Reset: 0. -/
  plimSteps : Nat := 0
  /-- LED_PLAN, the SEG argument in force. Width: 24 bits. Rule: R179. Reset: 0x00_0515. -/
  plan : BitVec 24 := 0x000515
  /-- newest conversion of each channel. Width: 24 channels. Rule: R177. Reset: no conversion. -/
  adc : List AdcChannel := List.replicate 24 {}
  /-- board derating of each ring. Width: 64 rings. Rule: R173. Reset: see BoardDerate. -/
  board : List BoardDerate := List.replicate 64 {}
  deriving DecidableEq, Repr

/-- Board temperature of one ring (R437, R440). -/
structure RingTemp where
  /-- t_k in 1/16 °C. Width: signed 16 bits. Rule: R449. Reset: 0. -/
  t : Int := 0
  /-- row of R437. Width: 2 bits. Rule: R449. Reset: 0x3. -/
  source : Nat := 3
  /-- THERM_RISE of the ring is in force. Width: 1 bit. Rule: R449. Reset: 0. -/
  rise : Bool := false
  /-- the knee has been crossed upward and not released. Width: 1 bit. Rule: R439. Reset: 0. -/
  derate : Bool := false
  deriving DecidableEq, Repr

/-- One NTC (R435, R437). -/
structure Ntc where
  /-- temperature in 1/16 °C. Width: signed 16 bits. Rule: R449. Reset: 0. -/
  t : Int := 0
  /-- FAILED. Width: 1 bit. Rule: R449. Reset: 0. -/
  failed : Bool := false
  /-- USED. Width: 1 bit. Rule: R449. Reset: 0. -/
  used : Bool := false
  deriving DecidableEq, Repr

/-- Temperature and self-trim (R433 to R449). -/
structure Therm where
  /-- logic-die sensors in 1/16 °C. Width: 12 × signed 16 bits. Rule: R433. Reset: 0. -/
  sensors : List Int := List.replicate 12 0
  /-- failed logic-die sensors. Width: 12 bits. Rule: R449. Reset: 0 (SENS_OK 0xFFF). -/
  failed : BitVec 12 := 0
  /-- power-die temperature in 1/16 °C. Width: signed 16 bits. Rule: R449. Reset: 0. -/
  pdie : Int := 0
  /-- the NTCs. Width: 8 NTCs. Rule: R433. Reset: see Ntc. -/
  ntcs : List Ntc := List.replicate 8 {}
  /-- board temperatures. Width: 64 rings. Rule: R437. Reset: see RingTemp. -/
  rings : List RingTemp := List.replicate 64 {}
  /-- the 250 ms samples of T_die and of every t_k, newest first. Width: at most 17 samples. Rule: R440. Reset: none. -/
  hist : List (Int × List Int) := []
  /-- DIE_WARN. Width: 1 bit. Rule: R449. Reset: 0. -/
  dieWarn : Bool := false
  /-- DIE_LIMIT. Width: 1 bit. Rule: R449. Reset: 0. -/
  dieLimit : Bool := false
  /-- the die shutdown threshold is crossed. Width: 1 bit. Rule: R439. Reset: 0. -/
  dieShut : Bool := false
  /-- PDIE_WARN. Width: 1 bit. Rule: R449. Reset: 0. -/
  pdieWarn : Bool := false
  /-- PDIE_LIMIT. Width: 1 bit. Rule: R449. Reset: 0. -/
  pdieLimit : Bool := false
  /-- the power-die shutdown threshold is crossed. Width: 1 bit. Rule: R439. Reset: 0. -/
  pdieShut : Bool := false
  /-- DIE_RISE. Width: 1 bit. Rule: R449. Reset: 0. -/
  dieRise : Bool := false
  /-- K_THR. Width: 6 bits. Rule: R449. Reset: 0x20. -/
  kThr : Nat := 32
  /-- evaluations since the last fall of K_THR. Width: counter. Rule: R441. Reset: 0. -/
  thrHeld : Nat := 0
  /-- SKIP. Width: 4 bits. Rule: R449. Reset: 0. -/
  skip : Nat := 0
  /-- THERM_NTC_CFG. Width: 32 bits. Rule: R449. Reset: BETA 0x0F6E, RATIO_PU 0x10. -/
  ntcCfg : BitVec 32 := 0x00100F6E
  /-- THERM_NTC_MAP_0. Width: 32 bits. Rule: R449. Reset: 0x1B12_0900. -/
  ntcMap0 : BitVec 32 := 0x1B120900
  /-- THERM_NTC_MAP_1. Width: 32 bits. Rule: R449. Reset: 0x3F36_2D24. -/
  ntcMap1 : BitVec 32 := 0x3F362D24
  /-- THERM_CROSS.DIE_UP. Width: 8 bits, saturating. Rule: R449. Reset: 0. -/
  dieUp : Nat := 0
  /-- THERM_CROSS.DIE_DOWN. Width: 8 bits, saturating. Rule: R449. Reset: 0. -/
  dieDown : Nat := 0
  /-- THERM_CROSS.RISE. Width: 8 bits, saturating. Rule: R449. Reset: 0. -/
  riseX : Nat := 0
  /-- THERM_CROSS.PDIE. Width: 8 bits, saturating. Rule: R449. Reset: 0. -/
  pdieX : Nat := 0
  /-- rings whose first exclusion since BOOT has been raised. Width: 64 bits. Rule: R436. Reset: 0. -/
  exclRings : BitVec 64 := 0
  /-- trims in force, each block’s in the order of R446. Width: 10 trims. Rule: R446. Reset: DESIGN CHOICE 0 steps (log entry 3). -/
  trims : List Int := [0, 0, 0, 0, 0, 0, 0, 0, 0, 0]
  /-- accepted trims that await their take point. Width: 10 trims. Rule: R448. Reset: no run pending. -/
  trimNew : List Int := [0, 0, 0, 0, 0, 0, 0, 0, 0, 0]
  /-- BUSY. Width: 1 bit. Rule: R449. Reset: 0. -/
  trimBusy : Bool := false
  /-- PENDING. Width: 1 bit. Rule: R449. Reset: 0. -/
  trimPending : Bool := false
  /-- a trigger is held or waits to start. Width: 1 bit. Rule: R445. Reset: 0. -/
  trimAsked : Bool := false
  /-- CODE. Width: 8 bits. Rule: R449. Reset: 0. -/
  trimCode : BitVec 8 := 0
  /-- REJECTED. Width: 6 bits. Rule: R449. Reset: 0. -/
  trimRejected : BitVec 6 := 0
  /-- FRESH. Width: 1 bit. Rule: R449. Reset: 0. -/
  trimFresh : Bool := false
  /-- T_die at the start of the present run. Width: signed 16 bits. Rule: R445. Reset: 0. -/
  trimStartT : Int := 0
  /-- T_AT_RUN. Width: signed 16 bits. Rule: R449. Reset: 0. -/
  tAtRun : Int := 0
  /-- operating seconds at the last completed run, from which HOURS_SINCE counts. Width: seconds. Rule: R449. Reset: 0. -/
  trimAt : Nat := 0
  deriving DecidableEq, Repr

end Sys2Proof.Machine
end

