-- ==== Sys2Proof/Machine/Crypto.lean ====
section
/-!
DEFINITION. Sys2Proof/Machine/Crypto.lean: the cryptographic functions that R342 and R343 name, as their standards define them: SHA-256 and
SHA-384 (FIPS 180-4), HMAC and HKDF (RFC 5869), AES-256 (FIPS 197) in GCM (SP 800-38D), ECDSA and ECDH over P-384 (FIPS 186-5). The spec
names the standards and does not repeat them; their tables stand here (log entry 79).
-/

namespace Sys2Proof.Machine

/-! ### Byte strings, most significant first (R342) -/

/-- The number that bytes spell, most significant first. -/
def ofBe (l : List Byte) : Nat := l.foldl (fun a b => 256 * a + b.toNat) 0

/-- The `n` bytes of a number, most significant first. -/
def beBytes (n v : Nat) : List Byte := (List.range n).map fun i => BitVec.ofNat 8 (v >>> (8 * (n - 1 - i)))

/-- A list cut into `n` pieces of `k`. -/
def chunks {α : Type} (k : Nat) : Nat → List α → List (List α)
  | 0, _ => []
  | n + 1, l => l.take k :: chunks k n (l.drop k)

/-! ### SHA-2 (FIPS 180-4) -/

/-- What tells one SHA-2 function from another: the rotations of its functions Σ0 and Σ1, the rotations and last the shift of σ0 and σ1, its
round constants and its initial hash value. -/
structure Sha2 (w : Nat) where
  big0 : List Nat
  big1 : List Nat
  small0 : List Nat
  small1 : List Nat
  k : List (BitVec w)
  h : List (BitVec w)

/-- The round constants of SHA-512 and SHA-384: 64 bits of the fractional part of the cube roots of the first 80 primes. -/
def shaK : List (BitVec 64) :=
  ([0x428a2f98d728ae22, 0x7137449123ef65cd, 0xb5c0fbcfec4d3b2f, 0xe9b5dba58189dbbc, 0x3956c25bf348b538]
    ++ [0x59f111f1b605d019, 0x923f82a4af194f9b, 0xab1c5ed5da6d8118, 0xd807aa98a3030242, 0x12835b0145706fbe]
    ++ [0x243185be4ee4b28c, 0x550c7dc3d5ffb4e2, 0x72be5d74f27b896f, 0x80deb1fe3b1696b1, 0x9bdc06a725c71235]
    ++ [0xc19bf174cf692694, 0xe49b69c19ef14ad2, 0xefbe4786384f25e3, 0x0fc19dc68b8cd5b5, 0x240ca1cc77ac9c65]
    ++ [0x2de92c6f592b0275, 0x4a7484aa6ea6e483, 0x5cb0a9dcbd41fbd4, 0x76f988da831153b5, 0x983e5152ee66dfab]
    ++ [0xa831c66d2db43210, 0xb00327c898fb213f, 0xbf597fc7beef0ee4, 0xc6e00bf33da88fc2, 0xd5a79147930aa725]
    ++ [0x06ca6351e003826f, 0x142929670a0e6e70, 0x27b70a8546d22ffc, 0x2e1b21385c26c926, 0x4d2c6dfc5ac42aed]
    ++ [0x53380d139d95b3df, 0x650a73548baf63de, 0x766a0abb3c77b2a8, 0x81c2c92e47edaee6, 0x92722c851482353b]
    ++ [0xa2bfe8a14cf10364, 0xa81a664bbc423001, 0xc24b8b70d0f89791, 0xc76c51a30654be30, 0xd192e819d6ef5218]
    ++ [0xd69906245565a910, 0xf40e35855771202a, 0x106aa07032bbd1b8, 0x19a4c116b8d2d0c8, 0x1e376c085141ab53]
    ++ [0x2748774cdf8eeb99, 0x34b0bcb5e19b48a8, 0x391c0cb3c5c95a63, 0x4ed8aa4ae3418acb, 0x5b9cca4f7763e373]
    ++ [0x682e6ff3d6b2b8a3, 0x748f82ee5defb2fc, 0x78a5636f43172f60, 0x84c87814a1f0ab72, 0x8cc702081a6439ec]
    ++ [0x90befffa23631e28, 0xa4506cebde82bde9, 0xbef9a3f7b2c67915, 0xc67178f2e372532b, 0xca273eceea26619c]
    ++ [0xd186b8c721c0c207, 0xeada7dd6cde0eb1e, 0xf57d4f7fee6ed178, 0x06f067aa72176fba, 0x0a637dc5a2c898a6]
    ++ [0x113f9804bef90dae, 0x1b710b35131c471b, 0x28db77f523047d84, 0x32caab7b40c72493, 0x3c9ebe0a15c9bebc]
    ++ [0x431d67c49c100d4c, 0x4cc5d4becb3e42b6, 0x597f299cfc657e2a, 0x5fcb6fab3ad6faec, 0x6c44198c4a475817])

/-- SHA-384. -/
def sha384Def : Sha2 64 where
  big0 := [28, 34, 39]
  big1 := [14, 18, 41]
  small0 := [1, 8, 7]
  small1 := [19, 61, 6]
  k := shaK
  h := [0xcbbb9d5dc1059ed8, 0x629a292a367cd507, 0x9159015a3070dd17, 0x152fecd8f70e5939] ++ [0x67332667ffc00b31, 0x8eb44a8768581511, 0xdb0c2e0d64f98fa7, 0x47b5481dbefa4fa4]

/-- SHA-256: its round constants are the upper halves of the first 64. -/
def sha256Def : Sha2 32 where
  big0 := [2, 13, 22]
  big1 := [6, 11, 25]
  small0 := [7, 18, 3]
  small1 := [17, 19, 10]
  k := (shaK.take 64).map fun (x : BitVec 64) => (x >>> 32).truncate 32
  h := [0x6a09e667, 0xbb67ae85, 0x3c6ef372, 0xa54ff53a, 0x510e527f, 0x9b05688c, 0x1f83d9ab, 0x5be0cd19]

/-- Σ: the sum modulo 2 of three rotations. -/
def shaBig {w : Nat} (r : List Nat) (x : BitVec w) : BitVec w := r.foldl (fun a n => a ^^^ x.rotateRight n) 0

/-- σ: of two rotations and a shift. -/
def shaSmall {w : Nat} (r : List Nat) (x : BitVec w) : BitVec w :=
  x.rotateRight (r.getD 0 0) ^^^ x.rotateRight (r.getD 1 0) ^^^ (x >>> r.getD 2 0)

/-- One round: the working variables a to h, and the next 16 words of the message schedule. -/
def shaRound {w : Nat} (d : Sha2 w) (st : List (BitVec w) × List (BitVec w)) (k : BitVec w) : List (BitVec w) × List (BitVec w) :=
  let v := fun i => st.1.getD i 0
  let m := fun i => st.2.getD i 0
  let t1 := v 7 + shaBig d.big1 (v 4) + ((v 4 &&& v 5) ^^^ (~~~(v 4) &&& v 6)) + k + m 0
  let t2 := shaBig d.big0 (v 0) + ((v 0 &&& v 1) ^^^ (v 0 &&& v 2) ^^^ (v 1 &&& v 2))
  ([t1 + t2, v 0, v 1, v 2, v 3 + t1, v 4, v 5, v 6], st.2.tail ++ [shaSmall d.small1 (m 14) + m 9 + shaSmall d.small0 (m 1) + m 0])

/-- The hash value after one more block of 16 words. -/
def shaBlock {w : Nat} (d : Sha2 w) (h block : List (BitVec w)) : List (BitVec w) :=
  List.zipWith (· + ·) h (d.k.foldl (shaRound d) (h, block)).1

/-- A message with its padding: a bit 1, zeros, and its length in bits, to whole blocks of 16 words of `n` bytes. -/
def shaPad (n : Nat) (m : List Byte) : List Byte :=
  m ++ 0x80 :: List.replicate ((32 * n - 1 - (m.length + 2 * n) % (16 * n)) % (16 * n)) 0 ++ beBytes (2 * n) (8 * m.length)

/-- The hash value of a message, in words of `n` bytes. -/
def shaHash {w : Nat} (d : Sha2 w) (n : Nat) (m : List Byte) : List (BitVec w) :=
  let p := shaPad n m
  (chunks (16 * n) (p.length / (16 * n)) p).foldl
    (fun h b => shaBlock d h ((chunks n 16 b).map fun x => BitVec.ofNat w (ofBe x))) d.h

/-- SHA-256 (R343, R367). -/
def sha256 (m : List Byte) : BitVec 256 := BitVec.ofNat 256 (ofBe ((shaHash sha256Def 4 m).flatMap fun x => beBytes 4 x.toNat))

/-- SHA-384 (R342): 48 bytes. -/
def sha384 (m : List Byte) : List Byte := ((shaHash sha384Def 8 m).take 6).flatMap fun x => beBytes 8 x.toNat

/-! ### HMAC and HKDF (RFC 5869) -/

/-- The 256-bit value of 32 bytes, most significant first. -/
def key256 (l : List Byte) : BitVec 256 := BitVec.ofNat 256 (ofBe ((List.range 32).map fun i => l.getD i 0))

/-- The bytes of a 256-bit value. -/
def bytes256 (k : BitVec 256) : List Byte := beBytes 32 k.toNat

/-- HMAC-SHA-256 (R343) of a key of at most 64 bytes. -/
def hmacOf (key m : List Byte) : BitVec 256 :=
  let pad := fun (b : Byte) => (List.range 64).map fun i => key.getD i 0 ^^^ b
  sha256 (pad 0x5C ++ bytes256 (sha256 (pad 0x36 ++ m)))

/-- HMAC-SHA-256 with a key of 256 bits (R352). -/
def hmac (key : BitVec 256) (m : List Byte) : BitVec 256 := hmacOf (bytes256 key) m

/-- HKDF-SHA-256 with 32 B of output (R343): input keying material, salt, info. -/
def hkdf (ikm salt info : List Byte) : BitVec 256 := hmac (hmacOf salt ikm) (info ++ [1])

/-! ### AES-256 (FIPS 197) -/

/-- Multiplication by x in GF(2^8), modulo x^8 + x^4 + x^3 + x + 1. -/
def xtime (a : Byte) : Byte := (a <<< 1) ^^^ (if a.getLsbD 7 then 0x1B else 0)

/-- The product in GF(2^8). -/
def gfMul (a b : Byte) : Byte :=
  ((List.range 8).foldl (fun p i => (if b.getLsbD i then p.1 ^^^ p.2 else p.1, xtime p.2)) ((0 : Byte), a)).1

/-- The S-box: the inverse in GF(2^8), 0 for 0, which is the power 254, then the affine map. -/
def aesSub (a : Byte) : Byte :=
  let a2 := gfMul a a
  let a3 := gfMul a2 a
  let sq := fun x => gfMul x x
  let a12 := sq (sq a3)
  let a15 := gfMul a12 a3
  let a240 := sq (sq (sq (sq a15)))
  let inv := gfMul (gfMul a240 a12) a2
  inv ^^^ inv.rotateLeft 1 ^^^ inv.rotateLeft 2 ^^^ inv.rotateLeft 3 ^^^ inv.rotateLeft 4 ^^^ 0x63

/-- The next word of the key schedule after `n` words, which are the eight newest, oldest first. -/
def aesKeyWord (n : Nat) (win : List (List Byte)) : List Byte :=
  let last := win.getD 7 []
  let rcon : Byte := (List.range (n / 8 - 1)).foldl (fun x _ => xtime x) 1
  let t :=
    if n % 8 = 0 then List.zipWith (· ^^^ ·) ((last.drop 1 ++ last.take 1).map aesSub) [rcon, 0, 0, 0]
    else if n % 8 = 4 then last.map aesSub
    else last
  List.zipWith (· ^^^ ·) (win.getD 0 []) t

/-- The 15 round keys of AES-256. -/
def aesKeys (key : BitVec 256) : List (List Byte) :=
  let w0 := chunks 4 8 (bytes256 key)
  let all := (List.range 52).foldl (fun l i => l ++ [aesKeyWord (i + 8) (l.drop i)]) w0
  (chunks 4 15 all).map fun k => k.flatten

/-- SubBytes and ShiftRows on a state of 16 bytes, column by column. -/
def aesShift (l : List Byte) : List Byte :=
  let sub := l.map aesSub
  (List.range 16).map fun i => sub.getD ((i + 4 * (i % 4)) % 16) 0

/-- MixColumns. -/
def aesMix (l : List Byte) : List Byte :=
  (List.range 16).map fun i =>
    let a := fun k => l.getD (4 * (i / 4) + (i + k) % 4) 0
    xtime (a 0) ^^^ (xtime (a 1) ^^^ a 1) ^^^ a 2 ^^^ a 3

/-- One block of 16 bytes enciphered under the round keys. -/
def aesBlock (keys : List (List Byte)) (b : List Byte) : List Byte :=
  let add := fun (x : List Byte) i => List.zipWith (· ^^^ ·) x (keys.getD i [])
  let inner := (List.range 13).foldl (fun x i => add (aesMix (aesShift x)) (i + 1)) (add b 0)
  add (aesShift inner) 14

/-! ### GCM (SP 800-38D) -/

/-- The product in GF(2^128) as GCM orders its bits: bit 0 is the most significant. -/
def ghashMul (x y : BitVec 128) : BitVec 128 :=
  ((List.range 128).foldl
    (fun (p : BitVec 128 × BitVec 128) i => (if x.getLsbD (127 - i) then p.1 ^^^ p.2 else p.1, (p.2 >>> 1) ^^^ (if p.2.getLsbD 0 then 0xE1#128 <<< 120 else 0)))
    ((0 : BitVec 128), y)).1

/-- Bytes filled with zeros to whole blocks of 16. -/
def gcmPad (l : List Byte) : List Byte := l ++ List.replicate ((16 - l.length % 16) % 16) 0

/-- GHASH of whole blocks under a hash key. -/
def ghash (h : BitVec 128) (l : List Byte) : BitVec 128 :=
  (chunks 16 (l.length / 16) l).foldl (fun y b => ghashMul (y ^^^ BitVec.ofNat 128 (ofBe b)) h) 0

/-- AES-256-GCM decryption with an IV of 12 bytes (R343): key, IV, additional data, ciphertext and tag; none when the tag fails. -/
def gcmOpen (key : BitVec 256) (iv aad ct tag : List Byte) : Option (List Byte) :=
  let keys := aesKeys key
  let h := BitVec.ofNat 128 (ofBe (aesBlock keys (List.replicate 16 0)))
  let ctr := fun n => aesBlock keys (iv ++ beBytes 4 n)
  let s := ghash h (gcmPad aad ++ gcmPad ct ++ beBytes 8 (8 * aad.length) ++ beBytes 8 (8 * ct.length))
  if tag == List.zipWith (· ^^^ ·) (beBytes 16 s.toNat) (ctr 1) then
    some (List.zipWith (· ^^^ ·) ct ((List.range ((ct.length + 15) / 16)).flatMap fun i => ctr (i + 2)))
  else none

/-! ### P-384 (FIPS 186-5, SP 800-186) -/

/-- The field prime. -/
def pP : Nat := 2 ^ 384 - 2 ^ 128 - 2 ^ 96 + 2 ^ 32 - 1

/-- The order of the group. -/
def pN : Nat := 0xffffffffffffffffffffffffffffffffffffffffffffffffc7634d81f4372ddf581a0db248b0a77aecec196accc52973

/-- The coefficient b; a is −3. -/
def pB : Nat := 0xb3312fa7e23ee7e4988e056be3f82d19181d9c6efe8141120314088f5013875ac656398d8a2ed19d2a85c8edd3ec2aef

/-- A point in projective coordinates; the neutral element has Z = 0. -/
structure PPoint where
  x : Nat
  y : Nat
  z : Nat
  deriving DecidableEq, Repr

/-- The base point. -/
def pG : PPoint where
  x := 0xaa87ca22be8b05378eb1c71ef320ad746e1d3b628ba79b9859f741e082542a385502f25dbf55296c3a545e3872760ab7
  y := 0x3617de4a96262c6f5d9e98bf9292dc29f8f41dbd289a147ce9da3113b5f0b8c00a60b1ce1d7e819d7a431d7c90ea0e5f
  z := 1

/-- The sum of two points: the complete formula for curves of odd order, which holds for equal points and for the neutral element too. -/
def pAdd (p q : PPoint) : PPoint :=
  let m := fun (i : Int) => (i % (pP : Int)).toNat
  let xx : Int := (p.x * q.x % pP : Nat)
  let yy : Int := (p.y * q.y % pP : Nat)
  let zz : Int := (p.z * q.z % pP : Nat)
  let xy : Int := ((p.x * q.y + q.x * p.y) % pP : Nat)
  let xz : Int := ((p.x * q.z + q.x * p.z) % pP : Nat)
  let yz : Int := ((p.y * q.z + q.y * p.z) % pP : Nat)
  let u : Int := m (3 * (pB * zz) - 3 * xz)
  let v : Int := m (3 * (pB * xz) - 3 * xx - 9 * zz)
  let t : Int := 3 * xx - 3 * zz
  { x := m (xy * (yy - u) - yz * v), y := m ((yy + u) * (yy - u) + t * v), z := m (yz * (yy + u) + xy * t) }

/-- A multiple of a point. -/
def pMul (k : Nat) (p : PPoint) : PPoint :=
  (List.range 384).foldl (fun r i => let d := pAdd r r; if k.testBit (383 - i) then pAdd d p else d) { x := 0, y := 1, z := 0 }

/-- A power modulo `m`, of an exponent below 2^384. -/
def powMod (m b e : Nat) : Nat :=
  (List.range 384).foldl (fun r i => let d := r * r % m; if e.testBit (383 - i) then d * b % m else d) 1

/-- The inverse modulo a prime. -/
def invMod (m a : Nat) : Nat := powMod m (a % m) (m - 2)

/-- The affine x-coordinate of a point. -/
def PPoint.affX (p : PPoint) : Nat := p.x * invMod pP p.z % pP

/-- A public key (R342): X then Y of a point other than the neutral one. -/
def PPoint.bytes (p : PPoint) : List Byte := beBytes 48 p.affX ++ beBytes 48 (p.y * invMod pP p.z % pP)

/-- The point of a public key of 96 bytes; none when it is no point of the curve. -/
def pointOf (l : List Byte) : Option PPoint :=
  let x := ofBe (l.take 48)
  let y := ofBe (l.drop 48)
  if l.length = 96 ∧ x < pP ∧ y < pP ∧ (y * y) % pP = (x * x * x + (pP - 3) * x + pB) % pP then some { x := x, y := y, z := 1 } else none

/-- The public key of a private key. -/
def publicKey (d : Nat) : List Byte := (pMul d pG).bytes

/-- ECDSA verification over P-384 with SHA-384 (R342): public key, message, signature. -/
def ecdsaOk (pub m sig : List Byte) : Bool :=
  let r := ofBe (sig.take 48)
  let s := ofBe (sig.drop 48)
  match pointOf pub with
  | none => false
  | some q =>
    sig.length == 96 && decide (0 < r ∧ r < pN ∧ 0 < s ∧ s < pN) &&
      (let w := invMod pN s
       let p := pAdd (pMul (ofBe (sha384 m) * w % pN) pG) (pMul (r * w % pN) q)
       p.z != 0 && p.affX % pN == r)

/-- The ECDSA signature of a message by a private key, with the per-message secret `k` (R342). -/
def ecdsaSign (d k : Nat) (m : List Byte) : List Byte :=
  let r := (pMul k pG).affX % pN
  beBytes 48 r ++ beBytes 48 (invMod pN k * (ofBe (sha384 m) + r * d) % pN)

/-- The x-coordinate of ECDH between a private key and a public key (R347); none when the public key is no point of the curve. -/
def ecdhX (d : Nat) (pub : List Byte) : Option (List Byte) := (pointOf pub).map fun q => beBytes 48 (pMul d q).affX

/-! ### The identity of an engine (R344, R345) -/

/-- A secret in the range of P-384’s private keys, from bytes of the DRBG. -/
def secretOf (x : Nat) : Nat := 1 + x % (pN - 1)

/-- ENGINE_ID: the first 16 B of SHA-384 over the signing public key (R344), as the number that registers show, lowest byte first. -/
def engineIdOf (pub : List Byte) : BitVec 128 := BitVec.ofNat 128 (ofBe ((sha384 pub).take 16).reverse)

end Sys2Proof.Machine
end

