-- ==== Sys2Proof/Machine/State/Ward.lean ====
section
/-!
DEFINITION. Sys2Proof/Machine/State/Ward.lean: Ward: keys, sessions, proof of play (chapter 12).
-/

namespace Sys2Proof.Machine

/-- A Ward key slot that holds a key (R356). -/
structure KeySlot where
  /-- the AES-256 key. Width: 256 bits. Rule: R356. Reset: slot empty. -/
  key : BitVec 256
  /-- MODE, true for GMAC. Width: 1 bit. Rule: R356. Reset: slot empty. -/
  gmac : Bool
  /-- KEY_GEN. Width: 32 bits. Rule: R356. Reset: slot empty. -/
  gen : BitVec 32
  deriving DecidableEq, Repr

/-- The replay entry of one SRC in a session (R354). -/
structure SrcEntry where
  /-- SRC. Width: 12 bits. Rule: R354. Reset: none. -/
  src : BitVec 12
  /-- highest accepted extended CMD_ID. Width: 32 bits. Rule: R354. Reset: none. -/
  h : BitVec 32
  /-- bit i set when h − 1 − i was accepted. Width: 64 bits. Rule: R354. Reset: none. -/
  mask : BitVec 64
  deriving DecidableEq, Repr

/-- An open session (R349 to R354). -/
structure Session where
  /-- SESSION_NO. Width: 32 bits. Rule: R350. Reset: none open. -/
  no : BitVec 32
  /-- the session secret S. Width: 256 bits. Rule: R349. Reset: none open. -/
  secret : BitVec 256
  /-- one entry per SRC. Width: at most 16. Rule: R354. Reset: none open. -/
  entries : List SrcEntry
  deriving DecidableEq, Repr

/-- A layer entry of a proof record (R367). -/
structure LayerPlay where
  /-- CONTEXT. Width: 8 bits. Rule: R367. Reset: 0. -/
  context : Nat := 0
  /-- FLAGS: enabled, pinned, held, transparent. Width: 4 bits. Rule: R367. Reset: 0. -/
  flags : BitVec 4 := 0
  /-- SHOWN_FLIPS. Width: 32 bits. Rule: R367. Reset: 0. -/
  shown : Nat := 0
  /-- FIRST_SEQ. Width: 32 bits. Rule: R367. Reset: 0. -/
  firstSeq : BitVec 32 := 0
  /-- LAST_SEQ. Width: 32 bits. Rule: R367. Reset: 0. -/
  lastSeq : BitVec 32 := 0
  deriving DecidableEq, Repr

/-- A proof-of-play record (R366, R367). -/
structure ProofRec where
  /-- RECORD_NO. Width: 32 bits. Rule: R367. Reset: none. -/
  no : BitVec 32
  /-- tile ID. Width: 12 bits. Rule: R367. Reset: none. -/
  tile : BitVec 12
  /-- FLAGS. Width: 7 bits. Rule: R367. Reset: none. -/
  flags : BitVec 7
  /-- FLIPS. Width: 32 bits. Rule: R367. Reset: none. -/
  flips : Nat
  /-- FIRST_W in ns. Width: 64 bits. Rule: R367. Reset: none. -/
  firstW : Nat
  /-- FIRST_FLIP. Width: 64 bits. Rule: R367. Reset: none. -/
  firstFlip : Nat
  /-- FULL_FLIPS. Width: 32 bits. Rule: R367. Reset: none. -/
  full : Nat
  /-- LIT_FLIPS. Width: 32 bits. Rule: R367. Reset: none. -/
  lit : Nat
  /-- LAST_SIG. Width: 64 bits. Rule: R367. Reset: none. -/
  lastSig : BitVec 64
  /-- each flip’s number and signature, newest first, from which SIG_DIGEST is formed. Width: list. Rule: R367. Reset: none. -/
  sigs : List (Nat × BitVec 64)
  /-- PREV_HASH is zero: the first record after GAP or an enrollment. Width: 1 bit. Rule: R367. Reset: none. -/
  first : Bool
  /-- PREV_HASH. Width: 256 bits. Rule: R367. Reset: none. -/
  prevHash : BitVec 256
  /-- the layer entries. Width: 16 entries. Rule: R367. Reset: none. -/
  layers : List LayerPlay
  /-- SIGNATURE, empty until signed. Width: 96 bytes. Rule: R367. Reset: none. -/
  signature : List (BitVec 8)
  deriving DecidableEq, Repr

/-- Ward (R342 to R371). The sealed fields outlive a reset. -/
structure Ward where
  /-- LIFE is OWNED. Width: 1 bit. Rule: R346. Reset: Sealed; 0 (factory). -/
  owned : Bool := false
  /-- COUNTERSIGN and ENCRYPT_REQ. Width: 2 bits. Rule: R371. Reset: Sealed; 0 (factory). -/
  policy : BitVec 2 := 0
  /-- the identity signing key. Width: 384 bits. Rule: R344. Reset: Sealed; drawn at first power-up, a free value (log entry 8). -/
  signKey : Nat := secretOf (Config.identity 0)
  /-- the identity agreement key. Width: 384 bits. Rule: R344. Reset: Sealed; drawn at first power-up, a free value (log entry 8). -/
  agreeKey : Nat := secretOf (Config.identity 1)
  /-- ENGINE_ID. Width: 128 bits. Rule: R344. Reset: Sealed; from the signing public key. -/
  engineId : BitVec 128 := engineIdOf (publicKey (secretOf (Config.identity 0)))
  /-- OWNER_ID. Width: 128 bits. Rule: R346. Reset: Sealed; 0. -/
  ownerId : BitVec 128 := 0
  /-- the owner’s public key. Width: 96 bytes. Rule: R346. Reset: Sealed; none. -/
  ownerPub : List (BitVec 8) := []
  /-- K_wall. Width: 256 bits. Rule: R346. Reset: Sealed; 32 zero bytes (UNOWNED). -/
  kWall : BitVec 256 := 0
  /-- ARB_FW. Width: 32 bits. Rule: R362. Reset: Sealed; DESIGN CHOICE 0 (log entry 3). -/
  arbFw : BitVec 32 := 0
  /-- SESSION high-water. Width: 32 bits. Rule: R362. Reset: Sealed; DESIGN CHOICE 0 (log entry 3). -/
  highWater : BitVec 32 := 0
  /-- ENROLL_COUNT. Width: 16 bits. Rule: R362. Reset: Sealed; DESIGN CHOICE 0 (log entry 3). -/
  enrollCount : Nat := 0
  /-- PROOF_RESERVE. Width: 32 bits. Rule: R362. Reset: Sealed; DESIGN CHOICE 0 (log entry 3). -/
  proofReserve : BitVec 32 := 0
  /-- SEAL_OPENINGS. Width: 16 bits, saturating. Rule: R371. Reset: Sealed; DESIGN CHOICE 0 (log entry 3). -/
  sealOpenings : Nat := 0
  /-- DEBUG_UNLOCKS. Width: 16 bits, saturating. Rule: R371. Reset: Sealed; DESIGN CHOICE 0 (log entry 3). -/
  debugUnlocks : Nat := 0
  /-- the open session. Width: 1 session. Rule: R351. Reset: none open. -/
  session : Option Session := none
  /-- the previous session. Width: 1 session. Rule: R350. Reset: none. -/
  previous : Option Session := none
  /-- the key slots. Width: 256 slots. Rule: R356. Reset: all empty. -/
  slots : Sparse KeySlot := []
  /-- WARD_KEYLOAD_0 to _14. Width: 15 words. Rule: R371. Reset: 0. -/
  blob : List (BitVec 32) := List.replicate 15 0
  /-- WARD_KEYLOAD_GEN. Width: 32 bits. Rule: R371. Reset: 0. -/
  keyGen : BitVec 32 := 0
  /-- WARD_KEY_STATUS.CODE. Width: 8 bits. Rule: R371. Reset: 0. -/
  keyCode : BitVec 8 := 0
  /-- WARD_KEY_STATUS.SLOT. Width: 8 bits. Rule: R371. Reset: 0. -/
  keySlot : Nat := 0
  /-- a key load runs: VALID reads 0. Width: 1 bit. Rule: R371. Reset: 0. -/
  keyBusy : Bool := false
  /-- local time at which the latest key load started. Width: time. Rule: R356. Reset: 0. -/
  keyAt : Nat := 0
  /-- CODE and SLOT of the load before, which read while a load runs. Width: 16 bits. Rule: R59. Reset: 0. -/
  keyPrev : BitVec 8 × Nat := (0, 0)
  /-- the key that the slot takes when the load in progress completes. Width: 1 slot. Rule: R356. Reset: none. -/
  keyNew : Option KeySlot := none
  /-- WARD_KEY_STATUS.FRESH. Width: 1 bit. Rule: R371. Reset: 0. -/
  keyFresh : Bool := false
  /-- WARD_AUTH.FRAME_TAG_FAILS. Width: 16 bits, saturating. Rule: R371. Reset: 0. -/
  tagFails : Nat := 0
  /-- WARD_AUTH.REPLAYS. Width: 16 bits, saturating. Rule: R371. Reset: 0. -/
  replays : Nat := 0
  /-- INTERVAL_S. Width: 12 bits. Rule: R371. Reset: 0x03C. -/
  intervalS : Nat := 60
  /-- INTERVAL_S in force for the open record. Width: 12 bits. Rule: R371. Reset: 60. -/
  interval : Nat := 60
  /-- the records held, newest first. Width: at most 256. Rule: R368. Reset: none. -/
  records : List ProofRec := []
  /-- the open record. Width: 1 record. Rule: R366. Reset: none. -/
  openRec : Option ProofRec := none
  /-- closed records that await their signature, oldest first. Width: list. Rule: R366. Reset: none. -/
  unsigned : List ProofRec := []
  /-- the number of the next record. Width: 32 bits. Rule: R368. Reset: PROOF_RESERVE after BOOT. -/
  nextNo : BitVec 32 := 0
  /-- the next record carries GAP. Width: 1 bit. Rule: R368. Reset: 1. -/
  gap : Bool := true
  /-- the next record to open has PREV_HASH zero. Width: 1 bit. Rule: R367. Reset: 1. -/
  newHash : Bool := true
  /-- the valid debug challenge. Width: 256 bits. Rule: R365. Reset: none. -/
  challenge : Option (BitVec 256) := none
  /-- JTAG is unlocked under R365. Width: 1 bit. Rule: R365. Reset: 0. -/
  debugOpen : Bool := false
  /-- JTAG has been unlocked since reset. Width: 1 bit. Rule: R364. Reset: 0. -/
  debugSinceReset : Bool := false
  /-- debug access through JTAG is open. Width: 1 bit. Rule: R346. Reset: 1 (UNOWNED). -/
  jtagOpen : Bool := true
  /-- SRC and SEQ of the UPDATE frames accepted since UPDATE_START. Width: SRC and SEQ. Rule: R355. Reset: none. -/
  updLast : Option (BitVec 12 × BitVec 32) := none
  /-- the known-answer tests have passed. Width: 1 bit. Rule: R361. Reset: 0. -/
  katOk : Bool := false
  /-- draws from the DRBG, to which Config applies its free values. Width: count. Rule: the model’s own field. Reset: 0. -/
  drawn : Nat := 0
  deriving DecidableEq, Repr

end Sys2Proof.Machine
end

