-- ==== Sys2Proof/Machine/State/Link.lean ====
section
/-!
DEFINITION. Sys2Proof/Machine/State/Link.lean: wall link lanes and frames, tile map, stream contexts (chapters 9 and 10).
-/

namespace Sys2Proof.Machine

/-- The port states of R272, in the order of their values. -/
inductive PortState where
  | disabled | detect | rate | eq | align | active | quiet | parked | test
  deriving DecidableEq, Repr

/-- One lane of a port (R263 to R289). -/
structure Lane where
  /-- BLOCK_LOCK. Width: 1 bit. Rule: R289. Reset: 0. -/
  blockLock : Bool := false
  /-- MARKER_LOCK. Width: 1 bit. Rule: R289. Reset: 0. -/
  markerLock : Bool := false
  /-- valid TRAIN blocks are received on the lane. Width: 1 bit. Rule: R273. Reset: 0. -/
  healthy : Bool := false
  /-- FROZEN. Width: 1 bit. Rule: R289. Reset: 0. -/
  frozen : Bool := false
  /-- FENCED. Width: 1 bit. Rule: R283. Reset: 0; survives only until BOOT. -/
  fenced : Bool := false
  /-- LANE_FENCED has been raised for this lane. Width: 1 bit. Rule: R283. Reset: 0. -/
  fenceRaised : Bool := false
  /-- polarity corrected. Width: 1 bit. Rule: R273. Reset: 0. -/
  inverted : Bool := false
  /-- EYE. Width: 8 bits. Rule: R289. Reset: 0. -/
  eye : Nat := 0
  /-- local times of the retrain triggers of the last 10 min. Width: list of times. Rule: R283. Reset: none. -/
  triggers : List Nat := []
  /-- SKEW in 0.25 ns. Width: 8 bits. Rule: R289. Reset: 0. -/
  skew : Nat := 0
  /-- BIP_ERRS. Width: 16 bits, saturating. Rule: R289. Reset: 0. -/
  bipErrs : Nat := 0
  /-- HDR_ERRS. Width: 16 bits, saturating. Rule: R289. Reset: 0. -/
  hdrErrs : Nat := 0
  /-- TX_PRE. Width: 3 bits. Rule: R289. Reset: 0x1. -/
  txPre : Nat := 1
  /-- TX_POST. Width: 4 bits. Rule: R289. Reset: 0x4. -/
  txPost : Nat := 4
  /-- EQ_STAT sent for this lane. Width: 4 bits. Rule: R273. Reset: 0. -/
  eqStat : BitVec 4 := 0
  /-- CTLE. Width: 4 bits. Rule: R289. Reset: 0. -/
  ctle : Nat := 0
  /-- DFE1. Width: signed 6 bits. Rule: R289. Reset: 0. -/
  dfe1 : Int := 0
  /-- DFE taps 2 to 5. Width: 4 taps. Rule: R279. Reset: DESIGN CHOICE 0 (log entry 3). -/
  dfe : List Int := [0, 0, 0, 0]
  /-- PRBS_ERRS. Width: 32 bits, saturating. Rule: R289. Reset: 0. -/
  prbsErrs : Nat := 0
  /-- INJ_BITS. Width: 16 bits, saturating. Rule: R289. Reset: 0. -/
  injBits : Nat := 0
  /-- SYNC. Width: 1 bit. Rule: R289. Reset: 0. -/
  sync : Bool := false
  /-- FAIL. Width: 1 bit. Rule: R289. Reset: 0. -/
  fail : Bool := false
  /-- local times of the checker’s losses of sync within the last second. Width: list of times. Rule: R286. Reset: none. -/
  losses : List Nat := []
  /-- MCOUNT of the last marker received. Width: 24 bits. Rule: R270. Reset: 0. -/
  mcount : Nat := 0
  /-- consecutive good markers received, up to 2. Width: 2 bits. Rule: R271. Reset: 0. -/
  markers : Nat := 0
  /-- its fence has been cleared, and it rejoins at the port’s next cycle. Width: 1 bit. Rule: R283. Reset: 0. -/
  waiting : Bool := false
  /-- it has received another lane’s TRAIN blocks in the present cycle. Width: 1 bit. Rule: R259. Reset: 0. -/
  swapped : Bool := false
  /-- the last 58 scrambled bits sent on the lane. Width: 58 bits. Rule: R266. Reset: DESIGN CHOICE 0 (log entry 3). -/
  scrambler : BitVec 58 := 0
  /-- the last 58 scrambled bits received on the lane. Width: 58 bits. Rule: R266. Reset: DESIGN CHOICE 0 (log entry 3). -/
  descrambler : BitVec 58 := 0
  /-- the last 990 bits sent, the newest in bit 0. Width: 990 bits. Rule: R267. Reset: DESIGN CHOICE 0 (log entry 3). -/
  sentBits : BitVec 990 := 0
  /-- the last block on the line; in TEST the bits of the last CORE cycle. Width: 66 bits. Rule: R263. Reset: DESIGN CHOICE 0 (log entry 3). -/
  out : BitVec 66 := 0
  /-- parity of the blocks sent since the last AM. Width: 8 bits. Rule: R270. Reset: 0. -/
  bipTx : BitVec 8 := 0
  /-- parity of the blocks received since the last AM. Width: 8 bits. Rule: R270. Reset: 0. -/
  bipRx : BitVec 8 := 0
  /-- BIP mismatches of the last second. Width: list of times and counts. Rule: R281. Reset: none. -/
  bipLog : List (Nat × Nat) := []
  /-- SEQ of the next TRAIN block. Width: 4 bits. Rule: R273. Reset: DESIGN CHOICE 0 (log entry 3). -/
  trainSeq : BitVec 4 := 0
  /-- EQ_REQ sent for this lane. Width: 4 bits. Rule: R273. Reset: DESIGN CHOICE 0 (log entry 3). -/
  eqReq : BitVec 4 := 0
  /-- the partner’s EQ_STAT as last received. Width: 4 bits. Rule: R279. Reset: DESIGN CHOICE 0 (log entry 3). -/
  partnerStat : BitVec 4 := 0
  /-- the CTLE setting at the end of EQ. Width: 4 bits. Rule: R281. Reset: 0. -/
  eqCtle : Nat := 0
  /-- the DFE taps at the end of EQ. Width: 5 taps. Rule: R281. Reset: DESIGN CHOICE 0 (log entry 3). -/
  eqDfe : List Int := [0, 0, 0, 0, 0]
  /-- valid headers in a row while the receiver searches. Width: 6 bits. Rule: R269. Reset: 0. -/
  hdrRun : Nat := 0
  /-- which of the last 64 headers in lock were invalid. Width: 64 bits. Rule: R269. Reset: 0. -/
  hdrWindow : BitVec 64 := 0
  /-- bit positions slipped in the search. Width: 7 bits. Rule: R269. Reset: 0. -/
  slip : Nat := 0
  /-- blocks received since the last marker, STUFF not counted. Width: count. Rule: R271. Reset: 0. -/
  rxSince : Nat := 0
  /-- expected marker places in a row that have passed without their marker. Width: 2 bits. Rule: R271. Reset: 0. -/
  missed : Nat := 0
  /-- the checker has reached sync since TEST_EN. Width: 1 bit. Rule: R286. Reset: 0. -/
  synced : Bool := false
  /-- bits that an injection has still to invert. Width: 8 bits. Rule: R287. Reset: 0. -/
  inject : Nat := 0
  /-- the last bits of the pattern generator. Width: 31 bits. Rule: R285. Reset: all ones. -/
  generator : BitVec 31 := 0x7FFFFFFF
  /-- the last bits of the checker. Width: 31 bits. Rule: R286. Reset: DESIGN CHOICE 0 (log entry 3). -/
  checker : BitVec 31 := 0
  /-- bits that the checker has taken since it began to seed, or since sync. Width: count. Rule: R286. Reset: 0. -/
  chkSeen : Nat := 0
  /-- places of the errors within the last 1,024 bits. Width: at most 64 places. Rule: R286. Reset: none. -/
  chkErrs : List Nat := []
  deriving DecidableEq, Repr

/-- A frame in an egress buffer or on a line (R298, R299). -/
structure QFrame where
  /-- the frame; its payload is empty until it has arrived whole. Width: a frame. Rule: R298. Reset: none queued. -/
  frame : Frame
  /-- CLASS. Width: 3 bits. Rule: R298. Reset: none queued. -/
  cls : Nat
  /-- 20 + LEN. Width: bytes. Rule: R298. Reset: none queued. -/
  size : Nat
  /-- it arrived on the other port. Width: 1 bit. Rule: R298. Reset: none queued. -/
  forwarded : Bool
  /-- local time at which it was queued. Width: time. Rule: R298. Reset: none queued. -/
  at_ : Nat
  /-- it may start before it has arrived whole. Width: 1 bit. Rule: R299. Reset: none queued. -/
  cut : Bool
  /-- it has arrived whole. Width: 1 bit. Rule: R299. Reset: none queued. -/
  whole : Bool
  /-- it is the departure frame. Width: 1 bit. Rule: R306. Reset: none queued. -/
  departure : Bool
  deriving DecidableEq, Repr

/-- A frame whose header has been decided and whose trailer is awaited (R294, R300). -/
structure Arriving where
  /-- the header as it arrived. Width: a header. Rule: R294. Reset: none arrives. -/
  frame : Frame
  /-- it is delivered here. Width: 1 bit. Rule: R294. Reset: none arrives. -/
  deliver : Bool
  /-- the port on which a copy is queued or sent. Width: 1 port. Rule: R294. Reset: none arrives. -/
  out : Option Port
  /-- the key slot of its context as it stood at the START block. Width: 1 slot. Rule: R357. Reset: none arrives. -/
  slot : Option KeySlot
  deriving DecidableEq, Repr

/-- A PDELAY_REQ that awaits its response (R322). -/
structure PendReq where
  /-- SEQ_ID. Width: 16 bits. Rule: R322. Reset: none. -/
  seq : BitVec 16
  /-- local time of its departure. Width: time. Rule: R322. Reset: none. -/
  t1 : Nat
  deriving DecidableEq, Repr

/-- A SYNC that awaits its FOLLOW_UP (R324). -/
structure HeldSync where
  /-- DOMAIN. Width: 1 bit. Rule: R324. Reset: none. -/
  domain : Bool
  /-- GM_ID. Width: 12 bits. Rule: R324. Reset: none. -/
  gm : BitVec 12
  /-- SEQ_ID. Width: 16 bits. Rule: R324. Reset: none. -/
  seq : BitVec 16
  /-- LOG_INTERVAL. Width: signed 8 bits. Rule: R320. Reset: none. -/
  log : Int
  /-- local time of its arrival. Width: time. Rule: R324. Reset: none. -/
  tin : Nat
  /-- tout − tin of the forwarded copy. Width: time. Rule: R324. Reset: none. -/
  residence : Nat
  /-- TIMESTAMP. Width: 80 bits. Rule: R324. Reset: none. -/
  ts : Nat
  deriving DecidableEq, Repr

/-- One wall-link port (R259 to R300, R315, R322). -/
structure Link where
  /-- ENABLE. Width: 1 bit. Rule: R289. Reset: 1. -/
  enable : Bool := true
  /-- ADAPT_EN. Width: 1 bit. Rule: R289. Reset: 1. -/
  adaptEn : Bool := true
  /-- CLAMP_DFE. Width: 4 bits. Rule: R289. Reset: 0x4. -/
  clampDfe : Nat := 4
  /-- CLAMP_CTLE. Width: 4 bits. Rule: R289. Reset: 0x2. -/
  clampCtle : Nat := 2
  /-- STATE. Width: 4 bits. Rule: R289. Reset: 0. -/
  st : PortState := .disabled
  /-- RATE in force. Width: 2 bits. Rule: R289. Reset: 0. -/
  rate : Nat := 0
  /-- WIDTH agreed; LNK_STATE shows it in ACTIVE. Width: 3 bits. Rule: R289. Reset: 0. -/
  width : Nat := 0
  /-- USED. Width: 4 bits. Rule: R289. Reset: 0. -/
  used : BitVec 4 := 0
  /-- HEADEND. Width: 1 bit. Rule: R289. Reset: 0. -/
  headend : Bool := false
  /-- MISWIRED. Width: 1 bit. Rule: R289. Reset: 0. -/
  miswired : Bool := false
  /-- ID of the partner. Width: 12 bits. Rule: R289. Reset: 0. -/
  partnerId : BitVec 12 := 0
  /-- the partner’s PORT. Width: 1 bit. Rule: R289. Reset: 0. -/
  partnerB : Bool := false
  /-- the partner’s START. Width: 2 bits. Rule: R289. Reset: 0. -/
  partnerStart : Nat := 0
  /-- FAILS of 12.8, 6.4 and 3.2 Gbit/s. Width: 3 × 2 bits. Rule: R276. Reset: 0. -/
  fails : List Nat := [0, 0, 0]
  /-- the present cycle is a retry cycle. Width: 1 bit. Rule: R276. Reset: 0. -/
  retryCycle : Bool := false
  /-- RATE has completed in the present attempt. Width: 1 bit. Rule: R274. Reset: 0. -/
  agreed : Bool := false
  /-- EQ was entered by a retrain. Width: 1 bit. Rule: R281. Reset: 0. -/
  retraining : Bool := false
  /-- the port’s receiver is deskewed: IDLE carries RX_ALIGNED = 1. Width: 1 bit. Rule: R264. Reset: 0. -/
  alignSent : Bool := false
  /-- STATE of the last TRAIN block received. Width: 3 bits. Rule: R273. Reset: 0. -/
  partnerState : Nat := 0
  /-- FAILS of the last TRAIN block received. Width: 6 bits. Rule: R273. Reset: 0. -/
  partnerFails : BitVec 6 := 0
  /-- DONE: the receiver has finished the work of EQ. Width: 1 bit. Rule: R273. Reset: 0. -/
  eqDone : Bool := false
  /-- local time of the entry to EQ. Width: time. Rule: R279. Reset: none. -/
  eqAt : Nat := 0
  /-- slots since the last AM sent, STUFF not counted. Width: 14 bits. Rule: R270. Reset: DESIGN CHOICE 0 (log entry 78). -/
  sinceAm : Nat := 0
  /-- port blocks of frames that wait for their slots. Width: list of blocks. Rule: R264. Reset: empty. -/
  txBlocks : List (BitVec 66) := []
  /-- the candidate that each lane holds while STUFF goes out. Width: at most 4 blocks. Rule: R267. Reset: none. -/
  held : Sparse (BitVec 66) := []
  /-- SEED of the next IDLE block. Width: 48 bits. Rule: R265. Reset: 0. -/
  idleSeed : BitVec 48 := 0
  /-- MCOUNT of the next AM sent. Width: 24 bits. Rule: R270. Reset: 0. -/
  markerCount : BitVec 24 := 0
  /-- DOWNS. Width: 8 bits, saturating. Rule: R289. Reset: 0. -/
  downs : Nat := 0
  /-- RETRAINS. Width: 8 bits, saturating. Rule: R289. Reset: 0. -/
  retrains : Nat := 0
  /-- PARKS. Width: 8 bits, saturating. Rule: R289. Reset: 0. -/
  parks : Nat := 0
  /-- the lanes. Width: 4 lanes. Rule: R259. Reset: see Lane. -/
  lanes : List Lane := List.replicate 4 {}
  /-- EYE_MIN. Width: 8 bits. Rule: R289. Reset: 0. -/
  eyeMin : Nat := 0
  /-- LANES. Width: 4 bits. Rule: R289. Reset: 0. -/
  eyeLanes : BitVec 4 := 0
  /-- VALID of LNK_EYE_STATUS. Width: 1 bit. Rule: R289. Reset: 1. -/
  eyeValid : Bool := true
  /-- FRESH of LNK_EYE_STATUS. Width: 1 bit. Rule: R289. Reset: 0. -/
  eyeFresh : Bool := false
  /-- STUFF_TX. Width: 16 bits, saturating. Rule: R289. Reset: 0. -/
  stuffTx : Nat := 0
  /-- STUFF_RX. Width: 16 bits, saturating. Rule: R289. Reset: 0. -/
  stuffRx : Nat := 0
  /-- BADCTL. Width: 16 bits, saturating. Rule: R289. Reset: 0. -/
  badctl : Nat := 0
  /-- LNK_TEST but for SYNC and FAIL. Width: 16 bits. Rule: R289. Reset: PATTERN 3, GEN_LANES and CHK_LANES 0xF. -/
  test : BitVec 32 := 0x00007F86
  /-- RX_FRAMES. Width: 16 bits, saturating. Rule: R315. Reset: 0. -/
  rxFrames : Nat := 0
  /-- TX_FRAMES. Width: 16 bits, saturating. Rule: R315. Reset: 0. -/
  txFrames : Nat := 0
  /-- CRC_ERRS. Width: 8 bits, saturating. Rule: R315. Reset: 0. -/
  crcErrs : Nat := 0
  /-- STOMPED. Width: 8 bits, saturating. Rule: R315. Reset: 0. -/
  stomped : Nat := 0
  /-- BADHDR. Width: 8 bits, saturating. Rule: R315. Reset: 0. -/
  badhdr : Nat := 0
  /-- TURNED. Width: 8 bits, saturating. Rule: R315. Reset: 0. -/
  turned : Nat := 0
  /-- Q_DROPS. Width: 8 bits, saturating. Rule: R315. Reset: 0. -/
  qDrops : Nat := 0
  /-- HOP_DROPS. Width: 8 bits, saturating. Rule: R315. Reset: 0. -/
  hopDrops : Nat := 0
  /-- MISROUTE. Width: 8 bits, saturating. Rule: R315. Reset: 0. -/
  misroute : Nat := 0
  /-- PEAK_KIB. Width: 16 bits. Rule: R315. Reset: 0. -/
  peakKib : Nat := 0
  /-- the egress buffer, oldest first. Width: 512 KiB. Rule: R298. Reset: empty. -/
  queue : List QFrame := []
  /-- the frame that is on the line. Width: 1 frame. Rule: R298. Reset: none. -/
  onLine : Option QFrame := none
  /-- the frame on the line ends with the complement of its CRC. Width: 1 bit. Rule: R300. Reset: 0. -/
  lineStomped : Bool := false
  /-- the frame that is arriving. Width: 1 frame. Rule: R294. Reset: none. -/
  arriving : Option Arriving := none
  /-- the frame last delivered from this port, with its key slot. Width: 1 frame. Rule: R296. Reset: none. -/
  delivered : Option (Frame × Option KeySlot) := none
  /-- REPLY, STATUS and CONFIDENCE frames delivered here, counted and discarded. Width: count. Rule: R296. Reset: 0. -/
  discarded : Nat := 0
  /-- link-delay samples in 2^-16 ns, newest first. Width: at most 8. Rule: R322. Reset: none. -/
  pdSamples : List Int := []
  /-- the PDELAY_REQ that awaits its response. Width: 1 request. Rule: R322. Reset: none. -/
  pdPending : Option PendReq := none
  /-- SEQ_ID of the next PDELAY_REQ. Width: 16 bits. Rule: R320. Reset: DESIGN CHOICE 0 (log entry 3). -/
  pdSeq : BitVec 16 := 0
  /-- the SYNCs held from this port, newest first. Width: list. Rule: R324. Reset: none. -/
  syncs : List HeldSync := []
  /-- a receiver in QUIET detects signal. Width: 1 bit. Rule: R276. Reset: 0. -/
  signal : Bool := false
  deriving DecidableEq, Repr

/-- Tile ID, tile map and wall-wide registers (R301 to R309, R315). -/
structure Wall where
  /-- the next header SEQ of the tile’s own frames for each DEST and TYPE, keyed 256·DEST + TYPE. Width: 32 bits each. Rule: R291. Reset: 0. -/
  txSeq : Sparse (BitVec 32) := []
  /-- TILE_ID. Width: 12 bits. Rule: R315. Reset: Settings; 0 until loaded. -/
  id : BitVec 12 := 0
  /-- WALL_STATUS_DEST. Width: 32 bits. Rule: R315. Reset: 0. -/
  statusDest : BitVec 32 := 0
  /-- HEADEND_PORT. Width: 1 bit. Rule: R315. Reset: 0 A. -/
  headendB : Bool := false
  /-- HOPS_A. Width: 12 bits. Rule: R315. Reset: 0xFFF. -/
  hopsA : Nat := 0xFFF
  /-- HOPS_B. Width: 12 bits. Rule: R315. Reset: 0xFFF. -/
  hopsB : Nat := 0xFFF
  /-- the tile map. Width: 4,096 entries of 128 bits. Rule: R301. Reset: DESIGN CHOICE zero (log entry 3). -/
  map : Sparse (BitVec 128) := []
  /-- the pending map. Width: 4,096 entries. Rule: R303. Reset: empty. -/
  pend : Sparse (BitVec 128) := []
  /-- generation of the pending map. Width: 32 bits. Rule: R303. Reset: none. -/
  pendGen : Option (BitVec 32) := none
  /-- MAP_GEN in force. Width: 32 bits. Rule: R315. Reset: 0. -/
  gen : BitVec 32 := 0
  /-- MAP_OK. Width: 1 bit. Rule: R315. Reset: 0. -/
  mapOk : Bool := false
  /-- WALL_EPOCH of the last DONE accepted since BOOT. Width: 32 bits. Rule: R307. Reset: none. -/
  doneEpoch : Option (BitVec 32) := none
  /-- WALL_EPOCH of the last ASSIGN taken since BOOT. Width: 32 bits. Rule: R307. Reset: none. -/
  assigned : Option (BitVec 32) := none
  /-- CHANGES. Width: 16 bits, saturating. Rule: R315. Reset: 0. -/
  changes : Nat := 0
  /-- NO_CTX. Width: 16 bits, saturating. Rule: R315. Reset: 0. -/
  noCtx : Nat := 0
  /-- MAP_REJECTS. Width: 16 bits, saturating. Rule: R315. Reset: 0. -/
  mapRejects : Nat := 0
  /-- SRC of the most recent accepted command that carried a session tag. Width: 12 bits. Rule: R309. Reset: none. -/
  lastTagged : Option (BitVec 12) := none
  deriving DecidableEq, Repr

/-- A buffer of a stream context (R44 to R48). -/
structure Buf where
  /-- number of the frame it holds. Width: 32 bits. Rule: R45. Reset: 0. -/
  frame : BitVec 32 := 0
  /-- that frame is complete. Width: 1 bit. Rule: R45. Reset: 0. -/
  complete : Bool := false
  deriving DecidableEq, Repr

/-- A stream frame that is landing (R45, R46). -/
structure Land where
  /-- its number. Width: 32 bits. Rule: R45. Reset: none. -/
  frame : BitVec 32
  /-- the buffer it lands in, if it is not dropped. Width: 2 bits. Rule: R46. Reset: none. -/
  buf : Nat
  /-- bytes landed, as ranges from start up to but not including end. Width: byte ranges. Rule: R45. Reset: none. -/
  ranges : List (Nat × Nat)
  /-- end of the payload marked LAST. Width: bytes. Rule: R45. Reset: none. -/
  last : Option Nat
  /-- no buffer qualified, so the whole frame is dropped. Width: 1 bit. Rule: R46. Reset: none. -/
  dropped : Bool
  deriving DecidableEq, Repr

/-- A stream context (R310 to R313, R359). -/
structure Ctx where
  /-- offset 0x00. Width: 32 bits. Rule: R310. Reset: NBUF 3, the rest 0. -/
  w0 : BitVec 32 := 0x6
  /-- BUF_BASE. Width: 32 bits. Rule: R310. Reset: 0. -/
  base : BitVec 32 := 0
  /-- STRIDE. Width: 32 bits. Rule: R310. Reset: 0. -/
  stride : BitVec 32 := 0
  /-- LAST_SEQ. Width: 32 bits. Rule: R371. Reset: 0. -/
  lastSeq : BitVec 32 := 0
  /-- a payload has been accepted since BOOT or the last reset of the window. Width: 1 bit. Rule: R359. Reset: 0. -/
  any : Bool := false
  /-- the replay window. Width: 32 bits. Rule: R371. Reset: 0. -/
  window : BitVec 32 := 0
  /-- KEY_GEN of the key that accepted the last payload. Width: 32 bits. Rule: R371. Reset: 0. -/
  keyGen : BitVec 32 := 0
  /-- REPLAYS. Width: 16 bits, saturating. Rule: R371. Reset: 0. -/
  replays : Nat := 0
  /-- NEWEST. Width: 32 bits. Rule: R310. Reset: 0. -/
  newest : BitVec 32 := 0
  /-- NEWEST_BUF. Width: 2 bits. Rule: R310. Reset: 0. -/
  newestBuf : Nat := 0
  /-- a frame has completed. Width: 1 bit. Rule: R310. Reset: 0. -/
  hasNewest : Bool := false
  /-- LANDED. Width: 32 bits. Rule: R310. Reset: 0. -/
  landed : BitVec 32 := 0
  /-- AUTH_FAILS. Width: 16 bits, saturating. Rule: R310. Reset: 0. -/
  authFails : Nat := 0
  /-- DROPS. Width: 16 bits, saturating. Rule: R310. Reset: 0. -/
  drops : Nat := 0
  /-- the buffers. Width: 4 buffers. Rule: R45. Reset: see Buf. -/
  bufs : List Buf := List.replicate 4 {}
  /-- the frame in progress. Width: 1 frame. Rule: R46. Reset: none. -/
  land : Option Land := none
  deriving DecidableEq, Repr

end Sys2Proof.Machine
end

