-- ==== Sys2Proof/Machine/State/Power.lean ====
section
/-!
DEFINITION. Sys2Proof/Machine/State/Power.lean: engine state (chapter 1), power entry, supplies, clocks and resets (chapter 17).
-/

namespace Sys2Proof.Machine

/-- The engine states of the state table before R22, with the values of ID_STATE.STATE. -/
inductive EngState where
  | off | standby | boot | join | dark | lit | safe | service | update
  deriving DecidableEq, Repr

/-- The states of the hot-swap controller (R476), with the values of PWR_STATUS.HSW_STATE. -/
inductive HswState where
  | gateOff | inrush | on | tripped
  deriving DecidableEq, Repr

/-- The reset causes of R489, in table order. -/
inductive RstCause where
  | none | powerOn | supply | thermal | present | pin | clock | watchdog | fallback | restart | debug
  deriving DecidableEq, Repr

/-- The engine state machine (R22 to R29). -/
structure Eng where
  /-- ID_STATE.STATE; OFF and STANDBY are held here although the register never shows them. Width: 4 bits. Rule: R29. Reset: 0x2 BOOT. -/
  st : EngState := .boot
  /-- ID_STATE.PREV. Width: 4 bits. Rule: R29. Reset: 0x1 STANDBY. -/
  prev : EngState := .standby
  /-- ID_STATE.TRANS_COUNT. Width: 16 bits, saturating. Rule: R29. Reset: 0. -/
  transCount : Nat := 0
  /-- the STALE mark. Width: 1 bit. Rule: R28. Reset: 0. -/
  stale : Bool := false
  /-- JOIN has completed since the last BOOT. Width: 1 bit. Rule: R25. Reset: 0. -/
  joined : Bool := false
  /-- the engine runs without a valid firmware image. Width: 1 bit. Rule: R22. Reset: 0. -/
  noImage : Bool := false
  /-- the state left for UPDATE. Width: 4 bits. Rule: R22. Reset: DESIGN CHOICE DARK (log entry 3). -/
  beforeUpdate : EngState := .dark
  /-- BOOT has begun its steps. Width: 1 bit. Rule: R490. Reset: 0. -/
  begun : Bool := false
  /-- BOOT has done its loads (steps 1 to 5). Width: 1 bit. Rule: R490. Reset: 0. -/
  loaded : Bool := false
  /-- DRAM training has completed. Width: 1 bit. Rule: R490. Reset: 0. -/
  trained : Bool := false
  /-- ID_MEM.DRAM_GIB. Width: 2 bits. Rule: R517. Reset: 0. -/
  dramGib : Nat := 0
  /-- an event of R22’s second row has decided STANDBY and the reset that completes it is still to come. Width: 1 bit. Rule: R23. Reset: 0. -/
  leaving : Bool := false
  /-- a reset that follows the record of the fault which brings it, within the same command. Width: 4 bits. Rule: R406. Reset: none. -/
  resetDue : Option RstCause := none
  /-- a thermal shutdown sequence runs until the logic die is held in reset. Width: 1 bit. Rule: R444. Reset: 0. -/
  shutting : Bool := false
  deriving DecidableEq, Repr

/-- Power entry, supplies, clocks and resets (R475 to R494). The power die keeps these through a logic-die reset unless the line says otherwise. -/
structure Pwr where
  /-- PRESENT_L is asserted. Width: 1 bit. Rule: R494. Reset: 1. -/
  present : Bool := true
  /-- HSW_STATE. Width: 2 bits. Rule: R494. Reset: 0x2 ON. -/
  hsw : HswState := .on
  /-- cool-down over. Width: 1 bit. Rule: R476. Reset: 1. -/
  cooldownOver : Bool := true
  /-- a departure runs. Width: 1 bit. Rule: R480. Reset: 0. -/
  departing : Bool := false
  /-- step 5 of the departure has been done. Width: 1 bit. Rule: R480. Reset: 0. -/
  departHeld : Bool := false
  /-- no new page program, erase or store phase starts. Width: 1 bit. Rule: R456. Reset: 0. -/
  noNewStore : Bool := false
  /-- AUX_EN[0]. Width: 1 bit. Rule: R483. Reset: 1. -/
  auxEn0 : Bool := true
  /-- AUX_EN[1]. Width: 1 bit. Rule: R483. Reset: 1. -/
  auxEn1 : Bool := true
  /-- CORE_EN. Width: 1 bit. Rule: R483. Reset: 1. -/
  coreEn : Bool := true
  /-- AUX_PG[0]. Width: 1 bit. Rule: R494. Reset: 1. -/
  auxPg0 : Bool := true
  /-- AUX_PG[1]. Width: 1 bit. Rule: R494. Reset: 1. -/
  auxPg1 : Bool := true
  /-- CORE_PG. Width: 1 bit. Rule: R494. Reset: 1. -/
  corePg : Bool := true
  /-- step 4 of the sequence has been reached. Width: 1 bit. Rule: R483. Reset: 1. -/
  sequenced : Bool := true
  /-- a sequence failed and waits 1 s. Width: 1 bit. Rule: R483. Reset: 0. -/
  seqFailed : Bool := false
  /-- the supplies are to be dropped in order. Width: 1 bit. Rule: R484. Reset: 0. -/
  shutdownPending : Bool := false
  /-- ADC channel 16 is at or above 3.0 V. Width: 1 bit. Rule: R494. Reset: 1. -/
  hkOk : Bool := true
  /-- the logic die is held in reset. Width: 1 bit. Rule: R489. Reset: 0. -/
  logicHeld : Bool := false
  /-- PORST_L holds the reset. Width: 1 bit. Rule: R489. Reset: 0. -/
  holdPin : Bool := false
  /-- a clock fault holds the reset. Width: 1 bit. Rule: R488. Reset: 0. -/
  holdClock : Bool := false
  /-- a thermal reset waits for the return of R443. Width: 1 bit. Rule: R443. Reset: 0. -/
  holdThermal : Bool := false
  /-- a power-die shutdown holds the hot-swap gate in its inrush state. Width: 1 bit. Rule: R444. Reset: 0. -/
  holdInrush : Bool := false
  /-- no CORE cycle has passed since the reset began: a further source still marks OTHERS. Width: 1 bit. Rule: R489. Reset: 0. -/
  sameCycle : Bool := false
  /-- a clock fault was detected and its reset is due. Width: 1 bit. Rule: R488. Reset: 0. -/
  clockFault : Bool := false
  /-- CORE_SUPPLY_FAULT is held for the next BOOT. Width: 1 bit. Rule: R483. Reset: 0. -/
  coreFaultHeld : Bool := false
  /-- INRUSH_FAIL events held for the next BOOT, each its DETAIL. Width: at most 8 events. Rule: R477. Reset: none. -/
  heldTrips : List Nat := []
  /-- CLK_RST_CAUSE.CAUSE. Width: 4 bits. Rule: R494. Reset: Power die; 1 after power-up (R489). -/
  cause : RstCause := .powerOn
  /-- CLK_RST_CAUSE.OTHERS. Width: 10 bits. Rule: R494. Reset: Power die; cleared in OFF. -/
  others : BitVec 10 := 0
  /-- CLK_RST_CAUSE.RESETS. Width: 16 bits, saturating. Rule: R494. Reset: Power die; DESIGN CHOICE 1, the power-on reset that led here (log entry 3). -/
  resets : Nat := 1
  /-- PWR_INRUSH.INRUSH_MS. Width: 16 bits. Rule: R494. Reset: Power die; cleared in OFF. -/
  inrushMs : Nat := 0
  /-- PWR_INRUSH.ATTEMPTS. Width: 16 bits, saturating. Rule: R494. Reset: Power die; DESIGN CHOICE 1, the inrush that led here (log entry 3). -/
  attempts : Nat := 1
  /-- PWR_BREAKER.TRIPS. Width: 8 bits, saturating. Rule: R494. Reset: Power die; cleared in OFF. -/
  trips : Nat := 0
  /-- PWR_BREAKER.INRUSH_FAILS. Width: 8 bits, saturating. Rule: R494. Reset: Power die; cleared in OFF. -/
  inrushFails : Nat := 0
  /-- PWR_DEPART.LAST_US. Width: 16 bits. Rule: R494. Reset: Power die; cleared in OFF. -/
  lastUs : Nat := 0
  /-- PWR_DEPART.DEPARTS. Width: 16 bits, saturating. Rule: R494. Reset: Power die; cleared in OFF. -/
  departs : Nat := 0
  /-- CLK_STATUS.ROOT_LOCK. Width: 1 bit. Rule: R494. Reset: 0. -/
  rootLock : Bool := false
  /-- CLK_STATUS.REF_OK. Width: 1 bit. Rule: R494. Reset: 0. -/
  refOk : Bool := false
  /-- CLK_STATUS.SOURCE. Width: 1 bit. Rule: R494. Reset: CLKSEL, the level sampled at reset release; DESIGN CHOICE 0 (crystal) before it (log entry 3). -/
  clksel : Bool := false
  /-- PWR_BOOT.BOOT_MS. Width: 16 bits. Rule: R494. Reset: 0. -/
  bootMs : Nat := 0
  /-- PWR_BOOT.JOIN_MS. Width: 16 bits, saturating. Rule: R494. Reset: 0. -/
  joinMs : Nat := 0
  /-- level of SEAL_INTACT. Width: 1 bit. Rule: R258. Reset: 1. -/
  sealHigh : Bool := true
  deriving DecidableEq, Repr

end Sys2Proof.Machine
end

