-- ==== Sys2Proof/Machine/State/Rings.lean ====
section
/-!
DEFINITION. Sys2Proof/Machine/State/Rings.lean: pixel rings and cells (chapter 4).
-/

namespace Sys2Proof.Machine

/-- RING_INFO.MODE, in the order of its codes (R159). -/
inductive RingMode where
  | off | ring | hinge | lost | fenced | locating
  deriving DecidableEq, Repr

/-- A word that a feeder sends (R120): a control word with its code and argument, or a data word. -/
inductive RingWord where
  | ctl (code : BitVec 8) (arg : BitVec 24)
  | data (w : BitVec 32)
  deriving DecidableEq, Repr

/-- The kind of a measurement sweep (R144). -/
inductive SweepKind where
  | none | vf | os
  deriving DecidableEq, Repr

/-- What the engine keeps of one cell (R135 to R147, R436). -/
structure Cell where
  /-- CRC of the codes sent for the frame in progress. Width: 16 bits. Rule: R136. Reset: 0. -/
  sentCrc : BitVec 16 := 0
  /-- CRC of the codes the cell shows. Width: 16 bits. Rule: R138. Reset: 0. -/
  shownCrc : BitVec 16 := 0
  /-- CRC that its latest slot returned. Width: 16 bits. Rule: R136. Reset: 0. -/
  retCrc : BitVec 16 := 0
  /-- confirmed in the frame in progress. Width: 1 bit. Rule: R136. Reset: 0. -/
  confirmed : Bool := false
  /-- KEEP-marked in the frame in progress. Width: 1 bit. Rule: R136. Reset: 0. -/
  keep : Bool := false
  /-- resends made in the frame in progress. Width: 2 bits. Rule: R136. Reset: 0. -/
  retries : Nat := 0
  /-- silent in the frame in progress. Width: 1 bit. Rule: R147. Reset: 0. -/
  silentNow : Bool := false
  /-- silent in the frame before the one in progress. Width: 1 bit. Rule: R159. Reset: 0. -/
  silentLast : Bool := false
  /-- unconfirmed: a retry or KEEP is due once the last row has gone out. Width: 1 bit. Rule: R127. Reset: 0. -/
  due : Bool := false
  /-- consecutive silent frames, up to 3. Width: 2 bits. Rule: R147. Reset: 0. -/
  silent : Nat := 0
  /-- the cell had reset and receives a resend after the next flip. Width: 1 bit. Rule: R147. Reset: 0. -/
  reset : Bool := false
  /-- TEMP of its latest slot. Width: 8 bits. Rule: R135. Reset: none returned. -/
  temp : Option Nat := none
  /-- DRV_EN of its latest slot. Width: 1 bit. Rule: R135. Reset: 0. -/
  drvEn : Bool := false
  /-- DRV_ECHO of its latest slot. Width: 10 bits. Rule: R135. Reset: 0. -/
  echo : Nat := 0
  /-- a valid slot returned since the last rail evaluation. Width: 1 bit. Rule: R164. Reset: 0. -/
  demandIn : Bool := false
  /-- its CELL_FAULT has been raised. Width: 1 bit. Rule: R148. Reset: 0. -/
  faultSeen : Bool := false
  /-- emitters that return open (1) or short (2), with how many returns in a row, up to 4. Width: emitter, state, run. Rule: R146. Reset: none. -/
  es : List (Nat × Nat × Nat) := []
  /-- emitters with a cell-side fence. Width: emitters. Rule: R146. Reset: none. -/
  fencedEm : List Nat := []
  /-- its TEMP is excluded. Width: 1 bit. Rule: R436. Reset: 0. -/
  excluded : Bool := false
  /-- a slot of the frame in progress has returned. Width: 1 bit. Rule: R146. Reset: 0. -/
  returned : Bool := false
  /-- consecutive returns that disagree (or agree, once excluded). Width: 3 bits. Rule: R436. Reset: 0. -/
  tempRun : Nat := 0
  deriving DecidableEq, Repr

/-- The engine's end of a hop of a ring: the scrambler of what it sends there (R122). -/
structure Hop where
  /-- words sent after the last SYNC, before the words of `out`: the generator has advanced 32 steps for each. Width: count. Rule: R122. Reset: 0. -/
  words : Nat := 0
  /-- local counter at which the word before `out` has left, at 42.5 ns a word. Width: 64 bits. Rule: R120. Reset: 0. -/
  busy : Nat := 0
  deriving DecidableEq, Repr

/-- Word lock of one receiver of the engine (R121). -/
structure WordLock where
  /-- word lock. Width: 1 bit. Rule: R121. Reset: 0. -/
  locked : Bool := false
  /-- consecutive words with a valid prefix while it searches. Width: 7 bits. Rule: R121. Reset: 0. -/
  run : Nat := 0
  /-- validity of the prefixes of the last 64 words while locked, newest first. Width: 64 bits. Rule: R121. Reset: empty. -/
  seen : List Bool := []
  deriving DecidableEq, Repr

/-- A READ whose slots are still to return at PXI (R122, R135). -/
structure RingRead where
  /-- KIND. Width: 2 bits. Rule: R124. Reset: none. -/
  kind : Nat
  /-- FIRST. Width: 10 bits. Rule: R124. Reset: none. -/
  first : Nat
  /-- COUNT. Width: 11 bits. Rule: R124. Reset: none. -/
  count : Nat
  /-- words between the latest SYNC of the hop and its first slot word. Width: count. Rule: R122. Reset: none. -/
  index : Nat
  deriving DecidableEq, Repr

/-- A frame signature as RING_SIG shows it (R139 to R141). -/
structure Signature where
  /-- the signature. Width: 64 bits. Rule: R139. Reset: 0. -/
  value : BitVec 64 := 0
  /-- low 32 bits of its flip number. Width: 32 bits. Rule: R159. Reset: 0. -/
  flip : BitVec 32 := 0
  /-- CONFIRMED. Width: 17 bits. Rule: R159. Reset: 0. -/
  conf : Nat := 0
  /-- OTHER. Width: 13 bits, saturating. Rule: R159. Reset: 0. -/
  other : Nat := 0
  deriving DecidableEq, Repr

/-- One pixel ring and its feeder (R117 to R154). -/
structure Ring where
  /-- MODE. Width: 3 bits. Rule: R159. Reset: 0 OFF. -/
  mode : RingMode := .off
  /-- LATCHED. Width: 1 bit. Rule: R159. Reset: 0. -/
  latched : Bool := false
  /-- the frame being streamed is the Cairn frame. Width: 1 bit. Rule: R156. Reset: 0. -/
  cairn : Bool := false
  /-- CAIRN: the cells show the Cairn plane. Width: 1 bit. Rule: R159. Reset: 0. -/
  sign : Bool := false
  /-- A_LAST. Width: 11 bits. Rule: R159. Reset: 0x7FF none. -/
  aLast : Option Nat := none
  /-- B_FIRST. Width: 11 bits. Rule: R159. Reset: 0x7FF none. -/
  bFirst : Option Nat := none
  /-- RT_NS. Width: 16 bits. Rule: R159. Reset: 0. -/
  rtNs : Nat := 0
  /-- W_NS: the excess delay of the ring, or of arc A. Width: 16 bits. Rule: R159. Reset: 0. -/
  wNs : Nat := 0
  /-- the excess delay of arc B in Hinge mode. Width: 16 bits. Rule: R153. Reset: 0. -/
  wB : Nat := 0
  /-- WORD_ERRS. Width: 16 bits, saturating. Rule: R159. Reset: 0. -/
  wordErrs : Nat := 0
  /-- CRC_FAILS. Width: 16 bits, saturating. Rule: R159. Reset: 0. -/
  crcFails : Nat := 0
  /-- RING_DRIVE_k. Width: 30 bits. Rule: R159. Reset: Identity; 0 until loaded. -/
  drive : BitVec 32 := 0
  /-- effective levels in the cells. Width: 3 × 10 bits. Rule: R159. Reset: 0. -/
  driveShown : List Nat := [0, 0, 0]
  /-- levels in the shadow DRIVE words last sent. Width: 3 × 10 bits. Rule: R134. Reset: 0. -/
  driveSent : List Nat := [0, 0, 0]
  /-- EXPECT. Width: 11 bits. Rule: R159. Reset: 0x400. -/
  expect : Nat := 0x400
  /-- the expected count in force since the last bring-up or ENUM. Width: 11 bits. Rule: R118. Reset: 0x400. -/
  n : Nat := 0x400
  /-- FOUND. Width: 11 bits. Rule: R159. Reset: 0. -/
  found : Nat := 0
  /-- cell rows of the frame in progress that have been sent. Width: 6 bits. Rule: R127. Reset: 0. -/
  rows : Nat := 0
  /-- the SYNC echo of the frame in progress has returned. Width: 1 bit. Rule: R136. Reset: 0. -/
  echoed : Bool := false
  /-- the ring missed its LATCH at the last flip. Width: 1 bit. Rule: R138. Reset: 0. -/
  missed : Bool := false
  /-- at the last take point: a LATCH is to be launched, with CODES = 1 or 0. Width: 1 bit. Rule: R131. Reset: none. -/
  decided : Option Bool := none
  /-- a LATCH has been launched for the coming flip on every end that needs one, with CODES = 1 or 0. Width: 1 bit. Rule: R129. Reset: none. -/
  launched : Option Bool := none
  /-- that LATCH has left PXO. Width: 1 bit. Rule: R153. Reset: 0. -/
  outA : Bool := false
  /-- that LATCH has left PXI. Width: 1 bit. Rule: R153. Reset: 0. -/
  outB : Bool := false
  /-- the codes that the cells show are not those of a content frame: all zero, or the Cairn plane. Width: 1 bit. Rule: R131. Reset: 1. -/
  dim : Bool := true
  /-- emitters, each with its cell, whose UNFENCE goes out once the ring can be reached again. Width: list. Rule: R146. Reset: none. -/
  owed : List (Nat × Nat) := []
  /-- reads sent round the ring whose slots have not returned. Width: list. Rule: R122. Reset: none. -/
  reads : List RingRead := []
  /-- the frame being streamed is the all-zero frame. Width: 1 bit. Rule: R131. Reset: 0. -/
  allZero : Bool := false
  /-- the ring's cells receive a resend after the next flip. Width: 1 bit. Rule: R138. Reset: 0. -/
  resend : Bool := false
  /-- the words that the feeder sent last, with true for the PXO end. Width: words. Rule: R127. Reset: none sent. -/
  out : List (Bool × RingWord) := []
  /-- the hop from PXO. Width: hop. Rule: R122. Reset: see Hop. -/
  hopA : Hop := {}
  /-- the hop from PXI in Hinge mode. Width: hop. Rule: R150. Reset: see Hop. -/
  hopB : Hop := {}
  /-- IDLE words on PXO before the words of `out`. Width: count. Rule: R127. Reset: 0. -/
  idles : Nat := 0
  /-- the receiver at PXO, in Hinge mode. Width: lock. Rule: R150. Reset: see WordLock. -/
  lockA : WordLock := {}
  /-- the receiver at PXI. Width: lock. Rule: R121. Reset: see WordLock. -/
  lockB : WordLock := {}
  /-- the ring runs in RING mode from the next frame. Width: 1 bit. Rule: R154. Reset: 0. -/
  restoreDue : Bool := false
  deriving DecidableEq, Repr

/-- The ring feeders as a whole (R138 to R159). -/
structure RingUnit where
  /-- RING_CTRL. Width: 32 bits. Rule: R159. Reset: AUTO_RESTORE 1, RETRIES 0x2. -/
  ctrl : BitVec 32 := 0x9
  /-- the rings. Width: 64 rings. Rule: R117. Reset: see Ring. -/
  rings : List Ring := List.replicate 64 {}
  /-- the cells, ring k address c at 1,024·k + c. Width: 65,536 cells. Rule: R135. Reset: see Cell. -/
  cells : Sparse Cell := []
  /-- RING_LATCH_MISS. Width: 64 bits. Rule: R159. Reset: 0. -/
  miss : BitVec 64 := 0
  /-- SEQ of the SYNC words of the frame in progress. Width: 16 bits. Rule: R127. Reset: 0. -/
  seq : BitVec 16 := 0
  /-- the signature of the latest flip. Width: signature. Rule: R139. Reset: 0. -/
  sig : Signature := {}
  /-- the signature before it. Width: signature. Rule: R141. Reset: 0. -/
  sigPrev : Signature := {}
  /-- the latest signature is being formed. Width: 1 bit. Rule: R141. Reset: 0: VALID reads 1. -/
  sigBusy : Bool := false
  /-- local counter at its flip. Width: 64 bits. Rule: R141. Reset: 0. -/
  sigAt : Nat := 0
  /-- FRESH. Width: 1 bit. Rule: R141. Reset: 0. -/
  sigFresh : Bool := false
  /-- the sweep in progress. Width: 2 bits. Rule: R144. Reset: none. -/
  sweep : SweepKind := .none
  /-- INTERVAL of the sweep. Width: 8 bits. Rule: R159. Reset: 0x01. -/
  interval : Nat := 1
  /-- frames to the next round. Width: 8 bits. Rule: R144. Reset: 0. -/
  toNext : Nat := 0
  /-- ROUND, the last completed round. Width: 6 bits. Rule: R159. Reset: 0. -/
  round : Nat := 0
  /-- the round whose results are to be read in the next frame. Width: 6 bits. Rule: R144. Reset: none. -/
  sent : Option Nat := none
  /-- rounds sent in this sweep. Width: 6 bits. Rule: R144. Reset: 0. -/
  rounds : Nat := 0
  /-- FRESH of RING_MEAS_STATUS. Width: 1 bit. Rule: R159. Reset: 0. -/
  measFresh : Bool := false
  /-- VF results passed to the Ageing unit, emitter e of cell i at 48·i + e. Width: 3,145,728 × 12 bits. Rule: R145. Reset: 0. -/
  vf : Sparse (BitVec 12) := []
  /-- the kind of results whose READ went out in this frame. Width: 2 bits. Rule: R144. Reset: none. -/
  reading : SweepKind := .none
  /-- one all-zero frame is still to be streamed and latched. Width: 1 bit. Rule: R131. Reset: 0. -/
  zeroFrame : Bool := false
  /-- at the last take point: the complete rings latch codes at the coming flip. Width: 1 bit. Rule: R131. Reset: 0. -/
  codesDue : Bool := false
  /-- the Cairn plane in SRAM. Width: 65,536 words. Rule: R155. Reset: DESIGN CHOICE 0 until loaded (log entry 3). -/
  sram : Sparse (BitVec 32) := []
  /-- a valid plane has been loaded. Width: 1 bit. Rule: R470. Reset: 0. -/
  sramOk : Bool := false
  /-- its stored CRC-32. Width: 32 bits. Rule: R157. Reset: 0. -/
  sramCrc : BitVec 32 := 0
  /-- palette entries 1 to 3. Width: 9 codes. Rule: R155. Reset: 0 until loaded. -/
  palette : List (BitVec 16) := List.replicate 9 0
  /-- RING_CAIRN.ACTIVE. Width: 1 bit. Rule: R159. Reset: 0. -/
  cairnOn : Bool := false
  /-- Cairn level of the frame streamed. Width: 6 bits. Rule: R156. Reset: 0. -/
  cairnLevel : Nat := 0
  /-- the Cairn LATCH has been launched since the request. Width: 1 bit. Rule: R156. Reset: 0. -/
  cairnLatched : Bool := false
  /-- a Cairn LATCH has applied since the request. Width: 1 bit. Rule: R156. Reset: 0. -/
  cairnShown : Bool := false
  /-- MON_OK. Width: 1 bit. Rule: R159. Reset: 0. -/
  monOk : Bool := false
  /-- REFRESHES. Width: 16 bits, saturating. Rule: R159. Reset: 0. -/
  refreshes : Nat := 0
  deriving DecidableEq, Repr

end Sys2Proof.Machine
end

