-- ==== Sys2Proof/Machine/State/Time.lean ====
section
/-!
DEFINITION. Sys2Proof/Machine/State/Time.lean: wall time (chapter 11).
-/

namespace Sys2Proof.Machine

/-- The condition of a time domain (R327), in the order of TD0_COND’s codes. -/
inductive DomCond where
  | idle | acquiring | acquired
  deriving DecidableEq, Repr

/-- One time domain (R326 to R329). TD_d is refTd at local time refLocal and advances from there at 1 + ratePpb. -/
structure Domain where
  /-- condition. Width: 2 bits. Rule: R341. Reset: 0 IDLE. -/
  cond : DomCond := .idle
  /-- local time of the latest sample. Width: time. Rule: R326. Reset: no sample. -/
  refLocal : Nat := 0
  /-- TD_d at that local time. Width: 2^-16 ns. Rule: R326. Reset: no sample. -/
  refTd : Int := 0
  /-- RATE_PPB. Width: signed 32 bits. Rule: R341. Reset: 0. -/
  ratePpb : Int := 0
  /-- GM_ID. Width: 12 bits. Rule: R341. Reset: 0. -/
  gm : BitVec 12 := 0
  /-- SEQ_ID of the last accepted SYNC. Width: 16 bits. Rule: R341. Reset: 0. -/
  seq : BitVec 16 := 0
  /-- SEQ_ID of the last accepted SYNC of each GM_ID. Width: 4,096 × 16 bits. Rule: R325. Reset: none accepted. -/
  seqs : List (Nat × Option (BitVec 16)) := []
  /-- the last residual. Width: 2^-16 ns. Rule: R341. Reset: 0. -/
  residual : Int := 0
  /-- the last residuals, newest first. Width: at most 4. Rule: R327. Reset: none. -/
  recent : List Int := []
  /-- samples since the domain left IDLE, up to 8. Width: count. Rule: R327. Reset: 0. -/
  count : Nat := 0
  /-- consecutive outliers. Width: 2 bits. Rule: R328. Reset: 0. -/
  outRun : Nat := 0
  /-- OUTLIERS. Width: 16 bits, saturating. Rule: R341. Reset: 0. -/
  outliers : Nat := 0
  /-- SAMPLES. Width: 16 bits, saturating. Rule: R341. Reset: 0. -/
  samples : Nat := 0
  /-- LOSSES. Width: 16 bits, saturating. Rule: R341. Reset: 0. -/
  losses : Nat := 0
  /-- its last LOG_INTERVAL. Width: signed 8 bits. Rule: R328. Reset: DESIGN CHOICE 0 (log entry 3). -/
  log : Int := 0
  /-- samples in a row, up to 4, at which it agreed with the other domain within R329. Width: 3 bits. Rule: R329. Reset: 0. -/
  near : Nat := 0
  deriving DecidableEq, Repr

/-- An entry of the capture FIFO (R338). -/
structure Capture where
  /-- SOURCE. Width: 5 bits. Rule: R341. Reset: none. -/
  source : Nat
  /-- EDGE, true for rising. Width: 1 bit. Rule: R341. Reset: none. -/
  edge : Bool
  /-- W_VALID. Width: 1 bit. Rule: R341. Reset: none. -/
  wValid : Bool
  /-- the stamp in ns. Width: 48 bits. Rule: R341. Reset: none. -/
  stamp : Nat
  deriving DecidableEq, Repr

/-- A time compare (R336). -/
structure Compare where
  /-- TARGET_LO. Width: 32 bits. Rule: R341. Reset: 0. -/
  lo : BitVec 32 := 0
  /-- TARGET_HI. Width: 16 bits. Rule: R341. Reset: 0. -/
  hi : BitVec 32 := 0
  /-- ARMED. Width: 1 bit. Rule: R341. Reset: 0. -/
  armed : Bool := false
  deriving DecidableEq, Repr

/-- W’s output as it stood when the active domain was lost (R330). -/
structure WUndo where
  /-- local time of the loss. Width: time. Rule: R330. Reset: none. -/
  at_ : Nat
  /-- the domain that was active. Width: 1 bit. Rule: R330. Reset: none. -/
  active : Bool
  /-- refLocal. Width: time. Rule: R330. Reset: none. -/
  refLocal : Nat
  /-- refW. Width: 2^-16 ns. Rule: R330. Reset: none. -/
  refW : Int
  /-- ratePpb. Width: ppb. Rule: R330. Reset: none. -/
  ratePpb : Int
  /-- SWITCHES. Width: 8 bits. Rule: R330. Reset: none. -/
  switches : Nat
  /-- HOLDOVERS. Width: 8 bits. Rule: R330. Reset: none. -/
  holdovers : Nat
  deriving DecidableEq, Repr

/-- Wall time (R316 to R341). -/
structure WTime where
  /-- the local counter. Width: 2^-16 ns, 64 bits of ns. Rule: R316. Reset: 0. -/
  local_ : Nat := 0
  /-- VALID. Width: 1 bit. Rule: R341. Reset: 0. -/
  valid : Bool := false
  /-- ACTIVE, true for TD1. Width: 1 bit. Rule: R341. Reset: 0. -/
  active : Bool := false
  /-- local time from which W is reckoned. Width: time. Rule: R318. Reset: not valid. -/
  refLocal : Nat := 0
  /-- W at that local time. Width: 2^-16 ns. Rule: R317. Reset: not valid. -/
  refW : Int := 0
  /-- the rate at which W advances beyond the local counter. Width: ppb. Rule: R330. Reset: not valid. -/
  ratePpb : Int := 0
  /-- HOLDOVER. Width: 1 bit. Rule: R341. Reset: 0. -/
  holdover : Bool := false
  /-- local time from which the holdover is measured. Width: time. Rule: R331. Reset: not in holdover. -/
  holdAt : Nat := 0
  /-- holdover time that a slew set aside. Width: time. Rule: R332. Reset: 0. -/
  holdPrior : Nat := 0
  /-- rate of W in the holdover that a slew set aside. Width: signed ppb. Rule: R332. Reset: 0. -/
  holdRate : Int := 0
  /-- local time at which W became valid last. Width: time. Rule: R330. Reset: 0. -/
  validAt : Nat := 0
  /-- W’s output before the latest loss of the active domain, for a loss of the other in the same cycle. Width: 1 record. Rule: R330. Reset: none. -/
  undo : Option WUndo := none
  /-- SLEWING. Width: 1 bit. Rule: R341. Reset: 0. -/
  slewing : Bool := false
  /-- domain toward which W slews, true for TD1. Width: 1 bit. Rule: R332. Reset: 0. -/
  slewTo : Bool := false
  /-- HOLD_MAX_S. Width: 10 bits. Rule: R341. Reset: 0x01E. -/
  holdMaxS : Nat := 30
  /-- PREF. Width: 1 bit. Rule: R341. Reset: 0. -/
  pref : Bool := false
  /-- FLOCK_EN. Width: 1 bit. Rule: R341. Reset: 0. -/
  flockEn : Bool := false
  /-- TD0. Width: 1 domain. Rule: R326. Reset: see Domain. -/
  d0 : Domain := {}
  /-- TD1. Width: 1 domain. Rule: R326. Reset: see Domain. -/
  d1 : Domain := {}
  /-- SWITCHES. Width: 8 bits, saturating. Rule: R341. Reset: 0. -/
  switches : Nat := 0
  /-- HOLDOVERS. Width: 8 bits, saturating. Rule: R341. Reset: 0. -/
  holdovers : Nat := 0
  /-- LOST. Width: 8 bits, saturating. Rule: R341. Reset: 0. -/
  lost : Nat := 0
  /-- BAD_MSG. Width: 8 bits, saturating. Rule: R341. Reset: 0. -/
  badMsg : Nat := 0
  /-- PHASE_NS. Width: 28 bits. Rule: R341. Reset: 0. -/
  flockPhase : Nat := 0
  /-- PERIOD_NS. Width: 28 bits. Rule: R341. Reset: 0. -/
  flockPeriod : Nat := 0
  /-- local time of the last FRAME_LOCK edge. Width: time. Rule: R339. Reset: none. -/
  flockEdge : Option Nat := none
  /-- TIME_FLOCK.VALID. Width: 1 bit. Rule: R341. Reset: R341 gives 1 in the Reset column and says it reads 0 until an edge with W valid has been measured: 0 (log entry 9). -/
  flockValid : Bool := false
  /-- TIME_FLOCK.FRESH. Width: 1 bit. Rule: R341. Reset: 0. -/
  flockFresh : Bool := false
  /-- the capture FIFO, oldest first. Width: at most 16. Rule: R338. Reset: empty. -/
  caps : List Capture := []
  /-- captures were lost since the last entry was read: the next entry read carries OVERFLOW. Width: 1 bit. Rule: R338. Reset: 0. -/
  capLost : Bool := false
  /-- TIME_CAP_EN. Width: 9 bits. Rule: R341. Reset: 0x0FE. -/
  capEn : BitVec 32 := 0x0FE
  /-- TIME_ADC_LO. Width: 32 bits. Rule: R341. Reset: 0. -/
  adcLo : BitVec 32 := 0
  /-- TIME_ADC_HI. Width: 16 bits. Rule: R341. Reset: 0. -/
  adcHi : BitVec 32 := 0
  /-- ARMED of TIME_ADC_HI. Width: 1 bit. Rule: R341. Reset: 0. -/
  adcArmed : Bool := false
  /-- the snapshot of channels 0 to 6. Width: 7 × 12 bits. Rule: R341. Reset: 0. -/
  adcSnap : List (BitVec 12) := List.replicate 7 0
  /-- FRESH of TIME_ADCSNAP_3. Width: 1 bit. Rule: R341. Reset: 0. -/
  adcFresh : Bool := false
  /-- the time compares. Width: 8 compares. Rule: R336. Reset: see Compare. -/
  cmps : List Compare := List.replicate 8 {}
  deriving DecidableEq, Repr

end Sys2Proof.Machine
end

