-- ==== Sys2Proof/Machine/State/Tumbler.lean ====
section
/-!
DEFINITION. Sys2Proof/Machine/State/Tumbler.lean: the Tumbler sequencer (chapter 7).
-/

namespace Sys2Proof.Machine

/-- The state of a thread (R210), in the order of TUM_STATUS_n.STATE’s codes. -/
inductive ThreadState where
  | halted | ready | waiting | stalled
  deriving DecidableEq, Repr

/-- What a thread waits for (R229 to R231, R234). -/
inductive Wait where
  | none
  | take (rd : Fin 16) (left : Nat)
  | compare (rd : Fin 16)
  | events (rd : Fin 16) (mask : BitVec 32) (timeoutUs : Nat)
  | device (rd : Fin 16)
  deriving DecidableEq, Repr

/-- One Tumbler thread (R210 to R215, R225). -/
structure Thread where
  /-- PC. Width: 14 bits. Rule: R238. Reset: 0. -/
  pc : Nat := 0
  /-- G0 to G15. Width: 16 × 32 bits. Rule: R210. Reset: DESIGN CHOICE 0 until the thread starts, which sets G1 to G15 to zero (log entry 3). -/
  g : List (BitVec 32) := List.replicate 16 0
  /-- the return stack, newest first. Width: at most 8. Rule: R210. Reset: empty. -/
  stack : List Nat := []
  /-- PENDING. Width: 32 bits. Rule: R238. Reset: 0. -/
  pending : BitVec 32 := 0
  /-- STATE. Width: 2 bits. Rule: R238. Reset: 0 HALTED. -/
  st : ThreadState := .halted
  /-- CAUSE. Width: 4 bits. Rule: R238. Reset: 0. -/
  cause : Nat := 0
  /-- instructions issued since the thread last left a wait. Width: count. Rule: R213. Reset: 0. -/
  issued : Nat := 0
  /-- what the thread waits for. Width: wait. Rule: R229. Reset: none. -/
  wait : Wait := .none
  /-- the thread’s last snapshot of now in ns. Width: 64 bits. Rule: R232. Reset: DESIGN CHOICE 0 (log entry 3). -/
  snap : Nat := 0
  /-- TUM_RUNLIM_n. Width: 16 bits. Rule: R238. Reset: 0x0400 for T0, else 0. -/
  runlim : BitVec 32 := 0
  deriving DecidableEq, Repr

/-- A post that is queued (R235). -/
structure Post where
  /-- the thread. Width: 3 bits. Rule: R235. Reset: none. -/
  thread : Nat
  /-- the data. Width: at most 256 bytes. Rule: R235. Reset: none. -/
  data : List (BitVec 8)
  deriving DecidableEq, Repr

/-- Tumbler (R210 to R239). -/
structure Tum where
  /-- T0 to T7. Width: 8 threads. Rule: R210. Reset: see Thread. -/
  threads : List Thread := { runlim := 0x400 } :: List.replicate 7 {}
  /-- TUM_LRDY. Width: 16 bits. Rule: R238. Reset: 0. -/
  lrdy : BitVec 32 := 0
  /-- the doorbell queue, oldest first. Width: at most 4. Rule: R238. Reset: empty. -/
  doorbell : List (BitVec 32) := []
  /-- TUM_EXC.THREAD. Width: 3 bits. Rule: R238. Reset: 0. -/
  excThread : Nat := 0
  /-- TUM_EXC.CAUSE. Width: 4 bits. Rule: R238. Reset: 0. -/
  excCause : Nat := 0
  /-- TUM_EXC.PC. Width: 14 bits. Rule: R238. Reset: 0. -/
  excPc : Nat := 0
  /-- TUM_EXC.COUNT. Width: 8 bits, saturating. Rule: R238. Reset: 0. -/
  excCount : Nat := 0
  /-- program memory. Width: 16,384 × 32 bits. Rule: R216. Reset: DESIGN CHOICE zero (log entry 3). -/
  prog : Sparse (BitVec 32) := []
  /-- TUM_PROG_STATUS.CODE. Width: 8 bits. Rule: R238. Reset: 0. -/
  progCode : BitVec 8 := 0
  /-- COPY. Width: 1 bit. Rule: R238. Reset: 0. -/
  progCopy : Bool := false
  /-- VALID of TUM_PROG_STATUS. Width: 1 bit. Rule: R238. Reset: 1. -/
  progValid : Bool := true
  /-- FRESH of TUM_PROG_STATUS. Width: 1 bit. Rule: R238. Reset: 0. -/
  progFresh : Bool := false
  /-- TUM_STORE_STATUS.CODE. Width: 8 bits. Rule: R238. Reset: 0. -/
  storeCode : BitVec 8 := 0
  /-- VALID of TUM_STORE_STATUS. Width: 1 bit. Rule: R238. Reset: 1. -/
  storeValid : Bool := true
  /-- FRESH of TUM_STORE_STATUS. Width: 1 bit. Rule: R238. Reset: 0. -/
  storeFresh : Bool := false
  /-- TUM_EVT_LOST.COUNT. Width: 16 bits, saturating. Rule: R238. Reset: 0. -/
  evtLost : Nat := 0
  /-- TUM_EVT_LOST.THREAD. Width: 3 bits. Rule: R238. Reset: 0. -/
  evtThread : Nat := 0
  /-- TUM_EVT_LOST.EVENT. Width: 5 bits. Rule: R238. Reset: 0. -/
  evtEvent : Nat := 0
  /-- data memory. Width: 4,096 words of 32 bits. Rule: R219. Reset: DESIGN CHOICE zero until BOOT or leave-service sets it (log entry 3). -/
  dmem : Sparse (BitVec 32) := []
  /-- posts queued and not yet placed in an egress buffer. Width: at most 4. Rule: R235. Reset: none. -/
  posts : List Post := []
  deriving DecidableEq, Repr

end Sys2Proof.Machine
end

