-- ==== Sys2Proof/Machine/State.lean ====
section
/-!
DEFINITION. Sys2Proof/Machine/State.lean: the state of the engine with its queue of waiting commands, the reasons a step
can stop, and the state right after reset.
-/

namespace Sys2Proof.Machine

/-- The reasons for which a step faults. Every command of the table has an effect in every state, so no definition of the
model raises one. -/
inductive Fault where
  /-- Raised by no definition. Safe: it would stop the machine. -/
  | unreached
  deriving DecidableEq, Repr

/-- The reasons for which a step is refused. -/
inductive Refusal where
  /-- Raised by an arm of `exec` whose command has no meaning yet. Safe: it stops the machine. -/
  | notModelled (mnemonic : String)
  deriving DecidableEq, Repr

/-- An addressed memory: address and byte, addresses strictly rising, no entry equal to what an unlisted address reads as. -/
abbrev Memory := List Host.Cell

/-- The state of the engine: every register, buffer, counter, mode and pin that the spec gives it, and the queue of commands
that wait, first in, first out. -/
structure State where
  /-- the commands that wait, the next one first -/
  pending : List Instr := []
  /-- engine state machine (R22) -/
  eng : Eng := {}
  /-- power, clocks and resets (R475 to R494) -/
  pwr : Pwr := {}
  /-- fault collector (R405 to R424) -/
  flt : Flt := {}
  /-- check units 0 to 3 (R425 to R432) -/
  chk : List Chk := List.replicate 4 {}
  /-- wall-link port A (R259) -/
  linkA : Link := {}
  /-- wall-link port B -/
  linkB : Link := {}
  /-- tile ID and tile map (R301) -/
  wall : Wall := {}
  /-- stream contexts 0 to 255 (R310) -/
  ctxs : List Ctx := List.replicate 256 {}
  /-- wall time (R316) -/
  time : WTime := {}
  /-- Tumbler (R210) -/
  tum : Tum := {}
  /-- composer (R30) -/
  comp : Comp := {}
  /-- colour pipeline and calibration (R72) -/
  col : Col := {}
  /-- pixel rings (R117) -/
  rings : RingUnit := {}
  /-- LED supply (R160) -/
  led : Led := {}
  /-- temperature and self-trim (R433) -/
  therm : Therm := {}
  /-- safety monitor (R372) -/
  saf : Saf := {}
  /-- ageing, ledger and margins (R180) -/
  age : Age := {}
  /-- commands and the service port (R240) -/
  cmd : Cmd := {}
  /-- selectors and snapshots of each source (R516) -/
  sel : Sel := {}
  /-- Ward (R342) -/
  ward : Ward := {}
  /-- persistent storage and update (R450) -/
  nvm : Nvm := {}
  /-- the tile flash, 64 MiB (R107); an unlisted byte reads 0xFF, the erased value (DESIGN CHOICE, log entry 7) -/
  flash : Memory := []
  /-- the DRAM from address 0x8000_0000 (R101, R511); an unlisted byte reads 0 (DESIGN CHOICE, log entry 7) -/
  dram : Memory := []
  /-- what the latest register access answered -/
  acc : Option Access := none
  /-- the model’s own counter of free values taken (DESIGN CHOICE, log entry 8); no statement rests on its value -/
  free : Nat := 0
  deriving DecidableEq, Repr

/-- The machine right after reset: entry to BOOT after power-on, with nothing loaded yet (log entry 2), every register at
its reset value, memories listing nothing and no command waiting. -/
def State.reset : State := {}

end Sys2Proof.Machine
end

