-- ==== Sys2Proof/Machine/Ops.lean ====
section
/-!
DEFINITION. Sys2Proof/Machine/Ops.lean: the named operations over the state that all meanings share: field updates, sparse
tables and memories, bytes, CRCs, saturating counts, raising and ending faults.
-/

namespace Sys2Proof.Machine

/-- The state with `eng` changed. -/
def State.onEng (s : State) (f : Eng → Eng) : State := { s with eng := f s.eng }

/-- The state with `pwr` changed. -/
def State.onPwr (s : State) (f : Pwr → Pwr) : State := { s with pwr := f s.pwr }

/-- The state with `flt` changed. -/
def State.onFlt (s : State) (f : Flt → Flt) : State := { s with flt := f s.flt }

/-- The state with `linkA` changed. -/
def State.onLinkA (s : State) (f : Link → Link) : State := { s with linkA := f s.linkA }

/-- The state with `linkB` changed. -/
def State.onLinkB (s : State) (f : Link → Link) : State := { s with linkB := f s.linkB }

/-- The state with `wall` changed. -/
def State.onWall (s : State) (f : Wall → Wall) : State := { s with wall := f s.wall }

/-- The state with `time` changed. -/
def State.onTime (s : State) (f : WTime → WTime) : State := { s with time := f s.time }

/-- The state with `tum` changed. -/
def State.onTum (s : State) (f : Tum → Tum) : State := { s with tum := f s.tum }

/-- The state with `comp` changed. -/
def State.onComp (s : State) (f : Comp → Comp) : State := { s with comp := f s.comp }

/-- The state with `col` changed. -/
def State.onCol (s : State) (f : Col → Col) : State := { s with col := f s.col }

/-- The state with `rings` changed. -/
def State.onRings (s : State) (f : RingUnit → RingUnit) : State := { s with rings := f s.rings }

/-- The state with `led` changed. -/
def State.onLed (s : State) (f : Led → Led) : State := { s with led := f s.led }

/-- The state with `therm` changed. -/
def State.onTherm (s : State) (f : Therm → Therm) : State := { s with therm := f s.therm }

/-- The state with `saf` changed. -/
def State.onSaf (s : State) (f : Saf → Saf) : State := { s with saf := f s.saf }

/-- The state with `age` changed. -/
def State.onAge (s : State) (f : Age → Age) : State := { s with age := f s.age }

/-- The state with `cmd` changed. -/
def State.onCmd (s : State) (f : Cmd → Cmd) : State := { s with cmd := f s.cmd }

/-- The state with `sel` changed. -/
def State.onSel (s : State) (f : Sel → Sel) : State := { s with sel := f s.sel }

/-- The state with `ward` changed. -/
def State.onWard (s : State) (f : Ward → Ward) : State := { s with ward := f s.ward }

/-- The state with `nvm` changed. -/
def State.onNvm (s : State) (f : Nvm → Nvm) : State := { s with nvm := f s.nvm }
/-! ### Tables and memories -/

/-- The entry of a sparse table at a key; `d` is what an unlisted key reads as. -/
def sget {α : Type} (d : α) (k : Nat) : List (Nat × α) → α
  | [] => d
  | (k', v) :: l => if k' = k then v else sget d k l

/-- An entry put in front of the first key that is not smaller. -/
def sput {α : Type} (k : Nat) (v : α) : List (Nat × α) → List (Nat × α)
  | [] => [(k, v)]
  | (k', v') :: l => if k' < k then (k', v') :: sput k v l else (k, v) :: (k', v') :: l

/-- The table with the entry at `k` set to `v`: the old entry goes, and one that `d` does not stand for takes its place in order. -/
def sset {α : Type} [DecidableEq α] (d : α) (k : Nat) (v : α) (l : List (Nat × α)) : List (Nat × α) :=
  let r := l.filter fun c => c.1 != k
  if v = d then r else sput k v r

/-- Canonical form of a sparse table: keys strictly rising and no entry equal to what an unlisted key reads as. -/
def sparseWf {α : Type} [DecidableEq α] (d : α) : List (Nat × α) → Bool
  | [] => true
  | [(_, v)] => decide (v ≠ d)
  | (k, v) :: (k', v') :: l => decide (k < k') && decide (v ≠ d) && sparseWf d ((k', v') :: l)

/-- Several entries set, the first of the list last. -/
def ssetAll {α : Type} [DecidableEq α] (d : α) (l : List (Nat × α)) (t : List (Nat × α)) : List (Nat × α) :=
  l.foldr (fun p a => sset d p.1 p.2 a) t

/-- A memory is in canonical form for the byte `d` that an unlisted address reads as. -/
def Memory.wf (d : Byte) (m : Memory) : Bool := sparseWf d m

/-- What an unlisted byte of the tile flash reads as: the erased value (DESIGN CHOICE, log entry 7). -/
def flashFill : Byte := 0xFF

/-- What an unlisted byte of the DRAM reads as (DESIGN CHOICE, log entry 7). -/
def dramFill : Byte := 0

/-- One byte of the tile flash. -/
def State.flashByte (s : State) (a : Nat) : Byte := sget flashFill a s.flash

/-- One byte of the DRAM, by its offset from 0x8000_0000. -/
def State.dramByte (s : State) (a : Nat) : Byte := sget dramFill a s.dram

/-- `n` bytes of the tile flash from address `a`. -/
def State.flashBytes (s : State) (a n : Nat) : List Byte := (List.range n).map fun i => s.flashByte (a + i)

/-- `n` bytes of the DRAM from offset `a`. -/
def State.dramBytes (s : State) (a n : Nat) : List Byte := (List.range n).map fun i => s.dramByte (a + i)

/-- A memory with the bytes of a list stored from address `a`. -/
def storeBytes (d : Byte) : Nat → List Byte → Memory → Memory
  | _, [], m => m
  | a, b :: l, m => storeBytes d (a + 1) l (sset d a b m)

/-- Bytes stored in the tile flash. -/
def State.flashStore (s : State) (a : Nat) (l : List Byte) : State := { s with flash := storeBytes flashFill a l s.flash }

/-- Bytes stored in the DRAM. -/
def State.dramStore (s : State) (a : Nat) (l : List Byte) : State := { s with dram := storeBytes dramFill a l s.dram }

/-- The tile flash with `n` bytes from `a` erased. -/
def State.flashErase (s : State) (a n : Nat) : State :=
  { s with flash := s.flash.filter fun c => !(decide (a ≤ c.1) && decide (c.1 < a + n)) }

/-! ### Bytes -/

/-- The `n` bytes of a number, least significant first (R4). -/
def leBytes : Nat → Nat → List Byte
  | 0, _ => []
  | n + 1, v => BitVec.ofNat 8 v :: leBytes n (v / 256)

/-- The number that bytes spell, least significant first (R4). -/
def ofLe : List Byte → Nat
  | [] => 0
  | b :: l => b.toNat + 256 * ofLe l

/-- `n` bytes of a list from offset `i`, missing bytes zero. -/
def slice (l : List Byte) (i n : Nat) : List Byte := (List.range n).map fun k => l.getD (i + k) 0

/-- The little-endian number in `n` bytes at offset `i`. -/
def leAt (l : List Byte) (i n : Nat) : Nat := ofLe (slice l i n)

/-- The bytes of a list cut or filled with zeros to length `n`. -/
def padTo (n : Nat) (l : List Byte) : List Byte := slice l 0 n

/-- Bytes as a serial stream sends them, the least significant bit of each first (R4). -/
def lsbBits (l : List Byte) : List Bool := l.flatMap fun b => (List.range 8).map b.getLsbD

/-- The bytes of such a stream; bits that fill no byte are none. -/
def lsbBytes (l : List Bool) : List Byte :=
  (List.range (l.length / 8)).map fun i => BitVec.ofNat 8 ((List.range 8).foldl (fun n k => n + b2n (l.getD (8 * i + k) false) * 2 ^ k) 0)

/-- The words that bytes spell, four bytes each. -/
def wordsOf (l : List Byte) : List (BitVec 32) := (List.range (l.length / 4)).map fun i => BitVec.ofNat 32 (leAt l (4 * i) 4)

/-- The bytes of words. -/
def bytesOf (l : List (BitVec 32)) : List Byte := l.flatMap fun w => leBytes 4 w.toNat

/-! ### The open proof record (R366, R367) -/

/-- The open proof record closes (R366), with `flag` set in its FLAGS. -/
def Ward.closeProof (w : Ward) (flag : Nat) : Ward :=
  match w.openRec with
  | none => w
  | some r => { w with openRec := none, unsigned := w.unsigned ++ [{ r with flags := r.flags ||| BitVec.ofNat 7 flag }] }

/-- A flag of the open proof record. -/
def Ward.markProof (w : Ward) (flag : Nat) : Ward :=
  { w with openRec := w.openRec.map fun r => { r with flags := r.flags ||| BitVec.ofNat 7 flag } }

/-! ### CRCs -/

/-- One bit into a CRC register of `w` bits with polynomial `poly` (R426). -/
def crcBit (w poly crc : Nat) (b : Bool) : Nat :=
  let c := (crc <<< 1) % 2 ^ w
  if crc.testBit (w - 1) != b then c ^^^ (poly % 2 ^ w) else c

/-- One byte into a CRC register, least significant bit first when `refin` (R426). -/
def crcByte (w poly : Nat) (refin : Bool) (crc : Nat) (b : Byte) : Nat :=
  (List.range 8).foldl (fun c i => crcBit w poly c (b.getLsbD (if refin then i else 7 - i))) crc

/-- Bytes into a CRC register. -/
def crcBytes (w poly : Nat) (refin : Bool) (crc : Nat) (l : List Byte) : Nat := l.foldl (crcByte w poly refin) crc

/-- The `w` bits of a number in reverse order. -/
def reflectBits (w v : Nat) : Nat := (List.range w).foldl (fun a i => if v.testBit i then a + 2 ^ (w - 1 - i) else a) 0

/-- A whole CRC (R425, R426). -/
def crcOf (w poly init : Nat) (refin refout : Bool) (xorout : Nat) (l : List Byte) : Nat :=
  let c := crcBytes w poly refin (init % 2 ^ w) l
  (if refout then reflectBits w c else c) ^^^ (xorout % 2 ^ w)

/-- CRC-32 of IEEE 802.3 (R425, preset 1). -/
def crc32 (l : List Byte) : Nat := crcOf 32 0x04C11DB7 0xFFFFFFFF true true 0xFFFFFFFF l

/-- CRC-32C (R292; preset 2). -/
def crc32c (l : List Byte) : Nat := crcOf 32 0x1EDC6F41 0xFFFFFFFF true true 0xFFFFFFFF l

/-- CRC-16-CCITT (R137; preset 3). -/
def crc16 (l : List Byte) : Nat := crcOf 16 0x1021 0xFFFF false false 0 l

/-- CRC-8 of SAE J1850 (R273; preset 4). -/
def crc8 (l : List Byte) : Nat := crcOf 8 0x1D 0xFF false false 0xFF l

/-- The safety CRC (R392; preset 5). -/
def crcSafety (l : List Byte) : Nat := crcOf 32 0xF4ACFB13 0xFFFFFFFF true true 0xFFFFFFFF l

/-! ### Numbers -/

/-- A number newer than another by signed 32-bit difference (R45, R218, R356). -/
def newer32 (a b : BitVec 32) : Bool := decide (0 < (a - b).toInt)

/-- A number newer than another by signed 16-bit difference (R325). -/
def newer16 (a b : BitVec 16) : Bool := decide (0 < (a - b).toInt)

/-- A count one higher, saturating in a field of `w` bits. -/
def inc (w n : Nat) : Nat := sat w (n + 1)

/-! ### Faults -/

/-- Default severity and kind (true for L) of each fault source, none for a reserved number (R406). -/
def srcInfo (n : Nat) : Option (Fin 4 × Bool) :=
  if n ≤ 0x01 then some (3, true)
  else if n = 0x02 then some (3, false)
  else if n = 0x03 then some (0, false)
  else if n = 0x04 then some (1, false)
  else if n = 0x05 then some (3, true)
  else if n = 0x06 then some (1, false)
  else if n < 0x10 then none
  else if n ≤ 0x17 then some (1, false)
  else if n = 0x18 then some (2, true)
  else if n = 0x19 then some (0, false)
  else if n = 0x1A then some (3, true)
  else if n < 0x20 then none
  else if n ≤ 0x21 then some (1, true)
  else if n ≤ 0x24 then some (0, false)
  else if n = 0x25 then some (1, true)
  else if n ≤ 0x27 then some (0, false)
  else if n < 0x30 then none
  else if n = 0x30 then some (1, true)
  else if n ≤ 0x33 then some (0, false)
  else if n = 0x34 then some (0, true)
  else if n = 0x35 then some (0, false)
  else if n < 0x40 then none
  else if n = 0x40 then some (1, true)
  else if n ≤ 0x42 then some (0, false)
  else if n = 0x43 then some (2, true)
  else if n < 0x50 then none
  else if n = 0x50 then some (1, true)
  else if n = 0x51 then some (1, false)
  else if n ≤ 0x53 then some (1, true)
  else if n = 0x54 then some (0, false)
  else if n = 0x55 then some (2, true)
  else if n < 0x60 then none
  else if n ≤ 0x61 then some (2, true)
  else if n ≤ 0x65 then some (1, true)
  else if n = 0x66 then some (1, false)
  else if n = 0x67 then some (3, true)
  else if n ≤ 0x6B then some (0, false)
  else if n < 0x70 then none
  else if n ≤ 0x72 then some (2, true)
  else if n ≤ 0x77 then some (1, true)
  else if n ≤ 0x7B then some (0, false)
  else if n < 0x80 then none
  else if n = 0x80 then some (0, true)
  else if n = 0x81 then some (1, true)
  else if n = 0x82 then some (3, true)
  else if n = 0x83 then some (0, false)
  else if n ≤ 0x85 then some (1, true)
  else if n = 0x86 then some (1, false)
  else if n < 0x90 then none
  else if n = 0x90 then some (3, true)
  else if n = 0x91 then some (1, true)
  else if n ≤ 0x93 then some (1, false)
  else if n ≤ 0x98 then some (1, true)
  else if n ≤ 0x9B then some (0, false)
  else if n < 0xA0 then none
  else if n = 0xA0 then some (1, false)
  else if n = 0xA1 then some (1, true)
  else if n = 0xA2 then some (0, false)
  else if n = 0xA3 then some (1, false)
  else if n = 0xA4 then some (2, true)
  else if n < 0xB0 then none
  else if n ≤ 0xB1 then some (2, true)
  else if n ≤ 0xB7 then some (0, false)
  else if n < 0xC0 then none
  else if n ≤ 0xC5 then some (3, true)
  else if n ≤ 0xC7 then some (2, true)
  else if n = 0xC8 then some (1, false)
  else if n ≤ 0xCA then some (0, false)
  else if n < 0xD0 then none
  else if n = 0xD0 then some (2, true)
  else if n ≤ 0xD2 then some (1, false)
  else if n = 0xD3 then some (1, true)
  else if n = 0xD4 then some (0, false)
  else if n = 0xD5 then some (2, true)
  else if n = 0xD6 then some (0, false)
  else if n < 0xE0 then none
  else if n = 0xE0 then some (0, false)
  else if n = 0xE1 then some (3, true)
  else if n = 0xE2 then some (1, false)
  else if n ≤ 0xE4 then some (3, true)
  else if n = 0xE5 then some (0, false)
  else none

/-- A level source (R406). -/
def isLevel (n : Nat) : Bool := match srcInfo n with | some (_, l) => l | none => false

/-- The default severity of a source (R406); S0 for a reserved number, which never raises a fault. -/
def defSev (n : Nat) : Fin 4 := match srcInfo n with | some (v, _) => v | none => 0

/-- Sources locked at their default severity (R408). -/
def sevLocked (n : Nat) : Bool := decide (0xC0 ≤ n ∧ n ≤ 0xCF) || n == 0x67 || n == 0x82 || n == 0x90

/-- The word FLT_SEV_m of the default severities (R431). -/
def defSevWord (m : Nat) : BitVec 32 := pack ((List.range 16).map fun i => (2 * i, (defSev (16 * m + i)).val))

/-- FLT_SEV_m as stored; an empty list stands for the defaults. -/
def Flt.sevWord (f : Flt) (m : Nat) : BitVec 32 := f.sev.getD m (defSevWord m)

/-- The severity configured for a source (R408), never below its default. -/
def Flt.sevOf (f : Flt) (n : Nat) : Fin 4 :=
  let v := fld (f.sevWord (n / 16)) (2 * (n % 16) + 1) (2 * (n % 16))
  if h : v < 4 then (if (defSev n).val ≤ v ∧ ¬ sevLocked n then ⟨v, h⟩ else defSev n) else defSev n

/-- A real condition of a source is present, for a given DETAIL. -/
def State.hasCond (s : State) (src detail : Nat) : Bool :=
  s.flt.conds.any fun c => c.src == src && c.detail == detail && !c.injected

/-- A condition of a source is present that reacts: a real one, or one injected in REACT mode (R423). -/
def State.reacting (s : State) (src : Nat) : Bool := s.flt.conds.any fun c => c.src == src && c.react

/-- A source injected in REACT mode is present (R423). -/
def State.injects (s : State) (src : Nat) : Bool := s.flt.conds.any fun c => c.src == src && c.injected && c.react

/-- A real condition of a source is present, for any DETAIL. -/
def State.hasSrc (s : State) (src : Nat) : Bool := s.flt.conds.any fun c => c.src == src && !c.injected

/-- A real fault arises (R406): its condition is present from now on. A level source whose condition is already present
raises nothing further; each occurrence of an event source is a fault, at the severity configured now (R408). The conditions stand with the
latest occurrence first. -/
def State.raise (s : State) (src detail : Nat) : State :=
  if s.hasCond src detail && isLevel src then s
  else s.onFlt fun f =>
    { f with
      newFaults := f.newFaults ++ [{ src := src, detail := detail, injected := false, react := true }]
      conds := { src := src, detail := detail, injected := false, react := true, sev := f.sevOf src } ::
        f.conds.filter fun c => !(c.src == src && c.detail == detail && !c.injected) }

/-- A real fault arises at once, or in the next CORE cycle. -/
def State.raiseAt (s : State) (now : Bool) (src detail : Nat) : State :=
  if now then s.raise src detail else s.onFlt fun f => { f with later := f.later ++ [(src, detail)] }

/-- The real condition of one source and DETAIL ends. -/
def State.endCond (s : State) (src detail : Nat) : State :=
  s.onFlt fun f => { f with conds := f.conds.filter fun c => !(c.src == src && c.detail == detail && !c.injected) }

/-- Every real condition of a source ends. -/
def State.endSrc (s : State) (src : Nat) : State :=
  s.onFlt fun f => { f with conds := f.conds.filter fun c => !(c.src == src && !c.injected) }

/-- Raise when the first flag holds, end the condition when it does not. -/
def State.level (s : State) (b : Bool) (src detail : Nat) : State := if b then s.raise src detail else s.endCond src detail

/-- A unit of the fence table of R417 is fenced. -/
def State.unitFenced (s : State) (i : Nat) : Bool := s.flt.fences.getLsbD i

/-- Ring `k` is fenced (R417). -/
def State.ringFenced (s : State) (k : Nat) : Bool := s.flt.ringFences.getLsbD k

/-! ### Small accessors -/

/-- A list with the element at one place changed. -/
def upd {α : Type} (l : List α) (i : Nat) (f : α → α) : List α :=
  match l, i with
  | [], _ => []
  | a :: l, 0 => f a :: l
  | a :: l, i + 1 => a :: upd l i f

/-- A wall-link port. -/
def State.link (s : State) (p : Port) : Link := match p with | .a => s.linkA | .b => s.linkB

/-- The state with one wall-link port changed. -/
def State.onLink (s : State) (p : Port) (f : Link → Link) : State :=
  match p with | .a => s.onLinkA f | .b => s.onLinkB f

/-- The other port. -/
def otherPort (p : Port) : Port := match p with | .a => .b | .b => .a

/-- DETAIL of a port: 0 A, 1 B (R409). -/
def portNo (p : Port) : Nat := match p with | .a => 0 | .b => 1

/-- The selectors and snapshots of a source (R516). -/
def State.per (s : State) (src : Source) : PerSource :=
  match src with
  | .tumbler => s.sel.tumbler | .service => s.sel.service | .portA => s.sel.portA | .portB => s.sel.portB | .jtag => s.sel.jtag

/-- The state with the selectors and snapshots of one source changed (R516). -/
def State.onPer (s : State) (src : Source) (f : PerSource → PerSource) : State :=
  s.onSel fun t =>
    match src with
    | .tumbler => { t with tumbler := f t.tumbler }
    | .service => { t with service := f t.service }
    | .portA => { t with portA := f t.portA }
    | .portB => { t with portB := f t.portB }
    | .jtag => { t with jtag := f t.jtag }

/-- A source with SERVICE authority (R240). -/
def isService (src : Source) : Bool := src == .service || src == .jtag

/-- One check unit. -/
def State.unit (s : State) (u : Nat) : Chk := s.chk.getD u {}

/-- The state with one check unit changed. -/
def State.onUnit (s : State) (u : Nat) (f : Chk → Chk) : State := { s with chk := upd s.chk u f }

/-- One Tumbler thread. -/
def State.thread (s : State) (t : Nat) : Thread := s.tum.threads.getD t {}

/-- The state with one Tumbler thread changed. -/
def State.onThread (s : State) (t : Nat) (f : Thread → Thread) : State :=
  s.onTum fun m => { m with threads := upd m.threads t f }

/-- One stream context. -/
def State.ctx (s : State) (n : Nat) : Ctx := s.ctxs.getD n {}

/-- The state with one stream context changed. -/
def State.onCtx (s : State) (n : Nat) (f : Ctx → Ctx) : State := { s with ctxs := upd s.ctxs n f }

/-- One ring. -/
def State.ring (s : State) (k : Nat) : Ring := s.rings.rings.getD k {}

/-- The state with one ring changed. -/
def State.onRing (s : State) (k : Nat) (f : Ring → Ring) : State :=
  s.onRings fun u => { u with rings := upd u.rings k f }

/-- One layer. -/
def State.layer (s : State) (i : Nat) : Layer := s.comp.layers.getD i {}

/-- The state with one layer changed. -/
def State.onLayer (s : State) (i : Nat) (f : Layer → Layer) : State :=
  s.onComp fun c => { c with layers := upd c.layers i f }

/-- The state with a function applied when a flag holds. -/
def State.when (s : State) (b : Bool) (f : State → State) : State := if b then f s else s

/-- A fold of a state over the numbers below `n`. -/
def State.each (s : State) (n : Nat) (f : State → Nat → State) : State := (List.range n).foldl f s

/-- The next free value’s number, and the counter advanced (log entry 8). -/
def State.takeFree (s : State) : State := { s with free := s.free + 1 }

/-- The engine runs BOOT or a later state: the logic die is not held in reset. -/
def State.running (s : State) : Bool := s.eng.st != .off && s.eng.st != .standby

/-- The local counter in whole ns (R316). -/
def State.localNs (s : State) : Nat := s.time.local_ / 65536

/-- The local counter in µs. -/
def State.localUs (s : State) : Nat := s.time.local_ / 65536000

/-- What a register access answered is noted for its observer. -/
def State.answer (s : State) (src : Source) (addr : Nat) (data : BitVec 32) (status : Byte) : State :=
  { s with acc := some { source := src, addr := addr, data := data, status := status } }

end Sys2Proof.Machine
end

