-- ==== Sys2Proof/Machine/Flags.lean ====
section
/-!
DEFINITION. Sys2Proof/Machine/Flags.lean: every flag that the spec computes from other state: DEGRADED, FENCED_ANY,
SAFE_DEMAND, the function in force, open records, the fault pair’s demand, and the STATE byte of a reply.
-/

namespace Sys2Proof.Machine

/-- The value of ID_STATE.STATE (state table before R22). -/
def EngState.code : EngState → Nat
  | .off => 0 | .standby => 1 | .boot => 2 | .join => 3 | .dark => 4 | .lit => 5 | .safe => 6 | .service => 7 | .update => 8

/-- Rank of a safety function: SLO highest, then SSG, then SFD (R377). -/
def SafeFunc.rank : SafeFunc → Nat
  | .sfd => 1 | .ssg => 2 | .slo => 3

/-- The code of a safety function: 1 SFD, 2 SLO, 3 SSG (R390, R404). -/
def SafeFunc.code : SafeFunc → Nat
  | .sfd => 1 | .slo => 2 | .ssg => 3

/-- The safety function of a code (R387, R390). -/
def funcOf (n : Nat) : Option SafeFunc := if n = 1 then some .sfd else if n = 2 then some .slo else if n = 3 then some .ssg else none

/-- The higher-ranked of two demands (R377). -/
def higher (a b : Option SafeFunc) : Option SafeFunc :=
  match a, b with
  | none, b => b
  | a, none => a
  | some x, some y => if x.rank < y.rank then some y else some x

/-- The function in force: the highest-ranked among the active causes (R377). -/
def Saf.func (f : Saf) : Option SafeFunc :=
  higher f.inA (higher f.inB (higher f.bcDemand (higher f.watchdog (higher f.request f.internal))))

/-- The active causes in the bit layout of R376. -/
def Saf.causes (f : Saf) : Nat :=
  b2n f.inA.isSome + 2 * b2n f.inB.isSome + 4 * b2n f.bcDemand.isSome + 8 * b2n f.watchdog.isSome
    + 16 * b2n f.request.isSome + 32 * b2n f.internal.isSome

/-- A safety demand is active (R378). -/
def State.safeDemand (s : State) : Bool := s.saf.func.isSome

/-- The condition of a source and DETAIL is present, real or injected as the record is. -/
def condPresent (f : Flt) (inj : Bool) (m : Member) : Bool :=
  f.conds.any fun c => c.src == m.src && c.detail == m.detail && c.injected == inj

/-- ACTIVE of a record: the condition of any source in it is present (R409). -/
def recActive (f : Flt) (r : FaultRecord) : Bool := r.members.any fun m => condPresent f r.injected m

/-- A record is closed (R416): S0 at creation; S1 when its conditions are gone; S2 and S3 when also acknowledged. -/
def recClosed (f : Flt) (r : FaultRecord) : Bool :=
  if r.severity.val = 0 then true
  else if r.severity.val = 1 then !recActive f r
  else !recActive f r && r.acked

/-- A record holds a fault of at least this severity that reacts: a real one, or one injected in REACT mode (R423). -/
def FaultRecord.reacts (r : FaultRecord) (v : Nat) : Bool := r.members.any fun m => m.react && decide (v ≤ m.sev.val)

/-- The records held. -/
def Flt.records (f : Flt) : List FaultRecord := f.slots.filterMap id

/-- How many open records have a severity (R431). -/
def Flt.openCount (f : Flt) (v : Nat) : Nat := (f.records.filter fun r => r.severity.val == v && !recClosed f r).length

/-- DEGRADED: an S1 or S2 condition is present or an S2 record is open (R416); a condition held by an injection in
NO_REACTION mode sets nothing, nor does one merged into a record (R423). -/
def Flt.degraded (f : Flt) : Bool :=
  (f.conds.any fun c => (c.sev.val == 1 || c.sev.val == 2) && c.react)
    || (f.records.any fun r => r.severity.val == 2 && r.reacts 2 && !recClosed f r)

/-- DEGRADED of ID_STATE (R28). -/
def State.degraded (s : State) : Bool := s.flt.degraded

/-- FENCED_ANY of ID_STATE (R29, R417). -/
def State.fencedAny (s : State) : Bool := s.flt.fences != 0 || s.flt.ringFences != 0

/-- A CRITICAL record is open (R22’s BOOT row, R24, R416). -/
def State.criticalOpen (s : State) : Bool := s.flt.records.any fun r => r.reacts 3 && !recClosed s.flt r

/-- A CRITICAL record is unacknowledged (R22’s SERVICE row, R25). -/
def State.criticalUnacked (s : State) : Bool := s.flt.records.any fun r => r.reacts 3 && !r.acked

/-- The fault pair must show FAULT (R419). The alive toggle’s absence is a row of its own. -/
def State.pairDemand (s : State) : Bool :=
  (s.flt.records.any fun r => r.members.any fun m =>
      m.react && decide (2 ≤ m.sev.val) && (!r.acked || condPresent s.flt r.injected m))
    || s.eng.st == .off || s.eng.st == .standby || s.eng.st == .boot

/-- The STATE byte of a reply (R244). -/
def State.stateByte (s : State) : Nat :=
  s.eng.st.code + 16 * b2n s.eng.stale + 32 * b2n s.degraded + 64 * b2n s.safeDemand

/-- The status codes of R244. -/
def stOk : Byte := 0x00
def stBadOpcode : Byte := 0x01
def stBadAddr : Byte := 0x02
def stBadLen : Byte := 0x03
def stDeniedPort : Byte := 0x04
def stRefusedState : Byte := 0x05
def stBusy : Byte := 0x06
def stBadTag : Byte := 0x07
def stBadSig : Byte := 0x08
def stNotReady : Byte := 0x09
def stBudget : Byte := 0x0A
def stFenced : Byte := 0x0B
def stStale : Byte := 0x0C

/-- Port A or B is ACTIVE (R272). -/
def State.active (s : State) (p : Port) : Bool := (s.link p).st == .active

/-- The ring’s cells can be reached: it is in RING or Hinge mode (R159). -/
def Ring.up (r : Ring) : Bool := r.mode == .ring || r.mode == .hinge

/-- Address `c` of a ring can be reached: below n and not in the gap between the arcs (R151). -/
def Ring.reaches (r : Ring) (c : Nat) : Bool :=
  decide (c < r.n) &&
    match r.mode with
    | .ring => true
    | .hinge => (match r.aLast with | some a => decide (c ≤ a) | none => false)
        || (match r.bFirst with | some b => decide (b ≤ c) | none => false)
    | _ => false

/-- The end that serves address `c`: true for PXO (R152). -/
def Ring.pxo (r : Ring) (c : Nat) : Bool :=
  r.mode == .ring || (match r.aLast with | some a => decide (c ≤ a) | none => false)

/-- A cell counts as silent (R147): in the frame in progress, or in the last one while it has not returned in this one. -/
def Cell.isSilent (x : Cell) : Bool := x.silentNow || (x.silentLast && !x.returned)

/-- How many cells of a ring cannot be reached (RING_CELLERR.DARK). -/
def Ring.dark (r : Ring) : Nat := ((List.range r.n).filter fun c => !r.reaches c).length

/-- One cell’s entry. -/
def State.cell (s : State) (k c : Nat) : Cell := sget ({} : Cell) (1024 * k + c) s.rings.cells

/-- The state with one cell’s entry changed. -/
def State.onCell (s : State) (k c : Nat) (f : Cell → Cell) : State :=
  s.onRings fun u => { u with cells := sset {} (1024 * k + c) (f (sget {} (1024 * k + c) u.cells)) u.cells }

end Sys2Proof.Machine
end

