-- ==== Sys2Proof/Machine/NvmLayout.lean ====
section
/-!
DEFINITION. Sys2Proof/Machine/NvmLayout.lean: the layout of the NVM, its pages, and the stored copies with their header pages (R450 to
R453): when a copy is valid, which is the newest, and what a store and an erase leave.
-/

namespace Sys2Proof.Machine

/-! ### Regions and pages (R450, R451) -/

/-- A region of the NVM (R450). -/
inductive NvmRegion where
  | slot (k : Bool)
  | settings (area copy : Bool)
  | program (copy : Bool)
  | plane
  | journal
  | log
  | bootControl (copy : Bool)
  | safety (copy : Bool)
  | retained (copy : Bool)
  | cairnHeader (copy : Bool)
  | reserved
  | sealed
  deriving DecidableEq, Repr

/-- Offset and size of a region (R450); a settings area holds two copies of 128 KiB (R458). -/
def NvmRegion.span : NvmRegion → Nat × Nat
  | .slot k => (0x100000 * b2n k, 0x100000)
  | .settings a c => (0x200000 + 0x40000 * b2n a + 0x20000 * b2n c, 0x20000)
  | .program c => (0x280000 + 0x10000 * b2n c, 0x10000)
  | .plane => (0x2A0000, 0x40000)
  | .journal => (0x2E0000, 0x80000)
  | .log => (0x360000, 0x60000)
  | .bootControl c => (0x3C0000 + 0x1000 * b2n c, 0x1000)
  | .safety c => (0x3C2000 + 0x1000 * b2n c, 0x1000)
  | .retained c => (0x3C4000 + 0x1000 * b2n c, 0x1000)
  | .cairnHeader c => (0x3C6000 + 0x1000 * b2n c, 0x1000)
  | .reserved => (0x3C8000, 0x18000)
  | .sealed => (0x3E0000, 0x20000)

/-- The regions in the order of their offsets; together they fill the NVM. -/
def nvmRegions : List NvmRegion :=
  [.slot false, .slot true, .settings false false, .settings false true, .settings true false, .settings true true, .program false, .program true,
   .plane, .journal, .log, .bootControl false, .bootControl true, .safety false, .safety true, .retained false, .retained true,
   .cairnHeader false, .cairnHeader true, .reserved, .sealed]

/-- The region that holds an NVM offset, and the offset inside it. -/
def regionAt (o : Nat) : Option (NvmRegion × Nat) :=
  (nvmRegions.find? fun r => decide (r.span.1 ≤ o) && decide (o < r.span.1 + r.span.2)).map fun r => (r, o - r.span.1)

/-- KIND of the copies that a region holds (R452); none where no header page stands. -/
def NvmRegion.kind : NvmRegion → Option Nat
  | .bootControl _ => some 1 | .safety _ => some 2 | .retained _ => some 3 | .cairnHeader _ => some 4 | .settings _ _ => some 5
  | .journal => some 6
  | .slot _ | .program _ | .plane | .log | .reserved | .sealed => none

/-- A page (R451). -/
def nvmPage : Nat := 512

/-- The pages that `n` bytes take (R451, R454). -/
def pagesOf (n : Nat) : Nat := (n + nvmPage - 1) / nvmPage

/-! ### What the bodies hold -/

/-- The state of a slot in its code (R464). -/
def SlotState.code : SlotState → Nat
  | .empty => 0 | .staging => 1 | .staged => 2 | .trial => 3 | .confirmed => 4 | .old => 5 | .invalid => 6

/-- The 16 bytes of the boot control record (R464); the order of its fields is that in which R464 names them (log entry 85). -/
def BootRecord.bytes (b : BootRecord) : List Byte :=
  leBytes 1 b.slot0.code ++ leBytes 1 b.slot1.code ++ leBytes 1 b.tries ++ leBytes 1 (b2n b.areaL) ++ leBytes 1 b.confirmMin ++ leBytes 11 0

/-- The 32 bytes of a safety parameter set (R387). -/
def SafetyParams.bytes (p : SafetyParams) : List Byte :=
  leBytes 1 1 ++ leBytes 1 (b2n p.tpEn) ++ leBytes 1 p.filterMs ++ leBytes 1 p.ssgLevel ++ leBytes 2 p.discMs ++ leBytes 2 p.fadeMs
    ++ leBytes 2 p.wdgMs ++ leBytes 1 p.ageTolMs ++ leBytes 1 p.wdgFunc.code ++ leBytes 4 p.masterConn.toNat ++ leBytes 4 p.ownConn.toNat
    ++ leBytes 1 p.scfgExpect.toNat ++ leBytes 7 0 ++ leBytes 4 p.pcrc.toNat

/-- The words of a table, as bytes. -/
def wordBytes (n : Nat) (p : Sparse Word) : List Byte := (List.range n).flatMap fun i => leBytes 4 (sget 0 i p).toNat

/-- The body of a settings copy (R457), its fields in the order of the structure: the spec lists what it holds and no offsets (log entry 85). -/
def Settings.bytes (x : Settings) : List Byte :=
  leBytes 2 x.tileId.toNat ++ leBytes 4 x.wallEpoch.toNat ++ leBytes 4 x.settingsEpoch.toNat ++ leBytes 16 x.tileUid.toNat
    ++ padTo 64 (bytesOf x.sev) ++ leBytes 1 x.rateA ++ leBytes 1 x.rateB ++ leBytes 2 x.envLimit ++ leBytes 1 x.phasesM1
    ++ leBytes 4 x.ledVlim.toNat ++ leBytes 1 x.plimitW ++ leBytes 1 x.kneeC ++ leBytes 1 x.ageCtrl.toNat
    ++ (List.range 3).flatMap (fun i => leBytes 2 (x.levels.getD i 0)) ++ leBytes 2 x.exclude ++ leBytes 1 x.avsAddr ++ leBytes 1 x.avsExp
    ++ leBytes 4 x.avsLim.toNat ++ leBytes 4 x.ntcCfg.toNat ++ leBytes 4 x.ntcMap0.toNat ++ leBytes 4 x.ntcMap1.toNat

/-- The body of the Cairn header (R469): the palette codes and the CRC. -/
def CairnHeader.bytes (h : CairnHeader) : List Byte :=
  (List.range 9).flatMap (fun i => leBytes 2 (h.palette.getD i 0).toNat) ++ leBytes 4 h.crc.toNat

/-- Word `i` of a program image. -/
def imageWord (p : Sparse Word) (i : Nat) : Word := sget 0 i p

/-- Thread `n`’s entry in a program header (R216). -/
def imageEntry (p : Sparse Word) (n : Nat) : Nat := fld (imageWord p (2 + n / 2)) (16 * (n % 2) + 15) (16 * (n % 2))

/-- The fields of a program image are in range (R216, R217). -/
def imageFieldsOk (p : Sparse Word) : Bool :=
  let len := (imageWord p 1).toNat
  imageWord p 0 == 0x544D424C && decide (1 ≤ len ∧ len ≤ 16368)
    && ((List.range 8).all fun n => imageEntry p n == 0xFFFF || decide (16 ≤ imageEntry p n ∧ imageEntry p n ≤ 15 + len))
    && ((List.range 8).all fun i => imageWord p (7 + i) == 0)

/-- The CRC of a program image (R216). -/
def imageCrc (p : Sparse Word) : Nat :=
  crc32c (bytesOf ((List.range 15).map (imageWord p) ++ (List.range (imageWord p 1).toNat).map fun i => imageWord p (16 + i)))

/-- The program check of R217: OK, BAD_LEN for a field out of range, BAD_SIG for a CRC mismatch. -/
def imageCheck (p : Sparse Word) : Byte :=
  if !imageFieldsOk p then stBadLen else if imageCrc p != (imageWord p 15).toNat then stBadSig else stOk

/-! ### Copies (R452, R453) -/

/-- What a stored item is: the region of each of its copies, its body as bytes, and for a Tumbler program, whose copies have no header
page, how an image validates itself and its GENERATION (R217, R452). -/
structure Layout (α : Type) where
  region : Bool → NvmRegion
  bytes : α → List Byte
  own : α → Bool := fun _ => false
  ownGen : α → Word := fun _ => 0

/-- The boot control record (R464). -/
def bootLayout : Layout BootRecord := { region := .bootControl, bytes := BootRecord.bytes }
/-- The safety parameter set (R387). -/
def safetyLayout : Layout SafetyParams := { region := .safety, bytes := SafetyParams.bytes }
/-- The Tumbler retained region (R219). -/
def retainedLayout : Layout (Sparse Word) := { region := .retained, bytes := wordBytes 256 }
/-- The Cairn header (R469). -/
def cairnLayout : Layout CairnHeader := { region := .cairnHeader, bytes := CairnHeader.bytes }
/-- A settings area (R458). -/
def settingsLayout (area : Bool) : Layout Settings := { region := .settings area, bytes := Settings.bytes }
/-- The Tumbler program store (R217, R218); GENERATION is word 6 of the image. -/
def programLayout : Layout (Sparse Word) :=
  { region := .program, bytes := wordBytes 16384, own := fun p => imageCheck p == stOk, ownGen := fun p => imageWord p 6 }

/-- MAGIC of a header page (R452). -/
def copyMagic : Word := 0x4D564E4F

/-- COMMIT of a header page (R452). -/
def copyCommit : Word := 0x5A5AC3C3

/-- The 512 bytes of a header page (R452). -/
def Copy.page {α : Type} (c : Copy α) : List Byte :=
  leBytes 4 c.magic.toNat ++ leBytes 2 c.kind ++ leBytes 2 c.format ++ leBytes 4 c.gen.toNat ++ leBytes 4 c.len ++ leBytes 4 c.crc.toNat
    ++ leBytes 488 0 ++ leBytes 4 c.commit.toNat

/-- Copy `k` of an item is valid (R453): MAGIC, KIND and COMMIT hold their values, BODY_LEN fits its region, and the CRC matches; a program
copy validates itself (R217). A copy with a page that cannot be read is not (R451, R456). -/
def Layout.valid {α : Type} (L : Layout α) (k : Bool) (c : Copy α) : Bool :=
  !c.erased && !c.bad &&
    match (L.region k).kind with
    | none => L.own c.body
    | some n => c.magic == copyMagic && c.kind == n && c.commit == copyCommit && decide (nvmPage + c.len ≤ (L.region k).span.2)
        && c.len == (L.bytes c.body).length && c.crc == BitVec.ofNat 32 (crc32c (L.bytes c.body))

/-- A copy as a store leaves it once COMMIT is written (R453). -/
def Layout.write {α : Type} (L : Layout α) (k : Bool) (body : α) (gen : Word) (format : Nat) : Copy α :=
  match (L.region k).kind with
  | none => { gen := L.ownGen body, erased := false, body := body }
  | some n =>
    { magic := copyMagic, kind := n, format := format, gen := gen, len := (L.bytes body).length
      crc := BitVec.ofNat 32 (crc32c (L.bytes body)), commit := copyCommit, erased := false, body := body }

/-- The copy at the higher offset holds the newest valid generation (R453). -/
def Pair.newestIs1 {α : Type} (p : Pair α) (L : Layout α) : Bool :=
  match L.valid false p.c0, L.valid true p.c1 with
  | true, true => newer32 p.c1.gen p.c0.gen
  | false, true => true
  | _, _ => false

/-- The newest valid copy of a pair (R453): the newer GENERATION, the lower offset when equal; none when no copy is valid. -/
def Pair.newest {α : Type} (p : Pair α) (L : Layout α) : Option (Copy α) :=
  if p.newestIs1 L then some p.c1 else if L.valid false p.c0 then some p.c0 else none

/-- The copy that the next store writes (R453): the one that does not hold the newest valid generation; without a valid copy the one at the
lower offset (DESIGN CHOICE, log entry 85). True for the higher offset. -/
def Pair.next {α : Type} (p : Pair α) (L : Layout α) : Bool := !p.newestIs1 L && L.valid false p.c0

/-- One copy of a pair. -/
def Pair.copy {α : Type} (p : Pair α) (k : Bool) : Copy α := if k then p.c1 else p.c0

/-- A pair with one copy changed. -/
def Pair.onCopy {α : Type} (p : Pair α) (k : Bool) (f : Copy α → Copy α) : Pair α :=
  if k then { p with c1 := f p.c1 } else { p with c0 := f p.c0 }

/-- A completed store (R453), one generation on. -/
def Pair.store {α : Type} (p : Pair α) (L : Layout α) (body : α) (format : Nat) : Pair α :=
  let gen := match p.newest L with | some c => c.gen + 1 | none => 1
  p.onCopy (p.next L) fun _ => L.write (p.next L) body gen format

/-- A copy erased: every word reads ones. -/
def Copy.erase {α : Type} (c : Copy α) : Copy α := { body := c.body }

/-- The next target erased (R454). -/
def Pair.eraseNext {α : Type} (p : Pair α) (L : Layout α) : Pair α := p.onCopy (p.next L) Copy.erase

/-- The target of the next store is erased. -/
def Pair.targetErased {α : Type} (p : Pair α) (L : Layout α) : Bool := (p.copy (p.next L)).erased

/-- A copy whose store or erase was interrupted, or a page of which the ECC cannot correct (R451, R453, R456). -/
def Copy.spoil {α : Type} (c : Copy α) : Copy α := { c with bad := true, erased := false }

/-- The copy that a store was writing when it was interrupted (R453); the other copy stays. -/
def Pair.spoilNext {α : Type} (p : Pair α) (L : Layout α) : Pair α := p.onCopy (p.next L) Copy.spoil

/-- The newest copy torn: the store that wrote it did not come to its COMMIT (R453). -/
def Pair.tear {α : Type} (p : Pair α) (L : Layout α) : Pair α := p.onCopy (p.newestIs1 L) Copy.spoil

/-- A page of a copy, numbered from its header, is one that the copy uses; a program copy fills its region. -/
def Copy.uses {α : Type} (c : Copy α) (headed : Bool) (page : Nat) : Bool := !headed || decide (page < 1 + pagesOf c.len)

/-- A page of copy `k` cannot be corrected (R451). -/
def Pair.spoilPage {α : Type} (p : Pair α) (k : Bool) (headed : Bool) (page : Nat) : Pair α :=
  p.onCopy k fun c => if c.uses headed page then c.spoil else c

/-- A page that the ECC cannot correct invalidates the copy that holds it (R451): a stored copy, a firmware slot, the plane or the journal
entry. The log and the sealed region have no copies, and what a bad page there loses is not stated (log entry 26). -/
def Nvm.spoilAt (v : Nvm) (page : Nat) : Nvm :=
  match regionAt (nvmPage * page) with
  | none => v
  | some (r, o) =>
    let n := o / nvmPage
    match r with
    | .slot k => if k then { v with slot1 := { v.slot1 with bad := true } } else { v with slot0 := { v.slot0 with bad := true } }
    | .settings a k => if a then { v with area1 := v.area1.spoilPage k true n } else { v with area0 := v.area0.spoilPage k true n }
    | .program k => { v with prog := v.prog.spoilPage k false n }
    | .plane => { v with planeBad := true }
    | .journal => { v with journal := none }
    | .bootControl k => { v with boot := v.boot.spoilPage k true n }
    | .safety k => { v with safety := v.safety.spoilPage k true n }
    | .retained k => { v with retained := v.retained.spoilPage k true n }
    | .cairnHeader k => { v with cairnHdr := v.cairnHdr.spoilPage k true n }
    | .log | .reserved | .sealed => v

/-! ### The bytes at an offset (R450) -/

/-- A stored copy as bytes: the header page, then the body; a program copy is its image. -/
def Layout.copyBytes {α : Type} (L : Layout α) (k : Bool) (c : Copy α) : List Byte :=
  if c.erased then []
  else match (L.region k).kind with
    | none => L.bytes c.body
    | some _ => c.page ++ L.bytes c.body

/-- The 32 bytes of a log entry (R472). -/
def LogEntry.bytes (e : LogEntry) : List Byte := leBytes 1 e.typ ++ leBytes 1 e.detail ++ [0, 0] ++ leBytes 8 e.time.toNat ++ padTo 20 e.data

/-- The bytes of a region from its offset on; what follows them is erased and reads ones. The log begins where its oldest entry was last
appended to an empty region (log entry 85); the layout of the sealed key region is not stated. -/
def Nvm.regionBytes (v : Nvm) : NvmRegion → List Byte
  | .slot k => if k then v.slot1.header ++ v.slot1.body else v.slot0.header ++ v.slot0.body
  | .settings a k => (settingsLayout a).copyBytes k ((if a then v.area1 else v.area0).copy k)
  | .program k => programLayout.copyBytes k (v.prog.copy k)
  | .plane => wordBytes 65536 v.plane
  | .journal => match v.journal with | some (p, h) => wordBytes 65536 p ++ h.bytes | none => []
  | .log => v.log.reverse.flatMap LogEntry.bytes
  | .bootControl k => bootLayout.copyBytes k (v.boot.copy k)
  | .safety k => safetyLayout.copyBytes k (v.safety.copy k)
  | .retained k => retainedLayout.copyBytes k (v.retained.copy k)
  | .cairnHeader k => cairnLayout.copyBytes k (v.cairnHdr.copy k)
  | .reserved | .sealed => []

/-- The byte at an NVM offset (R450). No port reaches it. -/
def Nvm.byteAt (v : Nvm) (o : Nat) : Byte :=
  match regionAt o with
  | some (r, i) => (v.regionBytes r).getD i 0xFF
  | none => 0xFF

end Sys2Proof.Machine
end

