-- ==== Sys2Proof/Machine/TimeOps.lean ====
section
/-!
DEFINITION. Sys2Proof/Machine/TimeOps.lean: readings of the clocks, flip arithmetic, captures and Tumbler events
(chapters 7 and 11).
-/

namespace Sys2Proof.Machine

/-- A clock that held `ref` at local time `t0` and advances at 1 + rate, read at local time `t` (2^-16 ns). -/
def extrapolate (ref : Int) (t0 : Nat) (ratePpb : Int) (t : Nat) : Int :=
  ref + ((t : Int) - (t0 : Int)) * (1000000000 + ratePpb) / 1000000000

/-- W in 2^-16 ns (R317, R330). -/
def WTime.w (x : WTime) : Int := extrapolate x.refW x.refLocal x.ratePpb x.local_

/-- One time domain. -/
def WTime.dom (x : WTime) (d : Bool) : Domain := if d then x.d1 else x.d0

/-- The clocks with one domain changed. -/
def WTime.onDom (x : WTime) (d : Bool) (f : Domain → Domain) : WTime :=
  if d then { x with d1 := f x.d1 } else { x with d0 := f x.d0 }

/-- TD_d in 2^-16 ns (R326). -/
def WTime.td (x : WTime) (d : Bool) : Int :=
  extrapolate (x.dom d).refTd (x.dom d).refLocal (x.dom d).ratePpb x.local_

/-- What every reader of wall time reads, in 2^-16 ns: W, or the local counter while W is not valid (R318). -/
def WTime.now (x : WTime) : Nat := if x.valid then x.w.toNat else x.local_

/-- That reading in whole ns. -/
def State.nowNs (s : State) : Nat := s.time.now / 65536

/-- W in whole ns, 0 while it is not valid. -/
def State.wNs (s : State) : Nat := if s.time.valid then s.time.w.toNat / 65536 else 0

/-- `now − target` on the low 48 bits, as a signed value (R335). -/
def since48 (now target : Nat) : Int := ofSfield 48 (((now : Int) - (target : Int)) % (2 ^ 48 : Int)).toNat

/-- The target of a compare or of the snapshot (R336). -/
def target48 (lo hi : BitVec 32) : Nat := lo.toNat + fld hi 15 0 * 2 ^ 32

/-- A 48-bit target moved by a difference of readings (R318). -/
def moveTarget (d : Int) (lo hi : BitVec 32) : BitVec 32 × BitVec 32 :=
  let t := (((target48 lo hi : Nat) : Int) + d) % (2 ^ 48 : Int)
  (BitVec.ofNat 32 t.toNat, BitVec.ofNat 32 (t.toNat / 2 ^ 32 % 2 ^ 16 + fld hi 31 16 * 2 ^ 16))

/-- Every armed compare and snapshot target moved by the difference, in ns, between two readings (R318). -/
def WTime.moveTargets (x : WTime) (d : Int) : WTime :=
  { x with
    cmps := x.cmps.map fun c =>
      if c.armed then { c with lo := (moveTarget d c.lo c.hi).1, hi := (moveTarget d c.lo c.hi).2 } else c
    adcLo := if x.adcArmed then (moveTarget d x.adcLo x.adcHi).1 else x.adcLo
    adcHi := if x.adcArmed then (moveTarget d x.adcLo x.adcHi).2 else x.adcHi }

/-- The instant of flip `n` in ns of W: ceil(n × DEN × 10^9 / NUM) (R319). -/
def flipNs (num den n : Nat) : Nat := (n * den * 1000000000 + (num - 1)) / num

/-- The flip number at W: floor(W × NUM / (DEN × 10^9)) (R319). -/
def flipAt (num den ns : Nat) : Nat := ns * num / (den * 1000000000)

/-- The number of the next flip, 0 while W is not valid (R232); while the frame rate changes it is F, at the rate that it leaves, then F′, the
first flip of the new grid at least one new period after F (R63). -/
def State.nextFlip (s : State) : Nat :=
  let c := s.comp
  let n := flipAt c.num c.den s.wNs + 1
  if !s.time.valid then 0
  else if c.rateStep = 1 then c.rateFlip
  else if c.rateStep = 2 then max n ((c.rateFlip * c.wasDen * c.num + c.den * c.wasNum + (c.den * c.wasNum - 1)) / (c.den * c.wasNum))
  else n

/-- The frame period in ns, rounded (R232). -/
def State.framePeriodNs (s : State) : Nat := (s.comp.den * 1000000000 + s.comp.num / 2) / s.comp.num

/-! ### Tumbler threads and events -/

/-- A general register: G0 reads zero (R222). -/
def Thread.reg (t : Thread) (r : Fin 16) : BitVec 32 := if r.val = 0 then 0 else t.g.getD r.val 0

/-- The register file with a result written: a result for G0 is discarded (R222). -/
def Thread.setReg (t : Thread) (r : Fin 16) (v : BitVec 32) : Thread :=
  if r.val = 0 then t else { t with g := t.g.set r.val v }

/-- A wait ends: the thread becomes READY with `v` in rd, and its instruction count starts again (R213, R233). -/
def Thread.wake (t : Thread) (rd : Fin 16) (v : BitVec 32) : Thread :=
  { t.setReg rd v with st := .ready, wait := .none, issued := 0 }

/-- A thread that waits for events and has a matching one pending ends its wait (R229). -/
def Thread.checkEvents (t : Thread) : Thread :=
  match t.st, t.wait with
  | .waiting, .events rd mask _ =>
    if t.pending &&& mask = 0 then t
    else { t.wake rd (t.pending &&& mask) with pending := t.pending &&& ~~~(t.pending &&& mask) }
  | _, _ => t

/-- The pending bit of event `e` set, and a wait for it ended. -/
def Thread.post (t : Thread) (e : Nat) : Thread :=
  if t.st == .halted then t else { t with pending := t.pending ||| BitVec.ofNat 32 (2 ^ e) }.checkEvents

/-- The first thread that loses an occurrence of event `e`, because its bit is already set (R228). -/
def State.losers (s : State) (e : Nat) : List Nat :=
  (List.range 8).filter fun t => (s.thread t).st != .halted && (s.thread t).pending.getLsbD e

/-- Event `e` fires (R227): its bit is set in every thread that is not halted; lost occurrences are counted and raise TUMBLER_EVT_LOST
(R228): at once, or, when not `now`, in the next CORE cycle (log entry 10). -/
def State.fireWith (s : State) (now : Bool) (e : Nat) : State :=
  let lost := s.losers e
  let s1 := s.onTum fun m =>
    { m with
      threads := m.threads.map fun t => t.post e
      evtLost := sat 16 (m.evtLost + lost.length)
      evtThread := lost.getLast?.getD m.evtThread
      evtEvent := if lost.isEmpty then m.evtEvent else e }
  if lost.isEmpty then s1 else s1.raiseAt now 0xA2 (lost.getLast?.getD 0)

/-- Event `e` fires. -/
def State.fire (s : State) (e : Nat) : State := s.fireWith true e

/-- A capture queued behind those before it, but ahead of those of the same cycle with a higher source (R338). -/
def queueCapture : List Capture → Capture → List Capture
  | [], c => [c]
  | x :: l, c => if x.stamp = c.stamp ∧ x.wValid = c.wValid ∧ c.source < x.source then c :: x :: l else x :: queueCapture l c

/-- A capture of source `src` (R338): recorded with its stamp, or lost when the FIFO is full; a loss raises TIME_CAP_OVERFLOW (R340),
at once or, when not `now`, in the next CORE cycle (log entry 10). -/
def State.captureWith (s : State) (now : Bool) (src : Nat) (rising : Bool) : State :=
  if !s.time.capEn.getLsbD src then s
  else if s.time.caps.length ≥ 16 then
    let s1 := s.onTime fun x => { x with capLost := true }
    s1.raiseAt now 0x35 0
  else
    (s.onTime fun x =>
      { x with
        caps := queueCapture x.caps { source := src, edge := rising, wValid := x.valid, stamp := s.nowNs % 2 ^ 48 } }).fireWith now 26

/-- A capture. -/
def State.capture (s : State) (src : Nat) (rising : Bool) : State := s.captureWith true src rising

/-- A thread halts with a cause (R225). -/
def Thread.halt (t : Thread) (cause : Nat) : Thread := { t with st := .halted, cause := cause, wait := .none }

/-- Every thread that is not halted halts with a cause. -/
def State.haltAll (s : State) (cause : Nat) : State :=
  s.onTum fun m => { m with threads := m.threads.map fun t => if t.st == .halted then t else t.halt cause }

/-- Every thread is HALTED (R218). -/
def State.allHalted (s : State) : Bool := s.tum.threads.all fun t => t.st == .halted

/-- A thread that stalls in a device operation gets its result (R234). -/
def State.deviceDone (s : State) (t : Nat) (v : BitVec 32) : State :=
  s.onThread t fun x =>
    match x.st, x.wait with
    | .stalled, .device rd => { x.setReg rd v with st := .ready, wait := .none }
    | _, _ => x

/-! ### Program and data memory -/

/-- An instruction word of program memory (R216). -/
def State.progWord (s : State) (i : Nat) : BitVec 32 := sget 0 i s.tum.prog

/-- A word of data memory by its index (R219). -/
def State.dmemWord (s : State) (i : Nat) : BitVec 32 := sget 0 i s.tum.dmem

/-- The state with a word of data memory written. -/
def State.setDmem (s : State) (i : Nat) (v : BitVec 32) : State := s.onTum fun m => { m with dmem := sset 0 i v m.dmem }

/-- A byte of data memory (R219, little-endian). -/
def State.dmemByte (s : State) (a : Nat) : Byte := (s.dmemWord (a / 4)).extractLsb' (8 * (a % 4)) 8

/-- Bytes of data memory. -/
def State.dmemBytes (s : State) (a n : Nat) : List Byte := (List.range n).map fun i => s.dmemByte (a + i)

/-- A word with one byte replaced. -/
def setByte (w : BitVec 32) (i : Nat) (b : Byte) : BitVec 32 :=
  (w &&& ~~~(BitVec.ofNat 32 (0xFF * 2 ^ (8 * i)))) ||| BitVec.ofNat 32 (b.toNat * 2 ^ (8 * i))

/-- A field of the program header (R216). -/
def progEntry (s : State) (n : Nat) : Nat := imageEntry s.tum.prog n

/-- The program check of R217 on program memory. -/
def progCheck (s : State) : Byte :=
  imageCheck s.tum.prog

/-- The result of a program check reported in TUM_PROG_STATUS (R217, R238). -/
def State.reportProg (s : State) : State :=
  s.onTum fun m => { m with progCode := progCheck s, progFresh := true }

/-- A result that is still to come for thread `n` is discarded (R237). -/
def Issuer.discard (n : Nat) (i : Issuer) : Issuer := match i with | .thread t _ => if t.val = n then .register else i | i => i

/-- Operations of thread `n` that still run lose whom to answer: a thread that starts afresh waits for none (R215, R237). -/
def State.discardResults (s : State) (n : Nat) : State :=
  (s.onComp fun c => { c with queue := c.queue.map fun q => { q with by_ := q.by_.discard n } }).onCol fun c =>
    { c with landings := c.landings.map fun l => { l with by_ := l.by_.discard n } }

/-- A thread at its entry point with G1 to G15 zero, an empty stack and no pending events (R215). -/
def State.startThread (s : State) (n : Nat) : State :=
  (s.discardResults n).onThread n fun t =>
    { t with pc := progEntry s n, g := List.replicate 16 0, stack := [], pending := 0, st := .ready, cause := 0, issued := 0,
             wait := .none }

/-- The engine states in which threads run (R215). -/
def State.threadsRun (s : State) : Bool :=
  s.eng.st == .join || s.eng.st == .dark || s.eng.st == .lit || s.eng.st == .safe || s.eng.st == .update

/-- Every thread whose entry point is valid starts, as at entry to JOIN (R215); nothing starts when the program check
fails (R217). -/
def State.startThreads (s : State) : State :=
  if progCheck s != stOk then s
  else s.each 8 fun s n => if progEntry s n == 0xFFFF then s else s.startThread n

end Sys2Proof.Machine
end

