-- ==== Sys2Proof/Machine/LinkOps.lean ====
section
/-!
DEFINITION. Sys2Proof/Machine/LinkOps.lean: frames, the tile map, egress queues and the departure of a port from ACTIVE
(chapters 9 and 10).
-/

namespace Sys2Proof.Machine

/-! ### Header fields (R291) -/

/-- Bits [hi:lo] of a 128-bit value. -/
def bits128 (v : BitVec 128) (hi lo : Nat) : Nat := (v.toNat >>> lo) % 2 ^ (hi + 1 - lo)

/-- A 128-bit value with bits [hi:lo] replaced. -/
def setBits128 (v : BitVec 128) (hi lo x : Nat) : BitVec 128 :=
  BitVec.ofNat 128 (v.toNat - bits128 v hi lo * 2 ^ lo + (x % 2 ^ (hi + 1 - lo)) * 2 ^ lo)

def hDest (h : BitVec 128) : Nat := bits128 h 11 0
def hSrc (h : BitVec 128) : Nat := bits128 h 23 12
def hType (h : BitVec 128) : Nat := bits128 h 31 24
def hClass (h : BitVec 128) : Nat := bits128 h 34 32
def hTurned (h : BitVec 128) : Bool := h.getLsbD 35
def hHops (h : BitVec 128) : Nat := bits128 h 47 36
def hCtx (h : BitVec 128) : Nat := bits128 h 55 48
def hSeq (h : BitVec 128) : Nat := bits128 h 95 64
def hLen (h : BitVec 128) : Nat := bits128 h 109 96
def hCrc (h : BitVec 128) : Nat := bits128 h 127 112

/-- The CRC-16 over header bytes 0 to 13 (R291). -/
def hcrcOf (h : BitVec 128) : Nat := crc16 (leBytes 14 h.toNat)

/-- The header with HCRC recomputed (R292). -/
def fixHcrc (h : BitVec 128) : BitVec 128 := setBits128 h 127 112 (hcrcOf h)

/-- The class that a TYPE pairs with (R293). -/
def classOf (t : Nat) : Option Nat :=
  if t = 0x05 then some 0 else if t = 0x04 then some 1 else if t = 0x02 ∨ t = 0x03 ∨ t = 0x09 then some 2
  else if t = 0x01 then some 3 else if t = 0x06 ∨ t = 0x07 then some 4 else if t = 0x08 then some 5 else none

/-- The header with TURNED, HOPS and HCRC taken as zero: what does not change end to end (R292). -/
def plainHdr (h : BitVec 128) : BitVec 128 := setBits128 (setBits128 (setBits128 h 35 35 0) 47 36 0) 127 112 0

/-- The trailer of a frame (R292): CRC-32C over the plain header, then the payload. -/
def trailerOf (f : Frame) : Nat := crc32c (leBytes 16 (plainHdr f.hdr).toNat ++ f.payload)

/-- A header (R291). -/
def mkHdr (dest src typ ctx seq len : Nat) : BitVec 128 :=
  fixHcrc (BitVec.ofNat 128 (dest % 4096 + src % 4096 * 2 ^ 12 + typ % 256 * 2 ^ 24 + (classOf typ).getD 0 * 2 ^ 32
    + ctx % 256 * 2 ^ 48 + seq % 2 ^ 32 * 2 ^ 64 + len % 2 ^ 14 * 2 ^ 96))

/-! ### Tile map (R301) -/

/-- An entry of the tile map; IDs 0 and 0xFFF always read zero. -/
def State.mapEntry (s : State) (id : Nat) : BitVec 128 := if id = 0 ∨ id ≥ 0xFFF then 0 else sget 0 id s.wall.map

/-- The state with an entry of the tile map changed. -/
def State.onMap (s : State) (id : Nat) (f : BitVec 128 → BitVec 128) : State :=
  if id = 0 ∨ id ≥ 0xFFF then s else s.onWall fun w => { w with map := sset 0 id (f (sget 0 id w.map)) w.map }

def mKind (e : BitVec 128) : Nat := bits128 e 13 12
def mSeen (e : BitVec 128) : Nat := bits128 e 15 14
def mDir (e : BitVec 128) : Nat := bits128 e 59 58
def mHops (e : BitVec 128) : Nat := bits128 e 75 64

/-- DIR of a port: 1 DIR_A, 2 DIR_B (R301). -/
def dirOf (p : Port) : Nat := match p with | .a => 1 | .b => 2

/-- An entry no longer reached directly: DIR_VIA and HOPS unknown (R305). -/
def mapVia (e : BitVec 128) : BitVec 128 := setBits128 (setBits128 e 59 58 0) 75 64 0xFFF

/-- HEADEND_PORT: the port with fewer hops to a head-end, A when equal (R304). -/
def Wall.fixHeadend (w : Wall) : Wall := { w with headendB := decide (w.hopsB < w.hopsA) }

/-- HOPS_A or HOPS_B set (R304). -/
def Wall.setHops (w : Wall) (p : Port) (h : Nat) : Wall :=
  match p with | .a => { w with hopsA := h }.fixHeadend | .b => { w with hopsB := h }.fixHeadend

/-- The head-end port (R304). -/
def State.headendPort (s : State) : Port := if s.wall.headendB then .b else .a

/-- Every entry with DIR = p goes to DIR_VIA, each change counted (R305, MAP_PORT_LOSS). -/
def State.mapPortLoss (s : State) (p : Port) : State :=
  s.onWall fun w =>
    Wall.setHops
      { w with
        map := w.map.map fun e => if mDir e.2 = dirOf p then (e.1, mapVia e.2) else e
        changes := sat 16 (w.changes + (w.map.filter fun e => mDir e.2 == dirOf p).length) } p 0xFFF

/-! ### Egress (R298) -/

/-- The bytes that an egress buffer holds. -/
def queueBytes (q : List QFrame) : Nat := q.foldl (fun a f => a + f.size) 0

/-- A frame fits into an egress buffer of 512 KiB of which classes 0 and 1 have 16 KiB each that no other class uses, and
of which one class holds at most 256 KiB (R298). -/
def qFits (q : List QFrame) (cls size : Nat) : Bool :=
  let held := fun c => queueBytes (q.filter fun f => f.cls == c)
  let rsv := fun c => if c = cls then 0 else 16384 - held c
  decide (held cls + size ≤ 262144) && decide (queueBytes q + size + rsv 0 + rsv 1 ≤ 524288)

/-- KiB, rounded up (R315). -/
def kib (b : Nat) : Nat := (b + 1023) / 1024

/-- A frame put into an egress buffer: behind those of its class, but a forwarded one before the local ones that were queued in the same
cycle (R298). -/
def queueIn (q : List QFrame) (f : QFrame) : List QFrame :=
  match q.findIdx? fun x => f.forwarded && !x.forwarded && !x.departure && x.cls == f.cls && x.at_ == f.at_ with
  | some i => q.take i ++ f :: q.drop i
  | none => q ++ [f]

/-- A frame queued on a port, or dropped at its tail and counted (R294, R298). -/
def State.enqueue (s : State) (p : Port) (f : QFrame) : State :=
  s.onLink p fun l =>
    if l.st == .active && qFits l.queue f.cls f.size then
      let q := queueIn l.queue f
      { l with queue := q, peakKib := max l.peakKib (kib (queueBytes q)) }
    else { l with qDrops := inc 8 l.qDrops }

/-- The header SEQ of the tile’s next own frame to a DEST and TYPE (R291). -/
def State.ownSeq (s : State) (dest typ : Nat) : Nat := (sget 0 (256 * dest + typ) s.wall.txSeq).toNat

/-- A frame of the tile’s own, its SEQ counter advanced (R291). -/
def State.ownFrame (s : State) (dest typ : Nat) (payload : List Byte) : Frame × State :=
  ({ hdr := mkHdr dest s.wall.id.toNat typ 0 (s.ownSeq dest typ) payload.length, payload := payload },
    s.onWall fun w => { w with txSeq := sset 0 (256 * dest + typ) (sget 0 (256 * dest + typ) w.txSeq + 1) w.txSeq })

/-- A frame of the tile’s own, queued on one port. -/
def State.sendFrame (s : State) (p : Port) (f : Frame) (turned departure : Bool) : State :=
  let h := if turned then fixHcrc (setBits128 f.hdr 35 35 1) else f.hdr
  s.enqueue p { frame := { f with hdr := h }, cls := (classOf (hType h)).getD 0, size := 20 + f.payload.length, forwarded := false,
                at_ := s.time.local_, cut := false, whole := true, departure := departure }

/-- The port on which a frame to `dest` leaves, by the tile map (R294). -/
def State.outPort (s : State) (dest : Nat) : Port :=
  let d := mDir (s.mapEntry dest)
  if d = 1 then .a else if d = 2 then .b else s.headendPort

/-- A frame that the tile originates (R294): a broadcast goes out on both ports; a unicast whose port is not ACTIVE leaves
on the other with TURNED = 1. -/
def State.originate (s : State) (dest typ : Nat) (payload : List Byte) : State :=
  let (f, s1) := s.ownFrame dest typ payload
  if dest = 0xFFF then (s1.sendFrame .a f false false).sendFrame .b f false false
  else if s1.active (s1.outPort dest) then s1.sendFrame (s1.outPort dest) f false false
  else s1.sendFrame (otherPort (s1.outPort dest)) f true false

/-- A port takes a frame of a class and size into its queue (R298). -/
def State.hasRoom (s : State) (p : Port) (cls size : Nat) : Bool := (s.link p).st == .active && qFits (s.link p).queue cls size

/-- A frame of the tile’s own of that class and size leaves on a port. -/
def State.originates (s : State) (dest cls size : Nat) : Bool :=
  if dest = 0xFFF then s.hasRoom .a cls size || s.hasRoom .b cls size
  else if s.active (s.outPort dest) then s.hasRoom (s.outPort dest) cls size
  else s.hasRoom (otherPort (s.outPort dest)) cls size

/-- A frame that has arrived on port `p` is delivered to this tile (R294). -/
def State.gets (s : State) (p : Port) (f : Frame) : Bool :=
  s.active p && (hDest f.hdr == 0xFFF || hDest f.hdr == s.wall.id.toNat)

/-- A queued frame is the copy of the frame with this header that is still arriving (R299). -/
def isCopy (h : BitVec 128) (q : QFrame) : Bool := q.forwarded && !q.whole && plainHdr q.frame.hdr == plainHdr h

/-- A frame that arrives on a port comes to nothing after the bytes `payload`: a copy not yet on the line is dropped; one on the line has sent
those bytes and is stomped (R300). -/
def State.cutOffAt (s : State) (p : Port) (payload : List Byte) : State :=
  match (s.link p).arriving with
  | none => s
  | some a =>
    let s1 := match a.out with
      | none => s
      | some o => s.onLink o fun l =>
        { l with
          queue := l.queue.eraseP (isCopy a.frame.hdr)
          lineStomped := l.lineStomped || l.onLine.any (isCopy a.frame.hdr)
          onLine := l.onLine.map fun q =>
            if isCopy a.frame.hdr q then { q with frame := { q.frame with payload := payload }, whole := true } else q }
    s1.onLink p fun l => { l with arriving := none }

/-- The bytes of a frame that is cut off before its trailer: how many have arrived and been sent, and what they are, are free values, since
no command has brought them yet (log entry 91). -/
def State.bytesSoFar (s : State) (p : Port) : List Byte :=
  let n := match (s.link p).arriving with | none => 0 | some a => (Config.freeWord s.free).toNat % (hLen a.frame.hdr + 1)
  (List.range n).map fun i => (Config.freeWord (s.free + 1 + i)).truncate 8

/-- A frame that arrives on a port is cut off before its trailer (R264, R277). -/
def State.cutOff (s : State) (p : Port) : State :=
  if (s.link p).arriving.isNone then s
  else { s.cutOffAt p (s.bytesSoFar p) with free := s.free + 1 + (s.bytesSoFar p).length }

/-- An IDLE, START or invalid block inside a frame ends it as errored (R264): the bytes it lacks count in BADHDR (R290). -/
def State.endArriving (s : State) (p : Port) : State :=
  if (s.link p).arriving.isSome then (s.onLink p fun l => { l with badhdr := inc 8 l.badhdr }).cutOff p else s

/-! ### Leaving ACTIVE -/

/-- A cycle starts in DETECT, at 3.2 Gbit/s, with its failure counters at `n` (R272, R276); the receivers seek block lock, and cleared lanes
rejoin (R283). -/
def Link.newCycle (l : Link) (n : Nat) (retry : Bool) : Link :=
  { l with
    st := .detect, fails := [n, n, n], retryCycle := retry, miswired := false, agreed := false, retraining := false
    width := 0, used := 0, alignSent := false, rate := 2, partnerState := 0, partnerFails := 0, eqDone := false, held := []
    lanes := l.lanes.map fun x =>
      { x with healthy := false, swapped := false, waiting := false, blockLock := false, hdrRun := 0, hdrWindow := 0, markerLock := false
               markers := 0, missed := 0, inject := 0 } }

/-- What a port itself loses when it leaves ACTIVE: its queue and line, link-delay samples and held messages (R277, R322). -/
def Link.dropTraffic (l : Link) : Link :=
  { l with queue := [], onLine := none, lineStomped := false, txBlocks := [], arriving := none, pdSamples := [], pdPending := none, syncs := [] }

/-- A port leaves ACTIVE other than on PARK (R277, R305, R322). -/
def State.leaveActive (s : State) (p : Port) : State :=
  if s.active p then
    (((s.cutOff p).onLink p fun l => { l with downs := inc 8 l.downs }.dropTraffic).mapPortLoss p).raise 0x22 (portNo p)
  else s

/-- A port is disabled: electrical idle (R272, R289, R417). -/
def State.disablePort (s : State) (p : Port) : State :=
  (s.leaveActive p).onLink p fun l =>
    { l with st := .disabled, width := 0, used := 0, agreed := false, retraining := false, held := []
             lanes := l.lanes.map fun x => { x with inject := 0 } }

/-- A port starts a new cycle in DETECT, if it may run (R262, R276). -/
def State.startPort (s : State) (p : Port) : State :=
  if (s.link p).enable && !s.unitFenced (6 + portNo p) then s.onLink p fun l => l.newCycle 0 false else s

/-- A lane takes part in a cycle: it is not fenced, and not cleared within it (R283). -/
def Lane.open_ (x : Lane) : Bool := !x.fenced && !x.waiting

/-- The port’s healthy, unfenced lanes (R260). -/
def Link.usable (l : Link) (healthy : Nat → Bool) : List Nat :=
  (List.range 4).filter fun i => healthy i && (l.lanes.getD i {}).open_

/-- The used lanes and the width of R260: all four, or the two lowest, or one; none when no lane is usable. -/
def widthOf (ok : List Nat) : List Nat :=
  if ok.length = 4 then ok else if 2 ≤ ok.length then ok.take 2 else ok

/-- Lanes as a mask. -/
def laneMask (l : List Nat) : BitVec 4 := BitVec.ofNat 4 (l.foldl (fun a i => a + 2 ^ i) 0)

end Sys2Proof.Machine
end

