-- ==== Sys2Proof/Machine/LaneOps.lean ====
section
/-!
DEFINITION. Sys2Proof/Machine/LaneOps.lean: what a lane carries: 66-bit blocks, the scrambler, transition stuffing, the bit-interleaved
parity, block lock, and the test patterns with their checkers (R263 to R271, R285 to R287).
-/

namespace Sys2Proof.Machine

/-- Bits [hi:lo] of a block payload. -/
def bits64 (v : BitVec 64) (hi lo : Nat) : Nat := (v.toNat >>> lo) % 2 ^ (hi + 1 - lo)

/-- How many of the low `n` bits of a number are set. -/
def onesIn (n v : Nat) : Nat := ((List.range n).filter fun i => v.testBit i).length

/-! ### Blocks (R263, R264) -/

/-- A block in the order of the line: bits [1:0] its header, bits [65:2] its payload; bit 0 is sent first (R263). -/
abbrev Block := BitVec 66

def Block.header (b : Block) : BitVec 2 := b.extractLsb' 0 2
def Block.payload (b : Block) : BitVec 64 := b.extractLsb' 2 64

/-- The type of a control block (R263). -/
def Block.type (b : Block) : Nat := bits64 (Block.payload b) 7 0

/-- A block of a header and a payload. -/
def mkBlock (h : BitVec 2) (p : BitVec 64) : Block := p ++ h

/-- A control block of a type, the rest of its payload in bits [63:8] (R264). -/
def ctlBlock (type rest : Nat) : Block := mkBlock 2 (BitVec.ofNat 64 (type + 256 * rest))

/-- A data block of eight frame bytes (R263). -/
def dataBlock (l : List Byte) : Block := mkBlock 1 (BitVec.ofNat 64 (ofLe (padTo 8 l)))

/-- IDLE (R264, R265). -/
def idleBlock (aligned : Bool) (seed : BitVec 48) : Block := ctlBlock 0x1E (b2n aligned + 256 * seed.toNat)

/-- PARK and the type of STUFF (R264). -/
def parkBlock : Block := ctlBlock 0x66 0

/-- The data blocks and the TERM_k of what follows START, for at most `n` data blocks (R264). -/
def bodyBlocks : Nat → List Byte → List Block
  | 0, _ => []
  | n + 1, l =>
    if l.length < 8 then [ctlBlock (0xE0 + l.length) (ofLe l)] else dataBlock (l.take 8) :: bodyBlocks n (l.drop 8)

/-- The blocks of a frame of these bytes: START with the first 7, data blocks, one TERM_k (R264). -/
def blocksOf (l : List Byte) : List Block := ctlBlock 0x2D (ofLe (l.take 7)) :: bodyBlocks (l.length / 8 + 1) (l.drop 7)

/-- The bytes of a frame on the line (R290); one that is stomped ends with the complement of its CRC (R300). -/
def lineBytes (f : Frame) (stomped : Bool) : List Byte :=
  leBytes 16 f.hdr.toNat ++ f.payload ++ leBytes 4 (if stomped then 0xFFFFFFFF - trailerOf f else trailerOf f)

/-- AM (R270): rate, marker count and BIP of a lane. -/
def amBlock (lane rate : Nat) (count : BitVec 24) (bip : BitVec 8) : Block :=
  ctlBlock 0x4B (0xA0 + lane + (255 - (0xA0 + lane)) * 2 ^ 8 + rate * 2 ^ 16 + count.toNat * 2 ^ 24 + bip.toNat * 2 ^ 48)

/-- A block is sent and received unscrambled: AM (R266). -/
def Block.plain (b : Block) : Bool := Block.header b == 2 && Block.type b == 0x4B

/-- A control type that R264 lists. -/
def knownType (t : Nat) : Bool :=
  t == 0x1E || t == 0x2D || (decide (0xE0 ≤ t) && decide (t ≤ 0xE7)) || t == 0x4B || t == 0x55 || t == 0x66 || t == 0x78

/-! ### The scrambler (R266) -/

/-- What the scrambler adds to its next bit, from the last 58 scrambled bits, the newest in bit 0. -/
def scrTap (s : BitVec 58) : Bool := s.getLsbD 38 != s.getLsbD 57

/-- The scrambler after one more scrambled bit. -/
def scrShift (s : BitVec 58) (o : Bool) : BitVec 58 := (s <<< 1) ||| BitVec.ofNat 58 (b2n o)

/-- A payload scrambled, bit 0 first, and the scrambler after it. -/
def scr (s : BitVec 58) (v : BitVec 64) : BitVec 64 × BitVec 58 :=
  (List.range 64).foldl (fun a i =>
    let o := v.getLsbD i != scrTap a.2
    (a.1 ||| BitVec.ofNat 64 (b2n o * 2 ^ i), scrShift a.2 o)) (0, s)

/-- A received payload descrambled, and the descrambler after it: its state is the bits received. -/
def descr (r : BitVec 58) (v : BitVec 64) : BitVec 64 × BitVec 58 :=
  (List.range 64).foldl (fun a i =>
    (a.1 ||| BitVec.ofNat 64 (b2n (v.getLsbD i != scrTap a.2) * 2 ^ i), scrShift a.2 (v.getLsbD i))) (0, r)

/-- Bit i of BIP is the XOR of payload bits i, i + 8, …, i + 56 (R270). -/
def bipOf (v : BitVec 64) : BitVec 8 := (List.range 8).foldl (fun a i => a ^^^ v.extractLsb' (8 * i) 8) 0

/-! ### Sending (R266 to R268, R270, R287) -/

/-- A block as a lane puts it on the line, and the scrambler after it. -/
def Lane.coded (x : Lane) (b : Block) : Block × BitVec 58 :=
  if Block.plain b then (b, x.scrambler)
  else let q := scr x.scrambler (Block.payload b); (mkBlock (Block.header b) q.1, q.2)

/-- 66 bits in front of the bits sent before them, the newest in bit 0. -/
def afterBits (sent : BitVec 990) (b : Block) : Nat := sent.toNat * 2 ^ 66 + reflectBits 66 b.toNat

/-- The last 990 bits that a lane has sent with a candidate make fewer than 32 transitions (R267). -/
def Lane.quiet (x : Lane) (b : Block) : Bool :=
  let w := afterBits x.sentBits (x.coded b).1
  decide (onesIn 1055 (w ^^^ (w >>> 1)) < 32)

/-- The STUFF block of a lane (R268): its scrambled bits [63:8] alternate, from the complement of scrambled bit 7 on. -/
def Lane.stuffBlock (x : Lane) : Block :=
  let step := fun (a : BitVec 64 × BitVec 58) (i : Nat) =>
    let o := if i < 8 then (0x78 : Nat).testBit i != scrTap a.2 else !a.2.getLsbD 0
    (a.1 ||| BitVec.ofNat 64 (b2n (o != scrTap a.2) * 2 ^ i), scrShift a.2 o)
  mkBlock 2 ((List.range 64).foldl step (0, x.scrambler)).1

/-- One block leaves on a lane: it is scrambled, joins the window and the parity, and an injection inverts payload bits of a data block
on the line and counts them (R287), from bit 0 on (DESIGN CHOICE, log entry 78). -/
def Lane.put (x : Lane) (b : Block) : Lane :=
  let q := x.coded b
  let n := if Block.header b == 1 then min 64 x.inject else 0
  let line := q.1 ^^^ BitVec.ofNat 66 ((2 ^ n - 1) * 4)
  { x with
    scrambler := q.2, sentBits := BitVec.ofNat 990 (afterBits x.sentBits line), out := line, inject := x.inject - n
    injBits := sat 16 (x.injBits + n)
    bipTx := if Block.plain b then 0 else x.bipTx ^^^ bipOf (Block.payload q.1) }

/-- Each lane of a list sends its block. -/
def Link.putAll (l : Link) (c : List (Nat × Block)) : Link :=
  { l with lanes := c.foldl (fun ls p => upd ls p.1 fun x => x.put p.2) l.lanes }

/-- One lane would be too quiet with its candidate (R267). -/
def Link.quiet (l : Link) (c : List (Nat × Block)) : Bool := c.any fun p => (l.lanes.getD p.1 {}).quiet p.2

/-- Every lane of a slot sends STUFF (R267). -/
def Link.stuff (l : Link) (c : List (Nat × Block)) : Link :=
  { l.putAll (c.map fun p => (p.1, (l.lanes.getD p.1 {}).stuffBlock)) with stuffTx := sat 16 (l.stuffTx + c.length) }

/-- One block slot of a port (R267): the candidates go out; or, when one lane would be too quiet, every lane sends STUFF and holds its
candidate for the next slot. -/
def Link.slot (l : Link) (c : List (Nat × Block)) : Link := if l.quiet c then { l.stuff c with held := c } else { l.putAll c with held := [] }

/-- The used lanes. -/
def Link.usedLanes (l : Link) : List Nat := (List.range 4).filter fun i => l.used.getLsbD i

/-- The next port blocks of a stream, IDLE where no frame waits, each with the SEED after it (R264, R265). -/
def Link.nextBlocks (l : Link) : Nat → List Block × Link
  | 0 => ([], l)
  | n + 1 =>
    let q := l.nextBlocks n
    match q.2.txBlocks with
    | b :: rest => (q.1 ++ [b], { q.2 with txBlocks := rest })
    | [] => (q.1 ++ [idleBlock l.alignSent q.2.idleSeed], { q.2 with idleSeed := q.2.idleSeed + 0x9E3779B97F4A#48 })

/-- One slot of the block stream in ALIGN and ACTIVE: an AM on every used lane once in 16,384 slots that are not STUFF (R270), else the
held candidates or the next port blocks, striped over the used lanes (R264). An AM that STUFF holds back goes out in the next slot with the
parity of that STUFF in it, as BIP covers every block since the last AM (R270). -/
def Link.streamSlot (l : Link) : Link :=
  if 16383 ≤ l.sinceAm then
    let c := l.usedLanes.map fun i => (i, amBlock i l.rate l.markerCount (l.lanes.getD i {}).bipTx)
    if l.quiet c then l.stuff c else { l.putAll c with sinceAm := 0, markerCount := l.markerCount + 1 }
  else
    let q := l.nextBlocks l.usedLanes.length
    let c := if l.held.isEmpty then l.usedLanes.zip q.1 else l.held
    let m := if l.held.isEmpty then { l with txBlocks := q.2.txBlocks, idleSeed := q.2.idleSeed } else l
    { m.slot c with sinceAm := if m.quiet c then l.sinceAm else l.sinceAm + 1 }

/-- Every port block that waits leaves, and every candidate that is held (R278). -/
def Link.flush (l : Link) : Link :=
  (List.range (2 * l.txBlocks.length + 8)).foldl (fun l _ => if l.txBlocks.isEmpty && l.held.isEmpty then l else l.streamSlot) l

/-- Each used lane sends 32 PARK blocks (R278); a slot of STUFF uses none of them up. -/
def Link.sendPark (l : Link) : Link :=
  ((List.range 64).foldl (fun (q : Nat × Link) _ =>
    let c := q.2.usedLanes.map fun i => (i, parkBlock)
    if 32 ≤ q.1 then q else (if q.2.quiet c then q.1 else q.1 + 1, q.2.slot c)) (0, l)).2

/-! ### Receiving (R264, R266 to R271) -/

/-- Headers 0b01 and 0b10 are valid (R263). -/
def hdrValid (h : BitVec 2) : Bool := h == 1 || h == 2

/-- A header that a receiver reads (R269): 64 valid ones in a row give block lock, and each invalid one before that slips the search by a
bit; in lock, 16 invalid ones within 64 lose it. Each invalid header counts. -/
def Lane.header (x : Lane) (h : BitVec 2) : Lane :=
  let bad := !hdrValid h
  let x1 := if bad then { x with hdrErrs := inc 16 x.hdrErrs } else x
  if x.blockLock then
    let w := (x.hdrWindow <<< 1) ||| BitVec.ofNat 64 (b2n bad)
    if 16 ≤ onesIn 64 w.toNat then { x1 with blockLock := false, hdrWindow := 0, hdrRun := 0 } else { x1 with hdrWindow := w }
  else if bad then { x1 with hdrRun := 0, slip := (x.slip + 1) % 66 }
  else if 63 ≤ x.hdrRun then { x1 with blockLock := true, hdrWindow := 0, hdrRun := 0 }
  else { x1 with hdrRun := x.hdrRun + 1 }

/-- A payload is a well-formed marker of a lane (R270, R271). -/
def markerOk (lane : Nat) (v : BitVec 64) : Bool :=
  bits64 v 7 0 == 0x4B && bits64 v 15 8 == 0xA0 + lane && bits64 v 23 16 == 255 - (0xA0 + lane)

/-- How many bits of two bytes differ. -/
def bitsDiffer (a b : Nat) : Nat := ((List.range 8).filter fun i => a.testBit i != b.testBit i).length

/-- An expected marker place has passed without its marker; the third in a row loses marker lock (R271). -/
def Lane.missMarker (x : Lane) : Lane :=
  if 2 ≤ x.missed then { x with markerLock := false, markers := 0, missed := 0, rxSince := 0, bipRx := 0 }
  else { x with missed := x.missed + 1, rxSince := 0, bipRx := 0 }

/-- A well-formed marker on a lane (R270, R271). Two with consecutive MCOUNT, 16,384 blocks apart, give marker lock; in lock a marker counts
where it is expected and has the MCOUNT that follows. Its BIP is compared with the parity of the blocks since the last one. -/
def Lane.marker (x : Lane) (payload : BitVec 64) (skew : BitVec 8) (now : Nat) : Lane :=
  let m := bits64 payload 55 32
  let here := x.rxSince == 16383
  let next := m == (x.mcount + 1 + x.missed) % 2 ^ 24
  let errs := bitsDiffer (bits64 payload 63 56) x.bipRx.toNat
  let good : Lane :=
    { x with
      mcount := m, skew := skew.toNat, bipErrs := sat 16 (x.bipErrs + errs), markers := 2, missed := 0, bipRx := 0, rxSince := 0
      bipLog := (now, errs) :: x.bipLog.filter fun e => decide (now - e.1 < 1000000000 * 65536) }
  if x.markerLock then (if here && next then good else if here then x.missMarker else { x with rxSince := x.rxSince + 1 })
  else if x.markers == 1 && here && next then { good with markerLock := true }
  else { x with markers := 1, mcount := m, skew := skew.toNat, missed := 0, bipRx := 0, rxSince := 0 }

/-- A lane with the STUFF blocks and the control block errors that it has received, and whether some block ended a frame in progress. -/
structure Received where
  lane : Lane
  stuff : Nat := 0
  bad : Nat := 0
  ends : Bool := false

/-- A block as it comes off the line of lane `i` at local time `now`, its polarity corrected (R273): its header is read (R269) and its payload
descrambled, but for a marker (R266). In block lock STUFF is discarded and counted (R268), a type that R264 does not list is a control block
error, every block counts in BIP (R270), and IDLE, START and an invalid block end a frame in progress (R264). -/
def Received.next (i now : Nat) (r : Received) (line : Block) : Received :=
  let b := if r.lane.inverted then ~~~line else line
  let x := r.lane.header (Block.header b)
  let q := descr x.descrambler (Block.payload b)
  let ctl := Block.header b == 2
  let t := bits64 q.1 7 0
  let stuff := ctl && t == 0x78
  let bad := ctl && !knownType t
  if !r.lane.blockLock then { r with lane := { x with descrambler := q.2 } }
  else if ctl && markerOk i (Block.payload b) then { r with lane := x.marker (Block.payload b) (BitVec.ofNat 8 x.skew) now }
  else
    let y := { x with descrambler := q.2, bipRx := x.bipRx ^^^ bipOf (Block.payload b), rxSince := if stuff then x.rxSince else x.rxSince + 1 }
    { lane := if x.markerLock && x.rxSince == 16383 && !stuff then y.missMarker else y
      stuff := r.stuff + b2n stuff, bad := r.bad + b2n bad
      ends := r.ends || bad || !hdrValid (Block.header b) || (ctl && (t == 0x1E || t == 0x2D)) }

/-- The blocks that a lane receives, in order. -/
def Lane.receive (x : Lane) (i now : Nat) (l : List Block) : Received := l.foldl (Received.next i now) { lane := x }

/-! ### Test patterns (R285, R286) -/

/-- Degree and second tap of a pattern’s polynomial (R285). -/
def prbsPoly (pat : Nat) : Nat × Nat := if pat = 0 then (7, 6) else if pat = 1 then (15, 14) else if pat = 2 then (23, 18) else (31, 28)

/-- The next bit of a pattern after the bits of `s`, the newest in bit 0 (R285). That the bit sent is the one that the polynomial gives,
and not the oldest of the generator, is DEDUCED (log entry 78). -/
def prbsNext (pat : Nat) (s : BitVec 31) : Bool := s.getLsbD ((prbsPoly pat).1 - 1) != s.getLsbD ((prbsPoly pat).2 - 1)

/-- A generator or a checker after one more bit. -/
def prbsShift (s : BitVec 31) (b : Bool) : BitVec 31 := (s <<< 1) ||| BitVec.ofNat 31 (b2n b)

/-- One pattern bit of a lane’s generator, and the lane after it; an injection inverts it and counts it (R285, R287). -/
def Lane.prbsBit (pat : Nat) (x : Lane) : Bool × Lane :=
  let b := prbsNext pat x.generator
  (b != decide (0 < x.inject), { x with generator := prbsShift x.generator b, inject := x.inject - 1,
                                             injBits := if 0 < x.inject then inc 16 x.injBits else x.injBits })

/-- Times within the last second. -/
def lastSecond (now : Nat) (l : List Nat) : List Nat := l.filter fun t => decide (now - t < 1000000000 * 65536)

/-- A checker loses sync: it seeds itself again; more than 4 losses within 1 s set FAIL (R286). -/
def Lane.loseSync (now : Nat) (x : Lane) : Lane :=
  let losses := now :: lastSecond now x.losses
  { x with sync := false, chkSeen := 0, chkErrs := [], losses := losses, fail := x.fail || decide (4 < losses.length) }

/-- One bit that a lane’s checker receives (R286). Seeding, it takes the bits as they come, until 64 in a row after a whole seed are what
it predicts; in sync it runs on its own prediction and counts every bit that differs, and 64 of them within 1,024 bits lose sync. -/
def Lane.check (pat now : Nat) (x : Lane) (b : Bool) : Lane :=
  let want := prbsNext pat x.checker
  let n := (prbsPoly pat).1
  if x.sync then
    let at_ := x.chkSeen + 1
    let old := x.chkErrs.filter fun t => decide (at_ < t + 1024)
    let x1 := { x with checker := prbsShift x.checker want, chkSeen := at_ }
    if want == b then { x1 with chkErrs := old }
    else
      let x2 := { x1 with chkErrs := at_ :: old, prbsErrs := sat 32 (x.prbsErrs + 1) }
      if 64 ≤ old.length + 1 then x2.loseSync now else x2
  else
    let x1 := { x with checker := prbsShift x.checker b }
    if x.chkSeen < n then { x1 with chkSeen := x.chkSeen + 1 }
    else if want == b then
      if n + 63 ≤ x.chkSeen then { x1 with sync := true, synced := true, chkSeen := 0, chkErrs := [] } else { x1 with chkSeen := x.chkSeen + 1 }
    else { x1 with chkSeen := n }

/-- The bits that a lane’s checker receives, in order. -/
def Lane.checkAll (pat now : Nat) (x : Lane) (l : List Bool) : Lane := l.foldl (Lane.check pat now) x

/-- A lane as a test starts: its generator at all ones, its checker unseeded (R285, R286). -/
def Lane.startTest (x : Lane) : Lane :=
  { x with sync := false, synced := false, fail := false, losses := [], generator := BitVec.allOnes 31, checker := 0, chkSeen := 0, chkErrs := [], inject := 0 }

end Sys2Proof.Machine
end

