-- ==== Sys2Proof/Machine/DriveOps.lean ====
section
/-!
DEFINITION. Sys2Proof/Machine/DriveOps.lean: drive levels and their ceilings, the LED rail, and what the ring feeders do
as a whole (chapters 4 and 5).
-/

namespace Sys2Proof.Machine

/-- The requested level of ring `k`, colour `c` (R133, R159). -/
def Ring.requested (r : Ring) (c : Nat) : Nat := fld r.drive (10 * c + 9) (10 * c)

/-- The thermal ceiling of ring `k`: the lowest of board ceiling, power ceiling and throttle level (R171, R441). -/
def State.thermalCeiling (s : State) (k : Nat) : Nat :=
  min (191 * (s.led.board.getD k {}).k / 32) (min (191 * s.led.kPower / 32) (191 * s.therm.kThr / 32))

/-- The effective level of ring `k`, colour `c` (R133). -/
def State.effective (s : State) (k c : Nat) : Nat :=
  min ((s.ring k).requested c) (min (s.thermalCeiling k) s.saf.ceiling)

/-- The three effective levels of ring `k`. -/
def State.effectives (s : State) (k : Nat) : List Nat := (List.range 3).map fun c => s.effective k c

/-- The highest effective level of the tile: L0 of a fade (R380). -/
def State.highestLevel (s : State) : Nat :=
  (List.range 64).foldl (fun a k => max a ((s.effectives k).foldl max 0)) 0

/-! ### Words on a hop (R120, R122) -/

/-- The payload of a word (R120): a control word has its code in bits [7:0] and its argument above. -/
def RingWord.payload : RingWord → BitVec 32
  | .ctl code arg => arg ++ code
  | .data w => w

/-- The prefix of a word (R120): 0b10 control, 0b01 data. -/
def RingWord.prefix2 : RingWord → BitVec 2
  | .ctl _ _ => 2
  | .data _ => 1

/-- A SYNC word (R124). -/
def RingWord.isSync : RingWord → Bool
  | .ctl code _ => code == 1
  | .data _ => false

/-- The 34 bits of a word in the order in which they are sent, bit 0 first (R120). -/
def hopBits (pre : BitVec 2) (payload : BitVec 32) : BitVec 34 := payload ++ pre

/-- One step of the scrambler x^23 + x^18 + 1: the bit it gives, and the generator after it (R122). -/
def scrambleStep (g : BitVec 23) : Bool × BitVec 23 :=
  let b := Bool.xor (g.getLsbD 22) (g.getLsbD 17)
  (b, (g <<< 1) ||| BitVec.ofNat 23 (b2n b))

/-- A payload scrambled, bit 0 first, and the generator after its 32 steps; the same function descrambles (R122). -/
def scramble (g : BitVec 23) (p : BitVec 32) : BitVec 32 × BitVec 23 :=
  (List.range 32).foldl (fun a i =>
    let q := scrambleStep a.2
    (a.1 ^^^ BitVec.ofNat 32 (b2n q.1 * 2 ^ i), q.2)) (p, g)

/-- The generator of a hop after `n` words since its SYNC (R122). -/
def scramblerAt : Nat → BitVec 23
  | 0 => 0x7FFFFF
  | n + 1 => (scramble (scramblerAt n) 0).2

/-- The words of a hop as they stand on the wire, from the generator before the first: SYNC is not scrambled and restarts it. -/
def hopLine (g : BitVec 23) : List RingWord → List (BitVec 34)
  | [] => []
  | w :: l =>
    if w.isSync then hopBits w.prefix2 w.payload :: hopLine (scramblerAt 0) l
    else hopBits w.prefix2 (scramble g w.payload).1 :: hopLine (scramble g w.payload).2 l

/-- The words of `out` at one end. -/
def Ring.endWords (r : Ring) (pxo : Bool) : List RingWord := (r.out.filter fun w => w.1 == pxo).map (·.2)

/-- What the engine drives on the wires of one end for the words of `out`. -/
def Ring.line (r : Ring) (pxo : Bool) : List (BitVec 34) :=
  hopLine (scramblerAt (if pxo then r.hopA else r.hopB).words) (r.endWords pxo)

/-- Payloads received on a hop one after another, descrambled from generator `g` (R122); a word that arrived with an error advances it too. -/
def hopReceive (g : BitVec 23) : List (Option (BitVec 32)) → List (Option (BitVec 32))
  | [] => []
  | p :: l => (p.map fun w => (scramble g w).1) :: hopReceive (scramble g 0).2 l

/-- The generator `n` words later. -/
def scramblerFrom (g : BitVec 23) (n : Nat) : BitVec 23 := n.repeat (fun g => (scramble g 0).2) g

/-- W of a ring (R129): the round trip less 10 ns per cell and the engine’s fixed internal delay. -/
def ringExcess (rt cells : Nat) : Nat := rt - 10 * cells - Config.ringFixedNs

/-- W of an arc (R150, R153): a probe goes out and back over its hops, each way with W (DEDUCED, log entry 75). -/
def arcExcess (rt hops : Nat) : Nat := (rt - Config.ringFixedNs) / 2 - 10 * hops

/-- One ring word, 42.5 ns, in the unit of the local counter (R120). -/
def ringWordTime : Nat := 2785280

/-- The IDLE words that a hop carries up to `now` after the words `ws` (R127). -/
def Hop.idles (h : Hop) (ws : List RingWord) (now : Nat) : Nat :=
  (now - (h.busy + ringWordTime * ws.length) + (ringWordTime - 1)) / ringWordTime

/-- A hop once the words `ws` have left it and `now` has come; IDLE words fill a continuous stream (R122, R127). -/
def Hop.after (h : Hop) (ws : List RingWord) (stream : Bool) (now : Nat) : Hop :=
  let n := h.idles ws now
  { words := ws.foldl (fun n w => if w.isSync then 0 else n + 1) h.words + if stream then n else 0
    busy := h.busy + ringWordTime * (ws.length + n) }

/-- `n` words with a valid prefix arrive at a receiver (R121): lock after 64 in a row; an invalid one leaves the window of 64 words. -/
def WordLock.good (n : Nat) (l : WordLock) : WordLock :=
  if l.locked then { l with seen := (List.replicate (min n 64) true ++ l.seen).take 64 }
  else if l.run + n < 64 then { l with run := l.run + n }
  else { locked := true, run := 0, seen := List.replicate (min 64 (l.run + n - 64)) true }

/-- The words of one slot of a read (R135, R144). -/
def slotWidth (kind : Nat) : Nat := if kind = 0 then 5 else if kind = 2 then 3 else 1

/-- The reads that stand on a hop after one more word, and the words since its SYNC; a SYNC with FRAME = 1 ends what is older (R122, R125). -/
def scanRead (a : Nat × List RingRead) (w : RingWord) : Nat × List RingRead :=
  match w with
  | .data _ => (a.1 + 1, a.2)
  | .ctl code arg =>
    if code = 1 then (0, if arg.getLsbD 22 then [] else a.2)
    else if code = 8 ∧ !arg.getLsbD 21 then
      (a.1 + 1, a.2 ++ [{ kind := arg.toNat / 2 ^ 22 % 4, first := arg.toNat % 1024, count := arg.toNat / 1024 % 2048, index := a.1 + 1 }])
    else (a.1 + 1, a.2)

/-- The reads whose slots are still to return once the words of `out` have left PXO. -/
def Ring.readsAfter (r : Ring) : List RingRead := ((r.endWords true).foldl scanRead (r.hopA.words, r.reads)).2

/-- The words of `out` that return unchanged: all but the slot words of its reads. -/
def Ring.plainWords (r : Ring) : Nat :=
  (r.endWords true).length - (((r.endWords true).foldl scanRead (0, [])).2.map fun q => q.count * slotWidth q.kind).sum

/-- The feeder turns to the next words: those of `out` have left, and in RING mode they and the IDLE words come back at PXI (R119, R121). In
Hinge mode no end carries a continuous stream (R149). -/
def Ring.begin (now : Nat) (r : Ring) : Ring :=
  { r with
    reads := if r.mode == .ring then r.readsAfter else []
    lockB := if r.mode == .ring then r.lockB.good (r.plainWords + r.hopA.idles (r.endWords true) now) else r.lockB
    hopA := r.hopA.after (r.endWords true) (r.mode == .ring) now
    hopB := r.hopB.after (r.endWords false) false now
    idles := if r.mode == .ring then r.hopA.idles (r.endWords true) now else 0
    out := [] }

/-- Further words sent. -/
def Ring.put (ws : List (Bool × RingWord)) (r : Ring) : Ring := { r with out := r.out ++ ws }

/-- The feeder of ring `k` turns to its next words. -/
def State.beginRing (s : State) (k : Nat) : State := s.onRing k (Ring.begin s.time.local_)

/-- Every feeder turns to its next words. -/
def State.beginRings (s : State) : State := s.onRings fun u => { u with rings := u.rings.map (Ring.begin s.time.local_) }

/-- Words for PXO, sent on both ends in Hinge mode (R152, R153). -/
def bothEnds (hinge : Bool) (l : List (Bool × RingWord)) : List (Bool × RingWord) :=
  if hinge then l ++ l.map fun w => (false, w.2) else l

/-- SYNC (R124). -/
def syncWord (k seq : Nat) (frame : Bool) : RingWord := .ctl 0x01 (BitVec.ofNat 24 (seq % 65536 + k * 2 ^ 16 + b2n frame * 2 ^ 22))

/-- SEG and PERIOD (R132). -/
def segWords (plan : BitVec 24) (period : Nat) : List (Bool × RingWord) := [(true, .ctl 0x04 plan), (true, .data (BitVec.ofNat 32 period))]

/-- LATCH with COUNT 12,000 and its three flags (R124, R129). -/
def latchFlags (codes seg drive : Bool) : RingWord :=
  .ctl 0x06 (BitVec.ofNat 24 (12000 + b2n codes * 2 ^ 16 + b2n seg * 2 ^ 17 + b2n drive * 2 ^ 18))

/-- The LATCH word of a frame: CODES as decided, SEG and DRIVE set (R131). -/
def latchWord (codes : Bool) : RingWord := latchFlags codes true true

/-- A DRIVE word (R124). -/
def driveWord (level colour : Nat) (imm : Bool) : RingWord :=
  .ctl 0x05 (BitVec.ofNat 24 (level % 1024 + colour * 1024 + b2n imm * 4096))

/-- The DRIVE words, immediate or shadow, of one ring whose levels fell, on both ends in Hinge mode (R134, R153). -/
def dropWords (hinge imm : Bool) (old new : List Nat) : List (Bool × RingWord) :=
  (List.range 3).flatMap fun c =>
    if new.getD c 0 < old.getD c 0 then
      (true, driveWord (new.getD c 0) c imm) :: (if hinge then [(false, driveWord (new.getD c 0) c imm)] else [])
    else []

/-- The lower of two lists of levels, colour by colour. -/
def minLevels (a b : List Nat) : List Nat := (List.range 3).map fun c => min (a.getD c 0) (b.getD c 0)

/-- A ring’s levels capped (R134): the level the cells show falls at once, the shadow words already sent are sent again capped; a rise
waits. -/
def Ring.cap (now : Nat) (r : Ring) (top : List Nat) : Ring :=
  let shown := minLevels r.driveShown top
  let sent := minLevels r.driveSent top
  if !r.up || (shown == r.driveShown && sent == r.driveSent) then r
  else
    { r.begin now with
      driveShown := shown
      driveSent := sent
      out := dropWords (r.mode == .hinge) true r.driveShown shown ++ dropWords (r.mode == .hinge) false r.driveSent sent }

/-- The lower of the two ceilings of ring `k`, for each colour (R133). -/
def State.ceilings (s : State) (k : Nat) : List Nat := List.replicate 3 (min (s.thermalCeiling k) s.saf.ceiling)

/-- A ceiling has changed: every ring is capped by its ceilings (DRIVE_CEILING_FALL, R134); a requested level still waits for its LATCH
(DEDUCED, log entry 75). A fall after a LATCH has been launched reaches the cells when that LATCH applies. The ceilings do not act while
the Cairn path drives the rings (R171). -/
def State.applyCeilings (s : State) : State :=
  if s.rings.cairnOn then s
  else s.each 64 fun s k => s.onRing k fun r => if r.launched.isSome then r else r.cap s.time.local_ (s.ceilings k)

/-- Every reachable cell at drive level 0 at once (R480, R444). -/
def State.driveZero (s : State) : State := s.each 64 fun s k => s.onRing k fun r => r.cap s.time.local_ [0, 0, 0]

/-! ### The rail -/

/-- REF_MV now: the reference moves toward the set point at 1 mV/µs, at 0.5 mV/µs while the rail starts (R162, R167). -/
def State.refNow (s : State) : Nat :=
  let us := (s.time.local_ - s.led.refAt) / 65536000
  let step := if s.led.starting then us / 2 else us
  if s.led.refMv ≤ s.led.setMv then min s.led.setMv (s.led.refMv + step) else max s.led.setMv (s.led.refMv - step)

/-- The rail is in regulation (R179): it has been found so since its start, VLED as last measured is within 50 mV of the reference, and no
under-voltage is present (DEDUCED from R167 and R169, log entry 89). -/
def State.regulated (s : State) : Bool :=
  s.led.on && s.led.regOk && decide (s.led.vledMv ≤ s.refNow + 50 ∧ s.refNow ≤ s.led.vledMv + 50) && !s.hasCond 0x75 0

/-- The set point changes; the reference goes on from where it is (R162). -/
def State.setPoint (s : State) (mv : Nat) : State :=
  s.onLed fun l => { l with refMv := s.refNow, refAt := s.time.local_, setMv := mv }

/-- Every phase gate off, target and reference at 0 mV (R168, R169). -/
def State.railOff (s : State) : State :=
  s.onLed fun l => { l with on := false, starting := false, startWait := false, regOk := false, setMv := 0, refMv := 0, refAt := s.time.local_,
                            rising := false }

/-- The rail starts (R167) with every configured phase enabled, unless VLED disable or a fence holds the gates off (R168, R169),
or STANDBY has been decided (R444, R480). -/
def State.railStart (s : State) : State :=
  if s.saf.vledDis || s.unitFenced 2 || s.eng.leaving then s
  else s.onLed fun l =>
    { l with on := true, starting := true, startWait := true, regOk := false, phases := l.phasesM1 + 1, disabled := 0, peakA := 6,
             setMv := l.vstartMv, refMv := l.vledMv, refAt := s.time.local_, dMax := none, rising := false }

/-- The rail starts if it is off (R167). -/
def State.railStartIfOff (s : State) : State := if s.led.on then s else s.railStart

/-! ### Feeders -/

/-- The sweep in progress stops without results for its round (R145): it has not completed, so nothing new is to be read (R159). -/
def State.stopSweep (s : State) : State :=
  if s.rings.sweep == .none then s
  else (s.onRings fun u => { u with sweep := .none, sent := none }).fire 19

/-- The feeders stream and latch one all-zero frame at entry to DARK (R131). -/
def State.askZeroFrame (s : State) : State := s.onRings fun u => { u with zeroFrame := true }

/-- The words of the Cairn frame’s head: SYNC, SEG, PERIOD, DRIVE (R156). Its SEQ is that of the latest frame (DESIGN CHOICE, log entry
75). -/
def cairnWords (k seq level : Nat) (plan : BitVec 24) (period : Nat) : List (Bool × RingWord) :=
  (true, syncWord k seq true) :: segWords plan period ++ [(true, driveWord level 3 false)]

/-- PERIOD: the frame period in bit periods of 1.25 ns (R132). -/
def State.periodBits (s : State) : Nat := (s.comp.den * 800000000 + s.comp.num / 2) / s.comp.num

/-- The palette entry of Cairn pixel `i` (R155): bits [2i+1:2i] of the plane. -/
def RingUnit.cairnPixel (u : RingUnit) (i : Nat) : Nat := fld (sget 0 (i / 16) u.sram) (2 * (i % 16) + 1) (2 * (i % 16))

/-- A Cairn frame is streamed on every ring that can be reached; its cells are to be confirmed afresh (R156). -/
def State.cairnStream (s : State) : State :=
  s.onRings fun u =>
    { u with
      cairnLatched := false
      cells := u.cells.filterMap fun c =>
        let x : Cell := { c.2 with confirmed := false, keep := false, retries := 0, returned := false, silentNow := false, due := false }
        if x = {} then none else some (c.1, x)
      rings := (List.range 64).map fun k =>
        let r := u.rings.getD k {}
        if r.up then
          { r.begin s.time.local_ with
            rows := 0, echoed := false, cairn := true, decided := none, launched := none, outA := false, outB := false
            out := bothEnds (r.mode == .hinge) (cairnWords k u.seq.toNat u.cairnLevel s.led.plan s.periodBits) }
        else r }

/-- The safety monitor requests the sign (R156, R381): a sweep stops (R145), and each feeder streams the Cairn frame. Without a
valid plane the first check fails (R470). -/
def State.cairnRequest (s : State) : State :=
  let s1 := (s.stopSweep.onRings fun u =>
    { u with cairnOn := true, cairnShown := false, cairnLevel := s.saf.params.ssgLevel, monOk := u.sramOk }).cairnStream
  if s.rings.sramOk then s1 else s1.raise 0x67 0

/-- The Cairn path no longer drives the rings; nothing is checked any more, so a failed check’s condition ends. -/
def State.cairnEnd (s : State) : State :=
  (s.onRings fun u =>
    { u with cairnOn := false, cairnLatched := false, cairnShown := false, rings := u.rings.map fun r => { r with cairn := false } }).endSrc 0x67

/-- Ring `k` is fenced (R148, R417): nothing is sent to it. -/
def State.fenceRing (s : State) (k : Nat) : State :=
  (s.onRing k fun r => { r with mode := if r.mode == .lost then .lost else .fenced, decided := none, launched := none, outA := false, outB := false, rows := 0, sign := false }).onFlt fun f =>
    { f with ringFences := f.ringFences ||| BitVec.ofNat 64 (2 ^ k) }

end Sys2Proof.Machine
end

