-- ==== Sys2Proof/Machine/SafetyOps.lean ====
section
/-!
DEFINITION. Sys2Proof/Machine/SafetyOps.lean: engine-state transitions, safety causes and the performance of the safety
functions (chapters 1 and 13).
-/

namespace Sys2Proof.Machine

/-- A transition of the engine state (R22, R29): PREV and TRANS_COUNT follow and the STATE event fires; at entry to SERVICE
every thread halts with CAUSE 11 (R215); entry to SAFE is marked in the open proof record (R367). -/
def State.setEng (s : State) (n : EngState) : State :=
  if s.eng.st == n then s
  else
    let s1 := (s.onEng fun e => { e with st := n, prev := e.st, transCount := inc 16 e.transCount }).fire 24
    if n == .service then s1.haltAll 11
    else if n == .safe then s1.onWard fun w => w.markProof 2
    else s1

/-- Entry to DARK (R131): the feeders stream and latch one all-zero frame. The instant at which DARK is first reached since
BOOT is kept for R466. -/
def State.enterDark (s : State) : State :=
  (((s.setEng .dark).onComp fun c => { c with litFrame := false }).askZeroFrame).onNvm fun v =>
    { v with darkAt := match v.darkAt with | some t => some t | none => some s.time.local_ }

/-! ### Boot control record (R464, R453) -/

/-- The boot control record in force; with no valid copy no slot is in any state that boots (R465). -/
def State.bootRec (s : State) : BootRecord :=
  match s.nvm.boot.newest bootLayout with | some c => c.body | none => { slot0 := .empty, slot1 := .empty }

/-- A short store (R453, R454): the target is erased, then written; the copy that it follows stays until the store is over. -/
def Pair.rewrite {α : Type} (p : Pair α) (L : Layout α) (body : α) : Pair α := (p.eraseNext L).store L body 1

/-- A boot control write (R453, R464), which none starts once R456 bars new phases. -/
def State.writeBoot (s : State) (f : BootRecord → BootRecord) : State :=
  if s.pwr.noNewStore then s
  else s.onNvm fun v => { v with boot := v.boot.rewrite bootLayout (f s.bootRec), bootWroteAt := some s.time.local_ }

/-- A safety parameter write (R387, R453). -/
def State.writeParams (s : State) (x : SafetyParams) : State :=
  s.onNvm fun v => { v with safety := v.safety.rewrite safetyLayout x, safetyWroteAt := some s.time.local_ }

/-- The short stores under way are over, and their next targets erased (R454). -/
def Nvm.shortStoresDone (v : Nvm) : Nvm :=
  { v with
    boot := if v.bootWroteAt.isSome then v.boot.eraseNext bootLayout else v.boot, bootWroteAt := none
    safety := if v.safetyWroteAt.isSome then v.safety.eraseNext safetyLayout else v.safety, safetyWroteAt := none }

/-- The state of a slot, false for slot 0. -/
def BootRecord.slot (b : BootRecord) (k : Bool) : SlotState := if k then b.slot1 else b.slot0

/-- The record with the state of a slot changed. -/
def BootRecord.setSlot (b : BootRecord) (k : Bool) (x : SlotState) : BootRecord :=
  if k then { b with slot1 := x } else { b with slot0 := x }

/-- Staging is aborted (R26, R463): the slot becomes INVALID and PHASE FAILED. The spec states no CODE for an abort: it is a
free value (log entry 11). -/
def State.abortStaging (s : State) : State :=
  ((s.writeBoot fun b => b.setSlot s.nvm.updTarget .invalid).onNvm fun v =>
    { v with phase := .failed, updCode := (Config.freeWord s.free).truncate 8, updFresh := true, waiting := 0 }).takeFree

/-! ### Causes -/

/-- The causes of R376, by bit. -/
inductive Cause where
  | inA | inB | bcDemand | watchdog | request | internal
  deriving DecidableEq, Repr

/-- The bit of a cause (R376). -/
def Cause.bit : Cause → Nat
  | .inA => 0 | .inB => 1 | .bcDemand => 2 | .watchdog => 3 | .request => 4 | .internal => 5

/-- A cause with its function. -/
def Saf.cause (f : Saf) : Cause → Option SafeFunc
  | .inA => f.inA | .inB => f.inB | .bcDemand => f.bcDemand | .watchdog => f.watchdog | .request => f.request
  | .internal => f.internal

/-- The monitor with one cause set. -/
def Saf.setCause (f : Saf) (c : Cause) (v : Option SafeFunc) : Saf :=
  match c with
  | .inA => { f with inA := v } | .inB => { f with inB := v } | .bcDemand => { f with bcDemand := v }
  | .watchdog => { f with watchdog := v } | .request => { f with request := v } | .internal => { f with internal := v }

/-- A cause is demanded (R376): it holds the higher-ranked function. An SFD that arises while the drive enables are deasserted has no light to
fade: its fade counts as complete at once (R380). -/
def Saf.arise (f : Saf) (c : Cause) (fn : SafeFunc) : Saf :=
  let g := f.setCause c (higher (f.cause c) (some fn))
  { g with fadeDone := g.fadeDone || (g.cause c == some .sfd && (f.sloOut || !f.drvEnA || !f.drvEnB)) }

/-- The conditions of R375 for asserting the drive enables, but for "no cause is active". -/
def State.mayDrive (s : State) : Bool := s.running && s.eng.st != .boot && s.saf.selftestOk && s.saf.paramsOk

/-- SLO is performed (R379): both drive enables deasserted, VLED disable asserted, the rail off (R168), any fade and the
Cairn path stopped; a fade that is stopped counts as completed (R377). -/
def State.performSlo (s : State) : State :=
  (((s.onSaf fun f => { f with drvEnA := false, drvEnB := false, vledDis := true, sloOut := true, fading := false,
                               fadeDone := f.fadeDone || f.fading, ssgAsked := false })).railOff).cairnEnd

/-- SFD takes effect (R380): the fade starts from the highest effective level, or counts as complete at once when there is
no light to fade. -/
def State.performSfd (s : State) : State :=
  if s.saf.sloOut || !s.saf.drvEnA || !s.saf.drvEnB then
    s.onSaf fun f => { f with fadeDone := true, fading := false }
  else
    let l0 := s.highestLevel
    (s.onSaf fun f =>
      { f with fading := true, fadeDone := false, fadeL0 := l0, fadeI0 := s.led.phaseMa.foldl (· + ·) 0, fadeTick := 0,
               ceiling := l0, ceil1 := l0, ceil2 := l0 }).applyCeilings

/-- SSG takes effect (R381): the sign is requested; from the outputs of SLO the rail is restarted first; with the LED supply
fenced SLO is performed instead. -/
def State.performSsg (s : State) : State :=
  if s.unitFenced 2 then (s.performSlo).raise 0xC2 0
  else if s.saf.sloOut then
    if s.mayDrive then
      (s.onSaf fun f => { f with vledDis := false, ssgAsked := true, fading := false }).railStart
    else s
  else
    (s.onSaf fun f => { f with fading := false, fadeDone := f.fadeDone || f.fading }).cairnRequest

/-- The outputs follow a change of the function in force from `old` (R377). -/
def State.applyFunc (s : State) (old : Option SafeFunc) : State :=
  if s.saf.func = old then s
  else match s.saf.func with
    | some .slo => s.performSlo
    | some .ssg => s.performSsg
    | some .sfd =>
      -- a fade that a higher function stopped counts as completed (R377)
      if s.saf.fadeDone then s.performSlo else (s.cairnEnd).performSfd
    | none => s

/-- The engine enters SAFE from the states of R22’s third row; UPDATE aborts its staging (R26), a sweep stops (R145). Once an event of
R22’s second row has decided STANDBY, no demand changes the state any more or aborts a staging (R23, R480; DEDUCED for a shutdown
crossing and a supply fault, log entry 71). -/
def State.enterSafe (s : State) : State :=
  if s.eng.leaving then s
  else match s.eng.st with
  | .join | .dark | .lit | .service => (s.setEng .safe).stopSweep
  | .update => (s.abortStaging.setEng .safe).stopSweep
  | _ => s

/-- DETAIL of SAFETY_DEMAND: the cause’s bit, and the code of its function in bits 15 to 8 (R402; log entry 53). -/
def demandDetail (c : Cause) (fn : SafeFunc) : Nat := c.bit + 256 * fn.code

/-- A cause arises, or is demanded again (R376): it holds the higher-ranked function; a new one raises SAFETY_DEMAND, but for the
cause of a thermal shutdown (R444), fires SAFETY, and changes the outputs at once (R377, R378). Each demand, new or repeated, is a safety demand of
R22’s third row: a cause that is demanded again while the engine is in SERVICE moves it to SAFE (DEDUCED, log entry 72). -/
def State.addCause (s : State) (c : Cause) (fn : SafeFunc) : State :=
  let old := s.saf.func
  let isNew := (s.saf.cause c).isNone
  let s1 := s.onSaf fun f => f.arise c fn
  let s2 := if isNew then (if s.eng.shutting then s1 else s1.raise 0xC9 (demandDetail c fn)).fire 23 else s1
  (s2.applyFunc old).enterSafe

/-- The outputs that R375 allows once no cause is active: drive enables asserted, VLED disable released, the safety ceiling
lifted. -/
def State.releaseOutputs (s : State) : State :=
  if s.mayDrive && !s.safeDemand then
    (s.onSaf fun f => { f with drvEnA := true, drvEnB := true, vledDis := false, sloOut := false, fading := false,
                               fadeDone := false, ceiling := 191, ceil1 := 191, ceil2 := 191, ssgAsked := false }).cairnEnd
  else s

/-- Entry to JOIN (R22): operating time runs (R186); STALE is marked where a check of R459 fails; every thread starts
(R215), the program checked and reported where all are halted (R217), the outputs that R375 allows follow, and a rail that is off starts (R167, R168, R490; DEDUCED, log entries 56 and 57). -/
def State.enterJoin (s : State) : State :=
  let stale := !s.nvm.settingsOk || s.nvm.settingsUid != s.col.ident.uid || s.cmd.settingsEpoch != s.col.userEpoch
  let s1 := ((s.setEng .join).onAge fun a => { a with joinAt := some (a.joinAt.getD s.time.local_) }).onEng fun e =>
    { e with stale := e.stale || stale }
  let s2 := if s1.allHalted then s1.reportProg else s1
  ((if s1.unitFenced 5 then s1 else s2.startThreads).releaseOutputs).railStartIfOff

/-- SAFE exits when the last cause has cleared (R25): to SERVICE without a valid image, to DARK when joined, else to JOIN. The
rail restarts when it is off (R167), and one all-zero frame is latched (R378). -/
def State.exitSafe (s : State) : State :=
  let s1 := s.releaseOutputs
  if s1.safeDemand then s1
  else if s1.eng.st == .safe then
    if s1.eng.noImage then (s1.setEng .service).askZeroFrame
    else if s1.eng.joined then (s1.enterDark).railStartIfOff
    else s1.enterJoin.askZeroFrame
  else s1

/-- Causes clear: those for which `p` holds, in channel B alone while the logic die does not run. The function in force may fall; when none is
left, SAFE exits. -/
def State.clearCauses (s : State) (p : Cause → Bool) : State :=
  let old := s.saf.func
  let cl := [Cause.inA, .inB, .bcDemand, .watchdog, .request, .internal].filter fun c => p c && (s.saf.cause c).isSome
  if cl.isEmpty then s
  else
    let s0 := s.onSaf fun f => cl.foldl (fun f c => f.setCause c none) f
    let s1 := s0.fire 23
    if !s.running then s0
    else if s1.safeDemand then s1.applyFunc old else s1.exitSafe

/-- INTERNAL’s reset condition (R376): no S3 condition that reacts is present and every S3 record that reacts is
acknowledged. -/
def State.internalGone (s : State) : Bool :=
  !(s.flt.conds.any fun c => c.sev.val == 3 && c.react)
    && !(s.flt.records.any fun r => !r.acked && r.reacts 3)

/-- INTERNAL clears by itself once its condition is gone and its record acknowledged (R376); SAFE without a cause exits once no
CRITICAL record is unacknowledged any more (R25). -/
def State.checkInternal (s : State) : State :=
  let s1 := if s.saf.internal.isSome && s.internalGone then s.clearCauses (· == .internal) else s
  if s1.eng.st == .safe && !s1.safeDemand && !s1.criticalUnacked then s1.exitSafe else s1

/-- The condition of SAFETY_OUTPUT that R381 raises ends when SSG is no longer in force or the LED supply no longer fenced. -/
def State.checkSsgFenced (s : State) : State :=
  if s.saf.func == some .ssg && s.unitFenced 2 then s else s.endCond 0xC2 0

end Sys2Proof.Machine
end

