-- ==== Sys2Proof/Machine/PowerOps.lean ====
section
/-!
DEFINITION. Sys2Proof/Machine/PowerOps.lean: the NVM log, interrupted stores, and every logic-die reset (R456, R472, R489).
-/

namespace Sys2Proof.Machine

/-! ### The NVM log (R472) -/

/-- An entry appended: when the 12,288 entries are full, the oldest sector of 128 is erased first (R472). -/
def Nvm.append (v : Nvm) (e : LogEntry) : Nvm :=
  { v with log := e :: (if 12288 ≤ v.log.length then v.log.take (12288 - 128) else v.log) }

/-- Every waiting entry appended: a reset that follows its own log entry waits for it (R406, R467). -/
def State.flushLog (s : State) : State :=
  s.onNvm fun v => { v.logQueue.foldl Nvm.append v with logQueue := [] }

/-- The short stores of R454 take at most 2 ms. -/
def shortStore : Nat := 2 * 65536000000

/-! ### Interrupted stores (R453, R456) -/

/-- The settings area in use (R458): L, or N while a trial runs; true for area 1. -/
def State.areaUsed (s : State) : Bool := if s.nvm.trial then !s.bootRec.areaL else s.bootRec.areaL

/-- A settings area. -/
def Nvm.area (v : Nvm) (k : Bool) : Pair Settings := if k then v.area1 else v.area0

/-- The NVM with one settings area changed. -/
def Nvm.onArea (v : Nvm) (k : Bool) (f : Pair Settings → Pair Settings) : Nvm :=
  if k then { v with area1 := f v.area1 } else { v with area0 := f v.area0 }

/-- A store or background erase of a kind is under way. -/
def Nvm.storing (v : Nvm) (k : StoreKind) : Bool :=
  v.erasing.contains k ||
    match k with
    | .settings => v.jobSettings.isSome
    | .retained => v.jobRetained.isSome
    | .program => v.jobProg.isSome
    | _ => false

/-- A boot control or safety parameter write runs: every STORE waits (R454). -/
def Nvm.shortRuns (v : Nvm) : Bool := v.bootWroteAt.isSome || v.safetyWroteAt.isSome

/-- A short store or a STORE runs: a journal replay waits (R454). -/
def Nvm.storeRuns (v : Nvm) : Bool :=
  v.shortRuns || v.jobSettings.isSome || v.jobRetained.isSome || v.jobProg.isSome

/-- A store, a journal replay or a background erase has the NVM: scrub and log appends wait (R454). -/
def Nvm.working (v : Nvm) : Bool := v.storeRuns || !v.erasing.isEmpty || v.journal.isSome

/-- What is left of a short store (R453): begun less than 2 ms before and cut, its copy is torn and the other one stays; else it is over, and the
next target is erased (R454). -/
def Pair.cutShort {α : Type} (p : Pair α) (L : Layout α) (at_ : Option Nat) (now : Nat) (cut : Bool) : Pair α :=
  match at_ with
  | none => p
  | some t => if cut && decide (now < t + shortStore) then p.tear L else p.eraseNext L

/-- What the NVM holds after the logic die stops: its contents, with the target of every interrupted store or erase invalid (R453, R456); its
registers are at reset. How far a write had come is a free value: whether a boot control or a safety parameter write of the last 2 ms had its
COMMIT, and whether the journal entry had (R455). -/
def Nvm.keep (v : Nvm) (area : Bool) (now : Nat) (cut : Word) : Nvm :=
  let spoil := fun {α : Type} (p : Pair α) (L : Layout α) (b : Bool) => if b then p.spoilNext L else p
  { ({} : Nvm) with
    boot := v.boot.cutShort bootLayout v.bootWroteAt now (cut.getLsbD 0)
    slot0 := v.slot0, slot1 := v.slot1
    area0 := spoil v.area0 (settingsLayout false) (!area && v.storing .settings)
    area1 := spoil v.area1 (settingsLayout true) (area && v.storing .settings)
    prog := spoil v.prog programLayout (v.storing .program), retained := spoil v.retained retainedLayout (v.storing .retained)
    safety := v.safety.cutShort safetyLayout v.safetyWroteAt now (cut.getLsbD 1)
    cairnHdr := v.cairnHdr, plane := v.plane, planeBad := v.planeBad, journal := if cut.getLsbD 2 then none else v.journal, log := v.log }

/-- Ward’s sealed region (R344, R362), all that it keeps; JTAG is open again only in UNOWNED (R346, R365). -/
def Ward.keep (w : Ward) : Ward :=
  { ({} : Ward) with
    owned := w.owned, policy := w.policy, signKey := w.signKey, agreeKey := w.agreeKey, engineId := w.engineId, ownerId := w.ownerId, ownerPub := w.ownerPub, kWall := w.kWall
    arbFw := w.arbFw, highWater := w.highWater, enrollCount := w.enrollCount, proofReserve := w.proofReserve
    sealOpenings := w.sealOpenings, debugUnlocks := w.debugUnlocks, nextNo := w.proofReserve, jtagOpen := !w.owned, drawn := w.drawn }

/-- What channel B and the pins keep (R376): every cause but INTERNAL, the inputs, the straps read at BOOT (R386) and the parameter set; with
the drive enables deasserted, an SFD that stays active has no light to fade (R380). -/
def Saf.keep (f : Saf) : Saf :=
  { ({} : Saf) with
    inA := f.inA, inB := f.inB, bcDemand := f.bcDemand, watchdog := f.watchdog, request := f.request, bcQuiet := f.bcQuiet
    fadeDone := [f.inA, f.inB, f.bcDemand, f.watchdog, f.request].contains (some .sfd)
    inputA := f.inputA, inputB := f.inputB, ackReady := f.ackReady, straps := f.straps, strapsNow := f.strapsNow, params := f.params }

/-! ### Resets (R489) -/

/-- The logic die goes into reset (R489): every register block takes its reset values; the power die, the sealed region, the NVM,
the tile flash, the DRAM contents and channel B’s causes stay. Whatever the reset, its return waits for the temperature of R22 and R443. -/
def State.logicReset (s : State) : State :=
  { State.reset with
    pending := s.pending
    eng := { st := .standby }
    pwr := { s.pwr with logicHeld := true, bootMs := 0, joinMs := 0, rootLock := false, refOk := false, hkOk := true, noNewStore := false,
                        holdThermal := true }
    saf := s.saf.keep
    -- a run cut short reports STALE (R447)
    therm := if s.therm.trimBusy || (s.eng.shutting && s.therm.trimCode == stStale) then { trimCode := stStale, trimFresh := true } else {}
    age := { ({} : Age) with nextSet := s.age.nextSet }
    ward := s.ward.keep
    nvm := s.nvm.keep s.areaUsed s.time.local_ (Config.freeWord s.free)
    flash := s.flash, dram := s.dram, acc := s.acc, free := s.free + 1 }

/-- The value of CLK_RST_CAUSE.CAUSE (R489). -/
def RstCause.code : RstCause → Nat
  | .none => 0 | .powerOn => 1 | .supply => 2 | .thermal => 3 | .present => 4 | .pin => 5 | .clock => 6 | .watchdog => 7
  | .fallback => 8 | .restart => 9 | .debug => 10

/-- A further source in the cycle in which the reset began (R489): CAUSE is the first in table order, and OTHERS marks the rest. -/
def Pwr.alsoReset (p : Pwr) (c : RstCause) : Pwr :=
  if p.cause == c then p
  else if c.code < p.cause.code then { p with cause := c, others := p.others ||| BitVec.ofNat 10 (2 ^ (p.cause.code - 1)) }
  else { p with others := p.others ||| BitVec.ofNat 10 (2 ^ (c.code - 1)) }

/-- A reset source acts (R489): the logic die is held in reset and the engine is in STANDBY. A source that acts in the same CORE cycle, with no
idle step between (log entry 1), is one of several; one that acts later, while the die is held, adds nothing. -/
def State.holdReset (s : State) (c : RstCause) : State :=
  if s.running then s.logicReset.onPwr fun p => { p with cause := c, others := 0, resets := inc 16 p.resets, sameCycle := true }
  else if s.pwr.sameCycle then s.onPwr fun p => p.alsoReset c
  else s

/-- Entry to STANDBY by a reset that does not keep the supplies (R484). -/
def State.dropSupplies (s : State) : State :=
  s.onPwr fun p => { p with shutdownPending := p.auxEn0 || p.auxEn1 || p.coreEn, sequenced := false }

/-- No new page program, erase or store phase starts in the NVM or the tile flash (R188, R444, R456, R480): what runs there is
interrupted by the reset that follows. -/
def State.stopStores (s : State) : State := s.onPwr fun p => { p with noNewStore := true }

/-- Steps 1 and 3 of R444: gates off, drive 0, no new store; a self-trim run is cut short (R447). Step 2 is the SLO of the INTERNAL
cause that THERM_DIE_SHUTDOWN raises. -/
def State.startShutdown (s : State) : State :=
  (((s.railOff.driveZero.stopStores).onEng fun e => { e with shutting := true, leaving := true }).onTherm fun t =>
    if t.trimBusy then { t with trimBusy := false, trimCode := stStale, trimRejected := 0, trimFresh := true } else t)

end Sys2Proof.Machine
end

