-- ==== Sys2Proof/Machine/Settle.lean ====
section
/-!
DEFINITION. Sys2Proof/Machine/Settle.lean: what the fault collector does with the faults that a command raised: records,
merging, fences, SAFE, events (R407 to R417), and the outcome of a command.
-/

namespace Sys2Proof.Machine

/-- The fence unit of a source (R405, R430); TARGET as the last CHK_START took it (R425). -/
def State.fenceOf (s : State) (src detail : Nat) : FenceUnit :=
  if src = 0x18 then .unit 8
  else if 0x10 ≤ src ∧ src ≤ 0x17 then
    let t := (s.unit (src % 4)).target
    if t ≤ 9 then .unit t else .none
  else if src / 16 = 2 then .unit (6 + detail % 2)
  else if src / 16 = 4 then .unit 0
  else if src / 16 = 5 then .unit 1
  else if src / 16 = 6 then .ring (detail % 64)
  else if src / 16 = 7 then .unit 2
  else if src / 16 = 10 then .unit 5
  else if src / 16 = 11 then .unit 3
  else if src = 0xD5 then .unit 4
  else if src / 16 = 13 then .unit 9
  else .none

/-- A fence bit set. -/
def State.setFence (s : State) (i : Nat) : State := s.onFlt fun f => { f with fences := f.fences ||| BitVec.ofNat 10 (2 ^ i) }

/-- Ward’s sessions end (R351). -/
def Ward.endSessions (w : Ward) : Ward := { w with session := none, previous := none }

/-- The colour pipeline is fenced (R105): code 0 to every emitter of the whole back buffer, once, which the feeders stream from the
first row; then it writes nothing. -/
def State.fenceColour (s : State) : State :=
  let at_ := if s.col.front then 0 else 0x600000
  { s with
    dram := s.dram.filter fun c => !(decide (at_ ≤ c.1) && decide (c.1 < at_ + 6291456))
    col := { s.col with zeroed := true, halted := true }
    comp := { s.comp with composing := true, bands := 256, composed := if s.comp.composing then s.comp.composed else 256 }
    rings := { s.rings with
      rings := s.rings.rings.map fun r => { r with rows := 0 }
      cells := s.rings.cells.filterMap fun c =>
        let x : Cell := { c.2 with confirmed := false, keep := false, retries := 0, returned := false }
        if x = {} then none else some (c.1, x) } }

/-- A fault of this severity fences its unit: S2 (R407), and S3 for a source whose default is S2, which keeps the reaction that R406 lists for
it (DEDUCED, log entry 80). -/
def fencing (src : Nat) (sev : Fin 4) : Bool := sev.val == 2 || (sev.val == 3 && (defSev src).val == 2)

/-- A unit is fenced (R417): what each does at once. -/
def State.fenceUnit (s : State) (u : FenceUnit) : State :=
  match u with
  | .none => s
  | .ring k => s.fenceRing k
  | .unit i =>
    let s1 := s.setFence i
    if i = 0 then s1.onComp fun c => { c with bgOnly := true }
    else if i = 1 then (if s.unitFenced 1 then s1 else s1.fenceColour)
    else if i = 2 then
      let s2 := s1.railOff
      if s2.saf.func == some .ssg then (s2.performSlo).raise 0xC2 0 else s2
    else if i = 3 then s1.onWard Ward.endSessions
    else if i = 5 then s1.haltAll 10
    else if i = 6 then s1.disablePort .a
    else if i = 7 then s1.disablePort .b
    else s1

/-- A log entry of a kind queued for the NVM log (R472), stamped with W or the local counter. -/
def State.logEvent (s : State) (typ detail : Nat) (data : List Byte) : State :=
  let t := if s.time.valid then BitVec.ofNat 64 (s.wNs % 2 ^ 63) else BitVec.ofNat 64 (s.localNs % 2 ^ 63 + 2 ^ 63)
  s.onNvm fun v =>
    { v with logQueue := v.logQueue ++ [{ typ := (Config.logType typ).toNat, detail := detail % 256, time := t, data := padTo 20 data }] }

/-- The kinds of log entries of R472; the TYPE of each is a free value (log entry 12). -/
def logFault : Nat := 1
def logSeal : Nat := 2
def logDebug : Nat := 3
def logAgeing : Nat := 4
def logEnrol : Nat := 5
def logConfirm : Nat := 6
def logFallback : Nat := 7

/-- Word 1 of a record (R409). -/
def FaultRecord.word1 (f : Flt) (r : FaultRecord) : BitVec 32 :=
  pack [(0, r.src % 256), (8, r.severity.val), (10, r.origSev.val), (12, b2n r.injected), (13, b2n r.wValid), (14, b2n r.acked),
        (15, b2n (recActive f r)), (16, sat 8 r.mergeCount), (24, r.lastMerged % 256)]

/-- The four words of a record (R409). -/
def FaultRecord.words (f : Flt) (r : FaultRecord) : List (BitVec 32) :=
  [r.number, r.word1 f, pack [(0, r.mergedBlocks.toNat), (16, r.detail % 65536)], r.timeUs]

/-- The entry of a fault in its record, with the unit that it fences (R415). -/
def State.memberOf (s : State) (n : NewFault) (sev : Fin 4) : Member :=
  { src := n.src, detail := n.detail, sev := sev, react := n.react
    unit := if n.react && fencing n.src sev then s.fenceOf n.src n.detail else .none }

/-- The entries of a record with one more fault: a repeated one keeps the higher severity and every unit that it has fenced. -/
def addMember (l : List Member) (m : Member) : List Member :=
  if l.any fun x => x.src == m.src && x.detail == m.detail && x.react == m.react && x.unit == m.unit then
    l.map fun x => if x.src == m.src && x.detail == m.detail && x.react == m.react && x.unit == m.unit && x.sev < m.sev then m else x
  else l ++ [m]

/-- A record with a fault merged into it (R413, R414). -/
def FaultRecord.merge (r : FaultRecord) (m : Member) : FaultRecord :=
  let src := m.src
  let sev := m.sev
  { r with
    mergeCount := inc 8 r.mergeCount
    mergedBlocks := r.mergedBlocks ||| BitVec.ofNat 16 (2 ^ (src / 16 % 16))
    lastMerged := src
    severity := if r.severity < sev then sev else r.severity
    acked := if 2 ≤ sev.val then false else r.acked
    members := addMember r.members m }

/-- The slot of the oldest record for which `p` holds; record numbers wrap (R410). -/
def oldestSlot (l : List (Option FaultRecord)) (p : FaultRecord → Bool) : Option Nat :=
  (List.range l.length).foldl (fun best i =>
    match l.getD i none with
    | none => best
    | some r =>
      if p r then
        match best with
        | none => some i
        | some j => match l.getD j none with
          | some q => if newer32 q.number r.number then some i else some j
          | none => some i
      else best) none

/-- The slot of the newest record for which `p` holds. -/
def newestSlot (l : List (Option FaultRecord)) (p : FaultRecord → Bool) : Option Nat :=
  (List.range l.length).foldl (fun best i =>
    match l.getD i none with
    | none => best
    | some r =>
      if p r then
        match best with
        | none => some i
        | some j => match l.getD j none with
          | some q => if newer32 r.number q.number then some i else some j
          | none => some i
      else best) none

/-- The first empty slot. -/
def emptySlot (l : List (Option FaultRecord)) : Option Nat := (List.range l.length).find? fun i => (l.getD i none).isNone

/-- A record that must not be displaced (R410): ACTIVE with S2 or S3, or awaiting acknowledgement. -/
def recPinned (f : Flt) (r : FaultRecord) : Bool := 2 ≤ r.severity.val && (recActive f r || !r.acked)

/-- FLT_FIRST_INFO takes word 1 of the first record as it stands (R412): at a merge, and when the record is displaced. -/
def Flt.mirrorFirst (f : Flt) (r : FaultRecord) : Flt :=
  if f.first != 0 && r.number = f.first then { f with firstInfo := r.word1 f } else f

/-- A fault merges into the record of slot `i`; the event of a raised severity fires (R413). -/
def State.mergeInto (s : State) (i : Nat) (n : NewFault) (sev : Fin 4) (counted : Bool) : State :=
  match s.flt.slots.getD i none with
  | none => s
  | some r =>
    let r' := r.merge (s.memberOf n sev)
    let s1 := s.onFlt fun f =>
      ({ f with slots := f.slots.set i (some r'), merged := if counted then inc 16 f.merged else f.merged }).mirrorFirst r'
    if r.severity < sev then s1.fire (12 + sev.val) else s1

/-- A new record in slot `i` (R409 to R412): FLT_FIRST, capture source 7, the FAULT event and the NVM log follow. What the record of
TUMBLER_EVT_LOST or of TIME_CAP_OVERFLOW loses in turn is raised in the next CORE cycle (R228, R340; log entry 10). -/
def State.createRec (s : State) (i : Nat) (n : NewFault) (sev : Fin 4) : State :=
  let no := s.flt.nextNo
  let r : FaultRecord :=
    { number := no, src := n.src, severity := sev, origSev := sev, injected := n.injected,
      wValid := s.time.valid, acked := false, mergeCount := 0, lastMerged := 0, mergedBlocks := 0, detail := n.detail,
      timeUs := BitVec.ofNat 32 (s.nowNs / 1000), members := [s.memberOf n sev],
      handling := decide (1 ≤ sev.val) }
  let hour := s.localNs / 3600000000000
  let logged := s.flt.s1Logged.any fun p => p.1 == n.src && p.2 == hour
  let s1 := s.onFlt fun f =>
    let f0 := ((f.slots.getD i none).map f.mirrorFirst).getD f
    let f1 := { f0 with slots := f.slots.set i (some r), nextNo := if no = 0xFFFFFFFE then 1 else no + 1
                        newest := no, created := inc 16 f.created }
    if !n.injected && 1 ≤ sev.val && f.first = 0 then { f1 with first := no, firstInfo := r.word1 f1 } else f1
  let s2 := (s1.captureWith (n.src != 0xA2 && n.src != 0x35) 7 true).fireWith (n.src != 0xA2) (12 + sev.val)
  let s3 := if 2 ≤ sev.val || (sev.val == 1 && !logged) then s2.logEvent logFault n.src (bytesOf (r.words s2.flt)) else s2
  let s4 := if sev.val == 1 && !logged then s3.onFlt fun f => { f with s1Logged := (n.src, hour) :: f.s1Logged } else s3
  if sev.val == 3 then s4.onNvm fun v => { v with s3Seen := true } else s4

/-- The reaction of a fault (R407, R414, R423). -/
def State.react (s : State) (n : NewFault) (sev : Fin 4) : State :=
  if !n.react then s
  else
    let s1 := if fencing n.src sev then s.fenceUnit (s.fenceOf n.src n.detail) else s
    if sev.val = 3 then s1.addCause .internal .slo else s1

/-- FLT_FIFO_FULL (R410): counted, its condition present, merged into the record of slot `i`; then its reaction, which FLT_SEV may raise. -/
def State.fifoFull (s : State) (i : Nat) (injected react : Bool) : State :=
  let n : NewFault := { src := 0x19, detail := 0, injected := injected, react := react }
  let sev := s.flt.sevOf 0x19
  let s1 := s.onFlt fun f =>
    { f with
      full := inc 16 f.full
      conds := { src := 0x19, detail := 0, injected := injected, react := react, sev := sev } ::
        f.conds.filter fun c => !(c.src == 0x19 && c.detail == 0 && c.injected == injected) }
  (s1.mergeInto i n sev false).react n sev

/-- A fault is recorded (R410, R413): merged into the oldest handled record of its kind that existed before this command, or
given a record of its own, or merged into the newest record of its kind when all slots are pinned (R414: never into a record of the other
kind); with no record of its kind a real fault displaces the oldest injected one, and an injected fault is counted only (DESIGN CHOICE, log
entry 84). `old` lists the records in handling before the command. -/
def State.record (s : State) (old : List (BitVec 32)) (n : NewFault) (sev : Fin 4) : State :=
  match oldestSlot s.flt.slots (fun r => r.handling && r.injected == n.injected && old.contains r.number) with
  | some i => s.mergeInto i n sev true
  | none =>
    match emptySlot s.flt.slots with
    | some i => s.createRec i n sev
    | none =>
      match oldestSlot s.flt.slots (fun r => !recPinned s.flt r) with
      | some i => s.createRec i n sev
      | none =>
        match newestSlot s.flt.slots (fun r => r.injected == n.injected) with
        | some i => (s.mergeInto i n sev true).fifoFull i n.injected n.react
        | none =>
          if n.injected then s.onFlt fun f => { f with full := inc 16 f.full }
          else match oldestSlot s.flt.slots (fun r => r.injected) with
            | some i => s.createRec i n sev
            | none => s

/-- The order of R411: real faults first, then the higher severity, then the lower source number. -/
def faultBefore (f : Flt) (a b : NewFault) : Bool :=
  if a.injected != b.injected then !a.injected
  else if f.sevOf a.src ≠ f.sevOf b.src then decide (f.sevOf b.src < f.sevOf a.src)
  else decide (a.src ≤ b.src)

/-- Insertion in the order of R411. -/
def insertFault (f : Flt) (n : NewFault) : List NewFault → List NewFault
  | [] => [n]
  | m :: l => if faultBefore f n m then n :: m :: l else m :: insertFault f n l

/-- The faults of one command in the order of R411. -/
def orderFaults (f : Flt) (l : List NewFault) : List NewFault := l.foldr (insertFault f) []

/-- The faults raised so far are recorded and reacted to; a reaction may raise further faults, so this is repeated (`fuel`
bounds it; every chain of reactions in the spec is shorter). -/
def State.settleN : Nat → List (BitVec 32) → State → State
  | 0, _, s => s.onFlt fun f => { f with newFaults := [] }
  | k + 1, old, s =>
    match s.flt.newFaults with
    | [] => s
    | l =>
      let s0 := s.onFlt fun f => { f with newFaults := [] }
      State.settleN k old ((orderFaults s.flt l).foldl (fun s n =>
        let sev := s.flt.sevOf n.src
        (s.record old n sev).react n sev) s0)

/-- A fault brings a reset with it (R406, R485), which acts once the fault is recorded; a failing supply outranks SAFE (R23). -/
def State.resetWith (s : State) (c : RstCause) : State :=
  s.onEng fun e => { e with resetDue := some c, leaving := e.leaving || c == .supply }

/-- The fault pair shows FAULT as soon as R419 demands it (R420). -/
def State.pairUpdate (s : State) : State := if s.pairDemand then s.onFlt fun f => { f with pairFault := true } else s

/-- A reset that a fault of this command brings acts once the fault is recorded: the log is written first, but not where a supply fails
(R406, R467, R485; log entry 64);
a fallback and a restart wait for their boot control write (R464, R467). -/
def State.resetIfDue (s : State) : State :=
  let s1 := s.onEng fun e => { e with resetDue := none }
  match s.eng.resetDue with
  | none => s
  | some .supply => (s1.holdReset .supply).dropSupplies
  | some .watchdog => s1.flushLog.holdReset .watchdog
  | some c => (s1.flushLog.onNvm Nvm.shortStoresDone).holdReset c

/-- What follows a command’s own effect: the faults that it raised are recorded and reacted to (R407 to R414), what
depends on conditions that ended is brought up to date (R376, R381, R419), the faults which that raises are recorded too, and a reset
that is due acts. -/
def State.settle (s : State) : State :=
  let old := (s.flt.records.filter fun r => r.handling).map (·.number)
  ((s.settleN 6 old).checkSsgFenced.checkInternal.settleN 6 old).pairUpdate.resetIfDue

/-- The outcome of a command whose own effect leads to `s`. -/
def done (s : State) : Host.Outcome State Fault Refusal := .next s.settle

end Sys2Proof.Machine
end

