-- ==== Sys2Proof/Machine/Operands.lean ====
section
/-!
DEFINITION. Sys2Proof/Machine/Operands.lean: the operand forms of Tumbler instructions: their words, which words are
illegal, and how an instruction issues and ends (R211 to R225).
-/

namespace Sys2Proof.Machine

/-- The word of an R-format instruction (R221). -/
def encR (op : Nat) (rd ra rb : Fin 16) : Word := pack [(26, op), (22, rd.val), (18, ra.val), (14, rb.val)]

/-- The word of an I-format instruction (R221). -/
def encI (op : Nat) (rd ra : Fin 16) (imm : BitVec 18) : Word := pack [(26, op), (22, rd.val), (18, ra.val), (0, imm.toNat)]

/-- The fields of a word that the instruction of its opcode does not use are zero, its opcode is defined, its shift amount and
its TIME selector are in range (R221, R224, R232). -/
def legalWord (w : Word) : Bool :=
  let op := fld w 31 26
  let rd0 := fld w 25 22 == 0
  let ra0 := fld w 21 18 == 0
  let low := fld w 13 0 == 0
  let imm0 := fld w 17 0 == 0
  if op ≤ 0x0F then low
  else if op ≤ 0x13 then true
  else if op ≤ 0x16 then fld w 17 5 == 0
  else if op = 0x17 then ra0
  else if op ≤ 0x25 then true
  else if op = 0x26 then rd0 && ra0
  else if op = 0x27 then rd0 && imm0
  else if op = 0x28 then rd0 && ra0
  else if op = 0x29 then rd0 && imm0
  else if op ≤ 0x2B then rd0 && ra0 && imm0
  else if op = 0x2C then ra0
  else if op = 0x2D then low
  else if op ≤ 0x2F then true
  else if op = 0x30 then ra0 && decide (fld w 17 0 ≤ 4)
  else if op = 0x31 then low
  else if op ≤ 0x38 then imm0
  else if op = 0x39 then low
  else if op = 0x3A then ra0
  else false

/-- simm: imm18 sign-extended to 32 bits (R221). -/
def simm (imm : BitVec 18) : Word := imm.signExtend 32

/-- uimm: imm18 zero-extended (R221). -/
def uimm (imm : BitVec 18) : Word := imm.zeroExtend 32

/-- The next instruction a thread issues exceeds its run limit (R213). -/
def Thread.runaway (x : Thread) : Bool := fld x.runlim 15 0 != 0 && decide (1024 * fld x.runlim 15 0 < x.issued + 1)

/-- Thread `t` has the issue slot (R211, R215): threads run in the engine’s state, it is READY, and every thread of a higher priority is
WAITING, STALLED or HALTED. -/
def State.hasSlot (s : State) (t : Fin 8) : Bool :=
  s.threadsRun && (s.thread t).st == .ready && (List.range t.val).all fun u => (s.thread u).st != .ready

/-- Thread `t` may issue the word `w`: it has the issue slot, `w` lies at its PC, and it does not run away (R211, R213). -/
def State.issues (s : State) (t : Fin 8) (w : Word) : Bool :=
  s.hasSlot t && s.progWord (s.thread t).pc == w && !(s.thread t).runaway

/-- The PC goes to the next instruction (14 bits), and the issue is counted (R213). -/
def Thread.advance (x : Thread) : Thread := { x with pc := (x.pc + 1) % 16384, issued := x.issued + 1 }

/-- The PC goes to a target, and the issue is counted. -/
def Thread.jump (x : Thread) (pc : Nat) : Thread := { x with pc := pc, issued := x.issued + 1 }

/-- An instruction that writes one register ends (R222). -/
def State.setResult (s : State) (t : Fin 8) (rd : Fin 16) (v : Word) : State :=
  s.onThread t fun x => (x.setReg rd v).advance

/-- An exception (R225): the thread halts at its PC with the cause; TUM_EXC and TUMBLER_EXC record it, with the thread as
DETAIL (R409). -/
def State.except (s : State) (t : Fin 8) (cause : Nat) : State :=
  ((s.onThread t fun x => x.halt cause).onTum fun m =>
    { m with excThread := t.val, excCause := cause, excPc := (s.thread t).pc, excCount := inc 8 m.excCount }).raise 0xA0 t.val

/-- A row that stands for the issue of an instruction: it does nothing while the thread cannot issue that word now. -/
def State.issue (s : State) (t : Fin 8) (w : Word) (f : Thread → State) : Host.Outcome State Fault Refusal :=
  if s.issues t w then done (f (s.thread t)) else .next s

/-- An R-format instruction that computes one register from two. -/
def State.alu (s : State) (op : Nat) (t : Fin 8) (rd ra rb : Fin 16) (f : Word → Word → Word) : Host.Outcome State Fault Refusal :=
  s.issue t (encR op rd ra rb) fun x => s.setResult t rd (f (x.reg ra) (x.reg rb))

/-- An I-format instruction that computes one register from one and an immediate. -/
def State.aluImm (s : State) (op : Nat) (t : Fin 8) (rd ra : Fin 16) (imm : BitVec 18) (f : Word → Word) :
    Host.Outcome State Fault Refusal :=
  s.issue t (encI op rd ra imm) fun x => s.setResult t rd (f (x.reg ra))

/-- The data address ra + simm (R224). -/
def Thread.addr (x : Thread) (ra : Fin 16) (imm : BitVec 18) : Nat := (x.reg ra + simm imm).toNat

/-- The data address serves a word access (R224). -/
def wordOk (a : Nat) : Bool := a % 4 == 0 && decide (a < 16384)

/-- A target of a branch or jump is in range (R223). -/
def targetOk (a : Nat) : Bool := decide (16 ≤ a ∧ a ≤ 16383)

/-- The target PC + simm as a signed number (R223). -/
def Thread.rel (x : Thread) (off : BitVec 18) : Int := (x.pc : Int) + off.toInt

/-- A transfer of control to a target, or the TARGET exception (R223). -/
def State.transfer (s : State) (t : Fin 8) (target : Int) (f : Thread → Thread) : State :=
  if 16 ≤ target ∧ target ≤ 16383 then s.onThread t fun x => (f x).jump target.toNat else s.except t 6

/-- A conditional branch (R223, R224). -/
def State.branch (s : State) (op : Nat) (t : Fin 8) (rd ra : Fin 16) (off : BitVec 18) (p : Word → Word → Bool) :
    Host.Outcome State Fault Refusal :=
  s.issue t (encI op rd ra off) fun x =>
    if p (x.reg rd) (x.reg ra) then s.transfer t (x.rel off) id else s.onThread t Thread.advance

/-- A thread that goes into a wait (R229 to R231). -/
def Thread.sleep (x : Thread) (w : Wait) : Thread := { x.advance with st := .waiting, wait := w }

/-- The compare that serves a thread armed with a target in ns (R231, R336). -/
def State.armCompare (s : State) (t : Fin 8) (target : Nat) : State :=
  s.onTime fun x =>
    { x with
      cmps := upd x.cmps t.val fun c =>
        { c with lo := BitVec.ofNat 32 target, armed := true,
                 hi := BitVec.ofNat 32 (target / 2 ^ 32 % 2 ^ 16 + fld c.hi 31 16 * 2 ^ 16) } }

end Sys2Proof.Machine
end

