-- ==== Sys2Proof/Machine/WardOps.lean ====
section
/-!
DEFINITION. Sys2Proof/Machine/WardOps.lean: tags, sessions, replay checks, key slots, stream authentication, image
verification, attestation and proof records (chapter 12).
-/

namespace Sys2Proof.Machine

/-- ASCII bytes, without a terminator (R343). -/
def ascii (t : String) : List Byte := t.toList.map fun c => BitVec.ofNat 8 c.toNat

/-! ### Derived keys (R349) -/

def Ward.kAnn (w : Ward) : BitVec 256 := hkdf (bytes256 w.kWall) [] (ascii "OVX-ANNOUNCE")
def Ward.kSwrap (w : Ward) : BitVec 256 := hkdf (bytes256 w.kWall) [] (ascii "OVX-SESSION")
def Session.kCmd (x : Session) : BitVec 256 := hkdf (bytes256 x.secret) [] (ascii "OVX-COMMAND")
def Session.kKwrap (x : Session) : BitVec 256 := hkdf (bytes256 x.secret) [] (ascii "OVX-SLOT")

/-- The sessions under which a K_cmd tag is tried, in order (R353); none while Ward is fenced (R351). -/
def State.sessions (s : State) : List Session :=
  if s.unitFenced 3 then [] else s.ward.session.toList ++ s.ward.previous.toList

/-! ### The JTAG port (R346) -/

/-- An instruction of the JTAG port (R346): `debug` is debug access to the management core and the register space. -/
inductive JtagInstr where
  | idcode | bypass | samplePreload | extest | debug | other
  deriving DecidableEq, Repr

/-- JTAG is open: in UNOWNED, and after an unlock until the next reset (R346, R348, R365). -/
def Ward.jtagIsOpen (w : Ward) : Bool := w.jtagOpen || w.debugOpen

/-- What an instruction of the JTAG port acts as (R346): while JTAG is not open, every one but IDCODE as BYPASS. -/
def Ward.jtagActs (w : Ward) (i : JtagInstr) : JtagInstr :=
  match i with
  | .idcode => .idcode
  | .bypass | .other => .bypass
  | i => if w.jtagIsOpen then i else .bypass

/-! ### Tags (R352) -/

/-- A tag: the first 8 B of HMAC over the fields of R352; `payload` has its tag bytes zero. -/
def tagBytes (key : BitVec 256) (domain dest src typ ext sessNo : Nat) (payload : List Byte) : List Byte :=
  (bytes256 (hmac key (leBytes 1 domain ++ [0] ++ leBytes 2 (dest % 4096) ++ leBytes 2 (src % 4096) ++ leBytes 1 typ ++ [0]
    ++ leBytes 4 ext ++ leBytes 4 sessNo ++ payload))).take 8

/-- A payload with the 8 bytes at an offset zero. -/
def blank8 (l : List Byte) (off : Nat) : List Byte := l.take off ++ List.replicate 8 0 ++ l.drop (off + 8)

/-- The tag of a frame other than CONTROL verifies under one key (R352). -/
def tagMatches (key : BitVec 256) (sessNo domain : Nat) (f : Frame) (off : Nat) : Bool :=
  decide (off + 8 ≤ f.payload.length) &&
    slice f.payload off 8 == tagBytes key domain (hDest f.hdr) (hSrc f.hdr) (hType f.hdr) (hSeq f.hdr) sessNo (blank8 f.payload off)

/-- The K_ann tag of a frame verifies (R352). -/
def State.annTagOk (s : State) (domain : Nat) (f : Frame) (off : Nat) : Bool := tagMatches s.ward.kAnn 0 domain f off

/-- The K_cmd tag of a frame verifies, under the session or the previous one (R353). -/
def State.cmdTagOk (s : State) (domain : Nat) (f : Frame) (off : Nat) : Bool :=
  s.sessions.any fun x => tagMatches x.kCmd x.no.toNat domain f off

/-- A failed tag of a frame other than CONTROL is counted (R353). -/
def State.tagFailed (s : State) : State := s.onWard fun w => { w with tagFails := inc 16 w.tagFails }

/-! ### Command replay (R354) -/

/-- What the replay check of one session finds for a command. -/
inductive ReplayVerdict where
  | badTag
  | replay
  | accept (e : List SrcEntry)
  deriving DecidableEq, Repr

/-- R354 in one session: the extended CMD_ID, its tag, and the window of its SRC. -/
def Session.check (x : Session) (src : BitVec 12) (cmdId : BitVec 16) (tagOk : Nat → Bool) : ReplayVerdict :=
  match x.entries.find? (fun e => e.src == src) with
  | none =>
    if x.entries.length ≥ 16 then .badTag
    else if tagOk cmdId.toNat then .accept ({ src := src, h := cmdId.zeroExtend 32, mask := 0 } :: x.entries) else .badTag
  | some e =>
    let d : Int := ((cmdId - e.h.truncate 16 : BitVec 16)).toInt
    let ext : BitVec 32 := e.h + BitVec.ofInt 32 d
    let put := fun (n : SrcEntry) => ReplayVerdict.accept (x.entries.map fun q => if q.src == src then n else q)
    if !tagOk ext.toNat then .badTag
    else if 1 ≤ d then
      put { e with h := ext, mask := (e.mask <<< d.toNat) ||| BitVec.ofNat 64 (2 ^ (d.toNat - 1)) }
    else if d ≤ -1 ∧ -63 ≤ d ∧ !e.mask.getLsbD ((-d).toNat - 1) then
      put { e with mask := e.mask ||| BitVec.ofNat 64 (2 ^ ((-d).toNat - 1)) }
    else .replay

/-- The tag of a CONTROL payload (R352): SESSION at 0x08. -/
def ctlTag (x : Session) (dest src : Nat) (payload : List Byte) (ext : Nat) : Bool :=
  slice payload 8 8 == tagBytes x.kCmd 0x01 dest src 0x02 ext x.no.toNat (blank8 payload 8)

/-- Ward’s check of a tagged command (R353, R354): true when it passes, with its window advanced. -/
def State.checkCmdTag (s : State) (dest : Nat) (src : BitVec 12) (cmdId : BitVec 16) (payload : List Byte) : Bool × State :=
  let try1 := fun (x : Option Session) => match x with
    | none => ReplayVerdict.badTag
    | some x => x.check src cmdId (ctlTag x dest src.toNat payload)
  if s.unitFenced 3 then (false, s)
  else match try1 s.ward.session with
    | .accept es => (true, s.onWard fun w => { w with session := w.session.map fun x => { x with entries := es } })
    | .replay => (false, s.onWard fun w => { w with replays := inc 16 w.replays })
    | .badTag =>
      match try1 s.ward.previous with
      | .accept es => (true, s.onWard fun w => { w with previous := w.previous.map fun x => { x with entries := es } })
      | .replay => (false, s.onWard fun w => { w with replays := inc 16 w.replays })
      | .badTag => (false, s)

/-! ### Key slots (R356) -/

/-- A key slot. -/
def State.keySlot (s : State) (n : Nat) : Option KeySlot := (s.ward.slots.find? fun c => c.1 = n).map (·.2)

/-- The replay window of every context that uses a slot is reset (R356). -/
def State.resetWindows (s : State) (slot : Nat) : State :=
  { s with ctxs := s.ctxs.map fun c => if fld c.w0 15 8 = slot then { c with any := false } else c }

/-- A slot set to a key, or emptied. -/
def Ward.putSlot (w : Ward) (n : Nat) (k : Option KeySlot) : Ward :=
  { w with slots := match k with
      | none => w.slots.filter fun c => c.1 != n
      | some k => (w.slots.filter fun c => decide (c.1 < n)) ++ (n, k) :: w.slots.filter fun c => decide (n < c.1) }

/-- The first session under which a wrapped key opens (R356). -/
def State.openBlob (s : State) (slot mode : Nat) : Option (List Byte) :=
  let blob := bytesOf s.ward.blob
  s.sessions.findSome? fun x =>
    gcmOpen x.kKwrap (slice blob 0 12) (leBytes 4 x.no.toNat ++ leBytes 1 slot ++ leBytes 1 mode ++ leBytes 4 s.ward.keyGen.toNat)
      (slice blob 12 32) (slice blob 44 16)

/-- The CODE of a key load (R356). -/
def State.keyLoadCode (s : State) (w : Word) : Byte :=
  let slot := fld w 7 0
  let mode := fld w 8 8
  if fld w 9 9 = 1 then stOk
  else if s.sessions.isEmpty then stRefusedState
  else if (mode = 1 && s.ward.policy.getLsbD 1) || fld w 31 10 != 0 then stBadLen
  else match s.keySlot slot with
    | some k => if !newer32 s.ward.keyGen k.gen then stStale else if (s.openBlob slot mode).isSome then stOk else stBadSig
    | none => if (s.openBlob slot mode).isSome then stOk else stBadSig

/-- CODE and SLOT as WARD_KEY_STATUS shows them: the result before while a load runs (R59, R371). -/
def Ward.keyShown (w : Ward) : Byte × Nat := if w.keyBusy then w.keyPrev else (w.keyCode, w.keySlot)

/-- The load in progress completes (R59, R356, R357): the slot is emptied or takes the key, its contexts’ windows are reset, and the result is posted;
a load that failed raises KEY_LOAD_FAIL (R370). -/
def State.keyDone (s : State) : State :=
  if !s.ward.keyBusy then s
  else
    let s1 := s.onWard fun w => { w with keyBusy := false, keyFresh := true, keyNew := none }
    if s.ward.keyCode != stOk then s1.raise 0xB3 0
    else (s1.onWard fun w => w.putSlot w.keySlot s.ward.keyNew).resetWindows s.ward.keySlot

/-- A write of WARD_KEYLOAD_CTRL (R356): a load starts, once the one before has completed, and completes within 5 µs (`State.keyDone`, log
entry 28). -/
def State.keyLoad (s : State) (w : Word) : State :=
  let s0 := s.keyDone
  let slot := fld w 7 0
  let mode := fld w 8 8
  let code := s0.keyLoadCode w
  s0.onWard fun x =>
    { x with
      keyPrev := x.keyShown, keyCode := code, keySlot := slot, keyFresh := false, keyBusy := true, keyAt := s.time.local_
      keyNew := if code != stOk || fld w 9 9 = 1 then none
        else some { key := key256 ((s0.openBlob slot mode).getD []), gmac := mode == 1, gen := x.keyGen } }

/-! ### Stream payloads (R357 to R359) -/

/-- The decrypted data of a STREAM payload under a key slot, or none when its tag fails (R357). -/
def streamOpen (k : KeySlot) (f : Frame) : Option (List Byte) :=
  let h := plainHdr f.hdr
  let n := f.payload.length
  if n < 32 then none
  else
    let iv := leBytes 4 (hSeq f.hdr) ++ leBytes 2 (hDest f.hdr) ++ leBytes 2 (hSrc f.hdr) ++ leBytes 1 (hCtx f.hdr) ++ [0, 0, 0]
    let aad := leBytes 16 h.toNat ++ slice f.payload 0 16
    let data := slice f.payload 16 (n - 32)
    let tag := slice f.payload (n - 16) 16
    if k.gmac then (gcmOpen k.key iv (aad ++ data) [] tag).map fun _ => data
    else gcmOpen k.key iv aad data tag

/-- The replay check of a context (R359): the context with its window advanced, or none for a replay. -/
def Ctx.checkReplay (c : Ctx) (k : KeySlot) (seq : BitVec 32) : Option Ctx :=
  let d := (seq - c.lastSeq).toInt
  if !c.any then some { c with any := true, lastSeq := seq, window := 0, keyGen := k.gen }
  else if 0 < d then
    some { c with lastSeq := seq, keyGen := k.gen, window := (c.window <<< d.toNat) ||| BitVec.ofNat 32 (2 ^ (d.toNat - 1)) }
  else if d < 0 ∧ -32 ≤ d ∧ !c.window.getLsbD ((-d).toNat - 1) then
    some { c with window := c.window ||| BitVec.ofNat 32 (2 ^ ((-d).toNat - 1)), keyGen := k.gen }
  else none

/-! ### The identity (R344, R345) -/

/-- A signature by the identity signing key (R342, R344), under a per-message secret of its own. -/
def Ward.sign (w : Ward) (m : List Byte) : List Byte := ecdsaSign w.signKey (secretOf (Config.nonce w.drawn)) m

/-- A certificate block that the vendor root issued over a public key of a subject (R345). -/
def certBlock (role : Nat) (subject pub : List Byte) : List Byte :=
  let b := padTo 160 (leBytes 4 0x43455254 ++ [1, BitVec.ofNat 8 role, 0, 0] ++ padTo 16 subject ++ padTo 16 Config.rootId ++ leBytes 8 0 ++ pub)
  b ++ padTo 96 (Config.rootSig b)

/-- The identity certificate (R344, R345): the block of the identity signing key, followed directly by that of the identity agreement key. -/
def Ward.identityCert (w : Ward) : List Byte :=
  certBlock 2 (leBytes 16 w.engineId.toNat) (publicKey w.signKey) ++ certBlock 2 (leBytes 16 w.engineId.toNat) (publicKey w.agreeKey)

/-! ### Certificates and images (R345, R361) -/

/-- A certificate block is accepted for a role (R345). -/
def certOk (l : List Byte) (role : Nat) : Bool :=
  leAt l 0 4 == 0x43455254 && leAt l 4 1 == 1 && leAt l 5 1 == role && slice l 0x18 16 == Config.rootId
    && ecdsaOk Config.rootPub (slice l 0 0xA0) (slice l 0xA0 96)

/-- The public key of a certificate. -/
def certKey (l : List Byte) : List Byte := slice l 0x30 96

/-! ### Proof of play (R366 to R368) -/

/-- A proof record opens at a flip (R366); its number is reserved in a block of 64 first (R368). PROOF_GAP is raised with a
record that carries GAP (R370). -/
def State.openProof (s : State) (flip : Nat) : State :=
  let w := s.ward
  let s1 := s.onWard fun w =>
    { w with
      proofReserve := if w.nextNo = w.proofReserve then w.proofReserve + 64 else w.proofReserve
      nextNo := w.nextNo + 1, gap := false, newHash := false, interval := w.intervalS
      openRec := some { no := w.nextNo, tile := s.wall.id, flags := BitVec.ofNat 7 (b2n w.gap), flips := 0, firstW := s.wNs,
                        firstFlip := flip, full := 0, lit := 0, lastSig := 0, sigs := [], first := w.gap || w.newHash, prevHash := 0,
                        layers := List.replicate 16 {}, signature := [] } }
  if w.gap then s1.raise 0xB7 0 else s1

/-- The layer entry of a proof record after one more flip (R366, R367). -/
def LayerPlay.flip (p : LayerPlay) (l : Layer) : LayerPlay :=
  let enabled := fld l.active.w0 0 0 == 1
  let shown := l.lstate == .showing || l.lstate == .holding
  { context := fld l.active.w1 7 0
    flags := p.flags ||| BitVec.ofNat 4 (b2n enabled + 2 * b2n (enabled && fld l.active.w0 1 1 == 1)
      + 4 * b2n (l.lstate == .holding) + 8 * b2n (l.lstate == .transparent))
    shown := if shown then p.shown + 1 else p.shown
    firstSeq := if shown && p.shown = 0 then l.shownSeq else p.firstSeq
    lastSeq := if shown then l.shownSeq else p.lastSeq }

/-- A flip counted in the open proof record (R366, R367). -/
def State.countProof (s : State) (flip : Nat) : State :=
  s.onWard fun w =>
    { w with openRec := w.openRec.map fun r =>
        { r with
          flips := r.flips + 1
          full := if s.rings.sig.conf = s.rings.rings.foldl (fun a q => a + q.expect) 0 then r.full + 1 else r.full
          lit := if s.eng.st == .lit then r.lit + 1 else r.lit
          lastSig := s.rings.sig.value
          sigs := (flip, s.rings.sig.value) :: r.sigs
          flags := r.flags ||| BitVec.ofNat 7 (4 * b2n s.degraded)
          layers := (List.range 16).map fun i => (r.layers.getD i {}).flip (s.comp.toLatch.getD i {}) } }

/-- Proof of play at a flip (R366): the interval closes the open record before it; a record is open from then on; the flip is
counted. -/
def State.proofFlip (s : State) (flip : Nat) : State :=
  let w1 : Ward := match s.ward.openRec with
    | some r => if r.firstW + s.ward.interval * 1000000000 ≤ s.wNs then s.ward.closeProof 0 else s.ward
    | none => s.ward
  let s1 := s.onWard fun _ => w1
  let s2 := if s1.ward.openRec.isNone && s1.time.valid then s1.openProof flip else s1
  s2.countProof flip

/-- The bytes of a layer entry (R367). -/
def LayerPlay.bytes (p : LayerPlay) : List Byte :=
  leBytes 1 p.context ++ leBytes 1 p.flags.toNat ++ [0, 0] ++ leBytes 4 p.shown ++ leBytes 4 p.firstSeq.toNat ++ leBytes 4 p.lastSeq.toNat

/-- Bytes 0x000 to 0x17F of a proof record (R367). -/
def ProofRec.body (r : ProofRec) : List Byte :=
  leBytes 4 0x504F5052 ++ leBytes 4 r.no.toNat ++ leBytes 2 r.tile.toNat ++ leBytes 2 r.flags.toNat ++ leBytes 4 r.flips
    ++ leBytes 8 r.firstW ++ leBytes 8 r.firstFlip ++ leBytes 4 r.full ++ leBytes 4 r.lit ++ leBytes 8 r.lastSig.toNat
    ++ bytes256 (sha256 (r.sigs.reverse.flatMap fun p => leBytes 8 p.1 ++ leBytes 8 p.2.toNat))
    ++ bytes256 r.prevHash ++ r.layers.flatMap LayerPlay.bytes ++ List.replicate 16 0

/-- The 480 bytes of a signed record (R367). -/
def ProofRec.bytes (r : ProofRec) : List Byte := r.body ++ padTo 96 r.signature

/-- The oldest closed record signed and held (R366 to R368): PREV_HASH is zero after GAP or an enrollment. -/
def Ward.signNext (w : Ward) : Ward :=
  match w.unsigned with
  | [] => w
  | r :: rest =>
    let prev : BitVec 256 := match w.records with
      | [] => 0
      | q :: _ => if r.first then 0 else sha256 q.bytes
    let r1 := { r with prevHash := prev }
    let r2 := { r1 with signature := w.sign r1.body }
    { w with unsigned := rest, records := (r2 :: w.records).take 256, drawn := w.drawn + 1 }

/-- The numbers of the newest and the oldest record held (R371). -/
def Ward.newestNo (w : Ward) : BitVec 32 := match w.records with | [] => 0 | r :: _ => r.no
def Ward.oldestNo (w : Ward) : BitVec 32 := match w.records.getLast? with | none => 0 | some r => r.no

/-- The result of PROOF_READ (R369). -/
def Ward.proofRead (w : Ward) (first : Nat) (count : Nat) : List Byte :=
  let from_ := max first w.oldestNo.toNat
  let held := w.records.reverse.filter fun r => decide (from_ ≤ r.no.toNat)
  leBytes 4 w.oldestNo.toNat ++ leBytes 4 w.newestNo.toNat ++ (held.take count).flatMap ProofRec.bytes

end Sys2Proof.Machine
end

