-- ==== Sys2Proof/Machine/Time.lean ====
section
/-!
DEFINITION. Sys2Proof/Machine/Time.lean: TIME frames, time domains, the wall-time output, triggers and captures
(chapter 11), but for the rows that are register accesses.
-/

namespace Sys2Proof.Machine

/-! ### The wall-time output (R330 to R333) -/

/-- The standby is QUALIFIED (R329). -/
def WTime.qualified (x : WTime) : Bool := (x.dom !x.active).cond == .acquired && x.valid && 4 ≤ (x.dom !x.active).near

/-- The holdover time in 2^-16 ns (R331, R332). -/
def WTime.holdTime (x : WTime) : Nat := if x.holdover then x.holdPrior + (x.local_ - x.holdAt) else x.holdPrior

/-- The holdover error bound in 2^-16 ns: 100 ns per second (R331). -/
def WTime.bound (x : WTime) : Nat := x.holdTime / 10000000

/-- W runs on from a value at a rate. -/
def WTime.setW (x : WTime) (w rate : Int) : WTime := { x with refW := w, refLocal := x.local_, ratePpb := rate }

/-- W becomes valid on a domain (R318, R330): every armed target moves by the difference of the readings. -/
def WTime.validate (x : WTime) (d : Bool) : WTime :=
  let y := { x.setW (x.td d) (x.dom d).ratePpb with valid := true, active := d, holdover := false, slewing := false, holdPrior := 0 }
  y.moveTargets ((y.now / 65536 : Nat) - (x.now / 65536 : Nat))

/-- W becomes not valid (R318, R331): the targets move likewise. -/
def WTime.invalidate (x : WTime) : WTime :=
  let y := { x with valid := false, holdover := false, slewing := false, holdPrior := 0, lost := inc 8 x.lost }
  y.moveTargets ((y.now / 65536 : Nat) - (x.now / 65536 : Nat))

/-- The instants in which triggers of a kind have fired, with those of the validity of W that ends (R333). -/
def spansWith (l : List (Nat × Nat)) (first last : Option Nat) : List (Nat × Nat) :=
  match first, last with | some a, some b => (a, b) :: l | _, _ => l

/-- W becomes valid on domain `d`: the condition of TIME_LOST ends, and flips and take points start again (R318, R331), but for instants in
which they have fired before (R333). -/
def State.validateW (s : State) (d : Bool) : State :=
  ((s.onTime fun x => { x.validate d with validAt := x.local_ }).endCond 0x30 0).onComp fun c =>
    { c with
      flipSpans := spansWith c.flipSpans c.firstFlipNs c.lastFlipNs, takeSpans := spansWith c.takeSpans c.firstTakeNs c.lastTakeNs
      firstFlipNs := none, firstTakeNs := none, lastFlipNs := none, lastTakeNs := none, rateStep := 0 }

/-- Wall time is lost (R331): LIT exits to DARK, TIME_LOST is raised, the open proof record closes (R366). In UPDATE entered from LIT the
engine stays in UPDATE, since R22 has no row for it, and returns to LIT (DESIGN CHOICE, log entry 72). -/
def State.loseWall (s : State) : State :=
  let s1 := ((s.onTime WTime.invalidate).raise 0x30 0).onWard fun w => w.closeProof 32
  let s2 := if s1.eng.st == .lit then s1.enterDark else s1
  s2.fire 25

/-- W follows domain `d`, which becomes the active one (R330, R332). -/
def WTime.follow (x : WTime) (d : Bool) : WTime :=
  { x.setW (x.td d) (x.dom d).ratePpb with active := d, holdover := false, slewing := false, holdPrior := 0 }

/-- Rejoining domain `d` from holdover (R332). -/
def State.rejoin (s : State) (d : Bool) : State :=
  let x := s.time
  let delta := x.td d - x.w
  if delta.natAbs ≤ 8 * 65536 then (s.onTime fun x => x.follow d).fire 25
  else if delta.natAbs ≤ x.bound + 1000 * 65536 then
    (s.onTime fun x =>
      { x.setW x.w ((x.dom d).ratePpb + (if 0 < delta then 10000 else -10000)) with
        holdPrior := x.holdTime, holdover := false, slewing := true, slewTo := d, holdRate := x.ratePpb }).fire 25
  else s.loseWall.validateW d

/-- A switch of W to the other domain (R330). -/
def State.switchTo (s : State) (d : Bool) : State :=
  ((s.onTime fun x => { x.follow d with switches := inc 8 x.switches }).raise 0x32 0).fire 25

/-- The switch of a loss (R330): TIME_SWITCH is raised in the next CORE cycle, since the conditions are those of the end of this one. -/
def State.switchOver (s : State) (d : Bool) : State :=
  ((s.onTime fun x => { x.follow d with switches := inc 8 x.switches }).raiseAt false 0x32 0).fire 25

/-- The other domain is lost in the cycle in which the active one was (R330): W runs on in holdover from where it stood, as if neither switch
nor rejoin had been; TIME has fired for the loss already. -/
def State.bothLost (s : State) (u : WUndo) : State :=
  let s1 := (s.onTime fun x =>
    let y := { x with active := u.active, refLocal := u.refLocal, refW := u.refW, ratePpb := u.ratePpb, switches := u.switches }
    { y.setW y.w y.ratePpb with holdover := true, holdAt := y.local_, holdPrior := 0, holdovers := inc 8 u.holdovers }).onFlt fun f =>
    { f with later := f.later.erase (0x32, 0) }
  if s.time.holdovers = u.holdovers then s1.raise 0x31 0 else s1

/-- Holdover begins (R330); a standby that is ACQUIRED but not QUALIFIED is rejoined at once. -/
def State.enterHoldover (s : State) : State :=
  let s1 := ((s.onTime fun x =>
    { x.setW x.w x.ratePpb with holdover := true, holdAt := x.local_, holdPrior := 0, holdovers := inc 8 x.holdovers }).raise 0x31 0).fire 25
  if (s1.time.dom !s1.time.active).cond == .acquired then s1.rejoin (!s1.time.active) else s1

/-- Holdover resumes after the domain of a slew was lost, with the time that it had, at the last active rate (R330, R332). -/
def State.resumeHoldover (s : State) : State :=
  let s1 := (s.onTime fun x => { x.setW x.w x.holdRate with holdover := true, slewing := false, holdAt := x.local_ }).fire 25
  if (s1.time.dom false).cond == .acquired then s1.rejoin false
  else if (s1.time.dom true).cond == .acquired then s1.rejoin true
  else s1

/-! ### Domains (R326 to R329) -/

/-- A domain returns to IDLE (R328). -/
def Domain.lose (d : Domain) : Domain := { d with cond := .idle, recent := [], count := 0, outRun := 0, losses := inc 16 d.losses }

/-- The domains of the two flags are lost in one cycle (R328, R330); losses that other commands of the same cycle bring count with them. -/
def State.loseDomains (s : State) (l0 l1 : Bool) : State :=
  let l0 := l0 && s.time.d0.cond != .idle
  let l1 := l1 && s.time.d1.cond != .idle
  if !l0 && !l1 then s
  else
    let wasQ := s.time.qualified
    let s1 := s.onTime fun x => { x with d0 := if l0 then x.d0.lose else x.d0, d1 := if l1 then x.d1.lose else x.d1 }
    let s2 := s1.raise 0x33 0
    let x := s2.time
    if !x.valid || x.holdover then s2
    else if x.slewing then (if (x.dom x.slewTo).cond == .idle then s2.resumeHoldover else s2)
    else if (x.dom x.active).cond != .idle then s2
    else
      match x.undo.filter fun u => u.at_ == x.local_ with
      | some u => s2.bothLost u
      | none =>
        let s3 := s2.onTime fun x =>
          { x with undo := some { at_ := x.local_, active := x.active, refLocal := x.refLocal, refW := x.refW, ratePpb := x.ratePpb
                                  switches := x.switches, holdovers := x.holdovers } }
        if wasQ && (x.dom !x.active).cond == .acquired then s3.switchOver (!x.active) else s3.enterHoldover

/-- W becomes valid again on the preferred domain in the cycle in which the other made it valid (R318, R330). -/
def State.preferW (s : State) (d : Bool) : State :=
  s.onTime fun x =>
    let y := x.follow d
    y.moveTargets ((y.now / 65536 : Nat) - (x.now / 65536 : Nat))

/-- What becomes of W when domain `d` has become ACQUIRED (R330): of two that qualify in one cycle TIME_CTRL.PREF wins. -/
def State.acquired (s : State) (d : Bool) : State :=
  let s1 := s.fire 25
  if !s1.time.valid then s1.validateW d
  else if d == s1.time.pref && d != s1.time.active && s1.time.validAt == s1.time.local_ && !s1.time.holdover && !s1.time.slewing then
    s1.preferW d
  else if s1.time.holdover then s1.rejoin d
  else s1

/-- W keeps to the domain that it follows, or slews toward (R330, R332). -/
def WTime.keepUp (x : WTime) (d : Bool) : WTime :=
  if !x.valid || x.holdover then x
  else if x.slewing then
    if d == x.slewTo then x.setW x.w ((x.dom d).ratePpb + (if x.w < x.td d then 10000 else -10000)) else x
  else if d == x.active then x.setW (x.td d) (x.dom d).ratePpb
  else x

/-- A domain after a sample (R326, R327): the servo’s gains are free values (log entry 8). -/
def Domain.sample (d : Domain) (gm : Int) (tin : Nat) (log : Int) : Domain :=
  if d.cond == .idle then
    { d with cond := .acquiring, refLocal := tin, refTd := gm, residual := 0, recent := [0], count := 1, outRun := 0, log := log,
             samples := inc 16 d.samples }
  else
    let td := extrapolate d.refTd d.refLocal d.ratePpb tin
    let r := gm - td
    if d.cond == .acquired && decide (1000 * 65536 < r.natAbs) then
      { d with residual := r, recent := (r :: d.recent).take 4, outRun := d.outRun + 1, outliers := inc 16 d.outliers, log := log,
               samples := inc 16 d.samples }
    else
      let recent := (r :: d.recent).take 4
      { d with
        residual := r, recent := recent, outRun := 0, log := log, samples := inc 16 d.samples, count := min 8 (d.count + 1)
        refLocal := tin, refTd := td + Config.servoOffset d.count r
        ratePpb := clampI (-100000) 100000 (d.ratePpb + Config.servoRate d.count r)
        cond := if d.cond == .acquiring && 8 ≤ d.count + 1 && recent.length == 4 && recent.all (fun q => q.natAbs ≤ 20 * 65536)
          then .acquired else d.cond }

/-- Both domains agree within R329 at a sample. -/
def WTime.agree (x : WTime) : Bool :=
  x.d0.cond != .idle && x.d1.cond != .idle && decide ((x.td true - x.td false).natAbs ≤ 8 * 65536)
    && decide ((x.d1.ratePpb - x.d0.ratePpb).natAbs ≤ 50)

/-- A sample of domain `d` (R326 to R330): three consecutive outliers lose it. -/
def State.sample (s : State) (d : Bool) (gm : Int) (tin : Nat) (log : Int) : State :=
  let was := (s.time.dom d).cond
  let s1 := s.onTime fun x => x.onDom d fun q => q.sample gm tin log
  let s2 := s1.onTime fun x => x.onDom d fun q => { q with near := if x.agree then min 4 (q.near + 1) else 0 }
  if 3 ≤ (s2.time.dom d).outRun then s2.loseDomains (!d) d
  else if was != .acquired && (s2.time.dom d).cond == .acquired then s2.acquired d
  else s2.onTime fun x => x.keepUp d

/-! ### TIME frames (R320 to R325) -/

/-- KIND of a TIME frame. -/
def tKind (f : Frame) : Nat := leAt f.payload 0 1

/-- GM_ID, SEQ_ID, TIMESTAMP in ns, CORRECTION in 2^-16 ns (R320). -/
def tGm (f : Frame) : BitVec 12 := BitVec.ofNat 12 (leAt f.payload 4 2)
def tSeq (f : Frame) : BitVec 16 := BitVec.ofNat 16 (leAt f.payload 6 2)
def tNs (f : Frame) : Nat := leAt f.payload 8 6 * 1000000000 + leAt f.payload 14 4
def tCorr (f : Frame) : Int := ofSfield 64 (leAt f.payload 0x12 8)

/-- LEN, KIND and DOMAIN are in range, the tag verifies, and the instant lies in the range of W (R317, R320). The first flag: the
frame passes; the second: its tag was checked and failed. -/
def State.timeFrameOk (s : State) (f : Frame) : Bool × Bool :=
  if f.payload.length ≠ 40 ∨ tKind f = 0 ∨ 4 < tKind f ∨ 1 < leAt f.payload 1 1 then (false, false)
  else if !(if tKind f = 1 then s.cmdTagOk 0x03 f 0x20 else s.annTagOk 0x03 f 0x20) then (false, true)
  else (decide (leAt f.payload 8 6 < 18446744073 ∧ leAt f.payload 14 4 < 1000000000), false)

/-- A discarded TIME frame is counted (R320). -/
def State.badMsg (s : State) : State := s.onTime fun x => { x with badMsg := inc 8 x.badMsg }

/-- A TIME frame arrives for wall time: discarded and counted, or handled by `g` (R320). -/
def State.timeFrame (s : State) (p : Port) (f : Frame) (kind : Nat) (g : State → State) : Host.Outcome State Fault Refusal :=
  let mine := tKind f = kind || (kind == 1 && (f.payload.length = 0 || tKind f = 0 || 4 < tKind f))
  if hType f.hdr ≠ 0x04 || !mine || !s.gets p f then .next s
  else
    let (ok, tagBad) := s.timeFrameOk f
    if ok then done (g s) else done ((if tagBad then s.tagFailed else s).badMsg)

/-- Insertion into a rising list. -/
def insertInt (i : Int) : List Int → List Int
  | [] => [i]
  | j :: l => if i ≤ j then i :: j :: l else j :: insertInt i l

/-- A list of numbers in rising order. -/
def sortInts (l : List Int) : List Int := l.foldr insertInt []

/-- The link delay of a port in 2^-16 ns: the median of its samples, once there are four (R322). -/
def Link.delay (l : Link) : Option Int :=
  let v := sortInts l.pdSamples
  let n := v.length
  if n < 4 then none
  else if n % 2 = 1 then some (v.getD (n / 2) 0)
  else some ((v.getD (n / 2 - 1) 0 + v.getD (n / 2) 0) / 2)

/-- A payload with its K_ann tag at 0x20, for the tile’s next own frame of a DEST and TYPE (R352). -/
def State.tagAnn (s : State) (dest typ domain : Nat) (payload : List Byte) : List Byte :=
  payload.take 0x20 ++ tagBytes s.ward.kAnn domain dest s.wall.id.toNat typ (s.ownSeq dest typ) 0 (blank8 payload 0x20) ++ payload.drop 0x28

/-- A frame of the tile’s own with a K_ann tag at 0x20, sent on one port (R320, R352). -/
def State.sendAnn (s : State) (p : Port) (dest typ domain : Nat) (payload : List Byte) : State :=
  let (f, s1) := s.ownFrame dest typ (s.tagAnn dest typ domain payload)
  s1.sendFrame p f false false

/-- The payload of a TIME frame, its tag bytes zero (R320). -/
def timePayload (kind : Nat) (d : Bool) (log : Int) (gm seq : Nat) (ts : Nat) (corr : Int) : List Byte :=
  leBytes 1 kind ++ leBytes 1 (b2n d) ++ leBytes 1 (sfield 8 log) ++ [0] ++ leBytes 2 gm ++ leBytes 2 seq ++ leBytes 10 ts
    ++ leBytes 8 (sfield 64 corr) ++ List.replicate 14 0

/-- A time stamp at its resolution of 1/16 ns, in 2^-16 ns (R321). -/
def stamp (t : Nat) : Nat := t / 4096 * 4096

/-- SYNC (R324, R325): a newer SEQ_ID is accepted and the SYNC held with its stamps; a different GM_ID loses the domain (R328).
`sinceStart`: how long ago its START block arrived; `residence`: tout − tin of its forwarded copy. -/
def execSync (p : Port) (f : Frame) (sinceStart residence : Nat) (s : State) : Host.Outcome State Fault Refusal :=
  s.timeFrame p f 1 fun s =>
    let d := leAt f.payload 1 1 == 1
    let gm := tGm f
    let q := s.time.dom d
    let fresh := match sget none gm.toNat q.seqs with | none => true | some n => newer16 (tSeq f) n
    if !fresh then s.badMsg
    else
      let s1 := if q.gm != gm && q.cond != .idle then s.loseDomains (!d) d else s
      let s2 := s1.onTime fun x => x.onDom d fun q =>
        { q with gm := gm, seq := tSeq f, seqs := sset none gm.toNat (some (tSeq f)) q.seqs }
      s2.onLink p fun l =>
        { l with syncs := { domain := d, gm := gm, seq := tSeq f, log := ofSfield 8 (leAt f.payload 2 1), tin := stamp (s.time.local_ - sinceStart),
                            residence := stamp residence, ts := leAt f.payload 8 10 } :: l.syncs }

/-- FOLLOW_UP (R324): with the SYNC that it follows, a valid ingress link delay and the other port ACTIVE, a sample is formed and a
FOLLOW_UP goes on to the next tile. -/
def execFollowUp (p : Port) (f : Frame) (s : State) : Host.Outcome State Fault Refusal :=
  s.timeFrame p f 2 fun s =>
    let d := leAt f.payload 1 1 == 1
    let isHis := fun (h : HeldSync) => h.domain == d && h.gm == tGm f && h.seq == tSeq f && h.ts == leAt f.payload 8 10
    match (s.link p).syncs.find? isHis with
    | none => s
    | some h =>
      let s1 := s.onLink p fun l => { l with syncs := l.syncs.filter fun h => !isHis h }
      let oth := otherPort p
      match (s.link p).delay with
      | none => s1
      | some ld =>
        if s.time.local_ - h.tin > 10000000 * 65536 || !s.active oth then s1
        else
          let acc := tCorr f + ld
          (s1.sample d ((tNs f : Int) * 65536 + acc) h.tin h.log).sendAnn oth (s.link oth).partnerId.toNat 0x04 0x03
            (timePayload 2 d 0 h.gm.toNat h.seq.toNat h.ts (acc + h.residence))

/-- FOLLOW_UP_TIMEOUT: the oldest SYNC held from a port is dropped: no sample, no FOLLOW_UP (R324). -/
def execFollowUpTimeout (p : Port) (s : State) : Host.Outcome State Fault Refusal :=
  done (s.onLink p fun l => { l with syncs := l.syncs.dropLast })

/-- PDELAY_REQ: answered with CORRECTION = t3 − t2, the `turnaround` (R322); discarded with HOPS ≠ 0. -/
def execPdelayReq (p : Port) (f : Frame) (turnaround : Nat) (s : State) : Host.Outcome State Fault Refusal :=
  s.timeFrame p f 3 fun s =>
    if hHops f.hdr ≠ 0 then s
    else s.sendAnn p (hSrc f.hdr) 0x04 0x03 (timePayload 4 false 0 0 (tSeq f).toNat 0 (stamp turnaround))

/-- PDELAY_RESP: a sample of the link delay (R322); discarded with HOPS ≠ 0, without its request, or later than 1 ms. -/
def execPdelayResp (p : Port) (f : Frame) (sinceStart : Nat) (s : State) : Host.Outcome State Fault Refusal :=
  s.timeFrame p f 4 fun s =>
    match (s.link p).pdPending with
    | none => s
    | some r =>
      if hHops f.hdr ≠ 0 || r.seq != tSeq f then s
      else
        let rt : Int := (stamp (s.time.local_ - sinceStart) : Nat) - (r.t1 : Int)
        s.onLink p fun l =>
          { l with pdPending := none
                   pdSamples := if rt ≤ 1000000 * 65536 then (((rt - tCorr f) / 2) :: l.pdSamples).take 8 else l.pdSamples }

/-- PDELAY_SEND: an ACTIVE port whose partner holds a tile ID sends PDELAY_REQ (R322); t1 is stamped again when it departs. -/
def execPdelaySend (p : Port) (s : State) : Host.Outcome State Fault Refusal :=
  let l := s.link p
  if l.st == .active && l.partnerId != 0 then
    done ((s.sendAnn p l.partnerId.toNat 0x04 0x03 (timePayload 3 false 0 0 l.pdSeq.toNat 0 0)).onLink p fun l =>
      { l with pdPending := some { seq := l.pdSeq, t1 := stamp s.time.local_ }, pdSeq := l.pdSeq + 1 })
  else .next s

/-- PDELAY_TIMEOUT: a response more than 1 ms away is no longer awaited (R322). -/
def execPdelayTimeout (p : Port) (s : State) : Host.Outcome State Fault Refusal :=
  done (s.onLink p fun l => { l with pdPending := none })

/-- DOMAIN_LOSS_TIMEOUT: three SYNC intervals without a sample, for one domain or both in one cycle (R328, R330). -/
def execDomainLossTimeout (d0 d1 : Bool) (s : State) : Host.Outcome State Fault Refusal := done (s.loseDomains d0 d1)

/-- HOLDOVER_EXPIRY: holdover has exceeded HOLD_MAX_S: wall time is lost (R331). -/
def execHoldoverExpiry (s : State) : Host.Outcome State Fault Refusal := if s.time.holdover then done s.loseWall else .next s

/-- SLEW_COMPLETE: |Δ| ≤ 8 ns: the domain becomes active and SLEWING clears (R332). -/
def execSlewComplete (s : State) : Host.Outcome State Fault Refusal :=
  if s.time.slewing && decide ((s.time.td s.time.slewTo - s.time.w).natAbs ≤ 8 * 65536) then
    done ((s.onTime fun x => x.follow x.slewTo).fire 25)
  else .next s

/-- SWITCH_BACK: the standby is preferred and has been QUALIFIED for 60 s (R330). -/
def execSwitchBack (s : State) : Host.Outcome State Fault Refusal :=
  let x := s.time
  if x.valid && !x.holdover && !x.slewing && x.pref != x.active && x.qualified then done (s.switchTo x.pref) else .next s

/-! ### Triggers and captures (R335 to R339) -/

/-- The reading of now has reached a 48-bit target (R335). -/
def State.reached (s : State) (lo hi : Word) : Bool := decide (0 ≤ since48 s.nowNs (target48 lo hi))

/-- TIME_COMPARE_FIRE: compare n disarms itself, wakes a thread that waits on it (R231), and fires TCMPn (R336). -/
def execTimeCompareFire (n : Fin 8) (s : State) : Host.Outcome State Fault Refusal :=
  let c := s.time.cmps.getD n.val {}
  if c.armed && s.reached c.lo c.hi then
    let late := (since48 s.nowNs (target48 c.lo c.hi)).toNat
    let s1 := s.onTime fun x => { x with cmps := upd x.cmps n.val fun c => { c with armed := false } }
    let s2 := s1.onThread n.val fun t =>
      match t.st, t.wait with
      | .waiting, .compare rd => t.wake rd (BitVec.ofNat 32 (sat 32 late))
      | _, _ => t
    done (s2.fire n.val)
  else .next s

/-- ADC_SNAPSHOT: channels 0 to 6 are copied together (R337). -/
def execAdcSnapshot (s : State) : Host.Outcome State Fault Refusal :=
  if s.time.adcArmed && s.reached s.time.adcLo s.time.adcHi then
    done (s.onTime fun x =>
      { x with adcArmed := false, adcFresh := true, adcSnap := (List.range 7).map fun i => (s.led.adc.getD i {}).code })
  else .next s

/-- CAPTURE_EDGE: an edge of sources 0 to 6; FRAME_LOCK captures rising edges only (R338). -/
def execCaptureEdge (source : Fin 7) (rising : Bool) (s : State) : Host.Outcome State Fault Refusal :=
  if source.val = 0 && !rising then .next s else done (s.capture source.val rising)

/-- FRAME_LOCK_EDGE: the period and, with W valid, the phase after the preceding flip (R339, R341). -/
def execFrameLockEdge (s : State) : Host.Outcome State Fault Refusal :=
  if s.time.flockEn then
    done ((s.onTime fun x =>
      { x with
        flockEdge := some x.local_, flockFresh := true
        flockPeriod := match x.flockEdge with | some t => sat 28 ((x.local_ - t) / 65536) | none => x.flockPeriod
        flockValid := x.flockValid || x.valid
        flockPhase := if x.valid then sat 28 (s.wNs - flipNs s.comp.num s.comp.den (flipAt s.comp.num s.comp.den s.wNs))
          else x.flockPhase }).endCond 0x34 0)
  else .next s

/-- FLOCK_LOST: an enabled FRAME_LOCK has shown no edge for 100 ms (R339). -/
def execFlockLost (s : State) : Host.Outcome State Fault Refusal := if s.time.flockEn then done (s.raise 0x34 0) else .next s

end Sys2Proof.Machine
end

