-- ==== Sys2Proof/Machine/Links.lean ====
section
/-!
DEFINITION. Sys2Proof/Machine/Links.lean: wall link lanes: training, equalisation, lane fencing and tests (chapter 9), but for
the rows that are register accesses.
-/

namespace Sys2Proof.Machine

/-! ### TRAIN blocks (R273) -/

/-- A valid TRAIN block: its TYPE, and CHECK over bytes 0 to 6 (R273). -/
def trainOk (v : BitVec 64) : Bool := bits64 v 7 0 == 0x55 && bits64 v 63 56 == crc8 (leBytes 7 v.toNat)

/-- The FAILS counter of a rate in a TRAIN block (R273). -/
def trainFails (v : BitVec 64) (rate : Nat) : Nat := bits64 v (20 + 2 * rate) (19 + 2 * rate)

/-- A port’s START: the start rate of AGE_LANE (R205, R274). -/
def State.startRate (s : State) (p : Port) : Nat := match p with | .a => s.age.startA | .b => s.age.startB

/-- The highest rate at or below `start` for which `ok` holds; rates count from 12.8 Gbit/s down. -/
def bestRate (start : Nat) (ok : Nat → Bool) : Option Nat := (List.range 3).find? fun r => decide (start ≤ r) && ok r

/-- The port’s own rate: the highest at or below its start rate with fewer than 3 failures (R274). -/
def State.ownRate (s : State) (p : Port) : Option Nat := bestRate (s.startRate p) fun r => decide ((s.link p).fails.getD r 0 < 3)

/-- The unfenced lanes for which a mask is set. -/
def Link.maskLanes (l : Link) (m : BitVec 4) : List Nat := l.usable fun i => m.getLsbD i

/-- The lanes on which valid TRAIN blocks are received in block lock, as a mask: HEALTHY (R273). -/
def Link.healthyMask (l : Link) : BitVec 4 := laneMask ((List.range 4).filter fun i => (l.lanes.getD i {}).healthy && (l.lanes.getD i {}).blockLock)

/-! ### Attempts and cycles (R274 to R277) -/

/-- Entry to QUIET; each entry from a full cycle raises LINK_QUIET (R276), one whose condition still stands as well (DEDUCED, log entry
48). -/
def State.enterQuiet (s : State) (p : Port) : State :=
  let full := !(s.link p).retryCycle
  let s1 := s.onLink p fun l => { l with st := .quiet, signal := false, agreed := false, retraining := false, width := 0, used := 0 }
  if full then (s1.endCond 0x20 (portNo p)).raise 0x20 (portNo p) else s1

/-- An attempt fails (R274, R276): counted at its rate; the port returns to DETECT, or enters QUIET when no rate is left. A
retrain that fails starts a new cycle (R281). -/
def State.attemptFails (s : State) (p : Port) : State :=
  let l := s.link p
  if l.retraining then s.onLink p fun l => l.newCycle 0 false
  else
    let rate := if l.agreed then l.rate else (s.ownRate p).getD 2
    let s1 := s.onLink p fun l => { l with fails := upd l.fails rate fun n => min 3 (n + 1) }
    if (s1.ownRate p).isNone then s1.enterQuiet p
    else s1.onLink p fun l =>
      { l with st := .detect, agreed := false, width := 0, used := 0, rate := 2, partnerState := 0, eqDone := false
               held := [], lanes := l.lanes.map fun x => { x with healthy := false, blockLock := false, hdrRun := 0, hdrWindow := 0 } }

/-- A port goes back to DETECT in a new cycle, or to QUIET when all its lanes are fenced (R277, R283). -/
def State.recycle (s : State) (p : Port) : State :=
  if (s.link p).lanes.all (·.fenced) then (s.onLink p fun l => l.newCycle 0 false).enterQuiet p
  else s.onLink p fun l => l.newCycle 0 false

/-- ACTIVE ends other than on PARK, and a new cycle starts (R277). -/
def State.linkDown (s : State) (p : Port) : State := (s.leaveActive p).recycle p

/-- A port enters EQ at a rate and on the used lanes, both transmitters at the preset (R279). -/
def Link.enterEq (l : Link) (rate : Nat) (used : List Nat) (retrain : Bool) (now : Nat) : Link :=
  { l with
    st := .eq, rate := rate, width := used.length, used := laneMask used, agreed := true, retraining := retrain, alignSent := false
    eqDone := false, eqAt := now, partnerState := 0, held := []
    lanes := l.lanes.map fun x =>
      { x with txPre := 1, txPost := 4, eqStat := 0, eqReq := 0, partnerStat := 0, frozen := false, inject := 0 } }

/-- A retrain (R281): ACTIVE is left for EQ at the same rate and width; frames in flight are lost (R277), and tile-map entries of
the port go to DIR_VIA (R305). -/
def State.retrain (s : State) (p : Port) : State :=
  if s.active p then
    ((((s.cutOff p).onLink p fun l => Link.enterEq { l.dropTraffic with retrains := inc 8 l.retrains } l.rate l.usedLanes true s.time.local_).mapPortLoss p)).raise
      0x23 (portNo p)
  else s

/-- A lane is fenced (R283): LANE_FENCED is raised once for it. -/
def State.fenceLane (s : State) (p : Port) (i : Nat) : State :=
  let was := ((s.link p).lanes.getD i {}).fenceRaised
  let s1 := s.onLink p fun l => { l with lanes := upd l.lanes i fun x => { x with fenced := true, fenceRaised := true, healthy := false } }
  if was then s1 else (s1.endCond 0x21 (portNo p)).raise 0x21 (portNo p)

/-! ### ANNOUNCE and DEPART payloads (R302) -/

/-- A MAP payload of 40 B, its tag bytes zero (R302). -/
def mapPayload (kind count : Nat) (epoch gen : BitVec 32) (id : BitVec 12) (state : Nat) (uid : BitVec 128) : List Byte :=
  leBytes 1 kind ++ [0] ++ leBytes 2 count ++ leBytes 4 epoch.toNat ++ leBytes 4 gen.toNat ++ leBytes 2 id.toNat ++ leBytes 1 state ++ [0]
    ++ leBytes 16 uid.toNat ++ List.replicate 8 0

/-- The tile sends ANNOUNCE when it holds an ID, and in JOIN without one (R304, R307). -/
def State.announces (s : State) : Bool := s.wall.id != 0 || s.eng.st == .join

/-- ANNOUNCE on one port (R304). -/
def State.announceOn (s : State) (p : Port) : State :=
  s.sendAnn p 0xFFF 0x09 0x02 (mapPayload 1 0 s.cmd.wallEpoch 0 s.wall.id s.stateByte s.col.ident.uid)

/-! ### Rows -/

/-- A lane takes TRAIN blocks: it is in block lock and takes part in the cycle (R272, R283). -/
def Lane.trains (x : Lane) : Bool := x.blockLock && x.open_

/-- A TRAIN block received on a lane in block lock (R259, R272, R273): its complement inverts the lane’s polarity; one of another lane makes the lane unhealthy
for the cycle; a swapped lane or the same port letter is a miswiring. What it says of the partner is kept. -/
def Link.trainOn (l : Link) (p : Port) (lane : Nat) (payload : BitVec 64) : Link :=
  let inv := !trainOk payload
  let v := if inv then ~~~payload else payload
  if !trainOk v || !(l.lanes.getD lane {}).trains then l
  else
    let swapped := (l.lanes.getD lane {}).swapped || bits64 v 14 13 != lane
    { l with
      miswired := l.miswired || swapped || bits64 v 15 15 == portNo p
      headend := bits64 v 16 16 == 1, partnerId := BitVec.ofNat 12 (bits64 v 51 40), partnerB := bits64 v 15 15 == 1
      partnerStart := bits64 v 18 17, partnerFails := BitVec.ofNat 6 (bits64 v 24 19), partnerState := bits64 v 10 8
      lanes := upd l.lanes lane fun x =>
        { x with swapped := swapped, healthy := !swapped, inverted := if inv then !x.inverted else x.inverted } }

/-- TRAIN_DETECTED (R259, R272, R273): in DETECT a valid TRAIN, or its complement, arrives on `lane` with block lock; `trains` are those
that arrived on other lanes. The port enters RATE, whichever lane’s TRAIN it is; in RATE the lanes’ health is brought up to date. -/
def execTrainDetected (p : Port) (lane : Fin 4) (payload : BitVec 64) (trains : List (Fin 4 × BitVec 64)) (s : State) :
    Host.Outcome State Fault Refusal :=
  let l := s.link p
  if (l.st != .detect && l.st != .rate) || !(trainOk payload || trainOk (~~~payload)) || !(l.lanes.getD lane.val {}).trains then .next s
  else
    let l1 := (trains.filter fun t => t.1 != lane).foldl (fun l t => l.trainOn p t.1.val t.2) l
    let l2 := l1.trainOn p lane.val payload
    let s1 := s.onLink p fun _ => { l2 with st := .rate }
    done (if l2.miswired && !l.miswired then s1.raise 0x24 (portNo p) else s1)

/-- RATE_AGREED (R275): the partner’s TRAIN of RATE with ACK; both sides compute the agreed rate and the width. A differing
RATE_SEL, or no lane, fails the attempt; no rate takes the port to QUIET. -/
def execRateAgreed (p : Port) (payload : BitVec 64) (s : State) : Host.Outcome State Fault Refusal :=
  let l := s.link p
  if l.st != .rate || !trainOk payload || bits64 payload 10 8 ≠ 2 || bits64 payload 11 11 ≠ 1 then .next s
  else
    let start := max (s.startRate p) (bits64 payload 18 17)
    match bestRate start fun r => decide (l.fails.getD r 0 < 3) && decide (trainFails payload r < 3) with
    | none => done (s.enterQuiet p)
    | some r =>
      let used := widthOf (l.maskLanes (l.healthyMask &&& BitVec.ofNat 4 (bits64 payload 28 25)))
      if bits64 payload 30 29 ≠ r || used.isEmpty then done (s.attemptFails p)
      else done (s.onLink p fun l => { l.enterEq r used false s.time.local_ with partnerState := 2, partnerFails := BitVec.ofNat 6 (bits64 payload 24 19) })

/-- One coefficient after an EQ request, with its EQ_STAT (R279): 0 hold, 1 increase, 2 decrease, 3 preset. -/
def eqStep (req v top preset : Nat) : Nat × Nat :=
  if req = 1 then (if v < top then (v + 1, 1) else (v, 2))
  else if req = 2 then (if 0 < v then (v - 1, 1) else (v, 2))
  else if req = 3 then (preset, 1)
  else (v, 0)

/-- EQ_REQUEST: a request of the partner’s receiver steps the transmit FIR filter of a lane (R279). Where the partner reports another state
of its own transmitter, the request in force there has been served, and the receiver makes its next one: a free value, which its adaptation
chooses (log entry 8). -/
def execEqRequest (p : Port) (lane : Fin 4) (payload : BitVec 64) (s : State) : Host.Outcome State Fault Refusal :=
  if (s.link p).st != .eq || !trainOk payload || bits64 payload 10 8 ≠ 3 then .next s
  else
    let stat := BitVec.ofNat 4 (bits64 payload 39 36)
    let req := (Config.freeWord s.free).truncate 4
    done (s.onLink p fun l =>
      { l with
        partnerState := 3
        lanes := upd l.lanes lane.val fun x =>
          let pre := eqStep (bits64 payload 33 32) x.txPre 7 1
          let post := eqStep (bits64 payload 35 34) x.txPost 15 4
          { x with txPre := pre.1, txPost := post.1, eqStat := BitVec.ofNat 4 (pre.2 + 4 * post.2), partnerStat := stat
                   eqReq := if x.eqReq = 0 || stat != x.partnerStat then req else x.eqReq } }).takeFree

/-- An eye of at least 0.30 UI, and one below 0.20 UI, in steps of 1/256 UI (R279, R280). -/
def eyeGood (e : BitVec 8) : Bool := decide (7680 ≤ e.toNat * 100)
def eyeBad (e : BitVec 8) : Bool := decide (e.toNat * 100 < 5120)

/-- What the receiver found on a lane is kept (R279, R280). -/
def Link.takeObs (l : Link) (obs : List (Nat × EqObs)) : Link :=
  { l with
    lanes := obs.foldl (fun ls o => upd ls o.1 fun x =>
      { x with eye := o.2.eye.toNat, ctle := o.2.ctle.val, dfe1 := o.2.dfe.getD 0 0, dfe := o.2.dfe.drop 1 |>.take 4
               eqCtle := o.2.ctle.val, eqDfe := o.2.dfe.take 5 }) l.lanes
    eyeMin := obs.foldl (fun a o => min a o.2.eye.toNat) 255, eyeLanes := laneMask (obs.map (·.1)), eyeValid := true, eyeFresh := true }

/-- Entry to ALIGN (R265, R270): SEED and MCOUNT start at 0, and the marker interval and both parities with them (DESIGN CHOICE, log
entry 78). -/
def Link.enterAlign (l : Link) (used : List Nat) : Link :=
  { l with st := .align, width := used.length, used := laneMask used, idleSeed := 0, markerCount := 0, alignSent := false, eqDone := true,
           sinceAm := 0, txBlocks := [], held := []
           lanes := l.lanes.map fun x => { x with markerLock := false, markers := 0, missed := 0, rxSince := 0, bipRx := 0, bipTx := 0, bipLog := [] } }

/-- EQ_DONE (R279): both sides send DONE with ACK. By `timeout`, lanes below 0.20 UI leave the width; with no lane left the attempt
fails. `obs`: what the receiver found on each used lane, in order. -/
def execEqDone (p : Port) (payload : BitVec 64) (timeout : Bool) (obs : List EqObs) (s : State) : Host.Outcome State Fault Refusal :=
  let l := s.link p
  let seen := l.usedLanes.zip obs
  if l.st != .eq || !trainOk payload || bits64 payload 10 8 ≠ 3 || bits64 payload 12 11 ≠ 3 || obs.length ≠ l.usedLanes.length
      || (!timeout && !obs.all fun o => eyeGood o.eye) then .next s
  else
    let kept := if timeout then widthOf ((seen.filter fun o => !eyeBad o.2.eye).map (·.1)) else l.usedLanes
    let s1 := s.onLink p fun l => l.takeObs seen
    if kept.isEmpty then done (s1.attemptFails p) else done (s1.onLink p fun l => l.enterAlign kept)

/-- ALIGN_DONE (R271, R272): every used lane has marker lock, the skew is at most 20 ns, and 16 IDLE blocks have come with
RX_ALIGNED: the port enters ACTIVE, LINK_QUIET ends (R276), and the tile announces itself there (R304). -/
def execAlignDone (p : Port) (skews : List (BitVec 8)) (s : State) : Host.Outcome State Fault Refusal :=
  let l := s.link p
  let ok := l.usedLanes.all fun i => (l.lanes.getD i {}).markerLock
  if l.st != .align || !ok || !skews.all (fun k => decide (k.toNat ≤ 80)) then .next s
  else
    let s1 := (s.onLink p fun l =>
      { l with st := .active, alignSent := true, retraining := false, agreed := true
               lanes := (l.usedLanes.zip skews).foldl (fun ls k => upd ls k.1 fun x => { x with skew := k.2.toNat }) l.lanes }).endCond
        0x20 (portNo p)
    done (if s1.announces then s1.announceOn p else s1)

/-- TRAINING_TIMEOUT: 50 ms in a training state: the attempt fails (R274). -/
def execTrainingTimeout (p : Port) (s : State) : Host.Outcome State Fault Refusal :=
  match (s.link p).st with
  | .detect | .rate | .eq | .align => done (s.attemptFails p)
  | _ => .next s

/-- QUIET_RETRY: 1,000 ms in QUIET: a retry cycle starts with each counter at 2 (R276). -/
def execQuietRetry (p : Port) (s : State) : Host.Outcome State Fault Refusal :=
  if (s.link p).st == .quiet then done (s.onLink p fun l => l.newCycle 2 true) else .next s

/-- SIGNAL_DETECT: signal on a lane in QUIET: a new cycle starts (R276). -/
def execSignalDetect (p : Port) (s : State) : Host.Outcome State Fault Refusal :=
  if (s.link p).st == .quiet then done (s.onLink p fun l => Link.newCycle { l with signal := true } 0 false) else .next s

/-- The port’s receivers run. -/
def State.receives (s : State) (p : Port) : Bool := (s.link p).st != .disabled && (s.link p).st != .parked

/-- The blocks that a lane has received since the last ones were taken, all of them after whatever the commands before brought (R264, R268 to
R271; log entry 91): STUFF and control block errors count, and a block that a frame cannot hold ends the one in progress. A used lane that
loses block lock or marker lock ends ACTIVE (R277). -/
def State.takeBlocks (s : State) (p : Port) (lane : Nat) (blocks : List Block) : State :=
  let x := (s.link p).lanes.getD lane {}
  let r := x.receive lane s.time.local_ blocks
  let s1 := s.onLink p fun l =>
    { l with stuffRx := sat 16 (l.stuffRx + r.stuff), badctl := sat 16 (l.badctl + r.bad), lanes := upd l.lanes lane fun _ => r.lane }
  let s2 := if r.ends then s1.endArriving p else s1
  let lost := (x.blockLock && !r.lane.blockLock) || (x.markerLock && !r.lane.markerLock)
  if lost && s.active p && (s.link p).used.getLsbD lane then s2.linkDown p else s2

/-- BLOCK_LOCK (R269): the blocks that a lane’s receiver reads, in the search or in lock; 64 valid headers in a row give block lock. -/
def execBlockLock (p : Port) (obs : LaneBlocks) (s : State) : Host.Outcome State Fault Refusal :=
  if s.receives p then done (s.takeBlocks p obs.lane.val obs.blocks) else .next s

/-- BLOCK_LOCK_LOSS (R269, R277): the blocks among which 16 headers within 64 are invalid; each invalid one counts. -/
def execBlockLockLoss (p : Port) (obs : LaneBlocks) (s : State) : Host.Outcome State Fault Refusal :=
  if s.receives p then done (s.takeBlocks p obs.lane.val obs.blocks) else .next s

/-- A retrain trigger of a lane (R281, R283): the port retrains; the third trigger of a lane within 10 min fences it instead. -/
def State.laneTrigger (s : State) (p : Port) (lane : Nat) : State :=
  let now := s.time.local_
  let s1 := s.onLink p fun l =>
    { l with lanes := upd l.lanes lane fun x =>
        { x with triggers := now :: x.triggers.filter fun t => decide (now - t < 600000000000 * 65536) } }
  if 3 ≤ ((s1.link p).lanes.getD lane {}).triggers.length then (s1.fenceLane p lane).linkDown p else s1.retrain p

/-- A value that adaptation reaches (R281): free, within the clamp around what it was at the end of EQ and within its range. -/
def clamped (free clamp : Nat) (lo hi at_ : Int) : Int :=
  let a := max lo (at_ - clamp)
  let b := min hi (at_ + clamp)
  a + ((free : Int) % (b - a + 1))

/-- The taps of a lane at their EQ values (R289). -/
def Lane.holdTaps (x : Lane) : Lane := { x with ctle := x.eqCtle, dfe1 := x.eqDfe.getD 0 0, dfe := x.eqDfe.drop 1 }

/-- The receiver of a lane adapts while it is not frozen and ADAPT_EN is set (R281); without ADAPT_EN the taps hold their EQ values (R289). -/
def Lane.adapt (x : Lane) (l : Link) (free : Nat) : Lane :=
  if !l.adaptEn then x.holdTaps
  else if x.frozen then x
  else
    { x with
      ctle := (clamped (free % 256) l.clampCtle 0 15 x.eqCtle).toNat
      dfe1 := clamped (free / 256) l.clampDfe (-32) 31 (x.eqDfe.getD 0 0)
      dfe := (x.eqDfe.drop 1).mapIdx fun i v => clamped (free / (1024 * 2 ^ (4 * i))) l.clampDfe (-32) 31 v }

/-- BIP mismatches of a lane exceed 256 within one second (R281). -/
def Lane.bipTrigger (x : Lane) : Bool := decide (256 < x.bipLog.foldl (fun a e => a + e.2) 0)

/-- AM_RECEIVED (R270, R271, R281): `blocks` are what the lane has received before the marker and no command has brought yet, `payload` the
marker, `skew` its delay behind the earliest lane in 0.25 ns. With marker lock on every used lane the port’s IDLE blocks say so. In ACTIVE the receiver adapts; a
skew above 20 ns ends ACTIVE (R277), and too many BIP errors are a retrain trigger, on a frozen lane as well (R282). -/
def execAmReceived (p : Port) (lane : Fin 4) (blocks : List Block) (payload : BitVec 64) (skew : BitVec 8) (s : State) :
    Host.Outcome State Fault Refusal :=
  let l := s.link p
  if (l.st != .align && l.st != .active) || !l.used.getLsbD lane.val || !markerOk lane.val payload then .next s
  else
    let s1 := s.takeBlocks p lane.val blocks
    if (s1.link p).st != l.st then done s1
    else
      let free := (Config.freeWord s1.free).toNat
      let s2 := (s1.onLink p fun l =>
        let lanes := upd l.lanes lane.val fun x =>
          let y := x.marker payload skew s.time.local_
          if l.st == .active then y.adapt l free else y
        { l with
          lanes := lanes
          alignSent := l.alignSent || l.usedLanes.all fun i => (lanes.getD i {}).markerLock && decide ((lanes.getD i {}).skew ≤ 80) }).takeFree
      let y := (s2.link p).lanes.getD lane.val {}
      done (if s.active p && (decide (80 < y.skew) || (((s1.link p).lanes.getD lane.val {}).markerLock && !y.markerLock)) then s2.linkDown p
        else if s.active p && ((s2.link p).lanes.getD lane.val {}).bipTrigger then
          (s2.onLink p fun l => { l with lanes := upd l.lanes lane.val fun x => { x with bipLog := [] } }).laneTrigger p lane.val
        else s2)

/-- MARKER_LOCK_LOSS (R271, R277): the blocks with which the third expected place in a row passes without the lane’s marker; its lock is lost,
and on a used lane ACTIVE ends. -/
def execMarkerLockLoss (p : Port) (obs : LaneBlocks) (s : State) : Host.Outcome State Fault Refusal :=
  if ((s.link p).lanes.getD obs.lane.val {}).markerLock then done (s.takeBlocks p obs.lane.val obs.blocks) else .next s

/-- PARK_RECEIVED: 2 PARK blocks on any lane end ACTIVE without a fault (R277). -/
def execParkReceived (p : Port) (_lane : Fin 4) (s : State) : Host.Outcome State Fault Refusal :=
  if s.active p then
    done ((((s.cutOff p).onLink p fun l => Link.dropTraffic { l with parks := inc 8 l.parks, downs := inc 8 l.downs }).mapPortLoss p).recycle p)
  else .next s

/-- RETRAIN_TRIGGER (R281, R283): adaptation has pressed against a clamp for 1 ms, or BIP errors are too many. -/
def execRetrainTrigger (p : Port) (lane : Fin 4) (s : State) : Host.Outcome State Fault Refusal :=
  if s.active p && (s.link p).used.getLsbD lane.val then done (s.laneTrigger p lane.val) else .next s

/-- RETRAIN_FOLLOW: a partner’s TRAIN with STATE 3 takes the ACTIVE port into EQ (R281). -/
def execRetrainFollow (p : Port) (lane : Fin 4) (payload : BitVec 64) (s : State) : Host.Outcome State Fault Refusal :=
  if s.active p && (s.link p).used.getLsbD lane.val && trainOk payload && bits64 payload 10 8 == 3 then
    done ((s.retrain p).onLink p fun l => { l with partnerState := 3 })
  else .next s

/-- ADAPT_FREEZE: 4,096 consecutive IDLE blocks on a lane (R281). -/
def execAdaptFreeze (p : Port) (lane : Fin 4) (s : State) : Host.Outcome State Fault Refusal :=
  if s.active p && (s.link p).used.getLsbD lane.val then
    done (s.onLink p fun l => { l with lanes := upd l.lanes lane.val fun x => { x with frozen := true } })
  else .next s

/-- ADAPT_RESUME: 64 data blocks since the freeze (R281). -/
def execAdaptResume (p : Port) (lane : Fin 4) (s : State) : Host.Outcome State Fault Refusal :=
  if s.active p && ((s.link p).lanes.getD lane.val {}).frozen then
    done (s.onLink p fun l => { l with lanes := upd l.lanes lane.val fun x => { x with frozen := false } })
  else .next s

/-- EYE_MEASURE_COMPLETE: the eye of each used lane, in order (R280). -/
def execEyeMeasureComplete (p : Port) (eyes : List (BitVec 8)) (s : State) : Host.Outcome State Fault Refusal :=
  let l := s.link p
  if !l.eyeValid && eyes.length = l.usedLanes.length then
    let seen := l.usedLanes.zip eyes
    done (s.onLink p fun l =>
      { l with
        lanes := seen.foldl (fun ls o => upd ls o.1 fun x => { x with eye := o.2.toNat }) l.lanes
        eyeMin := eyes.foldl (fun a e => min a e.toNat) 255, eyeLanes := l.used, eyeValid := true, eyeFresh := true })
  else .next s

/-- A lane’s checker sets FAIL. -/
def State.prbsFail (s : State) (p : Port) (lane : Nat) : State :=
  s.onLink p fun l => { l with lanes := upd l.lanes lane fun x => { x with fail := true } }

/-- A lane’s checker runs (R286). -/
def State.checks (s : State) (p : Port) (lane : Nat) : Bool :=
  (s.link p).st == .test && fld (s.link p).test (11 + lane) (11 + lane) == 1

/-- Far-end loopback (R285): the bits received on a lane leave on its transmitter; `out` holds the last 66 of them. -/
def Lane.loopBack (x : Lane) (bits : List Bool) : Lane :=
  { x with out := BitVec.ofNat 66 ((bits.drop (bits.length - 66)).foldr (fun b a => b2n b + 2 * a) 0) }

/-- The bits that a lane receives in TEST: its checker takes them when it is selected (R286), and far-end loopback sends them back (R285). -/
def State.takeBits (s : State) (p : Port) (lane : Nat) (bits : List Bool) : State :=
  s.onLink p fun l =>
    { l with lanes := upd l.lanes lane fun x =>
        let y := if s.checks p lane then x.checkAll (fld l.test 2 1) s.time.local_ bits else x
        if fld l.test 4 3 = 2 then y.loopBack bits else y }

/-- PRBS_SYNC_TIMEOUT: a checker that has not reached sync 10 ms after TEST_EN, these bits received, sets FAIL (R286). -/
def execPrbsSyncTimeout (p : Port) (obs : LaneBits) (s : State) : Host.Outcome State Fault Refusal :=
  let lane := obs.lane
  if (s.link p).st == .test then
    let s1 := s.takeBits p lane.val obs.received
    done (if !s.checks p lane.val || ((s1.link p).lanes.getD lane.val {}).synced then s1 else s1.prbsFail p lane.val)
  else .next s

/-- PRBS_SYNC_LOSS: the bits by which a checker loses sync; every bit that differs in sync counts, and more than 4 losses within 1 s set
FAIL (R286). -/
def execPrbsSyncLoss (p : Port) (obs : LaneBits) (s : State) : Host.Outcome State Fault Refusal :=
  if (s.link p).st == .test then done (s.takeBits p obs.lane.val obs.received) else .next s

/-! ### Writes to the lane registers (R284, R287, R289) -/

/-- LNK_CTRL’s ENABLE, RETRAIN and CLR_FENCE take effect (R289). -/
def State.linkCtrl (s : State) (p : Port) (enable retrain clr : Bool) : State :=
  let was := (s.link p).enable
  let s1 := s.onLink p fun l => { l with enable := enable }
  let s2 := if clr then
      (s1.onLink p fun l =>
        { l with lanes := l.lanes.map fun x => { x with fenced := false, fenceRaised := false, waiting := x.waiting || x.fenced } }).endCond 0x21 (portNo p)
    else s1
  let s3 := if !enable then s2.disablePort p
    else if !was && s2.running && s2.eng.st != .boot then s2.startPort p
    else s2
  if retrain then s3.retrain p else s3

/-- LNK_TEST is written in SERVICE (R284 to R286): TEST_EN set takes the port into TEST; cleared, it fences failed lanes unless
TEST_NOFENCE is set, and starts a new cycle. -/
def State.linkTest (s : State) (p : Port) (w : Word) : State :=
  let was := (s.link p).st == .test
  let loop := if fld w 4 3 = 3 then 0 else fld w 4 3
  let stored := pack [(0, fld w 2 0), (3, loop), (5, fld w 15 5)]
  let s1 := s.onLink p fun l => { l with test := stored }
  if fld w 0 0 = 1 then
    if was then s1.onLink p fun l => { l with rate := fld w 6 5 }
    else (s1.leaveActive p).onLink p fun l =>
      { l with st := .test, rate := fld w 6 5, width := 0, used := 0, agreed := false, retraining := false, held := []
               lanes := l.lanes.map Lane.startTest }
  else if was then
    let failed := (List.range 4).filter fun i => ((s1.link p).lanes.getD i {}).fail
    let s2 := if fld w 15 15 = 1 then s1 else failed.foldl (fun s i => s.fenceLane p i) s1
    if (s2.link p).enable && !s2.unitFenced (6 + portNo p) then s2.recycle p else s2.disablePort p
  else s1

/-- Lane `i` of a port sends what an injection can invert: pattern bits in TEST, data blocks in ACTIVE (R287). -/
def Link.injectable (l : Link) (i : Nat) : Bool :=
  if l.st == .test then fld l.test (7 + i) (7 + i) == 1 && fld l.test 4 3 != 2 else l.st == .active && l.used.getLsbD i

/-- LNK_INJECT (R287): the next bits of the selected lanes are inverted, and count as they are. -/
def State.linkInject (s : State) (p : Port) (w : Word) : State :=
  let n := if fld w 4 4 = 1 then max 1 (fld w 12 5) else 1
  s.onLink p fun l =>
    { l with lanes := (List.range 4).map fun i =>
        let x := l.lanes.getD i {}
        if fld w i i = 1 ∧ l.injectable i = true then { x with inject := x.inject + n } else x }

end Sys2Proof.Machine
end

