-- ==== Sys2Proof/Machine/CmdOps.lean ====
section
/-!
DEFINITION. Sys2Proof/Machine/CmdOps.lean: the checks that every command passes (R248), its acceptance and its reply (R243 to
R257), and the legality table (R252).
-/

namespace Sys2Proof.Machine

/-! ### Replies -/

/-- A reply block (R244). -/
def State.replyBlock (s : State) (op : Byte) (status : Byte) (cmdId : BitVec 16) (result : List Byte) : List Byte :=
  [op, status] ++ leBytes 2 cmdId.toNat ++ leBytes 2 result.length ++ leBytes 1 s.stateByte ++ [0] ++ result

/-- The number of a command port in CMD_LAST (R258). -/
def cmdPortNo : CmdPort → Nat
  | .a => 0 | .b => 1 | .service => 2

/-- A reply leaves by a frame to the command’s SRC, or enters the service port’s reply slot (R244, R256); with QUIET and OK there
is none (R243). -/
def State.sendReply (s : State) (o : OutCmd) (block : Option (List Byte)) : State :=
  match o.port with
  | .service => s.onCmd fun c => { c with svcReply := block, svcRead := false }
  | _ => match block with
    | some b => s.originate o.src.toNat 0x03 b
    | none => s

/-- A command counted as accepted or refused, and shown in CMD_LAST where it is replied to (R243, R253, R258). -/
def Cmd.count (c : Cmd) (o : OutCmd) (status : Byte) : Cmd :=
  { c with
    accepted := if status = stOk then inc 16 c.accepted else c.accepted
    refused := if status = stOk then c.refused else inc 16 c.refused
    lastOp := if o.quiet && status = stOk then c.lastOp else o.opcode, lastStatus := if o.quiet && status = stOk then c.lastStatus else status
    lastPort := if o.quiet && status = stOk then c.lastPort else cmdPortNo o.port }

/-- The reply that a command gets; with QUIET and OK there is none (R243); `keep`: the result goes out whatever the STATUS. -/
def State.replyOf (s : State) (o : OutCmd) (status : Byte) (result : List Byte) (keep : Bool) : Option (List Byte) :=
  if o.quiet && status = stOk then none else some (s.replyBlock o.opcode status o.cmdId (if status = stOk || keep then result else []))

/-- A command that was not accepted for execution is replied to (R244, R253): no other command’s entry or stored reply changes. -/
def State.answerTo (s : State) (o : OutCmd) (status : Byte) (result : List Byte) (keep : Bool) : State :=
  let s1 := s.onCmd fun c => c.count o status
  s1.sendReply o (s1.replyOf o status result keep)

/-- An accepted command is replied to (R244, R247, R253, R258): its entry goes, and the reply is stored with it; an entry of the same
CMD_ID under another SESSION is another command’s (R354). -/
def State.reply (s : State) (o : OutCmd) (status : Byte) (result : List Byte) (keep : Bool) : State :=
  let s1 := s.onCmd fun c => { c.count o status with outstanding := c.outstanding.erase o }
  let block := s1.replyOf o status result keep
  let s2 := s1.onCmd fun c =>
    { c with recent := c.recent.map fun r =>
        if r.port == o.port && r.src == o.src && r.cmdId == o.cmdId && r.session == o.session && r.reply.isNone then
          { r with reply := some (block.getD []) }
        else r }
  s2.sendReply o block

/-- A deferred reply to whoever issued a COMMIT or a take (R54, R75, R250): a Tumbler thread gets the word, a command its reply. -/
def State.issuerReply (s : State) (by_ : Issuer) (status : Byte) (w : Word) : State :=
  match by_ with
  | .register => s
  | .thread t rd => s.deviceDone t.val (if rd.val = 0 then 0 else w)
  | .command port src cmdId session =>
    match s.cmd.outstanding.find? fun q => q.port == port && q.src == src && q.cmdId == cmdId && q.session == session with
    | some o => s.reply o status (leBytes 4 w.toNat) true
    | none => s

/-! ### Legality (R252) -/

/-- What the catalogue and the legality table say of an opcode (R250, R252). -/
structure OpRule where
  /-- OPCODE -/
  op : Nat
  /-- T: a session tag is required on WALL ports -/
  tagged : Bool
  /-- B: broadcast is allowed -/
  bcast : Bool
  /-- only the service port may send it -/
  svcOnly : Bool
  /-- legal in JOIN, DARK, LIT, SAFE, SERVICE, UPDATE -/
  legal : List EngState
  deriving DecidableEq, Repr

/-- The six states in which commands can be legal. -/
def allStates : List EngState := [.join, .dark, .lit, .safe, .service, .update]

/-- The rows of R250 and R252. -/
def opRules : List OpRule := [
  ⟨0x01, false, false, false, allStates⟩,
  ⟨0x02, false, false, false, allStates⟩,
  ⟨0x03, true, false, false, allStates⟩,
  ⟨0x04, true, true, false, [.dark, .lit, .safe, .update]⟩,
  ⟨0x05, true, true, false, [.dark, .lit, .safe, .update]⟩,
  ⟨0x06, true, true, false, [.dark, .lit, .safe, .update]⟩,
  ⟨0x07, true, false, false, [.dark, .lit, .safe, .service, .update]⟩,
  ⟨0x08, true, false, false, [.dark, .lit]⟩,
  ⟨0x09, true, true, false, [.dark, .lit, .safe, .service]⟩,
  ⟨0x0A, true, true, false, [.join, .dark, .lit, .safe, .update]⟩,
  ⟨0x0B, true, false, false, [.join, .dark, .lit, .safe, .service]⟩,
  ⟨0x10, true, true, false, [.dark]⟩,
  ⟨0x11, true, true, false, [.lit]⟩,
  ⟨0x12, true, false, false, allStates⟩,
  ⟨0x13, true, false, false, allStates⟩,
  ⟨0x14, true, false, false, [.dark]⟩,
  ⟨0x15, true, false, false, [.dark, .lit]⟩,
  ⟨0x18, true, false, false, [.dark, .lit]⟩,
  ⟨0x19, true, false, false, [.update]⟩,
  ⟨0x1A, true, false, false, [.update]⟩,
  ⟨0x20, false, false, false, allStates⟩,
  ⟨0x21, false, false, false, allStates⟩,
  ⟨0x22, false, false, false, allStates⟩,
  ⟨0x30, false, false, true, [.dark, .safe]⟩,
  ⟨0x31, false, false, true, [.service]⟩,
  ⟨0x32, false, false, true, [.service]⟩,
  ⟨0x33, false, false, true, [.service]⟩,
  ⟨0x34, false, false, true, [.service]⟩,
  ⟨0x35, false, false, true, [.service]⟩]

/-- The row of an opcode. -/
def opRule (op : Nat) : Option OpRule := opRules.find? fun r => r.op = op

/-- The legality table admits an opcode in the current state (R252), the recovery subset aside (R468). -/
def State.legal (s : State) (op : Nat) : Bool :=
  match opRule op with | some r => r.legal.contains s.eng.st | none => false

/-- SERVICE entered without a valid firmware image (R468). -/
def State.recovery (s : State) : Bool := s.eng.st == .service && s.eng.noImage

/-! ### The checks -/

/-- The payload of a command (R243). -/
def cmdPayload (q : CmdReq) (op : Byte) : List Byte :=
  [op, q.flags] ++ leBytes 2 q.cmdId.toNat ++ leBytes 2 q.argLen.toNat ++ leBytes 2 q.zero.toNat ++ leBytes 8 q.session.toNat ++ q.args

/-- DEST and SRC as the engine takes them: both 0 on the service port (R247, R352). -/
def cmdSrc (q : CmdReq) : BitVec 12 := if q.port == .service then 0 else q.src

/-- The SESSION field as the engine takes it: the service port’s is ignored (R241). -/
def cmdSession (q : CmdReq) : BitVec 64 := if q.port == .service then 0 else q.session

/-- The command while it is not yet replied to. -/
def cmdOut (q : CmdReq) (op : Byte) : OutCmd :=
  { port := q.port, src := cmdSrc q, cmdId := q.cmdId, session := cmdSession q, opcode := op, quiet := q.flags.getLsbD 0 }

/-- The register source of a command port (R249). -/
def cmdSource : CmdPort → Source
  | .a => .portA | .b => .portB | .service => .service

/-- The command reaches command handling: on a WALL port its frame is delivered here (R246, R294); on the service port the seal is
open or not fitted (R242). -/
def State.arrives (s : State) (q : CmdReq) : Bool :=
  match q.port with
  | .service => s.running && !s.pwr.sealHigh
  | .a => s.active .a && (q.dest == s.wall.id || q.dest == 0xFFF)
  | .b => s.active .b && (q.dest == s.wall.id || q.dest == 0xFFF)

/-- A command executes on the service port (R257). -/
def State.svcBusy (s : State) : Bool := s.cmd.outstanding.any fun o => o.port == .service

/-- The earlier copy of a command (R247, R354). -/
def State.copyOf (s : State) (q : CmdReq) : Option Recent :=
  s.cmd.recent.find? fun r => r.port == q.port && r.src == cmdSrc q && r.cmdId == q.cmdId
    && r.session == cmdSession q && decide (s.time.local_ - r.at_ ≤ 2000000000 * 65536)

/-- What a command’s unit answers: a STATUS, its result, and the state after it; or, with `none`, that the reply comes later. -/
abbrev UnitAnswer := Option (Byte × List Byte) × State

/-- The answers of a unit. -/
def State.ok (s : State) : UnitAnswer := (some (stOk, []), s)
def State.okWith (s : State) (r : List Byte) : UnitAnswer := (some (stOk, r), s)
def State.no (s : State) (status : Byte) : UnitAnswer := (some (status, []), s)
def State.later (s : State) : UnitAnswer := (none, s)

/-- A refusal for BAD_TAG is counted; 64 within 1 s on one port raise CMD_TAG_FLOOD once per second, with the port as DETAIL
(R253). -/
def State.countBadTag (s : State) (q : CmdReq) : State :=
  let now := s.time.local_
  let recent := fun (l : List Nat) => (now :: l.filter fun t => decide (now - t < 1000000000 * 65536)).take 64
  let due := fun (f : Option Nat) => match f with | none => true | some t => decide (1000000000 * 65536 ≤ now - t)
  let s1 := s.onCmd fun c => { c with tagFail := inc 16 c.tagFail, tagFailSrc := q.src }
  match q.port with
  | .service => s1
  | .a =>
    let w := recent s1.cmd.tagWindowA
    let hit := decide (64 ≤ w.length) && due s1.cmd.floodA
    let s2 := s1.onCmd fun c => { c with tagWindowA := w, floodA := if hit then some now else c.floodA }
    if hit then s2.raise 0xA3 0 else s2
  | .b =>
    let w := recent s1.cmd.tagWindowB
    let hit := decide (64 ≤ w.length) && due s1.cmd.floodB
    let s2 := s1.onCmd fun c => { c with tagWindowB := w, floodB := if hit then some now else c.floodB }
    if hit then s2.raise 0xA3 1 else s2

/-- A refused command: its reply, and nothing else (R245). -/
def State.refuse (s : State) (q : CmdReq) (op status : Byte) : State := s.answerTo (cmdOut q op) status [] false

/-- What one opcode adds to the checks of R248: argument lengths (check 4), restricted fields (check 3), state conditions beyond the
table (check 7), the unit’s fence (check 8), its own checks and effect (check 9). -/
structure OpBody where
  /-- ARG_LEN and reserved argument bytes are as the catalogue states -/
  lenOk : Bool
  /-- the status of check 3 for fields restricted by port, OK when none is hit -/
  restricted : Byte := stOk
  /-- what the recovery subset of R468 says of it -/
  recovery : Bool := false
  /-- preconditions named by the legality table -/
  ready : Bool := true
  /-- Ward verifies the argument, and cannot while it is fenced (check 6, R370) -/
  signed : Bool := false
  /-- no signature of the argument is the first thing in it that fails (check 6) -/
  sigOk : Bool := true
  /-- the unit addressed is fenced -/
  fenced : Bool := false
  /-- the fault that a chapter attaches to the refusal of an argument -/
  fault : Option Nat := none

/-- The first failing check among 2 to 8, tags included (R248), with the state after a valid tag. -/
def State.checks2to8 (s : State) (r : OpRule) (q : CmdReq) (b : OpBody) : Byte × State :=
  let wall := q.port != .service
  let needTag := wall && (r.tagged || (r.op = 0x02 && q.session != 0))
  if r.svcOnly && wall then (stDeniedPort, s)
  else if b.restricted != stOk then (b.restricted, s)
  else if wall && q.dest == 0xFFF && !r.bcast then (stBadAddr, s)
  else if q.flags.toNat / 2 ≠ 0 || q.zero != 0 || q.argLen.toNat ≠ q.args.length || 9200 < q.args.length || !b.lenOk then (stBadLen, s)
  else if needTag && s.unitFenced 3 then (stFenced, s)
  else
    let (tagOk, s1) := if needTag then s.checkCmdTag q.dest.toNat q.src q.cmdId (cmdPayload q (BitVec.ofNat 8 r.op)) else (true, s)
    if !tagOk then (stBadTag, s1)
    else if b.signed && s.unitFenced 3 then (stFenced, s)
    else if !b.sigOk then (stBadSig, s)
    else if s.recovery then
      if wall || !b.recovery then (stRefusedState, s)
      else if b.fenced then (stFenced, s) else (stOk, s1)
    else if !r.legal.contains s.eng.st || !b.ready then (stRefusedState, s)
    else if b.fenced then (stFenced, s)
    else (stOk, s1)

/-- A command is accepted for execution (R247, R309). -/
def State.accept (s : State) (q : CmdReq) (op : Byte) (tagged : Bool) : State :=
  let s1 := s.onCmd fun c =>
    { c with
      recent := ({ port := q.port, src := cmdSrc q, cmdId := q.cmdId, at_ := s.time.local_, session := cmdSession q, reply := none } ::
        c.recent.filter fun r =>
          !(r.port == q.port && r.src == cmdSrc q && r.cmdId == q.cmdId && r.session == cmdSession q)).take 16
      outstanding := c.outstanding ++ [cmdOut q op] }
  if tagged then s1.onWall fun w => { w with lastTagged := some q.src } else s1

/-- A copy of an earlier command (R247): its stored reply goes out again; while that one executes, the copy is discarded. -/
def State.resend (s : State) (q : CmdReq) (op : Byte) (e : Recent) : Host.Outcome State Fault Refusal :=
  match e.reply with
  | none => .next s
  | some block => done (s.sendReply (cmdOut q op) (if block.isEmpty then none else some block))

/-- A command runs (R247 to R250): a copy gets its stored reply; the checks of R248 in order; then the unit. A refusal leaves nothing
but its reply and counters behind (R245). -/
def State.runCmd (s : State) (op : Byte) (q : CmdReq) (b : OpBody) (unit : State → UnitAnswer) : Host.Outcome State Fault Refusal :=
  match opRule op.toNat with
  | none => .next s
  | some r =>
    if !s.arrives q then .next s
    else if q.port == .service && s.svcBusy then done (s.onCmd fun c => { c with svcErrors := inc 16 c.svcErrors })
    else
      let s0 := if q.port == .service then s.onCmd fun c => { c with svcReply := none, svcRead := false } else s
      match s0.copyOf q with
      | some e => s0.resend q op e
      | none =>
        let (st, s1) := s0.checks2to8 r q b
        if st = stBadTag then done ((s1.refuse q op st).countBadTag q)
        else if st ≠ stOk then
          done ((match b.fault with | some n => if (st = stBadLen && !b.lenOk) || st = stBadSig then s0.raise n 0 else s0 | none => s0).refuse q op st)
        else if 8 ≤ (s0.cmd.outstanding.filter fun o => o.port == q.port).length then done (s0.refuse q op stBusy)
        else
          let tagged := q.port != .service && (r.tagged || (r.op = 0x02 && q.session != 0))
          match unit (s1.accept q op tagged) with
          | (none, s2) => done s2
          | (some (st, res), s2) =>
            if st = stOk then done (s2.reply (cmdOut q op) st res false)
            else done ((s0.onFlt fun _ => s2.flt).answerTo (cmdOut q op) st res true)

end Sys2Proof.Machine
end

