-- ==== Sys2Proof/Machine/NvmOps.lean ====
section
/-!
DEFINITION. Sys2Proof/Machine/NvmOps.lean: settings, two-phase stores, staging and the Cairn write (chapter 16).
-/

namespace Sys2Proof.Machine

/-! ### Settings (R457) -/

/-- The settings as a settings store writes them. -/
def State.snapshot (s : State) : Settings :=
  { tileId := s.wall.id, wallEpoch := s.cmd.wallEpoch, settingsEpoch := s.cmd.settingsEpoch, tileUid := s.nvm.settingsUid
    sev := s.flt.sev, rateA := s.age.startA, rateB := s.age.startB, envLimit := s.col.limit, phasesM1 := s.led.phasesM1
    ledVlim := pack [(0, s.led.vminMv), (16, s.led.vmaxMv)], plimitW := s.led.plimitW, kneeC := s.led.kneeC
    levels := s.age.ovr, exclude := s.age.exclude
    ageCtrl := BitVec.ofNat 3 (b2n s.age.ledgerEn + 2 * b2n s.age.planEn + 4 * b2n s.age.avsEn)
    avsAddr := s.age.avsAddr, avsExp := s.age.avsExp, avsLim := pack [(0, s.age.avsVmin), (16, s.age.avsVmax)]
    ntcCfg := s.therm.ntcCfg, ntcMap0 := s.therm.ntcMap0, ntcMap1 := s.therm.ntcMap1 }

/-- F_L (R458): the format of the newest valid copy of area L; 1 where it holds none (DESIGN CHOICE, log entry 5). -/
def State.formatL (s : State) : Nat :=
  match (s.nvm.area s.bootRec.areaL).newest (settingsLayout s.bootRec.areaL) with | some c => c.format | none => 1

/-- The settings put in force. -/
def State.applySettings (s : State) (x : Settings) : State :=
  { s with
    wall := { s.wall with id := x.tileId }
    cmd := { s.cmd with wallEpoch := x.wallEpoch, settingsEpoch := x.settingsEpoch }
    nvm := { s.nvm with settingsUid := x.tileUid }
    flt := { s.flt with sev := x.sev }
    age := { s.age with
      startA := x.rateA, startB := x.rateB, ovr := x.levels, exclude := x.exclude, ledgerEn := x.ageCtrl.getLsbD 0, planEn := x.ageCtrl.getLsbD 1
      avsEn := x.ageCtrl.getLsbD 2, avsAddr := x.avsAddr, avsExp := x.avsExp, avsVmin := fld x.avsLim 11 0, avsVmax := fld x.avsLim 27 16 }
    col := { s.col with limit := x.envLimit, limitActive := x.envLimit }
    led := { s.led with phasesM1 := x.phasesM1, vminMv := fld x.ledVlim 12 0, vmaxMv := fld x.ledVlim 28 16, plimitW := x.plimitW
                        kneeC := x.kneeC }
    therm := { s.therm with ntcCfg := x.ntcCfg, ntcMap0 := x.ntcMap0, ntcMap1 := x.ntcMap1 } }

/-! ### Stores (R453, R454) -/

/-- The code of a store that fails: the spec says that it reports its failure and states no code. A free value other than OK
(log entry 14). -/
def State.failCode (s : State) : Byte := BitVec.ofNat 8 (1 + (Config.freeWord s.free).toNat % 255)

/-- A settings store starts (R457), unless the NVM is fenced (R417) or nothing new may start (R456); while one runs, a further
one starts when it is over. -/
def State.startSettings (s : State) : State :=
  if s.unitFenced 9 || s.pwr.noNewStore then s
  else if s.nvm.storing .settings then s.onNvm fun v => { v with settingsAgain := true }
  else s.onNvm fun v => { v with jobSettings := some s.snapshot, stKind := 0, stValid := false, stFresh := false, settingsAgain := false }

/-- The words of the retained region (R219): data-memory words 3,840 to 4,095. -/
def State.retainedWords (s : State) : Sparse Word :=
  (s.tum.dmem.filter fun p => decide (3840 ≤ p.1)).map fun p => (p.1 - 3840, p.2)

/-- A store of the retained region starts (R219). -/
def State.startRetained (s : State) : State :=
  if s.pwr.noNewStore then s
  else (s.onNvm fun v => { v with jobRetained := some s.retainedWords }).onTum fun m => { m with storeValid := false, storeFresh := false }

/-- A program store (R217, R218): the image is checked first, and an image that fails is reported and not stored; while the NVM is
fenced the store reports FENCED, while one runs BUSY. None of
these ends the VALID = 0 of a store that runs (R59). -/
def State.startProgStore (s : State) : State :=
  if s.pwr.noNewStore then s
  else if progCheck s != stOk then s.reportProg
  else if s.unitFenced 9 then s.onTum fun m => { m with progCode := stFenced, progFresh := true }
  else if s.nvm.storing .program then s.onTum fun m => { m with progCode := stBusy, progFresh := true }
  else (s.onNvm fun v => { v with jobProg := some s.tum.prog }).onTum fun m => { m with progValid := false, progFresh := false }

/-- The fields of a background erase that starts (R454). -/
def Nvm.eraseLater (v : Nvm) (k : StoreKind) : Nvm := { v with erasing := v.erasing ++ [k] }

/-- A SHUTDOWN command whose stores are all over is replied to, with the ledger store’s CODE (R251). -/
def State.checkShutdown (s : State) : State :=
  match s.cmd.shutdownFrom with
  | none => s
  | some o =>
    if s.age.busy || s.nvm.jobSettings.isSome || s.nvm.settingsAgain || s.col.userStore then s
    else (s.onCmd fun c => { c with shutdownFrom := none }).reply o stOk (leBytes 4 s.age.code.toNat) false

/-- The result of a STORE of kind 0 or 3 (R474). -/
def State.storeResult (s : State) (kind : Nat) (code : Byte) : State :=
  s.onNvm fun v => { v with stCode := code, stKind := kind, stValid := true, stFresh := true }

/-- A store of settings is over (R457). -/
def State.settingsDone (s : State) (ok : Bool) : State :=
  match s.nvm.jobSettings with
  | none => s
  | some x =>
    let free := s.onNvm fun v => { v with jobSettings := none }.eraseLater .settings
    if ok then
      (((free.onNvm fun v => v.onArea s.areaUsed fun p => p.store (settingsLayout s.areaUsed) x v.formatUsed).storeResult 0 stOk).fire 22).checkShutdown
    else (((free.storeResult 0 s.failCode).takeFree).raise 0xD1 0).checkShutdown

/-- A store of the retained region is over (R219). -/
def State.retainedDone (s : State) (ok : Bool) : State :=
  match s.nvm.jobRetained with
  | none => s
  | some x =>
    let free := s.onNvm fun v => { v with jobRetained := none }.eraseLater .retained
    let result := fun (s : State) (c : Byte) => s.onTum fun m => { m with storeCode := c, storeValid := true, storeFresh := true }
    if ok then (result (free.onNvm fun v => { v with retained := v.retained.store retainedLayout x 1 }) stOk).fire 22
    else (result free.takeFree s.failCode).raise 0xD1 0

/-- A program store is over (R218): the copy that it wrote is its image, of the GENERATION that the image bears. -/
def State.programDone (s : State) (ok : Bool) : State :=
  match s.nvm.jobProg with
  | none => s
  | some x =>
    let free := s.onNvm fun v => { v with jobProg := none }.eraseLater .program
    let result := fun (s : State) (c : Byte) => s.onTum fun m => { m with progCode := c, progValid := true, progFresh := true }
    if ok then
      let s1 := free.onNvm fun v => { v with prog := v.prog.store programLayout x 0 }
      ((result s1 stOk).onTum fun m => { m with progCopy := s.nvm.prog.next programLayout }).fire 22
    else (result free.takeFree s.failCode).raise 0xD1 0

/-! ### Firmware slots (R460 to R467) -/

/-- A firmware slot. -/
def Nvm.slot (v : Nvm) (k : Bool) : FwSlot := if k then v.slot1 else v.slot0

/-- The NVM with one firmware slot changed. -/
def Nvm.onSlot (v : Nvm) (k : Bool) (f : FwSlot → FwSlot) : Nvm :=
  if k then { v with slot1 := f v.slot1 } else { v with slot0 := f v.slot0 }

/-- BODY_LEN of a slot’s header. -/
def FwSlot.bodyLen (x : FwSlot) : Nat := leAt x.header 0x00C 4

/-- Row 1 of R361: the header breaks no rule of R460. -/
def headerOk (h : List Byte) : Bool :=
  h.length == 1024 && leAt h 0 4 == 0x57465658 && leAt h 4 4 == 1 && leAt h 8 4 == 0x0B0E1024
    && decide (4 ≤ leAt h 0xC 4 ∧ leAt h 0xC 4 ≤ 1047552) && leAt h 0xC 4 % 4 == 0
    && decide (1 ≤ leAt h 0x18 4 ∧ leAt h 0x18 4 ≤ 65535) && decide (1 ≤ leAt h 0x1C 4 ∧ leAt h 0x1C 4 ≤ leAt h 0x18 4)
    && decide (leAt h 0x20 4 < leAt h 0xC 4) && (slice h 0x24 12).all (· == 0) && (slice h 0x60 32).all (· == 0)
    && (slice h 0x240 448).all (· == 0)

/-- Rows 1 to 5 of R361 on a header; COUNTERSIG must be zero without POLICY.COUNTERSIGN (R460). After a failed known-answer test nothing verifies: row 2 fails (R361). -/
def State.headerCheck (s : State) (h : List Byte) : Byte :=
  if !headerOk h || (!s.ward.policy.getLsbD 0 && !(slice h 0x1E0 96).all (· == 0)) then stBadLen
  else if !s.ward.katOk || !certOk (slice h 0x80 256) 1 then stBadSig
  else if !ecdsaOk (certKey (slice h 0x80 256)) (slice h 0 0x180) (slice h 0x180 96) then stBadSig
  else if leAt h 0x10 4 < s.ward.arbFw.toNat then stStale
  else if s.ward.policy.getLsbD 0 && !ecdsaOk s.ward.ownerPub (slice h 0 0x1E0) (slice h 0x1E0 96) then stBadSig
  else stOk

/-- Row 6 of R361: the body’s digest; a slot with a page that cannot be read has none (R451). -/
def FwSlot.digestOk (x : FwSlot) : Bool := !x.bad && x.body.length == x.bodyLen && sha384 x.body == slice x.header 0x30 48

/-- A slot verifies (R361). -/
def State.slotOk (s : State) (k : Bool) : Bool :=
  s.headerCheck (s.nvm.slot k).header == stOk && (s.nvm.slot k).digestOk

/-- The slot that staging writes: the one that does not run, and without a valid image the one that is not CONFIRMED, slot 0 when
neither is (R461, R468). -/
def State.stageSlot (s : State) : Bool :=
  if s.eng.noImage then s.bootRec.slot0 == .confirmed else !s.nvm.runSlot

/-- UPDATE is left for the state before it (R22). Where that is LIT, R24 says that LIT is entered only from DARK by light-on: the model
takes R22’s row, since content stayed lit through UPDATE (R22, table of states: "As before entry"), and does not test R24’s conditions
again (DESIGN CHOICE, log entry 72). -/
def State.leaveUpdate (s : State) : State :=
  if s.eng.st != .update then s
  else if s.eng.beforeUpdate == .dark then s.enterDark
  else s.setEng s.eng.beforeUpdate

/-- Staged bytes that still wait to be programmed (R462): 512 B leave every 400 µs. -/
def State.staged (s : State) : Nat := s.nvm.waiting - 512 * ((s.time.local_ - s.nvm.progAt) / (400000 * 65536))

/-- Body data offered to staging (R462): the first matching row; true when it is queued. What is queued once R456 bars new page programs is
never programmed. -/
def State.stage (s : State) (offset : Nat) (data : List Byte) : Bool × State :=
  let slot := s.nvm.slot s.nvm.updTarget
  let drop := s.onNvm fun v => { v with drops := inc 16 v.drops }
  if s.nvm.phase != .receiving then (false, drop)
  else if offset ≠ s.nvm.nextOffset.toNat ∨ slot.bodyLen < offset + data.length then (false, drop)
  else if 65536 ≤ s.staged then (false, drop)
  else
    (true, s.onNvm fun v =>
      { v.onSlot v.updTarget fun x => if s.pwr.noNewStore then x else { x with body := x.body ++ data } with
        nextSeq := v.nextSeq + 1
        nextOffset := BitVec.ofNat 32 (offset + data.length)
        waiting := s.staged + data.length
        progAt := if s.staged = 0 then s.time.local_
          else v.progAt + (s.time.local_ - v.progAt) / (400000 * 65536) * (400000 * 65536)
        phase := if offset + data.length = slot.bodyLen then .verifying else v.phase })

/-- The conditions of R466 but for AUTO_CONFIRM or the CONFIRM write. A trial whose timer has expired confirms no more (R467), and no boot
control write starts where R456 bars it. -/
def State.mayConfirm (s : State) : Bool :=
  s.nvm.trial && s.nvm.migrated && !s.nvm.s3Seen && s.running && !s.nvm.fallbackDue && !s.pwr.noNewStore
    && (match s.nvm.darkAt with | some t => decide (s.nvm.holdS * 1000000000 * 65536 ≤ s.time.local_ - t) | none => false)

/-- Confirmation (R466): one boot control write; ARB_FW raised; the freed area erased. -/
def State.confirmTrial (s : State) : State :=
  let run := s.nvm.runSlot
  let freed := s.bootRec.areaL
  let blank : Copy Settings := { body := {} }
  let s1 := s.writeBoot fun b =>
    { (if b.slot (!run) == .confirmed then b.setSlot (!run) .old else b).setSlot run .confirmed with areaL := !b.areaL, tries := 0 }
  ((s1.onNvm fun v =>
      { v.onArea freed fun _ => { c0 := blank, c1 := blank } with trial := false, confirmAsked := false }).onWard
    fun w => { w with arbFw := BitVec.ofNat 32 (max w.arbFw.toNat (leAt (s.nvm.slot run).header 0x10 4)) }).logEvent logConfirm (b2n run) []

/-- A trial ends unconfirmed (R467): the slot INVALID, FW_FALLBACK raised and logged, and the reset. -/
def State.fallback (s : State) : State :=
  (((s.writeBoot fun b => b.setSlot s.nvm.runSlot .invalid).logEvent logFallback (b2n s.nvm.runSlot) []).raise 0xD2 0).resetWith .fallback

/-! ### The Cairn plane (R469, R470) -/

/-- The bytes of a plane. -/
def planeBytes (p : Sparse Word) : List Byte := wordBytes 65536 p

/-- A START of a Cairn write. -/
def State.cairnStart (s : State) : State := s.onNvm fun v => { v with cairnOpen := true, cairnBuf := [], cairnCount := 0 }

/-- The next word of the plane; further words than 65,536 are discarded (R469). -/
def State.cairnData (s : State) (w : Word) : State :=
  s.onNvm fun v =>
    if v.cairnOpen && decide (v.cairnCount < 65536) then
      { v with cairnBuf := sset 0 v.cairnCount w v.cairnBuf, cairnCount := v.cairnCount + 1 } else v

/-- A COMMIT of a Cairn write (R469): the word count, then the CRC; then the plane goes through the journal (R455). -/
def State.cairnCommit (s : State) : State :=
  let v := s.nvm
  let result := fun c => s.onNvm fun v => { v with cairnCode := c, cairnValid := true, cairnFresh := true }
  if !v.cairnOpen || v.cairnCount ≠ 65536 then result stBadLen
  else if crc32 (planeBytes v.cairnBuf) ≠ v.cairnCrc.toNat then result stBadSig
  else if s.unitFenced 9 then result stFenced
  else if s.pwr.noNewStore then s
  else s.onNvm fun v =>
    { v with journal := some (v.cairnBuf, { palette := v.pal, crc := v.cairnCrc }), cairnValid := false, cairnFresh := false, cairnOpen := false }

/-- The home of a committed journal entry is written, and the entry erased (R455). -/
def Nvm.replay (v : Nvm) : Nvm :=
  match v.journal with
  | none => v
  | some (p, h) => { v with plane := p, planeBad := false, cairnHdr := (v.cairnHdr.store cairnLayout h 1).eraseNext cairnLayout, journal := none }

/-- The stored plane is valid: its header is, and the CRC matches (R469). -/
def Nvm.planeValid (v : Nvm) : Bool :=
  !v.planeBad && match v.cairnHdr.newest cairnLayout with | some c => crc32 (planeBytes v.plane) == c.body.crc.toNat | none => false

/-- A Cairn write is over (R455, R469): its home and header are written, or it has failed. -/
def State.cairnDone (s : State) (ok : Bool) : State :=
  if s.nvm.journal.isNone then s
  else if ok then
    s.onNvm fun v =>
      let v1 := v.replay
      { v1 with planeOk := v1.planeValid, cairnCode := stOk, cairnValid := true, cairnFresh := true, reload := true }
  else ((s.onNvm fun v => { v with journal := none, cairnCode := s.failCode, cairnValid := true, cairnFresh := true }).takeFree).raise 0xD1 0

/-- The renderer loads the plane into SRAM (R470). -/
def State.loadPlane (s : State) : State :=
  let v := s.nvm
  (s.onRings fun u =>
    { u with
      sram := v.plane, sramOk := v.planeOk
      sramCrc := match v.cairnHdr.newest cairnLayout with | some c => c.body.crc | none => 0
      palette := match v.cairnHdr.newest cairnLayout with | some c => c.body.palette | none => List.replicate 9 0 }).onNvm fun v => { v with reload := false }

end Sys2Proof.Machine
end

