-- ==== Sys2Proof/Machine/Blocks.lean ====
section
/-!
DEFINITION. Sys2Proof/Machine/Blocks.lean: what the lanes of a port send on their own: TRAIN blocks, the block stream and test patterns, by
the clock (R264, R272, R273, R285).
-/

namespace Sys2Proof.Machine

/-- STATE of a port’s TRAIN blocks (R273). -/
def PortState.trainState : PortState → Nat
  | .detect => 1 | .rate => 2 | .eq => 3 | _ => 4

/-- RATE_SEL (R273, R275): the rate that this side computes from both sides’ START and FAILS. -/
def State.rateSel (s : State) (p : Port) : Nat :=
  let l := s.link p
  (bestRate (max (s.startRate p) l.partnerStart) fun r =>
    decide (l.fails.getD r 0 < 3) && decide (fld (BitVec.ofNat 32 l.partnerFails.toNat) (2 * r + 1) (2 * r) < 3)).getD 2

/-- Bits [55:0] of the TRAIN block that a lane sends next (R273). -/
def State.trainWord (s : State) (p : Port) (lane : Nat) : Nat :=
  let l := s.link p
  let x := l.lanes.getD lane {}
  let n := l.st.trainState
  0x55 + n * 2 ^ 8 + b2n (l.partnerState == n) * 2 ^ 11 + b2n l.eqDone * 2 ^ 12 + lane * 2 ^ 13 + portNo p * 2 ^ 15
    + s.startRate p % 4 * 2 ^ 17 + (l.fails.getD 0 0 % 4 + l.fails.getD 1 0 % 4 * 4 + l.fails.getD 2 0 % 4 * 16) * 2 ^ 19
    + l.healthyMask.toNat * 2 ^ 25 + s.rateSel p * 2 ^ 29 + x.eqReq.toNat * 2 ^ 32 + x.eqStat.toNat * 2 ^ 36
    + s.wall.id.toNat * 2 ^ 40 + x.trainSeq.toNat * 2 ^ 52

/-- The TRAIN block that a lane sends next, with its CHECK (R273). -/
def State.trainBlock (s : State) (p : Port) (lane : Nat) : Block :=
  let v := s.trainWord p lane
  mkBlock 2 (BitVec.ofNat 64 (v + crc8 (leBytes 7 v) * 2 ^ 56))

/-- The lanes on which a port sends TRAIN: every unfenced one in DETECT and RATE, the used ones in EQ (R260, R272). -/
def Link.trainLanes (l : Link) : List Nat := if l.st == .eq then l.usedLanes else (List.range 4).filter fun i => (l.lanes.getD i {}).open_

/-- One block slot of a port (R272): TRAIN blocks while it trains, the block stream in ALIGN and ACTIVE. -/
def State.portSlot (s : State) (p : Port) : State :=
  let l := s.link p
  match l.st with
  | .detect | .rate | .eq =>
    s.onLink p fun _ =>
      if l.held.isEmpty then
        { l with lanes := l.trainLanes.foldl (fun ls i => upd ls i fun x => { x with trainSeq := x.trainSeq + 1 }) l.lanes }.slot
          (l.trainLanes.map fun i => (i, s.trainBlock p i))
      else l.slot l.held
  | .align | .active => s.onLink p Link.streamSlot
  | _ => s

/-- `n` pattern bits of a generator, in the order sent, and the lane after them. -/
def Lane.pattern (pat : Nat) : Nat → Lane → List Bool × Lane
  | 0, x => ([], x)
  | n + 1, x =>
    let q := x.prbsBit pat
    let r := Lane.pattern pat n q.2
    (q.1 :: r.1, r.2)

/-- One lane of a port in TEST in one CORE cycle, `n` bits (R285): a selected generator sends its pattern, and in near-end loopback the
lane’s own checker receives it; in far-end loopback the generators are off. -/
def Lane.testCycle (test : Word) (now n lane : Nat) (x : Lane) : Lane :=
  if fld test (7 + lane) (7 + lane) = 1 ∧ fld test 4 3 ≠ 2 then
    let q := Lane.pattern (fld test 2 1) n x
    let y := { q.2 with out := BitVec.ofNat 66 (q.1.foldr (fun b a => b2n b + 2 * a) 0) }
    if fld test 4 3 = 1 ∧ fld test (11 + lane) (11 + lane) = 1 then y.checkAll (fld test 2 1) now q.1 else y
  else x

/-- One block of 66 bits at 12.8 Gbit/s, in 2^-16 ns (R259). -/
def blockTime : Nat := 337920

/-- A port in the CORE cycle that ends at local time `now` (R272, R285): in TEST each lane sends 16 bits at 12.8 Gbit/s, and fewer at a
lower rate; else a block slot that ends with the cycle sends its blocks. In EQ the receiver is done after a free time of at most 40 ms
(R279; log entry 8). -/
def State.portCycle (s : State) (p : Port) (was now : Nat) : State :=
  let l := s.link p
  if l.st == .test then
    s.onLink p fun l => { l with lanes := l.lanes.mapIdx fun i x => x.testCycle l.test now (16 / 2 ^ l.rate) i }
  else
    let s1 := if l.st == .eq && !l.eqDone then
        (s.onLink p fun l =>
          { l with eqDone := (Config.freeWord s.free).getLsbD 0 || decide (l.eqAt + 40000000 * 65536 ≤ now) }).takeFree
      else s
    let slot := blockTime * 2 ^ l.rate
    if was / slot < now / slot then s1.portSlot p else s1

end Sys2Proof.Machine
end

