-- ==== Sys2Proof/Machine/Frames.lean ====
section
/-!
DEFINITION. Sys2Proof/Machine/Frames.lean: forwarding, egress, the tile map, tile IDs, stream landing and UPDATE frames
(chapter 10; R45 to R48, R355, R462).
-/

namespace Sys2Proof.Machine

/-! ### Forwarding (R294) -/

/-- What a tile does with a frame (R294): whether it delivers it, and the port, if any, on which it goes on, with the flag of a
turn; MISROUTE. -/
structure Fate where
  deliver : Bool
  out : Option (Port × Bool)
  misroute : Bool := false
  deriving DecidableEq, Repr

/-- The decision of R294 on a frame with a good header that arrives on port `p`. -/
def State.fate (s : State) (p : Port) (h : BitVec 128) : Fate :=
  let oth := otherPort p
  let dest := hDest h
  let own := s.wall.id.toNat
  if dest = 0xFFF then { deliver := true, out := some (oth, false) }
  else if dest = own ∧ own ≠ 0 then { deliver := true, out := none }
  else if dest = 0 then { deliver := own = 0, out := some (oth, false) }
  else
    let out := s.outPort dest
    if out = p ∨ !s.active out then
      if hTurned h then { deliver := false, out := none, misroute := true } else { deliver := false, out := some (p, true) }
    else { deliver := false, out := some (out, false) }

/-- HCRC, TYPE, CLASS and LEN of a header are good (R290 to R293). -/
def hdrOk (h : BitVec 128) : Bool :=
  hcrcOf h == hCrc h && classOf (hType h) == some (hClass h) && decide (hLen h ≤ 9216)

/-- The payload rate of a port in units that compare (R261): lanes times line rate. -/
def Link.speed (l : Link) : Nat := l.width * 4 / 2 ^ l.rate

/-- A frame passed on (fwd of R294): HOPS one higher, HCRC formed again; a frame at HOPS 4,095 is discarded. -/
def State.fwd (s : State) (from_ out : Port) (turned : Bool) (h : BitVec 128) : State :=
  if hHops h = 4095 then s.onLink out fun l => { l with hopDrops := inc 8 l.hopDrops }
  else
    let h1 := setBits128 h 47 36 (hHops h + 1)
    let h2 := fixHcrc (if turned then setBits128 h1 35 35 1 else h1)
    s.enqueue out { frame := { hdr := h2, payload := [] }, cls := hClass h, size := 20 + hLen h, forwarded := true, at_ := s.time.local_
                    cut := (s.link out).speed ≤ (s.link from_).speed, whole := false, departure := false }

/-- FORWARDING_DECISION (R294): the header of a frame has arrived on `p`. The key slot of a STREAM frame is the one that stands
now (R357). -/
def execForwardingDecision (p : Port) (hdr : BitVec 128) (s : State) : Host.Outcome State Fault Refusal :=
  if !s.active p then .next s
  else
    let s1 := (s.endArriving p).onLink p fun l => { l with rxFrames := inc 16 l.rxFrames }
    if !hdrOk hdr then done (s1.onLink p fun l => { l with badhdr := inc 8 l.badhdr })
    else
      let f := s.fate p hdr
      let s2 := if f.misroute then s1.onLink p fun l => { l with misroute := inc 8 l.misroute } else s1
      let s3 := match f.out with
        | none => s2
        | some (out, turned) =>
          (if turned then s2.onLink p fun l => { l with turned := inc 8 l.turned } else s2).fwd p out turned hdr
      done (s3.onLink p fun l =>
        { l with arriving := some { frame := { hdr := hdr, payload := [] }, deliver := f.deliver, out := f.out.map (·.1)
                                    slot := if hType hdr = 1 then s.keySlot (fld (s.ctx (hCtx hdr)).w0 15 8) else none } })

/-- The copy of a frame takes the payload that has arrived (R299). -/
def fillCopy (h : BitVec 128) (payload : List Byte) (q : QFrame) : QFrame :=
  if isCopy h q then { q with frame := { q.frame with payload := payload }, whole := true } else q

/-- FRAME_TRAILER (R290, R292, R300): the last byte of the frame that arrives on `p`. A copy on the line has sent the bytes that arrived. -/
def execFrameTrailer (p : Port) (payload : List Byte) (trailer : Word) (s : State) : Host.Outcome State Fault Refusal :=
  match (s.link p).arriving with
  | none => .next s
  | some a =>
    let f : Frame := { a.frame with payload := payload }
    if payload.length ≠ hLen a.frame.hdr then done ((s.onLink p fun l => { l with badhdr := inc 8 l.badhdr }).cutOffAt p payload)
    else if trailer.toNat ≠ trailerOf f then
      done ((s.onLink p fun l =>
        if (~~~trailer).toNat = trailerOf f then { l with stomped := inc 8 l.stomped } else { l with crcErrs := inc 8 l.crcErrs }).cutOffAt p payload)
    else
      let s1 := match a.out with
        | none => s
        | some o => s.onLink o fun l =>
          { l with queue := l.queue.map (fillCopy a.frame.hdr payload), onLine := l.onLine.map (fillCopy a.frame.hdr payload) }
      let t := hType a.frame.hdr
      done (s1.onLink p fun l =>
        { l with
          arriving := none
          delivered := if a.deliver then some (f, a.slot) else l.delivered
          discarded := if a.deliver && (t == 0x03 || t == 0x06 || t == 0x07) then l.discarded + 1 else l.discarded })

/-! ### Egress (R298) -/

/-- A queued frame can start: it has arrived whole, or it may cut through (R299). -/
def QFrame.ready (q : QFrame) : Bool := q.whole || q.cut

/-- The frame at place `i` of a queue may start: it is ready, and the first of its class, since frames of one class leave in the order in
which they were queued (R298); the departure frame goes ahead of the others (R306). -/
def mayStart (q : List QFrame) (i : Nat) : Bool :=
  match q[i]? with
  | none => false
  | some f => f.ready && (f.departure || !(q.take i).any fun x => x.cls == f.cls && !x.departure)

/-- The place in the queue of the frame that starts next (R298, R306). -/
def nextFrame (now : Nat) (q : List QFrame) : Option Nat :=
  let first := fun (p : QFrame → Bool) => (List.range q.length).find? fun i => mayStart q i && q[i]?.any p
  let low := fun (f : QFrame) => decide (2 ≤ f.cls)
  (first fun f => f.cls == 0).orElse fun _ =>
  (first fun f => f.cls == 1).orElse fun _ =>
  (first fun f => low f && f.departure).orElse fun _ =>
  (first fun f => low f && decide (1000000 * 65536 ≤ now - f.at_)).orElse fun _ =>
  (first fun f => f.cls == 2).orElse fun _ =>
  (first fun f => f.cls == 3).orElse fun _ =>
  (first fun f => f.cls == 4).orElse fun _ => first fun f => f.cls == 5

/-- A PDELAY_REQ of the tile’s own (R322). -/
def isPdelayReq (q : QFrame) : Bool := !q.forwarded && hType q.frame.hdr == 0x04 && leAt q.frame.payload 0 1 == 3

/-- The blocks of the frame that leaves the line go to the lanes (R264). -/
def Link.lineDone (l : Link) : Link :=
  { l with txBlocks := l.txBlocks ++ (l.onLine.map fun q => blocksOf (lineBytes q.frame l.lineStomped)).getD [] }

/-- EGRESS_SEND (R298): the line of a port is free, and the next frame starts; the departure of a PDELAY_REQ is stamped (R322). -/
def execEgressSend (p : Port) (s : State) : Host.Outcome State Fault Refusal :=
  let l := (s.link p).lineDone
  if l.st != .active || l.onLine.any (fun q => !q.whole) then .next s
  else match nextFrame s.time.local_ l.queue with
    | none => .next (s.onLink p fun _ => { l with onLine := none, lineStomped := false })
    | some i =>
      done (s.onLink p fun _ =>
        { l with
          queue := l.queue.eraseIdx i, onLine := l.queue[i]?, lineStomped := false, txFrames := inc 16 l.txFrames
          pdPending := if l.queue[i]?.any isPdelayReq then l.pdPending.map fun r => { r with t1 := stamp s.time.local_ } else l.pdPending })

/-! ### The tile map (R301 to R308) -/

/-- Fields of a MAP payload (R302). -/
def frCount (f : Frame) : Nat := leAt f.payload 2 2
def frEpoch (f : Frame) : BitVec 32 := BitVec.ofNat 32 (leAt f.payload 4 4)
def frGen (f : Frame) : BitVec 32 := BitVec.ofNat 32 (leAt f.payload 8 4)
def frId (f : Frame) : Nat := leAt f.payload 0xC 2
def frUid (f : Frame) : BitVec 128 := BitVec.ofNat 128 (leAt f.payload 0x10 16)

/-- An entry that a LOAD carries (R301, R302). -/
def frEntry (f : Frame) (i : Nat) : BitVec 128 := BitVec.ofNat 128 (leAt f.payload (40 + 16 * i) 16)

/-- The head-end fields of an entry; all its other bits zero (R301). -/
def headFields (e : BitVec 128) : BitVec 128 := e &&& BitVec.ofNat 128 ((2 ^ 14 - 1) + (2 ^ 58 - 2 ^ 16) + (2 ^ 128 - 2 ^ 96))

/-- An entry that LOAD writes is in range (R301): TILE_ID is its index when it is not empty and 0 when it is; IDs 0 and 0xFFF are
empty. KIND 3 is refused at DONE (R303). -/
def entryOk (id : Nat) (e : BitVec 128) : Bool :=
  if mKind e = 0 then bits128 e 11 0 == 0 else bits128 e 11 0 == id && id != 0 && id != 0xFFF

/-- The fields of a MAP payload are in range for its KIND (R302). -/
def mapFieldsOk (f : Frame) : Bool :=
  let kind := leAt f.payload 0 1
  let n := (frCount f)
  leAt f.payload 1 1 == 0 && leAt f.payload 0xF 1 == 0 && (kind == 1 || leAt f.payload 0xE 1 == 0) && decide ((frId f) ≤ 0xFFF)
    && (if kind = 4 then decide (1 ≤ n ∧ n ≤ 573) && f.payload.length == 40 + 16 * n && decide ((frId f) + n ≤ 0x1000)
          && (List.range n).all fun i => entryOk ((frId f) + i) (frEntry f i)
        else f.payload.length == 40 && (kind == 5 || n == 0))
    && (kind != 3 || decide (1 ≤ (frId f) ∧ (frId f) ≤ 0xFFE))

/-- A MAP frame that is dropped (R302, R314); DETAIL is the port. -/
def State.mapReject (s : State) (p : Port) : State :=
  (s.onWall fun w => { w with mapRejects := inc 16 w.mapRejects }).raise 0x26 (portNo p)

/-- A delivered MAP frame of one KIND (R302): range, then tag; a frame whose KIND is none of the five is rejected by whichever row
carries it. -/
def State.mapFrame (s : State) (p : Port) (f : Frame) (kind : Nat) (body : State → State) : Host.Outcome State Fault Refusal :=
  let k := leAt f.payload 0 1
  if !s.gets p f || hType f.hdr ≠ 0x09 then .next s
  else if k ≠ kind then (if 1 ≤ k ∧ k ≤ 5 then .next s else done (s.mapReject p))
  else if !mapFieldsOk f then done (s.mapReject p)
  else if !(if kind ≤ 2 then s.annTagOk 0x02 f 0x20 else s.cmdTagOk 0x02 f 0x20) then done (s.tagFailed.mapReject p)
  else done (body s)

/-- ANNOUNCE as one broadcast on both ports (R304). -/
def State.announceBoth (s : State) : State :=
  let payload := s.tagAnn 0xFFF 0x09 0x02 (mapPayload 1 0 s.cmd.wallEpoch 0 s.wall.id s.stateByte s.col.ident.uid)
  let (f, s1) := s.ownFrame 0xFFF 0x09 payload
  (s1.sendFrame .a f false false).sendFrame .b f false false

/-- DEPART queued on both ports ahead of classes 2 to 5 (R306): the departure frame. -/
def State.sendDepart (s : State) : State :=
  let payload := s.tagAnn 0xFFF 0x09 0x02 (mapPayload 2 0 s.cmd.wallEpoch 0 s.wall.id 0 s.col.ident.uid)
  let (f, s1) := s.ownFrame 0xFFF 0x09 payload
  (s1.sendFrame .a f false true).sendFrame .b f false true

/-- ANNOUNCE_SEND (R304, R307): every 100 ms, by a tile that holds an ID, and in JOIN also without one. -/
def execAnnounceSend (s : State) : Host.Outcome State Fault Refusal :=
  if s.announces && s.running && (s.active .a || s.active .b) then done s.announceBoth else .next s

/-- ANNOUNCE received (R304, R308): DIR, HOPS and SEEN of the sender’s entry, and PATH_DELAY, whose measurement the spec does not give, so
that it is a free value (R301; log entry 8); the head-end hops; a conflict of tile IDs, with the
port as DETAIL. -/
def execAnnounce (p : Port) (f : Frame) (s : State) : Host.Outcome State Fault Refusal :=
  s.mapFrame p f 1 fun s0 =>
    let h := min 0xFFF (hHops f.hdr + 1)
    let s := s0.takeFree
    let head := mKind (s.mapEntry (frId f)) = 2
    let s1 := s.onMap (frId f) fun e =>
      setBits128 (setBits128 (setBits128 (setBits128 e 59 58 (dirOf p)) 75 64 h) 91 76 (Config.freeWord s0.free).toNat) 15 14 1
    let s2 := if head then s1.onWall fun w => w.setHops p h else s1
    if (frId f) = s.wall.id.toNat ∧ (frId f) ≠ 0 ∧ (frUid f) ≠ s.col.ident.uid then s2.raise 0x25 (portNo p) else s2

/-- An entry goes to DIR_VIA with SEEN `seen`; a change counts, and IDs 0 and 0xFFF have no entry to change (R301, R305). -/
def State.mapLose (s : State) (id seen : Nat) : State :=
  let e := s.mapEntry id
  let e1 := setBits128 (mapVia e) 15 14 seen
  if e1 = e ∨ id = 0 ∨ 0xFFF ≤ id then s else (s.onMap id fun _ => e1).onWall fun w => { w with changes := inc 16 w.changes }

/-- DEPART received (R305). -/
def execDepart (p : Port) (f : Frame) (s : State) : Host.Outcome State Fault Refusal := s.mapFrame p f 2 fun s => s.mapLose (frId f) 2

/-- ENTRY_STALE (R305): no ANNOUNCE from a FRESH entry for 350 ms. -/
def execEntryStale (id : BitVec 12) (s : State) : Host.Outcome State Fault Refusal :=
  if mSeen (s.mapEntry id.toNat) = 1 && s.running then done (s.mapLose id.toNat 3) else .next s

/-- ASSIGN (R307): taken in every state when TILE_UID is this tile’s; the ID and the wall epoch are stored, a new epoch sets STALE
(R28), and the tile announces itself. A change of ID ends TILE_ID_CONFLICT. -/
def execAssign (p : Port) (f : Frame) (s : State) : Host.Outcome State Fault Refusal :=
  s.mapFrame p f 3 fun s =>
    if (frUid f) ≠ s.col.ident.uid then s
    else
      let s1 := if (frId f) ≠ s.wall.id.toNat then s.endSrc 0x25 else s
      let s2 := s1.onEng fun e => { e with stale := e.stale || (frEpoch f) != s.cmd.wallEpoch }
      let s3 := (s2.onCmd fun c => { c with wallEpoch := (frEpoch f) }).onWall fun w =>
        { w with id := BitVec.ofNat 12 (frId f), assigned := some (frEpoch f) }
      s3.startSettings.announceBoth

/-- LOAD (R303): entries go into the pending map of its generation. -/
def execLoad (p : Port) (f : Frame) (s : State) : Host.Outcome State Fault Refusal :=
  s.mapFrame p f 4 fun s => s.onWall fun w =>
    let base := if w.pendGen = some (frGen f) then w.pend else []
    { w with
      pendGen := some (frGen f)
      pend := (List.range (frCount f)).foldl (fun m i => sset 0 ((frId f) + i) (headFields (frEntry f i)) m) base }

/-- The entry of an ID that a new map lists (R303): engine fields survive; those of an ID never reached have HOPS unknown. -/
def mergeEntry (old new : BitVec 128) : BitVec 128 :=
  let eng := old &&& ~~~(headFields (BitVec.allOnes 128))
  new ||| (if mSeen eng = 0 && mDir eng = 0 then setBits128 eng 75 64 0xFFF else eng)

/-- DONE (R303): the pending map replaces the head-end fields of the whole map in one step, or is discarded. -/
def execDone (p : Port) (f : Frame) (s : State) : Host.Outcome State Fault Refusal :=
  s.mapFrame p f 5 fun s =>
    let w := s.wall
    let held := w.pend.filter fun e => mKind e.2 != 0
    let clear := fun (w : Wall) => { w with pend := [], pendGen := none }
    if w.pendGen = some (frGen f) ∧ held.length = (frCount f) ∧ (held.all fun e => mKind e.2 != 3) = true then
      s.onWall fun w =>
        { clear w with
          map := held.map fun e => (e.1, mergeEntry (sget 0 e.1 w.map) e.2)
          gen := (frGen f), mapOk := true, doneEpoch := some (frEpoch f) }
    else (s.onWall clear).mapReject p

/-! ### Stream landing (R45 to R48, R312) -/

/-- A descriptor field of a layer (R34). -/
def LayerWords.enable (d : LayerWords) : Bool := d.w0.getLsbD 0
def LayerWords.pinned (d : LayerWords) : Bool := d.w0.getLsbD 1
def LayerWords.pinBuf (d : LayerWords) : Nat := fld d.w0 3 2
def LayerWords.context (d : LayerWords) : Nat := fld d.w1 7 0

/-- Buffer `b` of context `n` is pinned by an active or pending descriptor (R46); a descriptor that is not enabled pins nothing (DEDUCED,
log entry 73). -/
def State.bufPinned (s : State) (n b : Nat) : Bool :=
  let pins := fun (d : LayerWords) => d.enable && d.pinned && d.context == n && d.pinBuf == b
  s.comp.layers.any (fun l => pins l.active) || s.comp.pending.any fun c => c.layers.any pins

/-- Buffer `b` of context `n` is locked (R47): an active layer shows it. -/
def State.bufLocked (s : State) (n b : Nat) : Bool :=
  s.comp.layers.any fun l =>
    l.active.enable && l.active.context == n && l.shownValid && (l.lstate == .showing || l.lstate == .holding) && l.shownBuf == b

/-- How recent a buffer’s content is, for the choice of the oldest (R46): a buffer without a complete frame is the oldest. -/
def Buf.age (b : Buf) (newest : BitVec 32) : Int := if b.complete then (b.frame - newest).toInt + 2 ^ 32 else 0

/-- The buffer in which a new frame lands (R46); of equally old ones the lowest-numbered (DESIGN CHOICE, log entry 73). -/
def State.chooseBuf (s : State) (n : Nat) : Option Nat :=
  let c := s.ctx n
  let free := (List.range (fld c.w0 3 1)).filter fun b =>
    !s.bufLocked n b && !s.bufPinned n b && !(c.hasNewest && c.newestBuf == b)
  free.foldl (fun best b => match best with
    | none => some b
    | some a => if (c.bufs.getD b {}).age c.newest < (c.bufs.getD a {}).age c.newest then some b else some a) none

/-- A frame lost in landing is counted (R46, R48). -/
def State.landDrop (s : State) (n : Nat) : State :=
  (s.onComp fun c => { c with drops := inc 16 c.drops, lastCtx := n }).onCtx n fun c => { c with drops := inc 16 c.drops }

/-- The frame in progress is abandoned and its buffer freed (R48, R311); a frame already dropped counts once. -/
def State.abandonFrame (s : State) (n : Nat) : State :=
  match (s.ctx n).land with
  | none => s
  | some l => (if l.dropped then s else s.landDrop n).onCtx n fun c => { c with land := none }

/-- Landing starts a new frame (R46); without a buffer the whole frame is dropped and LAND_DROP raised, the context as DETAIL. -/
def State.startFrame (s : State) (n : Nat) (frame : BitVec 32) : State :=
  match s.chooseBuf n with
  | some b => s.onCtx n fun c =>
      { c with land := some { frame := frame, buf := b, ranges := [], last := none, dropped := false }
               bufs := upd c.bufs b fun x => { x with frame := frame, complete := false } }
  | none =>
    ((s.landDrop n).raise 0x42 n).onCtx n fun c =>
      { c with land := some { frame := frame, buf := 0, ranges := [], last := none, dropped := true } }

/-- How far the byte ranges cover from `x` on. -/
def coverTo (ranges : List (Nat × Nat)) : Nat → Nat → Nat
  | 0, x => x
  | k + 1, x => coverTo ranges k (ranges.foldl (fun a r => if r.1 ≤ a ∧ a < r.2 then r.2 else a) x)

/-- A landing frame is complete (R45): its last payload has landed and every byte up to its end. -/
def Land.complete (l : Land) : Bool :=
  match l.last with | none => false | some e => decide (e ≤ coverTo l.ranges l.ranges.length 0)

/-- LAYER_READY fires for a context of an enabled layer selected in TUM_LRDY (R227). -/
def State.layerReady (s : State) (n : Nat) : Bool :=
  (List.range 16).any fun i => s.tum.lrdy.getLsbD i && (s.layer i).active.enable && (s.layer i).active.context == n

/-- The frame in progress has landed whole (R45); one that is not newer than the newest complete frame is discarded (R48). -/
def State.frameComplete (s : State) (n : Nat) (l : Land) : State :=
  let c := s.ctx n
  if c.hasNewest && !newer32 l.frame c.newest then s.onCtx n fun c => { c with land := none }
  else
    let s1 := s.onCtx n fun c =>
      { c with land := none, newest := l.frame, newestBuf := l.buf, hasNewest := true, landed := c.landed + 1
               bufs := upd c.bufs l.buf fun x => { x with frame := l.frame, complete := true } }
    if s.layerReady n then s1.fire 10 else s1

/-- One accepted payload lands (R45 to R48). A payload of an older frame than the one in progress is discarded. -/
def State.land (s : State) (n : Nat) (frame : BitVec 32) (off : Nat) (last : Bool) (data : List Byte) : State :=
  let go := fun (s : State) =>
    match (s.ctx n).land with
    | none => s
    | some l =>
      if l.dropped then s
      else
        let c := s.ctx n
        let l1 := { l with ranges := (off, off + data.length) :: l.ranges, last := if last then some (off + data.length) else l.last }
        let s1 := (s.dramStore (c.base.toNat - 0x80000000 + l.buf * c.stride.toNat + off) data).onCtx n fun c => { c with land := some l1 }
        if l1.complete then s1.frameComplete n l1 else s1
  match (s.ctx n).land with
  | none => go (s.startFrame n frame)
  | some l =>
    if l.frame = frame then go s
    else if newer32 frame l.frame then go ((s.abandonFrame n).startFrame n frame)
    else s

/-- STREAM (R312, R357 to R359): a delivered STREAM frame; the first failing step drops it. The key slot is the one kept since its
START block. -/
def execStream (p : Port) (f : Frame) (s : State) : Host.Outcome State Fault Refusal :=
  if !s.gets p f || hType f.hdr ≠ 0x01 then .next s
  else
    let n := hCtx f.hdr
    let c := s.ctx n
    let noCtx := s.onWall fun w => { w with noCtx := inc 16 w.noCtx }
    let dropped := fun (s : State) => s.onCtx n fun c => { c with drops := inc 16 c.drops }
    let bad := (s.onCtx n fun c => { c with authFails := inc 16 c.authFails }).raise 0x27 (portNo p)
    let slot := match (s.link p).delivered with
      | some (g, k) => if g = f then k else s.keySlot (fld c.w0 15 8)
      | none => s.keySlot (fld c.w0 15 8)
    if !c.w0.getLsbD 0 || c.w0.getLsbD 4 then done noCtx
    else if fld c.w0 27 16 ≠ 0 ∧ fld c.w0 27 16 ≠ hSrc f.hdr then done noCtx
    else if s.unitFenced 3 then done (dropped s)
    else match slot with
      | none => done bad
      | some k =>
        match streamOpen k f with
        | none => done bad
        | some data =>
          match c.checkReplay k (BitVec.ofNat 32 (hSeq f.hdr)) with
          | none => done ((s.onCtx n fun c => { c with replays := inc 16 c.replays }).onWard fun w => { w with replays := inc 16 w.replays })
          | some c1 =>
            let s1 := s.onCtx n fun _ => c1
            let off := leAt f.payload 4 4
            if c.stride.toNat < off + data.length ∨ data.length = 0 then done (dropped s1)
            else done (s1.land n (BitVec.ofNat 32 (leAt f.payload 0 4)) off (f.payload.getD 8 0 |>.getLsbD 0) data)

/-! ### UPDATE frames (R355, R462) -/

/-- A SEQ continues the UPDATE frames accepted since UPDATE_START (R355). -/
def Ward.updSeqOk (w : Ward) (src : Nat) (seq : Nat) : Bool :=
  match w.updLast with
  | none => true
  | some (x, n) => x.toNat == src && (n + 1).toNat == seq

/-- UPDATE (R355, R462): Ward’s tag and sequence, then staging. A frame that staging drops has not been accepted, so its SEQ is
expected again (log entry 15). -/
def execUpdate (p : Port) (f : Frame) (s : State) : Host.Outcome State Fault Refusal :=
  let n := f.payload.length
  if !s.gets p f || hType f.hdr ≠ 0x08 then .next s
  else if !s.cmdTagOk 0x04 f (n - 8) then done (s.tagFailed.raise 0xB4 0)
  else if !s.ward.updSeqOk (hSrc f.hdr) (hSeq f.hdr) then
    done ((s.onWard fun w => { w with replays := inc 16 w.replays }).raise 0xB4 0)
  else
    let data := slice f.payload 8 (n - 16)
    if n < 20 ∨ 9192 < data.length ∨ data.length % 4 ≠ 0 ∨ leAt f.payload 4 4 ≠ 0 then done (s.onNvm fun v => { v with drops := inc 16 v.drops })
    else
      let (ok, s1) := s.stage (leAt f.payload 0 4) data
      if !ok then done s1
      else done ((s1.onWard fun w => { w with updLast := some (BitVec.ofNat 12 (hSrc f.hdr), BitVec.ofNat 32 (hSeq f.hdr)) }).onNvm fun v =>
        { v with nextSeq := BitVec.ofNat 32 (hSeq f.hdr + 1) })

end Sys2Proof.Machine
end

