-- ==== Sys2Proof/Machine/Compose.lean ====
section
/-!
DEFINITION. Sys2Proof/Machine/Compose.lean: descriptors, source formats, scaling, blending, visible spans, and the cost of a
configuration (chapter 2).
-/

namespace Sys2Proof.Machine

/-! ### Descriptor fields (R34) -/

def LayerWords.group (d : LayerWords) : Nat := fld d.w0 6 4
def LayerWords.premult (d : LayerWords) : Bool := d.w0.getLsbD 7
def LayerWords.cadence (d : LayerWords) : Nat := fld d.w0 11 8
def LayerWords.nHold (d : LayerWords) : Nat := fld d.w0 15 12
def LayerWords.format (d : LayerWords) : Nat := fld d.w0 17 16
def LayerWords.alphaMode (d : LayerWords) : Nat := fld d.w0 19 18
def LayerWords.scaleMode (d : LayerWords) : Nat := fld d.w0 21 20
def LayerWords.srcX (d : LayerWords) : Nat := fld d.w2 13 0
def LayerWords.srcY (d : LayerWords) : Nat := fld d.w2 29 16
def LayerWords.srcW (d : LayerWords) : Nat := fld d.w3 13 0
def LayerWords.srcH (d : LayerWords) : Nat := fld d.w3 29 16
def LayerWords.pitch (d : LayerWords) : Nat := fld d.w4 17 0
def LayerWords.dstX (d : LayerWords) : Int := ofSfield 13 (fld d.w5 12 0)
def LayerWords.dstY (d : LayerWords) : Int := ofSfield 13 (fld d.w5 28 16)
def LayerWords.dstW (d : LayerWords) : Nat := fld d.w6 13 0
def LayerWords.dstH (d : LayerWords) : Nat := fld d.w6 29 16
def LayerWords.alpha (d : LayerWords) : Nat := fld d.w7 9 0

/-- Word `i` of a descriptor. -/
def LayerWords.word (d : LayerWords) (i : Nat) : Word :=
  match i with
  | 0 => d.w0 | 1 => d.w1 | 2 => d.w2 | 3 => d.w3 | 4 => d.w4 | 5 => d.w5 | 6 => d.w6 | _ => d.w7

/-- The bits of word `i` that are not reserved (R34). -/
def layerMask (i : Nat) : Word :=
  match i with
  | 0 => 0x003FFFFF | 1 => 0xFF | 2 => 0x3FFF3FFF | 3 => 0x3FFF3FFF | 4 => 0x3FFFF | 5 => 0x1FFF1FFF | 6 => 0x3FFF3FFF | _ => 0x3FF

/-- A descriptor with word `i` written; reserved bits read zero. -/
def LayerWords.setWord (d : LayerWords) (i : Nat) (w : Word) : LayerWords :=
  let v := w &&& layerMask i
  match i with
  | 0 => { d with w0 := v } | 1 => { d with w1 := v } | 2 => { d with w2 := v } | 3 => { d with w3 := v }
  | 4 => { d with w4 := v } | 5 => { d with w5 := v } | 6 => { d with w6 := v } | _ => { d with w7 := v }

/-! ### Formats (R35, R36) -/

/-- Bytes per pixel. -/
def bpp (fmt : Nat) : Nat := if fmt = 0 then 2 else if fmt = 1 then 3 else 4

def c12From5 (v : Nat) : Nat := v <<< 7 ||| v <<< 2 ||| v >>> 3
def c12From6 (v : Nat) : Nat := v <<< 6 ||| v
def c12From8 (v : Nat) : Nat := v <<< 4 ||| v >>> 4
def c12From10 (v : Nat) : Nat := v <<< 2 ||| v >>> 8
def a10From8 (a : Nat) : Nat := a <<< 2 ||| a >>> 6
def a10From2 (a : Nat) : Nat := a * 341

/-- A component of a pixel value: 0 R, 1 G, 2 B at 12 bits, 3 alpha at 10 bits. -/
def pixelComp (fmt v c : Nat) : Nat :=
  let b := fun (hi lo : Nat) => (v >>> lo) % 2 ^ (hi + 1 - lo)
  if fmt = 0 then
    (if c = 0 then c12From5 (b 15 11) else if c = 1 then c12From6 (b 10 5) else if c = 2 then c12From5 (b 4 0) else 1023)
  else if fmt = 1 then
    (if c = 0 then c12From8 (b 23 16) else if c = 1 then c12From8 (b 15 8) else if c = 2 then c12From8 (b 7 0) else 1023)
  else if fmt = 2 then
    (if c = 0 then c12From8 (b 23 16) else if c = 1 then c12From8 (b 15 8) else if c = 2 then c12From8 (b 7 0) else a10From8 (b 31 24))
  else
    (if c = 0 then c12From10 (b 29 20) else if c = 1 then c12From10 (b 19 10) else if c = 2 then c12From10 (b 9 0) else a10From2 (b 31 30))

/-! ### Scaling (R38) -/

/-- How one destination index samples one axis: a box average, one sample, or an interpolation. -/
inductive AxisSample where
  | box (lo hi : Nat)
  | one (p : Nat)
  | lin (p0 p1 fr : Nat)
  deriving DecidableEq, Repr

/-- The pseudocode of R38 for one axis: `n` source size, `m` destination size, `i` destination index. -/
def axisSample (integer : Bool) (n m i : Nat) : AxisSample :=
  if m < n then .box (i * n / m) ((i + 1) * n / m - 1)
  else if integer then .one (i / (m / n))
  else
    let pos : Int := (((2 * i + 1) * n * 32768 / m : Nat) : Int) - 32768
    let clamp := fun (q : Int) => (clampI 0 ((n : Int) - 1) q).toNat
    .lin (clamp (pos / 65536)) (clamp (pos / 65536 + 1)) (if pos < 0 then 0 else (pos % 65536).toNat)

/-- The value of a sample, from the values of its source positions. -/
def AxisSample.value (x : AxisSample) (v : Nat → Nat) : Nat :=
  match x with
  | .box lo hi => ((List.range (hi + 1 - lo)).foldl (fun a j => a + v (lo + j)) 0 + (hi + 1 - lo) / 2) / (hi + 1 - lo)
  | .one p => v p
  | .lin p0 p1 fr => (v p0 * (65536 - fr) + v p1 * fr + 32768) / 65536

/-- The first and last source position that a sample needs; an interpolation with weight 0 on its second position needs the first
only (DEDUCED from the example of R68, log entry 19). -/
def AxisSample.lo (x : AxisSample) : Nat := match x with | .box lo _ => lo | .one p => p | .lin p0 _ _ => p0
def AxisSample.hi (x : AxisSample) : Nat := match x with | .box _ hi => hi | .one p => p | .lin p0 p1 fr => if fr = 0 then p0 else p1

def LayerWords.axisX (d : LayerWords) (i : Nat) : AxisSample := axisSample (d.scaleMode == 0) d.srcW d.dstW i
def LayerWords.axisY (d : LayerWords) (i : Nat) : AxisSample := axisSample (d.scaleMode == 0) d.srcH d.dstH i

/-- The layer’s destination covers a tile pixel (R39). -/
def LayerWords.covers (d : LayerWords) (x y : Nat) : Bool :=
  decide (d.dstX ≤ x ∧ (x : Int) < d.dstX + d.dstW ∧ d.dstY ≤ y ∧ (y : Int) < d.dstY + d.dstH)

/-- The offset, from the start of the DRAM, of a context’s buffer (R310, R313). -/
def Ctx.bufAt (c : Ctx) (b : Nat) : Nat :=
  if c.w0.getLsbD 4 then 0x2E00000 else c.base.toNat + b * c.stride.toNat - 0x80000000

/-- A component of a layer’s source pixel as scaled for a tile pixel that it covers: the vertical result of the horizontal results. -/
def State.layerComp (s : State) (d : LayerWords) (buf x y c : Nat) : Nat :=
  let base := (s.ctx d.context).bufAt buf
  let sample := fun (sy sx : Nat) =>
    pixelComp d.format (ofLe (s.dramBytes (base + (d.srcY + sy) * d.pitch + (d.srcX + sx) * bpp d.format) (bpp d.format))) c
  (d.axisY ((y : Int) - d.dstY).toNat).value fun sy => (d.axisX ((x : Int) - d.dstX).toNat).value (sample sy)

/-! ### Alpha and blending (R40, R41) -/

/-- The effective alpha. -/
def LayerWords.effAlpha (d : LayerWords) (a : Nat) : Nat :=
  if d.alphaMode = 0 then (a * d.alpha + 511) / 1023 else if d.alphaMode = 1 then d.alpha else 1023

/-- One component blended over what lies beneath. -/
def blend (v d e g : Nat) (pre : Bool) : Nat := min (((if pre then v * g else v * e) + d * (1023 - e) + 511) / 1023) 4095

/-- The components of the background (R41), in the order R, G, B. -/
def State.background (s : State) : List Nat :=
  [c12From10 (fld s.comp.bgActive 29 20), c12From10 (fld s.comp.bgActive 19 10), c12From10 (fld s.comp.bgActive 9 0)]

/-- The descriptor itself makes its layer opaque when displayed (R42). -/
def LayerWords.opaque (d : LayerWords) : Bool :=
  d.alphaMode == 2 || (d.alpha == 1023 && (d.alphaMode == 1 || (d.alphaMode == 0 && decide (d.format ≤ 1))))

/-- A layer is displayed (R42, R45, R49, R50): it shows a complete frame. -/
def Layer.displayed (l : Layer) : Bool := l.active.enable && l.shownValid && (l.lstate == .showing || l.lstate == .holding)

/-- One displayed layer blended over the three components beneath it. -/
def State.overlay (s : State) (l : Layer) (x y : Nat) (d : List Nat) : List Nat :=
  let e := l.active.effAlpha (s.layerComp l.active l.shownBuf x y 3)
  (List.range 3).map fun c =>
    blend (s.layerComp l.active l.shownBuf x y c) (d.getD c 0) e l.active.alpha (l.active.alphaMode == 0 && l.active.premult)

/-- A layer counted as opaque has gone transparent, and no other opaque layer covers the pixel: its uncovered area (R68). -/
def State.uncoveredBy (s : State) (i x y : Nat) : Bool :=
  let l := s.layer i
  s.comp.countedOpaque.getLsbD i && l.active.enable && l.lstate == .transparent && l.active.covers x y
    && !(s.comp.layers.any fun q => q.displayed && q.active.opaque && q.active.covers x y)

/-- The highest layer in whose uncovered area a pixel lies, when the recomputed cost did not fit (R68). -/
def State.cutAt (s : State) (x y : Nat) : Option Nat :=
  if s.comp.uncovered then ((List.range 16).filter fun i => s.uncoveredBy i x y).getLast? else none

/-- The signal value of a pixel, in the order R, G, B (R30, R32, R41, R68); the background alone while the composer is fenced (R417). -/
def State.compose (s : State) (x y : Nat) : List Nat :=
  if s.comp.bgOnly then s.background
  else
    let from_ := match s.cutAt x y with | some i => i | none => 0
    (List.range 16).foldl (fun d i =>
      let l := s.layer i
      if decide (from_ ≤ i) && l.displayed && l.active.covers x y then s.overlay l x y d else d) s.background

/-! ### Visible spans (R43) -/

/-- The clipped destination columns of a layer on a tile line, from start up to but not including end. -/
def LayerWords.span (d : LayerWords) (y : Nat) : Option (Nat × Nat) :=
  let x0 := max 0 d.dstX
  let x1 := min 1024 (d.dstX + d.dstW)
  if d.dstY ≤ y ∧ (y : Int) < d.dstY + d.dstH ∧ x0 < x1 then some (x0.toNat, x1.toNat) else none

/-- An interval without another. -/
def cutSpan (a b : Nat × Nat) : List (Nat × Nat) :=
  (if a.1 < min a.2 b.1 then [(a.1, min a.2 b.1)] else []) ++ (if max a.1 b.2 < a.2 then [(max a.1 b.2, a.2)] else [])

/-- Which layers of a configuration take part, and whether each is counted as opaque. -/
abbrev LayerSet := List (Nat × LayerWords × Bool)

/-- The visible spans of layer `i` on a line. -/
def visible (ls : LayerSet) (i : Nat) (d : LayerWords) (y : Nat) : List (Nat × Nat) :=
  match d.span y with
  | none => []
  | some sp => ls.foldl (fun acc q =>
      if decide (i < q.1) && q.2.2 then match q.2.1.span y with
        | some b => acc.flatMap fun a => cutSpan a b
        | none => acc
      else acc) [sp]

/-- A list of intervals sorted by start, by insertion. -/
def insSpan (a : Nat × Nat) : List (Nat × Nat) → List (Nat × Nat)
  | [] => [a]
  | b :: l => if a.1 ≤ b.1 then a :: b :: l else b :: insSpan a l

/-- How many numbers lie in the union of sorted intervals, from `at_` on. -/
def unionSize : Nat → List (Nat × Nat) → Nat
  | _, [] => 0
  | at_, a :: l => (a.2 - max at_ a.1) + unionSize (max at_ a.2) l

/-- How many numbers lie in the union of intervals. -/
def spanUnion (l : List (Nat × Nat)) : Nat := unionSize 0 (l.foldr insSpan [])

/-- The destination lines of a layer that lie on the tile. -/
def LayerWords.lines (d : LayerWords) : List Nat := (List.range 1024).filter fun y => (d.span y).isSome

/-- What the visible spans of a layer need of one source line: per span the source columns (R38). -/
def neededOn (ls : LayerSet) (i : Nat) (d : LayerWords) (sy : Nat) : List (Nat × Nat) :=
  d.lines.flatMap fun (y : Nat) =>
    let a := d.axisY ((y : Int) - d.dstY).toNat
    if a.lo ≤ sy ∧ sy ≤ a.hi then
      (visible ls i d y).map fun sp =>
        ((d.axisX ((sp.1 : Int) - d.dstX).toNat).lo, (d.axisX ((sp.2 : Int) - 1 - d.dstX).toNat).hi + 1)
    else []

/-- The 64 B bursts of a source line that a range of source columns needs (R65). -/
def burstsOf (d : LayerWords) (a : Nat × Nat) : Nat × Nat :=
  ((d.srcX + a.1) * bpp d.format / 64, ((d.srcX + a.2) * bpp d.format + 63) / 64)

/-- The bytes that a layer fetches each frame (R65). -/
def fetchBytes (ls : LayerSet) (i : Nat) (d : LayerWords) : Nat :=
  (List.range d.srcH).foldl (fun n sy => n + 64 * spanUnion ((neededOn ls i d sy).map (burstsOf d))) 0

/-- The source pixels that a layer fetches each frame (R66). -/
def fetchPx (ls : LayerSet) (i : Nat) (d : LayerWords) : Nat :=
  (List.range d.srcH).foldl (fun n sy => n + spanUnion (neededOn ls i d sy)) 0

/-- The visible destination pixels of a layer (R43, R66). -/
def visiblePx (ls : LayerSet) (i : Nat) (d : LayerWords) : Nat :=
  d.lines.foldl (fun n y => n + spanUnion (visible ls i d y)) 0

/-- The pixel cost of a layer (R66). -/
def layerPx (ls : LayerSet) (i : Nat) (d : LayerWords) : Nat := max (visiblePx ls i d) (fetchPx ls i d)

/-! ### The budget (R64 to R67) -/

/-- The layers of a configuration as admission counts them: every enabled layer, opaque as its descriptor says (R67). -/
def admittedSet (ds : List LayerWords) : LayerSet :=
  (List.range 16).filterMap fun i =>
    let d := ds.getD i {}
    if d.enable then some (i, d, d.opaque) else none

/-- The landing bytes per frame of a configuration, times 360,360 (R65): each context once, by the smallest nonzero CADENCE of its
live layers. -/
def State.landing (s : State) (ds : List LayerWords) : Nat :=
  (List.range 256).foldl (fun n k =>
    let cs := ds.filterMap fun d => if d.enable && !d.pinned && d.context == k && d.cadence != 0 then some d.cadence else none
    match cs with
    | [] => n
    | c :: l =>
      let x := s.ctx k
      if x.w0.getLsbD 4 then n else n + x.stride.toNat * 360360 / l.foldl min c) 0

/-- The bytes per frame of a configuration, times 360,360, the least common multiple of all values of CADENCE. -/
def State.costBytes (s : State) (ls : LayerSet) (ds : List LayerWords) : Nat :=
  ls.foldl (fun n q => n + fetchBytes ls q.1 q.2.1 * 360360) 0 + s.landing ds

/-- The pixels per frame of a configuration. -/
def costPixels (ls : LayerSet) : Nat := ls.foldl (fun n q => n + layerPx ls q.1 q.2.1) 0

/-- The DRAM cost fits the layer budget at a frame rate (R64, R67), compared exactly. -/
def dramFits (cost num den : Nat) : Bool := decide (cost * num + 34078720 * num * 360360 ≤ 13200000000 * den * 360360)

/-- The pixel cost fits the pixel limit at a frame rate and blanking (R66, R67), compared exactly; R442 leaves (16 − SKIP)/16 of it. -/
def pixelFits (px num den vblankUs skip : Nat) : Bool :=
  decide (px * num * 16 + 3200 * vblankUs * num * (16 - skip) ≤ 3200000000 * den * (16 - skip))

/-- MB/s of bytes per frame times 360,360, rounded up. -/
def mbpsUp (cost num den : Nat) : Nat :=
  let d := 360360 * 1000000 * den
  if d = 0 then 0 else sat 16 ((cost * num + d - 1) / d)

/-- LIMIT_MBPS: the layer budget at a frame rate, rounded down (R64, R71). -/
def limitMbps (num den : Nat) : Nat := if den = 0 then 0 else sat 16 ((13200000000 * den - 34078720 * num) / (1000000 * den))

/-- LIMIT_PX: the pixel limit in units of 4,096 px, rounded down (R66, R71). -/
def limitPx (num den vblankUs : Nat) : Nat := if num = 0 then 0 else sat 16 ((3200000000 * den - 3200 * vblankUs * num) / (4096 * num))

/-- Units of 4,096 px, rounded up. -/
def pxUp (n : Nat) : Nat := sat 16 ((n + 4095) / 4096)

end Sys2Proof.Machine
end

