-- ==== Sys2Proof/Machine/ColourOps.lean ====
section
/-!
DEFINITION. Sys2Proof/Machine/ColourOps.lean: the stages of the colour pipeline, from signal values to codes in the code plane
(chapter 3).
-/

namespace Sys2Proof.Machine

/-- Rated linear 1.0 (R73). -/
def full20 : Nat := 0xFFFFF

/-! ### Real functions in fixed point

Numbers with 128 fractional bits; every root is exact to the last bit, so a table entry differs from the stated rounding only
where the exact value lies within 2^-100 of a tie (DEDUCED, log entry 20). -/

/-- 1.0 with 128 fractional bits. -/
def fx1 : Nat := 2 ^ 128

/-- The largest number below 2^`bits` for which a falling test holds, found bit by bit. -/
def searchBits (bits : Nat) (ok : Nat → Bool) : Nat :=
  (List.range bits).foldl (fun a i => if ok (a + 2 ^ (bits - 1 - i)) then a + 2 ^ (bits - 1 - i) else a) 0

/-- x^(p/q) for x and the result below 2 (128 fractional bits). -/
def fxPow (x p q : Nat) : Nat :=
  searchBits 129 fun y => if q ≤ p then decide (y ^ q * fx1 ^ (p - q) ≤ x ^ p) else decide (y ^ q ≤ x ^ p * fx1 ^ (q - p))

/-- e^x (128 fractional bits), by its series; for x below 8 the terms beyond the 120th are below 2^-128. -/
def fxExp (x : Nat) : Nat :=
  ((List.range 120).foldl (fun (st : Nat × Nat) k => let t := st.2 * x / ((k + 1) * fx1); (st.1 + t, t)) (fx1, fx1)).1

/-- ln x for x ≥ 1 (128 fractional bits). -/
def fxLn (x : Nat) : Nat := searchBits 132 fun y => decide (fxExp y ≤ x)

/-- A quotient rounded to nearest, halves up. -/
def roundDiv (a b : Nat) : Nat := (2 * a + b) / (2 * b)

/-! ### Transfer functions (R79 to R82) -/

/-- E′ as a fraction (R79): numerator and denominator. -/
def ePrime (narrow : Bool) (v : Nat) : Nat × Nat := if narrow then (min (v - 256) 3504, 3504) else (v, 4095)

/-- round((p/q)^2.4 × 1,048,575), exactly: the largest t with (2t − 1)^5 q^12 ≤ (2 × 1,048,575)^5 p^12. -/
def pow24 (p q : Nat) : Nat := searchBits 20 fun t => decide ((2 * t - 1) ^ 5 * q ^ 12 ≤ (2 * full20) ^ 5 * p ^ 12)

/-- SRGB (IEC 61966-2-1, R80). -/
def srgbEntry (p q : Nat) : Nat :=
  if p * 100000 ≤ 4045 * q then roundDiv (p * 100 * full20) (q * 1292) else pow24 (p * 1000 + 55 * q) (1055 * q)

/-- PQ (R80): the EOTF of BT.2100 in cd/m² over PEAK_REF, at most 1. The constants of BT.2100 are PRESUMED (log entry 20). -/
def pqEntry (peak p q : Nat) : Nat :=
  let ep := fxPow (p * fx1 / q) 32 2523
  let c1 := 107 * fx1 / 128
  let num := ep - c1
  -- c2 − c3·E^(1/m2), with c2 = 2413/128 and c3 = 2392/128
  let den := 2413 * fx1 / 128 - 2392 * ep / 128
  let f := fxPow (if den = 0 then fx1 else min fx1 (num * fx1 / den)) 8192 1305
  min full20 (roundDiv (f * 10000 * full20) (fx1 * max 1 peak))

/-- The inverse HLG OETF (R80; constants of BT.2100, PRESUMED, log entry 20). -/
def hlgEntry (p q : Nat) : Nat :=
  if 2 * p ≤ q then roundDiv (p * p * full20) (3 * q * q)
  else
    let a := 17883277 * fx1 / 100000000
    let b := 28466892 * fx1 / 100000000
    let c := 55991073 * fx1 / 100000000
    let e := p * fx1 / q
    -- e^((E′ − c)/a), whose exponent is negative from 0.5 up to c
    let x := if e < c then fx1 * fx1 / fxExp ((c - e) * fx1 / a) else fxExp ((e - c) * fx1 / a)
    min full20 (roundDiv ((x + b) * full20) (12 * fx1))

/-- γ of R81 with 128 fractional bits, for PEAK_REF limited to 400 to 2,000. -/
def hlgGammaFx (peak : Nat) : Nat :=
  let l := clampN 400 2000 peak
  -- ln(L / 1,000) = ln(L / 400) − ln 2.5
  let pos := fxLn (l * fx1 / 400)
  let neg := fxLn (25 * fx1 / 10)
  let ln10 := fxLn (10 * fx1)
  (12 * fx1 / 10 + 42 * (pos * fx1 / ln10) / 100) - 42 * (neg * fx1 / ln10) / 100

/-- HLG_GAMMA: γ × 4,096, rounded to nearest (R116; the rounding is a DESIGN CHOICE, log entry 20). -/
def hlgGamma (peak : Nat) : Nat := roundDiv (hlgGammaFx peak * 4096) fx1

/-- The OOTF (R81) of one component: a free value within the stated bound, a relative error of 2^-14 about the
nearest 20-bit integer (the rounding is a DESIGN CHOICE, log entry 20). -/
def ootf (peak : Nat) (e : List Nat) (i : Nat) : Nat :=
  let ys := (2627 * e.getD 0 0 + 6780 * e.getD 1 0 + 593 * e.getD 2 0)
  let ei := e.getD i 0
  if ys = 0 ∨ ei = 0 then 0
  else
    -- Y^(γ−1) = 1 / e^((γ−1) ln(1/Y)), with Y = ys / (10,000 × 1,048,575)
    let ln := fxLn (10000 * full20 * fx1 / ys)
    let ex := fxExp ((hlgGammaFx peak - fx1) * ln / fx1)
    let exact := roundDiv (ei * fx1) ex
    let tol := ei * fx1 / (ex * 16384)
    clampN (exact - tol) (min full20 (exact + tol)) (Config.ootf ys ei peak)

/-- The linear value of one component before the OOTF (R80). -/
def tfEntry (g : ColourGroup) (v : Nat) : Nat :=
  let e := ePrime g.narrow v
  match g.tf with
  | 0 => roundDiv (e.1 * full20) e.2
  | 1 => srgbEntry e.1 e.2
  | 2 => pow24 e.1 e.2
  | 3 => pqEntry g.peakRef e.1 e.2
  | 4 => hlgEntry e.1 e.2
  | _ => (sget 0 v g.custom).toNat

/-- Stage 1 (R79 to R82): the linear values of a pixel. -/
def linearise (g : ColourGroup) (v : List Nat) : List Nat :=
  let e := (List.range 3).map fun c => tfEntry g (v.getD c 0)
  if g.tf = 4 then (List.range 3).map fun c => ootf g.peakRef e c else e

/-! ### Gamut (R83, R84) -/

/-- Stage 2 (R83): the target values and whether the pixel clipped. -/
def gamutMap (g : List Int) (t : List Nat) : List Nat × Bool :=
  let acc := (List.range 3).map fun i =>
    ((List.range 3).foldl (fun a j => a + g.getD (3 * i + j) 0 * ((t.getD j 0 : Nat) : Int)) 0 + 32768) / 65536
  (acc.map fun a => (clampI 0 full20 a).toNat, acc.any fun a => decide (a < 0 ∨ (full20 : Int) < a))

/-- The determinant of a 3 × 3 matrix, row by row. -/
def det3 (m : List ℚ) : ℚ :=
  let a := fun i => m.getD i 0
  a 0 * (a 4 * a 8 - a 5 * a 7) - a 1 * (a 3 * a 8 - a 5 * a 6) + a 2 * (a 3 * a 7 - a 4 * a 6)

/-- The inverse of a 3 × 3 matrix. -/
def inv3 (m : List ℚ) : List ℚ :=
  let a := fun i => m.getD i 0
  let d := det3 m
  [(a 4 * a 8 - a 5 * a 7) / d, (a 2 * a 7 - a 1 * a 8) / d, (a 1 * a 5 - a 2 * a 4) / d,
   (a 5 * a 6 - a 3 * a 8) / d, (a 0 * a 8 - a 2 * a 6) / d, (a 2 * a 3 - a 0 * a 5) / d,
   (a 3 * a 7 - a 4 * a 6) / d, (a 1 * a 6 - a 0 * a 7) / d, (a 0 * a 4 - a 1 * a 3) / d]

/-- The product of two 3 × 3 matrices. -/
def mul3 (m n : List ℚ) : List ℚ :=
  (List.range 9).map fun k => (List.range 3).foldl (fun a j => a + m.getD (3 * (k / 3) + j) 0 * n.getD (3 * j + k % 3) 0) 0

/-- The columns (x/y, 1, (1 − x − y)/y) of the primaries, row by row. -/
def primCols (p : List ℚ) : List ℚ :=
  let x := fun i => p.getD (2 * i) 0
  let y := fun i => p.getD (2 * i + 1) 0
  (List.range 3).map (fun j => x j / y j) ++ [1, 1, 1] ++ (List.range 3).map fun j => (1 - x j - y j) / y j

/-- The RGB-to-XYZ matrix of three primaries and a white point (R84). -/
def rgbToXyz (p : List ℚ) : List ℚ :=
  let c := primCols p
  let xw := p.getD 6 0
  let yw := p.getD 7 0
  let w := [xw / yw, 1, (1 - xw - yw) / yw]
  let i := inv3 c
  let sc := (List.range 3).map fun r => (List.range 3).foldl (fun a j => a + i.getD (3 * r + j) 0 * w.getD j 0) 0
  (List.range 9).map fun k => c.getD k 0 * sc.getD (k % 3) 0

/-- The source chromaticities of a preset (R84): BT.709 or BT.2020, both with D65. -/
def sourcePrims (src : Nat) : List ℚ :=
  if src = 1 then [64 / 100, 33 / 100, 30 / 100, 60 / 100, 15 / 100, 6 / 100, 3127 / 10000, 3290 / 10000]
  else [708 / 1000, 292 / 1000, 170 / 1000, 797 / 1000, 131 / 1000, 46 / 1000, 3127 / 10000, 3290 / 10000]

/-- The identity gamut matrix. -/
def gamutIdentity : List Int := [0x10000, 0, 0, 0, 0x10000, 0, 0, 0, 0x10000]

/-- The preset gamut matrix (R84): the identity when the chromaticities agree; else each coefficient to the nearest 1/65,536. -/
def presetGamut (prims : List Nat) (src : Nat) : List Int :=
  if (sourcePrims src).map (fun q => ⌊q * 65536 + 1 / 2⌋) = prims.map (fun n => ((n : Nat) : Int)) then gamutIdentity
  else
    (mul3 (inv3 (rgbToXyz (prims.map fun n => (n : ℚ) / 65536))) (rgbToXyz (sourcePrims src))).map fun q => ⌊q * 65536 + 1 / 2⌋

/-- The gamut matrix of a COLOUR group (R84). -/
def gamutOf (prims : List Nat) (g : ColourGroup) : List Int :=
  if g.src = 0 then g.coef.map fun c => c.toInt else presetGamut prims g.src

/-- The primaries of an identity can form and invert their matrix (R84, R115). -/
def primsOk (prims : List Nat) : Bool :=
  let p := prims.map fun n => (n : ℚ) / 65536
  [1, 3, 5, 7].all (fun i => prims.getD i 0 != 0) && decide (det3 (primCols p) ≠ 0) && decide (det3 (rgbToXyz p) ≠ 0)

/-- A coefficient of a matrix lies outside −2 to +2 (R84). -/
def gamutOutside (m : List Int) : Bool := m.any fun c => decide (c < -131072 ∨ 131072 < c)

/-- A COLOUR landing is refused (R77). -/
def colourRefused (prims : List Nat) (g : ColourGroup) : Bool :=
  decide (6 ≤ g.tf) || (g.narrow && g.tf == 5) || g.src == 3
    || (g.src != 0 && gamutOutside (gamutOf prims g))
    || g.yw.foldl (· + ·) 0 != 65536 || g.dither == 3 || g.peakRef == 0

/-- A COLOUR group as its landing computes it. HLG_GAMMA follows only a landing whose TF is HLG (R81; DESIGN CHOICE, log entry 74). -/
def landColour (prims : List Nat) (g : ColourGroup) (old : ActiveColour) : ActiveColour :=
  { grp := g, g := gamutOf prims g, gamma := if g.tf = 4 then hlgGamma g.peakRef else old.gamma }

/-! ### Envelope (R85, R86, R91) -/

/-- The zone of a pixel (R85). -/
def zoneOf (x y : Nat) : Nat := 32 * (y / 32) + x / 32

/-- The cap in force for a zone: the lowest of the table where its parity failed (R91), under the limit (R89). -/
def Col.cap (c : Col) (z : Nat) : Nat :=
  min (if c.envBad.contains z then c.envLowest else (sget 0xFFFF z c.envActive).toNat) c.limitActive

/-- Stage 3 (R86): the capped values and whether the pixel was capped. -/
def envelope (yw : List Nat) (cap : Nat) (t : List Nat) : List Nat × Bool :=
  let y := (yw.getD 0 0 * t.getD 0 0 + yw.getD 1 0 * t.getD 1 0 + yw.getD 2 0 * t.getD 2 0 + 32768) / 65536
  let ycap := (cap * 0xFFFFF + 32767) / 65535
  if ycap < y then (t.map fun v => v * (ycap * 65536 / y) / 65536, true) else (t, false)

/-! ### Calibration (R92 to R95) -/

/-- The offset of a working record from the start of the DRAM (R101). -/
def recAt (x y : Nat) : Nat := 0xC00000 + 16 * (1024 * y + x)

/-- A working record as one 128-bit value. -/
def State.calRec (s : State) (x y : Nat) : BitVec 128 := BitVec.ofNat 128 (ofLe (s.dramBytes (recAt x y) 16))

/-- A coefficient w_ij of a record (R92). -/
def recW (r : BitVec 128) (i j : Nat) : Nat := bits128 r (12 * (3 * i + j) + 11) (12 * (3 * i + j))

/-- A user gain delta (R92). -/
def recUg (r : BitVec 128) (i : Nat) : Int := ofSfield 6 (bits128 r (113 + 6 * i) (108 + 6 * i))

/-- FENCED or STUCK (R95). -/
def recDark (r : BitVec 128) : Bool := r.getLsbD 126 || r.getLsbD 127

/-- Stages 4 to 7 (R94): the three drives and whether one clipped. -/
def drives (r : BitVec 128) (res : List Nat) (t : List Nat) : List Nat × Bool :=
  let acc := (List.range 3).map fun i =>
    let a := ((List.range 3).foldl (fun a j => a + recW r i j * t.getD j 0) 0 + 1024) / 2048
    let b := (a * ((512 + recUg r i).toNat) + 256) / 512
    (b * res.getD i 0 + 16384) / 32768
  (if recDark r then [0, 0, 0] else acc.map fun a => min a full20, acc.any fun a => decide (full20 < a))

/-! ### Dithering (R100) -/

def rev4 (n : Nat) : Nat := (n % 2) * 8 + (n / 2 % 2) * 4 + (n / 4 % 2) * 2 + n / 8 % 2

def bayer (u v : Nat) : Nat :=
  let a := u ^^^ v
  (a &&& 1) <<< 7 ||| (v &&& 1) <<< 6 ||| (a &&& 2) <<< 4 ||| (v &&& 2) <<< 3 ||| (a &&& 4) <<< 1 ||| (v &&& 4) ||| (a &&& 8) >>> 2
    ||| (v &&& 8) >>> 3

/-- The wall coordinates of a pixel, modulo 16 (R100): only those matter to the threshold pattern. -/
def wallXy (bx by_ rot x y : Nat) : Nat × Nat :=
  let m := fun (i : Int) => (i % 16).toNat
  if rot = 0 then (m (bx + x), m (by_ + y)) else if rot = 1 then (m (bx - y), m (by_ + x))
  else if rot = 2 then (m (bx - x), m (by_ - y)) else (m (bx + y), m (by_ - x))

/-- A code (R100). -/
def toCode (d u v depth mode n : Nat) : Nat :=
  let shift := 20 - depth
  let b0 := bayer u v
  let b := if mode = 2 then (b0 + 16 * rev4 n) % 256 else b0
  let thr := if mode = 0 then 2 ^ (shift - 1) else b / 2 ^ (8 - shift)
  let c := min ((d + thr) / 2 ^ shift) (2 ^ depth - 1)
  (c <<< (16 - depth) ||| c >>> (2 * depth - 16)) % 65536

/-! ### The code plane (R102, R103) -/

/-- The offset of a code-plane buffer from the start of the DRAM (R101). -/
def planeAt (buf : Bool) : Nat := if buf then 0x600000 else 0

/-- The address within a ring of the cell that shows a pixel of its region, from cell row and column (R102). -/
def cellAddr (cy col : Nat) : Nat := 32 * cy + (if cy % 2 = 1 then 31 - col else col)

/-- The cell of a pixel: ring, address, and the index of the pixel in the cell (R102). -/
def cellOf (x y : Nat) : Nat × Nat × Nat := (8 * (y / 128) + x / 128, cellAddr (y % 128 / 4) (x % 128 / 4), 4 * (y % 4) + x % 4)

/-- The first pixel of a cell (R102). -/
def cellPixel (k c : Nat) : Nat × Nat :=
  (128 * (k % 8) + 4 * (if c / 32 % 2 = 1 then 31 - c % 32 else c % 32), 128 * (k / 8) + 4 * (c / 32))

/-- The 16 pixels of a cell as their numbers 1,024·y + x. -/
def cellPixels (k c : Nat) : List Nat :=
  (List.range 16).map fun i => 1024 * ((cellPixel k c).2 + i / 4) + (cellPixel k c).1 + i % 4

/-- The offset of a pixel’s codes in a code-plane buffer (R102). -/
def codeAt (x y : Nat) : Nat := let q := cellOf x y; 98304 * q.1 + 96 * q.2.1 + 6 * q.2.2

/-- The 96 code bytes of a cell in a buffer (R102). -/
def State.cellBytes (s : State) (buf : Bool) (k c : Nat) : List Byte := s.dramBytes (planeAt buf + 98304 * k + 96 * c) 96

/-- What the pipeline makes of one pixel. -/
structure PixelOut where
  codes : List Nat
  gamutClip : Bool
  driveClip : Bool
  capped : Bool
  deriving DecidableEq, Repr

/-- The whole pipeline on one pixel of the frame being composed (R72); `bad`: its calibration burst is uncorrectable (R98). -/
def State.pixelOut (s : State) (x y : Nat) (bad : Bool) : PixelOut :=
  let a := s.col.active
  let g := gamutMap a.g (linearise a.grp (s.compose x y))
  let e := envelope a.grp.yw (s.col.cap (zoneOf x y)) g.1
  let d := drives (s.calRec x y) s.col.res e.1
  let w := wallXy s.comp.tileX s.comp.tileY s.comp.tileRot x y
  { codes := if bad then [0, 0, 0]
      else d.1.map fun v => toCode v w.1 w.2 s.col.depth a.grp.dither ((s.comp.lastFlip + 1) % 16)
    gamutClip := g.2, driveClip := d.2, capped := e.2 }

/-- The back buffer of the code plane. -/
def State.back (s : State) : Bool := !s.col.front

/-- Every code of a code-plane buffer 0 (R105). -/
def State.zeroPlane (s : State) (buf : Bool) : State :=
  { s with dram := s.dram.filter fun c => !(decide (planeAt buf ≤ c.1) && decide (c.1 < planeAt buf + 6291456)) }

/-- The mean of a box of the confidence frame (R69): 4 × 4 signal values to 8 bits; the rounding is a DESIGN CHOICE (log entry 21). -/
def State.confPixel (s : State) (x y c : Nat) : Byte :=
  BitVec.ofNat 8 (((List.range 16).foldl (fun a i => a + (s.compose (x + i % 4) (y + i / 4)).getD c 0) 0) / 256)

end Sys2Proof.Machine
end

