-- ==== Sys2Proof/Machine/LedOps.lean ====
section
/-!
DEFINITION. Sys2Proof/Machine/LedOps.lean: the evaluation of the rail’s set point, and the feeders’ streaming of frames, latches and
signatures (chapters 4 and 5).
-/

namespace Sys2Proof.Machine

/-! ### Cells -/

/-- Every cell’s entry changed; the first argument is 1,024·k + c. Entries that become what an unlisted cell reads as are dropped. -/
def RingUnit.mapCells (u : RingUnit) (f : Nat → Cell → Cell) : RingUnit :=
  { u with cells := u.cells.filterMap fun c => if f c.1 c.2 = {} then none else some (c.1, f c.1 c.2) }

/-- Every cell entry of ring `k`, listed or not, changed. -/
def State.onRingCells (s : State) (k : Nat) (f : Nat → Cell → Cell) : State :=
  (List.range 1024).foldl (fun s c => s.onCell k c (f c)) s

/-- The number of codes’ cell rows of a ring: the rows that hold an address below n. -/
def Ring.rowCount (r : Ring) : Nat := (min 1024 r.n + 31) / 32

/-- A pixel gets a run-time fence (R93, R146): FENCED in its working record. -/
def State.rtFencePixel (s : State) (p : Nat) : State :=
  if s.col.rtFence.contains p then s
  else
    let a := 0xC00000 + 16 * p + 15
    (s.dramStore a [s.dramByte a ||| 0x40]).onCol fun c =>
      { c with rtFence := (c.rtFence.filter fun q => decide (q < p)) ++ p :: c.rtFence.filter fun q => decide (p < q) }

/-- Insertion into a rising list. -/
def insertNat (a : Nat) : List Nat → List Nat
  | [] => [a]
  | b :: l => if a ≤ b then a :: b :: l else b :: insertNat a l

/-- The run-time fence of the pixel of an emitter of cell `c` (R146): PIXEL_FENCED with the ring as DETAIL, and the cell-side
fence. -/
def State.fenceEmitter (s : State) (k c e : Nat) : State :=
  if (s.cell k c).fencedEm.contains e then s
  else
    let p := (cellPixels k c).getD (e / 3) 0
    ((((s.rtFencePixel p).onCell k c fun x => { x with fencedEm := insertNat e x.fencedEm }).onRing k fun r =>
      r.put [(r.pxo c, .ctl 0x02 (BitVec.ofNat 24 (c + 2 ^ 11 + e * 2 ^ 12)))])).raise 0x6A k

/-! ### The set point (R164 to R166) -/

/-- Every reachable cell of every unfenced ring returned a valid slot since the last evaluation (R164). -/
def State.allIn (s : State) : Bool :=
  (List.range 64).all fun k =>
    s.ringFenced k || !(s.ring k).up || (List.range (s.ring k).n).all fun c => !(s.ring k).reaches c || (s.cell k c).demandIn

/-- The target of one evaluation (R164), with whether it falls short. With no report at all the set point stays (DEDUCED, log entry
22). -/
def State.ledTarget (s : State) : Nat × Bool :=
  let l := s.led
  match l.dMax with
  | none => (if l.fixed then l.vfixMv else l.setMv, false)
  | some d =>
    let want := d + l.marginMv
    let t := (clampI l.vminMv l.vmaxMv want).toNat
    let u :=
      if l.fixed then l.vfixMv
      else if t < l.setMv then (if !s.allIn || l.setMv - t < 20 then l.setMv else max t (l.setMv - 50))
      else t
    (u, decide ((l.vmaxMv : Int) < want))

/-- One evaluation (R164 to R166, R169, R177). -/
def State.ledEvaluate (s : State) (atTake : Bool) : State :=
  let l := s.led
  if !l.on || l.starting then s
  else
    let (t, short) := s.ledTarget
    let new := if l.uvHeld || l.adcHeld || l.ocpHeld then l.setMv else t
    let s1 := (s.setPoint new).onLed fun l =>
      { l with dMax := none, shortfall := short, rising := atTake && decide (s.led.setMv < new) }
    let s2 := s1.onRings fun u => u.mapCells fun _ c => { c with demandIn := false }
    if short && !l.shortfall then s2.raise 0x78 0 else s2

/-! ### Pulses (R175) -/

/-- The pulses of an emitter of colour `i` under a segment plan and a frame period in bit periods (R175): for each segment used, its
number, where in it the pulse begins, and its length. A pulse wraps to the start of its segment. -/
def cellPulses (plan : BitVec 24) (period i code : Nat) : List (Nat × Nat × Nat) :=
  let f := fun (hi lo : Nat) => (plan.toNat >>> lo) % 2 ^ (hi + 1 - lo)
  let segs := 2 ^ f 2 0
  let minOn := 4 * f 12 5
  let onMax := period / segs - 32 * f 17 13
  let total := (code * onMax * segs + 32767) / 65535
  let used := if minOn ≠ 0 ∧ total < segs * minOn then max 1 (total / minOn) else segs
  (List.range used).map fun j =>
    let on := total * (j + 1) / used - total * j / used
    (j * segs / used, if f 4 3 = 0 then 0 else if f 4 3 = 1 then (onMax - on) / 2 else i * onMax / 3, on)

/-- The effective refresh of a code, in pulses a frame (R176). -/
def pulsesPerFrame (plan : BitVec 24) (period code : Nat) : Nat := (cellPulses plan period 0 code).length

/-! ### Frames on the rings (R127, R131, R132) -/

/-- The words of step 2 of R127: SYNC, SEG, PERIOD and three shadow DRIVE words. -/
def headWords (k seq : Nat) (plan : BitVec 24) (period : Nat) (drive : List Nat) : List (Bool × RingWord) :=
  (true, syncWord k seq true) :: segWords plan period ++ (List.range 3).map fun c => (true, driveWord (drive.getD c 0) c false)

/-- A ring whose SYNC echo came back round it runs in RING mode from this frame on (R154); the conditions of its breaks are over. -/
def State.restoreRing (s : State) (k : Nat) : State :=
  if (s.ring k).restoreDue && (s.ring k).mode == .hinge then
    (((s.onRing k fun r => { r with mode := .ring, aLast := none, bFirst := none, restoreDue := false }).endCond 0x62 k).endCond 0x63 k).fire 17
  else s

/-- What each ring feeder does at flip `n` for the next frame (R127): the head words; every cell is to be confirmed afresh; an all-zero
frame is streamed when one is due (R131); a ring that is being located streams it, at these levels, once it can be reached again (R153). -/
def State.streamFrame (s : State) (n : Nat) : State :=
  let effs := fun k => s.effectives k
  let plan := s.led.plan
  let period := s.periodBits
  s.onRings fun u =>
    { u.mapCells (fun _ c =>
        { c with confirmed := false, keep := false, retries := 0, returned := false, silentLast := c.silentNow, silentNow := false, due := false }) with
      seq := BitVec.ofNat 16 (n + 1), zeroFrame := false
      rings := (List.range 64).map fun k =>
        let r := u.rings.getD k {}
        if r.up then
          { r with
            rows := 0, echoed := false, driveSent := effs k, allZero := u.zeroFrame || (r.allZero && r.missed), outA := false, outB := false
            out := r.out ++ bothEnds (r.mode == .hinge) (headWords k (n + 1) plan period (effs k)) }
        else if r.mode == .locating then { r with driveSent := effs k, allZero := u.zeroFrame || (r.allZero && r.missed) }
        else r }

/-- The 96 bytes of codes that the feeder sends to a cell in the frame in progress: zero in the all-zero frame (R131). -/
def State.sendBytes (s : State) (k c : Nat) : List Byte :=
  if (s.ring k).allZero then List.replicate 96 0 else s.cellBytes s.back k c

/-- The code words for some cells (R126). -/
def codeWords (pxo : Bool) (first : Nat) (cells : List (List Byte)) : List (Bool × RingWord) :=
  (pxo, .ctl 0x03 (BitVec.ofNat 24 (first % 1024 + cells.length * 1024))) :: (wordsOf cells.flatten).map fun w => (pxo, .data w)

/-- A READ word with its placeholder words (R135, R152). -/
def readWords (pxo collect : Bool) (first count kind : Nat) : List (Bool × RingWord) :=
  (pxo, .ctl 0x08 (BitVec.ofNat 24 (first % 1024 + count * 1024 + b2n collect * 2 ^ 21 + kind * 2 ^ 22))) ::
    if collect then [] else List.replicate (count * slotWidth kind) (pxo, .data 0)

/-- The collected read of cells of one arc (R152): READ, DIR TURN, and SYNC when END has passed. -/
def collectWords (k seq : Nat) (pxo : Bool) (kind : Nat) (cells : List Nat) : List (Bool × RingWord) :=
  match cells with
  | [] => []
  | c :: _ =>
    let turner := if pxo then cells.getLastD c else c
    readWords pxo true c cells.length kind
      ++ [(pxo, .ctl 0x0A (BitVec.ofNat 24 (2 + turner * 4 + b2n (!pxo) * 4096))), (pxo, syncWord k seq false)]

/-- The read of some cells that follow one another in ascending order: one burst in RING mode, collected from each arc in Hinge
mode (R135, R152). -/
def Ring.readCells (r : Ring) (k seq kind : Nat) (cells : List Nat) : List (Bool × RingWord) :=
  if r.mode == .ring then readWords true false (cells.headD 0) cells.length kind
  else collectWords k seq true kind (cells.filter r.pxo) ++ collectWords k seq false kind (cells.filter fun c => !r.pxo c)

/-- The addresses of cell row `cy` of a ring that can be reached. -/
def Ring.rowCells (r : Ring) (cy : Nat) : List Nat :=
  ((List.range 32).map fun i => 32 * cy + i).filter fun c => decide (c < min 1024 r.n) && r.reaches c

/-- The read of every cell of a ring: in Hinge mode in blocks of 4 cell rows clipped to the arcs (R144, R138, R152). -/
def Ring.readAll (r : Ring) (k seq kind : Nat) : List (Bool × RingWord) :=
  if r.mode == .ring then readWords true false 0 (min 1024 r.n) kind
  else (List.range 8).flatMap fun b => r.readCells k seq kind ((List.range 4).flatMap fun i => r.rowCells (4 * b + i))

/-- A cell’s codes sent again and read again (R136); LATCH_NOW makes it show them at once (R138). -/
def Ring.again (r : Ring) (k seq c : Nat) (codes : List Byte) (latchNow : Bool) : List (Bool × RingWord) :=
  codeWords (r.pxo c) c [codes] ++ r.readCells k seq 0 [c]
    ++ if latchNow then [(r.pxo c, .ctl 0x02 (BitVec.ofNat 24 (c + 2 ^ 19)))] else []

/-! ### Locating and bring-up (R142, R150) -/

/-- The probes of a binary search for how many of `hi` hops an end reaches, which is `m` (R150); at most 10. Where each probe lies the spec
leaves open: the middle, rounded up (DESIGN CHOICE, log entry 75). -/
def searchProbes : (fuel lo hi m : Nat) → List Nat
  | 0, _, _, _ => []
  | f + 1, lo, hi, m =>
    if hi ≤ lo then []
    else
      let mid := (lo + hi + 1) / 2
      mid :: if mid ≤ m then searchProbes f mid hi m else searchProbes f lo (mid - 1) m

/-- One probe (R150): DIR ARC and DIR TURN with the turner, SIDE 1 from PXI. -/
def probeWords (pxo : Bool) (turner : Nat) : List (Bool × RingWord) :=
  let a := turner * 4 + b2n (!pxo) * 4096
  [(pxo, .ctl 0x0A (BitVec.ofNat 24 (1 + a))), (pxo, .ctl 0x0A (BitVec.ofNat 24 (2 + a)))]

/-- The cells that each end of a ring can reach at most when a locate starts: all, or those of its arc (R150, R154). -/
def Ring.spanA (r : Ring) : Nat := match r.aLast, r.bFirst with | some a, _ => a + 1 | none, some _ => 0 | none, none => r.n
def Ring.spanB (r : Ring) : Nat := match r.bFirst, r.aLast with | some b, _ => r.n - b | none, some _ => 0 | none, none => r.n

/-- The words of the probes of both ends, when PXO reaches `a` cells and PXI `b` (R150). -/
def Ring.probes (r : Ring) (a b : Nat) : List (Bool × RingWord) :=
  (searchProbes 10 0 r.spanA a).flatMap (fun m => probeWords true (m - 1))
    ++ (searchProbes 10 0 r.spanB b).flatMap fun m => probeWords false (r.n - m)

/-- The DIR ARC words that set up the arcs of a ring (R150, R152). -/
def arcWords (a b : Option Nat) : List (Bool × RingWord) :=
  (match a with | some t => [(true, .ctl 0x0A (BitVec.ofNat 24 (1 + t * 4)))] | none => [])
    ++ (match b with | some t => [(false, .ctl 0x0A (BitVec.ofNat 24 (1 + t * 4 + 4096)))] | none => [])

/-- Those of a ring in Hinge mode. -/
def arcsOf (r : Ring) : List (Bool × RingWord) := arcWords r.aLast r.bFirst

/-- The words of the bring-up of a ring (R142): IDLE for 20 µs, SYNC and ENUM from PXO; where PXI stays silent, the locate, DIR ARC and ENUM
DOWN from PXI; then SEG, PERIOD, DRIVE 0 and LATCH, and the READ of every cell. SYNC carries SEQ 0 (DESIGN CHOICE, log entry 75). -/
def Ring.bringWords (r : Ring) (k : Nat) (plan : BitVec 24) (period : Nat) : List (Bool × RingWord) :=
  let hinge := r.mode == .hinge
  let start := List.replicate 470 (true, RingWord.ctl 0 0) ++ [(true, syncWord k 0 true), (true, .ctl 0x09 0)]
  let probes := if r.mode == .ring then []
    else r.probes (match r.aLast with | some a => a + 1 | none => 0) (match r.bFirst with | some b => r.n - b | none => 0)
  let down := if hinge && r.bFirst.isSome then [(false, RingWord.ctl 0x09 (BitVec.ofNat 24 (r.expect - 1 + 1024)))] else []
  start ++ probes ++ if r.up then
      (if hinge then arcsOf r else []) ++ down
        ++ bothEnds hinge (segWords plan period ++ [(true, driveWord 0 3 false), (true, latchFlags false true true)]) ++ r.readAll k 0 0
    else []

/-! ### Resends -/

/-- The codes that a resend gives a cell: those of FRONT, or zero where the ring’s cells show no content frame (R131, R138). -/
def State.resentBytes (s : State) (k c : Nat) : List Byte :=
  if (s.ring k).dim then List.replicate 96 0 else s.cellBytes s.col.front k c

/-- The cells of a ring that shows codes are resent from FRONT directly after a flip (R138): their shown codes follow; a ring whose cells
are all resent no longer shows the Cairn plane. -/
def State.resendCells (s : State) (k : Nat) : State :=
  let r := s.ring k
  if !r.up then s
  else
    let due := (List.range (min 1024 r.n)).filter fun c => r.reaches c && (r.resend || (s.cell k c).reset)
    let s1 := due.foldl (fun s c =>
      let b := s.resentBytes k c
      (s.onCell k c fun x => { x with shownCrc := BitVec.ofNat 16 (crc16 b), reset := false }).onRing k fun r =>
        r.put (r.again k s.rings.seq.toNat c b true)) s
    s1.onRing k fun r => { r with resend := false, sign := r.sign && !r.resend }

/-! ### Latching (R19, R129, R136) -/

/-- Every cell of a ring that must be accounted for is (R136). -/
def State.ringComplete (s : State) (k : Nat) : Bool :=
  let r := s.ring k
  r.up && r.echoed && decide (r.rowCount ≤ r.rows)
    && (List.range (min 1024 r.n)).all fun c =>
      let x := s.cell k c
      x.confirmed || x.keep || x.silentNow || !r.reaches c

/-- A cell that stays unconfirmed gets KEEP, is counted, and CELL_CRC is raised with the ring as DETAIL (R136). -/
def State.keepCell (s : State) (k c : Nat) : State :=
  (((s.onCell k c fun x => { x with keep := true, due := false }).onRing k fun r =>
    { r with crcFails := inc 16 r.crcFails, out := r.out ++ [(r.pxo c, .ctl 0x02 (BitVec.ofNat 24 (c + 2 ^ 10)))] })).raise 0x68 k

/-- At the take point the cells of a ring that were resent and are still unconfirmed get KEEP (R136). -/
def State.keepPending (s : State) (k : Nat) : State :=
  ((List.range (min 1024 (s.ring k).n)).filter fun c =>
    let x := s.cell k c
    (decide (0 < x.retries) || x.due) && !x.confirmed && !x.keep && (s.ring k).reaches c).foldl (fun s c => s.keepCell k c) s

/-- The engine shows content: LIT, or UPDATE entered from LIT (R22: light as before entry). -/
def State.litState (s : State) : Bool := s.eng.st == .lit || (s.eng.st == .update && s.eng.beforeUpdate == .lit)

/-- The frame composed since the previous flip may be latched (R131, R251): it was composed under content, and content is still shown, or
fades. -/
def State.latchesContent (s : State) : Bool := s.comp.litFrame && (s.litState || s.saf.fading)

/-- Frames from the code plane are not latched: SSG is in force, or the Cairn path drives the rings (R158). -/
def State.signDue (s : State) : Bool := s.rings.cairnOn || s.saf.func == some .ssg

/-- The feeders’ decision at a take point (R19, R103, R104, R131); `rate`: step 1 of R63. The all-zero frame of R131 comes from the
feeders and needs no pipeline. -/
def State.decideLatch (s : State) (rate : Bool) : State :=
  if s.signDue then
    s.onRings fun u => { u with codesDue := false, rings := u.rings.map fun r => { r with decided := none } }
  else if rate then
    s.onRings fun u => { u with codesDue := false, rings := u.rings.map fun r => { r with decided := if r.up then some false else none } }
  else
    let s0 := s.each 64 fun s k => if (s.ring k).up then s.keepPending k else s
    let live := fun k => (s0.ring k).up || (s0.ring k).mode == .locating
    -- the zero frame of a fenced pipeline is latched only when every ring has it (R105)
    let all_ := (List.range 64).all fun k => !live k || s0.ringComplete k
    let ok := fun k => if s0.col.zeroed then all_ else s0.ringComplete k
    -- a fenced pipeline whose zero frame has been latched streams no codes (R105)
    let none_ := s0.unitFenced 1 && !s0.col.zeroed
    let content := !none_ && s0.latchesContent
    let due := fun k => content || (s0.ring k).allZero
    let swap := !none_ && s0.comp.composing && s0.comp.bands == 256 && all_
    let s1 := s0.onRings fun u =>
      { u with
        codesDue := content
        rings := (List.range 64).map fun k =>
          let r := u.rings.getD k {}
          { r with decided := if !r.up then none else if due k then (if ok k then some true else none) else some false } }
    if swap then s1.onCol fun c => { c with front := !c.front, zeroed := false } else s1

/-- What ring `k` shows after flip `n` (R129, R131, R136, R138). A ceiling that fell after the launch follows in an immediate DRIVE
(R134). -/
def State.latchRing (s : State) (k : Nat) : State :=
  let r := s.ring k
  match r.launched with
  | none =>
    let miss := (r.up || r.mode == .locating) && (s.rings.codesDue || r.allZero)
    let s1 := s.onRing k fun r => { r with latched := false, missed := miss, decided := none, outA := false, outB := false }
    if miss then
      ((s1.onRings fun u => { u with miss := u.miss ||| BitVec.ofNat 64 (2 ^ k) }).raise 0x6B k).onRing k fun r =>
        r.put (r.readAll k s.rings.seq.toNat 3)
    else s1
  | some codes =>
    let s1 := s.onRing k fun r =>
      let shown := minLevels r.driveSent (s.ceilings k)
      { r with
        latched := true, missed := false, launched := none, decided := none, outA := false, outB := false, sign := r.sign && !codes
        dim := if codes then r.allZero else r.dim
        driveShown := shown, driveSent := shown, out := r.out ++ dropWords (r.mode == .hinge) true r.driveSent shown }
    if codes then
      s1.onRings fun u => u.mapCells fun i c => if i / 1024 = k && c.confirmed && !c.keep then { c with shownCrc := c.sentCrc } else c
    else s1

/-! ### The frame signature (R139, R140) -/

/-- One byte into the reflected CRC-64 of ECMA-182 (R140). -/
def crc64Byte (crc : Nat) (b : Nat) : Nat :=
  (List.range 8).foldl (fun c _ => if c % 2 = 1 then c / 2 ^^^ 0xC96C5795D7870F42 else c / 2) (crc ^^^ b)

/-- The CRC-64 of 16-bit values, low byte first. -/
def crc64 (l : List Nat) : Nat :=
  (l.foldl (fun c v => crc64Byte (crc64Byte c (v % 256)) (v / 256 % 256)) 0xFFFFFFFFFFFFFFFF) ^^^ 0xFFFFFFFFFFFFFFFF

/-- The value of a cell at a flip, and whether it counts as confirmed, by the first row of R139 that holds (R139, R140); `codes`: its ring
latched codes. -/
def State.sigValue (s : State) (codes : Bool) (k c : Nat) : Nat × Bool :=
  let r := s.ring k
  let x := s.cell k c
  if x.confirmed && !x.keep && codes then (x.retCrc.toNat, true)
  else if x.keep || r.missed || !(codes || s.rings.codesDue || r.allZero) then (x.shownCrc.toNat, false)
  else if !r.reaches c || x.silentNow then (0, false)
  else (x.shownCrc.toNat, false)

/-- The signature being formed is complete (R141). -/
def State.sigDone (s : State) : State :=
  if s.rings.sigBusy then (s.onRings fun u => { u with sigBusy := false, sigFresh := true }).fire 27 else s

/-- The signature that RING_SIG shows (R141). -/
def RingUnit.sigShown (u : RingUnit) : Signature := if u.sigBusy then u.sigPrev else u.sig

/-- The signature of flip `n` (R139 to R141), complete at most 20 µs later; `codes k`: ring k latched codes at this flip. -/
def State.formSignature (s : State) (n : Nat) (codes : Nat → Bool) : State :=
  let v := (List.range 64).flatMap fun k => (List.range 1024).map fun c => s.sigValue (codes k) k c
  let conf := (v.filter fun p => p.2).length
  s.sigDone.onRings fun u =>
    { u with
      sig := { value := BitVec.ofNat 64 (crc64 (v.map fun p => p.1)), flip := BitVec.ofNat 32 n, conf := conf, other := min 8191 (65536 - conf) }
      sigPrev := u.sig, sigBusy := true, sigFresh := false, sigAt := s.time.local_ }

end Sys2Proof.Machine
end

