-- ==== Sys2Proof/Machine/AgeOps.lean ====
section
/-!
DEFINITION. Sys2Proof/Machine/AgeOps.lean: dose, efficiency, the reserve plan and the uniformity horizon (chapter 6), and zone
temperatures (chapter 15).
-/

namespace Sys2Proof.Machine

/-! ### Zone temperatures (R184, R436, R437) -/

/-- The cells of a zone (R85): 8 × 8 cells of one ring, as (ring, address). -/
def zoneCells (z : Nat) : List (Nat × Nat) :=
  let zx := z % 32
  let zy := z / 32
  (List.range 64).map fun i => (8 * (zy / 4) + zx / 4, cellAddr (8 * (zy % 4) + i / 8) (8 * (zx % 4) + i % 8))

/-- The TEMP of the reachable, non-silent, non-excluded cells of a zone in their latest slots (R184, R436). -/
def State.zoneTemps (s : State) (z : Nat) : List Nat :=
  (zoneCells z).filterMap fun q =>
    let x := s.cell q.1 q.2
    if (s.ring q.1).reaches q.2 && !x.isSilent && !x.excluded then x.temp else none

/-- The mean of TEMP values in 1/16 °C, the nearest lower unit (the rounding is a DESIGN CHOICE, log entry 23). -/
def meanTemp (l : List Nat) : Int := ((16 * l.foldl (· + ·) 0 / max 1 l.length : Nat) : Int) - 640

/-- The temperature of a zone (R184), in 1/16 °C. -/
def State.zoneTemp (s : State) (z : Nat) : Int :=
  let l := s.zoneTemps z
  if l.isEmpty then (s.therm.rings.getD (8 * (z / 32 / 4) + z % 32 / 4) {}).t else meanTemp l

/-- The temperature weight (R184): a free value within the stated relative error of 2^((T − T_REF) / DOUBLE), the nearest Q4.12 value being
always among them, then limited. -/
def weightOf (t tRef : Int) (dbl : Nat) : Nat :=
  let ln2 := fxLn (2 * fx1)
  let x := (t - tRef).natAbs * ln2 / max 1 dbl
  -- beyond 2^±6 the limits apply
  let ex := if 6 * ln2 ≤ x then 64 * fx1 else fxExp x
  -- the exact Q4.12 value with 128 fractional bits, and the nearest Q4.12 value
  let exact := if tRef ≤ t then 4096 * ex else 4096 * fx1 * fx1 / ex
  let near := roundDiv exact fx1
  clampN 256 65535 (clampN (min near ((1023 * exact + 1024 * fx1 - 1) / (1024 * fx1))) (max near (1025 * exact / (1024 * fx1)))
    (Config.weight t tRef dbl))

/-! ### Operating time (R186) -/

/-- Operating seconds of the ledger. -/
def State.opSeconds (s : State) : Nat :=
  s.age.opBase + (match s.age.joinAt with | some t => (s.time.local_ - t) / (65536 * 1000000000) | none => 0)

/-- OP_HOURS (R209). -/
def State.opHours (s : State) : Nat := s.opSeconds / 3600 % 2 ^ 32

/-! ### Dose (R180 to R183) -/

/-- The offset of an emitter’s dose from the start of the DRAM (R180). -/
def doseAt (e : Nat) : Nat := 0x1C00000 + 6 * e

/-- The dose of an emitter, numbered 3·(1,024·y + x) + e. -/
def State.dose (s : State) (e : Nat) : Nat := ofLe (s.dramBytes (doseAt e) 6)

/-- What one sample adds (R182). -/
def doseInc (code lvl w dtUs : Nat) : Nat := (code * lvl * w * dtUs + 391162031250) / 782324062500

/-- The state of the pixel’s cell at the sampled flip lets it accrue (R183), STUCK apart. -/
def State.accrues (s : State) (k c : Nat) : Bool := (s.ring k).reaches c && !(s.cell k c).isSilent

/-- The code and level that an emitter accrues (R183), or none; in the states without content every code is 0. -/
def State.accrual (s : State) (x y e : Nat) : Option (Nat × Nat) :=
  let q := cellOf x y
  let r := s.calRec x y
  let lvl := (s.ring q.1).driveShown.getD e 0
  if s.saf.sloOut || s.unitFenced 2 then none
  else if r.getLsbD 127 then some (0xFFFF, lvl)
  else if r.getLsbD 126 then none
  else if !s.accrues q.1 q.2.1 then none
  else if s.rings.cairnOn then
    let p := s.rings.cairnPixel (1024 * y + x)
    some (if p = 0 then 0 else (s.rings.palette.getD (3 * (p - 1) + e) 0).toNat, s.rings.cairnLevel)
  else if !s.litState && s.eng.st != .safe then some (0, lvl)
  else some (ofLe (s.dramBytes (planeAt s.col.front + codeAt x y + 2 * e) 2), lvl)

/-- Frame periods of the mode in force, in µs. -/
def State.periodsUs (s : State) (n : Nat) : Nat := n * s.comp.den * 1000000 / s.comp.num

/-- The dose of an emitter as the running store copied it (R186). -/
def State.copiedDose (s : State) (e : Nat) : Nat :=
  match s.age.copyOld.find? fun q => q.1 == e with | some q => q.2.toNat | none => s.dose e

/-- The dose of an emitter changes; a running store keeps the one that it has copied (R186). -/
def State.putDose (s : State) (e d : Nat) : State :=
  let keep := s.age.busy && s.age.copying && decide (e < 3 * s.age.copyPos) && !(s.age.copyOld.any fun q => q.1 == e)
  let s1 := if keep then s.onAge fun a => { a with copyOld := (e, BitVec.ofNat 48 (s.dose e)) :: a.copyOld } else s
  s1.dramStore (doseAt e) (leBytes 6 d)

/-- The running ledger store has copied some more pixels, in pixel order (R186): how far is a free value (log entry 63). -/
def State.copyAdvance (s : State) : State :=
  if s.age.busy && s.age.copying then
    (s.onAge fun a => { a with copyPos := max a.copyPos ((Config.freeWord s.free).toNat % 1048577) }).takeFree
  else s

/-- The doses of some emitters of a pass are written (R182). -/
def State.addDoses (s : State) (x : Sample) (l : List (Nat × Nat × Nat)) : State :=
  l.foldl (fun s q =>
    let px := q.1 / 3
    let w := x.weights.getD (zoneOf (px % 1024) (px / 1024)) 4096
    s.putDose q.1 (min (s.dose q.1 + doseInc q.2.1 q.2.2 w x.dtUs) 0xFFFFFFFFFFFF)) s.copyAdvance

/-- A pass that still runs at the next sampled flip is abandoned where it stands (R185): how far it has come is a free value. -/
def State.abandonPass (s : State) : State :=
  match s.age.sample with
  | some x => (s.addDoses x (x.emit.take ((Config.freeWord s.free).toNat % (x.emit.length + 1)))).takeFree
  | none => s

/-- The dose sample at flip `n` (R181 to R185): a pass that still runs is abandoned and counted. -/
def State.takeSample (s0 : State) (n : Nat) : State :=
  if n % 8 ≠ 0 || !s0.age.ledgerEn then s0
  else
    let s := s0.abandonPass
    let dt := match s.age.lastSampleUs with | some t => s.localUs - t + s.age.firstUs | none => s.periodsUs 8
    let lim := s.periodsUs 64
    let emit := (List.range 3145728).filterMap fun i =>
      match s.accrual (i / 3 % 1024) (i / 3072) (i % 3) with
      | some (c, l) => if c * l = 0 then none else some (i, c, l)
      | none => none
    s.onAge fun a =>
      { a with
        skipped := sat 16 (a.skipped + b2n a.sample.isSome + b2n (decide (lim < dt)))
        sample := some { emit := emit, weights := (List.range 1024).map fun z => weightOf (s.zoneTemp z) a.model.tRef a.model.dbl
                         dtUs := min dt lim, atUs := s.localUs }
        lastSampleUs := some (a.lastSampleUs.getD s.localUs)
        firstUs := if a.lastSampleUs.isNone then dt else a.firstUs }

/-- The pass of a sample is complete (R182): every dose is written. -/
def State.applySample (s : State) (x : Sample) : State :=
  (s.addDoses x x.emit).onAge fun a => { a with sample := none, samples := inc 16 a.samples, lastSampleUs := some x.atUs, firstUs := 0 }

/-! ### Efficiency (R195) -/

/-- The index i of R195’s loop. -/
def knotIndex (k : List (Nat × Nat)) (h : Nat) : Nat → Nat → Nat
  | 0, i => i
  | fuel + 1, i =>
    if i < 14 ∧ (k.getD (i + 1) (0, 0)).1 ≤ h ∧ (k.getD (i + 1) (0, 0)).1 < (k.getD (i + 2) (0, 0)).1 then knotIndex k h fuel (i + 1) else i

/-- The efficiency of a dose (R195), Q15; a C division truncates toward zero. -/
def eta (k : List (Nat × Nat)) (dose : Nat) : Nat :=
  let h := dose / 235929600
  let i := knotIndex k h 14 0
  let a := k.getD i (0, 0)
  let b := k.getD (i + 1) (0, 0)
  if b.1 = a.1 then a.2
  else
    let v : Int := a.2 - ((((a.2 : Int) - b.2) * ((h : Int) - a.1) + ((b.1 : Int) - a.1) / 2).tdiv ((b.1 : Int) - a.1))
    (max v 1).toNat

/-! ### The plan (R196 to R201) -/

/-- An emitter is counted (R196): its pixel is neither FENCED nor STUCK, and its address lies below n. -/
def State.counted (s : State) (p : Nat) : Bool :=
  let q := cellOf (p % 1024) (p / 1024)
  decide (q.2.1 < (s.ring q.1).n) && !recDark (s.calRec (p % 1024) (p / 1024))

/-- The efficiency of an emitter. -/
def State.etaOf (s : State) (p i : Nat) : Nat := eta (s.age.model.knots.getD i []) (s.dose (3 * p + i))

/-- The computed floor of colour `i` (R196): the (EXCLUDE + 1)-th lowest efficiency; with fewer counted emitters a free value (log
entry 24). -/
def State.floorOf (s : State) (i : Nat) : Nat :=
  let l := (List.range 1048576).filterMap fun p => if s.counted p then some (s.etaOf p i) else none
  if l.length ≤ s.age.exclude then (Config.emptyFloor i).toNat
  else searchBits 16 fun v => decide ((l.filter fun e => decide (e < v)).length ≤ s.age.exclude)

/-- P of a colour: the override, or the model’s planned level (R196, R200). -/
def Age.level (a : Age) (i : Nat) : Nat := if a.ovr.getD i 0 ≠ 0 then a.ovr.getD i 0 else a.model.level.getD i 0

/-- RES of a colour (R196). -/
def resOf (applied p : Nat) : Nat := if applied ≤ p then 0x8000 else (p * 0x8000 + applied / 2) / applied

/-- The history after one more entry (R201): 192 at most, the oldest dropped first. -/
def Age.addHistory (a : Age) (h : HistEntry) : List HistEntry := (a.history ++ [h]).drop ((a.history.length + 1) - 192)

/-- The horizon of colour `i` (R201) at `now` hours: hours and validity. -/
def horizonOf (hist : List HistEntry) (now floor p i : Nat) : Nat × Bool :=
  match hist.find? fun h => decide (now - h.hours ≤ 168) with
  | none => (0xFFFFF, false)
  | some h =>
    let f := h.floors.getD i 0
    (if floor ≤ p then 0 else if f ≤ floor then 0xFFFFF else min 0xFFFFF ((floor - p) * (now - h.hours) / (f - floor)),
     decide (24 ≤ now - h.hours))

/-- The pixels whose doses lie in a 64 B burst of the ledger. -/
def burstPixels (b : Nat) : List Nat :=
  (List.range 5).filterMap fun i =>
    let p := 64 * b / 18 + i
    if p ≤ (64 * b + 63) / 18 ∧ p < 1048576 then some p else none

/-- The start of a ledger half in the tile flash (R107). -/
def ledgerHalfAt (b : Bool) : Nat := if b then 0x2D00000 else 0x1A00000

/-- A ledger burst is uncorrectable (R185): the doses of its pixels come again from the half last loaded or stored; without one they are
zero. -/
def State.ledgerEcc (s : State) (b : Nat) : State :=
  ((burstPixels b).foldl (fun s p =>
    (List.range 3).foldl (fun s i =>
      s.putDose (3 * p + i)
        (if s.age.anyValid && !s.unitFenced 4 then ofLe (s.flashBytes (ledgerHalfAt s.age.half + 0x10000 + 18 * p + 6 * i) 6) else 0)) s)
    s.copyAdvance).raise 0x92 0

/-- Some of the engine’s reads cover the whole ledger: every burst that the ECC cannot correct by then is reloaded (R185). -/
def State.readLedger (s : State) : State := (s.age.upset.foldl State.ledgerEcc s).onAge fun a => { a with upset := [] }

/-- The floors, RES factors, history, horizon and reserve of a plan pass (R196 to R201); `boot`: without the step limit and in force at
once. PLAN_EN = 0 freezes compensation and RES (R209). The pass reads the whole ledger (R185). -/
def State.planPass (s0 : State) (boot : Bool) : State :=
  let s := s0.readLedger
  let floors := (List.range 3).map s.floorOf
  let a := s.age
  let applied := if !a.planEn then a.applied else (List.range 3).map fun i =>
    let f := floors.getD i 0
    if boot then f else clampN (a.applied.getD i 0 - 128) (a.applied.getD i 0 + 128) f
  let res := (List.range 3).map fun i => resOf (applied.getD i 0) (a.level i)
  let hist := a.addHistory { hours := s.opHours, floors := floors }
  let hor := (List.range 3).map fun i => horizonOf hist s.opHours (floors.getD i 0) (a.level i) i
  let ex := BitVec.ofNat 3 ((List.range 3).foldl (fun n i => if applied.getD i 0 ≤ a.level i then n + 2 ^ i else n) 0)
  let low := hor.all (fun h => h.2) && hor.any fun h => decide (h.1 < 720)
  let s1 := s.onAge fun a =>
    { a with
      passCount := a.passCount + 1, computed := floors, applied := applied, history := hist, horizon := hor.map (·.1), horizonOk := hor.map (·.2)
      exhausted := ex, low := low
      reserveMin := (List.range 3).foldl (fun m i => min m (applied.getD i 0 - a.level i)) 0xFFFF
      resNext := if a.planEn then some res else a.resNext, rewriteAt := if a.planEn then s.time.local_ else a.rewriteAt
      rewritePos := if a.planEn then 0 else a.rewritePos }
  let s2 := (List.range 3).foldl (fun s i => s.level (ex.getLsbD i) 0x95 i) s1
  if low then s2.raise 0x9A 0 else s2

/-! ### Working records (R93, R96, R98, R110, R196) -/

/-- The factory record of a pixel: from the tile flash, or the fallback of R115. -/
def State.factoryRec (s : State) (p : Nat) : BitVec 128 :=
  if s.col.factoryOk then BitVec.ofNat 128 (ofLe (s.flashBytes (0xA00000 + 16 * p) 16))
  else BitVec.ofNat 128 (2048 + 2048 * 2 ^ 48 + 2048 * 2 ^ 96)

/-- The start of a user calibration half in the tile flash (R107). -/
def userHalfAt (b : Bool) : Nat := if b then 0x640000 else 0x280000

/-- The stored user fields of a pixel (R110): 24 bits, zero when no half is valid. -/
def State.storedUser (s : State) (p : Nat) : Nat :=
  if s.col.userAny then ofLe (s.flashBytes (userHalfAt s.col.userHalf + 0x10000 + 3 * p) 3) else 0

/-- The stored fences of a pixel (R96): of the factory record and of the user partition. -/
def State.storedFence (s : State) (p : Nat) : Bool := (s.factoryRec p).getLsbD 126 || (s.storedUser p).testBit 18

/-- The compensation that a plan pass gives an emitter (R196): 1.0 in Q15 unless it is counted. -/
def State.compensation (s : State) (p i : Nat) : Nat :=
  if s.counted p then
    let e := s.etaOf p i
    min 0x8000 ((s.age.applied.getD i 0 * 0x8000 + e / 2) / max 1 e)
  else 0x8000

/-- A working record (R93): factory coefficients under the compensation in force since the last rewrite, the user deltas, FENCED as the OR of the three fences, and
the factory STUCK. -/
def State.makeRec (s : State) (p : Nat) (ug : List Int) (userFence : Bool) : BitVec 128 :=
  let f := s.factoryRec p
  let coef := (List.range 9).foldl (fun n k =>
    n + min 4095 ((2 * recW f (k / 3) (k % 3) * (sget 0x8000 (3 * p + k / 3) s.age.comp).toNat + 0x8000) / 0x10000) * 2 ^ (12 * k)) 0
  let gains := (List.range 3).foldl (fun n i => n + sfield 6 (ug.getD i 0) * 2 ^ (108 + 6 * i)) 0
  let fenced := f.getLsbD 126 || userFence || s.col.rtFence.contains p
  BitVec.ofNat 128 (coef + gains + b2n fenced * 2 ^ 126 + b2n (f.getLsbD 127) * 2 ^ 127)

/-- A working record written. -/
def State.putRec (s : State) (p : Nat) (r : BitVec 128) : State := s.dramStore (0xC00000 + 16 * p) (leBytes 16 r.toNat)

/-- A pixel’s working record rewritten by a plan pass (R97, R196): the coefficients are new, and the fields of a CAL update, FENCED and STUCK
stay. -/
def State.rewriteRec (s : State) (p : Nat) : State :=
  let r := s.calRec (p % 1024) (p / 1024)
  s.putRec p (BitVec.ofNat 128 ((s.makeRec p [] false).toNat % 2 ^ 108 + r.toNat / 2 ^ 108 * 2 ^ 108))

/-- A pixel number put into a rising list, or taken out of it. -/
def setMember (p : Nat) (on : Bool) (l : List Nat) : List Nat :=
  if on then (l.filter fun q => decide (q < p)) ++ p :: l.filter fun q => decide (p < q) else l.filter (· != p)

/-- The user fields of a pixel in the stored form (R110), from its working record. -/
def State.userWord (s : State) (p : Nat) : Nat :=
  let r := s.calRec (p % 1024) (p / 1024)
  (List.range 3).foldl (fun n i => n + sfield 6 (recUg r i) * 2 ^ (6 * i)) 0 + b2n (s.col.userFence.contains p) * 2 ^ 18

/-- The user fields of a pixel are about to change: a running store keeps those that it has copied (R111). -/
def State.keepCopied (s : State) (p : Nat) : State :=
  if s.col.userStore && decide (p < s.col.storePos) && !(s.col.storeOld.any fun q => q.1 == p) then
    s.onCol fun c => { c with storeOld := (p, BitVec.ofNat 24 (s.userWord p)) :: c.storeOld }
  else s

/-- The user fields that a store writes for a pixel: as it copied them (R111). -/
def State.storeWord (s : State) (p : Nat) : Nat :=
  match s.col.storeOld.find? fun q => q.1 == p with | some q => q.2.toNat | none => s.userWord p

/-- The running store has copied some more pixels, in pixel order (R111): the spec gives no rate, so how far is a free value
(log entry 63). It pauses while a ledger store copies (R187). -/
def State.storeAdvance (s : State) : State :=
  if s.col.userStore && !(s.age.busy && s.age.copying) then
    (s.onCol fun c => { c with storePos := max c.storePos ((Config.freeWord s.free).toNat % 1048577) }).takeFree
  else s

/-- The user fields of one pixel’s working record changed (R96). UNFENCE rebuilds FENCED from the factory record, the user partition and
the run-time fences. -/
def State.calPixel (s0 : State) (q : CalReq) (p : Nat) : State :=
  let s := s0.keepCopied p
  let r := s.calRec (p % 1024) (p / 1024)
  let ug := (List.range 3).map fun i => if q.add then clampI (-32) 31 (recUg r i + q.ug.getD i 0) else q.ug.getD i 0
  let fenced := if q.fence then true else if q.unfence then s.storedFence p || s.col.rtFence.contains p else r.getLsbD 126
  let v := r.toNat % 2 ^ 108 + (List.range 3).foldl (fun n i => n + sfield 6 (ug.getD i 0) * 2 ^ (108 + 6 * i)) 0
    + b2n fenced * 2 ^ 126 + b2n (r.getLsbD 127) * 2 ^ 127
  (s.putRec p (BitVec.ofNat 128 v)).onCol fun c =>
    { c with userFence := if q.fence || q.unfence then setMember p q.fence c.userFence else c.userFence }

/-- The pixels of a request, in pixel order. -/
def CalReq.pixels (q : CalReq) : List Nat :=
  (List.range (q.w * q.h)).map fun i => 1024 * (q.y + i / q.w) + q.x + i % q.w

/-- The running CAL update has rewritten its records up to `n`, in pixel order (R97). -/
def State.calUpTo (s : State) (q : CalReq) (n : Nat) : State :=
  (((q.pixels.take n).drop s.col.calPos).foldl (fun s p => s.calPixel q p) s.storeAdvance).onCol fun c =>
    { c with calPos := max c.calPos n }

/-- The records that a CAL update has rewritten at least, 8,192 for each millisecond since its start (R97). -/
def State.calLeast (s : State) : Nat := (s.time.local_ - s.col.calAt) * 8192 / 65536000000

/-- The running CAL update goes on (R97): to a free place, not behind the stated rate (log entry 63). -/
def State.calAdvance (s : State) : State :=
  match s.col.calRunning, s.col.calQueue.head? with
  | true, some q =>
    let total := q.w * q.h
    s.takeFree.calUpTo q (min total (max s.calLeast ((Config.freeWord s.free).toNat % (total + 1))))
  | _, _ => s

/-- A pixel’s working record rebuilt with stored user fields (R98). -/
def State.rebuildRec (s0 : State) (p : Nat) : State :=
  let s := s0.keepCopied p
  let u := s.storedUser p
  let fence := u.testBit 18
  let s1 := s.onCol fun c =>
    { c with userFence := setMember p fence c.userFence }
  s1.putRec p (s1.makeRec p ((List.range 3).map fun i => ofSfield 6 (u / 2 ^ (6 * i))) fence)

/-- The compensation of a pixel’s emitters put in force (R196). -/
def State.planComp (s : State) (p : Nat) : State :=
  let c := (List.range 3).map fun i => BitVec.ofNat 16 (s.compensation p i)
  s.onAge fun a => { a with comp := (List.range 3).foldl (fun m i => sset 0x8000 (3 * p + i) (c.getD i 0x8000) m) a.comp }

/-- The rewrite of a plan pass has done the records up to `n`, in pixel order (R197). -/
def State.rewriteTo (s : State) (n : Nat) : State :=
  (((List.range n).drop s.age.rewritePos).foldl (fun s p => (s.planComp p).rewriteRec p) s).onAge fun a =>
    { a with rewritePos := max a.rewritePos n }

/-- The rewrite of the latest plan pass goes on at the rate of R97, to a free place not behind it (R197, log entry 63), record by record beside
a CAL update that runs, so that neither loses the other’s fields. -/
def State.rewriteAdvance (s : State) : State :=
  if s.age.resNext.isNone || s.unitFenced 4 then s
  else
    let least := (s.time.local_ - s.age.rewriteAt) * 8192 / 65536000000
    s.takeFree.rewriteTo (min 1048576 (max least ((Config.freeWord s.free).toNat % 1048577)))

/-- Every working record rewritten with the compensation of the latest plan pass (R191). -/
def State.rewriteAll (s : State) : State := s.rewriteTo 1048576

end Sys2Proof.Machine
end

