-- ==== Sys2Proof/Machine/Composer.lean ====
section
/-!
DEFINITION. Sys2Proof/Machine/Composer.lean: COMMIT and its admission, timing modes, the take point, the flip, and the rows of
chapters 2 and 3 that the pipeline performs.
-/

namespace Sys2Proof.Machine

/-! ### COMMIT (R54 to R59) -/

/-- The word that reports an admission (R71, R235). -/
def commitWord (code : Byte) (layer detail token : Nat) : Word := pack [(0, code.toNat), (8, layer), (12, detail), (16, token)]

/-- The admission of the commit at the head starts: it snapshots the shadow parts and supersedes an unread result (R57, R59). -/
def State.startAdmission (s : State) : State :=
  s.onComp fun c =>
    if c.queue.isEmpty then { c with admitting := none }
    else { c with admitting := some { layers := c.layers.map fun l => l.shadow, bg := c.bg, conf := c.conf }, resFresh := false }

/-- A COMMIT request in the layout of COMP_COMMIT (R54, R55): BUSY, or queued. -/
def State.requestCommit (s : State) (w : Word) (by_ : Issuer) : Byte × State :=
  if 5 ≤ s.comp.queue.length then (stBusy, s)
  else
    let q : CommitReq := { mask := BitVec.ofNat 16 (fld w 15 0), globals := w.getLsbD 16, token := BitVec.ofNat 8 (fld w 31 24), by_ := by_ }
    let s1 := s.onComp fun c => { c with queue := c.queue ++ [q] }
    (stOk, if s.comp.queue.isEmpty then s1.startAdmission else s1)

/-- The frame rate, blanking that admission uses: those of the pending mode while one is pending (R61). -/
def State.planRate (s : State) : Nat × Nat × Nat :=
  match s.comp.pendingMode with
  | some m => (m.num, m.den, m.vblankUs)
  | none => (s.comp.num, s.comp.den, s.comp.vblankActive)

/-- The candidate configuration (R57). -/
def State.candidate (s : State) (snap : CommitSnap) (mask : BitVec 16) : List LayerWords :=
  (List.range 16).map fun i =>
    if mask.getLsbD i then snap.layers.getD i {}
    else match s.comp.pending with
      | some p => p.layers.getD i {}
      | none => (s.layer i).active

/-- The descriptors in force or pending. -/
def State.planned (s : State) : List LayerWords :=
  match s.comp.pending with | some p => p.layers | none => s.comp.layers.map fun l => l.active

/-- The first failing row of R37 for an enabled layer, with its DETAIL (R58). -/
def State.layerRefusal (s : State) (d : LayerWords) : Option (Byte × Nat) :=
  let c := s.ctx d.context
  let idle := c.w0.getLsbD 4
  let stride := if idle then 0x200000 else c.stride.toNat
  let lo := fun (a b : Nat) => min a b
  let multiple := fun (a b : Nat) => lo a b != 0 && max a b % lo a b == 0
  if d.srcW < 1 ∨ 8192 < d.srcW ∨ d.srcH < 1 ∨ 4096 < d.srcH ∨ d.dstW < 1 ∨ 8192 < d.dstW ∨ d.dstH < 1 ∨ 8192 < d.dstH then some (stBadLen, 1)
  else if 8 * d.srcW < d.dstW ∨ 8 * d.dstW < d.srcW ∨ 8 * d.srcH < d.dstH ∨ 4 * d.dstH < d.srcH then some (stBadLen, 2)
  else if d.scaleMode = 0 ∧ !(multiple d.srcW d.dstW && multiple d.srcH d.dstH) then some (stBadLen, 3)
  else if d.pitch % 64 ≠ 0 ∨ d.pitch < 64 ∨ 65536 < d.pitch then some (stBadAddr, 1)
  else if d.pitch < (d.srcX + d.srcW) * bpp d.format then some (stBadAddr, 2)
  else if stride < (d.srcY + d.srcH) * d.pitch then some (stBadAddr, 3)
  else if !c.w0.getLsbD 0 || !(idle || c.stride != 0) then some (stBadAddr, 4)
  else if d.alphaMode = 3 ∨ 1 < d.scaleMode then some (stBadLen, 4)
  else none

/-- Two live members of the sync group of a layer have different CADENCE (R51). -/
def groupFails (ds : List LayerWords) (g : Nat) : Bool :=
  match ds.filter fun d => d.enable && !d.pinned && d.group == g with
  | [] => false
  | d :: l => g != 0 && l.any fun e => e.cadence != d.cadence

/-- A pinned buffer holds a complete frame (R58, R313). -/
def State.pinReady (s : State) (d : LayerWords) : Bool :=
  let c := s.ctx d.context
  if c.w0.getLsbD 4 then d.pinBuf == 0 && s.col.idleOk
  else decide (d.pinBuf < fld c.w0 3 1) && (c.bufs.getD d.pinBuf {}).complete

/-- The verdict of admission (R58): CODE, LAYER, DETAIL. -/
def State.admission (s : State) (snap : CommitSnap) (q : CommitReq) : Byte × Nat × Nat :=
  let ds := s.candidate snap q.mask
  let hz := fld snap.conf 4 0
  let enabled := (List.range 16).filter fun i => (ds.getD i {}).enable
  let (num, den, vb) := s.planRate
  if s.unitFenced 0 then (stFenced, 0, 0)
  else if q.globals && decide (hz < 1 ∨ 30 < hz) then (stBadLen, 0, 6)
  else match enabled.findSome? fun i => (s.layerRefusal (ds.getD i {})).map fun r => (r.1, i, r.2) with
    | some r => r
    | none =>
      match enabled.find? fun i => groupFails ds (ds.getD i {}).group with
      | some i => (stBadLen, (enabled.find? fun j => (ds.getD j {}).group == (ds.getD i {}).group).getD i, 5)
      | none =>
        match enabled.find? fun i => (ds.getD i {}).pinned && !s.pinReady (ds.getD i {}) with
        | some i => (stNotReady, i, 1)
        | none =>
          let ls := admittedSet ds
          if !dramFits (s.costBytes ls ds) num den then (stBudget, 0, 1)
          else if !pixelFits (costPixels ls) num den vb s.therm.skip then (stBudget, 0, 2)
          else (stOk, 0, 0)

/-- COMMIT_ADMISSION (R55 to R59): the commit at the head is admitted or refused, all or nothing; the next one’s admission starts. -/
def execCommitAdmission (s : State) : Host.Outcome State Fault Refusal :=
  match s.comp.admitting, s.comp.queue with
  | some snap, q :: rest =>
    let (code, layer, detail) := s.admission snap q
    let s1 := s.onComp fun c =>
      { c with
        queue := rest, resCode := code, resLayer := layer, resDetail := detail, resToken := q.token, resFresh := true
        pending := if code = stOk then
            some { layers := s.candidate snap q.mask
                   mask := (match c.pending with | some p => p.mask | none => 0) ||| q.mask
                   globals := if q.globals then some (snap.bg, snap.conf)
                     else match c.pending with | some p => p.globals | none => none }
          else c.pending }
    done (((s1.issuerReply q.by_ code (commitWord code layer detail q.token.toNat)).fire 20).startAdmission)
  | _, _ => .next s

/-! ### Timing modes (R60 to R63, R99, R174) -/

/-- A segment plan is refused (R174) for a frame period in bit periods. -/
def segRefused (seg : BitVec 24) (period : Nat) : Bool :=
  let f := fun (hi lo : Nat) => (seg.toNat >>> lo) % 2 ^ (hi + 1 - lo)
  let segLen := period / 2 ^ f 2 0
  f 2 0 == 7 || f 4 3 == 3 || f 23 18 != 0 || decide (segLen / 2 < 32 * f 17 13) || decide (segLen - 32 * f 17 13 < 4 * f 12 5)

/-- The four words of a MODE block make a mode, or are refused with BAD_LEN (R20, R60, R71, R99, R174, R235). -/
def State.modeOf (s : State) (w0 w1 w2 w3 : Word) : Option Mode :=
  let num := fld w0 15 0
  let den := fld w0 31 16
  let vb := if fld w2 31 16 = 0 then s.comp.vblankUs else fld w2 31 16
  let seg := BitVec.ofNat 24 (fld w1 23 0)
  let period := (den * 800000000 + num / 2) / num
  if num = 0 ∨ den = 0 ∨ num * 1001 < 24000 * den ∨ 240 * den < num then none
  else if fld w1 31 24 ≠ 0 ∨ fld w2 15 5 ≠ 0 then none
  else if segRefused seg period ∨ fld w2 4 0 < 12 ∨ 16 < fld w2 4 0 then none
  else if vb < 64 ∨ den * 1000000 < 4 * vb * num then none
  else some { num := num, den := den, seg := seg, depth := fld w2 4 0, vblankUs := vb, target := w3 }

/-- The take point of a target flip has passed (R60). While W is not valid no take point occurs: a MODE is then never STALE and waits (DESIGN
CHOICE, log entry 90). -/
def State.modeStale (s : State) (m : Mode) : Bool :=
  let now := flipAt s.comp.num s.comp.den s.wNs
  let d := (m.target - BitVec.ofNat 32 now).toInt
  let flip := ((now : Int) + d).toNat
  m.target != 0 && s.time.valid
    && (decide (d ≤ 0) || decide (flipNs s.comp.num s.comp.den flip ≤ s.wNs + s.comp.vblankActive * 1000))

/-- The planned configuration fits the budget of a mode (R61). -/
def State.modeFits (s : State) (m : Mode) : Bool :=
  let ls := admittedSet s.planned
  dramFits (s.costBytes ls s.planned) m.num m.den && pixelFits (costPixels ls) m.num m.den m.vblankUs 0

/-- A MODE request (R60, R61, R235): its status, and the state after it. -/
def State.requestMode (s : State) (w0 w1 w2 w3 : Word) : Byte × State :=
  if s.comp.pendingMode.isSome then (stBusy, s)
  else match s.modeOf w0 w1 w2 w3 with
    | none => (stBadLen, s)
    | some m =>
      if s.modeStale m then (stStale, s)
      else if !s.modeFits m then (stBudget, s)
      else (stOk, s.onComp fun c => { c with pendingMode := some m, vblankUs := m.vblankUs })

/-- The pending mode takes effect at take point `n` (R60), and whether it alters the frame rate (R63). The feeders send its segment plan and
PERIOD, which the LATCH of flip `n` applies (R62, step 2 of R63). -/
def State.applyMode (s : State) (n : Nat) : State × Bool :=
  match s.comp.pendingMode with
  | none => (s, false)
  | some m =>
    if m.target = 0 ∨ 0 ≤ (BitVec.ofNat 32 n - m.target : BitVec 32).toInt then
      let rate := m.num * s.comp.den != s.comp.num * m.den
      let s1 := { s with
        comp := { s.comp with pendingMode := none, num := m.num, den := m.den, vblankActive := m.vblankUs
                              rateStep := if rate then 1 else s.comp.rateStep }
        led := { s.led with plan := m.seg }
        col := { s.col with depth := m.depth } }
      -- the new plan reaches the shadows before the LATCH of this flip
      let s2 := s1.each 64 fun s k => if (s.ring k).up then
          s.onRing k fun r => r.put (bothEnds (r.mode == .hinge) (segWords m.seg s1.periodBits))
        else s
      (if rate then (s2.stopSweep).onWard fun w => w.closeProof 64 else s2, rate)
    else (s, false)

/-! ### The take point (R49 to R52, R57, R68) -/

/-- What R49 finds for an enabled layer before the sync-group rule. -/
inductive Readiness where
  | pinned
  | fresh
  | repeat_
  | late
  deriving DecidableEq, Repr

/-- The newest complete frame of a layer’s context: number and buffer (R45, R313). -/
def State.newestOf (s : State) (d : LayerWords) : Option (Word × Nat) :=
  let c := s.ctx d.context
  if c.w0.getLsbD 4 then (if s.col.idleOk then some (0, 0) else none)
  else if c.hasNewest then some (c.newest, c.newestBuf) else none

/-- R49 for one layer. -/
def State.readiness (s : State) (l : Layer) : Readiness :=
  if l.active.pinned then .pinned
  else match s.newestOf l.active with
    | some (f, _) =>
      if !l.shownValid || f != l.shownSeq then .fresh
      else if l.active.cadence != 0 && decide (l.active.cadence ≤ min (l.since + 1) 15) then .late else .repeat_
    | none => if l.active.cadence != 0 && decide (l.active.cadence ≤ min (l.since + 1) 15) then .late else .repeat_

/-- The layer is transparent under R50 once this take point is evaluated. -/
def Layer.transparentAt (l : Layer) (r : Readiness) : Bool :=
  match r with
  | .late => decide (l.active.nHold < l.hold + 1) || !l.shownValid
  | _ => false

/-- Some member of the sync group is late and not transparent (R51). -/
def State.groupLate (s : State) (rs : List Readiness) (g : Nat) : Bool :=
  g != 0 && (List.range 16).any fun i =>
    let l := s.layer i
    l.active.enable && l.active.group == g && rs.getD i .repeat_ == .late && !l.transparentAt .late

/-- One enabled layer at the take point (R49 to R51); `held`: its group makes it repeat. The pseudocode of R49 decides what a
transparent layer does at a take point that is not late, or late with N_HOLD raised meanwhile: SHOWING and HOLDING (DEDUCED, log entry
73, against R50’s "at the first take point at which a newer complete frame exists"). HOLD_COUNT stays at 15 once it has reached it
(DEDUCED, log entry 73). A transparent member with a newer frame in a group that a late member holds stays TRANSPARENT, and the other held
members read SHOWING (R51; DESIGN CHOICE, log entry 73). -/
def State.takeLayer (s : State) (l : Layer) (r : Readiness) (held : Bool) : Layer :=
  let since := min (l.since + 1) 15
  match r with
  | .pinned =>
    { l with since := 0, hold := 0, lstate := .showing, late := false, shownValid := true, shownBuf := l.active.pinBuf
             shownSeq := ((s.ctx l.active.context).bufs.getD l.active.pinBuf {}).frame }
  | .fresh =>
    if held then { l with since := since, late := false, lstate := if l.lstate == .transparent then .transparent else .showing }
    else match s.newestOf l.active with
      | some (f, b) => { l with since := 0, hold := 0, lstate := .showing, late := false, shownValid := true, shownBuf := b, shownSeq := f }
      | none => l
  | .repeat_ => { l with since := since, late := false, lstate := .showing }
  | .late =>
    { l with since := since, hold := min 15 (l.hold + 1), late := true, lateTotal := inc 16 l.lateTotal
             lstate := if l.active.nHold < l.hold + 1 then .transparent else if l.shownValid then .holding else .transparent }

/-- Layer readiness at a take point (R49 to R51), with its faults: LAYER_HOLD_EXPIRED once while the layer stays transparent, and
LAYER_RETURNED when it takes a frame again. -/
def State.layersTake (s : State) : State :=
  let rs := (List.range 16).map fun i => s.readiness (s.layer i)
  (List.range 16).foldl (fun t i =>
    let l := s.layer i
    if !l.active.enable then
      (t.onLayer i fun l => { l with lstate := .off, late := false, shownValid := false }).endCond 0x40 i
    else
      let r := rs.getD i .repeat_
      let held := s.groupLate rs l.active.group && !l.active.pinned
      let l1 := s.takeLayer l r held
      let t1 := t.onLayer i fun _ => l1
      if r == .late && decide (l1.active.nHold < l.hold + 1) then t1.raise 0x40 i
      else if l1.lstate == .showing || l1.lstate == .holding then
        let t2 := t1.endCond 0x40 i
        if l.lstate == .transparent && r == .fresh && !held then t2.raise 0x41 i else t2
      else t1) s

/-- A commit that enables a layer, or changes its CONTEXT, SRC_MODE or PIN_BUF, resets SINCE, HOLD_COUNT and the shown frame (R52); one
that changes CADENCE or SYNC_GROUP, which R52 names in neither list, keeps them (DESIGN CHOICE, log entry 73). -/
def Layer.adopt (l : Layer) (d : LayerWords) (named : Bool) : Layer :=
  let moved := d.context != l.active.context || d.pinned != l.active.pinned || d.pinBuf != l.active.pinBuf
  let l1 := { l with active := d }
  if (d.enable && !l.active.enable) || (named && moved) then
    { l1 with since := 0, hold := 0, shownValid := false, shownBuf := 0, shownSeq := 0 } else l1

/-- The admitted cost of the active configuration as the registers show it (R34, R71). -/
def State.recost (s : State) : State :=
  let ds := s.comp.layers.map fun l => l.active
  let ls := admittedSet ds
  s.onComp fun c =>
    { c with
      countedOpaque := BitVec.ofNat 16 (ls.foldl (fun n q => if q.2.2 then n + 2 ^ q.1 else n) 0)
      activeMbps := mbpsUp (s.costBytes ls ds) c.num c.den, activePx := pxUp (costPixels ls)
      layers := (List.range 16).map fun i =>
        let l := c.layers.getD i {}
        if l.active.enable then
          { l with costMbps := mbpsUp (fetchBytes ls i l.active * 360360) c.num c.den, costPx := pxUp (layerPx ls i l.active) }
        else { l with costMbps := 0, costPx := 0 } }

/-- The pending configuration becomes active (R57). -/
def State.commitTake (s : State) : State :=
  match s.comp.pending with
  | none => s
  | some p =>
    let moved := (List.range 16).any fun i =>
      let d := p.layers.getD i {}
      let a := (s.layer i).active
      d.context != a.context || d.pinned != a.pinned
    let s1 := s.onComp fun c =>
      { c with
        pending := none
        bgActive := match p.globals with | some g => g.1 | none => c.bgActive
        confActive := match p.globals with | some g => g.2 | none => c.confActive
        layers := (List.range 16).map fun i => (c.layers.getD i {}).adopt (p.layers.getD i {}) (p.mask.getLsbD i) }
    if moved then s1.onWard fun w => w.closeProof 16 else s1

/-- Layers counted as opaque that have gone transparent (R68): the cost is recomputed once, and an overrun shows the background. -/
def State.recheck (s : State) : State :=
  let gone := (List.range 16).any fun i => s.comp.countedOpaque.getLsbD i && (s.layer i).active.enable && (s.layer i).lstate == .transparent
  let ds := s.comp.layers.map fun l => l.active
  let ls : LayerSet := (List.range 16).filterMap fun i =>
    let l := s.layer i
    if l.displayed then some (i, l.active, l.active.opaque) else none
  let fits := dramFits (s.costBytes ls ds) s.comp.num s.comp.den && pixelFits (costPixels ls) s.comp.num s.comp.den s.comp.vblankActive 0
  let s1 := s.onComp fun c =>
    { c with
      layers := (List.range 16).map fun i =>
        let l := c.layers.getD i {}
        { l with culled := l.active.enable && decide (visiblePx ls i l.active = 0) } }
  s1.onComp fun c => { c with uncovered := gone && !fits }

/-- A thread that waits for a take point (R230). -/
def Thread.takePoint (t : Thread) (n : Nat) : Thread :=
  match t.st, t.wait with
  | .waiting, .take rd left => if left ≤ 1 then t.wake rd (BitVec.ofNat 32 n) else { t with wait := .take rd (left - 1) }
  | _, _ => t

/-- Accepted trims enter force together (R448). -/
def State.applyTrims (s : State) : State :=
  s.onTherm fun t => if t.trimPending then { t with trims := t.trimNew, trimPending := false } else t

/-- Colour settings, caps, reserve factors and trims that await a take point (R75, R78, R89, R91, R448). -/
def State.colourTake (s : State) : State :=
  let s1 := s.onCol fun c =>
    { c with
      active := c.pending.getD c.active, pending := none, limitActive := c.limit, halted := s.unitFenced 1
      envActive := c.envPending.getD c.envActive, envPending := none
      envLowest := match c.envPending with
        | some t => t.foldl (fun m q => min m q.2.toNat) 0xFFFF
        | none => c.envLowest
      envBad := if c.envPending.isSome then [] else c.envBad
      res := s.age.resReady.getD c.res
      calRunning := c.calRunning || !c.calQueue.isEmpty
      calAt := if c.calRunning then c.calAt else s.time.local_
      calPos := if c.calRunning then c.calPos else 0 }
  let s2 := (s1.onAge fun a => { a with resReady := none }).applyTrims
  if s.col.envPending.isSome then s2.endCond 0x50 0 else s2

/-- The own tile-map entry as it stands at the take point (R100). -/
def State.placeTake (s : State) : State :=
  let e := s.mapEntry s.wall.id.toNat
  s.onComp fun c => { c with tileX := bits128 e 35 16, tileY := bits128 e 55 36, tileRot := bits128 e 57 56 }

/-- A trigger whose target is at `target` ns of W fires (R335): W has reached it; one at or before the target that fired last, or within a
span in which such triggers fired while W was valid before, is an instant that a backward step has brought back, and never fires again (R333). -/
def State.due (s : State) (target : Int) (last : Option Nat) (spans : List (Nat × Nat)) : Bool :=
  s.time.valid && decide (target ≤ s.wNs) && (match last with | none => true | some t => decide ((t : Int) < target))
    && !spans.any fun q => decide ((q.1 : Int) ≤ target ∧ target ≤ q.2)

/-- The instant of flip `n` in ns of W under the frame rate in force (R319). -/
def State.flipAtNs (s : State) (n : Nat) : Nat := flipNs s.comp.num s.comp.den n

/-- Flip `n` is on the new grid: F′ of a rate change is the first flip at least one new period after F (step 3 of R63). -/
def State.onGrid (s : State) (n : Nat) : Bool :=
  s.comp.rateStep == 0 || decide (s.comp.rateFlip * s.comp.wasDen * s.comp.num + s.comp.den * s.comp.wasNum ≤ n * s.comp.den * s.comp.wasNum)

/-- The take point of flip `n` is due: VBLANK before the flip (R20, R335). -/
def State.takeDue (s : State) (n : Nat) : Bool :=
  s.due (s.flipAtNs n - s.comp.vblankActive * 1000 : Nat) s.comp.lastTakeNs s.comp.takeSpans && s.onGrid n

/-- TAKE_POINT of flip `n` (R49): the row stands for the instant VBLANK before the flip. From the first one on, the limits of R71 read the
budget of the rate in force (DESIGN CHOICE, log entry 6). -/
def execTakePoint (n : Nat) (s : State) : Host.Outcome State Fault Refusal :=
  if !s.running || s.eng.st == .boot || !s.takeDue n then .next s
  else
    let commit := s.comp.pending.isSome
    let s1 := s.commitTake
    let (s2, rate) := s1.beginRings.applyMode n
    let s3 := if commit || s.comp.pendingMode != s2.comp.pendingMode then s2.recost else s2
    let s4 := s3.decideLatch rate
    let s5 := (s4.colourTake).layersTake.recheck
    let s6 := s5.onComp fun c =>
      let keep := rate
      { c with
        lastTake := n, lastTakeNs := some (s.flipAtNs n - s.comp.vblankActive * 1000)
        firstTakeNs := some (c.firstTakeNs.getD (s.flipAtNs n - s.comp.vblankActive * 1000)), takenFlipNs := s.flipAtNs n
        wasNum := if rate then s.comp.num else c.wasNum, wasDen := if rate then s.comp.den else c.wasDen
        rateFlip := if rate then n else c.rateFlip
        takeCount := c.takeCount + 1, rateSet := true, bgOnly := s.unitFenced 0
        toLatch := if keep then c.toLatch else c.inBack
        inBack := if keep then c.inBack else c.layers
        litFrame := if keep then c.litFrame else s.litState || (s.saf.fading && c.litFrame) }
    let s7 := if s6.rings.cairnOn then s6 else s6.ledEvaluate true
    let s8 := (s7.placeTake).onTum fun m => { m with threads := m.threads.map fun t => t.takePoint n }
    done (s8.fire 8)

/-! ### The flip (R63, R69, R127, R139, R144, R181, R366) -/

/-- The destination of STATUS and CONFIDENCE frames (R309). -/
def State.statusDest (s : State) : Nat :=
  if fld s.wall.statusDest 11 0 ≠ 0 then fld s.wall.statusDest 11 0
  else match s.wall.lastTagged with | some d => d.toNat | none => 0xFFF

/-- N of the confidence stream: the smallest with f / N ≤ CONF_HZ (R69). -/
def State.confEvery (s : State) : Nat :=
  let hz := max 1 (fld s.comp.confActive 4 0)
  (s.comp.num + s.comp.den * hz - 1) / (s.comp.den * hz)

/-- Whether the frame that this flip begins is sent upstream as it is composed (R69, R70): every N-th one while DEGRADED is clear. N counts
from the flip at which CONF_EN is in force and DEGRADED clear, so the first picture is the N-th flip after (DESIGN CHOICE, log entry 90). -/
def State.confidence (s : State) : State :=
  if !s.comp.confActive.getLsbD 8 || s.degraded then s.onComp fun c => { c with confCount := 0, confOn := false, confRows := [] }
  else if s.comp.confCount + 1 < s.confEvery then
    s.onComp fun c => { c with confCount := c.confCount + 1, confOn := false, confRows := [] }
  else s.onComp fun c => { c with confCount := 0, confOn := true, confRows := [] }

/-- The MEAS word of a round (R124, R144). -/
def Ring.sendMeas (kind round : Nat) (r : Ring) : Ring :=
  r.put (bothEnds (r.mode == .hinge) [(true, .ctl 0x07 (BitVec.ofNat 24 (kind + round * 4)))])

/-- A measurement round (R144): step 3 of R127. The READ of the round sent in the previous frame goes out first. -/
def State.measRound (s : State) : State :=
  let u := s.rings
  if u.sweep == .none then s.onRings fun u => { u with reading := .none }
  else
    let kind := if u.sweep == .vf then 1 else 2
    let rounds := if u.sweep == .vf then 48 else 1
    let read := fun (s : State) => match s.rings.sent with
      | none => s
      | some _ => s.each 64 fun s k => if (s.ring k).up then s.onRing k fun r => r.put (r.readAll k s.rings.seq.toNat kind) else s
    let s1 := read s
    -- the round read now is complete with this frame; the sweep is over once the last one is read
    let s2 := s1.onRings fun u => { u with round := u.sent.getD u.round, sent := none, reading := if u.sent.isSome then u.sweep else .none }
    if u.sent.isSome && rounds ≤ u.rounds then
      (s2.onRings fun u => { u with sweep := .none, measFresh := true }).fire 19
    else if u.toNext ≤ 1 && u.rounds < rounds then
      (s2.each 64 fun s k => if (s.ring k).up then s.onRing k (Ring.sendMeas kind u.rounds) else s).onRings
        fun u => { u with sent := some u.rounds, rounds := u.rounds + 1, toNext := u.interval }
    else s2.onRings fun u => { u with toNext := u.toNext - 1 }

/-- The instant of flip `n` in ns of W: the flip at whose take point a new frame rate came into force keeps its own (R63). -/
def State.flipTarget (s : State) (n : Nat) : Nat := if s.comp.rateStep = 1 then s.comp.takenFlipNs else s.flipAtNs n

/-- Flip `n` is due (R319, R335). While the frame rate changes, the next flips are F and F′ (R63). -/
def State.flipDue (s : State) (n : Nat) : Bool :=
  s.due (s.flipTarget n) s.comp.lastFlipNs s.comp.flipSpans && (if s.comp.rateStep = 1 then n == s.comp.rateFlip else s.onGrid n)

/-- Flip `n` of the local counter at the mode’s frame period is due, while SSG is in force (R183). -/
def State.localFlipDue (s : State) (n : Nat) : Bool :=
  s.running && s.eng.st != .boot && s.rings.cairnOn && decide (s.comp.localFlip < n ∧ n ≤ flipAt s.comp.num s.comp.den s.localNs)

/-- The dose sample of a flip of the local counter (R183). -/
def State.localSample (s : State) (n : Nat) : State := (s.onComp fun c => { c with localFlip := n }).takeSample n

/-- FLIP `n` (R319): cells apply the LATCH launched for it; the signature, the dose sample, the confidence frame and the proof record
follow; then the next frame starts, but for step 1 of a rate change (R63). While the sign is shown the dose is sampled at the flips of the local
counter instead (R183). -/
def execFlip (n : Nat) (s0 : State) : Host.Outcome State Fault Refusal :=
  let s := if s0.localFlipDue n then s0.localSample n else s0
  if !s.running || s.eng.st == .boot || !s.time.valid || !s.flipDue n then (if s0.localFlipDue n then done s else .next s0)
  else
    let codes := fun k => (s.ring k).launched == some true
    let s0 := s.beginRings
    let s1 := if s.rings.cairnOn then s0.onRings fun u => { u with rings := u.rings.map fun r => { r with latched := false } }
      else s0.each 64 State.latchRing
    let missed := !s.rings.cairnOn && (List.range 64).any fun k => (s1.ring k).missed
    let s2 := (if missed then s1.fire 17 else s1).formSignature n codes
    let s3 := if s2.rings.cairnOn then s2 else s2.takeSample n
    let lag := s3.led.rising && decide (s3.refNow < s3.led.setMv)
    let s4 := s3.onLed fun l => { l with rising := false, lag := if lag then inc 8 l.lag else l.lag }
    let s5 := if lag then s4.raise 0x7B 0 else s4
    let s6 := (s5.onComp fun c => { c with lastFlip := n, lastFlipNs := some (s.flipTarget n),
                                           firstFlipNs := some (c.firstFlipNs.getD (s.flipTarget n)) }).proofFlip n
    let s7 := if s6.rings.cairnOn then s6 else (s6.each 64 State.resendCells)
    let s8 := if s6.comp.rateStep = 1 then s7.onComp fun c => { c with rateStep := 2 }
      else
        let a := if s7.rings.cairnOn then s7 else ((s7.each 64 State.restoreRing).streamFrame n).measRound
        a.confidence.onComp fun c =>
          { c with rateStep := 0, composing := true, composed := 0
                   bands := if s7.unitFenced 1 && s7.col.zeroed then 256 else 0 }
    let s9 := if s6.comp.rateStep = 1 then s8
      else s8.onCol fun c => { c with zonesCapped := if s.comp.bands = 256 then c.zonesNow.length else c.zonesCapped, zonesNow := [] }
    done (s9.fire 9)

/-! ### The pipeline (R74, R98) -/

/-- The pixels of a band: four lines from the top, left to right. -/
def bandPixels (band : Nat) : List (Nat × Nat) := (List.range 4096).map fun i => (i % 1024, 4 * band + i / 1024)

/-- One pixel’s codes written to the back buffer, with its clip counts and its zone (R83, R86, R94, R102). -/
def State.putPixel (s : State) (x y : Nat) (o : PixelOut) : State :=
  (s.dramStore (planeAt s.back + codeAt x y) (o.codes.flatMap fun v => leBytes 2 v)).onCol fun c =>
    { c with
      gamutClips := if o.gamutClip then inc 16 c.gamutClips else c.gamutClips
      driveClips := if o.driveClip then inc 16 c.driveClips else c.driveClips
      zonesNow := if o.capped && !c.zonesNow.contains (zoneOf x y) then zoneOf x y :: c.zonesNow else c.zonesNow }

/-- A zone’s cap failed its parity check (R91); once its cap is substituted, later failing reads are not counted again (DEDUCED, log
entry 74). -/
def State.envParity (s : State) (z : Nat) : State :=
  if s.col.envBad.contains z then s
  else (s.onCol fun c => { c with envBad := c.envBad ++ [z], parityErrors := inc 16 c.parityErrors }).raise 0x50 0

/-- A calibration burst is uncorrectable (R98). -/
def State.recEcc (s : State) (b : Nat) : State :=
  (s.onCol fun c => { c with recErrors := inc 16 c.recErrors, rebuild := if c.rebuild.contains b then c.rebuild else c.rebuild ++ [b] }).raise 0x51 0

/-- The reduced row of a band goes upstream as it is composed (R69, R70): four rows make one CONFIDENCE frame, 64 of which make the
picture (DESIGN CHOICE, log entry 21). DEGRADED, once set, ends the picture. -/
def State.confBand (s : State) (band : Nat) : State :=
  if !s.comp.confOn then s
  else if s.degraded then s.onComp fun c => { c with confOn := false, confRows := [] }
  else
    let rows := s.comp.confRows ++ [(List.range 256).flatMap fun i => [2, 1, 0].map fun c => s.confPixel (4 * i) (4 * band) c]
    if rows.length < 4 then s.onComp fun c => { c with confRows := rows }
    else
      (s.originate s.statusDest 0x07 (rows.flatMap id)).onComp fun c =>
        { c with confRows := [], confSent := if band = 255 then c.confSent + 1 else c.confSent }

/-- The pipeline writes the codes of a band (R74); the rewrites of the working records go on. -/
def State.writeBand (s : State) (obs : BandObs) (band : Nat) : State :=
    let inBand := fun (b : Nat) => decide (1024 * band ≤ b ∧ b < 1024 * (band + 1))
    let zone := fun (z : Nat) => z / 32 == band / 8 && decide (z < 1024)
    let s1 := (obs.badZones.filter zone).foldl State.envParity s
    let s2 := (obs.badBursts.filter inBand).foldl State.recEcc s1.calAdvance.rewriteAdvance
    let s3 := (bandPixels band).foldl (fun s p =>
      s.putPixel p.1 p.2 (s.pixelOut p.1 p.2 (obs.badBursts.contains ((1024 * p.2 + p.1) / 4)))) s2
    s3.onComp fun c => { c with bands := band + 1 }

/-- BAND_COMPLETE (R74): the next four-line band of the frame being composed is in the back buffer. While the colour pipeline writes no codes
the composer goes on, and the confidence stream with it (R105, R106). -/
def execBandComplete (obs : BandObs) (s : State) : Host.Outcome State Fault Refusal :=
  if !s.running || s.eng.st == .boot || !s.comp.composing || 256 ≤ s.comp.composed || s.comp.rateStep ≠ 0 then .next s
  else
    let band := s.comp.composed
    let s1 := if s.col.halted || s.comp.bands != band then s else s.writeBand obs band
    done ((s1.onComp fun c => { c with composed := band + 1 }).confBand band)

/-- CAL_RECORD_REBUILD (R98): the four records of each bad burst are rebuilt from the tile flash. -/
def execCalRecordRebuild (s : State) : Host.Outcome State Fault Refusal :=
  if s.unitFenced 4 || s.col.rebuild.isEmpty then .next s
  else
    let s1 := s.col.rebuild.foldl (fun s b => s.each 4 fun s i => s.rebuildRec (4 * b + i)) s
    done (s1.onCol fun c => { c with rebuild := [] })

end Sys2Proof.Machine
end

