-- ==== Sys2Proof/Machine/Rings.lean ====
section
/-!
DEFINITION. Sys2Proof/Machine/Rings.lean: the rows of chapter 4: streaming, read-back, latches, breaks, Hinge mode, sweeps and the Cairn
path.
-/

namespace Sys2Proof.Machine

/-! ### Sending (R125 to R127, R152, R156) -/

/-- The 96 code bytes of a cell of the Cairn frame (R155). -/
def RingUnit.cairnBytes (u : RingUnit) (k c : Nat) : List Byte :=
  (cellPixels k c).flatMap fun p =>
    let v := u.cairnPixel p
    (List.range 3).flatMap fun i => leBytes 2 (if v = 0 then 0 else (u.palette.getD (3 * (v - 1) + i) 0).toNat)

/-- The codes that a cell receives in the frame being streamed. -/
def State.frameBytes (s : State) (k c : Nat) : List Byte :=
  if s.rings.cairnOn then s.rings.cairnBytes k c else s.sendBytes k c

/-- The band of cell row `cy` of ring `k` is in the back buffer (R74, R127); the Cairn frame and the all-zero frame need none. -/
def State.rowLanded (s : State) (k cy : Nat) : Bool :=
  s.rings.cairnOn || (s.ring k).allZero || (s.comp.composing && decide (32 * (k / 8) + cy < s.comp.bands))

/-- The words for one cell row (R127 step 4, R152). -/
def State.rowWords (s : State) (k cy : Nat) : List (Bool × RingWord) :=
  let r := s.ring k
  let cells := r.rowCells cy
  if r.mode == .ring then codeWords true (32 * cy) (cells.map (s.frameBytes k)) ++ readWords true false (32 * cy) cells.length 0
  else
    let a := cells.filter r.pxo
    let b := cells.filter fun c => !r.pxo c
    let send := fun (pxo : Bool) (l : List Nat) => match l with | [] => [] | c :: _ => codeWords pxo c (l.map (s.frameBytes k))
    let block := if cy % 4 = 3 || r.rowCount ≤ cy + 1 then
        (List.range 4).flatMap fun i => r.rowCells (4 * (cy / 4) + i)
      else []
    send true a ++ send false b ++ r.readCells k s.rings.seq.toNat 0 block

/-! ### Read-back (R135 to R137, R146, R147, R163, R436) -/

/-- A word of a slot; a word that arrived with an error reads 0. -/
def slotWord (o : SlotObs) (i : Nat) : Word := (o.words.getD i (some 0)).getD 0

/-- The words of a slot that arrived with an error. -/
def slotErrors (o : SlotObs) : Nat := (o.words.filter fun w => w.isNone).length

/-- ES of an emitter, from three ES words that start at word `first` (R135). -/
def slotEs (o : SlotObs) (first e : Nat) : Nat := fld (slotWord o (first + e / 16)) (2 * (e % 16) + 1) (2 * (e % 16))

/-- HEADROOM, signed (R163). -/
def slotHeadroom (o : SlotObs) : Int := ofSfield 12 (fld (slotWord o 1) 19 8)

/-- The cells next to a cell in the 256 × 256 grid, across ring boundaries, as (ring, address) (R436). -/
def neighbourCells (k c : Nat) : List (Nat × Nat) :=
  let p := cellPixel k c
  let gx := p.1 / 4
  let gy := p.2 / 4
  (List.range 9).filterMap fun i =>
    let x := gx + i % 3
    let y := gy + i / 3
    if i = 4 ∨ x = 0 ∨ 256 < x ∨ y = 0 ∨ 256 < y then none
    else let q := cellOf (4 * (x - 1)) (4 * (y - 1)); some (q.1, q.2.1)

/-- A list of numbers sorted, lowest first. -/
def sortNat (l : List Nat) : List Nat := l.foldr insertNat []

/-- Twice the median of a list, none when it is empty. -/
def median2 (l : List Nat) : Option Nat :=
  let t := sortNat l
  if t.isEmpty then none else some (t.getD ((t.length - 1) / 2) 0 + t.getD (t.length / 2) 0)

/-- A TEMP disagrees with the median TEMP of the cell’s reachable neighbours by more than 10 °C (R436). -/
def State.tempOff (s : State) (k c t : Nat) : Bool :=
  match median2 ((neighbourCells k c).filterMap fun q => if (s.ring q.1).reaches q.2 then (s.cell q.1 q.2).temp else none) with
  | some m => decide (m + 20 < 2 * t ∨ 2 * t + 20 < m)
  | none => false

/-- The exclusion of a cell’s TEMP after one more return (R436): the first in a ring since BOOT raises THERM_SENSOR_FAIL. -/
def State.tempReturn (s : State) (k c t : Nat) : State :=
  let off := s.tempOff k c t
  let x := s.cell k c
  let flip := off != x.excluded
  let s1 := s.onCell k c fun x =>
    { x with temp := some t, tempRun := if flip then (if 3 ≤ x.tempRun then 0 else x.tempRun + 1) else 0
             excluded := if flip && 3 ≤ x.tempRun then !x.excluded else x.excluded }
  if flip && 3 ≤ x.tempRun && !x.excluded && !s.therm.exclRings.getLsbD k then
    (s1.onTherm fun t => { t with exclRings := t.exclRings ||| BitVec.ofNat 64 (2 ^ k) }).raise 0x85 (0x100 + k)
  else s1

/-- The emitters that a return shows open or short (R146): how many returns in a row each has had. -/
def nextEs (old : List (Nat × Nat × Nat)) (counts : Bool) (es : Nat → Nat) : List (Nat × Nat × Nat) :=
  (List.range 48).filterMap fun e =>
    let v := es e
    if v = 1 ∨ v = 2 then
      let run := match old.find? fun q => q.1 == e && q.2.1 == v with | some q => q.2.2 | none => 0
      some (e, v, if counts then min 4 (run + 1) else run)
    else none

/-- The ES field of a return (R146): 4 returns in a row, or one OS round, fence the pixel. -/
def State.esReturn (s : State) (k c : Nat) (counts os : Bool) (es : Nat → Nat) : State :=
  let s1 := s.onCell k c fun x => { x with es := nextEs x.es counts es }
  ((s1.cell k c).es.filter fun q => os || 4 ≤ q.2.2).foldl (fun s q => s.fenceEmitter k c q.1) s1

/-- The take point of the coming flip has passed. -/
def State.takePassed (s : State) : Bool :=
  s.comp.lastTakeNs.isSome && s.comp.lastFlipNs.all fun t => decide (t < s.comp.takenFlipNs)

/-- A failed Cairn check (R157). -/
def State.cairnFail (s : State) (k : Nat) : State := (s.onRings fun u => { u with monOk := false }).raise 0x67 k

/-- A cell’s codes sent again and read again (R136, R138). -/
def State.sendAgain (s : State) (k c : Nat) (codes : List Byte) (latchNow : Bool) : State :=
  s.onRing k fun r => r.put (r.again k s.rings.seq.toNat c codes latchNow)

/-- Every row of the frame in progress has gone out on ring `k`. -/
def State.rowsOut (s : State) (k : Nat) : Bool := decide ((s.ring k).rowCount ≤ (s.ring k).rows)

/-- A retry or KEEP of a cell whose slot does not confirm it (R136): resent while retries are left and the take point has not passed, else
KEEP; in the Cairn frame one retry, then CAIRN_MON (R157). -/
def State.unconfirmed (s : State) (k c : Nat) : State :=
  let x := s.cell k c
  let again := (s.onCell k c fun x => { x with retries := x.retries + 1 }).sendAgain k c (s.frameBytes k c) false
  if s.rings.cairnOn then (if x.retries < 1 then again else s.cairnFail k)
  else if s.takePassed then s
  else if x.retries < fld s.rings.ctrl 3 2 then again
  else s.keepCell k c

/-- A cell is unconfirmed: its retry follows the last row of the frame (step 5 of R127). -/
def State.retryLater (s : State) (k c : Nat) : State :=
  if s.rowsOut k then s.unconfirmed k c else s.onCell k c fun x => { x with due := true }

/-- The retries and KEEP marks that waited for the last row (step 5 of R127). -/
def State.sendDue (s : State) (k : Nat) : State :=
  if s.rowsOut k then
    ((List.range (min 1024 (s.ring k).n)).filter fun c => (s.cell k c).due).foldl (fun s c =>
      (s.onCell k c fun x => { x with due := false }).unconfirmed k c) s
  else s

/-- RING_ROW_SEND (R127): CODES and READ for the next landed cell row. -/
def execRingRowSend (ring : Fin 64) (s : State) : Host.Outcome State Fault Refusal :=
  let k := ring.val
  let r := s.ring k
  if !r.up || r.rowCount ≤ r.rows || s.rings.cairnOn != r.cairn || !s.rowLanded k r.rows then .next s
  else
    let words := s.rowWords k r.rows
    let s1 := (r.rowCells r.rows).foldl (fun t c =>
      t.onCell k c fun x => { x with sentCrc := BitVec.ofNat 16 (crc16 (s.frameBytes k c)) }) s
    done ((s1.onRing k fun r => { r.begin s.time.local_ with rows := r.rows + 1, out := words }).sendDue k)

/-- A slot of a silent cell while the ring is intact (R147). In Hinge mode the ring is not intact, and such a slot leaves the cell
unconfirmed (R136). -/
def State.silentReturn (s : State) (k c : Nat) : State :=
  let x := s.cell k c
  if x.returned then s
  else
    let s1 := s.onCell k c fun x => { x with returned := true, silentNow := true, silent := min 3 (x.silent + 1) }
    if x.silent ≠ 2 then s1
    else ((((cellPixels k c).foldl State.rtFencePixel s1).raise 0x65 k)).fire 17

/-- One slot of a KIND 0 read (R135, R136, R146 to R148, R163, R436). -/
def State.slot0 (s : State) (k : Nat) (o : SlotObs) : State :=
  let c := o.cell.val
  let w := slotWord o 0
  let x := s.cell k c
  if !(s.ring k).reaches c then s
  else if !s.rings.cairnOn && (s.ring k).mode == .ring && (o.words.getD 0 (some 0)).isSome && !w.getLsbD 31 then s.silentReturn k c
  else
    let mine := decide (c / 32 < (s.ring k).rows) && !x.confirmed && !x.keep
    let good := w.getLsbD 31 && w.getLsbD 16 && fld w 15 0 == x.sentCrc.toNat
    let s1 := if w.getLsbD 31 then
        let s1 := (s.onCell k c fun x =>
          { x with silentNow := false, silent := 0, drvEn := w.getLsbD 18, echo := fld (slotWord o 1) 29 20, demandIn := true
                   faultSeen := x.faultSeen || fld w 27 24 ≠ 0 }).tempReturn k c (fld (slotWord o 1) 7 0)
        let d : Int := s.led.setMv + slotHeadroom o
        let s2 := s1.onLed fun l => { l with dMax := some (match l.dMax with | some m => max m d | none => d) }
        let s3 := if fld w 27 24 ≠ 0 && !x.faultSeen then s2.raise 0x66 k else s2
        let s4 := s3.esReturn k c (!x.returned) false (slotEs o 2)
        if s.rings.cairnShown && decide (s.rings.cairnLevel < fld (slotWord o 1) 29 20) then s4.cairnFail k else s4
      else s
    let s2 := s1.onCell k c fun x => { x with returned := true }
    if !mine then s2
    else if good then s2.onCell k c fun x => { x with confirmed := true, retCrc := BitVec.ofNat 16 (fld w 15 0) }
    else s2.retryLater k c

/-- One word of a VF round (R144, R145). -/
def State.slot1 (s : State) (k : Nat) (o : SlotObs) : State :=
  let w := slotWord o 0
  if s.rings.reading == .vf && (s.ring k).reaches o.cell.val && w.getLsbD 12 then
    s.onRings fun u => { u with vf := sset 0 (48 * (1024 * k + o.cell.val) + u.round) (BitVec.ofNat 12 (fld w 11 0)) u.vf }
  else s

/-- The ES words of an OS round (R144, R146). -/
def State.slot2 (s : State) (k : Nat) (o : SlotObs) : State :=
  if s.rings.reading == .os && (s.ring k).reaches o.cell.val then s.esReturn k o.cell.val false true (slotEs o 0) else s

/-- A KIND 3 read after a missed LATCH (R138): a cell that shows something else is resent from FRONT, now, or after the next flip when
this frame’s burst for it has gone out. -/
def State.slot3 (s : State) (k : Nat) (o : SlotObs) : State :=
  let c := o.cell.val
  let w := slotWord o 0
  if !(s.ring k).missed || !(s.ring k).reaches c || !w.getLsbD 31 || fld w 15 0 == (s.cell k c).shownCrc.toNat then s
  else if c / 32 < (s.ring k).rows then s.onCell k c fun x => { x with reset := true }
  else
    let b := s.resentBytes k c
    (s.onCell k c fun x => { x with shownCrc := BitVec.ofNat 16 (crc16 b) }).sendAgain k c b true

/-! ### Reception (R119, R121) -/

/-- One word arrives at a receiver (R121): lock after 64 valid prefixes in a row, lost after 8 invalid ones within 64 words. -/
def WordLock.word (l : WordLock) (ok : Bool) : WordLock :=
  if !l.locked then
    if !ok then { l with run := 0 }
    else if 63 ≤ l.run then { locked := true, run := 0, seen := [] }
    else { l with run := l.run + 1 }
  else
    let seen := (ok :: l.seen).take 64
    if 8 ≤ (seen.filter fun b => !b).length then {} else { l with seen := seen }

/-- Lock lost: no transition for 80 ns (R121). -/
def WordLock.lost : WordLock := {}

/-- The words of a slot through a receiver: without lock nothing is received. -/
def WordLock.slot (l : WordLock) (ws : List (Option Word)) : WordLock × List (Option Word) :=
  ws.foldl (fun a w => (a.1.word w.isSome, a.2 ++ [if a.1.locked then w else none])) (l, [])

/-- The slots of a return through the receivers, in order of arrival: at PXI, or in Hinge mode at the end of each cell’s arc. -/
def Ring.receive (r : Ring) (slots : List SlotObs) : Ring × List SlotObs :=
  slots.foldl (fun a o =>
    if r.mode == .hinge && r.pxo o.cell.val then
      let q := a.1.lockA.slot o.words
      ({ a.1 with lockA := q.1 }, a.2 ++ [{ o with words := q.2 }])
    else
      let q := a.1.lockB.slot o.words
      ({ a.1 with lockB := q.1 }, a.2 ++ [{ o with words := q.2 }])) (r, [])

/-- A slot put in its place among slots in ascending order. -/
def insertSlot (o : SlotObs) : List SlotObs → List SlotObs
  | [] => [o]
  | p :: l => if o.cell.val ≤ p.cell.val then o :: p :: l else p :: insertSlot o l

/-- The slots of one read, as they come in, descrambled (R122). In RING mode they stand where the read placed them on the hop; an answer to no
read is none. In an arc each end’s turner sends a SYNC ahead of them (R152). -/
def Ring.descramble (r : Ring) (kind : Nat) (slots : List SlotObs) : Ring × List SlotObs :=
  let w := slotWidth kind
  if r.mode == .ring then
    let mine := fun (q : RingRead) => q.kind == kind && slots.all fun o => decide (q.first ≤ o.cell.val ∧ o.cell.val < q.first + q.count)
    match r.reads.find? mine with
    | none => (r, [])
    | some q =>
      let g := scramblerAt q.index
      ({ r with reads := r.reads.erase q },
        slots.map fun o => { o with words := hopReceive (scramblerFrom g (w * (o.cell.val - q.first))) o.words })
  else
    (r, (slots.foldl (fun (a : Nat × Nat × List SlotObs) o =>
      let n := if r.pxo o.cell.val then a.1 else a.2.1
      (if r.pxo o.cell.val then a.1 + 1 else a.1, if r.pxo o.cell.val then a.2.1 else a.2.1 + 1,
        a.2.2 ++ [{ o with words := hopReceive (scramblerAt (w * n)) o.words }])) (0, 0, [])).2.2)

/-- What arrives of the slots of a read: the words of `out` have left; the slots pass word lock, errors are counted, and their payloads are
descrambled (R121, R122). -/
def Ring.slotsIn (now kind : Nat) (slots : List SlotObs) (r : Ring) : Ring × List SlotObs :=
  let d := (r.begin now).descramble kind slots
  let rx := d.1.receive d.2
  ({ rx.1 with wordErrs := sat 16 (rx.1.wordErrs + slots.foldl (fun n o => n + slotErrors o) 0) }, rx.2)

/-- READ_RETURN (R136): slots of one read come back, the turner’s first in an arc; ascending order is restored before any check (R119,
R152). -/
def execReadReturn (ring : Fin 64) (kind : Fin 4) (slots : List SlotObs) (s : State) : Host.Outcome State Fault Refusal :=
  let k := ring.val
  if !(s.ring k).up then .next s
  else
    let (r1, got) := (s.ring k).slotsIn s.time.local_ kind.val slots
    let s1 := s.onRing k fun _ => r1
    let f := if kind = 0 then State.slot0 else if kind = 1 then State.slot1 else if kind = 2 then State.slot2 else State.slot3
    let s2 := (got.foldr insertSlot []).foldl (fun s o => f s k o) s1
    -- CELL_SILENT lasts while a cell of the ring is silent for 3 frames
    done (if (List.range (min 1024 (s2.ring k).n)).any fun c => (s2.cell k c).silent == 3 then s2 else s2.endCond 0x65 k)

/-- CELL_REENUM (R143, R147): ENUM is sent in the blanking after a cell’s first silent frame. -/
def execCellReenum (ring : Fin 64) (answered : List (Fin 1024)) (found : BitVec 11) (s : State) : Host.Outcome State Fault Refusal :=
  let k := ring.val
  let r := s.ring k
  if r.mode != .ring || !((List.range (min 1024 r.n)).any fun c => (s.cell k c).isSilent && (s.cell k c).silent == 1) then .next s
  else
    let back := answered.filter fun c => (s.cell k c.val).isSilent && decide (c.val < r.n)
    let s1 := back.foldl (fun s c =>
      (s.onCell k c.val fun x => { x with silentNow := false, silent := 0, reset := true }).raise 0x69 k) s
    let s2 := s1.onRing k fun r =>
      { r.begin s.time.local_ with found := found.toNat, n := min found.toNat r.expect, out := [(true, .ctl 0x09 0)] }
    let bad := found.toNat != r.expect
    let s3 := s2.level bad 0x64 k
    done (if bad && !s.hasCond 0x64 k then s3.fire 17 else s3)

/-! ### Echoes, breaks and Hinge mode (R128, R149 to R154) -/

/-- SYNC_ECHO (R128): the echo has the ring’s index and the SEQ sent; one with another ring’s index raises RING_CROSSED, and one with
another SEQ is not the echo, which is then missing. Without word lock PXI receives none (R121). -/
def execSyncEcho (ring : Fin 64) (echo : EchoObs) (s : State) : Host.Outcome State Fault Refusal :=
  let k := ring.val
  if !(s.ring k).up || (s.ring k).echoed || ((s.ring k).mode == .ring && !((s.ring k).begin s.time.local_).lockB.locked) then .next s
  else if echo.index.toNat ≠ k then done (s.raise 0x60 k)
  else if echo.seq ≠ s.rings.seq then .next s
  else done (s.onRing k fun r => { r with echoed := true })

/-- A break is found on a ring that is up (R149): streaming stops while it is located. -/
def State.breakFound (s : State) (k : Nat) : State :=
  if !(s.ring k).up then s
  else (s.onRing k fun r => { r.begin s.time.local_ with mode := .locating, lockA := .lost, lockB := .lost, restoreDue := false }).fire 17

/-- BREAK_DETECT (R149): RING_BREAK, and Hinge mode once the break is located. -/
def execBreakDetect (ring : Fin 64) (s : State) : Host.Outcome State Fault Refusal :=
  let k := ring.val
  if !(s.ring k).up then .next s else done ((s.breakFound k).raise 0x62 k)

/-- The UNFENCE words that wait for a ring to be reached again (R146). -/
def Ring.owedWords (r : Ring) : List (Bool × RingWord) :=
  r.owed.map fun q => (r.pxo q.1, .ctl 0x02 (BitVec.ofNat 24 (q.1 + q.2 * 2 ^ 12 + 2 ^ 18)))

/-- The frame in progress starts again from its first row (R153), at levels that the ceilings in force now cap; a level that the cells show
above them falls at once (R134). -/
def State.restartFrame (s : State) (k : Nat) (dir : List (Bool × RingWord)) : State :=
  let u := s.rings
  let s1 := s.onRings fun u => u.mapCells fun i c =>
    if i / 1024 = k then { c with confirmed := false, retries := 0, returned := false, due := false } else c
  let top := s.ceilings k
  s1.onRing k fun r =>
    let shown := if u.cairnOn then r.driveShown else minLevels r.driveShown top
    let sent := if u.cairnOn then r.driveSent else minLevels r.driveSent top
    { r with
      rows := 0, echoed := false, cairn := u.cairnOn, driveShown := shown, driveSent := sent, owed := []
      out := dir ++ r.owedWords ++ dropWords true true r.driveShown shown ++ bothEnds true (if u.cairnOn then cairnWords k u.seq.toNat u.cairnLevel s.led.plan s.periodBits
        else headWords k u.seq.toNat s.led.plan s.periodBits sent) }

/-- The mode a ring takes after a locate that reaches something (R151, R153): W is measured for each arc. RING_DELAY shows arc A when PXO
reaches a cell, else arc B (DESIGN CHOICE, log entry 75). -/
def Ring.hinged (obs : LocateObs) (r : Ring) : Ring :=
  let a := match obs.aLast with | some t => arcExcess obs.rtA.toNat (t.val + 1) | none => 0
  let b := match obs.bFirst with | some t => arcExcess obs.rtB.toNat (r.n - t.val) | none => 0
  { r with
    mode := .hinge, aLast := obs.aLast.map (·.val), bFirst := obs.bFirst.map (·.val), resend := true
    rtNs := if obs.aLast.isSome then obs.rtA.toNat else obs.rtB.toNat
    wNs := if obs.aLast.isSome then a else b
    wB := b, lockA := { locked := true }, lockB := { locked := true } }

/-- LOCATE_COMPLETE (R151). -/
def execLocateComplete (ring : Fin 64) (obs : LocateObs) (s : State) : Host.Outcome State Fault Refusal :=
  let k := ring.val
  let r := s.ring k
  -- the first address beyond side A, and the first of side B
  let a := match obs.aLast with | some t => t.val + 1 | none => 0
  let b := match obs.bFirst with | some t => t.val | none => r.n
  if r.mode != .locating || b < a then .next s
  else if obs.aLast.isNone && obs.bFirst.isNone then
    done (((s.onRing k fun r => { r.begin s.time.local_ with mode := .lost, aLast := none, bFirst := none, sign := false, out := r.probes 0 0 }).raise
      0x61 k).fire 17)
  else
    let s1 := ((s.beginRing k).onRing k (Ring.hinged obs)).restartFrame k (r.probes a (r.n - b) ++ arcWords (obs.aLast.map (·.val)) (obs.bFirst.map (·.val)))
    let s2 := if a = b then s1.endCond 0x63 k
      else
        let gap := (List.range (b - a)).map fun i => a + i
        (gap.foldl (fun s c => (cellPixels k c).foldl State.rtFencePixel s) s1).raise 0x63 k
    done (s2.fire 17)

/-- The words of a restore probe (R154): DIR ARC and DIR TURN for B_FIRST from PXO; when it is reached, DIR RING on both ends and a SYNC;
without the echo the arcs are set up again (DEDUCED, log entry 75). -/
def Ring.restoreWords (r : Ring) (k seq : Nat) (reaches echo : Bool) : List (Bool × RingWord) :=
  probeWords true (r.bFirst.getD (r.n - 1))
    ++ if !reaches then arcsOf r
      else bothEnds true [(true, .ctl 0x0A 0)] ++ [(true, syncWord k seq false)] ++ if echo then [] else arcsOf r

/-- RESTORE_PROBE (R154): every 1,000 ms in Hinge mode, during blanking; a ring whose echo returns runs in RING mode from
the next frame. -/
def execRestoreProbe (ring : Fin 64) (probe : ProbeObs) (s : State) : Host.Outcome State Fault Refusal :=
  let k := ring.val
  if (s.ring k).mode != .hinge || !s.rings.ctrl.getLsbD 0 then .next s
  else done (s.onRing k fun r =>
    { r.begin s.time.local_ with out := r.restoreWords k s.rings.seq.toNat probe.reaches probe.echo, restoreDue := r.restoreDue || (probe.reaches && probe.echo) })

/-! ### LATCH (R129, R131, R153) -/

/-- The launch of a LATCH at an end with excess delay `w` is due: 15 µs and half of W before the flip (R129, R335). -/
def State.launchDue (s : State) (w : Nat) : Bool :=
  s.time.valid && decide (2 * (s.comp.takenFlipNs : Int) - 30000 - w ≤ 2 * s.wNs)

/-- The ends of a ring that launch its LATCH: PXO, and in Hinge mode each end that has an arc (R153). -/
def Ring.latchA (r : Ring) : Bool := r.mode == .ring || r.aLast.isSome
def Ring.latchB (r : Ring) : Bool := r.mode == .hinge && r.bFirst.isSome

/-- LATCH_LAUNCH (R129): the LATCH decided at the take point goes out, in Hinge mode from each end at the instant that the W of its own arc
gives (R153). -/
def execLatchLaunch (ring : Fin 64) (s : State) : Host.Outcome State Fault Refusal :=
  let k := ring.val
  let r := s.ring k
  match r.decided with
  | none => .next s
  | some codes =>
    let a := r.latchA && !r.outA && s.launchDue r.wNs
    let b := r.latchB && !r.outB && s.launchDue r.wB
    if !r.up || s.signDue || !(a || b) then .next s
    else
      let all_ := (!r.latchA || r.outA || a) && (!r.latchB || r.outB || b)
      done (s.onRing k fun r =>
        { r.begin s.time.local_ with
          launched := if all_ then some codes else none, decided := if all_ then none else some codes, outA := r.outA || a, outB := r.outB || b
          out := (if a then [(true, latchWord codes)] else []) ++ if b then [(false, latchWord codes)] else [] })

/-! ### The Cairn path (R156, R157) -/

/-- Every ring that is up has had its whole Cairn frame, and none is being located. -/
def State.cairnStreamed (s : State) : Bool :=
  (List.range 64).all fun k =>
    let r := s.ring k
    r.mode != .locating && (!r.up || (r.cairn && decide (r.rowCount ≤ r.rows)))

/-- CAIRN_LATCH (R156): the immediate LATCH of the sign; from then the cells show it at the Cairn level. -/
def execCairnLatch (s : State) : Host.Outcome State Fault Refusal :=
  if !s.rings.cairnOn || s.rings.cairnLatched || !s.cairnStreamed then .next s
  else
    let up := fun k => (s.ring k).up
    done (s.onRings fun u =>
      { u.mapCells (fun i c => if up (i / 1024) && !c.keep then { c with shownCrc := c.sentCrc } else c) with
        cairnLatched := true, cairnShown := true
        rings := u.rings.map fun r =>
          if r.up then
            { r.begin s.time.local_ with
              driveSent := List.replicate 3 u.cairnLevel, driveShown := List.replicate 3 u.cairnLevel, sign := true, dim := true
              out := bothEnds (r.mode == .hinge) [(true, latchWord true)] }
          else r })

/-- The bytes of the Cairn plane in SRAM. -/
def RingUnit.sramBytes (u : RingUnit) : List Byte := (List.range 65536).flatMap fun i => leBytes 4 (sget 0 i u.sram).toNat

/-- The SRAM plane agrees with its stored CRC-32 (R157). -/
def RingUnit.sramGood (u : RingUnit) : Bool := u.sramOk && crc32 u.sramBytes == u.sramCrc.toNat

/-- Bits of the SRAM that have flipped since it was last looked at. -/
def RingUnit.upset (u : RingUnit) (l : List (Fin 65536 × BitVec 32)) : RingUnit :=
  { u with sram := l.foldl (fun m q => sset 0 q.1.val (sget 0 q.1.val m ^^^ q.2) m) u.sram }

/-- CAIRN_RESTREAM (R157): every 100 ms the plane in SRAM, with the upsets that it has met, is checked against its CRC-32 and the sign
streamed again; the rail is evaluated (R165). -/
def execCairnRestream (upsets : List (Fin 65536 × BitVec 32)) (s : State) : Host.Outcome State Fault Refusal :=
  let s0 := s.onRings fun u => u.upset upsets
  if !s.rings.cairnOn || !s.rings.cairnLatched then .next s
  else if !s0.rings.sramGood then done (s0.cairnFail 0)
  else
    let s1 := (s0.ledEvaluate false).onRings fun u => { u with monOk := true, refreshes := inc 16 u.refreshes }
    done s1.cairnStream

/-- CAIRN_COMPLETION_DEADLINE (R157): the ring is not complete in time after the request. Unreachable cells do not fail the check. -/
def execCairnCompletionDeadline (ring : Fin 64) (s : State) : Host.Outcome State Fault Refusal :=
  let k := ring.val
  let r := s.ring k
  if !s.rings.cairnOn || !(r.up || r.mode == .locating) || s.ringComplete k then .next s
  else done (s.cairnFail k)

/-! ### Sweeps (R144, R145) -/

/-- A sweep is asked for: kind 1 VF, 2 OS, 0 stop (R144, R145). -/
def State.sweepRequest (s : State) (kind interval : Nat) : Byte × State :=
  if kind = 0 then (stOk, s.stopSweep)
  else if 2 < kind then (stBadLen, s)
  else if (s.eng.st != .dark && s.eng.st != .lit) || s.rings.cairnOn then (stRefusedState, s)
  else if s.rings.sweep != .none then (stBusy, s)
  else
    (stOk, s.onRings fun u =>
      { u with sweep := if kind = 1 then .vf else .os, interval := max 1 interval, toNext := 0, rounds := 0, sent := none, measFresh := false })

/-- Run-time fences cleared (R146): UNFENCE to every fenced emitter, on a ring that cannot be reached once it can be again; and FENCED rebuilt
from the other fences (R96). -/
def State.clearRtFences (s : State) : State :=
  let s1 := s.col.rtFence.foldl (fun s p =>
    let keep := s.storedFence p || s.col.userFence.contains p
    let a := 0xC00000 + 16 * p + 15
    if keep then s else s.dramStore a [s.dramByte a &&& 0xBF]) s
  let fenced := fun (k : Nat) => s.rings.cells.flatMap fun q =>
    if q.1 / 1024 = k then q.2.fencedEm.map fun e => (q.1 % 1024, e) else []
  ((s1.onCol fun c => { c with rtFence := [] }).onRings fun u =>
    { u.mapCells (fun _ c => { c with fencedEm := [], es := c.es.map fun q => (q.1, q.2.1, 0) }) with
      rings := (List.range 64).map fun k =>
        let r := { u.rings.getD k {} with owed := (u.rings.getD k {}).owed ++ fenced k }
        if r.up then { r.begin s.time.local_ with out := r.owedWords, owed := [] } else r })

/-! ### Rings (R142, R143, R151) -/

/-- The pixels of the cells from `a` up to but not including `b` fenced: no arc reaches them (R151). -/
def State.fenceGap (s : State) (k a b : Nat) : State :=
  ((List.range (b - a)).foldl (fun s i => (cellPixels k (a + i)).foldl State.rtFencePixel s) s).raise 0x63 k

/-- The cells’ answers to the READ of step 5 (R142): temperatures and headroom reach Thermal and LED supply. -/
def State.bringSlots (s : State) (k : Nat) (slots : List SlotObs) : State :=
  if slots.isEmpty then s
  else
    let (r, got) := (s.ring k).slotsIn s.time.local_ 0 slots
    (got.foldr insertSlot []).foldl (fun s o => s.slot0 k o) (s.onRing k fun _ => r)

/-- The IDLE words of step 1 of R142: 20 µs of them, on which PXI gains word lock too (R121). -/
def bringIdles : Nat := 20000 * 65536 / ringWordTime

/-- The bring-up of one ring: whole, in Hinge mode, or lost. FOUND counts every cell enumerated, from either end (R143). -/
def State.bringRing (s : State) (k : Nat) (o : RingBring) : State :=
  let expect := (s.ring k).expect
  let a := match o.aLast with | some t => t.val + 1 | none => 0
  let b := match o.bFirst with | some t => min t.val expect | none => expect
  let found := if o.answered then o.found.toNat else a + (expect - b)
  let base := fun (r : Ring) =>
    { r.begin s.time.local_ with
      driveShown := [0, 0, 0], driveSent := [0, 0, 0], found := found, aLast := none, bFirst := none, rows := 0, echoed := false, decided := none
      launched := none, outA := false, outB := false, latched := false, missed := false }
  let sent := fun (s : State) => s.onRing k fun r => r.put (r.bringWords k s.led.plan s.periodBits)
  let counted := fun (s : State) => if found = expect then s else (s.raise 0x64 k).fire 17
  if o.answered then
    (counted (sent (s.onRing k fun r =>
      { base r with mode := .ring, n := min found r.expect, rtNs := o.rtA.toNat, wNs := ringExcess o.rtA.toNat found
                    lockB := ({} : WordLock).good bringIdles }))).bringSlots k o.slots
  else if o.aLast.isNone && o.bFirst.isNone then
    (counted (sent (s.onRing k fun r => { base r with mode := .lost, n := r.expect }))).raise 0x61 k
  else
    let obs : LocateObs := { aLast := o.aLast, bFirst := o.bFirst, rtA := o.rtA, rtB := o.rtB }
    let s1 := sent (s.onRing k fun r => { Ring.hinged obs { base r with n := r.expect } with resend := false })
    let s2 := ((counted s1).raise 0x62 k).bringSlots k o.slots
    if a < b then s2.fenceGap k a b else s2

end Sys2Proof.Machine
end

