-- ==== Sys2Proof/Machine/Led.lean ====
section
/-!
DEFINITION. Sys2Proof/Machine/Led.lean: the LED rail, its protection and its limits (chapter 5).
-/

namespace Sys2Proof.Machine

/-- LED_EVAL_TIMEOUT (R165): no take point for 50 ms; while SSG is in force each Cairn restream evaluates instead. -/
def execLedEvalTimeout (s : State) : Host.Outcome State Fault Refusal :=
  if !s.running || s.rings.cairnOn then .next s else done (s.ledEvaluate false)

/-! ### Start (R167) -/

/-- RAIL_RAMP_END (R167): 1 ms after the ramp end, in regulation when VLED is within 50 mV of the reference; in any case the peak limit
becomes 14 A and R164 governs. A sign that waits for the rail is requested (R381). -/
def execRailRampEnd (vledMv : BitVec 13) (s : State) : Host.Outcome State Fault Refusal :=
  let v := vledMv.toNat
  if !s.led.on || !s.led.starting || s.refNow != s.led.setMv then .next s
  else
    let ok := decide (v ≤ s.refNow + 50 ∧ s.refNow ≤ v + 50)
    let s1 := (s.setPoint s.led.setMv).onLed fun l =>
      { l with vledMv := v, starting := false, startWait := !ok, regOk := ok, peakA := 14 }
    done (if ok && s1.saf.ssgAsked && s1.saf.func == some .ssg then s1.cairnRequest else s1)

/-- RAIL_START_TIMEOUT (R167): REG_OK still clear at 20 ms; a rail that has come within 50 mV of the reference meanwhile has set it. -/
def execRailStartTimeout (vledMv : BitVec 13) (s : State) : Host.Outcome State Fault Refusal :=
  if !s.led.on || !s.led.startWait then .next s
  else
    let ok := !s.led.starting && decide (vledMv.toNat ≤ s.refNow + 50 ∧ s.refNow ≤ vledMv.toNat + 50)
    let s1 := s.onLed fun l => { l with vledMv := vledMv.toNat, startWait := false, regOk := ok }
    done (if ok then (if s1.saf.ssgAsked && s1.saf.func == some .ssg then s1.cairnRequest else s1) else if vledMv.toNat < 1000 then s1.raise 0x71 0 else s1.raise 0x72 0)

/-! ### Protection (R169, R177) -/

/-- Phase `p` is in use. -/
def Led.uses (l : Led) (p : Fin 4) : Bool := l.on && decide (p.val < l.phases) && !l.disabled.getLsbD p.val

/-- How many phases are in use. -/
def Led.inUse (l : Led) : Nat := ((List.range 4).filter fun p => decide (p < l.phases) && !l.disabled.getLsbD p).length

/-- RAIL_OV (R169): all gates off; the LED supply is fenced. -/
def execRailOv (s : State) : Host.Outcome State Fault Refusal := if s.running then done (s.railOff.raise 0x70 0) else .next s

/-- RAIL_OCP (R169): the pulse ends; the event is counted. -/
def execRailOcp (phase : Fin 4) (s : State) : Host.Outcome State Fault Refusal :=
  if !s.led.uses phase then .next s else done ((s.onLed fun l => { l with ocp := inc 8 l.ocp }).raise 0x79 phase.val)

/-- RAIL_OCP_SUSTAINED (R169): the set point is held. -/
def execRailOcpSustained (phase : Fin 4) (s : State) : Host.Outcome State Fault Refusal :=
  if !s.led.uses phase then .next s else done ((s.onLed fun l => { l with ocpHeld := true }).raise 0x73 phase.val)

/-- PHASE_IMBALANCE (R169): the phase is disabled. -/
def execPhaseImbalance (phase : Fin 4) (s : State) : Host.Outcome State Fault Refusal :=
  if !s.led.uses phase || s.led.inUse ≤ 1 then .next s
  else done ((s.onLed fun l => { l with disabled := l.disabled ||| BitVec.ofNat 4 (2 ^ phase.val) }).raise 0x74 phase.val)

/-- RAIL_UV (R169): counted. -/
def execRailUv (s : State) : Host.Outcome State Fault Refusal :=
  if !s.led.on then .next s else done ((s.onLed fun l => { l with uv := inc 8 l.uv }).raise 0x75 0)

/-- RAIL_UV_HOLD (R169): after 100 ms the set point is held. -/
def execRailUvHold (s : State) : Host.Outcome State Fault Refusal :=
  if !s.led.on || !s.hasCond 0x75 0 then .next s else done (s.onLed fun l => { l with uvHeld := true })

/-- RAIL_SENSE (R169): the loop regulates on the local voltage minus 100 mV. -/
def execRailSense (s : State) : Host.Outcome State Fault Refusal :=
  if !s.led.on then .next s else done ((s.onLed fun l => { l with onLocal := true }).raise 0x76 0)

/-- ADC_SELFCHECK (R177): the set point is held. -/
def execAdcSelfcheck (s : State) : Host.Outcome State Fault Refusal :=
  if !s.running then .next s else done ((s.onLed fun l => { l with adcHeld := true }).raise 0x77 0)

/-! ### Limits (R171 to R173) -/

/-- The power limit in 100 mW, scaled to the phases that are left (R169). -/
def Led.limit100mw (l : Led) : Nat := if l.phases = 0 then 10 * l.plimitW else 10 * l.plimitW * l.inUse / l.phases

/-- POWER_LIMIT_STEP (R172) with the 50 ms average power. -/
def execPowerLimitStep (p100mw : BitVec 12) (s : State) : Host.Outcome State Fault Refusal :=
  let p := p100mw.toNat
  let l := s.led
  let limit := l.limit100mw
  if !s.running then .next s
  else if limit < p then
    if l.kPower ≤ 8 then done (s.onLed fun l => { l with p100mw := p, lowDwell := 0 })
    else
      let s1 := ((s.onLed fun l => { l with p100mw := p, lowDwell := 0, kPower := l.kPower - 1, plimSteps := inc 8 l.plimSteps }).fire 16)
      done ((if l.kPower = 32 then s1.raise 0x7A 0 else s1).applyCeilings)
  else if 100 * p ≤ 95 * limit then
    if 1 ≤ l.lowDwell && l.kPower < 32 then
      done ((s.onLed fun l => { l with p100mw := p, lowDwell := l.lowDwell + 1, kPower := l.kPower + 1, plimSteps := inc 8 l.plimSteps }).fire 16)
    else done (s.onLed fun l => { l with p100mw := p, lowDwell := l.lowDwell + 1 })
  else done (s.onLed fun l => { l with p100mw := p, lowDwell := 0 })

/-- target() of R173. -/
def derateTarget (t knee : Int) : Nat := if t ≤ knee then 32 else max 8 (32 - ((t - knee).toNat + 19) / 20)

/-- One evaluation of one ring (R173). -/
def BoardDerate.step (b : BoardDerate) (t knee : Int) : BoardDerate :=
  if derateTarget t knee < b.k then
    if 1 ≤ b.downDwell then { b with downDwell := b.downDwell + 1, k := b.k - 1, upDwell := 0, steps := inc 16 b.steps }
    else { b with downDwell := b.downDwell + 1 }
  else if b.k < derateTarget (t + 48) knee then
    if 1 ≤ b.upDwell then { b with upDwell := b.upDwell + 1, k := b.k + 1, downDwell := 0, steps := inc 16 b.steps }
    else { b with upDwell := b.upDwell + 1 }
  else { b with downDwell := 0, upDwell := 0 }

/-- BOARD_DERATE_STEP (R173): every ring is evaluated; falls reach the cells at once (R134). -/
def execBoardDerateStep (s : State) : Host.Outcome State Fault Refusal :=
  if !s.running then .next s
  else
    let knee : Int := 16 * s.led.kneeC
    let next := (List.range 64).map fun k => (s.led.board.getD k {}).step (s.therm.rings.getD k {}).t knee
    let changed := (List.range 64).any fun k => (next.getD k {}).k != (s.led.board.getD k {}).k
    let s1 := s.onLed fun l => { l with board := next }
    done (if changed then (s1.fire 16).applyCeilings else s1)

end Sys2Proof.Machine
end

