-- ==== Sys2Proof/Machine/Thermal.lean ====
section
/-!
DEFINITION. Sys2Proof/Machine/Thermal.lean: sensors, thresholds, throttling, shutdown and self-trim (chapter 15).
-/

namespace Sys2Proof.Machine

/-! ### The die (R434) -/

/-- The sensors next to a logic-die sensor on the grid of 4 columns and 3 rows (R433). -/
def sensorNeighbours (i : Nat) : List Nat :=
  (List.range 12).filter fun j =>
    (i / 4 == j / 4 && (i + 1 == j || j + 1 == i)) || i + 4 == j || j + 4 == i

/-- The valid logic-die sensors’ readings. -/
def Therm.valid (t : Therm) : List Int := (List.range 12).filterMap fun i => if t.failed.getLsbD i then none else some (t.sensors.getD i 0)

/-- T_die (R434): the highest valid reading; at least 120 °C with fewer than 6 valid sensors; 135 °C with none. -/
def Therm.tDie (t : Therm) : Int :=
  match t.valid with
  | [] => 2160
  | a :: l =>
    let m := l.foldl max a
    if l.length + 1 < 6 then max m 1920 else m

/-- Twice the median of temperatures, none of an empty list. -/
def medianTemp2 (l : List Int) : Option Int := (median2 (l.map fun x => (x + 65536).toNat)).map fun m => (m : Int) - 131072

/-- The sensors whose readings lie outside −50 to 160 °C (R434). -/
def Therm.outOfRange (t : Therm) (l : List Int) : BitVec 12 :=
  (List.range 12).foldl (fun n i => let x := l.getD i (t.sensors.getD i 0); if x < -800 ∨ 2560 < x then n ||| BitVec.ofNat 12 (2 ^ i) else n) 0

/-- A reading fails its sensor (R434): out of range, or more than 6 °C from the median of its valid neighbours. -/
def Therm.sensorBad (t : Therm) (i : Nat) (reading : Int) : Bool :=
  decide (reading < -800 ∨ 2560 < reading)
    || match medianTemp2 ((sensorNeighbours i).filterMap fun j => if t.failed.getLsbD j then none else some (t.sensors.getD j 0)) with
      | some m => decide (192 < (2 * reading - m).natAbs)
      | none => false

/-- DIE_SENSOR_FAIL (R434): the sensor stays failed until BOOT. -/
def execDieSensorFail (sensor : Fin 12) (reading : Int) (s : State) : Host.Outcome State Fault Refusal :=
  let i := sensor.val
  if !s.running || s.therm.failed.getLsbD i || !s.therm.sensorBad i reading then .next s
  else
    done ((s.onTherm fun t =>
      { t with sensors := t.sensors.set i reading, failed := t.failed ||| BitVec.ofNat 12 (2 ^ i) }).raise 0x85 i)

/-! ### NTCs (R435) -/

/-- The THERM_NTC_MAP field of NTC `j`: the ring, and whether it is enabled. -/
def Therm.ntcRing (t : Therm) (j : Nat) : Nat × Bool :=
  let w := if j < 4 then t.ntcMap0 else t.ntcMap1
  (fld w (8 * (j % 4) + 5) (8 * (j % 4)), w.getLsbD (8 * (j % 4) + 7))

/-- ln(a / b) with 128 fractional bits, of positive numbers. -/
def lnRatio (a b : Nat) : Int := if b ≤ a then fxLn (a * fx1 / b) else -(fxLn (b * fx1 / a) : Int)

/-- The temperature of an NTC from its 12-bit ratio (R435), to the nearest 1/16 °C (the rounding is a DESIGN CHOICE, log entry 25). -/
def Therm.ntcTemp (t : Therm) (code : Nat) : Int :=
  let beta : Int := fld t.ntcCfg 15 0
  let l := lnRatio (max 1 (fld t.ntcCfg 23 16 * code)) (max 1 (16 * (4095 - code)))
  -- 1/298.15 = 20/5963, 273.15 · 16 = 21852/5
  let num : Int := 16 * 5963 * beta * (fx1 : Int)
  let den : Int := 20 * beta * (fx1 : Int) + 5963 * l
  if den ≤ 0 then 32767 else clampI (-32768) 32767 ((2 * (5 * num - 21852 * den) + 5 * den) / (10 * den))

/-- A ratio above 0.98 or below 0.02 (R435). -/
def ntcOpenShort (code : Nat) : Bool := decide (98 * 4095 < 100 * code ∨ 100 * code < 2 * 4095)

/-- NTC `j` is used (R435): enabled and not failed. -/
def Therm.ntcUsable (t : Therm) (j : Nat) : Bool := (t.ntcRing j).2 && !(t.ntcs.getD j {}).failed

/-- The NTCs after an evaluation. -/
def Therm.readNtcs (t : Therm) (codes : List (BitVec 12)) : List Ntc :=
  (List.range 8).map fun j =>
    let x := t.ntcs.getD j {}
    let c := (codes.getD j 0).toNat
    if ntcOpenShort c then { x with failed := true } else { x with t := t.ntcTemp c }

/-! ### Board temperatures (R437, R440) -/

/-- The zones of ring `k` (R85). -/
def ringZones (k : Nat) : List Nat := (List.range 16).map fun i => 32 * (4 * (k / 8) + i / 4) + 4 * (k % 8) + i % 4

/-- The highest number of a list. -/
def maxTemp : List Int → Option Int
  | [] => none
  | a :: l => some (l.foldl max a)

/-- Rows 1 and 2 of R437 for ring `k`: the value and its SOURCE. -/
def State.ownTemp (s : State) (k : Nat) : Option (Int × Nat) :=
  let zones := (ringZones k).filterMap fun z => let l := s.zoneTemps z; if 16 ≤ l.length then some (meanTemp l) else none
  match maxTemp zones with
  | some t => some (t, 0)
  | none =>
    match maxTemp ((List.range 8).filterMap fun j =>
      if s.therm.ntcUsable j && (s.therm.ntcRing j).1 == k then some (s.therm.ntcs.getD j {}).t else none) with
    | some t => some (t, 1)
    | none => none

/-- The rings next to ring `k` on the 8 × 8 grid. -/
def ringNeighbours (k : Nat) : List Nat :=
  (List.range 64).filter fun j =>
    (k / 8 == j / 8 && (k + 1 == j || j + 1 == k)) || k + 8 == j || j + 8 == k

/-- t_k and SOURCE of every ring (R437). -/
def State.boardTemps (s : State) : List (Int × Nat) :=
  let own := (List.range 64).map s.ownTemp
  let tile := (maxTemp (own.filterMap fun x => x.map (·.1))).getD 880
  (List.range 64).map fun k =>
    match own.getD k none with
    | some x => x
    | none => match maxTemp ((ringNeighbours k).filterMap fun j => (own.getD j none).map (·.1)) with
      | some t => (t, 2)
      | none => (tile, 3)

/-- The 250 ms samples after one more (R440): 17 span 4 s. -/
def Therm.addSample (t : Therm) : Therm := { t with hist := ((t.tDie, t.rings.map (·.t)) :: t.hist).take 17 }

/-- By how much T_die has risen in 4 s (R440); no rate is formed until 4 s of samples exist. -/
def Therm.dieRise4 (t : Therm) : Option Int := match t.hist[16]?, t.hist[0]? with | some a, some b => some (b.1 - a.1) | _, _ => none

/-- By how much t_k has risen in 4 s. -/
def Therm.ringRise4 (t : Therm) (k : Nat) : Option Int :=
  match t.hist[16]?, t.hist[0]? with | some a, some b => some (b.2.getD k 0 - a.2.getD k 0) | _, _ => none

/-- The rate of rise of t_k in 1/16 °C/s (R440), 0 until one is formed. -/
def Therm.ringRate (t : Therm) (k : Nat) : Int := ((t.ringRise4 k).getD 0).tdiv 4

/-- K_THR after one evaluation (R441); `inj`: an injected THERM_RISE reacts (R423). -/
def Therm.stepThr (t : Therm) (inj : Bool) : Therm :=
  if t.pdieLimit || t.rings.any (·.rise) || inj then
    (if 8 < t.kThr then { t with kThr := t.kThr - 1, thrHeld := 0 } else { t with thrHeld := t.thrHeld + 1 })
  else if 1 ≤ t.thrHeld && t.kThr < 32 then { t with kThr := t.kThr + 1, thrHeld := t.thrHeld + 1 }
  else { t with thrHeld := t.thrHeld + 1 }

/-- SKIP after one evaluation (R442); `inj`: an injected THERM_DIE_LIMIT reacts (R423). -/
def Therm.stepSkip (t : Therm) (inj : Bool) : Therm :=
  if ((t.dieLimit || inj) && 1920 ≤ t.tDie) || t.dieRise then { t with skip := min 8 (t.skip + 1) }
  else if t.dieLimit || inj then t
  else { t with skip := t.skip - 1 }

/-- Ring `k` takes its t_k from NTC `j` (R437, R449): the NTC is the ring’s, and the highest of those; of equals the first (log entry 25). -/
def Therm.ntcTaken (t : Therm) (temps : List (Int × Nat)) (j : Nat) : Bool :=
  let k := (t.ntcRing j).1
  let x := temps.getD k (880, 3)
  x.2 == 1 && (List.range 8).find? (fun i => t.ntcUsable i && (t.ntcRing i).1 == k && (t.ntcs.getD i {}).t == x.1) == some j

/-- THERMAL_EVALUATION (R437, R440 to R442); a sensor whose reading is out of range fails (R434). -/
def execThermalEvaluation (obs : ThermObs) (s : State) : Host.Outcome State Fault Refusal :=
  if !s.running then .next s
  else
    let s1 := s.onTherm fun t =>
      let t1 := { t with sensors := (List.range 12).map fun i => obs.sensors.getD i 0, pdie := obs.pdie
                         failed := t.outOfRange obs.sensors ||| t.failed }
      { t1 with ntcs := t1.readNtcs obs.ntc }
    let temps := s1.boardTemps
    let s2 := s1.onTherm fun t =>
      { t with
        rings := (List.range 64).map fun k =>
          let x := temps.getD k (880, 3)
          { t.rings.getD k {} with t := x.1, source := x.2 }
        ntcs := (List.range 8).map fun j =>
          { t.ntcs.getD j {} with used := t.ntcTaken temps j } }
    let s3 := s2.onTherm fun t => (t.addSample.stepThr (s.injects 0x84)).stepSkip (s.injects 0x81)
    let s4 := if s3.therm.kThr != s.therm.kThr then s3.fire 16 else s3
    let s5 := if s3.therm.skip != s.therm.skip then s4.fire 16 else s4
    let new := s3.therm.failed &&& ~~~s.therm.failed
    let s6 := (List.range 12).foldl (fun s i => if new.getLsbD i then s.raise 0x85 i else s) s5
    done (if s3.therm.kThr < s.therm.kThr then s6.applyCeilings else s6)

/-- NTC_CROSSCHECK_FAIL (R437): a used NTC differs from its ring’s cells by more than 10 °C for 10 s. -/
def execNtcCrosscheckFail (ntc : Fin 8) (s : State) : Host.Outcome State Fault Refusal :=
  let j := ntc.val
  let r := s.therm.rings.getD (s.therm.ntcRing j).1 {}
  if !s.running || !s.therm.ntcUsable j || r.source ≠ 0 || ((s.therm.ntcs.getD j {}).t - r.t).natAbs ≤ 160 then .next s
  else done ((s.onTherm fun t => { t with ntcs := upd t.ntcs j fun x => { x with failed := true, used := false } }).raise 0x85 (0x200 + j))

/-! ### Thresholds (R438, R439) -/

/-- The threshold and the release level of a quantity, in 1/16 °C or 1/16 °C/s (R438, R439). -/
def State.threshold (s : State) (q : ThermQty) : Int × Int :=
  match q with
  | .dieWarn => (1760, 1712) | .dieLimit => (1920, 1872) | .dieShut => (2160, 2112)
  | .pdieWarn => (2160, 2112) | .pdieLimit => (2240, 2192) | .pdieShut => (2400, 2352)
  | .dieRise => (80, 72) | .ringRise _ => (24, 16)
  | .knee _ => (16 * s.led.kneeC, 16 * s.led.kneeC - 48)

/-- A quantity’s threshold has been crossed upward and not released. -/
def Therm.crossed (t : Therm) (q : ThermQty) : Bool :=
  match q with
  | .dieWarn => t.dieWarn | .dieLimit => t.dieLimit | .dieShut => t.dieShut
  | .pdieWarn => t.pdieWarn | .pdieLimit => t.pdieLimit | .pdieShut => t.pdieShut
  | .dieRise => t.dieRise
  | .ringRise k => (t.rings.getD k.val {}).rise
  | .knee k => (t.rings.getD k.val {}).derate

/-- The crossing state of a quantity set, and the crossing counted (R438, R449). -/
def Therm.cross (t : Therm) (q : ThermQty) (up : Bool) : Therm :=
  let die := fun (t : Therm) => if up then { t with dieUp := inc 8 t.dieUp } else { t with dieDown := inc 8 t.dieDown }
  let pdie := fun (t : Therm) => { t with pdieX := inc 8 t.pdieX }
  let rate := fun (t : Therm) => { t with riseX := inc 8 t.riseX }
  match q with
  | .dieWarn => die { t with dieWarn := up } | .dieLimit => die { t with dieLimit := up } | .dieShut => die { t with dieShut := up }
  | .pdieWarn => pdie { t with pdieWarn := up } | .pdieLimit => pdie { t with pdieLimit := up } | .pdieShut => pdie { t with pdieShut := up }
  | .dieRise => rate { t with dieRise := up }
  | .ringRise k => rate { t with rings := upd t.rings k.val fun r => { r with rise := up } }
  | .knee k => { t with rings := upd t.rings k.val fun r => { r with derate := up } }

/-- The fault source and DETAIL of a quantity (R439). -/
def thermSource : ThermQty → Nat × Nat
  | .dieWarn => (0x80, 0) | .dieLimit => (0x81, 0) | .dieShut => (0x82, 0)
  | .pdieWarn => (0x80, 1) | .pdieLimit => (0x81, 1) | .pdieShut => (0x82, 1)
  | .dieRise => (0x84, 0xFF) | .ringRise k => (0x84, k.val) | .knee k => (0x83, k.val)

/-- A quantity lies where a crossing ends its dwell (R438): at or above its threshold, or at or below its release level. The temperatures of
the die and the power die are read with the crossing; the rates and t_k are those of the samples (R437, R440), and no rate crosses before
one is formed. -/
def State.crosses (s : State) (q : ThermQty) (up : Bool) (value : Int) : Bool :=
  let (at_, release) := s.threshold q
  let past := fun (v n : Int) => if up then decide (n * at_ ≤ v) else decide (v ≤ n * release)
  match q with
  | .dieRise => (match s.therm.dieRise4 with | some v => past v 4 | none => false)
  | .ringRise k => (match s.therm.ringRise4 k.val with | some v => past v 4 | none => false)
  | .knee k => past (s.therm.rings.getD k.val {}).t 1
  | _ => past value 1

/-- THRESHOLD_CROSSING (R438, R439, R444). -/
def execThresholdCrossing (q : ThermQty) (up : Bool) (value : Int) (s : State) : Host.Outcome State Fault Refusal :=
  if !s.running || s.therm.crossed q == up || !s.crosses q up value then .next s
  else
    let s1 := s.onTherm fun t => t.cross q up
    let (src, detail) := thermSource q
    if !up then done (s1.endCond src detail)
    else
      let s2 := s1.raise src detail
      done (match q with | .dieShut => s2.startShutdown | .pdieShut => s2.startShutdown | _ => s2)

/-! ### Self-trim (R445 to R448) -/

/-- A trigger of R445; one that arrives during a run is held. -/
def State.askTrim (s : State) : State := s.onTherm fun t => { t with trimAsked := true }

/-- T_DIE_MOVE (R445): T_die has moved by at least 8 °C since the start of the last completed run. -/
def execTDieMove (s : State) : Host.Outcome State Fault Refusal :=
  if s.running && decide (128 ≤ (s.therm.tDie - s.therm.tAtRun).natAbs) then done s.askTrim else .next s

/-- TRIM_DAILY (R445): 24 h of operating time after the last completed run. -/
def execTrimDaily (s : State) : Host.Outcome State Fault Refusal := if s.running then done s.askTrim else .next s

/-- SELF_TRIM_START (R445). -/
def execSelfTrimStart (s : State) : Host.Outcome State Fault Refusal :=
  if !s.therm.trimAsked || s.therm.trimBusy || !s.running || s.eng.st == .service || s.eng.shutting then .next s
  else done (s.onTherm fun t => { t with trimAsked := false, trimBusy := true, trimFresh := false, trimStartT := t.tDie })

/-- The block of each trim, in the order of R446: the error amplifier’s offset; the current-sense amplifiers’ offset and gain; the ADC’s
offset, gain and reference; the offsets of the die and the power die sensors; lane swing; lane termination. -/
def trimBlock : List Nat := [0, 1, 1, 2, 2, 2, 3, 3, 4, 5]

/-- A measured trim is rejected (R447); the flag says that it lies at an end of its range. -/
def trimRejects (old : Int) (m : Int × Bool) : Bool := m.2 || decide (8 < (m.1 - old).natAbs)

/-- A block’s run is rejected: one of its trims is. -/
def blockRejects (old : List Int) (trims : List (Int × Bool)) (b : Nat) : Bool :=
  (List.range 10).any fun i => trimBlock.getD i 0 == b && trimRejects (old.getD i 0) (trims.getD i (0, true))

/-- The trim that an accepted measurement gives (R448): lane swing and termination move by at most 2 steps. -/
def trimAccepts (block : Nat) (old new : Int) : Int := if 4 ≤ block then clampI (old - 2) (old + 2) new else new

/-- SELF_TRIM_COMPLETE (R446 to R448): what the run measured of each trim. A block that this run rejects keeps its previous trim, one that an
earlier run has accepted and that is still PENDING included; PENDING reads 1 only while accepted trims wait. -/
def execSelfTrimComplete (trims : List (Int × Bool)) (s : State) : Host.Outcome State Fault Refusal :=
  if !s.therm.trimBusy then .next s
  else
    let t := s.therm
    let old := if t.trimPending then t.trimNew else t.trims
    let bad := blockRejects t.trims trims
    let s1 := s.onTherm fun t =>
      { t with
        trimBusy := false, trimPending := t.trimPending || (List.range 6).any fun b => !bad b
        trimCode := stOk, trimFresh := true, tAtRun := t.trimStartT, trimAt := s.opSeconds
        trimRejected := BitVec.ofNat 6 ((List.range 6).foldl (fun n b => if bad b then n + 2 ^ b else n) 0)
        trimNew := (List.range 10).map fun i =>
          let b := trimBlock.getD i 0
          if bad b then old.getD i 0 else trimAccepts b (old.getD i 0) (trims.getD i (0, true)).1 }
    done ((List.range 6).foldl (fun s b => if bad b then s.raise 0x86 b else s) s1)

/-- TRIM_TIMEOUT (R447): not complete within 20 ms; nothing is committed and no block is rejected. -/
def execTrimTimeout (s : State) : Host.Outcome State Fault Refusal :=
  if !s.therm.trimBusy then .next s
  else done ((s.onTherm fun t => { t with trimBusy := false, trimCode := stNotReady, trimRejected := 0, trimFresh := true }).raise 0x86 0xFF)

/-- TRIM_APPLY_TIMEOUT (R448): no take point within 50 ms of completion. -/
def execTrimApplyTimeout (s : State) : Host.Outcome State Fault Refusal :=
  if s.therm.trimPending then done s.applyTrims else .next s

end Sys2Proof.Machine
end

