-- ==== Sys2Proof/Machine/Colour.lean ====
section
/-!
DEFINITION. Sys2Proof/Machine/Colour.lean: colour takes, calibration updates, the envelope and transfer-table writes, and stores of user
calibration (chapter 3).
-/

namespace Sys2Proof.Machine

/-! ### Takes (R75 to R77) -/

/-- The word that reports a landing (R116, R235). -/
def takeWord (code : Byte) (token : BitVec 8) : Word := pack [(0, code.toNat), (8, token.toNat)]

/-- A take request (R75, R76): its status; whether it has landed at once; and the state after it. -/
def State.requestTake (s : State) (env colour : Bool) (token : BitVec 8) (by_ : Issuer) : Byte × Bool × State :=
  if !env && !colour then (stOk, true, s.onCol fun c => { c with resCode := stOk, resToken := token, resFresh := true })
  else if s.col.landings.any fun l => (env && l.env.isSome) || (colour && l.colour.isSome) then (stBusy, true, s)
  else
    (stOk, false, s.onCol fun c =>
      { c with
        landings := c.landings ++ [{ env := if env then some c.envShadow else none, colour := if colour then some c.shadow else none
                                     token := token, by_ := by_ }]
        resFresh := false })

/-- The landing that completes next: one of ENV alone, else the oldest. -/
def nextLanding (l : List Landing) : Option Landing :=
  match l.find? fun x => x.colour.isNone with | some x => some x | none => l.head?

/-- TAKE_LANDING (R75 to R77): the landing completes, or its COLOUR part is refused and nothing lands. -/
def execTakeLanding (s : State) : Host.Outcome State Fault Refusal :=
  match nextLanding s.col.landings with
  | none => .next s
  | some l =>
    let bad := match l.colour with | some g => colourRefused s.col.ident.prims g | none => false
    let code := if bad then stBadLen else stOk
    let s1 := s.onCol fun c =>
      { c with
        landings := c.landings.erase l, resCode := code, resToken := l.token, resFresh := true
        envPending := if bad then c.envPending else match l.env with | some t => some t | none => c.envPending
        pending := if bad then c.pending
          else match l.colour with
            | some g => some (landColour c.ident.prims g (c.pending.getD c.active))
            | none => c.pending }
    done ((s1.issuerReply l.by_ code (takeWord code l.token)).fire 21)

/-! ### The ENV group (R90) -/

/-- A zone’s shadow cap set. -/
def Col.setCap (c : Col) (z : Nat) (v : BitVec 16) : Col := { c with envShadow := sset 0xFFFF z v c.envShadow }

/-- A write of COL_ENV_DATA (R90, R116): two caps from zone `a`. -/
def State.envData (s : State) (a : Nat) (w : Word) : State :=
  s.onCol fun c => (c.setCap (a % 1024) (BitVec.ofNat 16 (fld w 15 0))).setCap ((a + 1) % 1024) (BitVec.ofNat 16 (fld w 31 16))

/-- A write of COL_ENV_FILL (R90): a rectangle of zones filled with FILL_CAP. -/
def State.envFill (s : State) (w : Word) : State :=
  let x0 := fld w 4 0
  let y0 := fld w 9 5
  let x1 := fld w 14 10
  let y1 := fld w 19 15
  (List.range 1024).foldl (fun s z =>
    if decide (x0 ≤ z % 32 ∧ z % 32 ≤ x1 ∧ y0 ≤ z / 32 ∧ z / 32 ≤ y1) then s.onCol fun c => c.setCap z c.fillCap else s) s

/-! ### Calibration updates (R96, R97) -/

/-- The three words of a CAL block as a request; none when a rule of R235 fails. -/
def calReq (w0 w1 w2 : Word) : Option CalReq :=
  let x0 := fld w0 9 0
  let y0 := fld w0 25 16
  let x1 := fld w1 9 0
  let y1 := fld w1 25 16
  if fld w0 15 10 ≠ 0 ∨ fld w0 31 26 ≠ 0 ∨ fld w1 15 10 ≠ 0 ∨ fld w1 31 26 ≠ 0 ∨ fld w2 31 21 ≠ 0 then none
  else if (w2.getLsbD 19 && w2.getLsbD 20) ∨ x1 < x0 ∨ y1 < y0 then none
  else
    some { x := x0, y := y0, w := x1 + 1 - x0, h := y1 + 1 - y0, add := w2.getLsbD 18, fence := w2.getLsbD 19, unfence := w2.getLsbD 20
           ug := (List.range 3).map fun i => ofSfield 6 (fld w2 (6 * i + 5) (6 * i)) }

/-- UNFENCE of a CAL block. -/
def calUnfence (w2 : Word) : Bool := w2.getLsbD 20

/-- A CAL request (R96, R97, R235): its status, and the state after it. -/
def State.requestCal (s : State) (w0 w1 w2 : Word) : Byte × State :=
  match calReq w0 w1 w2 with
  | none => (stBadLen, s)
  | some q => if s.col.calQueue.isEmpty then (stOk, s.onCol fun c => { c with calQueue := [q] }) else (stBusy, s)

/-- CAL_UPDATE_COMPLETE (R97): the update that runs has rewritten the rest of its records. -/
def execCalUpdateComplete (s : State) : Host.Outcome State Fault Refusal :=
  match s.col.calRunning, s.col.calQueue with
  | true, q :: rest => done ((s.calUpTo q (q.w * q.h)).onCol fun c => { c with calQueue := rest, calRunning := false, calPos := 0 })
  | _, _ => .next s

/-! ### Stores of user calibration (R110 to R112) -/

/-- The half that the next store writes (R111); half A where neither is valid (DESIGN CHOICE, log entry 86). -/
def Col.userTarget (c : Col) : Bool := c.userAny && !c.userHalf

/-- A store of user calibration starts (R111), of kind 3 whatever starts it (R474): its half is no longer valid. -/
def State.startUserStore (s : State) : State :=
  if s.col.userStore || s.unitFenced 4 || s.pwr.noNewStore then s
  else ((s.flashErase (userHalfAt s.col.userTarget) 0x3C0000).onCol fun c =>
    { c with userStore := true, storePos := 0, storeOld := [] }).onNvm fun v => { v with stKind := 3, stValid := false, stFresh := false }

/-- The header of a user half (R110). -/
def userHeader (gen epoch : Word) (body : List Byte) : List Byte :=
  leBytes 4 0x4C414355 ++ leBytes 4 1 ++ leBytes 4 gen.toNat ++ leBytes 4 epoch.toNat ++ leBytes 4 3145728
    ++ bytes256 (sha256 body) ++ leBytes 8 0 ++ leBytes 4 0x5A5AC3C3

/-- USER_CAL_STORE_COMPLETE (R111): body, header and COMMIT are written, or the store fails. It pauses while a ledger store copies (R187).
Without a valid half it writes half A as generation 1 (DESIGN CHOICE, log entry 86). The settings epoch of R459 stays the one loaded at BOOT. -/
def execUserCalStoreComplete (ok : Bool) (s : State) : Host.Outcome State Fault Refusal :=
  if !s.col.userStore || s.unitFenced 4 || s.pwr.noNewStore || (s.age.busy && s.age.copying) then .next s
  else
    let half := s.col.userTarget
    let over_ := fun (s : State) (code : Byte) =>
      ((s.storeResult 3 code).onCol fun c => { c with userStore := false, storePos := 0, storeOld := [] }).checkShutdown
    if !ok then done (over_ s.takeFree s.failCode)
    else
      let body := (List.range 1048576).flatMap fun p => leBytes 3 (s.storeWord p)
      let gen := if s.col.userAny then s.col.userGen + 1 else 1
      let s1 := (s.flashStore (userHalfAt half + 0x10000) body).flashStore (userHalfAt half) (userHeader gen s.cmd.settingsEpoch body)
      let s2 := s1.onCol fun c => { c with userHalf := half, userGen := gen, userAny := true }
      done ((over_ s2 stOk).fire 22)

end Sys2Proof.Machine
end

