-- ==== Sys2Proof/Machine/Age.lean ====
section
/-!
DEFINITION. Sys2Proof/Machine/Age.lean: the ledger and its stores, plan passes, and the engine’s own margins (chapter 6).
-/

namespace Sys2Proof.Machine

/-! ### The ledger pass (R181 to R185) -/

/-- LEDGER_PASS_COMPLETE (R181, R182, R185). -/
def execLedgerPassComplete (bad : LedgerErrs) (s : State) : Host.Outcome State Fault Refusal :=
  match s.age.sample with
  | none => .next s
  | some x =>
    done ((((s.onAge fun a => { a with upset := a.upset ++ bad.found }).readLedger.applySample x)).onAge fun a => { a with upset := bad.later })

/-! ### Ledger stores (R186 to R189, R207) -/

/-- The half that the next store writes (R186). -/
def Age.target (a : Age) : Bool := a.anyValid && !a.newestB

/-- AGE_MARGIN.MIN_PS and WORST (R209): the least slack over the last second and its replica; the latest evaluation when the last second
had none. -/
def Age.margin (a : Age) (now : Nat) : Nat × Nat :=
  match a.slacks with
  | [] => (0, 0)
  | x :: l => (l.filter fun y => decide (now < y.1 + 65536000000000)).foldl (fun m y => if y.2.1 < m.1 then y.2 else m) x.2

/-- AGE_MEM.EYE_MIN (R204): the least read eye. -/
def Age.eyeMin (a : Age) : Nat := match a.readEyes with | [] => 0 | x :: l => l.foldl min x

/-- The 20 data bytes of a self-ageing entry (R207). -/
def State.ageingData (s : State) : List Byte :=
  leBytes 4 s.opHours ++ leBytes 2 s.age.vcoreMv ++ leBytes 2 (s.age.margin s.time.local_).1 ++ leBytes 1 (b2n s.age.memSet) ++ leBytes 1 s.age.eyeMin
    ++ leBytes 1 s.age.laneA ++ leBytes 1 s.age.laneB ++ leBytes 2 s.age.refreshedRec ++ leBytes 6 0

/-- A ledger store starts (R186): a plan pass runs, and a self-ageing entry is appended. Its half is no longer valid, whatever interrupts
it (R188). -/
def State.startLedger (s0 : State) : State :=
  let s := if s0.age.erased then s0 else s0.flashErase (ledgerHalfAt s0.age.target) 4096
  let s1 := (s.onAge fun a =>
    { a with busy := true, fresh := false, copying := a.erased, copyPos := 0, copyOld := [], storeOpS := s.opSeconds, retry := false }).planPass false
  (s1.logEvent logAgeing 0 s1.ageingData).onAge fun a => { a with refreshedRec := 0 }

/-- A ledger store is asked for (R186, R188): FENCED while the tile flash is fenced, BUSY while a store runs. -/
def State.storeLedger (s : State) : State :=
  if s.unitFenced 4 then s.onAge fun a => { a with code := stFenced, fresh := true }
  else if s.age.busy then s.onAge fun a => { a with code := stBusy }
  else if s.pwr.noNewStore then s
  else s.startLedger

/-- LEDGER_STORE_START (R186): 55 min of operating time; its plan pass reads the ledger (R185). -/
def execLedgerStoreStart (s : State) : Host.Outcome State Fault Refusal :=
  if !s.running || s.age.joinAt.isNone then .next s else done s.storeLedger

/-- LEDGER_ERASE_COMPLETE (R186): the background erase of the next target, which is known once BOOT has loaded the ledger. -/
def execLedgerEraseComplete (s : State) : Host.Outcome State Fault Refusal :=
  if !s.running || s.eng.st == .boot || s.eng.noImage || s.age.erased || s.unitFenced 4 || s.pwr.noNewStore then .next s
  else done ((s.flashErase (ledgerHalfAt s.age.target) 0x1300000).onAge fun a => { a with erased := true, copying := a.busy })

/-- The header of a ledger half (R189). -/
def ledgerHeader (a : Age) (uid : BitVec 128) (gen : Word) (body : List Byte) : List Byte :=
  let head := leBytes 4 0x5247444C ++ leBytes 4 1 ++ leBytes 4 gen.toNat ++ leBytes 16 uid.toNat ++ leBytes 8 a.storeOpS
    ++ leBytes 4 a.passCount.toNat ++ (List.range 3).flatMap (fun i => leBytes 2 (a.ovr.getD i 0)) ++ leBytes 2 a.exclude
    ++ leBytes 4 18874368 ++ bytes256 (sha256 body) ++ leBytes 2 a.history.length ++ leBytes 170 0
    ++ padTo 1920 (a.history.flatMap fun h => leBytes 4 h.hours ++ (List.range 3).flatMap fun i => leBytes 2 (h.floors.getD i 0))
    ++ leBytes 1912 0
  head ++ leBytes 4 (crc32 head) ++ leBytes 4 0x5A5AC3C3

/-- What waits for the ledger store to complete or fail (R186, R251, R467). A RESTART once accepted resets when the store ends, whatever
happened meanwhile: a safety demand or an UPDATE_ABORT does not take it back (DESIGN CHOICE, log entry 72). -/
def State.afterLedger (s : State) : State :=
  if s.age.forRestart then s.resetWith .restart
  else if s.nvm.fallbackDue then s.fallback
  else s.checkShutdown

/-- LEDGER_STORE_COMPLETE (R186, R189): the body as it was copied, live and in pixel order, the header and COMMIT; the erase of the other half
starts. The copy reads the ledger (R185). -/
def execLedgerStoreComplete (s0 : State) : Host.Outcome State Fault Refusal :=
  if !s0.age.busy || !s0.age.copying || s0.unitFenced 4 || s0.pwr.noNewStore then .next s0
  else
    let s := s0.readLedger
    let half := s.age.target
    let gen := if s.age.anyValid then s.age.gen + 1 else 1
    let body := (List.range 3145728).flatMap fun e => leBytes 6 (s.copiedDose e)
    let s1 := (s.flashStore (ledgerHalfAt half + 0x10000) body).flashStore (ledgerHalfAt half) (ledgerHeader s.age s.col.ident.uid gen body)
    let s2 := s1.onAge fun a =>
      { a with busy := false, copying := false, copyOld := [], erased := false, code := stOk, fresh := true, gen := gen, half := half, newestB := half
               anyValid := true }
    done (((s2.flashErase (ledgerHalfAt (!half)) 4096).fire 22).afterLedger)

/-- LEDGER_STORE_FAIL (R188): the half stays invalid; the next store starts 5 min later. -/
def execLedgerStoreFail (s : State) : Host.Outcome State Fault Refusal :=
  if !s.age.busy || !s.age.copying then .next s
  else
    let s1 := (s.onAge fun a => { a with busy := false, copying := false, copyOld := [], erased := false, code := s.failCode, fresh := true, retry := true }).takeFree
    done ((s1.raise 0x93 0).afterLedger)

/-- LEDGER_STORE_RETRY (R188). -/
def execLedgerStoreRetry (s : State) : Host.Outcome State Fault Refusal :=
  if !s.age.retry || !s.running then .next s else done s.storeLedger

/-- PLAN_REWRITE_COMPLETE (R197): the rest of the working records is rewritten; the RES factors wait for the next take point. The
rewrite reads the ledger (R185). -/
def execPlanRewriteComplete (s : State) : Host.Outcome State Fault Refusal :=
  match s.age.resNext with
  | none => .next s
  | some res =>
    if s.unitFenced 4 then .next s
    else done (s.readLedger.rewriteAll.onAge fun a => { a with resNext := none, resReady := some res })

/-! ### The engine’s own margins (R202 to R206) -/

/-- The least slack and its replica. -/
def leastSlack (l : List (BitVec 10)) : Nat × Nat :=
  (List.range 8).foldl (fun m i => let v := (l.getD i 1023).toNat; if v < m.1 then (v, i) else m) ((l.getD 0 1023).toNat, 0)

/-- The VOUT_COMMAND value of a voltage (R203): round(V × 2^N). -/
def voutCommand (mv n : Nat) : BitVec 16 := BitVec.ofNat 16 ((mv * 2 ^ n * 2 + 1000) / 2000)

/-- One byte into the packet error code of the PMBus: CRC-8, polynomial x^8 + x^2 + x + 1 (PRESUMED from PMBus, log entry 77). -/
def pecByte (crc b : Nat) : Nat := (List.range 8).foldl (fun c _ => if 128 ≤ c then (2 * c) % 256 ^^^ 7 else 2 * c) (crc ^^^ b)

/-- The bytes of a VOUT_COMMAND write (R203): address and write bit, command code 0x21, the value low byte first, and the packet error
code (the code and the order are PRESUMED from PMBus, log entry 77). -/
def voutBytes (addr : Nat) (v : BitVec 16) : List Byte :=
  let l := [2 * (addr % 128), 0x21, v.toNat % 256, v.toNat / 256]
  (l ++ [l.foldl pecByte 0]).map (BitVec.ofNat 8)

/-- A write of the core voltage (R203): after three failed attempts AVS_MISMATCH, and nothing more is written until BOOT. -/
def State.setCore (s : State) (mv : Nat) (written raised : Bool) : State :=
  if !written then (s.onAge fun a => { a with avsDead := true }).raise 0x97 0
  else s.onAge fun a =>
    { a with vcoreMv := mv, vcoreCmd := some (voutCommand mv a.avsExp), pmbus := voutBytes a.avsAddr (voutCommand mv a.avsExp)
             stepsUp := if raised then inc 16 a.stepsUp else a.stepsUp }

/-- AVS_EVALUATION (R202, R203); `written`: a PMBus write that it makes does not fail three times. -/
def execAvsEvaluation (slackPs : List (BitVec 10)) (written : Bool) (s : State) : Host.Outcome State Fault Refusal :=
  if !s.running then .next s
  else
    let (m, w) := leastSlack slackPs
    let now := s.time.local_
    let a := s.age
    let top := decide (a.avsVmax ≤ a.vcoreMv)
    let since := if m < 100 then none else some (a.slackSince.getD now)
    let long := match since with | some t => decide (3600000000000 * 65536 ≤ now - t) | none => false
    let s1 := s.onAge fun a =>
      { a with slacks := (now, m, w) :: a.slacks.filter fun y => decide (now < y.1 + 65536000000000), slackSince := since }
    let s2 := s1.level (a.avsEn && m < 20 && top) 0x90 0
    let s3 := s2.level (a.avsEn && 20 ≤ m && m < 60 && top) 0x96 0
    if a.avsDead then done s3
    else if !a.avsEn then done (if a.vcoreMv = 750 then s3 else s3.setCore 750 written false)
    else if m < 60 && !top then done (s3.setCore (min (a.vcoreMv + 5) a.avsVmax) written true)
    else if long && !s.therm.trimBusy && !s.therm.trimPending && a.avsVmin < a.vcoreMv then
      done (s3.setCore (max (a.vcoreMv - 5) a.avsVmin) written false)
    else done s3

/-- AVS_CHECK (R203): ADC channel 17, in mV, 2 ms after a write. -/
def execAvsCheck (ch17Mv : BitVec 12) (s : State) : Host.Outcome State Fault Refusal :=
  let v := ch17Mv.toNat
  if s.age.vcoreCmd.isNone || s.age.avsDead || (s.age.vcoreMv ≤ v + 25 && v ≤ s.age.vcoreMv + 25) then .next s
  else done ((s.onAge fun a => { a with avsDead := true }).raise 0x97 0)

/-- Read eyes measured (R204): a read eye below 0.35 UI asks for timing set 1 at the next BOOT; under set 1 an eye below 0.30 UI, read or
write, is MEM_MARGIN. -/
def State.memEyes (s : State) (eyes : List Nat) : State :=
  let s1 := s.onAge fun a => { a with readEyes := eyes, nextSet := a.nextSet || eyes.any fun e => decide (100 * e < 35 * 256) }
  s1.level (s1.age.memSet && (eyes ++ s1.age.writeEyes).any fun e => decide (100 * e < 30 * 256)) 0x98 0

/-- MEM_EYE_CHECK (R204): the read eye of each byte lane, in 1/256 UI. -/
def execMemEyeCheck (eyes : List (BitVec 8)) (s : State) : Host.Outcome State Fault Refusal :=
  if !s.running then .next s else done (s.memEyes (eyes.map (·.toNat)))

/-- DQS_TRACKING (R204): oscillator tracking runs; it moves only timing inside the DRAM interface. -/
def execDqsTracking (s : State) : Host.Outcome State Fault Refusal :=
  if !s.running then .next s else done (s.onAge fun a => { a with dqsRuns := a.dqsRuns + 1 })

/-- One port of LANE_MARGIN_CHECK (R205): the least eye of its used lanes (R280); below 0.30 UI its start rate goes one step lower. Like every
measurement it reports in LNK_EYE_STATUS, unless one for LNK_EYE runs (R280). -/
def State.laneMargin (s : State) (p : Port) (eyes : List (BitVec 8)) : State :=
  let l := s.link p
  let used := l.usedLanes
  if l.st != .active || used.isEmpty then s
  else
    let least := used.foldl (fun m i => min m (eyes.getD i 255).toNat) 255
    let s1 := (s.onLink p fun l =>
      { l with
        lanes := (List.range 4).map fun i =>
          let x := l.lanes.getD i {}
          if used.contains i then { x with eye := (eyes.getD i 255).toNat } else x
        eyeMin := if l.eyeValid then least else l.eyeMin, eyeLanes := if l.eyeValid then laneMask used else l.eyeLanes
        eyeFresh := l.eyeFresh || l.eyeValid }).onAge fun a =>
      match p with | .a => { a with laneA := least } | .b => { a with laneB := least }
    if 30 * 256 ≤ 100 * least then s1
    else
      let s2 := s1.onAge fun a => match p with | .a => { a with startA := min 2 (a.startA + 1) } | .b => { a with startB := min 2 (a.startB + 1) }
      (if s2.startRate p = s.startRate p then s2 else s2.startSettings).raise 0x9B (portNo p)

/-- LANE_MARGIN_CHECK (R205): every 60 min. -/
def execLaneMarginCheck (eyesA eyesB : List (BitVec 8)) (s : State) : Host.Outcome State Fault Refusal :=
  if !s.running then .next s else done ((s.laneMargin .a eyesA).laneMargin .b eyesB)

/-- NVM_SCRUB (R206, R451): every page is read; a page that cannot be corrected invalidates its copy and raises NVM_UNCORRECTABLE.
A scrub that refreshed a page is recorded as NVM_SCRUB (DEDUCED, log entry 26). It yields to stores, journal replay and erases (R454). -/
def execNvmScrub (obs : ScrubObs) (s : State) : Host.Outcome State Fault Refusal :=
  if !s.running || s.unitFenced 9 || s.nvm.working || s.pwr.noNewStore then .next s
  else
    let s1 := (s.onAge fun a =>
      { a with refreshed := sat 16 (a.refreshed + obs.refreshed), refreshedRec := sat 16 (a.refreshedRec + obs.refreshed)
               intervalH := if obs.refreshed = 0 then 24 else 6 }).onNvm fun v => { v with eccCorr := sat 16 (v.eccCorr + obs.corrected) }
    let s2 := if obs.refreshed = 0 then s1 else s1.raise 0xD6 0
    match obs.bad with
    | none => done s2
    | some i => done ((s2.onNvm fun v => v.spoilAt i.val).raise 0xD0 0)

end Sys2Proof.Machine
end

