-- ==== Sys2Proof/Machine/Safety.lean ====
section
/-!
DEFINITION. Sys2Proof/Machine/Safety.lean: the safety monitor’s inputs, ticks, PDUs and acknowledgements (chapter 13).
-/

namespace Sys2Proof.Machine

/-! ### Straps and parameters (R386, R387) -/

/-- The function of a strap field: 0 SLO, 1 SFD, 2 SSG, 3 none (R386). -/
def strapFunc (n : Nat) : Option SafeFunc := if n = 0 then some .slo else if n = 1 then some .sfd else if n = 2 then some .ssg else none

/-- FUNC_A or FUNC_B of the straps taken at BOOT (R386). -/
def Saf.inputFunc (f : Saf) (i : InputAB) : Option SafeFunc :=
  match i with
  | .a => strapFunc (fld (f.straps.zeroExtend 32) 1 0)
  | .b => strapFunc (fld (f.straps.zeroExtend 32) 3 2)

/-- BC_EN (R386). -/
def Saf.bcEn (f : Saf) : Bool := f.straps.getLsbD 4

/-- A parameter set as 32 bytes, or none when a field is out of range, the CRC does not match or SCFG_EXPECT differs from the
straps (R387). -/
def paramsOf (straps : BitVec 6) (l : List Byte) : Option SafetyParams :=
  let b := fun i => leAt l i 1
  let h := fun i => leAt l i 2
  let limit := straps.getLsbD 5
  if l.length = 32 ∧ b 0 = 1 ∧ b 1 ≤ 1 ∧ (1 ≤ b 2 ∧ b 2 ≤ 10) ∧ (1 ≤ b 3 ∧ b 3 ≤ 47) ∧ (10 ≤ h 4 ∧ h 4 ≤ 1000)
    ∧ (50 ≤ h 6 ∧ h 6 ≤ if limit then 5000 else 1000) ∧ (20 ≤ h 8 ∧ h 8 ≤ if limit then 1000 else 200) ∧ (1 ≤ b 0xA ∧ b 0xA ≤ 50)
    ∧ (b 0xB = 2 ∨ b 0xB = 3) ∧ (straps.getLsbD 4 = false ∨ leAt l 0xC 4 ≠ 0) ∧ leAt l 0x10 4 ≠ 0 ∧ leAt l 0x10 4 ≠ leAt l 0xC 4
    ∧ b 0x14 = straps.toNat ∧ leAt l 0x15 7 = 0 ∧ leAt l 0x1C 4 = crcSafety (slice l 0 28) then
    some { tpEn := b 1 = 1, filterMs := b 2, ssgLevel := b 3, discMs := h 4, fadeMs := h 6, wdgMs := h 8, ageTolMs := b 0xA
           wdgFunc := if b 0xB = 3 then .ssg else .slo, masterConn := BitVec.ofNat 32 (leAt l 0xC 4)
           ownConn := BitVec.ofNat 32 (leAt l 0x10 4), scfgExpect := BitVec.ofNat 8 (b 0x14), pcrc := BitVec.ofNat 32 (leAt l 0x1C 4) }
  else none

/-! ### Safety PDUs (R389, R390) -/

/-- The bytes of a PDU of the engine’s own (R389, R396). -/
def State.pduBytes (s : State) (kind : Nat) (data : List Byte) (target : BitVec 32) : List Byte :=
  let f := s.saf
  let l := leBytes 4 f.params.ownConn.toNat ++ leBytes 2 f.ownSeq.toNat ++ leBytes 1 kind ++ leBytes 1 f.ownAlive.toNat
    ++ leBytes 4 s.localUs ++ leBytes 2 s.wall.id.toNat ++ [1] ++ leBytes 1 (b2n f.ownRestart) ++ padTo 8 data ++ leBytes 4 target.toNat
  l ++ leBytes 4 (crcSafety l)

/-- A PDU sent to a destination (R396): SEQ one on, ALIVE changed, RESTART only in the first that leaves; one for which no port has room is no
PDU of the connection. -/
def State.sendPdu (s : State) (dest kind : Nat) (data : List Byte) (target : BitVec 32) : State :=
  let s1 := s.originate dest 0x05 (s.pduBytes kind data target)
  if s.originates dest 0 52 then
    s1.onSaf fun f => { f with ownSeq := f.ownSeq + 1, ownAlive := f.ownAlive + 1, ownRestart := false }
  else s1

/-- The DEMAND broadcast of an input (R395). -/
def State.sendDemand (s : State) (i : InputAB) : State :=
  match s.saf.inputFunc i with
  | none => s
  | some fn => s.sendPdu 0xFFF 2 [BitVec.ofNat 8 fn.code, match i with | .a => 1 | .b => 2] 0

/-! ### Inputs (R382 to R385) -/

/-- One hardwired input. -/
def Saf.input (f : Saf) (i : InputAB) : SafeInput := match i with | .a => f.inputA | .b => f.inputB

/-- The monitor with one input changed. -/
def Saf.onInput (f : Saf) (i : InputAB) (g : SafeInput → SafeInput) : Saf :=
  match i with | .a => { f with inputA := g f.inputA } | .b => { f with inputB := g f.inputB }

/-- The cause of an input. -/
def causeOf : InputAB → Cause
  | .a => .inA | .b => .inB

/-- DETAIL of an input: 0 A, 1 B. -/
def inputNo : InputAB → Nat
  | .a => 0 | .b => 1

/-- A cause arises in whatever state the engine is (R378): while the logic die does not run, channel B alone holds it. -/
def State.demand (s : State) (c : Cause) (fn : SafeFunc) : State :=
  if s.running then s.addCause c fn else s.onSaf fun f => f.arise c fn

/-- An input demands (R376, R382, R384): its cause arises with its function, and a new one is broadcast (R395). -/
def State.inputDemand (s : State) (i : InputAB) : State :=
  match s.saf.inputFunc i with
  | none => s
  | some fn =>
    let isNew := (s.saf.cause (causeOf i)).isNone
    let s1 := s.demand (causeOf i) fn
    if isNew then
      let s2 := s1.onSaf fun f => f.onInput i fun x => { x with bothSafe := !x.filt0 && !x.filt1 }
      if s.saf.bcEn && s.running then s2.sendDemand i else s2
    else s1

/-- An input is latched FAULTED with a fault (R383, R384); channel B latches it while the logic die does not run, and the fault is then raised at the
end of BOOT (log entry 92). -/
def State.latchInput (s : State) (i : InputAB) (src : Nat) : State :=
  let s1 := s.onSaf fun f => f.onInput i fun x =>
    { x with faulted := true, byDisc := x.byDisc || src == 0xC6, byPulse := x.byPulse || src == 0xC7, latchSafe := !x.filt0 && !x.filt1,
             latchPass0 := false, latchPass1 := false }
  (if s.running then s1.raise src (inputNo i) else s1).inputDemand i

/-- The FAULTED latch of an input clears (R384), and its fault conditions end. -/
def State.unlatch (s : State) (i : InputAB) : State :=
  ((s.onSaf fun f => f.onInput i fun x => { x with faulted := false, byDisc := false, byPulse := false, discCount := 0, tpFails := 0 }).endCond 0xC6 (inputNo i)).endCond 0xC7 (inputNo i)

/-- INPUT_SAFE (R382): the filtered state of channel `ch` goes safe, and its cause arises. -/
def execInputSafe (input : InputAB) (ch : Bool) (s : State) : Host.Outcome State Fault Refusal :=
  let x := s.saf.input input
  if s.eng.st == .off || !(if ch then x.filt1 else x.filt0) then .next s
  else
    let s1 := s.onSaf fun f => f.onInput input fun x =>
      let y := if ch then { x with filt1 := false } else { x with filt0 := false }
      let both := !y.filt0 && !y.filt1
      { y with bothSafe := y.bothSafe || both, latchSafe := y.latchSafe || both }
    done (s1.inputDemand input)

/-- INPUT_HEALTHY (R382, R384, R385): the filtered state of channel `ch` becomes healthy; `pressMs`: for how long both channels
had been safe together. -/
def execInputHealthy (input : InputAB) (ch : Bool) (pressMs : Nat) (s : State) : Host.Outcome State Fault Refusal :=
  let x := s.saf.input input
  if s.eng.st == .off || (if ch then x.filt1 else x.filt0) then .next s
  else
    let s1 := s.onSaf fun f => f.onInput input fun x =>
      let y := if ch then { x with filt1 := true } else { x with filt0 := true }
      if y.filt0 && y.filt1 then { y with latchPass0 := false, latchPass1 := false } else y
    let y := s1.saf.input input
    if !(y.filt0 && y.filt1) then done s1
    else
      let s2 := if y.faulted && y.latchSafe && !s.saf.params.tpEn then s1.unlatch input else s1
      if input == .b && (s.saf.inputFunc .b).isNone && !x.faulted && decide (100 ≤ pressMs) then
        done (s2.onSaf fun f => if pressMs ≤ 5000 then { f with ackReady := true } else if s.running then { f with longPress := inc 8 f.longPress } else f)
      else done s2

/-- What one test pulse finds on one input (R383, R384). -/
def State.pulse (s : State) (i : InputAB) (output fail : Bool) : State :=
  let x := s.saf.input i
  if fail then
    let s1 := (s.onSaf fun f => { f with tpFailCount := inc 8 f.tpFailCount }).onSaf fun f =>
      f.onInput i fun x => { x with tpFails := min 2 (x.tpFails + 1) }
    if x.tpFails = 1 then s1.latchInput i 0xC7 else s1
  else
    let s1 := s.onSaf fun f => f.onInput i fun x =>
      let pass := x.filt0 && x.filt1 && x.latchSafe
      { x with tpFails := 0, latchPass0 := x.latchPass0 || (pass && !output), latchPass1 := x.latchPass1 || (pass && output) }
    let y := s1.saf.input i
    if y.faulted && y.latchPass0 && y.latchPass1 then s1.unlatch i else s1

/-- TEST_PULSE (R383): SIT[0] or SIT[1] has pulsed; what the check found on each input. The outputs pulse once BOOT has
ended (R492). -/
def execTestPulse (output failA failB : Bool) (s : State) : Host.Outcome State Fault Refusal :=
  if s.saf.params.tpEn && s.running && s.eng.st != .boot then done ((s.pulse .a output failA).pulse .b output failB) else .next s

/-- INPUT_DISCREPANCY (R384): the count of an input has reached DISC_MS; once, until its condition has ended. -/
def execInputDiscrepancy (input : InputAB) (s : State) : Host.Outcome State Fault Refusal :=
  let x := s.saf.input input
  if s.eng.st != .off && s.saf.params.discMs ≤ x.discCount && !x.byDisc then done (s.latchInput input 0xC6) else .next s

/-! ### Acknowledgement (R376, R397) -/

/-- The reset condition of a cause holds (R376). -/
def State.resetHolds (s : State) (c : Cause) : Bool :=
  let ok := fun (x : SafeInput) => x.bothSafe && x.filt0 && x.filt1 && !x.faulted
  match c with
  | .inA => ok s.saf.inputA
  | .inB => ok s.saf.inputB
  | .bcDemand => s.saf.bcQuiet
  | .watchdog => decide (3 ≤ s.saf.wdgValidRun)
  | .request => true
  | .internal => s.internalGone

/-- All causes. -/
def allCauses : List Cause := [.inA, .inB, .bcDemand, .watchdog, .request, .internal]

/-- An acknowledgement of the causes for which `named` holds (R397): those whose reset condition holds clear; every other active cause counts. -/
def State.acknowledge (s : State) (named : Cause → Bool) : State :=
  let left := allCauses.filter fun c => (s.saf.cause c).isSome && !(named c && s.resetHolds c)
  let s1 := if s.running then s.onSaf fun f => { f with ackRefused := sat 8 (f.ackRefused + left.length) } else s
  s1.clearCauses fun c => named c && s.resetHolds c

/-- ACK_PRESS (R385, R397): a valid press has ended on the acknowledgement input. -/
def execAckPress (s : State) : Host.Outcome State Fault Refusal :=
  if s.saf.ackReady then done ((s.onSaf fun f => { f with ackReady := false }).acknowledge fun _ => true) else .next s

/-! ### Ticks and checks (R374, R379, R380, R400) -/

/-- One tick of a fade (R380): the ceiling falls, and channel A checks echo and current; a failure is SLO at once. -/
def State.fadeStep (s : State) (maxEcho phaseMa : Nat) : State :=
  let f := s.saf
  if !f.fading then s
  else
    let t := f.fadeTick + 1
    let c := f.fadeL0 * (f.params.fadeMs - t) / f.params.fadeMs
    let s1 := (s.onSaf fun f => { f with fadeTick := t, ceil2 := f.ceil1, ceil1 := f.ceiling, ceiling := c }).applyCeilings
    let tooMuch := if f.fadeL0 = 0 then decide (f.fadeI0 + 10000 < 20 * phaseMa)
      else decide (20 * f.fadeI0 * f.ceil1 + f.fadeI0 * f.fadeL0 + 10000 * f.fadeL0 < 20 * phaseMa * f.fadeL0)
    if f.ceiling < maxEcho || tooMuch then s1.performSlo.raise 0xC5 0 else s1

/-- SAFETY_TICK (R374, R380, R384, R400): the monitor’s 1 ms tick, with the raw levels of the inputs; without the logic die,
channel B’s part alone. A failed read-back raises SAFETY_OUTPUT with DETAIL 4. -/
def execSafetyTick (obs : TickObs) (s : State) : Host.Outcome State Fault Refusal :=
  let tick := fun (x : SafeInput) (r0 r1 : Bool) =>
    { x with raw0 := r0, raw1 := r1, discCount := if x.filt0 = x.filt1 then 0 else sat 16 (x.discCount + 1) }
  let s0 := s.onSaf fun f =>
    { f with
      inputA := tick f.inputA (obs.raw.getLsbD 0) (obs.raw.getLsbD 1), inputB := tick f.inputB (obs.raw.getLsbD 2) (obs.raw.getLsbD 3) }
  if s.eng.st == .off then .next s
  else if !s.running then .next s0
  else
    let s1 := s0.onSaf fun f =>
      { f with
        sinceMs := inc 16 f.sinceMs
        xMism := if obs.mismatch then min 2 (f.xMism + 1) else 0
        xcompare := if obs.mismatch then inc 8 f.xcompare else f.xcompare
        outFails := if obs.pinFail then inc 8 f.outFails else f.outFails }
    let s2 := if obs.pinFail then s1.raise 0xC2 4 else s1
    done (s2.fadeStep obs.maxEcho obs.phaseMa)

/-- FADE_DONE (R380): FADE_MS after the decision, SLO. -/
def execFadeDone (s : State) : Host.Outcome State Fault Refusal :=
  if s.saf.fading && s.saf.params.fadeMs ≤ s.saf.fadeTick then
    done ((s.onSaf fun f => { f with fadeDone := true, fading := false }).performSlo)
  else .next s

/-- SAFETY_XCOMPARE (R374): two consecutive mismatches; a shutdown raises no fault of the Safety functions (R444). -/
def execSafetyXcompare (s : State) : Host.Outcome State Fault Refusal :=
  if s.running && !s.eng.shutting && 2 ≤ s.saf.xMism then done ((s.performSlo.onSaf fun f => { f with xMism := 0 }).raise 0xC1 0) else .next s

/-- ALIVE_TIMEOUT (R374, R419): 2 ms without a toggle from channel A; the fault pair shows FAULT. -/
def execAliveTimeout (s : State) : Host.Outcome State Fault Refusal :=
  if s.running && !s.eng.shutting then done ((s.performSlo.raise 0xC1 1).onFlt fun f => { f with pairFault := true }) else .next s

/-- SLO_CHECK (R379): a deadline of SLO. SAFETY_OUTPUT has the step less one as DETAIL: 1 pins, 2 current, 3 cells. -/
def execSloCheck (stage : Fin 3) (obs : SloObs) (s : State) : Host.Outcome State Fault Refusal :=
  if !s.running || !s.saf.sloOut then .next s
  else
    let bad := if stage.val = 0 then obs.pinFail else if stage.val = 1 then decide (500 ≤ obs.phaseMa) else obs.cellOn
    if bad then
      done ((s.onSaf fun f => { f with outFails := if stage.val = 0 then inc 8 f.outFails else f.outFails }).raise 0xC2 (stage.val + 1))
    else .next s

/-- SSG_DRIVE_ENABLE (R381): the Cairn frame’s LATCH has applied; the drive enables are reasserted. -/
def execSsgDriveEnable (s : State) : Host.Outcome State Fault Refusal :=
  if s.saf.ssgAsked && s.saf.func == some .ssg && s.rings.cairnShown && s.mayDrive then
    done (s.onSaf fun f => { f with drvEnA := true, drvEnB := true, sloOut := false, ssgAsked := false })
  else .next s

/-! ### The black channel (R389 to R396) -/

/-- KIND of a PDU. -/
def pKind (l : List Byte) : Nat := leAt l 6 1

/-- CONN_ID and TARGET_CONN of a PDU. -/
def pConn (l : List Byte) : BitVec 32 := BitVec.ofNat 32 (leAt l 0 4)
def pTarget (l : List Byte) : BitVec 32 := BitVec.ofNat 32 (leAt l 0x18 4)

/-- SAFETY_DATA is valid for its KIND (R390). -/
def pduDataOk (l : List Byte) : Bool :=
  let b := fun i => leAt l (0x10 + i) 1
  let zero := fun i n => leAt l (0x10 + i) n == 0
  if pKind l = 1 then zero 0 8
  else if pKind l = 2 then decide (1 ≤ b 0 ∧ b 0 ≤ 3) && decide (1 ≤ b 1 ∧ b 1 ≤ 4) && zero 2 6
  else if pKind l = 3 then zero 1 7
  else decide (b 0 ≤ 3) && zero 3 1

/-- Check 1 of R391. -/
def pduOk (l : List Byte) : Bool :=
  l.length == 32 && leAt l 0x1C 4 == crcSafety (slice l 0 28) && leAt l 0xE 1 == 1 && decide (1 ≤ pKind l ∧ pKind l ≤ 4) && pduDataOk l

/-- Check 2 of R391. -/
def Saf.targeted (f : Saf) (l : List Byte) : Bool := pTarget l == 0 || pTarget l == f.params.ownConn

/-- Checks 3 to 5 of R391: 0 accepted, 1 SEQ_ERRS, 2 AGE_ERRS. -/
def State.masterCheck (s : State) (l : List Byte) : Nat :=
  let f := s.saf
  let dSeq := (BitVec.ofNat 16 (leAt l 4 2) - f.masterSeq).toInt
  let dTime := (BitVec.ofNat 32 (leAt l 8 4) - f.masterTime).toInt
  let dLocal : Int := s.localUs - f.masterLocal / 65536000
  if !f.masterSeen || (l.getD 0xF 0).getLsbD 0 then 0
  else if ¬ (1 ≤ dSeq ∧ dSeq ≤ 255) then 1
  else if BitVec.ofNat 8 (leAt l 7 1) = f.masterAlive then 1
  else if (dTime - dLocal).natAbs ≤ 1000 * f.params.ageTolMs then 0 else 2

/-- A master PDU accepted (R391, R393): the tracking and the watchdog restart, and the watchdog is armed. -/
def State.acceptMaster (s : State) (l : List Byte) : State :=
  s.onSaf fun f =>
    { f with
      masterSeen := true, masterSeq := BitVec.ofNat 16 (leAt l 4 2), masterAlive := BitVec.ofNat 8 (leAt l 7 1)
      masterTime := BitVec.ofNat 32 (leAt l 8 4), masterLocal := s.time.local_, masterId := BitVec.ofNat 12 (leAt l 0xC 2)
      rxOk := inc 8 f.rxOk, sinceMs := 0, wdgArmed := true, wdgExpired := false, wdgValidRun := min 3 (f.wdgValidRun + 1) }

/-- A PDU through the checks of R391: `act` when it comes from the master and passes them all; `other` when it comes from another
connection. -/
def State.pdu (s : State) (p : Port) (kind : Nat) (l : List Byte) (act other : State → State) : Host.Outcome State Fault Refusal :=
  if !s.active p || !s.saf.bcEn then .next s
  else if pKind l ≠ kind ∧ 1 ≤ pKind l ∧ pKind l ≤ 4 then .next s
  else if !pduOk l then done ((s.onSaf fun f => { f with crcErrs := inc 8 f.crcErrs, wdgValidRun := if pConn l = f.params.masterConn then 0 else f.wdgValidRun }).raise 0xCA 0)
  else if !s.saf.targeted l then .next s
  else if pConn l = s.saf.params.masterConn then
    match s.masterCheck l with
    | 0 => done (act (s.acceptMaster l))
    | 1 => done (s.onSaf fun f => { f with seqErrs := inc 8 f.seqErrs, wdgValidRun := 0 })
    | _ => done (s.onSaf fun f => { f with ageErrs := inc 8 f.ageErrs, wdgValidRun := 0 })
  else done (other s)

/-- HEARTBEAT (R391). -/
def execHeartbeat (p : Port) (pdu : List Byte) (s : State) : Host.Outcome State Fault Refusal := s.pdu p 1 pdu id id

/-- A demand that the black channel brings (R376, R394). -/
def State.bcDemand (l : List Byte) (s : State) : State :=
  match funcOf (leAt l 0x10 1) with
  | none => s
  | some fn =>
    (s.onSaf fun f => { f with demandFrom := BitVec.ofNat 12 (leAt l 0xC 2), demandFunc := leAt l 0x10 1
                               demandsRx := inc 16 f.demandsRx, bcQuiet := false }).addCause .bcDemand fn

/-- DEMAND (R394): from the master through all checks, from another tile through checks 1 and 2; the engine’s own is not acted on. -/
def execDemand (p : Port) (pdu : List Byte) (s : State) : Host.Outcome State Fault Refusal :=
  s.pdu p 2 pdu (State.bcDemand pdu) fun s => if pConn pdu = s.saf.params.ownConn then s else s.bcDemand pdu

/-- ACK (R397): from the master only; it acknowledges the causes in its CAUSES byte. -/
def execAck (p : Port) (pdu : List Byte) (s : State) : Host.Outcome State Fault Refusal :=
  s.pdu p 3 pdu (fun s => s.acknowledge fun c => (pdu.getD 0x10 0).getLsbD c.bit) id

/-- STATUS_PDU (R390, R391): a report of another tile has no effect; one from the master counts like any master PDU. -/
def execStatusPdu (p : Port) (pdu : List Byte) (s : State) : Host.Outcome State Fault Refusal := s.pdu p 4 pdu id id

/-- BC_WATCHDOG (R393, R402): WDG_MS since the last restart of the armed watchdog. -/
def execBcWatchdog (s : State) : Host.Outcome State Fault Refusal :=
  if s.running && s.saf.bcEn && s.saf.wdgArmed && !s.saf.wdgExpired then
    done (((s.onSaf fun f => { f with wdgExpired := true, wdgTrips := inc 8 f.wdgTrips, wdgValidRun := 0 }).raise 0xC8 0).addCause .watchdog
      s.saf.params.wdgFunc)
  else .next s

/-- BC_DEMAND_TIMEOUT (R376): no DEMAND PDU accepted for 50 ms. -/
def execBcDemandTimeout (s : State) : Host.Outcome State Fault Refusal :=
  if s.saf.bcDemand.isSome && !s.saf.bcQuiet then done (s.onSaf fun f => { f with bcQuiet := true }) else .next s

/-- An input whose DEMAND PDU is repeated (R395). -/
def Saf.repeats (f : Saf) (i : InputAB) : Bool :=
  (f.cause (causeOf i)).isSome && (!(f.input i).filt0 || !(f.input i).filt1 || (f.input i).faulted)

/-- DEMAND_REPEAT (R395): every 10 ms. -/
def execDemandRepeat (s : State) : Host.Outcome State Fault Refusal :=
  if s.running && s.saf.bcEn && (s.saf.repeats .a || s.saf.repeats .b) then
    let s1 := if s.saf.repeats .a then s.sendDemand .a else s
    done (if s.saf.repeats .b then s1.sendDemand .b else s1)
  else .next s

/-- The two bits of SAF_INPUT’s STATE_A or STATE_B (R404). -/
def Saf.inputState (f : Saf) (i : InputAB) : Nat :=
  let x := f.input i
  if x.faulted then 2 else if (f.inputFunc i).isNone then 3 else if x.filt0 && x.filt1 then 0 else 1

/-- STATUS_PDU_SEND (R396): to the SENDER_ID of the last accepted master PDU, on the master’s connection. -/
def execStatusPduSend (s : State) : Host.Outcome State Fault Refusal :=
  let f := s.saf
  if s.running && f.bcEn && f.masterSeen then
    done (s.sendPdu f.masterId.toNat 4
      ([BitVec.ofNat 8 (match f.func with | none => 0 | some x => x.code), BitVec.ofNat 8 f.causes,
        BitVec.ofNat 8 (f.inputState .a + 4 * f.inputState .b), 0] ++ leBytes 4 f.params.pcrc.toNat) f.params.masterConn)
  else .next s

/-- SAFETY_STRAP_CHANGED (R386): the straps read otherwise than at BOOT; the condition lasts until the next BOOT. -/
def execSafetyStrapChanged (straps : BitVec 6) (s : State) : Host.Outcome State Fault Refusal :=
  let s1 := s.onSaf fun f => { f with strapsNow := straps }
  if s.running && s.eng.st != .boot && straps != s.saf.straps then done (s1.raise 0xC4 0) else .next s1

end Sys2Proof.Machine
end

