-- ==== Sys2Proof/Machine/Faults.lean ====
section
/-!
DEFINITION. Sys2Proof/Machine/Faults.lean: expiry, acknowledgement, fence lifts, injection and the check units (chapter 14).
-/

namespace Sys2Proof.Machine

/-! ### Conditions that end -/

/-- Level sources whose end no other row of the table tells: the outside world ends them (log entry 17). -/
def endsOutside (n : Nat) : Bool :=
  n == 0x00 || n == 0x01 || n == 0x18 || n == 0x1A || n == 0x25 || n == 0x43 || n == 0x55 || n == 0x60 || n == 0x61 || n == 0x64 || n == 0x67
    || (decide (0x70 ≤ n ∧ n ≤ 0x77)) || n == 0xA4 || n == 0xC1 || n == 0xC2 || n == 0xC5 || n == 0xD5 || n == 0xE1 || n == 0xE3
    || n == 0xE4

/-- What the rail does while a condition of R169 or R177 lasts ends with it. -/
def State.railHolds (s : State) : State :=
  s.onLed fun l =>
    { l with ocpHeld := l.ocpHeld && s.reacting 0x73, uvHeld := l.uvHeld && s.reacting 0x75, onLocal := l.onLocal && s.reacting 0x76
             adcHeld := l.adcHeld && s.reacting 0x77 }

/-- The condition of an event source that arose longest ago ends: a real occurrence and an injected one each last 1 s (R406, R422). -/
def Flt.expire (f : Flt) (src detail : Nat) : Flt :=
  { f with conds := (f.conds.reverse.eraseP fun c => c.src == src && c.detail == detail).reverse }

/-- FAULT_EVENT_EXPIRY (R406, R416): 1 s after the latest occurrence of an event source its condition is gone; or a level condition
whose end lies outside the engine is gone. SAFETY_OUTPUT of R381 ends with its function or fence only. -/
def execFaultEventExpiry (source : BitVec 8) (detail : BitVec 16) (s : State) : Host.Outcome State Fault Refusal :=
  let n := source.toNat
  if !s.running then .next s
  else if !isLevel n then
    done (s.onFlt fun f => f.expire n detail.toNat)
  else if endsOutside n && !(n == 0xC2 && detail == 0) then
    let s1 := (s.endCond n detail.toNat).railHolds
    done (s1.onPwr fun p => { p with hkOk := p.hkOk || n == 0xE3, refOk := p.refOk || n == 0x01, rootLock := p.rootLock || n == 0x00 })
  else .next s

/-- HANDLING_END (R413): HANDLE_US after the creation of a record. -/
def execHandlingEnd (number : Word) (s : State) : Host.Outcome State Fault Refusal :=
  done (s.onFlt fun f => { f with slots := f.slots.map fun r => r.map fun r => if r.number = number then { r with handling := false } else r })

/-- FAULT_PAIR_HEALTHY (R419, R420): the last condition for FAULT has ended. -/
def execFaultPairHealthy (s : State) : Host.Outcome State Fault Refusal :=
  if s.pairDemand then .next s else done (s.onFlt fun f => { f with pairFault := false })

/-- FLT_PAIR_READBACK (R420): the third consecutive read disagrees; those of the three that no idle step has counted are counted with it
(R431, log entry 87). -/
def execFltPairReadback (s : State) : Host.Outcome State Fault Refusal :=
  if s.running then
    done ((s.onFlt fun f => { f with mismatches := sat 16 (f.mismatches + (3 - f.readRun)), readRun := 3 }).raise 0x1A 0)
  else .next s

/-! ### Fence lifts (R417) -/

/-- A record that still asks for the fence of a unit: one of its faults fenced it when it arose, and is unacknowledged or present. -/
def State.fenceAsked (s : State) (u : FenceUnit) : Bool :=
  s.flt.records.any fun r => r.members.any fun m => decide (m.unit = u) && (!r.acked || condPresent s.flt r.injected m)

/-- What an enumeration at a fence lift finds: free values (R142, R417; log entry 18), the arc of PXI beyond that of PXO. The answers to its READ
come with the ring’s next return. -/
def State.freeBring (s : State) : RingBring :=
  let w := Config.freeWord s.free
  let v := Config.freeWord (s.free + 1)
  let a := w.toNat / 4096 % 1025
  let b := a + w.toNat / 4194304 % (1025 - a)
  { found := BitVec.ofNat 11 (w.toNat % 2048 % 1025), answered := w.getLsbD 11
    aLast := if h : a - 1 < 1024 then (if a = 0 then none else some ⟨a - 1, h⟩) else none
    bFirst := if h : b < 1024 then some ⟨b, h⟩ else none
    rtA := v.truncate 16, rtB := (v >>> 16).truncate 16, slots := [] }

/-- Ring `k` is brought up again (R142, R417): enumerated anew, with W measured anew, in RING mode, in Hinge mode or lost; its cells receive a
resend after the next flip. -/
def State.bringUpAgain (s : State) (k : Nat) : State :=
  let s1 := ((((s.endCond 0x61 k).endCond 0x62 k).endCond 0x63 k).endCond 0x64 k).bringRing k s.freeBring
  (s1.takeFree.takeFree).onRing k fun r => { r with resend := r.up }

/-- The self-test of a check unit (R426): preset 1 over "123456789" against its check value. -/
def chkSelftest : Bool :=
  (reflectBits 32 (crcBytes 32 0x04C11DB7 true 0xFFFFFFFF ([0x31, 0x32, 0x33, 0x34, 0x35, 0x36, 0x37, 0x38, 0x39] : List Byte)) ^^^ 0xFFFFFFFF)
    == 0xCBF43926

/-- A fence lifts, and its unit restarts as the table of R417 states; Ward and NVM stay fenced until BOOT. The rail stays
off while SAFE is in force (R418). -/
def State.liftFence (s : State) (u : FenceUnit) : State :=
  let clear := fun (i : Nat) => s.onFlt fun f => { f with fences := f.fences &&& ~~~(BitVec.ofNat 10 (2 ^ i)) }
  match u with
  | .none => s
  | .ring k =>
    if s.ringFenced k then
      (s.onFlt fun f => { f with ringFences := f.ringFences &&& ~~~(BitVec.ofNat 64 (2 ^ k)) }).bringUpAgain k
    else s
  | .unit i =>
    if !s.unitFenced i || i = 3 || i = 9 then s
    else
      let s1 := clear i
      if i = 1 then s1.onCol fun c => { c with zeroed := false }
      else if i = 2 then (if s1.safeDemand || s1.eng.st == .safe then s1 else s1.railStart)
      else if i = 5 then (if s1.threadsRun then s1.reportProg.startThreads else s1.reportProg)
      else if i = 6 then s1.startPort .a
      else if i = 7 then s1.startPort .b
      else if i = 8 then (if chkSelftest then s1 else s.raise 0x18 0)
      else s1

/-- A record may not be acknowledged yet (R415): the condition of one of its S2 or S3 sources is present. -/
def State.ackBlocked (s : State) (r : FaultRecord) : Bool := r.members.any fun m => 2 ≤ m.sev.val && condPresent s.flt r.injected m

/-- One record acknowledged (R415): the fences that its faults have set lift where nothing else asks for them. SAFE causes follow when
the command settles. -/
def State.ackRecord (s : State) (r : FaultRecord) : State :=
  let s1 := s.onFlt fun f =>
    { f with slots := f.slots.map fun x => x.map fun x => if x.number = r.number then { x with acked := true } else x }
  r.members.foldl (fun s m => if s.fenceAsked m.unit then s else s.liftFence m.unit) s1

/-- FAULT_ACK (R415): the status, and the state after it. -/
def State.faultAck (s : State) (n : BitVec 32) : Byte × State :=
  if n = 0xFFFFFFFF then (stOk, (s.flt.records.filter fun r => !s.ackBlocked r).foldl State.ackRecord s)
  else match s.flt.records.find? fun r => r.number == n with
    | none => (stBadAddr, s)
    | some r => if s.ackBlocked r then (stNotReady, s) else (stOk, s.ackRecord r)

/-! ### Injection (R422, R423) -/

/-- The reaction of R406 that an injection in REACT mode performs beside that of its severity (R423; log entry 80): the resets of 0x02 and
0xE0, Hinge mode on ring 0, the LED supply’s holds (R169, R177), the shutdown of R444, the input latch (R383, R384) and the WATCHDOG cause
(R393). The throttling of 0x81 and 0x84 follows the condition (R441, R442). -/
def State.injectReacts (s : State) (n : Nat) : State :=
  if n = 0x02 then s.resetWith .watchdog
  else if n = 0xE0 then (s.onPwr fun p => { p with hsw := .gateOff }).resetWith .supply
  else if n = 0x62 then s.breakFound 0
  else if n = 0x73 then s.onLed fun l => { l with ocpHeld := true }
  else if n = 0x75 then s.onLed fun l => { l with uvHeld := true }
  else if n = 0x76 then s.onLed fun l => { l with onLocal := true }
  else if n = 0x77 then s.onLed fun l => { l with adcHeld := true }
  else if n = 0x82 then s.startShutdown
  else if n = 0xC6 ∨ n = 0xC7 then
    (s.onSaf fun f => f.onInput .a fun x =>
      { x with faulted := true, latchSafe := !x.filt0 && !x.filt1, latchPass0 := false, latchPass1 := false }).inputDemand .a
  else if n = 0xC8 then s.addCause .watchdog s.saf.params.wdgFunc
  else s

/-- A write of FLT_INJECT: the status, and the state after it. Injected faults have DETAIL 0. -/
def State.inject (s : State) (w : Word) : Byte × State :=
  let n := fld w 7 0
  let react := fld w 8 8 == 0
  let count := fun (f : Flt) => { f with injected := inc 16 f.injected }
  let hold := fun (f : Flt) =>
    { f with
      newFaults := f.newFaults ++ [{ src := n, detail := 0, injected := true, react := react }]
      conds := { src := n, detail := 0, injected := true, react := react, sev := f.sevOf n } ::
        f.conds.filter fun c => !(c.src == n && c.detail == 0 && c.injected) }
  let reacted := fun (s : State) => if react then s.injectReacts n else s
  match srcInfo n with
  | none => (stBadLen, s)
  | some (_, lev) =>
    if s.eng.st == .boot then (stRefusedState, s)
    else if fld w 9 9 = 1 then
      (stOk, (s.onFlt fun f =>
        { f with injHeld := f.injHeld.filter (· != n), conds := f.conds.filter fun c => !(c.src == n && c.injected) }).railHolds)
    else if !lev then (stOk, reacted (s.onFlt fun f => count (hold f)))
    else if s.flt.injHeld.contains n then (stOk, s.onFlt count)
    else if 4 ≤ s.flt.injHeld.length then (stBusy, s)
    else (stOk, reacted (s.onFlt fun f => { count (hold f) with injHeld := f.injHeld ++ [n] }))

/-! ### Faults that the outside world reports -/

/-- FLASH_FAIL (R473). -/
def execFlashFail (s : State) : Host.Outcome State Fault Refusal := if s.running then done (s.raise 0xD5 0) else .next s

/-- COMP_INTERNAL (R406). -/
def execCompInternal (s : State) : Host.Outcome State Fault Refusal := if s.running then done (s.raise 0x43 0) else .next s

/-- COLOUR_INTERNAL (R105, R406). -/
def execColourInternal (s : State) : Host.Outcome State Fault Refusal := if s.running then done (s.raise 0x55 0) else .next s

/-- TUMBLER_PARITY (R406). -/
def execTumblerParity (s : State) : Host.Outcome State Fault Refusal := if s.running then done (s.raise 0xA4 0) else .next s

/-- WARD_ENTROPY (R370). -/
def execWardEntropy (s : State) : Host.Outcome State Fault Refusal := if s.running then done (s.raise 0xB0 0) else .next s

/-- WARD_SEALED_ECC (R370). -/
def execWardSealedEcc (s : State) : Host.Outcome State Fault Refusal := if s.running then done (s.raise 0xB1 0) else .next s

/-! ### Check units (R425 to R430) -/

/-- The parameters that CHK_CFG selects (R425): width, polynomial, initial value, REFIN, REFOUT, XOROUT. -/
def Chk.parameters (c : Chk) : Nat × Nat × Nat × Bool × Bool × Nat :=
  match fld c.cfg 2 0 with
  | 1 => (32, 0x04C11DB7, 0xFFFFFFFF, true, true, 0xFFFFFFFF)
  | 2 => (32, 0x1EDC6F41, 0xFFFFFFFF, true, true, 0xFFFFFFFF)
  | 3 => (16, 0x1021, 0xFFFF, false, false, 0)
  | 4 => (8, 0x1D, 0xFF, false, false, 0xFF)
  | 5 => (32, 0xF4ACFB13, 0xFFFFFFFF, true, true, 0xFFFFFFFF)
  | _ => (fld c.cfg 7 3 + 1, c.poly.toNat, c.init.toNat, c.cfg.getLsbD 8, c.cfg.getLsbD 9, c.xorout.toNat)

/-- The oldest entry of the queue fed into the CRC (R426, R427). -/
def Chk.feedOne (c : Chk) : Chk :=
  match c.queue with
  | [] => c
  | l :: rest => { c with queue := rest, crc := BitVec.ofNat 32 (crcBytes c.width c.curPoly.toNat c.refin c.crc.toNat l) }

/-- One byte of the queue fed, in one CORE cycle (R427). -/
def Chk.feedByte (c : Chk) : Chk :=
  match c.queue with
  | [] => c
  | [] :: rest => { c with queue := rest }
  | (b :: l) :: rest =>
    { c with queue := if l.isEmpty then rest else l :: rest
             crc := BitVec.ofNat 32 (crcBytes c.width c.curPoly.toNat c.refin c.crc.toNat [b]) }

/-- The whole queue fed. -/
def Chk.feedAll (c : Chk) : Chk := c.queue.foldl (fun c _ => c.feedOne) c

/-- The result of a closed computation (R426). -/
def Chk.formed (c : Chk) : BitVec 32 :=
  BitVec.ofNat 32 ((if c.refout then reflectBits c.width c.crc.toNat else c.crc.toNat) ^^^ (c.curXor.toNat % 2 ^ c.width))

/-- The queue of unit `u` drains; a closed computation forms its result, which is compared (R428). -/
def State.chkDrain (s : State) (u : Nat) : State :=
  let c := (s.unit u).feedAll
  if !c.draining then s.onUnit u fun _ => c
  else
    let compare := c.compare
    let ok := c.formed == c.expect
    let s1 := s.onUnit u fun _ =>
      { c with draining := false, result := c.formed, matched := compare && ok, fresh := true
               mism := if compare && !ok then inc 8 c.mism else c.mism }
    if compare && !ok then s1.raise (0x10 + u) u else s1

/-- A CORE cycle of unit `u` (R427, R428): a byte of the queue is fed; with the queue empty, a closed computation forms its result. -/
def State.chkTick (s : State) (u : Nat) : State :=
  let c := s.unit u
  if c.queue.isEmpty then (if c.draining then s.chkDrain u else s) else s.onUnit u fun _ => c.feedByte

/-- CHK_START (R425, R429): earlier work drains first; the configuration takes effect, TARGET with it. -/
def State.chkStart (s : State) (u : Nat) : State :=
  (s.chkDrain u).onUnit u fun c =>
    let (w, poly, ini, ri, ro, x) := c.parameters
    { c with
      width := w, curPoly := BitVec.ofNat 32 poly, refin := ri, refout := ro, curXor := BitVec.ofNat 32 x
      crc := BitVec.ofNat 32 (ini % 2 ^ w), target := fld c.cfg 19 16, started := true, closed := false, aliveFirst := true, compare := c.cfg.getLsbD 10 }

/-- A data write of unit `u` (R427): discarded and counted before the first CHK_START, after CHK_CLOSE and while the units are
fenced; a full queue lets its oldest entry through first. -/
def State.chkData (s : State) (u : Nat) (l : List Byte) : State :=
  let off := s.unitFenced 8
  s.onUnit u fun c =>
    if off || !c.started || c.closed then { c with discards := inc 8 c.discards }
    else
      let c1 := if 8 ≤ c.queue.length then c.feedOne else c
      { c1 with queue := c1.queue ++ [l] }

/-- CHK_CLOSE (R428). -/
def State.chkClose (s : State) (u : Nat) : State :=
  s.onUnit u fun c => if c.started && !c.closed then { c with closed := true, draining := true, fresh := false } else c

/-- CHK_ALIVE_FEED (R429). -/
def State.chkAlive (s : State) (u : Nat) (w : Word) : State :=
  let c := s.unit u
  let m := if c.cfg.getLsbD 11 then 256 else 16
  let v := w.toNat % m
  let bad := !c.aliveFirst && v != (c.alivePrev + 1) % m
  let s1 := s.onUnit u fun c =>
    { c with aliveFirst := false, alivePrev := v, aliveArmed := true, aliveAt := s.time.local_
             aliveErrs := if bad then inc 8 c.aliveErrs else c.aliveErrs }
  if bad then s1.raise (0x14 + u) u else s1

/-- CHK_DRAIN_COMPLETE (R426, R428). -/
def execChkDrainComplete (u : Fin 4) (s : State) : Host.Outcome State Fault Refusal := done (s.chkDrain u.val)

/-- ALIVE_DEADLINE (R429): a gap of more than DEADLINE_US; once per gap. -/
def execAliveDeadline (u : Fin 4) (s : State) : Host.Outcome State Fault Refusal :=
  let c := s.unit u.val
  if s.running && c.deadlineUs != 0 && !c.aliveFirst && c.aliveArmed && decide (c.aliveAt + c.deadlineUs * 65536000 < s.time.local_) then
    done ((s.onUnit u.val fun c => { c with aliveArmed := false, timeouts := inc 8 c.timeouts }).raise (0x14 + u.val) u.val)
  else .next s

end Sys2Proof.Machine
end

