-- ==== Sys2Proof/Machine/NvmRows.lean ====
section
/-!
DEFINITION. Sys2Proof/Machine/NvmRows.lean: stores that complete, staging, trials, the Cairn plane and the log (chapter 16).
-/

namespace Sys2Proof.Machine

/-! ### Stores (R453, R454, R457) -/

/-- The store kind of a job. -/
def jobKind : NvmJob → StoreKind
  | .settings => .settings | .retained => .retained | .program => .program

/-- The target of a kind’s store is erased: phase 1 of R453 is over. -/
def State.targetReady (s : State) (k : NvmJob) : Bool :=
  match k with
  | .settings => (s.nvm.area s.areaUsed).targetErased (settingsLayout s.areaUsed)
  | .retained => s.nvm.retained.targetErased retainedLayout
  | .program => s.nvm.prog.targetErased programLayout

/-- NVM_STORE_COMPLETE (R453, R473): a store whose target is erased writes its COMMIT, or fails; a boot control or safety parameter write
comes first (R454). -/
def execNvmStoreComplete (kind : NvmJob) (ok : Bool) (s : State) : Host.Outcome State Fault Refusal :=
  if s.pwr.noNewStore || s.unitFenced 9 || !s.targetReady kind || s.nvm.shortRuns then .next s
  else match kind with
    | .settings => done (s.settingsDone ok)
    | .retained => done (s.retainedDone ok)
    | .program => done (s.programDone ok)

/-- The next target of a kind erased (R454). -/
def State.eraseTarget (s : State) (k : NvmJob) : State :=
  s.onNvm fun v =>
    let v := { v with erasing := v.erasing.filter (· != jobKind k) }
    match k with
    | .settings => v.onArea s.areaUsed fun p => p.eraseNext (settingsLayout s.areaUsed)
    | .retained => { v with retained := v.retained.eraseNext retainedLayout }
    | .program => { v with prog := v.prog.eraseNext programLayout }

/-- A store that can write now runs, or a journal entry: a background erase waits (R454). -/
def State.eraseWaits (s : State) : Bool :=
  let v := s.nvm
  v.shortRuns || v.journal.isSome || (v.jobSettings.isSome && s.targetReady .settings) || (v.jobRetained.isSome && s.targetReady .retained)
    || (v.jobProg.isSome && s.targetReady .program)

/-- BACKGROUND_ERASE_DONE (R454): a settings store that waited starts. -/
def execBackgroundEraseDone (kind : NvmJob) (s : State) : Host.Outcome State Fault Refusal :=
  if !s.nvm.erasing.contains (jobKind kind) || s.pwr.noNewStore || s.unitFenced 9 || s.eraseWaits then .next s
  else
    let s1 := s.eraseTarget kind
    done (if kind == .settings && s1.nvm.settingsAgain then s1.startSettings else s1)

/-- A STORE of a kind (R235, R250): FENCED, then BAD_ADDR, then BUSY. No kind writes the owner’s idle-plane partition: R107 has an owner
command write it and the command table names none (log entry 74). -/
def State.requestStore (s : State) (w : Word) : Byte × State :=
  let k := w.toNat
  if k < 4 && (if k ≤ 1 then s.unitFenced 9 else s.unitFenced 4) then (stFenced, s)
  else if 4 ≤ k then (stBadAddr, s)
  else if k = 0 then (if s.nvm.storing .settings then (stBusy, s) else (stOk, s.startSettings))
  else if k = 1 then (if s.nvm.storing .retained then (stBusy, s) else (stOk, s.startRetained))
  else if k = 2 then (if s.age.busy then (stBusy, s) else (stOk, s.storeLedger))
  else if s.col.userStore then (stBusy, s)
  else (stOk, s.startUserStore)

/-! ### Staging (R461 to R463) -/

/-- SLOT_ERASE_COMPLETE (R461): PHASE becomes RECEIVING. -/
def execSlotEraseComplete (s : State) : Host.Outcome State Fault Refusal :=
  if s.nvm.phase != .erasing || s.pwr.noNewStore then .next s
  else done (s.onNvm fun v => { v.onSlot v.updTarget (fun x => { x with body := [] }) with phase := .receiving })

/-- STAGING_COMPLETE (R463): row 6 of R361 decides. -/
def execStagingComplete (s : State) : Host.Outcome State Fault Refusal :=
  if s.nvm.phase != .verifying || s.pwr.noNewStore then .next s
  else if (s.nvm.slot s.nvm.updTarget).digestOk then
    done ((s.writeBoot fun b => b.setSlot s.nvm.updTarget .staged).onNvm fun v =>
      { v with phase := .staged, updCode := stOk, updFresh := true, waiting := 0 })
  else
    done ((((s.writeBoot fun b => b.setSlot s.nvm.updTarget .invalid).onNvm fun v =>
      { v with phase := .failed, updCode := stBadSig, updFresh := true, waiting := 0 })).leaveUpdate)

/-! ### Trials (R466, R467) -/

/-- TRIAL_CONFIRM (R466). -/
def execTrialConfirm (s : State) : Host.Outcome State Fault Refusal :=
  if s.mayConfirm && (s.nvm.autoConfirm || s.nvm.confirmAsked) then done s.confirmTrial else .next s

/-- TRIAL_TIMER_EXPIRY (R467): the ledger is stored, then the engine falls back. Once R456 bars new
writes a reset is about to end the trial (R465). -/
def execTrialTimerExpiry (s : State) : Host.Outcome State Fault Refusal :=
  if !s.nvm.trial || s.nvm.fallbackDue || !s.running || s.pwr.noNewStore then .next s
  else if s.unitFenced 4 then done s.fallback
  else
    let s1 := s.onNvm fun v => { v with fallbackDue := true }
    done (if s.age.busy then s1 else s1.startLedger)

/-! ### The Cairn plane (R455, R469, R470) -/

/-- CAIRN_STORE_COMPLETE (R455, R469): the plane’s home and header are written, or the write fails; stores come first (R454). -/
def execCairnStoreComplete (ok : Bool) (s : State) : Host.Outcome State Fault Refusal :=
  if s.nvm.journal.isNone || s.nvm.cairnValid || s.pwr.noNewStore || s.unitFenced 9 || s.nvm.storeRuns then .next s
  else done (s.cairnDone ok)

/-- CAIRN_RELOAD (R470): it waits until SSG ends. -/
def execCairnReload (s : State) : Host.Outcome State Fault Refusal :=
  if !s.running || !s.nvm.reload || s.saf.func == some .ssg then .next s else done s.loadPlane

/-! ### The log (R454, R472) -/

/-- LOG_APPEND (R472): the oldest waiting entry, when nothing of a higher priority runs. -/
def execLogAppend (s : State) : Host.Outcome State Fault Refusal :=
  let v := s.nvm
  match v.logQueue with
  | [] => .next s
  | e :: rest =>
    if !s.running || s.unitFenced 9 || v.working || s.pwr.noNewStore then .next s
    else done (s.onNvm fun v => { v.append e with logQueue := rest })

end Sys2Proof.Machine
end

