-- ==== Sys2Proof/Machine/RegsSys.lean ====
section
/-!
DEFINITION. Sys2Proof/Machine/RegsSys.lean: the registers of the ID and state, Clock and power, Faults and Check units blocks
(R29, R238, R258, R431, R432, R494, R517): what each reads, what a read does, which writes are refused, what a write does.
-/

namespace Sys2Proof.Machine

/-- Address `a` is one of `n` successive words from `base`. -/
def inArr (a base n : Nat) : Bool := decide (base ≤ a) && decide (a < base + 4 * n)

/-- Its index. -/
def arrIx (a base : Nat) : Nat := (a - base) / 4

/-- The number whose bit `i` is set where `f i` holds, for `n` bits. -/
def maskOf (n : Nat) (f : Nat → Bool) : Nat := (List.range n).foldl (fun a i => if f i then a + 2 ^ i else a) 0

/-- What a write of a register answers: its status, and the state after it; a refusal has no effect. -/
abbrev WriteAnswer := Byte × State

/-- A write that takes effect. -/
def took (s : State) : WriteAnswer := (stOk, s)

/-! ### ID and state (R29, R517) -/

/-- ID_STATE (R29). -/
def State.idState (s : State) : Word :=
  pack [(0, s.eng.st.code), (4, s.eng.prev.code), (8, b2n s.degraded), (9, b2n s.fencedAny), (10, b2n s.eng.stale),
        (11, b2n s.safeDemand), (16, sat 16 s.eng.transCount)]

/-- ID_DEV.DEV_ID (R1, R517). -/
def devId : Word := 0x0B0E1024

/-- The code of TUM_STATUS_n.STATE (R238). -/
def ThreadState.code : ThreadState → Nat
  | .halted => 0 | .ready => 1 | .waiting => 2 | .stalled => 3

/-- TUM_STATUS_n (R238). -/
def Thread.status (x : Thread) : Word :=
  pack [(0, x.pc % 16384), (14, x.st.code), (16, x.cause % 16), (20, sat 4 x.stack.length)]

/-- TUM_CTRL.START (R215, R217): each named thread with an entry point starts, in the states in which threads run; with every thread
halted the program is checked first, and nothing starts when the check fails. A fenced Tumbler starts none (R417). -/
def State.tumStart (s : State) (m : Nat) : State :=
  if m = 0 || !s.threadsRun || s.unitFenced 5 then s
  else
    let s1 := if s.allHalted then s.reportProg else s
    if s.allHalted && progCheck s != stOk then s1
    else s1.each 8 fun s n => if m.testBit n && progEntry s n != 0xFFFF then s.startThread n else s

/-- TUM_CTRL.HALT (R237, R238): the named threads halt with CAUSE 10. -/
def State.tumHalt (s : State) (m : Nat) : State :=
  s.each 8 fun s n => if m.testBit n then s.onThread n fun t => if t.st == .halted then t else t.halt 10 else s

/-- A write of TUM_CTRL (R238): HALT, then START, then PROG_STORE. -/
def State.tumCtrl (s : State) (w : Word) : State :=
  let s1 := (s.tumHalt (fld w 15 8)).tumStart (fld w 7 0)
  if fld w 16 16 = 1 then s1.startProgStore else s1

/-- A register of the ID and state block, none for a reserved offset. -/
def State.readId (s : State) (a : Nat) : Option Word :=
  let m := s.tum
  if a = 0x0000 then some devId
  else if a = 0x0004 then some s.idState
  else if a = 0x0008 then some 0xA1
  else if a = 0x000C then some (if s.eng.trained then BitVec.ofNat 32 (s.eng.dramGib % 4) else 0)
  else if a = 0x0100 then some 0
  else if a = 0x0104 then
    some (pack [(0, maskOf 8 fun n => (s.thread n).st != .halted), (8, maskOf 8 fun n => (s.thread n).st == .waiting)])
  else if inArr a 0x0110 8 then some (s.thread (arrIx a 0x0110)).status
  else if inArr a 0x0130 8 then some (s.thread (arrIx a 0x0130)).pending
  else if inArr a 0x0150 8 then some (s.thread (arrIx a 0x0150)).runlim
  else if a = 0x0170 then some m.lrdy
  else if a = 0x0174 then some (m.doorbell.head?.getD 0)
  else if a = 0x0178 then some (BitVec.ofNat 32 (sat 3 m.doorbell.length))
  else if a = 0x017C then some (pack [(0, m.excThread % 8), (4, m.excCause % 16), (8, m.excPc % 16384), (24, sat 8 m.excCount)])
  else if a = 0x0180 then
    some (pack [(0, m.progCode.toNat), (8, b2n m.progCopy), (9, b2n (progCheck s == stOk)),
      (10, if progCheck s == stOk then fld (s.progWord 1) 13 0 else 0), (30, b2n m.progValid), (31, b2n (m.progValid && m.progFresh))])
  else if a = 0x0184 then some (pack [(0, m.storeCode.toNat), (30, b2n m.storeValid), (31, b2n (m.storeValid && m.storeFresh))])
  else if a = 0x0188 then some (pack [(0, sat 16 m.evtLost), (16, m.evtThread % 8), (19, m.evtEvent % 32)])
  else if a = 0x0200 then some (pack [(0, sat 16 s.cmd.accepted), (16, sat 16 s.cmd.refused)])
  else if a = 0x0204 then some (pack [(0, s.cmd.lastOp.toNat), (8, s.cmd.lastStatus.toNat), (16, s.cmd.lastPort % 4)])
  else if a = 0x0208 then some (pack [(0, sat 16 s.cmd.tagFail), (16, s.cmd.tagFailSrc.toNat)])
  else if a = 0x020C then some (pack [(0, b2n s.pwr.sealHigh), (16, sat 16 s.cmd.svcErrors)])
  else if a = 0x0210 then some s.cmd.wallEpoch
  else if a = 0x0214 then some s.cmd.settingsEpoch
  else none

/-- What a consuming read of that block does (R7, R254, R255). -/
def State.touchId (s : State) (a : Nat) : State :=
  if a = 0x0004 then s.onEng fun e => { e with transCount := 0 }
  else if a = 0x0174 then s.onTum fun m => { m with doorbell := m.doorbell.tail }
  else if a = 0x017C then s.onTum fun m => { m with excCount := 0 }
  else if a = 0x0180 then s.onTum fun m => { m with progFresh := m.progFresh && !m.progValid }
  else if a = 0x0184 then s.onTum fun m => { m with storeFresh := m.storeFresh && !m.storeValid }
  else if a = 0x0188 then s.onTum fun m => { m with evtLost := 0 }
  else if a = 0x0200 then s.onCmd fun c => { c with accepted := 0, refused := 0 }
  else if a = 0x0208 then s.onCmd fun c => { c with tagFail := 0 }
  else if a = 0x020C then s.onCmd fun c => { c with svcErrors := 0 }
  else s

/-- A write to that block. -/
def State.writeId (s : State) (a : Nat) (w : Word) : WriteAnswer :=
  if a = 0x0100 then took (s.tumCtrl w)
  else if inArr a 0x0150 8 then took (s.onThread (arrIx a 0x0150) fun t => { t with runlim := BitVec.ofNat 32 (fld w 15 0) })
  else if a = 0x0170 then took (s.onTum fun m => { m with lrdy := BitVec.ofNat 32 (fld w 15 0) })
  else took s

/-! ### Clock and power (R494) -/

/-- The code of PWR_STATUS.HSW_STATE. -/
def HswState.code : HswState → Nat
  | .gateOff => 0 | .inrush => 1 | .on => 2 | .tripped => 3

/-- A port’s lane PLL is locked: the port is neither DISABLED nor PARKED, and the reference is good (DEDUCED, log entry 40). -/
def State.laneLock (s : State) (p : Port) : Bool := s.pwr.refOk && (s.link p).st != .disabled && (s.link p).st != .parked

/-- A register of the Clock and power block. -/
def State.readClk (s : State) (a : Nat) : Option Word :=
  let p := s.pwr
  if a = 0x0400 then
    some (pack [(0, b2n p.rootLock), (1, b2n p.refOk), (2, b2n p.clksel), (3, b2n (s.laneLock .a)), (4, b2n (s.laneLock .b))])
  else if a = 0x0404 then some (pack [(0, p.cause.code), (4, p.others.toNat), (16, sat 16 p.resets)])
  else if a = 0x0408 then
    some (pack [(0, b2n p.present), (1, p.hsw.code), (3, b2n p.auxPg0), (4, b2n p.auxPg1), (5, b2n p.corePg), (6, b2n p.hkOk)])
  else if a = 0x040C then some (pack [(0, sat 16 p.inrushMs), (16, sat 16 p.attempts)])
  else if a = 0x0410 then some (pack [(0, sat 8 p.trips), (8, sat 8 p.inrushFails)])
  else if a = 0x0414 then some (pack [(0, sat 16 p.lastUs), (16, sat 16 p.departs)])
  else if a = 0x0418 then some (pack [(0, sat 16 p.bootMs), (16, if s.eng.st == .join then 0 else sat 16 p.joinMs)])
  else none

/-- What a consuming read of that block does. -/
def State.touchClk (s : State) (a : Nat) : State :=
  if a = 0x0404 then s.onPwr fun p => { p with resets := 0 }
  else if a = 0x040C then s.onPwr fun p => { p with attempts := 0 }
  else if a = 0x0410 then s.onPwr fun p => { p with trips := 0, inrushFails := 0 }
  else if a = 0x0414 then s.onPwr fun p => { p with departs := 0 }
  else s

/-! ### Faults (R408, R422, R431) -/

/-- The number of the oldest record held, 0 when none is. -/
def Flt.oldest (f : Flt) : Word :=
  match oldestSlot f.slots (fun _ => true) with
  | some i => (match f.slots.getD i none with | some r => r.number | none => 0)
  | none => 0

/-- Pin FLT_P as the read-back finds it (R419): low in FAULT; in HEALTHY a square wave whose phase the spec does not tie to anything,
a free value (log entry 41). -/
def State.fltP (s : State) : Bool := !s.flt.pairFault && (Config.freeWord s.free).getLsbD 0

/-- A register of the Faults block. -/
def State.readFlt (s : State) (a : Nat) : Option Word :=
  let f := s.flt
  if a = 0x0800 then
    some (pack [(0, sat 7 (f.openCount 1)), (7, sat 7 (f.openCount 2)), (14, sat 7 (f.openCount 3)), (21, b2n f.pairFault),
      (22, sat 3 f.injHeld.length), (25, sat 7 f.records.length)])
  else if a = 0x0804 then some f.first
  else if a = 0x0808 then some (match f.records.find? fun r => f.first != 0 && r.number == f.first with | some r => r.word1 f | none => f.firstInfo)
  else if a = 0x080C then some 0
  else if a = 0x0810 then some (BitVec.ofNat 32 (sat 14 f.handleUs))
  else if a = 0x0814 then some f.newest
  else if a = 0x0818 then some f.oldest
  else if a = 0x081C then some (f.fences.zeroExtend 32)
  else if a = 0x0820 then some (f.ringFences.truncate 32)
  else if a = 0x0824 then some ((f.ringFences >>> 32).truncate 32)
  else if a = 0x0828 then some (pack [(0, sat 16 f.created), (16, sat 16 f.merged)])
  else if a = 0x082C then some (pack [(0, sat 16 f.full)])
  else if a = 0x0830 then some 0
  else if a = 0x0834 then some (pack [(0, sat 16 f.injected)])
  else if a = 0x0838 then some (pack [(0, b2n s.fltP), (1, b2n (!s.fltP)), (16, sat 16 f.mismatches)])
  else if inArr a 0x0880 16 then some (f.sevWord (arrIx a 0x0880))
  else none

/-- What a read of that block does: the free value of FLT_PAIR is used up by any read, the rest by a consuming one. -/
def State.touchFlt (s : State) (a : Nat) (consume : Bool) : State :=
  let s1 := if a = 0x0838 then s.takeFree else s
  if !consume then s1
  else if a = 0x0828 then s1.onFlt fun f => { f with created := 0, merged := 0 }
  else if a = 0x082C then s1.onFlt fun f => { f with full := 0 }
  else if a = 0x0834 then s1.onFlt fun f => { f with injected := 0 }
  else if a = 0x0838 then s1.onFlt fun f => { f with mismatches := 0 }
  else s1

/-- Every field of a register that a write may change is SERVICE only: FLT_INJECT and FLT_SEV_m (R408, R422). -/
def deniedFlt (src : Source) (a : Nat) : Bool := !isService src && (a == 0x0830 || inArr a 0x0880 16)

/-- A severity word as it is stored (R408): a value below the default stores the default, and a locked source keeps its own. -/
def sevStored (m : Nat) (w : Word) : Word :=
  pack ((List.range 16).map fun i =>
    let n := 16 * m + i
    (2 * i, if sevLocked n then (defSev n).val else max (defSev n).val (fld w (2 * i + 1) (2 * i))))

/-- FLT_SEV_m written: the other words keep what they hold. -/
def Flt.setSev (f : Flt) (m : Nat) (w : Word) : Flt :=
  { f with sev := (List.range 16).map fun i => if i = m then sevStored m w else f.sevWord i }

/-- A write to that block. -/
def State.writeFlt (s : State) (a : Nat) (w : Word) : WriteAnswer :=
  if a = 0x080C then took (if fld w 0 0 = 1 then s.onFlt fun f => { f with first := 0, firstInfo := 0 } else s)
  else if a = 0x0810 then took (s.onFlt fun f => { f with handleUs := clampN 10 10000 (fld w 13 0) })
  else if a = 0x0830 then s.inject w
  else if inArr a 0x0880 16 then took (s.onFlt fun f => f.setSev (arrIx a 0x0880) w)
  else took s

/-! ### Check units (R425 to R432) -/

/-- CHK_RSTATUS of a unit: with the units fenced, and while a closed computation drains, VALID reads 0 (R417, R428). -/
def State.chkStatus (s : State) (u : Nat) : Word :=
  let c := s.unit u
  let valid := !c.draining && !s.unitFenced 8
  pack [(0, b2n c.matched), (30, b2n valid), (31, b2n (valid && c.fresh))]

/-- A source’s snapshot of CHK_RESULT of unit `u` (R516). -/
def PerSource.chk (p : PerSource) (u : Nat) : Word := if u = 0 then p.chk0 else if u = 1 then p.chk1 else if u = 2 then p.chk2 else p.chk3

/-- That snapshot taken. -/
def PerSource.setChk (p : PerSource) (u : Nat) (w : Word) : PerSource :=
  if u = 0 then { p with chk0 := w } else if u = 1 then { p with chk1 := w } else if u = 2 then { p with chk2 := w } else { p with chk3 := w }

/-- Unit and offset of an address in the Check units block, none outside the four units. -/
def chkAt (a : Nat) : Option (Nat × Nat) := if decide (0x0C00 ≤ a) && decide (a < 0x0D00) then some ((a - 0x0C00) / 64, (a - 0x0C00) % 64) else none

/-- A register of the Check units block. -/
def State.readChk (s : State) (src : Source) (a : Nat) : Option Word :=
  match chkAt a with
  | none => none
  | some (u, o) =>
    let c := s.unit u
    if o = 0x00 then some c.cfg
    else if o = 0x04 then some c.poly
    else if o = 0x08 then some c.init
    else if o = 0x0C then some c.xorout
    else if o = 0x24 then some c.expect
    else if o = 0x28 then some ((s.per src).chk u)
    else if o = 0x2C then some (s.chkStatus u)
    else if o = 0x34 then some (BitVec.ofNat 32 (sat 24 c.deadlineUs))
    else if o = 0x38 then some (pack [(0, sat 8 c.mism), (8, sat 8 c.aliveErrs), (16, sat 8 c.timeouts), (24, sat 8 c.discards)])
    else if o = 0x3C then none
    else some 0

/-- What a read of that block does: CHK_RSTATUS snapshots the result for its source (R428, R516). -/
def State.touchChk (s : State) (src : Source) (a : Nat) (consume : Bool) : State :=
  match chkAt a with
  | none => s
  | some (u, o) =>
    if o = 0x2C then
      let s1 := s.onPer src fun p => p.setChk u (s.unit u).result
      if consume && !(s.unit u).draining && !s.unitFenced 8 then s1.onUnit u fun c => { c with fresh := false } else s1
    else if o = 0x38 && consume then s.onUnit u fun c => { c with mism := 0, aliveErrs := 0, timeouts := 0, discards := 0 }
    else s

/-- CHK_CFG as it is stored (R425, R430): PRESET 6 and 7 store 0, TARGET 10 to 14 stores 15. -/
def chkCfgStored (w : Word) : Word :=
  pack [(0, if 6 ≤ fld w 2 0 then 0 else fld w 2 0), (3, fld w 11 3), (16, if 10 ≤ fld w 19 16 then 15 else fld w 19 16)]

/-- A write to that block. A change of ALIVE8 makes the next feed the first (R429). -/
def State.writeChk (s : State) (a : Nat) (w : Word) : WriteAnswer :=
  match chkAt a with
  | none => took s
  | some (u, o) =>
    if o = 0x00 then
      took (s.onUnit u fun c =>
        { c with cfg := chkCfgStored w, aliveFirst := c.aliveFirst || (c.cfg.getLsbD 11 != w.getLsbD 11) })
    else if o = 0x04 then took (s.onUnit u fun c => { c with poly := w })
    else if o = 0x08 then took (s.onUnit u fun c => { c with init := w })
    else if o = 0x0C then took (s.onUnit u fun c => { c with xorout := w })
    else if o = 0x10 then took (s.chkStart u)
    else if o = 0x14 then took (s.chkData u (leBytes 1 (fld w 7 0)))
    else if o = 0x18 then took (s.chkData u (leBytes 2 (fld w 15 0)))
    else if o = 0x1C then took (s.chkData u (leBytes 4 w.toNat))
    else if o = 0x20 then took (s.chkClose u)
    else if o = 0x24 then took (s.onUnit u fun c => { c with expect := w })
    else if o = 0x30 then took (s.chkAlive u w)
    else if o = 0x34 then took (s.onUnit u fun c => { c with deadlineUs := fld w 23 0 })
    else took s

end Sys2Proof.Machine
end

