-- ==== Sys2Proof/Machine/RegsLink.lean ====
section
/-!
DEFINITION. Sys2Proof/Machine/RegsLink.lean: the registers of the Wall link blocks and the Time block (R289, R315, R336 to R341).
-/

namespace Sys2Proof.Machine

/-! ### Wall link (R289, R315) -/

/-- A number signed and held within 16 bits. -/
def sat16i (i : Int) : Nat := sfield 16 (clampI (-32768) 32767 i)

/-- LNK_LANE_SEL of a source for a port (R516). -/
def PerSource.lane (x : PerSource) (p : Port) : Nat := match p with | .a => fld x.laneSelA 1 0 | .b => fld x.laneSelB 1 0

/-- The retrain triggers of a lane in the last 10 min (R289). -/
def State.triggers (s : State) (x : Lane) : Nat :=
  sat 4 (x.triggers.filter fun t => decide (s.time.local_ - t < 600000000000 * 65536)).length

/-- The tile registers of block A (R315). -/
def State.readWall (s : State) (o : Nat) : Option Word :=
  let w := s.wall
  if o = 0xC0 then some (w.id.zeroExtend 32)
  else if o = 0xC4 then some w.statusDest
  else if o = 0xC8 then some (pack [(0, b2n w.headendB), (1, w.hopsA % 4096), (13, w.hopsB % 4096)])
  else if o = 0xCC then some w.gen
  else if o = 0xD0 then
    some (pack [(0, sat 12 (w.map.filter fun e => mKind e.2 != 0).length), (12, b2n w.mapOk), (13, b2n (!w.pend.isEmpty)),
      (16, sat 16 w.changes)])
  else if o = 0xD4 then some (pack [(0, sat 16 w.noCtx), (16, sat 16 w.mapRejects)])
  else none

/-- A register of a Wall link block by its offset; offsets 0x0C0 to 0x0D7 of block B read zero (R514). -/
def State.readLink (s : State) (src : Source) (p : Port) (o : Nat) : Option Word :=
  let l := s.link p
  let x := l.lanes.getD ((s.per src).lane p) {}
  let lanes := fun (f : Lane → Bool) => maskOf 4 fun i => f (l.lanes.getD i {})
  if o = 0x00 then some (pack [(0, b2n l.enable), (3, b2n l.adaptEn), (8, l.clampDfe % 16), (12, l.clampCtle % 16)])
  else if o = 0x04 then
    some (pack [(0, match l.st with
        | .disabled => 0 | .detect => 1 | .rate => 2 | .eq => 3 | .align => 4 | .active => 5 | .quiet => 6 | .parked => 7 | .test => 8),
      (4, l.rate % 4), (6, if l.st == .active then l.width % 8 else 0), (9, l.used.toNat), (13, lanes fun x => x.fenced),
      (17, lanes fun x => x.inverted), (21, b2n l.headend), (22, b2n l.miswired)])
  else if o = 0x08 then some (pack [(0, l.partnerId.toNat), (12, b2n l.partnerB), (13, l.partnerStart % 4)])
  else if o = 0x0C then
    some (pack [(0, l.fails.getD 0 0 % 4), (2, l.fails.getD 1 0 % 4), (4, l.fails.getD 2 0 % 4), (8, sat 8 l.downs), (16, sat 8 l.retrains),
      (24, sat 8 l.parks)])
  else if o = 0x10 then some (BitVec.ofNat 32 ((s.per src).lane p))
  else if o = 0x14 then
    some (pack [(0, b2n x.blockLock), (1, b2n x.markerLock), (2, b2n x.frozen), (3, b2n x.fenced), (4, sat 8 x.eye), (12, s.triggers x),
      (16, sat 8 x.skew)])
  else if o = 0x18 then some (pack [(0, sat 16 x.bipErrs), (16, sat 16 x.hdrErrs)])
  else if o = 0x1C then some (pack [(0, x.txPre % 8), (4, x.txPost % 16), (8, x.ctle % 16), (12, sfield 6 x.dfe1)])
  else if o = 0x20 then some 0
  else if o = 0x24 then
    some (pack [(0, sat 8 l.eyeMin), (8, l.eyeLanes.toNat), (30, b2n l.eyeValid), (31, b2n (l.eyeValid && l.eyeFresh))])
  else if o = 0x28 then some (pack [(0, sat 16 l.stuffTx), (16, sat 16 l.stuffRx)])
  else if o = 0x2C then some (pack [(0, sat 16 l.badctl)])
  else if o = 0x30 then some (pack [(0, fld l.test 15 0), (16, lanes fun x => x.sync), (20, lanes fun x => x.fail)])
  else if o = 0x34 then some 0
  else if o = 0x38 then some (BitVec.ofNat 32 (sat 32 x.prbsErrs))
  else if o = 0x3C then some (pack [(0, sat 16 x.injBits)])
  else if o = 0x80 then some (pack [(0, sat 16 l.rxFrames), (16, sat 16 l.txFrames)])
  else if o = 0x84 then some (pack [(0, sat 8 l.crcErrs), (8, sat 8 l.stomped), (16, sat 8 l.badhdr), (24, sat 8 l.turned)])
  else if o = 0x88 then some (pack [(0, sat 8 l.qDrops), (8, sat 8 l.hopDrops), (16, sat 8 l.misroute)])
  else if o = 0x8C then some (pack [(0, sat 16 (kib (queueBytes l.queue))), (16, sat 16 l.peakKib)])
  else if decide (0xC0 ≤ o) && decide (o < 0xD8) then (match p with | .a => s.readWall o | .b => some 0)
  else none

/-- What a consuming read of a Wall link block does. -/
def State.touchLink (s : State) (src : Source) (p : Port) (o : Nat) : State :=
  let lane := (s.per src).lane p
  let onLane := fun (f : Lane → Lane) => s.onLink p fun l => { l with lanes := upd l.lanes lane f }
  if o = 0x0C then s.onLink p fun l => { l with downs := 0, retrains := 0, parks := 0 }
  else if o = 0x18 then onLane fun x => { x with bipErrs := 0, hdrErrs := 0 }
  else if o = 0x24 then s.onLink p fun l => { l with eyeFresh := l.eyeFresh && !l.eyeValid }
  else if o = 0x28 then s.onLink p fun l => { l with stuffTx := 0, stuffRx := 0 }
  else if o = 0x2C then s.onLink p fun l => { l with badctl := 0 }
  else if o = 0x38 then onLane fun x => { x with prbsErrs := 0 }
  else if o = 0x3C then onLane fun x => { x with injBits := 0 }
  else if o = 0x80 then s.onLink p fun l => { l with rxFrames := 0, txFrames := 0 }
  else if o = 0x84 then s.onLink p fun l => { l with crcErrs := 0, stomped := 0, badhdr := 0, turned := 0 }
  else if o = 0x88 then s.onLink p fun l => { l with qDrops := 0, hopDrops := 0, misroute := 0 }
  else if o = 0x8C then s.onLink p fun l => { l with peakKib := 0 }
  else if o = 0xD0 && p == .a then s.onWall fun w => { w with changes := 0 }
  else if o = 0xD4 && p == .a then s.onWall fun w => { w with noCtx := 0, mapRejects := 0 }
  else s

/-- A write to a Wall link block that a WALL port may not make: LNK_CTRL with CLR_FENCE = 1, LNK_TEST, LNK_INJECT (R284, R535). -/
def deniedLink (src : Source) (o : Nat) (w : Word) : Bool := !isService src && ((o == 0x00 && fld w 2 2 == 1) || o == 0x30 || o == 0x34)

/-- An eye measurement of all used lanes starts (R280); with no used lane there is nothing to measure (log entry 42). -/
def State.startEye (s : State) (p : Port) : State :=
  if (s.link p).usedLanes.isEmpty then s else s.onLink p fun l => { l with eyeValid := false, eyeFresh := false }

/-- LNK_CTRL written: the fields, then the actions (R289). A clamp of 0 stores 1; ADAPT_EN = 0 puts the taps at their EQ values. -/
def State.writeLinkCtrl (s : State) (p : Port) (w : Word) : State :=
  (s.onLink p fun l =>
    { l with adaptEn := fld w 3 3 == 1, clampDfe := max 1 (fld w 11 8), clampCtle := max 1 (fld w 15 12)
             lanes := if fld w 3 3 = 1 then l.lanes else l.lanes.map Lane.holdTaps }).linkCtrl p (fld w 0 0 == 1)
      (fld w 1 1 == 1) (fld w 2 2 == 1)

/-- A write to a Wall link block; the test registers only in SERVICE (R284). -/
def State.writeLink (s : State) (src : Source) (p : Port) (o : Nat) (w : Word) : WriteAnswer :=
  if o = 0x00 then took (s.writeLinkCtrl p w)
  else if o = 0x10 then
    took (s.onPer src fun x => match p with
      | .a => { x with laneSelA := BitVec.ofNat 32 (fld w 1 0) } | .b => { x with laneSelB := BitVec.ofNat 32 (fld w 1 0) })
  else if o = 0x20 then took (if fld w 0 0 = 1 then s.startEye p else s)
  else if o = 0x30 then if s.eng.st == .service then took (s.linkTest p w) else (stRefusedState, s)
  else if o = 0x34 then if s.eng.st == .service then took (s.linkInject p w) else (stRefusedState, s)
  else if o = 0xC4 && p == .a then took (s.onWall fun x => { x with statusDest := BitVec.ofNat 32 (fld w 11 0) })
  else took s

/-! ### Time (R331, R336 to R341) -/

/-- The code of TDd_COND (R341). -/
def DomCond.code : DomCond → Nat
  | .idle => 0 | .acquiring => 1 | .acquired => 2

/-- A link delay in 0.25 ns units, 0xFFFF when it is not valid (R341). -/
def Link.delayUnits (l : Link) : Nat := match l.delay with | none => 0xFFFF | some d => min (d / 16384).toNat 0xFFFE

/-- A register of domain `d` by its offset (R341). -/
def Domain.reg (d : Domain) (o : Nat) : Option Word :=
  if o = 0x0 then some (pack [(0, d.gm.toNat), (16, d.seq.toNat)])
  else if o = 0x4 then some (pack [(0, sat16i (d.residual / 65536)), (16, sat 16 d.outliers)])
  else if o = 0x8 then some (BitVec.ofNat 32 (sfield 32 d.ratePpb))
  else if o = 0xC then some (pack [(0, sat 16 d.samples), (16, sat 16 d.losses)])
  else none

/-- A register of the Time block. -/
def State.readTime (s : State) (src : Source) (a : Nat) : Option Word :=
  let x := s.time
  let p := s.per src
  if a = 0x1800 then some (pack [(0, b2n x.pref), (1, b2n x.flockEn)])
  else if a = 0x1804 then
    some (pack [(0, b2n x.active), (1, b2n x.valid), (2, b2n x.holdover), (3, b2n x.slewing), (4, x.d0.cond.code), (6, x.d1.cond.code),
      (8, b2n x.qualified), (16, if x.holdover then sat 16 (x.holdTime / 65536 / 100000000) else 0)])
  else if a = 0x1808 then some (BitVec.ofNat 32 s.nowNs)
  else if a = 0x180C then some p.nowHi
  else if a = 0x1810 then some (BitVec.ofNat 32 s.localNs)
  else if a = 0x1814 then some p.localHi
  else if a = 0x1818 then some (BitVec.ofNat 32 (sat 10 x.holdMaxS))
  else if decide (0x1820 ≤ a) && decide (a < 0x1840) then (x.dom (decide (0x1830 ≤ a))).reg (a % 16)
  else if a = 0x1840 then some (pack [(0, s.linkA.delayUnits), (16, s.linkB.delayUnits)])
  else if a = 0x1844 then some (pack [(0, sat 8 x.switches), (8, sat 8 x.holdovers), (16, sat 8 x.lost), (24, sat 8 x.badMsg)])
  else if a = 0x1850 then some (pack [(0, sat 28 x.flockPhase), (30, b2n x.flockValid), (31, b2n (x.flockValid && x.flockFresh))])
  else if a = 0x1854 then some (BitVec.ofNat 32 (sat 28 x.flockPeriod))
  else if a = 0x1860 then
    some (match x.caps with
      | [] => 0
      | c :: _ => pack [(0, c.source % 32), (5, b2n c.edge), (6, b2n c.wValid), (7, b2n x.capLost), (16, c.stamp / 2 ^ 32 % 2 ^ 16)])
  else if a = 0x1864 then some p.capData1
  else if a = 0x1868 then some (BitVec.ofNat 32 (sat 5 x.caps.length))
  else if a = 0x186C then some x.capEn
  else if a = 0x1870 then some 0
  else if a = 0x1874 then some x.adcLo
  else if a = 0x1878 then some (pack [(0, fld x.adcHi 15 0), (16, b2n x.adcArmed)])
  else if inArr a 0x1880 16 then
    let c := x.cmps.getD ((a - 0x1880) / 8) {}
    some (if a % 8 = 0 then c.lo else pack [(0, fld c.hi 15 0), (16, b2n c.armed)])
  else if inArr a 0x18C0 3 then
    let m := arrIx a 0x18C0
    some (pack [(0, (x.adcSnap.getD (2 * m) 0).toNat), (16, (x.adcSnap.getD (2 * m + 1) 0).toNat)])
  else if a = 0x18CC then
    some (pack [(0, (x.adcSnap.getD 6 0).toNat), (30, b2n (!x.adcArmed)), (31, b2n (!x.adcArmed && x.adcFresh))])
  else none

/-- What a read of the Time block does: the snapshots of R516 are taken by every read, the rest is done by a consuming one. -/
def State.touchTime (s : State) (src : Source) (a : Nat) (consume : Bool) : State :=
  let x := s.time
  if a = 0x1808 then s.onPer src fun p => { p with nowHi := BitVec.ofNat 32 (s.nowNs / 2 ^ 32) }
  else if a = 0x1810 then s.onPer src fun p => { p with localHi := BitVec.ofNat 32 (s.localNs / 2 ^ 32) }
  else if a = 0x1860 then
    match x.caps with
    | [] => s
    | c :: rest =>
      let s1 := s.onPer src fun p => { p with capData1 := BitVec.ofNat 32 c.stamp }
      if consume then s1.onTime fun x => { x with caps := rest, capLost := false } else s1
  else if !consume then s
  else if a = 0x1824 then s.onTime fun x => x.onDom false fun d => { d with outliers := 0 }
  else if a = 0x1834 then s.onTime fun x => x.onDom true fun d => { d with outliers := 0 }
  else if a = 0x182C then s.onTime fun x => x.onDom false fun d => { d with samples := 0, losses := 0 }
  else if a = 0x183C then s.onTime fun x => x.onDom true fun d => { d with samples := 0, losses := 0 }
  else if a = 0x1844 then s.onTime fun x => { x with switches := 0, holdovers := 0, lost := 0, badMsg := 0 }
  else if a = 0x1850 then s.onTime fun x => { x with flockFresh := x.flockFresh && !x.flockValid }
  else if a = 0x18CC then s.onTime fun x => { x with adcFresh := x.adcFresh && x.adcArmed }
  else s

/-- Thread `n` waits on its compare (R231). -/
def State.waitsOn (s : State) (n : Nat) : Bool :=
  match (s.thread n).st, (s.thread n).wait with
  | .waiting, .compare _ => true
  | _, _ => false

/-- A write to time compare `n` (R336): from a port refused with BUSY while its thread waits on it; TARGET_HI arms it. -/
def State.writeCompare (s : State) (src : Source) (n : Nat) (hi : Bool) (w : Word) : WriteAnswer :=
  if s.waitsOn n && src != .tumbler then (stBusy, s)
  else took (s.onTime fun x =>
    { x with cmps := upd x.cmps n fun c => if hi then { c with hi := BitVec.ofNat 32 (fld w 15 0), armed := true } else { c with lo := w } })

/-- HOLD_MAX_S written (R331): a limit that the holdover in progress has already passed loses wall time at once. -/
def State.writeHoldMax (s : State) (w : Word) : State :=
  let m := clampN 1 600 (fld w 9 0)
  let s1 := s.onTime fun x => { x with holdMaxS := m }
  if s1.time.holdover && decide (m * 1000000000 * 65536 < s1.time.holdTime) then s1.loseWall else s1

/-- A write to the Time block. -/
def State.writeTime (s : State) (src : Source) (a : Nat) (w : Word) : WriteAnswer :=
  if a = 0x1800 then
    -- a FRAME_LOCK that is not enabled measures nothing, and FLOCK_LOST is over (R339)
    let s1 := s.onTime fun x =>
      { x with pref := fld w 0 0 == 1, flockEn := fld w 1 1 == 1, flockEdge := if fld w 1 1 = 1 then x.flockEdge else none }
    took (if fld w 1 1 = 1 then s1 else s1.endCond 0x34 0)
  else if a = 0x1818 then took (s.writeHoldMax w)
  else if a = 0x186C then took (s.onTime fun x => { x with capEn := BitVec.ofNat 32 (fld w 8 0) })
  else if a = 0x1870 then took (if fld w 0 0 = 1 then s.capture 8 true else s)
  else if a = 0x1874 then took (s.onTime fun x => { x with adcLo := w })
  else if a = 0x1878 then took (s.onTime fun x => { x with adcHi := BitVec.ofNat 32 (fld w 15 0), adcArmed := true, adcFresh := false })
  else if inArr a 0x1880 16 then s.writeCompare src ((a - 0x1880) / 8) (a % 8 != 0) w
  else took s

end Sys2Proof.Machine
end

