-- ==== Sys2Proof/Machine/RegsComp.lean ====
section
/-!
DEFINITION. Sys2Proof/Machine/RegsComp.lean: the registers of the Composition, Colour and Rings blocks (R71, R116, R159).
-/

namespace Sys2Proof.Machine

/-! ### Composition (R71) -/

/-- A register of the Composition block. -/
def State.readComp (s : State) (a : Nat) : Option Word :=
  let c := s.comp
  let lay := fun (f : Layer → Bool) => maskOf 16 fun i => f (s.layer i)
  if a = 0x1C00 then some c.bg
  else if a = 0x1C04 then some (pack [(0, sat 16 c.vblankUs), (16, sat 16 c.vblankActive)])
  else if a = 0x1C08 then some c.conf
  else if a = 0x1C10 then some 0
  else if a = 0x1C14 then
    let valid := c.queue.isEmpty
    some (pack [(0, c.resCode.toNat), (8, c.resLayer % 16), (12, c.resDetail % 16), (16, c.resToken.toNat), (28, b2n c.pending.isSome),
      (30, b2n valid), (31, b2n (valid && c.resFresh))])
  else if a = 0x1C18 then some (pack [(0, sat 16 c.activeMbps), (16, if c.rateSet then limitMbps c.num c.den else 0)])
  else if a = 0x1C1C then some (pack [(0, sat 16 c.activePx), (16, if c.rateSet then limitPx c.num c.den c.vblankActive else 0)])
  else if a = 0x1C20 then some c.takeCount
  else if a = 0x1C24 then some (pack [(0, sat 16 c.drops), (16, sat 8 c.lastCtx)])
  else if a = 0x1C28 then some (pack [(0, lay fun l => l.lstate == .holding), (16, lay fun l => l.lstate == .transparent)])
  else if a = 0x1C2C then some (pack [(0, lay fun l => l.culled)])
  else none

/-- What a consuming read of that block does. -/
def State.touchComp (s : State) (a : Nat) : State :=
  if a = 0x1C14 then s.onComp fun c => { c with resFresh := c.resFresh && !c.queue.isEmpty }
  else if a = 0x1C24 then s.onComp fun c => { c with drops := 0 }
  else s

/-- A write of COMP_COMMIT (R54, R55): legal where COMMIT is (R252). -/
def State.writeCommit (s : State) (w : Word) : WriteAnswer := if s.legal 0x04 then s.requestCommit w .register else (stRefusedState, s)

/-- A write to that block. -/
def State.writeComp (s : State) (a : Nat) (w : Word) : WriteAnswer :=
  if a = 0x1C00 then took (s.onComp fun c => { c with bg := w &&& 0x3FFFFFFF })
  else if a = 0x1C04 then took (s.onComp fun c => { c with vblankUs := fld w 15 0 })
  else if a = 0x1C08 then took (s.onComp fun c => { c with conf := w &&& 0x11F })
  else if a = 0x1C10 then s.writeCommit w
  else took s

/-! ### Colour (R116) -/

/-- The working records with FENCED or STUCK set (R116); none before BOOT has loaded them. -/
def State.fencedPixels (s : State) : Nat :=
  if !s.col.calLoaded then 0 else (s.dram.filter fun c => decide (0xC00000 ≤ c.1) && decide (c.1 < 0x1C00000) && c.1 % 16 == 15 && decide (0x40 ≤ c.2.toNat)).length

/-- A register of the Colour block. -/
def State.readCol (s : State) (src : Source) (a : Nat) : Option Word :=
  let c := s.col
  let g := c.shadow
  let p := s.per src
  if a = 0x2000 then some (pack [(0, g.tf % 8), (3, b2n g.narrow)])
  else if a = 0x2004 then some (pack [(0, sat 16 g.peakRef), (16, sat 16 c.active.gamma)])
  else if a = 0x2008 then some (pack [(0, g.src % 4)])
  else if inArr a 0x200C 9 then some ((g.coef.getD (arrIx a 0x200C) 0).zeroExtend 32)
  else if a = 0x2030 then some (pack [(0, sat 16 (g.yw.getD 0 0)), (16, sat 16 (g.yw.getD 1 0))])
  else if a = 0x2034 then some (pack [(0, sat 16 (g.yw.getD 2 0))])
  else if a = 0x2038 then some (pack [(0, g.dither % 4), (16, sat 5 c.depth)])
  else if a = 0x203C then some (pack [(0, sat 16 (c.res.getD 0 0)), (16, sat 16 (c.res.getD 1 0))])
  else if a = 0x2040 then some (pack [(0, sat 16 (c.res.getD 2 0))])
  else if a = 0x2044 then some (BitVec.ofNat 32 (p.envAddr % 1024))
  else if a = 0x2048 then
    some (pack [(0, (sget 0xFFFF (p.envAddr % 1024) c.envShadow).toNat), (16, (sget 0xFFFF ((p.envAddr + 1) % 1024) c.envShadow).toNat)])
  else if a = 0x204C then some 0
  else if a = 0x2050 then some (c.fillCap.zeroExtend 32)
  else if a = 0x2054 then some (pack [(0, sat 16 c.limit), (16, sat 16 c.limitActive)])
  else if a = 0x2058 then some 0
  else if a = 0x205C then
    let valid := c.landings.isEmpty
    some (pack [(0, c.resCode.toNat), (8, c.resToken.toNat), (16, b2n c.envPending.isSome), (17, b2n c.pending.isSome), (30, b2n valid),
      (31, b2n (valid && c.resFresh))])
  else if a = 0x2060 then some (pack [(0, sat 11 c.zonesCapped), (16, sat 16 c.parityErrors)])
  else if a = 0x2064 then some (pack [(0, sat 16 c.gamutClips), (16, sat 16 c.driveClips)])
  else if a = 0x2068 then some (BitVec.ofNat 32 (p.tfAddr % 4096))
  else if a = 0x206C then some ((sget 0 (p.tfAddr % 4096) g.custom).zeroExtend 32)
  else if a = 0x2070 then
    some (pack [(0, b2n c.factoryOk), (1, b2n c.userOk), (2, b2n c.userHalf), (3, b2n c.idleOk), (4, b2n (c.calRunning || c.userStore)),
      (11, sat 21 s.fencedPixels)])
  else if a = 0x2074 then some (pack [(0, b2n c.front)])
  else if a = 0x2078 then some (pack [(0, sat 16 c.recErrors)])
  else none

/-- What a consuming read of that block does. -/
def State.touchCol (s : State) (a : Nat) : State :=
  if a = 0x205C then s.onCol fun c => { c with resFresh := c.resFresh && !c.landings.isEmpty }
  else if a = 0x2060 then s.onCol fun c => { c with parityErrors := 0 }
  else if a = 0x2064 then s.onCol fun c => { c with gamutClips := 0, driveClips := 0 }
  else if a = 0x2078 then s.onCol fun c => { c with recErrors := 0 }
  else s

/-- COL_ENV_LIMIT is written by the service port only (R89), whatever it writes (DESIGN CHOICE, log entry 94). -/
def deniedCol (src : Source) (a : Nat) : Bool := !isService src && a == 0x2054

/-- A field of the COLOUR shadow group changed. -/
def State.onShadow (s : State) (f : ColourGroup → ColourGroup) : State := s.onCol fun c => { c with shadow := f c.shadow }

/-- COL_TAKE written (R75, R76); a request that lands at once reports its event. -/
def State.writeTake (s : State) (w : Word) : WriteAnswer :=
  let r := s.requestTake (fld w 0 0 == 1) (fld w 1 1 == 1) (BitVec.ofNat 8 (fld w 31 24)) .register
  (r.1, if r.1 == stOk && r.2.1 then r.2.2.fire 21 else r.2.2)

/-- COL_ENV_DATA written: two caps from the source’s ADDR, which moves on by 2 (R90). -/
def State.writeEnvData (s : State) (src : Source) (w : Word) : State :=
  (s.envData ((s.per src).envAddr) w).onPer src fun p => { p with envAddr := (p.envAddr + 2) % 1024 }

/-- COL_TF_DATA written: the custom entry at the source’s ADDR, which moves on by 1 (R116). -/
def State.writeTfData (s : State) (src : Source) (w : Word) : State :=
  (s.onShadow fun g => { g with custom := sset 0 ((s.per src).tfAddr % 4096) (w.truncate 20) g.custom }).onPer src fun p =>
    { p with tfAddr := (p.tfAddr + 1) % 4096 }

/-- A write to that block. -/
def State.writeCol (s : State) (src : Source) (a : Nat) (w : Word) : WriteAnswer :=
  if a = 0x2000 then took (s.onShadow fun g => { g with tf := fld w 2 0, narrow := fld w 3 3 == 1 })
  else if a = 0x2004 then took (s.onShadow fun g => { g with peakRef := fld w 15 0 })
  else if a = 0x2008 then took (s.onShadow fun g => { g with src := fld w 1 0 })
  else if inArr a 0x200C 9 then took (s.onShadow fun g => { g with coef := upd g.coef (arrIx a 0x200C) fun _ => w.truncate 18 })
  else if a = 0x2030 then
    took (s.onShadow fun g => { g with yw := upd (upd g.yw 0 fun _ => fld w 15 0) 1 fun _ => fld w 31 16 })
  else if a = 0x2034 then took (s.onShadow fun g => { g with yw := upd g.yw 2 fun _ => fld w 15 0 })
  else if a = 0x2038 then took (s.onShadow fun g => { g with dither := fld w 1 0 })
  else if a = 0x2044 then took (s.onPer src fun p => { p with envAddr := fld w 9 0 })
  else if a = 0x2048 then took (s.writeEnvData src w)
  else if a = 0x204C then took (s.envFill w)
  else if a = 0x2050 then took (s.onCol fun c => { c with fillCap := w.truncate 16 })
  else if a = 0x2054 then took (s.onCol fun c => { c with limit := fld w 15 0 })
  else if a = 0x2058 then s.writeTake w
  else if a = 0x2068 then took (s.onPer src fun p => { p with tfAddr := fld w 11 0 })
  else if a = 0x206C then took (s.writeTfData src w)
  else took s

/-! ### Rings (R159) -/

/-- RING_INFO.MODE (R159). -/
def RingMode.code : RingMode → Nat
  | .off => 0 | .ring => 1 | .hinge => 2 | .lost => 3 | .fenced => 4 | .locating => 5

/-- The cells of the tile with an emitter last reported in ES state `st` (1 open, 2 short): how many such emitters (R159). -/
def State.esCount (s : State) (st : Nat) : Nat :=
  s.rings.cells.foldl (fun n q => n + (q.2.es.filter fun e => e.2.1 == st).length) 0

/-- The cells of ring `k` silent in the last frame. -/
def State.silentCount (s : State) (k : Nat) : Nat := (s.rings.cells.filter fun q => q.1 / 1024 == k && q.2.silentLast).length

/-- Rings in Hinge mode, one bit each. -/
def State.hingeMask (s : State) (base : Nat) : Nat := maskOf 32 fun i => (s.ring (base + i)).mode == .hinge

/-- A register of the Rings block. -/
def State.readRing (s : State) (src : Source) (a : Nat) : Option Word :=
  let u := s.rings
  let p := s.per src
  let k := p.ringSel % 64
  let r := s.ring k
  if a = 0x2400 then some (u.ctrl &&& 0xD)
  else if a = 0x2408 then some (BitVec.ofNat 32 k)
  else if a = 0x240C then
    some (pack [(0, r.mode.code), (3, b2n r.latched), (4, b2n r.sign), (8, r.aLast.getD 0x7FF % 2048), (19, r.bFirst.getD 0x7FF % 2048)])
  else if a = 0x2410 then some (pack [(0, sat 16 r.rtNs), (16, sat 16 r.wNs)])
  else if a = 0x2414 then some (pack [(0, sat 16 r.wordErrs), (16, sat 16 r.crcFails)])
  else if a = 0x2418 then some (pack [(0, sat 11 (s.silentCount k)), (16, if r.mode == .off then 0 else sat 11 r.dark)])
  else if a = 0x241C then some (pack [(0, sat 16 (s.esCount 1)), (16, sat 16 (s.esCount 2))])
  else if a = 0x2420 then some (BitVec.ofNat 32 (sat 21 s.col.rtFence.length))
  else if a = 0x2424 then some (u.miss.truncate 32)
  else if a = 0x2428 then some ((u.miss >>> 32).truncate 32)
  else if a = 0x242C then some (BitVec.ofNat 32 (s.hingeMask 0))
  else if a = 0x2430 then some (BitVec.ofNat 32 (s.hingeMask 32))
  else if a = 0x2434 then some p.sigLo
  else if a = 0x2438 then some p.sigHi
  else if a = 0x243C then some p.sigFlip
  else if a = 0x2440 then some (pack [(0, sat 17 u.sigShown.conf), (17, sat 13 u.sigShown.other), (30, b2n (!u.sigBusy)), (31, b2n u.sigFresh)])
  else if a = 0x2448 then some 0
  else if a = 0x244C then
    let busy := u.sweep != .none
    some (pack [(0, b2n busy), (1, sat 6 u.round), (30, b2n (!busy)), (31, b2n (!busy && u.measFresh))])
  else if a = 0x2450 then some (pack [(0, b2n u.cairnOn), (1, b2n u.monOk), (16, sat 16 u.refreshes)])
  else if inArr a 0x2500 64 then some (s.ring (arrIx a 0x2500)).drive
  else if inArr a 0x2600 64 then
    let l := (s.ring (arrIx a 0x2600)).driveShown
    some (pack [(0, sat 10 (l.getD 0 0)), (10, sat 10 (l.getD 1 0)), (20, sat 10 (l.getD 2 0))])
  else if inArr a 0x2700 64 then
    let r := s.ring (arrIx a 0x2700)
    some (pack [(0, sat 11 r.expect), (16, sat 11 r.found)])
  else none

/-- What a read of that block does: RING_SIG_CNT snapshots the signature for its source (R141, R516); the rest is done by a consuming
read. -/
def State.touchRing (s : State) (src : Source) (a : Nat) (consume : Bool) : State :=
  let k := (s.per src).ringSel % 64
  if a = 0x2440 then
    let g := s.rings.sigShown
    let s1 := s.onPer src fun p => { p with sigLo := g.value.truncate 32, sigHi := (g.value >>> 32).truncate 32, sigFlip := g.flip }
    if consume then s1.onRings fun u => { u with sigFresh := u.sigFresh && u.sigBusy } else s1
  else if !consume then s
  else if a = 0x2414 then s.onRing k fun r => { r with wordErrs := 0, crcFails := 0 }
  else if a = 0x2424 then s.onRings fun u => { u with miss := u.miss &&& 0xFFFFFFFF00000000 }
  else if a = 0x2428 then s.onRings fun u => { u with miss := u.miss &&& 0xFFFFFFFF }
  else if a = 0x244C then s.onRings fun u => { u with measFresh := u.measFresh && u.sweep != .none }
  else if a = 0x2450 then s.onRings fun u => { u with refreshes := 0 }
  else s

/-- CLR_RT_FENCE is the service port’s (R146, R535). -/
def deniedRing (src : Source) (a : Nat) (w : Word) : Bool := !isService src && a == 0x2400 && fld w 1 1 == 1

/-- RING_CTRL written. -/
def State.writeRingCtrl (s : State) (w : Word) : State :=
  let s1 := s.onRings fun u => { u with ctrl := w &&& 0xD }
  if fld w 1 1 = 1 then s1.clearRtFences else s1

/-- RING_DRIVE_k as stored: a level above 191 stores 191 (R170). -/
def driveClamp (w : Word) : Word := pack ((List.range 3).map fun c => (10 * c, min 191 (fld w (10 * c + 9) (10 * c))))

/-- A write to that block. -/
def State.writeRing (s : State) (src : Source) (a : Nat) (w : Word) : WriteAnswer :=
  if a = 0x2400 then took (s.writeRingCtrl w)
  else if a = 0x2408 then took (s.onPer src fun p => { p with ringSel := fld w 5 0 })
  else if a = 0x2448 then s.sweepRequest (fld w 1 0) (fld w 9 2)
  else if inArr a 0x2500 64 then took (s.onRing (arrIx a 0x2500) fun r => { r with drive := driveClamp w })
  else if inArr a 0x2700 64 then took (s.onRing (arrIx a 0x2700) fun r => { r with expect := clampN 1 1024 (fld w 10 0) })
  else took s

end Sys2Proof.Machine
end

