-- ==== Sys2Proof/Machine/RegsLed.lean ====
section
/-!
DEFINITION. Sys2Proof/Machine/RegsLed.lean: the registers of the LED supply, Thermal, Safety and Ageing blocks (R179, R449, R404, R209).
-/

namespace Sys2Proof.Machine

/-! ### LED supply (R179) -/

/-- The channel that a source selects, none above 23. -/
def State.adcChannel (s : State) (src : Source) : Option AdcChannel := s.led.adc[fld (s.per src).adcSel 4 0]?

/-- LED_ADC_VAL for a source (R178): the newest conversion of its channel, or the previous value with VALID = 0. -/
def State.adcVal (s : State) (src : Source) : Word :=
  match s.adcChannel src with
  | some c => if c.valid then pack [(0, c.code.toNat), (30, 1), (31, b2n c.fresh)] else (s.per src).adcPrev.zeroExtend 32
  | none => (s.per src).adcPrev.zeroExtend 32

/-- LED_PHASE_I (R179): 100 mA units, 0xFF for a phase not in use or disabled. -/
def Led.phaseWord (l : Led) : Word :=
  pack ((List.range 4).map fun p =>
    (8 * p, if l.disabled.getLsbD p || l.phases ≤ p then 0xFF else sat 8 (l.phaseMa.getD p 0 / 100)))

/-- A register of the LED supply block. -/
def State.readLed (s : State) (src : Source) (a : Nat) : Option Word :=
  let l := s.led
  if a = 0x2800 then some (pack [(0, l.phasesM1 % 4), (2, b2n l.fixed)])
  else if a = 0x2804 then some (BitVec.ofNat 32 (sat 10 l.marginMv))
  else if a = 0x2808 then some (pack [(0, sat 13 l.vminMv), (16, sat 13 l.vmaxMv)])
  else if a = 0x280C then some (pack [(0, sat 13 l.vfixMv), (16, sat 13 l.vstartMv)])
  else if a = 0x2810 then
    some (pack [(0, sat 13 l.setMv), (16, sat 13 s.refNow), (29, b2n s.regulated), (30, b2n (s.unitFenced 2)), (31, b2n l.on)])
  else if a = 0x2814 then some (pack [(0, sat 13 l.vledMv), (16, sat 16 (l.phaseMa.foldl (· + ·) 0 / 10))])
  else if a = 0x2818 then some (pack [(0, sat 16 l.vbus10mv), (16, sat 16 l.ibusMa)])
  else if a = 0x281C then some l.phaseWord
  else if a = 0x2820 then some (pack [(0, sat 12 l.p100mw), (16, sat 8 l.plimitW), (24, sat 6 l.kPower)])
  else if a = 0x2824 then some (BitVec.ofNat 32 (sat 8 l.kneeC))
  else if a = 0x2828 then some (pack [(0, sat 8 l.ocp), (8, sat 8 l.uv), (16, sat 8 l.lag), (24, sat 8 l.plimSteps)])
  else if a = 0x282C then some (l.plan.zeroExtend 32)
  else if a = 0x2830 then some (BitVec.ofNat 32 (fld (s.per src).adcSel 4 0))
  else if a = 0x2834 then some (s.adcVal src)
  else if inArr a 0x2900 64 then
    let b := l.board.getD (arrIx a 0x2900) {}
    some (pack [(0, sat 6 b.k), (16, sat 16 b.steps)])
  else none

/-- What a consuming read of that block does. -/
def State.touchLed (s : State) (src : Source) (a : Nat) : State :=
  if a = 0x2828 then s.onLed fun l => { l with ocp := 0, uv := 0, lag := 0, plimSteps := 0 }
  else if a = 0x2834 then s.onLed fun l => { l with adc := upd l.adc (fld (s.per src).adcSel 4 0) fun c => { c with fresh := false } }
  else if inArr a 0x2900 64 then s.onLed fun l => { l with board := upd l.board (arrIx a 0x2900) fun b => { b with steps := 0 } }
  else s

/-- A write that a WALL port may not make (R179, R535): LED_VLIM, LED_POWER and LED_KNEE, and LED_CFG when it changes PHASES_M1.
LED_POWER’s SERVICE-only field stands beside read-only fields only: its write is denied even where it leaves the field unchanged (DESIGN
CHOICE, log entry 94). -/
def State.deniedLed (s : State) (src : Source) (a : Nat) (w : Word) : Bool :=
  !isService src && (a == 0x2808 || a == 0x2820 || a == 0x2824 || (a == 0x2800 && fld w 1 0 != s.led.phasesM1))

/-- LED_ADC_SEL written (R178): the value read until then stays until the new channel has a conversion. -/
def State.writeAdcSel (s : State) (src : Source) (w : Word) : State :=
  s.onPer src fun p => { p with adcSel := BitVec.ofNat 32 (fld w 4 0), adcPrev := (s.adcVal src).truncate 12 }

/-- A write to that block. -/
def State.writeLed (s : State) (src : Source) (a : Nat) (w : Word) : WriteAnswer :=
  if a = 0x2800 then took (s.onLed fun l => { l with phasesM1 := fld w 1 0, fixed := fld w 2 2 == 1 })
  else if a = 0x2804 then took (s.onLed fun l => { l with marginMv := clampN 50 500 (fld w 9 0) })
  else if a = 0x2808 then
    let v := clampN 2500 5500 (fld w 28 16)
    took (s.onLed fun l => { l with vmaxMv := v, vminMv := clampN 2500 v (fld w 12 0) })
  else if a = 0x280C then
    took (s.onLed fun l =>
      { l with vfixMv := clampN l.vminMv l.vmaxMv (fld w 12 0), vstartMv := clampN l.vminMv l.vmaxMv (fld w 28 16) })
  else if a = 0x2820 then took (s.onLed fun l => { l with plimitW := clampN 20 200 (fld w 23 16) })
  else if a = 0x2824 then took (s.onLed fun l => { l with kneeC := clampN 25 100 (fld w 7 0) })
  else if a = 0x2830 then took (s.writeAdcSel src w)
  else took s

/-! ### Thermal (R449) -/

/-- A temperature in 1/16 °C as a signed field of 16 bits. -/
def tempField (t : Int) : Nat := sat16i t

/-- A register of the Thermal block. -/
def State.readTherm (s : State) (src : Source) (a : Nat) : Option Word :=
  let t := s.therm
  if a = 0x2C00 then some (pack [(0, tempField t.tDie), (16, tempField t.pdie)])
  else if a = 0x2C04 then
    some (pack [(0, b2n t.dieWarn), (1, b2n t.dieLimit), (2, b2n t.pdieWarn), (3, b2n t.pdieLimit), (4, b2n t.dieRise),
      (5, b2n (t.rings.any fun r => r.rise)), (16, (~~~t.failed).toNat)])
  else if a = 0x2C08 then some (pack [(0, sat 6 t.kThr), (8, sat 4 t.skip)])
  else if a = 0x2C0C then some (BitVec.ofNat 32 (fld (s.per src).sensSel 3 0))
  else if a = 0x2C10 then
    let i := fld (s.per src).sensSel 3 0
    some (pack [(0, tempField (t.sensors.getD i 0)), (16, b2n (t.failed.getLsbD i))])
  else if a = 0x2C14 then some t.ntcCfg
  else if a = 0x2C18 then some t.ntcMap0
  else if a = 0x2C1C then some t.ntcMap1
  else if inArr a 0x2C20 8 then
    let n := t.ntcs.getD (arrIx a 0x2C20) {}
    some (pack [(0, tempField n.t), (16, b2n n.failed), (17, b2n n.used)])
  else if a = 0x2C40 then some (pack [(0, sat 8 t.dieUp), (8, sat 8 t.dieDown), (16, sat 8 t.riseX), (24, sat 8 t.pdieX)])
  else if a = 0x2C44 then some (BitVec.ofNat 32 (sat 17 (s.rings.cells.filter fun q => q.2.excluded).length))
  else if a = 0x2C48 then some 0
  else if a = 0x2C4C then
    some (pack [(0, t.trimCode.toNat), (8, t.trimRejected.toNat), (16, b2n t.trimBusy), (17, b2n t.trimPending), (30, b2n (!t.trimBusy)),
      (31, b2n (!t.trimBusy && t.trimFresh))])
  else if a = 0x2C50 then some (pack [(0, tempField t.tAtRun), (16, sat 16 ((s.opSeconds - t.trimAt) / 3600))])
  else if inArr a 0x2D00 64 then
    let k := arrIx a 0x2D00
    let r := t.rings.getD k {}
    some (pack [(0, tempField r.t), (16, r.source % 4), (18, b2n r.rise), (20, sfield 12 (clampI (-2048) 2047 (t.ringRate k)))])
  else none

/-- What a consuming read of that block does. -/
def State.touchTherm (s : State) (a : Nat) : State :=
  if a = 0x2C40 then s.onTherm fun t => { t with dieUp := 0, dieDown := 0, riseX := 0, pdieX := 0 }
  else if a = 0x2C4C then s.onTherm fun t => { t with trimFresh := t.trimFresh && t.trimBusy }
  else s

/-- THERM_NTC_CFG and THERM_NTC_MAP are written by the service port only (R449). -/
def deniedTherm (src : Source) (a : Nat) : Bool := !isService src && inArr a 0x2C14 3

/-- A write to that block; a RATIO_PU of 0 stores 1. -/
def State.writeTherm (s : State) (src : Source) (a : Nat) (w : Word) : WriteAnswer :=
  if a = 0x2C0C then took (s.onPer src fun p => { p with sensSel := BitVec.ofNat 32 (fld w 3 0) })
  else if a = 0x2C14 then
    took (s.onTherm fun t => { t with ntcCfg := pack [(0, clampN 2000 6000 (fld w 15 0)), (16, max 1 (fld w 23 16))] })
  else if a = 0x2C18 then took (s.onTherm fun t => { t with ntcMap0 := w &&& 0xBFBFBFBF })
  else if a = 0x2C1C then took (s.onTherm fun t => { t with ntcMap1 := w &&& 0xBFBFBFBF })
  else if a = 0x2C48 then took (if fld w 0 0 = 1 then s.askTrim else s)
  else took s

/-! ### Safety (R404): status only -/

/-- SAF_STATUS.FUNC: the function in force; SLO while its outputs are in force before any cause (R375, R404). -/
def Saf.funcField (f : Saf) : Nat := match f.func with | some x => x.code | none => if f.sloOut then 2 else 0

/-- ACK_READY: every active cause meets its reset condition; 0 with none active (R376, R404). -/
def State.ackReady (s : State) : Bool :=
  s.saf.causes != 0 && allCauses.all fun c => (s.saf.cause c).isNone || s.resetHolds c

/-- A register of the Safety block. -/
def State.readSaf (s : State) (a : Nat) : Option Word :=
  let f := s.saf
  let p := f.params
  if a = 0x3000 then
    some (pack [(0, f.funcField), (2, f.causes), (8, b2n f.fadeDone), (9, b2n s.ackReady), (10, b2n f.drvEnA), (11, b2n f.drvEnB),
      (12, b2n f.vledDis), (13, b2n f.wdgArmed), (14, b2n f.selftestOk)])
  else if a = 0x3004 then
    some (pack [(0, b2n f.inputA.raw0), (1, b2n f.inputA.raw1), (2, b2n f.inputB.raw0), (3, b2n f.inputB.raw1), (4, b2n f.inputA.filt0),
      (5, b2n f.inputA.filt1), (6, b2n f.inputB.filt0), (7, b2n f.inputB.filt1), (8, f.inputState .a), (10, f.inputState .b),
      (16, sat 8 f.tpFailCount), (24, sat 8 f.longPress)])
  else if a = 0x3008 then
    some (pack [(0, f.straps.toNat), (8, sat 4 p.filterMs), (12, b2n p.tpEn), (16, sat 6 p.ssgLevel), (22, p.wdgFunc.code), (24, sat 8 p.ageTolMs)])
  else if a = 0x300C then some (pack [(0, sat 16 p.fadeMs), (16, sat 16 p.discMs)])
  else if a = 0x3010 then some (pack [(0, sat 16 p.wdgMs), (16, sat 16 f.sinceMs)])
  else if a = 0x3014 then some p.masterConn
  else if a = 0x3018 then some p.ownConn
  else if a = 0x301C then some p.pcrc
  else if a = 0x3020 then
    some (pack [(0, sat 8 f.ceiling), (8, sat 8 (if s.rings.cairnOn then s.rings.cairnLevel else p.ssgLevel)),
      (16, if f.fading then sat 16 (p.fadeMs - f.fadeTick) else 0)])
  else if a = 0x3024 then some (pack [(0, sat 8 f.rxOk), (8, sat 8 f.crcErrs), (16, sat 8 f.seqErrs), (24, sat 8 f.ageErrs)])
  else if a = 0x3028 then some (pack [(0, f.demandFrom.toNat), (12, f.demandFunc % 4), (16, sat 16 f.demandsRx)])
  else if a = 0x302C then some (pack [(0, sat 8 f.xcompare), (8, sat 8 f.outFails), (16, sat 8 f.wdgTrips), (24, sat 8 f.ackRefused)])
  else none

/-- What a consuming read of that block does. -/
def State.touchSaf (s : State) (a : Nat) : State :=
  if a = 0x3004 then s.onSaf fun f => { f with tpFailCount := 0, longPress := 0 }
  else if a = 0x3024 then s.onSaf fun f => { f with rxOk := 0, crcErrs := 0, seqErrs := 0, ageErrs := 0 }
  else if a = 0x3028 then s.onSaf fun f => { f with demandsRx := 0 }
  else if a = 0x302C then s.onSaf fun f => { f with xcompare := 0, outFails := 0, wdgTrips := 0, ackRefused := 0 }
  else s

/-! ### Ageing (R209) -/

/-- AGE_CTRL. -/
def Age.ctrl (a : Age) : Nat := b2n a.ledgerEn + 2 * b2n a.planEn + 4 * b2n a.avsEn

/-- A register of the Ageing block. -/
def State.readAge (s : State) (a : Nat) : Option Word :=
  let g := s.age
  if a = 0x3400 then some (BitVec.ofNat 32 g.ctrl)
  else if a = 0x3404 then
    some (pack [(0, g.code.toNat), (8, b2n g.half), (9, b2n g.busy), (30, b2n (!g.busy)), (31, b2n (!g.busy && g.fresh))])
  else if a = 0x3408 then some g.gen
  else if a = 0x340C then some (BitVec.ofNat 32 (sat 32 s.opHours))
  else if a = 0x3410 then some (pack [(0, sat 16 g.samples), (16, sat 16 g.skipped)])
  else if a = 0x3414 then
    some (pack [(0, b2n g.modelOk), (1, b2n g.ledgerOk), (16, sfield 8 (g.model.tRef.tdiv 16)), (24, sat 8 ((g.model.dbl + 8) / 16))])
  else if a = 0x3418 then some (pack [(0, sat 16 (g.level 0)), (16, sat 16 (g.level 1))])
  else if a = 0x341C then some (pack [(0, sat 16 (g.level 2)), (16, g.exclude % 4096)])
  else if a = 0x3420 then some (pack [(0, sat 16 (g.applied.getD 0 0)), (16, sat 16 (g.applied.getD 1 0))])
  else if a = 0x3424 then some (pack [(0, sat 16 (g.applied.getD 2 0))])
  else if inArr a 0x3428 3 then
    let i := arrIx a 0x3428
    some (pack [(0, sat 20 (g.horizon.getD i 0)), (31, b2n (g.horizonOk.getD i false))])
  else if a = 0x3434 then some (pack [(0, g.exhausted.toNat), (3, b2n g.low), (16, sat 16 g.reserveMin)])
  else if a = 0x3438 then some (pack [(0, g.avsAddr % 128), (8, g.avsExp % 16), (16, sat 12 g.vcoreMv)])
  else if a = 0x343C then some (pack [(0, sat 12 g.avsVmin), (16, sat 12 g.avsVmax)])
  else if a = 0x3440 then let m := g.margin s.time.local_; some (pack [(0, sat 10 m.1), (10, m.2 % 8), (16, sat 16 g.stepsUp)])
  else if a = 0x3444 then some (pack [(0, b2n g.memSet), (1, b2n g.nextSet), (8, sat 8 g.eyeMin)])
  else if a = 0x3448 then some (pack [(0, g.startA % 4), (2, g.startB % 4), (8, sat 8 g.laneA), (16, sat 8 g.laneB)])
  else if a = 0x344C then some (pack [(0, sat 16 g.refreshed), (16, sat 8 g.intervalH)])
  else none

/-- What a consuming read of that block does. -/
def State.touchAge (s : State) (a : Nat) : State :=
  if a = 0x3404 then s.onAge fun g => { g with fresh := g.fresh && g.busy }
  else if a = 0x3410 then s.onAge fun g => { g with samples := 0, skipped := 0 }
  else if a = 0x3440 then s.onAge fun g => { g with stepsUp := 0 }
  else if a = 0x344C then s.onAge fun g => { g with refreshed := 0 }
  else s

/-- A write that a WALL port may not make (R200, R209, R535): AGE_LEVEL, AGE_LEVEL_B, AGE_AVS and AGE_AVS_LIM, and AGE_CTRL when it
changes an enable or sets CLR_LANE_DERATE (AGE_AVS whatever it writes: DESIGN CHOICE, log entry 94). -/
def State.deniedAge (s : State) (src : Source) (a : Nat) (w : Word) : Bool :=
  !isService src && (a == 0x3418 || a == 0x341C || a == 0x3438 || a == 0x343C
    || (a == 0x3400 && (fld w 2 0 != s.age.ctrl || fld w 5 5 == 1)))

/-- A level override as it is stored (R200): 0 removes it, any other value the nearer bound of 0x4000 to 0x8000. -/
def levelStored (v : Nat) : Nat := if v = 0 then 0 else clampN 0x4000 0x8000 v

/-- Both start rates restored (R205); they are settings, so a settings store follows (R457). -/
def State.clrLaneDerate (s : State) : State := (s.onAge fun g => { g with startA := 0, startB := 0 }).startSettings

/-- AGE_CTRL written: the enables, then the actions (R186, R196, R205, R209). -/
def State.writeAgeCtrl (s : State) (w : Word) : State :=
  let s1 := s.onAge fun g => { g with ledgerEn := fld w 0 0 == 1, planEn := fld w 1 1 == 1, avsEn := fld w 2 2 == 1 }
  let s2 := if fld w 3 3 = 1 then s1.storeLedger else s1
  let s3 := if fld w 4 4 = 1 then s2.planPass false else s2
  if fld w 5 5 = 1 then s3.clrLaneDerate else s3

/-- A write to that block. -/
def State.writeAge (s : State) (a : Nat) (w : Word) : WriteAnswer :=
  if a = 0x3400 then took (s.writeAgeCtrl w)
  else if a = 0x3418 then
    took (s.onAge fun g => { g with ovr := upd (upd g.ovr 0 fun _ => levelStored (fld w 15 0)) 1 fun _ => levelStored (fld w 31 16) })
  else if a = 0x341C then
    took (s.onAge fun g => { g with ovr := upd g.ovr 2 fun _ => levelStored (fld w 15 0), exclude := fld w 27 16 })
  else if a = 0x3438 then took (s.onAge fun g => { g with avsAddr := fld w 6 0, avsExp := clampN 8 15 (fld w 11 8) })
  else if a = 0x343C then
    let v := clampN 700 850 (fld w 27 16)
    took (s.onAge fun g => { g with avsVmax := v, avsVmin := clampN 700 v (fld w 11 0) })
  else took s

end Sys2Proof.Machine
end

