-- ==== Sys2Proof/Machine/RegsNvm.lean ====
section
/-!
DEFINITION. Sys2Proof/Machine/RegsNvm.lean: the registers of the Ward and the NVM and update blocks (R371, R474).
-/

namespace Sys2Proof.Machine

/-! ### Ward (R371) -/

/-- The slot that a source selects. -/
def State.selSlot (s : State) (src : Source) : Option KeySlot := s.keySlot (fld (s.per src).slotSel 7 0)

/-- A register of the Ward block. -/
def State.readWard (s : State) (src : Source) (a : Nat) : Option Word :=
  let w := s.ward
  if a = 0x3800 then
    some (pack [(0, b2n w.owned), (1, b2n w.session.isSome), (2, b2n w.debugOpen), (3, b2n (s.unitFenced 3)), (4, w.policy.toNat)])
  else if inArr a 0x3804 4 then some ((w.engineId >>> (32 * arrIx a 0x3804)).truncate 32)
  else if inArr a 0x3814 4 then some ((w.ownerId >>> (32 * arrIx a 0x3814)).truncate 32)
  else if a = 0x3824 then some (match w.session with | some x => x.no | none => 0)
  else if a = 0x3828 then some w.arbFw
  else if a = 0x382C then some (pack [(0, sat 16 w.sealOpenings), (16, sat 16 w.debugUnlocks)])
  else if a = 0x3830 then some (BitVec.ofNat 32 (sat 16 w.enrollCount))
  else if inArr a 0x3840 17 then some 0
  else if a = 0x3884 then some (pack [(0, w.keyShown.1.toNat), (8, w.keyShown.2 % 256), (30, b2n (!w.keyBusy)), (31, b2n w.keyFresh)])
  else if a = 0x3888 then some (BitVec.ofNat 32 (fld (s.per src).slotSel 7 0))
  else if a = 0x388C then some (match s.selSlot src with | none => 0 | some k => if k.gmac then 2 else 1)
  else if a = 0x3890 then some (match s.selSlot src with | none => 0 | some k => k.gen)
  else if a = 0x3894 then some (pack [(0, sat 16 w.tagFails), (16, sat 16 w.replays)])
  else if a = 0x3898 then some (BitVec.ofNat 32 (sat 12 w.intervalS))
  else if a = 0x389C then some w.newestNo
  else if a = 0x38A0 then some w.oldestNo
  else none

/-- What a consuming read of that block does. -/
def State.touchWard (s : State) (a : Nat) : State :=
  if a = 0x3884 then s.onWard fun w => { w with keyFresh := false }
  else if a = 0x3894 then s.onWard fun w => { w with tagFails := 0, replays := 0 }
  else s

/-- A write to that block. -/
def State.writeWard (s : State) (src : Source) (a : Nat) (w : Word) : WriteAnswer :=
  if inArr a 0x3840 15 then took (s.onWard fun x => { x with blob := upd x.blob (arrIx a 0x3840) fun _ => w })
  else if a = 0x387C then took (s.onWard fun x => { x with keyGen := w })
  else if a = 0x3880 then took (s.keyLoad w)
  else if a = 0x3888 then took (s.onPer src fun p => { p with slotSel := BitVec.ofNat 32 (fld w 7 0) })
  else if a = 0x3898 then took (s.onWard fun x => { x with intervalS := clampN 1 3600 (fld w 11 0) })
  else took s

/-! ### NVM and update (R474) -/

/-- PHASE (R474). -/
def UpdPhase.code : UpdPhase → Nat
  | .idle => 0 | .erasing => 1 | .receiving => 2 | .verifying => 3 | .staged => 4 | .failed => 5

/-- PHASE is 1 to 3. -/
def UpdPhase.runs (p : UpdPhase) : Bool := p == .erasing || p == .receiving || p == .verifying

/-- NVM_STATUS.BUSY: a store, journal replay or erase runs. -/
def State.nvmBusy (s : State) : Bool :=
  s.nvm.working || s.nvm.phase == .erasing

/-- Seconds left on the trial timer (R467, R474). -/
def State.confirmLeft (s : State) : Nat :=
  if s.nvm.trial then s.nvm.confirmMin * 60 - (s.time.local_ - s.nvm.bootAt) / 65536 / 1000000000 else 0

/-- A word of the log entry that a source selects; an index beyond the entries held reads an erased entry, as zeros. -/
def State.logWord (s : State) (src : Source) (m : Nat) : Word :=
  match s.nvm.log[fld (s.per src).logSel 15 0]? with
  | some e => BitVec.ofNat 32 (leAt e.bytes (4 * m) 4)
  | none => 0

/-- A register of the NVM and update block. -/
def State.readNvm (s : State) (src : Source) (a : Nat) : Option Word :=
  let v := s.nvm
  if a = 0x3C00 then some (pack [(0, b2n (s.unitFenced 9)), (1, b2n s.nvmBusy), (16, sat 16 v.eccCorr)])
  else if a = 0x3C04 then
    some (pack [(0, v.stCode.toNat), (8, v.stKind % 4), (30, b2n v.stValid), (31, b2n (v.stValid && v.stFresh))])
  else if a = 0x3C08 then
    some (pack [(0, b2n v.runSlot), (1, s.bootRec.slot0.code), (4, s.bootRec.slot1.code), (7, b2n s.bootRec.areaL), (8, b2n v.trial),
      (9, b2n v.migrated)])
  else if a = 0x3C0C then some v.version
  else if a = 0x3C10 then some (pack [(0, sat 16 s.formatL), (16, sat 16 v.formatUsed)])
  else if a = 0x3C14 then some (pack [(1, b2n v.autoConfirm), (8, sat 8 v.confirmMin), (16, sat 16 v.holdS)])
  else if a = 0x3C18 then
    some (pack [(0, v.phase.code), (8, v.updCode.toNat), (30, b2n (!v.phase.runs)), (31, b2n (!v.phase.runs && v.updFresh))])
  else if a = 0x3C1C then some v.nextOffset
  else if a = 0x3C20 then some v.nextSeq
  else if a = 0x3C24 then some 0
  else if a = 0x3C28 then some (BitVec.ofNat 32 (sat 16 v.drops))
  else if a = 0x3C2C then some (BitVec.ofNat 32 (sat 16 s.confirmLeft))
  else if a = 0x3C30 then some 0
  else if a = 0x3C34 then some v.cairnCrc
  else if a = 0x3C38 then some 0
  else if a = 0x3C3C then
    some (pack [(0, b2n v.planeOk), (8, v.cairnCode.toNat), (30, b2n v.cairnValid), (31, b2n (v.cairnValid && v.cairnFresh))])
  else if inArr a 0x3C40 5 then
    let n := arrIx a 0x3C40
    some (pack [(0, (v.pal.getD (2 * n) 0).toNat), (16, (v.pal.getD (2 * n + 1) 0).toNat)])
  else if a = 0x3C60 then some (BitVec.ofNat 32 (fld (s.per src).logSel 15 0))
  else if inArr a 0x3C64 8 then some (s.logWord src (arrIx a 0x3C64))
  else none

/-- What a consuming read of that block does. -/
def State.touchNvm (s : State) (a : Nat) : State :=
  if a = 0x3C00 then s.onNvm fun v => { v with eccCorr := 0 }
  else if a = 0x3C04 then s.onNvm fun v => { v with stFresh := v.stFresh && !v.stValid }
  else if a = 0x3C18 then s.onNvm fun v => { v with updFresh := v.updFresh && v.phase.runs }
  else if a = 0x3C28 then s.onNvm fun v => { v with drops := 0 }
  else if a = 0x3C3C then s.onNvm fun v => { v with cairnFresh := v.cairnFresh && !v.cairnValid }
  else s

/-- The registers of a Cairn write (R469, R474). -/
def cairnReg (a : Nat) : Bool := inArr a 0x3C30 3 || inArr a 0x3C40 5

/-- A write that a WALL port may not make: the Cairn write, and NVM_UPD_DATA (R462, R474). -/
def deniedNvm (src : Source) (a : Nat) : Bool := !isService src && (a == 0x3C24 || cairnReg a)

/-- NVM_UPD_CTRL written (R466, R467): a CONFIRM before the other conditions hold is refused with NOT_READY; CONFIRM_MIN also goes to
the boot control record (R464). -/
def State.writeUpdCtrl (s : State) (w : Word) : WriteAnswer :=
  if fld w 0 0 = 1 && !s.mayConfirm then (stNotReady, s)
  else
    let n := clampN 1 255 (fld w 15 8)
    let s1 := s.onNvm fun v =>
      { v with autoConfirm := fld w 1 1 == 1, confirmMin := n, holdS := clampN 1 3600 (fld w 31 16)
               confirmAsked := v.confirmAsked || fld w 0 0 == 1 }
    took (if s.bootRec.confirmMin = n then s1 else s1.writeBoot fun b => { b with confirmMin := n })

/-- One body word staged at NEXT_OFFSET (R462). -/
def State.stageWord (s : State) (w : Word) : State := (s.stage s.nvm.nextOffset.toNat (leBytes 4 w.toNat)).2

/-- NVM_CAIRN_CTRL written (R469): START, then COMMIT, which is BUSY while a commit runs. -/
def State.writeCairnCtrl (s : State) (w : Word) : WriteAnswer :=
  let s1 := if fld w 0 0 = 1 then s.cairnStart else s
  if fld w 1 1 = 1 then (if s.nvm.journal.isSome then (stBusy, s) else took s1.cairnCommit) else took s1

/-- A write to that block; the Cairn write only in SERVICE (R474). -/
def State.writeNvm (s : State) (src : Source) (a : Nat) (w : Word) : WriteAnswer :=
  if cairnReg a && s.eng.st != .service then (stRefusedState, s)
  else if a = 0x3C14 then s.writeUpdCtrl w
  else if a = 0x3C24 then took (s.stageWord w)
  else if a = 0x3C30 then s.writeCairnCtrl w
  else if a = 0x3C34 then took (s.onNvm fun v => { v with cairnCrc := w })
  else if a = 0x3C38 then took (s.cairnData w)
  else if inArr a 0x3C40 5 then
    let n := arrIx a 0x3C40
    took (s.onNvm fun v => { v with pal := upd (upd v.pal (2 * n) fun _ => w.truncate 16) (2 * n + 1) fun _ => (w >>> 16).truncate 16 })
  else if a = 0x3C60 then took (s.onPer src fun p => { p with logSel := BitVec.ofNat 32 (fld w 15 0) })
  else took s

end Sys2Proof.Machine
end

