-- ==== Sys2Proof/Machine/RegsMem.lean ====
section
/-!
DEFINITION. Sys2Proof/Machine/RegsMem.lean: the address map outside the registers (R511, R512): program and data memory, the tile map,
the stream context table, the layer descriptors, the fault records and the DRAM window.
-/

namespace Sys2Proof.Machine

/-- The rows of the address map (R511). -/
inductive MapRow where
  | reg | prog | dmem | tileMap | ctx | layers | faults | dram | none
  deriving DecidableEq, Repr

/-- The end of installed DRAM (R512). -/
def State.dramEnd (s : State) : Nat := 0x80000000 + s.eng.dramGib * 2 ^ 30

/-- The row in which an address lies (R511). -/
def State.mapRow (s : State) (a : Nat) : MapRow :=
  if a < 0x4000 then .reg
  else if decide (0x10000 ≤ a) && decide (a < 0x20000) then .prog
  else if decide (0x20000 ≤ a) && decide (a < 0x24000) then .dmem
  else if decide (0x30000 ≤ a) && decide (a < 0x40000) then .tileMap
  else if decide (0x40000 ≤ a) && decide (a < 0x44000) then .ctx
  else if decide (0x50000 ≤ a) && decide (a < 0x50800) then .layers
  else if decide (0x60000 ≤ a) && decide (a < 0x60400) then .faults
  else if decide (0x80000000 ≤ a) && decide (a < s.dramEnd) then .dram
  else .none

/-! ### Stream contexts (R310, R311) -/

/-- Word `o` of a context (R310, R371). -/
def Ctx.word (c : Ctx) (o : Nat) : Word :=
  if o = 0 then c.w0
  else if o = 1 then c.base
  else if o = 2 then c.stride
  else if o = 4 then c.lastSeq
  else if o = 5 then c.window
  else if o = 6 then c.keyGen
  else if o = 7 then BitVec.ofNat 32 (sat 16 c.replays)
  else if o = 8 then c.newest
  else if o = 9 then BitVec.ofNat 32 (c.newestBuf % 4)
  else if o = 10 then c.landed
  else if o = 11 then pack [(0, sat 16 c.authFails), (16, sat 16 c.drops)]
  else 0

/-- A context with word `o` written, reserved bits zero; offset 0x0C is reserved (R310). -/
def Ctx.setWord (c : Ctx) (o : Nat) (w : Word) : Ctx :=
  if o = 0 then { c with w0 := w &&& 0x0FFFFF1F } else if o = 1 then { c with base := w } else if o = 2 then { c with stride := w } else c

/-- ENABLE, NBUF and IDLE_PLANE (R310). -/
def Ctx.enable (c : Ctx) : Bool := c.w0.getLsbD 0
def Ctx.nbuf (c : Ctx) : Nat := fld c.w0 3 1
def Ctx.idle (c : Ctx) : Bool := c.w0.getLsbD 4

/-- A layer of the active or the pending configuration references context `n`: it is enabled and names it (R311). -/
def State.ctxUsed (s : State) (n : Nat) : Bool :=
  let names := fun (d : LayerWords) => d.enable && decide (d.context = n)
  (s.comp.layers.any fun l => names l.active) || (match s.comp.pending with | some p => p.layers.any names | none => false)

/-- Row 1 of R311 for one context: `c` as it is, `d` as the write leaves it. -/
def State.ctxBusy (s : State) (n : Nat) (c d : Ctx) : Bool :=
  s.ctxUsed n && (c.nbuf != d.nbuf || c.idle != d.idle || c.base != d.base || c.stride != d.stride || (c.enable && !d.enable))

/-- STRIDE is a multiple of 4 KiB, 4 KiB to 64 MiB (R310). -/
def strideOk (w : Word) : Bool := w.toNat % 4096 == 0 && decide (4096 ≤ w.toNat ∧ w.toNat ≤ 67108864)

/-- Row 2 of R311: STRIDE is tested when it is written and whenever the context ends up enabled with buffers of its own. -/
def Ctx.badLen (d : Ctx) (stride : Bool) : Bool :=
  d.nbuf < 2 || 4 < d.nbuf || d.base.toNat % 4096 != 0 || ((stride || (d.enable && !d.idle)) && !strideOk d.stride)

/-- The addresses of a context’s own buffers, from start up to but not including end; empty for a context without any. -/
def Ctx.range (d : Ctx) : Nat × Nat := (d.base.toNat, if d.enable && !d.idle then d.base.toNat + d.nbuf * d.stride.toNat else d.base.toNat)

/-- Row 3 of R311 for context `n` of a table. -/
def State.ctxBadAddr (s : State) (t : List Ctx) (n : Nat) : Bool :=
  let d := t.getD n {}
  let r := d.range
  decide (r.1 < r.2) && (decide (r.1 < 0x83000000) || decide (s.dramEnd < r.2)
    || (List.range 256).any fun m =>
      let q := (t.getD m {}).range
      m != n && decide (q.1 < q.2) && decide (r.1 < q.2) && decide (q.1 < r.2))

/-- Words written to the context table (R311), each by its word index in the table: checked as a whole, then written; a frame in
progress on a context whose first 16 bytes are written is abandoned; a change of KEY_SLOT resets the replay window (R356); a change of NBUF,
BUF_BASE or STRIDE leaves no buffer with a complete frame, since no accepted payload has written the bytes there (R45; DEDUCED, log entry
90). -/
def State.writeCtx (s : State) (l : List (Nat × Word)) : WriteAnswer :=
  let touched := (List.range 256).filter fun n => l.any fun p => decide (p.1 / 16 = n) && decide (p.1 % 16 < 4)
  let t := l.foldl (fun t p => upd t (p.1 / 16) fun c => c.setWord (p.1 % 16) p.2) s.ctxs
  if touched.any fun n => s.ctxBusy n (s.ctx n) (t.getD n {}) then (stBusy, s)
  else if touched.any fun n => (t.getD n {}).badLen (l.any fun p => decide (p.1 = 16 * n + 2)) then (stBadLen, s)
  else if touched.any fun n => s.ctxBadAddr t n then (stBadAddr, s)
  else
    let s1 := touched.foldl (fun s n => s.abandonFrame n) s
    took (touched.foldl (fun s n => s.onCtx n fun c =>
      let d := t.getD n {}
      let e := { c with w0 := d.w0, base := d.base, stride := d.stride, any := c.any && fld d.w0 15 8 == fld c.w0 15 8 }
      if fld d.w0 3 1 == fld c.w0 3 1 && d.base == c.base && d.stride == c.stride then e
      else { e with hasNewest := false, bufs := e.bufs.map fun b => { b with complete := false } }) s1)

/-! ### Layers (R34) -/

/-- LSTATE (R34). -/
def LState.code : LState → Nat
  | .off => 0 | .showing => 1 | .holding => 2 | .transparent => 3

/-- Word `o` of a layer’s 128 bytes; offsets 0x4C to 0x7F read zero. -/
def Layer.word (l : Layer) (o : Nat) : Word :=
  if o < 8 then l.shadow.word o
  else if o < 16 then l.active.word (o - 8)
  else if o = 16 then
    pack [(0, l.lstate.code), (2, l.shownBuf % 4), (4, sat 4 l.hold), (8, sat 4 l.since), (12, b2n l.culled), (13, b2n l.late),
      (16, sat 16 l.lateTotal)]
  else if o = 17 then l.shownSeq
  else if o = 18 then pack [(0, sat 16 l.costMbps), (16, sat 16 l.costPx)]
  else 0

/-! ### Reading and writing -/

/-- Word `i` of the fault records (R409, R410). -/
def State.faultWord (s : State) (i : Nat) : Word :=
  match s.flt.slots.getD (i / 4) none with
  | some r => (r.words s.flt).getD (i % 4) 0
  | none => 0

/-- A source may read the word at an aligned address outside the registers (R226, R511). -/
def State.memReadable (s : State) (src : Source) (a : Nat) : Bool :=
  match s.mapRow a with
  | .reg => false
  | .prog => src != .tumbler
  | .dmem | .tileMap | .ctx | .layers | .faults => true
  | .dram => isService src
  | .none => false

/-- The word at an aligned address outside the registers. -/
def State.readMem (s : State) (a : Nat) : Word :=
  match s.mapRow a with
  | .reg | .none => 0
  | .prog => s.progWord ((a - 0x10000) / 4)
  | .dmem => s.dmemWord ((a - 0x20000) / 4)
  | .tileMap => ((s.mapEntry ((a - 0x30000) / 16)) >>> (32 * ((a - 0x30000) % 16 / 4))).truncate 32
  | .ctx => (s.ctx ((a - 0x40000) / 64)).word ((a - 0x40000) % 64 / 4)
  | .layers => (s.layer ((a - 0x50000) / 128)).word ((a - 0x50000) % 128 / 4)
  | .faults => s.faultWord ((a - 0x60000) / 4)
  | .dram => BitVec.ofNat 32 (ofLe (s.dramBytes (a - 0x80000000) 4))

/-- What a consuming read outside the registers does: AUTH_FAILS and DROPS of a context, and LATE_TOTAL of a layer, clear. -/
def State.touchMem (s : State) (a : Nat) : State :=
  match s.mapRow a with
  | .ctx => if (a - 0x40000) % 64 = 0x2C then s.onCtx ((a - 0x40000) / 64) fun c => { c with authFails := 0, drops := 0 } else s
  | .layers => if (a - 0x50000) % 128 = 0x40 then s.onLayer ((a - 0x50000) / 128) fun l => { l with lateTotal := 0 } else s
  | _ => s

/-- A source may write there (R226, R251, R511). -/
def State.memWritable (s : State) (src : Source) (a : Nat) : Bool :=
  match s.mapRow a with
  | .prog | .ctx => src != .tumbler
  | .dmem | .layers => true
  | .reg | .tileMap | .faults | .dram | .none => false

/-- A layer’s shadow word written (R34); its other words are read-only. -/
def State.writeLayer (s : State) (i o : Nat) (w : Word) : State :=
  if o < 8 then s.onLayer i fun l => { l with shadow := l.shadow.setWord o w } else s

/-- A word written outside the registers; program memory only while all threads are HALTED (R218). -/
def State.writeMem (s : State) (a : Nat) (w : Word) : WriteAnswer :=
  match s.mapRow a with
  | .prog =>
    if s.allHalted then took (s.onTum fun m => { m with prog := sset 0 ((a - 0x10000) / 4) w m.prog }) else (stRefusedState, s)
  | .dmem => took (s.setDmem ((a - 0x20000) / 4) w)
  | .ctx => s.writeCtx [((a - 0x40000) / 4, w)]
  | .layers => took (s.writeLayer ((a - 0x50000) / 128) ((a - 0x50000) % 128 / 4) w)
  | .reg | .tileMap | .faults | .dram | .none => (stBadAddr, s)

end Sys2Proof.Machine
end

