-- ==== Sys2Proof/Machine/Registers.lean ====
section
/-!
DEFINITION. Sys2Proof/Machine/Registers.lean: every access to the address map (R7, R10, R226, R240, R511 to R516, R535): what a source
may reach, what a word reads, what a read does, what a write does, and the commands that are single accesses.
-/

namespace Sys2Proof.Machine

/-! ### The registers -/

/-- A register as it stands, none at a reserved offset. -/
def State.readReg (s : State) (src : Source) (a : Nat) : Option Word :=
  match a / 0x400 with
  | 0 => s.readId a
  | 1 => s.readClk a
  | 2 => s.readFlt a
  | 3 => s.readChk src a
  | 4 => s.readLink src .a (a - 0x1000)
  | 5 => s.readLink src .b (a - 0x1400)
  | 6 => s.readTime src a
  | 7 => s.readComp a
  | 8 => s.readCol src a
  | 9 => s.readRing src a
  | 10 => s.readLed src a
  | 11 => s.readTherm src a
  | 12 => s.readSaf a
  | 13 => s.readAge a
  | 14 => s.readWard src a
  | 15 => s.readNvm src a
  | _ => none

/-- What a read of a register does. -/
def State.touchReg (s : State) (src : Source) (a : Nat) (consume : Bool) : State :=
  match a / 0x400 with
  | 0 => if consume then s.touchId a else s
  | 1 => if consume then s.touchClk a else s
  | 2 => s.touchFlt a consume
  | 3 => s.touchChk src a consume
  | 4 => if consume then s.touchLink src .a (a - 0x1000) else s
  | 5 => if consume then s.touchLink src .b (a - 0x1400) else s
  | 6 => s.touchTime src a consume
  | 7 => if consume then s.touchComp a else s
  | 8 => if consume then s.touchCol a else s
  | 9 => s.touchRing src a consume
  | 10 => if consume then s.touchLed src a else s
  | 11 => if consume then s.touchTherm a else s
  | 12 => if consume then s.touchSaf a else s
  | 13 => if consume then s.touchAge a else s
  | 14 => if consume then s.touchWard a else s
  | 15 => if consume then s.touchNvm a else s
  | _ => s

/-- A write of a register that its source’s class does not permit (R240, R535). -/
def State.deniedReg (s : State) (src : Source) (a : Nat) (w : Word) : Bool :=
  match a / 0x400 with
  | 2 => deniedFlt src a
  | 4 => deniedLink src (a - 0x1000) w
  | 5 => deniedLink src (a - 0x1400) w
  | 8 => deniedCol src a
  | 9 => deniedRing src a w
  | 10 => s.deniedLed src a w
  | 11 => deniedTherm src a
  | 13 => s.deniedAge src a w
  | 15 => deniedNvm src a
  | _ => false

/-- A register written. While Ward is fenced its block answers FENCED (R248, R417); a block of status registers ignores writes (R7). -/
def State.writeReg (s : State) (src : Source) (a : Nat) (w : Word) : WriteAnswer :=
  match a / 0x400 with
  | 0 => s.writeId a w
  | 2 => s.writeFlt a w
  | 3 => s.writeChk a w
  | 4 => s.writeLink src .a (a - 0x1000) w
  | 5 => s.writeLink src .b (a - 0x1400) w
  | 6 => s.writeTime src a w
  | 7 => s.writeComp a w
  | 8 => s.writeCol src a w
  | 9 => s.writeRing src a w
  | 10 => s.writeLed src a w
  | 11 => s.writeTherm src a w
  | 13 => s.writeAge a w
  | 14 => if s.unitFenced 3 then (stFenced, s) else s.writeWard src a w
  | 15 => s.writeNvm src a w
  | _ => took s

/-- The bits of a register whose value BOOT loads (the reset terms before R515): a JTAG read in BOOT reads them as 0 until then. -/
def bootBits (a : Nat) : Word :=
  if a = 0x2004 then 0xFFFF
  else if inArr a 0x200C 9 then 0x3FFFF
  else if a = 0x2030 || a = 0x2054 || inArr a 0x0880 16 then 0xFFFFFFFF
  else if a = 0x2034 then 0xFFFF
  else if inArr a 0x2500 64 then 0x3FFFFFFF
  else if a = 0x3008 || a = 0x300C || inArr a 0x3014 3 then 0xFFFFFFFF
  else if a = 0x3010 then 0xFFFF
  else if a = 0x3020 then 0xFF00
  else if a = 0x3418 then 0xFFFFFFFF
  else if a = 0x341C then 0xFFFF
  else if a = 0x3800 then 0x31
  else if inArr a 0x3804 8 || a = 0x3828 || a = 0x382C || a = 0x3830 then 0xFFFFFFFF
  else if a = 0x3C08 then 0x1FF
  else if a = 0x3C0C || a = 0x3C10 || inArr a 0x3C40 5 then 0xFFFFFFFF
  else 0

/-! ### The address map -/

/-- A source may read the word at an address (R10, R226, R511). -/
def State.readable (s : State) (src : Source) (a : Nat) : Bool :=
  a % 4 == 0 && (if a < 0x4000 then (s.readReg src a).isSome else s.memReadable src a)

/-- The word that a read returns (R515 for JTAG in BOOT). -/
def State.readAt (s : State) (src : Source) (a : Nat) : Word :=
  if a < 0x4000 then
    let v := (s.readReg src a).getD 0
    if s.eng.st == .boot && !s.eng.loaded then v &&& ~~~(bootBits a) else v
  else s.readMem a

/-- What the read does. -/
def State.touchAt (s : State) (src : Source) (a : Nat) (consume : Bool) : State :=
  if a < 0x4000 then s.touchReg src a consume else if consume then s.touchMem a else s

/-- A source may write the word at an address (R10, R226, R511): Tumbler writes neither the Ward nor the NVM and update block. -/
def State.writable (s : State) (src : Source) (a : Nat) : Bool :=
  a % 4 == 0 && (if a < 0x4000 then (s.readReg src a).isSome && !(src == .tumbler && decide (0x3800 ≤ a)) else s.memWritable src a)

/-- The write is denied to the source’s class. -/
def State.deniedAt (s : State) (src : Source) (a : Nat) (w : Word) : Bool :=
  decide (a < 0x4000) && s.writable src a && s.deniedReg src a w

/-- One word written at an address that may be written. -/
def State.writeAt (s : State) (src : Source) (a : Nat) (w : Word) : WriteAnswer :=
  if a < 0x4000 then s.writeReg src a w else s.writeMem a w

/-! ### Ranges of words (R251, R513) -/

/-- Word addresses from `a`. -/
def wordAddrs (a n : Nat) : List Nat := (List.range n).map fun i => a + 4 * i

/-- A range lies within one row of the address map (R251). -/
def State.oneRow (s : State) (a n : Nat) : Bool := (wordAddrs a n).all fun x => s.mapRow x == s.mapRow a

/-- The words of an accepted READ, in ascending order, and what the reads do (R513). -/
def State.readWords (s : State) (src : Source) (consume : Bool) : List Nat → List Word × State
  | [] => ([], s)
  | a :: l => let r := (s.touchAt src a consume).readWords src consume l; (s.readAt src a :: r.1, r.2)

/-- Words written in ascending order until one is refused. -/
def State.writeEach (s : State) (src : Source) : List (Nat × Word) → WriteAnswer
  | [] => took s
  | p :: l => let r := s.writeAt src p.1 p.2; if r.1 == stOk then r.2.writeEach src l else r

/-- The words of a WRITE from address `a` (R251, R311): all of them, or none when one is refused. -/
def State.writeWords (s : State) (src : Source) (a : Nat) (ws : List Word) : WriteAnswer :=
  let l := (wordAddrs a ws.length).zip ws
  if !s.oneRow a ws.length || !(l.all fun p => s.writable src p.1) then (stBadAddr, s)
  else if s.mapRow a == .ctx then s.writeCtx (l.map fun p => ((p.1 - 0x40000) / 4, p.2))
  else
    let r := s.writeEach src l
    if r.1 == stOk then r else (r.1, s)

/-! ### Single accesses -/

/-- A source can make accesses at all now: the logic die runs; a WALL port is ACTIVE; the service port is not sealed (R242); JTAG is open
(R240, R346); threads run (R215). No command reaches a register in BOOT (R515). -/
def State.canAccess (s : State) (src : Source) : Bool :=
  match src with
  | .portA => s.running && s.eng.st != .boot && s.active .a
  | .portB => s.running && s.eng.st != .boot && s.active .b
  | .service => s.running && s.eng.st != .boot && !s.pwr.sealHigh
  | .jtag => s.running && s.ward.jtagActs .debug == .debug
  | .tumbler => s.running && s.eng.st != .boot && s.eng.st != .service && !s.unitFenced 5

/-- What the recovery subset and BOOT leave of a single access (R468, R515). -/
def State.accessLegal (s : State) (src : Source) (write : Bool) (a : Nat) : Bool :=
  if s.eng.st == .boot then src == .jtag && !write
  else if s.recovery then isService src && (decide (0x3C00 ≤ a ∧ a < 0x4000) || (!write && decide (a < 0x400)))
  else true

/-- A write of one word, as a command of one word or an STX makes it; the answer shows its status. -/
def State.access (s : State) (src : Source) (a : Nat) (w : Word) : Host.Outcome State Fault Refusal :=
  if !s.canAccess src then .next s
  else if s.deniedAt src a w then done (s.answer src a 0 stDeniedPort)
  else if !s.accessLegal src true a then done (s.answer src a 0 stRefusedState)
  else
    let r := s.writeWords src a [w]
    if r.1 == stOk then done (r.2.answer src a 0 stOk) else done (((s.onFlt fun _ => r.2.flt)).answer src a 0 r.1)

/-- A read of one word; `consume`: it is a tagged READ (R254), as every read by the service port, Tumbler and JTAG consumes. -/
def State.accessRead (s : State) (src : Source) (a : Nat) (consume : Bool) : Host.Outcome State Fault Refusal :=
  if !s.canAccess src then .next s
  else if !s.accessLegal src false a then done (s.answer src a 0 stRefusedState)
  else if !s.readable src a then done (s.answer src a 0 stBadAddr)
  else done ((s.touchAt src a (consume || (src != .portA && src != .portB))).answer src a (s.readAt src a) stOk)

/-- A word with the bits `mask` replaced by `v`. -/
def putBits (w mask v : Word) : Word := (w &&& ~~~mask) ||| v

/-- The base address of a Wall link block. -/
def linkBase (p : Port) : Nat := match p with | .a => 0x1000 | .b => 0x1400

/-- REGISTER_WRITE (R7): a write of any word of the address map by any source. -/
def execRegisterWrite (src : Source) (addr : Word) (w : Word) (s : State) : Host.Outcome State Fault Refusal := s.access src addr.toNat w

/-- REGISTER_READ (R7, R254): a read of any word by any source, JTAG among them. -/
def execRegisterRead (src : Source) (addr : Word) (consume : Bool) (s : State) : Host.Outcome State Fault Refusal :=
  s.accessRead src addr.toNat consume

/-- HOLD_MAX_S (R331): TIME_CFG written. -/
def execHoldMaxS (src : Source) (w : Word) (s : State) : Host.Outcome State Fault Refusal := s.access src 0x1818 w

/-- COMPARE_ARM (R336): TIME_CMP_n_HI written. -/
def execCompareArm (src : Source) (n : Fin 8) (w : Word) (s : State) : Host.Outcome State Fault Refusal :=
  s.access src (0x1884 + 8 * n.val) w

/-- ADC_SNAPSHOT_ARM (R337): TIME_ADC_HI written. -/
def execAdcSnapshotArm (src : Source) (w : Word) (s : State) : Host.Outcome State Fault Refusal := s.access src 0x1878 w

/-- TIME_CAP_SW (R338): CAPTURE set in a write of TIME_CAP_SW. -/
def execTimeCapSw (src : Source) (w : Word) (s : State) : Host.Outcome State Fault Refusal := s.access src 0x1870 (putBits w 1 1)

/-- TIME_CAP_DATA0_READ (R338, R341). -/
def execTimeCapData0Read (src : Source) (consume : Bool) (s : State) : Host.Outcome State Fault Refusal := s.accessRead src 0x1860 consume

/-- TIME_NOW_READ (R341, R516). -/
def execTimeNowRead (src : Source) (s : State) : Host.Outcome State Fault Refusal := s.accessRead src 0x1808 true

/-- TIME_LOCAL_READ (R341, R516). -/
def execTimeLocalRead (src : Source) (s : State) : Host.Outcome State Fault Refusal := s.accessRead src 0x1810 true

/-- COMP_COMMIT (R54). -/
def execCompCommit (src : Source) (w : Word) (s : State) : Host.Outcome State Fault Refusal := s.access src 0x1C10 w

/-- COL_TAKE (R75). -/
def execColTake (src : Source) (w : Word) (s : State) : Host.Outcome State Fault Refusal := s.access src 0x2058 w

/-- COL_ENV_DATA (R90). -/
def execColEnvData (src : Source) (w : Word) (s : State) : Host.Outcome State Fault Refusal := s.access src 0x2048 w

/-- COL_ENV_FILL (R90). -/
def execColEnvFill (src : Source) (w : Word) (s : State) : Host.Outcome State Fault Refusal := s.access src 0x204C w

/-- COL_TF_DATA (R116). -/
def execColTfData (src : Source) (w : Word) (s : State) : Host.Outcome State Fault Refusal := s.access src 0x206C w

/-- VF_SWEEP_START (R144): RING_MEAS written with KIND 1. -/
def execVfSweepStart (src : Source) (w : Word) (s : State) : Host.Outcome State Fault Refusal := s.access src 0x2448 (putBits w 3 1)

/-- OS_SWEEP_START (R144): RING_MEAS written with KIND 2. -/
def execOsSweepStart (src : Source) (w : Word) (s : State) : Host.Outcome State Fault Refusal := s.access src 0x2448 (putBits w 3 2)

/-- SWEEP_STOP (R145): RING_MEAS written with KIND 0. -/
def execSweepStop (src : Source) (w : Word) (s : State) : Host.Outcome State Fault Refusal := s.access src 0x2448 (putBits w 3 0)

/-- CLR_RT_FENCE (R146): RING_CTRL written with CLR_RT_FENCE. -/
def execClrRtFence (src : Source) (w : Word) (s : State) : Host.Outcome State Fault Refusal := s.access src 0x2400 (putBits w 2 2)

/-- STORE_NOW (R186): AGE_CTRL written with STORE_NOW. -/
def execStoreNow (src : Source) (w : Word) (s : State) : Host.Outcome State Fault Refusal := s.access src 0x3400 (putBits w 8 8)

/-- PLAN_NOW (R196): AGE_CTRL written with PLAN_NOW. -/
def execPlanNow (src : Source) (w : Word) (s : State) : Host.Outcome State Fault Refusal := s.access src 0x3400 (putBits w 16 16)

/-- CLR_LANE_DERATE (R205): AGE_CTRL written with CLR_LANE_DERATE. -/
def execClrLaneDerate (src : Source) (w : Word) (s : State) : Host.Outcome State Fault Refusal := s.access src 0x3400 (putBits w 32 32)

/-- TUM_START (R215, R238): TUM_CTRL written. -/
def execTumStart (src : Source) (w : Word) (s : State) : Host.Outcome State Fault Refusal := s.access src 0x0100 w

/-- TUM_HALT (R238): TUM_CTRL written. -/
def execTumHalt (src : Source) (w : Word) (s : State) : Host.Outcome State Fault Refusal := s.access src 0x0100 w

/-- PROG_STORE (R218): TUM_CTRL written with PROG_STORE. -/
def execProgStore (src : Source) (w : Word) (s : State) : Host.Outcome State Fault Refusal := s.access src 0x0100 (putBits w 0x10000 0x10000)

/-- TUM_DB_DATA (R238): the oldest doorbell word read. -/
def execTumDbData (src : Source) (consume : Bool) (s : State) : Host.Outcome State Fault Refusal := s.accessRead src 0x0174 consume

/-- RETRAIN (R281): LNK_CTRL written with RETRAIN. -/
def execRetrain (src : Source) (p : Port) (w : Word) (s : State) : Host.Outcome State Fault Refusal := s.access src (linkBase p) (putBits w 2 2)

/-- CLR_FENCE (R283): LNK_CTRL written with CLR_FENCE. -/
def execClrFence (src : Source) (p : Port) (w : Word) (s : State) : Host.Outcome State Fault Refusal := s.access src (linkBase p) (putBits w 4 4)

/-- PORT_ENABLE (R289): LNK_CTRL written. -/
def execPortEnable (src : Source) (p : Port) (w : Word) (s : State) : Host.Outcome State Fault Refusal := s.access src (linkBase p) w

/-- LNK_EYE (R280): START set in a write of LNK_EYE. -/
def execLnkEye (src : Source) (p : Port) (w : Word) (s : State) : Host.Outcome State Fault Refusal :=
  s.access src (linkBase p + 0x20) (putBits w 1 1)

/-- TEST_EN (R284): LNK_TEST written with TEST_EN. -/
def execTestEn (src : Source) (p : Port) (w : Word) (s : State) : Host.Outcome State Fault Refusal :=
  s.access src (linkBase p + 0x30) (putBits w 1 1)

/-- TEST_EXIT (R284): LNK_TEST written without TEST_EN. -/
def execTestExit (src : Source) (p : Port) (w : Word) (s : State) : Host.Outcome State Fault Refusal :=
  s.access src (linkBase p + 0x30) (putBits w 1 0)

/-- LNK_INJECT (R287). -/
def execLnkInject (src : Source) (p : Port) (w : Word) (s : State) : Host.Outcome State Fault Refusal := s.access src (linkBase p + 0x34) w

/-- NVM_UPD_DATA (R462). -/
def execNvmUpdData (src : Source) (w : Word) (s : State) : Host.Outcome State Fault Refusal := s.access src 0x3C24 w

/-- KEY_LOAD (R356): WARD_KEYLOAD_CTRL written without CLEAR. -/
def execKeyLoad (src : Source) (w : Word) (s : State) : Host.Outcome State Fault Refusal := s.access src 0x3880 (putBits w 0x200 0)

/-- KEY_CLEAR (R356): WARD_KEYLOAD_CTRL written with CLEAR. -/
def execKeyClear (src : Source) (w : Word) (s : State) : Host.Outcome State Fault Refusal := s.access src 0x3880 (putBits w 0x200 0x200)

/-- FLT_INJECT (R422): FLT_INJECT written without CLEAR. -/
def execFltInject (src : Source) (w : Word) (s : State) : Host.Outcome State Fault Refusal := s.access src 0x0830 (putBits w 0x200 0)

/-- FLT_INJECT_CLEAR (R422): FLT_INJECT written with CLEAR. -/
def execFltInjectClear (src : Source) (w : Word) (s : State) : Host.Outcome State Fault Refusal :=
  s.access src 0x0830 (putBits w 0x200 0x200)

/-- CLR_FIRST (R412): FLT_CTRL written with CLR_FIRST. -/
def execClrFirst (src : Source) (w : Word) (s : State) : Host.Outcome State Fault Refusal := s.access src 0x080C (putBits w 1 1)

/-- CHK_START (R426). -/
def execChkStart (src : Source) (u : Fin 4) (w : Word) (s : State) : Host.Outcome State Fault Refusal := s.access src (0x0C10 + 64 * u.val) w

/-- CHK_DATA_B (R427). -/
def execChkDataB (src : Source) (u : Fin 4) (w : Word) (s : State) : Host.Outcome State Fault Refusal := s.access src (0x0C14 + 64 * u.val) w

/-- CHK_DATA_H (R427). -/
def execChkDataH (src : Source) (u : Fin 4) (w : Word) (s : State) : Host.Outcome State Fault Refusal := s.access src (0x0C18 + 64 * u.val) w

/-- CHK_DATA_W (R427). -/
def execChkDataW (src : Source) (u : Fin 4) (w : Word) (s : State) : Host.Outcome State Fault Refusal := s.access src (0x0C1C + 64 * u.val) w

/-- CHK_CLOSE (R428). -/
def execChkClose (src : Source) (u : Fin 4) (w : Word) (s : State) : Host.Outcome State Fault Refusal := s.access src (0x0C20 + 64 * u.val) w

/-- CHK_ALIVE_FEED (R429). -/
def execChkAliveFeed (src : Source) (u : Fin 4) (w : Word) (s : State) : Host.Outcome State Fault Refusal :=
  s.access src (0x0C30 + 64 * u.val) w

/-- CHK_RSTATUS (R428). -/
def execChkRstatus (src : Source) (u : Fin 4) (consume : Bool) (s : State) : Host.Outcome State Fault Refusal :=
  s.accessRead src (0x0C2C + 64 * u.val) consume

/-- RING_SIG_CNT (R141). -/
def execRingSigCnt (src : Source) (consume : Bool) (s : State) : Host.Outcome State Fault Refusal := s.accessRead src 0x2440 consume

/-- THERM_TRIM_CTRL (R445): START set in a write of THERM_TRIM_CTRL. -/
def execThermTrimCtrl (src : Source) (w : Word) (s : State) : Host.Outcome State Fault Refusal := s.access src 0x2C48 (putBits w 1 1)

/-- CONFIRM (R466): NVM_UPD_CTRL written with CONFIRM. -/
def execConfirm (src : Source) (w : Word) (s : State) : Host.Outcome State Fault Refusal := s.access src 0x3C14 (putBits w 1 1)

/-- CAIRN_START (R469): NVM_CAIRN_CTRL written with START. -/
def execCairnStart (src : Source) (w : Word) (s : State) : Host.Outcome State Fault Refusal := s.access src 0x3C30 (putBits w 1 1)

/-- NVM_CAIRN_DATA (R469). -/
def execNvmCairnData (src : Source) (w : Word) (s : State) : Host.Outcome State Fault Refusal := s.access src 0x3C38 w

/-- CAIRN_COMMIT (R469): NVM_CAIRN_CTRL written with COMMIT. -/
def execCairnCommit (src : Source) (w : Word) (s : State) : Host.Outcome State Fault Refusal := s.access src 0x3C30 (putBits w 2 2)

/-- STREAM_CONTEXT_WRITE (R311): words written to offsets 0x00 to 0x0F of context `n`, each named by its index. -/
def execStreamContextWrite (src : Source) (n : Fin 256) (words : List (Fin 4 × Word)) (s : State) : Host.Outcome State Fault Refusal :=
  let a := 0x40000 + 64 * n.val
  if !s.canAccess src || words.isEmpty then .next s
  else if src == .tumbler then done (s.answer src a 0 stBadAddr)
  else if !s.accessLegal src true a then done (s.answer src a 0 stRefusedState)
  else
    let r := s.writeCtx (words.map fun p => (16 * n.val + p.1.val, p.2))
    done (r.2.answer src a 0 r.1)

end Sys2Proof.Machine
end

