-- ==== Sys2Proof/Machine/Device.lean ====
section
/-!
DEFINITION. Sys2Proof/Machine/Device.lean: the Tumbler instructions that reach the engine: LDX and STX (R226) and the device operations
(R234 to R236).
-/

namespace Sys2Proof.Machine

/-- LDX (R224, R226): the word at an engine address, read with the effects of R7; XADDR where Tumbler may not read. -/
def execLdx (t : Fin 8) (rd ra : Fin 16) (imm : BitVec 18) (s : State) : Host.Outcome State Fault Refusal :=
  s.issue t (encI 0x1E rd ra imm) fun x =>
    if s.readable .tumbler (x.addr ra imm) then
      (s.touchAt .tumbler (x.addr ra imm) true).setResult t rd (s.readAt .tumbler (x.addr ra imm))
    else s.except t 4

/-- STX (R224, R226): a word written at an engine address; XADDR where Tumbler may not write, DENIED where only the service port may;
another refusal leaves the word unwritten and raises no exception. -/
def execStx (t : Fin 8) (rd ra : Fin 16) (imm : BitVec 18) (s : State) : Host.Outcome State Fault Refusal :=
  s.issue t (encI 0x1F rd ra imm) fun x =>
    let a := x.addr ra imm
    if !s.writable .tumbler a then s.except t 4
    else if s.deniedAt .tumbler a (x.reg rd) then s.except t 5
    else
      let s1 := s.onThread t Thread.advance
      let r := s1.writeAt .tumbler a (x.reg rd)
      if r.1 == stOk then r.2 else s1.onFlt fun _ => r.2.flt

/-! ### Device operations (R234, R235) -/

/-- A device operation that ends at once: legal as its command counterpart `op` is (R234, R252), refused while its unit is fenced (R417);
rd receives the status. -/
def State.deviceOp (s : State) (t : Fin 8) (rd : Fin 16) (op : Nat) (fenced : Bool) (f : State → Byte × State) : State :=
  if !s.legal op then s.setResult t rd (stRefusedState.zeroExtend 32)
  else if fenced then s.setResult t rd (stFenced.zeroExtend 32)
  else let r := f s; r.2.setResult t rd (r.1.zeroExtend 32)

/-- The thread is STALLED until a result comes for rd (R234). -/
def State.stall (s : State) (t : Fin 8) (rd : Fin 16) : State :=
  s.onThread t fun x => { x.advance with st := .stalled, wait := .device rd }

/-- `n` data words from a byte address lie in data memory, word-aligned (R235). -/
def blockOk (a : Word) (n : Nat) : Bool := a.toNat % 4 == 0 && decide (a.toNat + 4 * n ≤ 16384)

/-- Word `i` of a block in data memory. -/
def State.blockWord (s : State) (a : Word) (i : Nat) : Word := s.dmemWord (a.toNat / 4 + i)

/-- LAYER (R235): eight words from data memory to the shadow part of a layer. -/
def execLayer (t : Fin 8) (rd ra rb : Fin 16) (s : State) : Host.Outcome State Fault Refusal :=
  s.issue t (encR 0x31 rd ra rb) fun x =>
    s.deviceOp t rd 0x03 false fun s =>
      let a := x.reg ra
      let b := x.reg rb
      if !blockOk a 8 || fld b 31 4 ≠ 0 then (stBadAddr, s)
      else (stOk, s.onLayer (fld b 3 0) fun l =>
        { l with shadow := (List.range 8).foldl (fun d i => d.setWord i (s.blockWord a i)) l.shadow })

/-- COMMIT (R54, R235): the thread stalls until its admission ends; BUSY at once when the queue is full. -/
def execTumblerCommit (t : Fin 8) (rd ra : Fin 16) (s : State) : Host.Outcome State Fault Refusal :=
  s.issue t (encR 0x32 rd ra 0) fun x =>
    let w := x.reg ra
    if !s.legal 0x04 then s.setResult t rd (stRefusedState.zeroExtend 32)
    else
      let r := s.requestCommit w (.thread t rd)
      if r.1 == stOk then r.2.stall t rd else s.setResult t rd (commitWord r.1 0 0 (fld w 31 24))

/-- MODE (R60, R61, R235). -/
def execTumblerMode (t : Fin 8) (rd ra : Fin 16) (s : State) : Host.Outcome State Fault Refusal :=
  s.issue t (encR 0x33 rd ra 0) fun x =>
    s.deviceOp t rd 0x05 (s.unitFenced 0) fun s =>
      let a := x.reg ra
      if !blockOk a 4 then (stBadAddr, s) else s.requestMode (s.blockWord a 0) (s.blockWord a 1) (s.blockWord a 2) (s.blockWord a 3)

/-- ENV (R75, R235): the thread stalls until the landing ends; BUSY at once while an ENV landing runs. -/
def execEnv (t : Fin 8) (rd ra : Fin 16) (s : State) : Host.Outcome State Fault Refusal :=
  s.issue t (encR 0x34 rd ra 0) fun x =>
    let token : BitVec 8 := (x.reg ra).truncate 8
    if !s.legal 0x06 then s.setResult t rd (stRefusedState.zeroExtend 32)
    else if s.unitFenced 1 then s.setResult t rd (stFenced.zeroExtend 32)
    else
      let r := s.requestTake true false token (.thread t rd)
      if r.1 == stOk then r.2.2.stall t rd else s.setResult t rd (takeWord r.1 token)

/-- CAL (R96, R97, R235): UNFENCE is denied first. -/
def execTumblerCal (t : Fin 8) (rd ra : Fin 16) (s : State) : Host.Outcome State Fault Refusal :=
  s.issue t (encR 0x35 rd ra 0) fun x =>
    let a := x.reg ra
    if blockOk a 3 && calUnfence (s.blockWord a 2) then s.setResult t rd (stDeniedPort.zeroExtend 32)
    else s.deviceOp t rd 0x07 (s.unitFenced 1) fun s =>
      if !blockOk a 3 then (stBadAddr, s) else s.requestCal (s.blockWord a 0) (s.blockWord a 1) (s.blockWord a 2)

/-- MEAS (R144, R145, R235). -/
def execTumblerMeas (t : Fin 8) (rd ra : Fin 16) (s : State) : Host.Outcome State Fault Refusal :=
  s.issue t (encR 0x36 rd ra 0) fun x =>
    s.deviceOp t rd 0x08 false fun s => s.sweepRequest (fld (x.reg ra) 1 0) (fld (x.reg ra) 9 2)

/-- STORE (R235). -/
def execTumblerStore (t : Fin 8) (rd ra : Fin 16) (s : State) : Host.Outcome State Fault Refusal :=
  s.issue t (encR 0x37 rd ra 0) fun x => s.deviceOp t rd 0x09 false fun s => s.requestStore (x.reg ra)

/-- SIG (R227, R235): the software events of the bits set in ra[3:0]. -/
def execSig (t : Fin 8) (rd ra : Fin 16) (s : State) : Host.Outcome State Fault Refusal :=
  s.issue t (encR 0x38 rd ra 0) fun x =>
    (s.each 4 fun s j => if (x.reg ra).getLsbD j then s.fire (28 + j) else s).setResult t rd 0

/-- POST (R235): data bytes queued for a STATUS frame. -/
def execPost (t : Fin 8) (rd ra rb : Fin 16) (s : State) : Host.Outcome State Fault Refusal :=
  s.issue t (encR 0x39 rd ra rb) fun x =>
    let a := (x.reg ra).toNat
    let n := (x.reg rb).toNat
    let code := if n < 1 ∨ 256 < n ∨ 16384 < a + n then stBadLen
      else if s.wall.id = 0 then stRefusedState
      else if 4 ≤ s.tum.posts.length then stBusy
      else stOk
    let s1 := if code = stOk then s.onTum fun m => { m with posts := m.posts ++ [{ thread := t.val, data := s.dmemBytes a n }] } else s
    s1.setResult t rd (code.zeroExtend 32)

/-- The oldest queued post leaves as a STATUS frame (R235). -/
def State.sendPost (s : State) : State :=
  match s.tum.posts with
  | [] => s
  | p :: rest =>
    (s.onTum fun m => { m with posts := rest }).originate s.statusDest 0x06 ([0x54] ++ leBytes 1 p.thread ++ leBytes 2 p.data.length ++ p.data)

/-- SREQ (R235, R236): a safety function is requested. -/
def execSreq (t : Fin 8) (rd : Fin 16) (imm : BitVec 18) (s : State) : Host.Outcome State Fault Refusal :=
  s.issue t (encI 0x3A rd 0 imm) fun _ =>
    s.deviceOp t rd 0x12 false fun s =>
      match funcOf imm.toNat with
      | some fn => (stOk, s.addCause .request fn)
      | none => (stBadLen, s)

end Sys2Proof.Machine
end

