-- ==== Sys2Proof/Machine/Commands.lean ====
section
/-!
DEFINITION. Sys2Proof/Machine/Commands.lean: the commands of the catalogue (R250, R251), each with its own checks and effect, and the
service port (R242, R256, R257).
-/

namespace Sys2Proof.Machine

/-- Word `i` of a command’s arguments, from byte offset `o`. -/
def cmdWord (q : CmdReq) (o : Nat) : Word := BitVec.ofNat 32 (leAt q.args o 4)

/-- Who issued a command. -/
def cmdIssuer (q : CmdReq) : Issuer := .command q.port (cmdSrc q) q.cmdId (cmdSession q)

/-- A unit’s status and state as the answer to a command without a result. -/
def answerOf (r : Byte × State) : UnitAnswer := (some (r.1, []), r.2)

/-! ### Registers and memory (R251) -/

/-- PING (R250): DEV_ID, then ID_STATE, of which nothing clears. -/
def execPing (q : CmdReq) (s : State) : Host.Outcome State Fault Refusal :=
  s.runCmd 0x01 q { lenOk := q.args.isEmpty, recovery := true } fun s =>
    s.okWith (leBytes 4 (s.readAt (cmdSource q.port) 0x0000).toNat ++ leBytes 4 (s.readAt (cmdSource q.port) 0x0004).toNat)

/-- READ (R251, R254): a tagged READ and one from the service port have the effects of R7. -/
def execRead (q : CmdReq) (s : State) : Host.Outcome State Fault Refusal :=
  let a := leAt q.args 0 4
  let n := leAt q.args 4 2
  let last := a + 4 * n
  s.runCmd 0x02 q { lenOk := q.args.length == 6, recovery := decide (last ≤ 0x400) || decide (0x3C00 ≤ a ∧ last ≤ 0x4000) } fun s =>
    let src := cmdSource q.port
    if n < 1 ∨ 2048 < n then s.no stBadLen
    else if !(s.oneRow a n && (wordAddrs a n).all fun x => s.readable src x) then s.no stBadAddr
    else
      let r := s.readWords src (q.port == .service || q.session != 0) (wordAddrs a n)
      r.2.okWith (bytesOf r.1)

/-- WRITE (R251, R248): every word is checked before any is written. -/
def execWrite (q : CmdReq) (s : State) : Host.Outcome State Fault Refusal :=
  let a := leAt q.args 0 4
  let ws := wordsOf (q.args.drop 4)
  let src := cmdSource q.port
  s.runCmd 0x03 q
    { lenOk := decide (8 ≤ q.args.length ∧ q.args.length ≤ 8196) && q.args.length % 4 == 0
      restricted := if ((wordAddrs a ws.length).zip ws).any fun p => s.deniedAt src p.1 p.2 then stDeniedPort else stOk
      recovery := decide (0x3C00 ≤ a ∧ a + 4 * ws.length ≤ 0x4000)
      fenced := s.unitFenced 3 && decide (a < 0x3C00 ∧ 0x3800 < a + 4 * ws.length) } fun s => answerOf (s.writeWords src a ws)

/-! ### Composition, colour and measurement -/

/-- COMMIT (R54, R250): the reply comes when its admission ends; BUSY at once when the queue is full. -/
def execCommit (q : CmdReq) (s : State) : Host.Outcome State Fault Refusal :=
  s.runCmd 0x04 q { lenOk := q.args.length == 4, fenced := s.unitFenced 0 } fun s =>
    let w := cmdWord q 0
    let r := s.requestCommit w (cmdIssuer q)
    if r.1 == stOk then r.2.later else (some (r.1, leBytes 4 (commitWord r.1 0 0 (fld w 31 24)).toNat), s)

/-- MODE (R60, R61, R250). -/
def execMode (q : CmdReq) (s : State) : Host.Outcome State Fault Refusal :=
  s.runCmd 0x05 q { lenOk := q.args.length == 16, fenced := s.unitFenced 0 } fun s =>
    answerOf (s.requestMode (cmdWord q 0) (cmdWord q 4) (cmdWord q 8) (cmdWord q 12))

/-- COLOUR_TAKE (R75, R76, R250): the reply comes when the landing ends; at once with neither group, and when one runs. -/
def execColourTake (q : CmdReq) (s : State) : Host.Outcome State Fault Refusal :=
  s.runCmd 0x06 q { lenOk := q.args.length == 4, fenced := s.unitFenced 1 } fun s =>
    let w := cmdWord q 0
    let token := BitVec.ofNat 8 (fld w 31 24)
    let r := s.requestTake (fld w 0 0 == 1) (fld w 1 1 == 1) token (cmdIssuer q)
    let result := leBytes 4 (takeWord r.1 token).toNat
    if r.1 != stOk then (some (r.1, result), s) else if r.2.1 then (r.2.2.fire 21).okWith result else r.2.2.later

/-- CAL (R96, R97, R250): a WALL port may not clear a user fence. -/
def execCal (q : CmdReq) (s : State) : Host.Outcome State Fault Refusal :=
  s.runCmd 0x07 q
    { lenOk := q.args.length == 12, fenced := s.unitFenced 1
      restricted := if q.port != .service && q.args.length == 12 && calUnfence (cmdWord q 8) then stDeniedPort else stOk } fun s =>
    answerOf (s.requestCal (cmdWord q 0) (cmdWord q 4) (cmdWord q 8))

/-- MEAS (R144, R145, R250). -/
def execMeas (q : CmdReq) (s : State) : Host.Outcome State Fault Refusal :=
  s.runCmd 0x08 q { lenOk := q.args.length == 4 } fun s => answerOf (s.sweepRequest (fld (cmdWord q 0) 1 0) (fld (cmdWord q 0) 9 2))

/-- STORE (R235, R250). -/
def execStore (q : CmdReq) (s : State) : Host.Outcome State Fault Refusal :=
  s.runCmd 0x09 q { lenOk := q.args.length == 4 } fun s => answerOf (s.requestStore (cmdWord q 0))

/-- DOORBELL (R227, R238, R250): BUSY with four words queued. -/
def execDoorbell (q : CmdReq) (s : State) : Host.Outcome State Fault Refusal :=
  s.runCmd 0x0A q { lenOk := q.args.length == 4, fenced := s.unitFenced 5 } fun s =>
    if 4 ≤ s.tum.doorbell.length then s.no stBusy
    else ((s.onTum fun m => { m with doorbell := m.doorbell ++ [cmdWord q 0] }).fire 11).ok

/-- PROG_LOAD (R218, R251): legal only with every thread HALTED. -/
def execProgLoad (q : CmdReq) (s : State) : Host.Outcome State Fault Refusal :=
  s.runCmd 0x0B q
    { lenOk := decide (8 ≤ q.args.length ∧ q.args.length ≤ 8196) && q.args.length % 4 == 0, ready := s.allHalted
      fenced := s.unitFenced 5 } fun s =>
    let i := leAt q.args 0 4
    let ws := wordsOf (q.args.drop 4)
    if 16384 < i + ws.length then s.no stBadAddr
    else (s.onTum fun m => { m with prog := ssetAll 0 ((List.range ws.length).map fun k => (i + k, ws.getD k 0)) m.prog }).ok

/-! ### Light and safety -/

/-- A light-on command is refused (R24). -/
def State.lightRefused (s : State) : Bool := s.eng.stale || s.safeDemand || s.criticalOpen

/-- DARK to LIT (R22); with BC_EN the watchdog arms (R393). -/
def State.lightOn (s : State) : State :=
  ((if s.saf.bcEn && !s.saf.wdgArmed then s.onSaf fun f => { f with wdgArmed := true, wdgExpired := false } else s).onComp
    (fun c => { c with litFrame := false })).setEng .lit

/-- LIGHT_ON (R24, R251). -/
def execLightOn (q : CmdReq) (s : State) : Host.Outcome State Fault Refusal :=
  s.runCmd 0x10 q { lenOk := q.args.isEmpty, ready := !s.lightRefused } fun s => s.lightOn.ok

/-- LIGHT_OFF (R22, R251). -/
def execLightOff (q : CmdReq) (s : State) : Host.Outcome State Fault Refusal :=
  s.runCmd 0x11 q { lenOk := q.args.isEmpty } fun s => s.enterDark.ok

/-- SAFE_REQ (R251, R376). -/
def execSafeReq (q : CmdReq) (s : State) : Host.Outcome State Fault Refusal :=
  s.runCmd 0x12 q { lenOk := q.args.length == 4 } fun s =>
    match funcOf (leAt q.args 0 4) with
    | some fn => (s.addCause .request fn).ok
    | none => s.no stBadLen

/-- FAULT_ACK (R415). -/
def execFaultAck (q : CmdReq) (s : State) : Host.Outcome State Fault Refusal :=
  s.runCmd 0x13 q { lenOk := q.args.length == 4 } fun s => answerOf (s.faultAck (cmdWord q 0))

/-- CONFIG_REFRESH (R251, R457, R459). -/
def execConfigRefresh (q : CmdReq) (s : State) : Host.Outcome State Fault Refusal :=
  s.runCmd 0x14 q { lenOk := q.args.length == 8 } fun s =>
    ((((s.onCmd fun c => { c with wallEpoch := cmdWord q 0, settingsEpoch := cmdWord q 4 }).onNvm fun v =>
      { v with settingsUid := s.col.ident.uid }).onEng fun e => { e with stale := false }).startSettings.startUserStore).ok

/-- SHUTDOWN (R251): the reply comes when the three stores are over; BUSY while an earlier one runs. -/
def execShutdown (q : CmdReq) (s : State) : Host.Outcome State Fault Refusal :=
  s.runCmd 0x15 q { lenOk := q.args.isEmpty } fun s =>
    if s.cmd.shutdownFrom.isSome then s.no stBusy
    else
      let dark := if s.eng.st == .lit then s.enterDark else s
      let stores := ((dark.onWard fun w => w.closeProof 0).storeLedger.startSettings).startUserStore
      ((stores.onCmd fun c => { c with shutdownFrom := some (cmdOut q 0x15) }).checkShutdown).later

/-! ### Firmware update (R461 to R464) -/

/-- F_L lies within what the image of a header can migrate (R460, R461). -/
def State.formatFits (s : State) (h : List Byte) : Bool := decide (leAt h 0x1C 4 ≤ s.formatL ∧ s.formatL ≤ leAt h 0x18 4)

/-- An accepted update (R461): the slot STAGING, its header buffered, its erase under way, and UPDATE. -/
def State.startUpdate (s : State) (h : List Byte) : State :=
  let k := s.stageSlot
  let s1 := (s.writeBoot fun b => b.setSlot k .staging).onNvm fun v =>
    { v.onSlot k (fun _ => { header := h, body := [] }) with
      phase := .erasing, updFresh := false, updTarget := k, nextOffset := 0, nextSeq := 0, waiting := 0, progAt := s.time.local_ }
  (((s1.onWard fun w => { w with updLast := none }).onEng fun e => { e with beforeUpdate := s.eng.st }).stopSweep).setEng .update

/-- UPDATE_START (R461): a refusal of the header raises UPDATE_REFUSED. While R456 bars new erases the answer is NOT_READY (DEDUCED, log entry 93). -/
def execUpdateStart (q : CmdReq) (s : State) : Host.Outcome State Fault Refusal :=
  let lenOk := q.args.length == 1024
  s.runCmd 0x18 q { lenOk := lenOk, recovery := true, signed := true, sigOk := !s.formatFits q.args || s.headerCheck q.args != stBadSig,
                    fenced := s.unitFenced 9, fault := some 0xD4 } fun s =>
    let st := if !s.formatFits q.args && headerOk q.args then stBadLen else s.headerCheck q.args
    if st != stOk then (s.raise 0xD4 0).no st
    else if s.pwr.noNewStore then s.no stNotReady
    else (s.startUpdate q.args).okWith (leBytes 4 (b2n s.stageSlot))

/-- UPDATE_ABORT (R463). In SERVICE without a valid image the ROM loader accepts it (R468), and there is no staging to abort
(DEDUCED, log entry 68). -/
def execUpdateAbort (q : CmdReq) (s : State) : Host.Outcome State Fault Refusal :=
  s.runCmd 0x19 q { lenOk := q.args.isEmpty, recovery := true } fun s =>
    if s.eng.st == .update then s.abortStaging.leaveUpdate.ok else s.ok

/-- The slot that RESTART sets TRIAL: the one just staged, and without an image the one that R468 names. -/
def State.restartSlot (s : State) : Bool := if s.eng.noImage then s.stageSlot else s.nvm.updTarget

/-- Staging is complete (R251, R463): PHASE is STAGED. Without an image the boot control record says it, so that a slot staged before a reset
can still be tried (R464, R468). -/
def State.mayRestart (s : State) : Bool := s.nvm.phase == .staged || (s.eng.noImage && s.bootRec.slot s.restartSlot == .staged)

/-- What RESTART does (R186, R251, R464): TRIAL with TRIES 1, and the ledger store; without an image there is no ledger to store. The
reset follows the ledger store, at once when none runs. -/
def State.startRestart (s : State) : State :=
  let s1 := s.writeBoot fun b => { b.setSlot s.restartSlot .trial with tries := 1 }
  let s2 := (s1.onWard fun w => w.closeProof 0).onAge fun a => { a with forRestart := true }
  let s3 := if s.eng.noImage then s2 else s2.storeLedger
  if s3.age.busy then s3 else s3.resetWith .restart

/-- RESTART (R251, R468). While R456 bars new writes the answer is NOT_READY (DEDUCED, log entry 93). -/
def execRestart (q : CmdReq) (s : State) : Host.Outcome State Fault Refusal :=
  s.runCmd 0x1A q { lenOk := q.args.isEmpty, recovery := true, fenced := s.unitFenced 9 } fun s =>
    if !s.mayRestart || s.pwr.noNewStore then s.no stNotReady else s.startRestart.ok

/-! ### Ward (chapter 12) -/

/-- Bytes of a 128-bit identifier. -/
def idBytes (x : BitVec 128) : List Byte := leBytes 16 x.toNat

/-- The header of the running image; none without a valid image. -/
def State.runHeader (s : State) : List Byte := if s.eng.noImage then [] else (s.nvm.slot s.nvm.runSlot).header

/-- Bytes 0x000 to 0x0FF of the attestation record (R364). -/
def State.attestBody (s : State) (nonce : List Byte) : List Byte :=
  let w := s.ward
  let prog := progCheck s == stOk
  leBytes 4 0x54415454 ++ leBytes 4 1 ++ padTo 16 nonce ++ idBytes w.engineId
    ++ (if s.col.identOk then idBytes s.col.ident.uid else leBytes 16 0) ++ (if w.owned then idBytes w.ownerId else leBytes 16 0)
    ++ leBytes 4 (s.readAt .service 0x0000).toNat ++ leBytes 1 (b2n w.owned) ++ leBytes 1 (b2n w.debugSinceReset) ++ leBytes 1 s.stateByte
    ++ leBytes 1 (b2n s.nvm.runSlot) ++ (if s.eng.noImage then leBytes 48 0 else padTo 48 (sha384 (s.nvm.slot s.nvm.runSlot).body))
    ++ leBytes 4 (leAt s.runHeader 0x10 4) ++ leBytes 4 w.arbFw.toNat ++ leBytes 4 (if prog then (s.progWord 6).toNat else 0)
    ++ leBytes 4 (s.progWord 15).toNat ++ leBytes 4 s.cmd.settingsEpoch.toNat ++ leBytes 4 s.cmd.wallEpoch.toNat ++ leBytes 2 s.wall.id.toNat
    ++ leBytes 2 (sat 16 w.sealOpenings) ++ leBytes 2 (sat 16 w.debugUnlocks) ++ leBytes 2 (sat 16 w.enrollCount)
    ++ leBytes 4 (match w.session with | some x => x.no.toNat | none => 0)
    ++ leBytes 4 (pack [(0, b2n s.col.factoryOk), (1, b2n s.col.userOk), (2, b2n s.col.idleOk), (3, b2n s.age.modelOk), (4, b2n s.age.ledgerOk),
        (5, b2n prog), (6, w.policy.toNat)]).toNat
    ++ leBytes 4 s.opHours ++ leBytes 4 w.newestNo.toNat ++ leBytes 8 (if s.time.valid then s.wNs else 0) ++ leBytes 72 0

/-- ATTEST (R364): the record, its signature and the identity certificate’s first block. -/
def execAttest (q : CmdReq) (s : State) : Host.Outcome State Fault Refusal :=
  s.runCmd 0x20 q { lenOk := q.args.length == 16, recovery := true, fenced := s.unitFenced 3 } fun s =>
    let b := s.attestBody q.args
    (s.onWard fun w => { w with drawn := w.drawn + 1 }).okWith
      (b ++ padTo 96 (s.ward.sign b) ++ s.ward.identityCert.take 256)

/-- PROOF_READ (R369). -/
def execProofRead (q : CmdReq) (s : State) : Host.Outcome State Fault Refusal :=
  s.runCmd 0x21 q { lenOk := q.args.length == 8 && leAt q.args 6 2 == 0 } fun s =>
    let n := leAt q.args 4 2
    if n < 1 ∨ 16 < n then s.no stBadLen else s.okWith (s.ward.proofRead (leAt q.args 0 4) n)

/-- A session opens (R350, R351): a session of a lower number becomes the previous one. -/
def Ward.openSession (w : Ward) (no : Word) (secret : BitVec 256) : Ward :=
  { w with
    session := some { no := no, secret := secret, entries := [] }
    previous := match w.session with
      | some x => if x.no.toNat < no.toNat then some x else if x.no = no then none else w.previous
      | none => w.previous
    highWater := if w.highWater.toNat < no.toNat then no else w.highWater }

/-- SESSION_OPEN (R350): a refusal raises SESSION_FAIL (R370). -/
def execSessionOpen (q : CmdReq) (s : State) : Host.Outcome State Fault Refusal :=
  s.runCmd 0x22 q { lenOk := q.args.length == 68 && leAt q.args 4 4 == 0, fenced := s.unitFenced 3, fault := some 0xB2 } fun s =>
    let no := cmdWord q 0
    if no.toNat < s.ward.highWater.toNat then (s.raise 0xB2 0).no stStale
    else match gcmOpen s.ward.kSwrap (slice q.args 8 12) (slice q.args 0 8) (slice q.args 20 32) (slice q.args 52 16) with
      | none => (s.raise 0xB2 0).no stBadSig
      | some k => (s.onWard fun w => w.openSession no (key256 k)).okWith (leBytes 4 no.toNat)

/-- The reserved parts of an enrollment are zero and its MODE and POLICY in range (R347). -/
def enrollOk (l : List Byte) : Bool :=
  let mode := leAt l 0 1
  let zero := fun i n => (slice l i n).all (· == 0)
  l.length == 480 && decide (1 ≤ mode ∧ mode ≤ 3) && decide (leAt l 1 1 < 4)
    && (mode != 3 || (zero 0x14 16 && zero 0x24 96 && zero 0x84 96 && zero 0xF0 48 && zero 0x120 96)) && (mode != 1 || zero 0x180 96)

/-- The first failing row of R347. -/
def State.enrollCheck (s : State) (l : List Byte) : Byte :=
  let w := s.ward
  let mode := leAt l 0 1
  if slice l 4 16 != idBytes w.engineId then stBadAddr
  else if leAt l 2 2 ≠ w.enrollCount then stStale
  else if (mode == 1) == w.owned then stRefusedState
  else if mode != 3 && !ecdsaOk (slice l 0x24 96) (slice l 0 0x120) (slice l 0x120 96) then stBadSig
  else if mode != 1 && !ecdsaOk w.ownerPub (slice l 0 0x180) (slice l 0x180 96) then stBadSig
  else stOk

/-- K_wall as an enrollment wraps it (R347); none when the unwrap fails. -/
def State.unwrapWall (s : State) (l : List Byte) : Option (BitVec 256) :=
  (ecdhX s.ward.agreeKey (slice l 0x84 96)).bind fun x =>
    (gcmOpen (hkdf x (idBytes s.ward.engineId) (ascii "OVX-K_WALL")) (slice l 0xE4 12) (slice l 0 0x24) (slice l 0xF0 32)
      (slice l 0x110 16)).map key256

/-- An accepted enrollment (R348). -/
def State.enroll (s : State) (l : List Byte) (kWall : BitVec 256) : State :=
  let mode := leAt l 0 1
  let release := mode == 3
  let s1 := s.keyDone.onWard fun w =>
    { (w.closeProof 0).endSessions with
      owned := !release
      policy := if release then 0 else BitVec.ofNat 2 (leAt l 1 1)
      ownerId := if release then 0 else BitVec.ofNat 128 (leAt l 0x14 16)
      ownerPub := if release then [] else slice l 0x24 96
      kWall := kWall, enrollCount := inc 16 w.enrollCount, slots := [], newHash := true
      jtagOpen := release && w.jtagOpen, debugOpen := release && w.debugOpen }
  ((s1.onCol fun c => { c with idleOk := false }).raise 0xB5 mode).logEvent logEnrol mode []

/-- OWNER_ENROLL (R347, R348). -/
def execOwnerEnroll (q : CmdReq) (s : State) : Host.Outcome State Fault Refusal :=
  s.runCmd 0x32 q { lenOk := enrollOk q.args, signed := true, sigOk := s.enrollCheck q.args != stBadSig, fenced := s.unitFenced 3 } fun s =>
    let st := s.enrollCheck q.args
    if st != stOk then s.no st
    else match if leAt q.args 0 1 = 3 then some 0 else s.unwrapWall q.args with
      | none => s.no stBadSig
      | some k => let t := s.enroll q.args k; t.okWith (leBytes 4 (sat 16 t.ward.enrollCount))

/-- A successful debug unlock (R365). -/
def State.unlockDebug (s : State) : State :=
  let s1 := s.keyDone.onWard fun w =>
    { (w.closeProof 8).endSessions with
      slots := [], debugUnlocks := inc 16 w.debugUnlocks, debugOpen := true, debugSinceReset := true, challenge := none }
  (s1.raise 0xB6 0).logEvent logDebug 0 []

/-- The owner’s signature in a MODE 1 argument verifies (R365). -/
def State.unlockSigned (s : State) (l : List Byte) : Bool :=
  ecdsaOk s.ward.ownerPub (ascii "OVX-DEBUG" ++ idBytes s.ward.engineId ++ slice l 4 32 ++ leBytes 2 s.ward.enrollCount) (slice l 36 96)

/-- DEBUG_UNLOCK (R365): MODE 0 draws a challenge; MODE 1 answers it. -/
def execDebugUnlock (q : CmdReq) (s : State) : Host.Outcome State Fault Refusal :=
  let mode := leAt q.args 0 4
  let lenOk := (mode == 0 && q.args.length == 4) || (mode == 1 && q.args.length == 132)
  s.runCmd 0x35 q { lenOk := lenOk, ready := s.ward.owned, signed := mode == 1, sigOk := mode != 1 || !s.ward.owned || s.unlockSigned q.args,
                    fenced := s.unitFenced 3 } fun s =>
    let w := s.ward
    if mode = 0 then
      let c := Config.drbg w.drawn
      (s.onWard fun w => { w with challenge := some c, drawn := w.drawn + 1 }).okWith (bytes256 c)
    else
      let c := slice q.args 4 32
      if w.challenge.map bytes256 != some c then s.no stStale
      else s.unlockDebug.ok

/-! ### Service (R22, R387, R471) -/

/-- ENTER_SERVICE (R22, R215): a sweep in progress stops, as sweeps run in DARK and LIT only (R145). -/
def execEnterService (q : CmdReq) (s : State) : Host.Outcome State Fault Refusal :=
  s.runCmd 0x30 q { lenOk := q.args.isEmpty } fun s => ((s.stopSweep).setEng .service).ok

/-- Data memory as BOOT and leave-service load it (R219): zero but for the stored retained region. -/
def State.loadDmem (s : State) : State :=
  s.onTum fun m => { m with dmem := match s.nvm.retained.newest retainedLayout with | some c => c.body.map fun p => (p.1 + 3840, p.2) | none => [] }

/-- SERVICE is left (R22, R215, R219): data memory is reloaded and the threads start as at entry to JOIN, unless Tumbler is fenced. A
rail that is off starts once nothing holds it (DEDUCED, log entry 57). -/
def State.leaveService (s : State) : State :=
  let s0 := s.loadDmem.reportProg
  let s1 :=
    if s0.safeDemand || s0.criticalUnacked then s0.setEng .safe
    else if s0.eng.joined then s0.enterDark.railStartIfOff
    else s0.enterJoin
  if s1.unitFenced 5 then s1 else s1.startThreads

/-- LEAVE_SERVICE (R22, R215). -/
def execLeaveService (q : CmdReq) (s : State) : Host.Outcome State Fault Refusal :=
  s.runCmd 0x31 q { lenOk := q.args.isEmpty } fun s => s.leaveService.ok

/-- SAFETY_PARAM (R387): stored, then in force at once; the outputs that R375 then allows follow. -/
def execSafetyParam (q : CmdReq) (s : State) : Host.Outcome State Fault Refusal :=
  s.runCmd 0x33 q { lenOk := q.args.length == 32, fenced := s.unitFenced 9 } fun s =>
    match paramsOf s.saf.straps q.args with
    | none => s.no stBadLen
    | some p =>
      if s.pwr.noNewStore then s.no stNotReady
      else
      let s1 := (s.writeParams p).onSaf fun f => { f with params := p, paramsOk := true }
      -- a sign that is shown is streamed afresh at the new level
      let s2 := if s1.rings.cairnOn then s1.cairnRequest else s1
      ((s2.endSrc 0xC3).releaseOutputs).okWith (leBytes 4 p.pcrc.toNat)

/-- Two copies, both erased. -/
def blankPair {α : Type} (d : α) : Pair α := { c0 := { body := d }, c1 := { body := d } }

/-- A slot that is not CONFIRMED becomes EMPTY (R471). -/
def State.eraseSlot (s : State) (k : Bool) : State :=
  if s.bootRec.slot k == .confirmed then s
  else (s.writeBoot fun b => b.setSlot k .empty).onNvm fun v => v.onSlot k fun _ => {}

/-- A region erased (R471); none for a code without a region. Only one NVM operation runs at a time (R454): a store of that region that
runs completes first. -/
def State.eraseRegion (s : State) (code : Nat) : Option State :=
  let quiet := fun (v : Nvm) (k : StoreKind) => { v with erasing := v.erasing.filter (· != k) }
  if code = 1 then some ((s.settingsDone true).onNvm fun v => { quiet v .settings with area0 := blankPair {}, area1 := blankPair {} })
  else if code = 2 then some ((s.programDone true).onNvm fun v => { quiet v .program with prog := blankPair [] })
  else if code = 3 then some (s.onNvm fun v => { v with log := [] })
  else if code = 4 then
    some ((s.cairnDone true).onNvm fun v =>
      { v with plane := [], planeBad := false, cairnHdr := blankPair { palette := List.replicate 9 0, crc := 0 }, planeOk := false })
  else if code = 5 then some ((s.eraseSlot false).eraseSlot true)
  else if code = 6 then some ((s.retainedDone true).onNvm fun v => { quiet v .retained with retained := blankPair [] })
  else none

/-- NVM_ERASE (R471). While R456 bars new erases the answer is NOT_READY (DEDUCED, log entry 93). -/
def execNvmErase (q : CmdReq) (s : State) : Host.Outcome State Fault Refusal :=
  s.runCmd 0x34 q { lenOk := q.args.length == 4, recovery := true, fenced := s.unitFenced 9 } fun s =>
    match s.eraseRegion (leAt q.args 0 4) with
    | some t => if s.pwr.noNewStore then s.no stNotReady else t.ok
    | none => s.no stBadLen

/-! ### Other arrivals -/

/-- BAD_OPCODE (R248, R250): a command whose OPCODE is not in the catalogue; one that bears the port, SRC, CMD_ID and SESSION of an accepted
command is its copy (R247). -/
def execBadOpcode (opcode : Byte) (q : CmdReq) (s : State) : Host.Outcome State Fault Refusal :=
  if (opRule opcode.toNat).isSome || !s.arrives q then .next s
  else if q.port == .service && s.svcBusy then done (s.onCmd fun c => { c with svcErrors := inc 16 c.svcErrors })
  else
    let s0 := if q.port == .service then s.onCmd fun c => { c with svcReply := none, svcRead := false } else s
    match s0.copyOf q with
    | some e => s0.resend q opcode e
    | none => done (s0.refuse q opcode stBadOpcode)

/-- What a REPLY transaction returns (R256). -/
def State.svcAnswer (s : State) : List Byte :=
  if s.svcBusy then [0x01]
  else match s.cmd.svcReply with
    | none => [0x00]
    | some b =>
      let body := leBytes 2 b.length ++ b
      (if s.cmd.svcRead then [0x03] else [0x02]) ++ body ++ leBytes 4 (crc32c body)

/-- SERVICE_REPLY (R242, R256): ignored while the seal is intact. -/
def execServiceReply (s : State) : Host.Outcome State Fault Refusal :=
  if !s.running || s.pwr.sealHigh then .next s
  else done (s.onCmd fun c => { c with svcOut := s.svcAnswer, svcRead := c.svcRead || (c.svcReply.isSome && !s.svcBusy) })

/-- A service-port transaction is a WRITE of a command block with a valid CRC (R256, R257). -/
def writeValid (l : List Byte) : Bool :=
  let n := leAt l 1 2
  leAt l 0 1 == 0x5C && decide (16 ≤ n) && l.length == n + 7 && leAt l (n + 3) 4 == crc32c (slice l 1 (n + 2))

/-- What the service port’s data output sends in the latest REPLY transaction, bit by bit (R4, R256). -/
def State.serviceBits (s : State) : List Bool := lsbBits s.cmd.svcOut

/-- SERVICE_WRITE (R4, R256, R257): the bits of a transaction other than REPLY, which is discarded and counted. A WRITE that the port accepts
has the effect of the command that it carries, which is that command’s own row. -/
def execServiceWrite (bits : List Bool) (s : State) : Host.Outcome State Fault Refusal :=
  let bytes := lsbBytes bits
  if !s.running || s.pwr.sealHigh || bytes.head? == some 0x5D || (writeValid bytes && !s.svcBusy) then .next s
  else done (s.onCmd fun c => { c with svcErrors := inc 16 c.svcErrors })

/-- SEAL_CHANGE (R242, R501, R503): logged, and an opening counted, in reset as well, where the power die reads the pin; in OFF nothing
reads it. -/
def execSealChange (high : Bool) (s : State) : Host.Outcome State Fault Refusal :=
  if high == s.pwr.sealHigh then .next s
  else
    let s1 := s.onPwr fun p => { p with sealHigh := high }
    if s.eng.st == .off then done s1
    else done ((if high then s1 else s1.onWard fun w => { w with sealOpenings := inc 16 w.sealOpenings }).logEvent logSeal (b2n high) [])

/-- PREVIOUS_SESSION_END (R350). -/
def execPreviousSessionEnd (s : State) : Host.Outcome State Fault Refusal :=
  if s.ward.previous.isNone then .next s else done (s.onWard fun w => { w with previous := none })

/-- PROOF_RECORD_SIGNED (R366, R368, R370). -/
def execProofRecordSigned (s : State) : Host.Outcome State Fault Refusal :=
  if s.ward.unsigned.isEmpty || s.unitFenced 3 || !s.running then .next s else done (s.onWard Ward.signNext)

/-- DEBUG_CHALLENGE_EXPIRY (R365). -/
def execDebugChallengeExpiry (s : State) : Host.Outcome State Fault Refusal :=
  if s.ward.challenge.isNone then .next s else done (s.onWard fun w => { w with challenge := none })

end Sys2Proof.Machine
end

