-- ==== Sys2Proof/Machine/Boot.lean ====
section
/-!
DEFINITION. Sys2Proof/Machine/Boot.lean: BOOT (R490): the choice of a firmware slot, the loads of settings, program, calibration and
ledger, the bring-up of the rings, and the state that BOOT leads to.
-/

namespace Sys2Proof.Machine

/-! ### Safety (R386 to R388, R400) -/

/-- The monitor’s part of BOOT: its self-test (R400), the straps (R386) and the parameter set (R388). -/
def State.bootSafety (s : State) (straps : BitVec 6) (testOk : Bool) : State :=
  let s1 := s.onSaf fun f => { f with straps := straps, strapsNow := straps, selftestOk := testOk }
  let s2 := if testOk then s1 else s1.raise 0xC0 0
  match (s.nvm.safety.newest safetyLayout).bind fun c => paramsOf straps c.body.bytes with
  | some p => s2.onSaf fun f => { f with params := p, paramsOk := true }
  | none => s2.raise 0xC3 0

/-! ### Slots (R361, R465) -/

/-- An image runs (R465, R474). -/
def State.runImage (s : State) (k trial : Bool) : State :=
  let h := (s.nvm.slot k).header
  s.onNvm fun v => { v with runSlot := k, trial := trial, version := BitVec.ofNat 32 (leAt h 0x14 4), formatUsed := leAt h 0x18 4 }

/-- A TRIAL slot becomes INVALID (R465). -/
def State.dropTrial (s : State) (k : Bool) : State :=
  ((s.writeBoot fun b => { b.setSlot k .invalid with tries := 0 }).logEvent logFallback (b2n k) []).raise 0xD2 0

/-- The first two rows of R465 for one slot: the trial when it runs, else the state for the next rows. -/
def State.tryTrial (s : State) (k : Bool) : Bool × State :=
  if s.bootRec.slot k != .trial then (false, s)
  else if s.bootRec.tries = 0 then (false, s.dropTrial k)
  else
    let s1 := s.writeBoot fun b => { b with tries := 0 }
    if s1.slotOk k then (true, s1.runImage k true) else (false, s1.dropTrial k)

/-- The last two rows of R465; ARB_FW is raised first (R362). -/
def State.bootConfirmed (s : State) : State :=
  let run := fun (k : Bool) => (s.onWard fun w =>
    { w with arbFw := BitVec.ofNat 32 (max w.arbFw.toNat (leAt (s.nvm.slot k).header 0x10 4)) }).runImage k false
  if s.bootRec.slot0 == .confirmed && s.slotOk false then run false
  else if s.bootRec.slot1 == .confirmed && s.slotOk true then run true
  else s.onEng fun e => { e with noImage := true }

/-- The slot that BOOT runs (R465). -/
def State.bootSlot (s : State) : State :=
  let t0 := s.tryTrial false
  if t0.1 then t0.2
  else
    let t1 := t0.2.tryTrial true
    if t1.1 then t1.2 else t1.2.bootConfirmed

/-! ### NVM (R218, R219, R455, R457, R458, R470) -/

/-- Stores whose next target is not erased: their background erase runs again (R454, R456). -/
def State.unerased (s : State) : List StoreKind :=
  (if s.targetReady .settings then [] else [.settings]) ++ (if s.targetReady .retained then [] else [.retained])
    ++ (if s.targetReady .program then [] else [.program])

/-- The settings read, or migrated on a trial (R458); defaults without a valid copy. -/
def State.bootSettings (s : State) (migrates : Bool) : State :=
  let areaL := s.bootRec.areaL
  let copy := (s.nvm.area areaL).newest (settingsLayout areaL)
  let fL := s.formatL
  let s1 := s.onNvm fun v => { v with confirmMin := s.bootRec.confirmMin }
  if !s.nvm.trial then
    match copy with
    | some c => (s1.applySettings c.body).onNvm fun v => { v with formatUsed := fL, settingsOk := true }
    | none => s1.applySettings {}
  else match copy with
    | some c =>
      if migrates then
        (s1.applySettings c.body).onNvm fun v =>
          { v.onArea (!areaL) fun p => p.store (settingsLayout (!areaL)) c.body v.formatUsed with settingsOk := true, migrated := true }
      else ((s1.applySettings {}).onNvm fun v => { v with migrateFailed := true }).raise 0xD3 0
    | none => ((s1.applySettings {}).onNvm fun v => { v with migrateFailed := true }).raise 0xD3 0

/-- The Tumbler program loaded and checked (R217, R218), and data memory (R219). -/
def State.bootProgram (s : State) : State :=
  let s1 := match s.nvm.prog.newest programLayout with
    | some c => s.onTum fun m => { m with prog := c.body, progCopy := s.nvm.prog.newestIs1 programLayout }
    | none => s.raise 0xA1 0
  s1.loadDmem.reportProg

/-- The Cairn plane and its palette registers (R470, R474). -/
def State.bootCairn (s : State) : State :=
  (s.onNvm fun v =>
    { v with planeOk := v.planeValid, pal := match v.cairnHdr.newest cairnLayout with | some c => c.body.palette | none => List.replicate 9 0 }).loadPlane

/-! ### Calibration (R107 to R115) -/

/-- A field of the tile identity. -/
def State.identAt (s : State) (o n : Nat) : Nat := ofLe (s.flashBytes o n)

/-- MAGIC and FORMAT of the tile identity (R108). -/
def State.identPresent (s : State) : Bool := s.identAt 0 4 == 0x54494C45 && s.identAt 4 4 == 1

/-- The identity fields with the fallbacks of R115, and whether none was needed. -/
def State.readIdentity (s : State) : Identity × Bool :=
  let d : Identity := {}
  let prims := (List.range 8).map fun i => s.identAt (0x18 + 2 * i) 2
  let yw := (List.range 3).map fun i => s.identAt (0x28 + 2 * i) 2
  let white := s.identAt 0x2E 2
  let cal := (List.range 3).map fun i => s.identAt (0x30 + 2 * i) 2
  let okP := primsOk prims
  let okY := yw.foldl (· + ·) 0 == 65536
  if !s.identPresent then (d, false)
  else
    ({ uid := BitVec.ofNat 128 (s.identAt 8 16), prims := if okP then prims else d.prims, yw := if okY then yw else d.yw
       ratedWhite := if white = 0 then 500 else white, calDrive := cal.map fun c => min 191 c },
     okP && okY && white != 0 && cal.all fun c => decide (c ≤ 191))

/-- The tile signer’s certificate, at offset 0x0D0 of the identity (R108, R345). -/
def State.tileCert (s : State) : List Byte := s.flashBytes 0xD0 256

/-- The factory partition is accepted (R109). -/
def State.factoryValid (s : State) : Bool :=
  s.identPresent && sha384 (s.flashBytes 0xA00000 0x1000000) == s.flashBytes 0x40 48 && certOk s.tileCert 3
    && ecdsaOk (certKey s.tileCert) (s.flashBytes 0 0x70) (s.flashBytes 0x70 96)

/-- A user calibration half is valid (R112). -/
def State.userValid (s : State) (h : Bool) : Bool :=
  let a := userHalfAt h
  s.identAt a 4 == 0x4C414355 && s.identAt (a + 4) 4 == 1 && s.identAt (a + 0x10) 4 == 3145728 && s.identAt (a + 0x3C) 4 == 0x5A5AC3C3
    && bytes256 (sha256 (s.flashBytes (a + 0x10000) 3145728)) == s.flashBytes (a + 0x14) 32

/-- The half with the newer GENERATION among two that may be valid; half A when they are equal, or exactly 2^31 apart
(DESIGN CHOICE, log entry 86). -/
def newerHalf (okA okB : Bool) (genA genB : Word) : Option Bool :=
  if okA && okB then some (newer32 genB genA) else if okA then some false else if okB then some true else none

/-- The user half that BOOT loads (R112). -/
def State.bootUser (s : State) : State :=
  let gen := fun (h : Bool) => BitVec.ofNat 32 (s.identAt (userHalfAt h + 8) 4)
  match newerHalf (s.userValid false) (s.userValid true) (gen false) (gen true) with
  | none => s.raise 0x53 0
  | some h => s.onCol fun c =>
    { c with userOk := true, userAny := true, userHalf := h, userGen := gen h, userEpoch := BitVec.ofNat 32 (s.identAt (userHalfAt h + 0xC) 4) }

/-- The owner idle plane is accepted (R113, R363). -/
def State.idleValid (s : State) : Bool :=
  let a := 0x240000
  s.ward.owned && s.identAt a 4 == 0x4C444950 && s.identAt (a + 4) 4 == 1 && s.flashBytes (a + 8) 16 == idBytes s.ward.ownerId
    && s.identAt (a + 0x18) 4 == 2097152 && s.identAt (a + 0x1C) 4 == 0 && sha384 (s.flashBytes 0x40000 2097152) == s.flashBytes (a + 0x20) 48
    && ecdsaOk s.ward.ownerPub (s.flashBytes a 80) (s.flashBytes (a + 80) 96)

/-- Steps 1 to 5 of R114, with the outcomes of R115. -/
def State.bootCalibration (s : State) : State :=
  let id := s.readIdentity
  let fac := s.factoryValid
  let s1 := s.onCol fun c => { c with ident := id.1, identOk := s.identPresent, factoryOk := fac }
  let s2 := (if id.2 && fac then s1 else s1.raise 0x52 0).bootUser
  let s3 := (s2.each 1048576 State.rebuildRec).onCol fun c => { c with calLoaded := true }
  if s.idleValid then (s3.dramStore 0x2E00000 (s3.flashBytes 0x40000 2097152)).onCol fun c => { c with idleOk := true }
  else s3.raise 0x54 0

/-- The COLOUR group that BOOT puts in force: the identity matrix where a coefficient of its preset lies outside −2 to +2 (R84). -/
def bootActive (prims : List Nat) (g : ColourGroup) : ActiveColour :=
  let a := landColour prims g {}
  if gamutOutside a.g then { a with g := gamutIdentity } else a

/-- Step 6 of R114: colour settings and drive levels from the identity (R116, R159). -/
def State.bootColour (s : State) : State :=
  let id := s.col.ident
  let g : ColourGroup := { peakRef := id.ratedWhite, yw := id.yw }
  let drive := pack ((List.range 3).map fun i => (10 * i, id.calDrive.getD i 0))
  (s.onCol fun c => { c with shadow := g, active := bootActive id.prims g, envShadow := [], envActive := [], envLowest := 0xFFFF }).onRings
    fun u => { u with rings := u.rings.map fun r => { r with drive := drive } }

/-! ### The ageing model and the ledger (R190 to R196) -/

/-- The knots of one colour of the stored model (R193). -/
def State.modelKnots (s : State) (i : Nat) : List (Nat × Nat) :=
  (List.range 16).map fun k => (s.identAt (0x3F014 + 128 * i + 8 * k) 4, s.identAt (0x3F018 + 128 * i + 8 * k) 2)

/-- The knots of a colour obey R194. -/
def knotsOk (k : List (Nat × Nat)) : Bool :=
  (k.getD 0 (1, 0)).1 == 0 && (List.range 15).all fun i =>
    decide ((k.getD i (0, 0)).1 ≤ (k.getD (i + 1) (0, 0)).1) && decide ((k.getD (i + 1) (0, 0)).2 ≤ (k.getD i (0, 0)).2)

/-- The stored ageing model (R193), none when it breaks a rule of R194. -/
def State.readModel (s : State) : Option AgeModel :=
  let tRef := ofSfield 16 (s.identAt 0x3F008 2)
  let dbl := s.identAt 0x3F00A 2
  let level := (List.range 3).map fun i => s.identAt (0x3F00C + 2 * i) 2
  let knots := (List.range 3).map s.modelKnots
  if s.identAt 0x3F000 4 = 0x4C444D41 ∧ s.identAt 0x3F004 4 = 1 ∧ sha384 (s.flashBytes 0x3F000 512) = s.flashBytes 0x3F200 48
      ∧ certOk s.tileCert 3 ∧ ecdsaOk (certKey s.tileCert) (s.flashBytes 0x3F000 0x230) (s.flashBytes 0x3F230 96)
      ∧ (-640 ≤ tRef ∧ tRef ≤ 1360) ∧ (64 ≤ dbl ∧ dbl ≤ 640) ∧ level.all (fun p => decide (0x4000 ≤ p ∧ p ≤ 0x8000)) ∧ knots.all knotsOk then
    some { tRef := tRef, dbl := dbl, level := level, knots := knots }
  else none

/-- The header of a ledger half is valid (R190). -/
def State.ledgerHeaderOk (s : State) (h : Bool) : Bool :=
  let a := ledgerHalfAt h
  s.identAt a 4 == 0x5247444C && s.identAt (a + 4) 4 == 1 && s.identAt (a + 0x30) 4 == 18874368 && s.identAt (a + 0xFFC) 4 == 0x5A5AC3C3
    && s.identAt (a + 0xFF8) 4 == crc32 (s.flashBytes a 0xFF8) && s.identAt (a + 0xC) 16 == s.col.ident.uid.toNat

/-- A ledger half is valid (R190). -/
def State.ledgerValid (s : State) (h : Bool) : Bool :=
  s.ledgerHeaderOk h
    && bytes256 (sha256 (s.flashBytes (ledgerHalfAt h + 0x10000) 18874368)) == s.flashBytes (ledgerHalfAt h + 0x34) 32

/-- A ledger half loaded (R189, R191). -/
def State.loadLedger (s : State) (h : Bool) : State :=
  let a := ledgerHalfAt h
  (s.dramStore (doseAt 0) (s.flashBytes (a + 0x10000) 18874368)).onAge fun x =>
    { x with
      ledgerOk := true, anyValid := true, newestB := h, half := h, gen := BitVec.ofNat 32 (s.identAt (a + 8) 4), opBase := s.identAt (a + 0x1C) 8
      passCount := BitVec.ofNat 32 (s.identAt (a + 0x24) 4), ovr := (List.range 3).map fun i => s.identAt (a + 0x28 + 2 * i) 2
      exclude := s.identAt (a + 0x2E) 2
      history := (List.range (min 192 (s.identAt (a + 0x54) 2))).map fun i =>
        { hours := s.identAt (a + 0x100 + 10 * i) 4, floors := (List.range 3).map fun c => s.identAt (a + 0x104 + 10 * i + 2 * c) 2 } }

/-- A ledger half holds a header that began to be written: MAGIC and FORMAT hold (R189). -/
def State.ledgerBegun (s : State) (h : Bool) : Bool :=
  let a := ledgerHalfAt h
  s.identAt a 4 == 0x5247444C && s.identAt (a + 4) 4 == 1

/-- The ledger load (R191, R192): a newer half that is invalid for whatever reason leaves the older one, with LEDGER_FALLBACK. Which half is
newer its GENERATION says where MAGIC and FORMAT hold (DEDUCED, log entry 47). -/
def State.bootLedger (s : State) : State :=
  let gen := fun (h : Bool) => BitVec.ofNat 32 (s.identAt (ledgerHalfAt h + 8) 4)
  let first := newerHalf (s.ledgerBegun false) (s.ledgerBegun true) (gen false) (gen true)
  match newerHalf (s.ledgerValid false) (s.ledgerValid true) (gen false) (gen true) with
  | none => ({ s with dram := s.dram.filter fun c => !(decide (doseAt 0 ≤ c.1) && decide (c.1 < doseAt 3145728)) }).raise 0x91 0
  | some h => if first == some h then s.loadLedger h else (s.loadLedger h).raise 0x99 0

/-- The ageing model and the ledger, then the first plan, applied whole (R191, R194, R196). -/
def State.bootAgeing (s : State) : State :=
  let s1 := match s.readModel with
    | some m => s.onAge fun a => { a with model := m, modelOk := true }
    | none => s.raise 0x94 0
  let s2 := (s1.bootLedger.planPass true).rewriteAll
  { s2 with
    col := { s2.col with res := s2.age.resNext.getD s2.col.res }
    age := { s2.age with resNext := none } }

/-! ### BOOT -/

/-- DRAM training (R204, R490): the timing set in force, the read and write eyes of the byte lanes, and the installed
size. -/
def State.bootDram (s : State) (gib : Nat) (readEyes writeEyes : List Nat) : State :=
  let s1 := s.onEng fun e => { e with trained := true, dramGib := gib }
  (s1.onAge fun a => { a with memSet := a.nextSet, writeEyes := writeEyes }).memEyes readEyes

/-- Steps 1 and 2 of R490, and the Cairn plane, which BOOT loads also where no image verifies (R470, R474). -/
def State.bootFirst (s : State) (obs : BootObs) : State :=
  let s1 := { s with
    eng := { s.eng with st := .boot, prev := .standby, begun := true }
    pwr := { s.pwr with logicHeld := false, sameCycle := false, clksel := obs.clksel, refOk := true, rootLock := true }
    nvm := { s.nvm with bootAt := s.time.local_ }
    ward := { s.ward with katOk := obs.katOk } }
  let s2 := obs.nvmBad.foldl (fun s i => s.onNvm fun v => v.spoilAt i.val) s1
  let s3 := if obs.nvmBad.isEmpty then s2 else s2.raise 0xD0 0
  let s4 := if obs.checksOk then s3 else s3.raise 0x18 0
  ((s4.onNvm Nvm.replay).bootSafety obs.straps obs.safetyOk).bootSlot.bootCairn

/-- The logic die is released (R22): PRESENT_L asserted, the hot-swap controller ON, the supplies sequenced, the temperature of R443,
and no reset source holding: the release waits for a reference within limits also where another reset came before CLOCK’s (R488). -/
def State.released (s : State) : Bool :=
  let p := s.pwr
  s.eng.st == .standby && p.present && !p.departing && p.hsw == .on && p.sequenced && !p.shutdownPending && !p.holdPin && !p.holdClock
    && !p.clockFault && !p.holdThermal

/-- BOOT_START (R22, R490): steps 1 to 5 but for the rings; the first PMBus command asks for the 750 mV that the core starts at (R482). Without a valid image only the ROM loader runs (R468); without DRAM BOOT
does not complete (R406). -/
def execBootStart (obs : BootObs) (s : State) : Host.Outcome State Fault Refusal :=
  if !(s.released || (s.eng.st == .boot && !s.eng.begun)) then .next s
  else
    let s1 := s.bootFirst obs
    if s1.eng.noImage then done (s1.onEng fun e => { e with loaded := true })
    else if !obs.dramOk then done (s1.raise 0x05 0)
    else
      let s2 := (((s1.bootDram obs.dramGib.toNat (obs.readEyes.map (·.toNat)) (obs.writeEyes.map (·.toNat))).askTrim.setCore 750 obs.pmbusOk false).bootSettings
        obs.migrates).bootProgram
      let s3 := s2.bootCalibration.bootColour.bootAgeing
      done { s3 with eng := { s3.eng with loaded := true }, nvm := { s3.nvm with erasing := s3.unerased } }

/-! ### Rings (R142, R173) -/

/-- Every ring brought up (R142), and the board derating at the target of the first readings (R173). -/
def State.bringRings (s : State) (rings : List RingBring) : State :=
  let none_ : RingBring := { found := 0, answered := false, aLast := none, bFirst := none, rtA := 0, rtB := 0, slots := [] }
  let s1 := s.each 64 fun s k => s.bringRing k (rings.getD k none_)
  let temps := s1.boardTemps
  s1.onLed fun l => { l with board := (List.range 64).map fun k =>
    { l.board.getD k {} with k := derateTarget (temps.getD k (880, 3)).1 (16 * l.kneeC) } }

/-! ### The end of BOOT -/

/-- The faults that the power die held for this BOOT (R477, R483, R490); their conditions are over. -/
def State.heldFaults (s : State) : State :=
  let s1 := s.pwr.heldTrips.foldl (fun s d => s.raise 0xE2 d) s
  let s2 := if s.pwr.coreFaultHeld then (s1.raise 0xE4 0).endCond 0xE4 0 else s1
  s2.onPwr fun p => { p with heldTrips := [], coreFaultHeld := false }

/-- An input that is safe or FAULTED demands (R376, R382); the condition of its latch, kept by channel B, is raised (log entry 92). -/
def State.checkInput (s : State) (i : InputAB) : State :=
  let x := s.saf.input i
  let s1 := if x.byDisc then s.raise 0xC6 (inputNo i) else s
  let s2 := if x.byPulse then s1.raise 0xC7 (inputNo i) else s1
  if x.filt0 && x.filt1 && !x.faulted then s2 else s2.inputDemand i

/-- BOOT leads to SERVICE without a valid image, to SAFE with a cause or an open CRITICAL record, else to JOIN (R22, R378, R490). The
ports run from here on (R262). -/
def State.leaveBoot (s : State) : State :=
  let ports := fun (s : State) => (s.startPort .a).startPort .b
  if s.eng.noImage then ports (s.setEng .service)
  else if s.safeDemand || s.criticalOpen then
    let s1 := ports (s.setEng .safe)
    let s2 := if s1.saf.func == some .ssg then s1.performSsg else s1
    if s2.unitFenced 5 then s2 else s2.startThreads
  else (ports s).enterJoin

/-- BOOT_COMPLETE (R490): the rings once self-trim has completed (R445), the inputs, the held records, and the transition. -/
def execBootComplete (ms : BitVec 16) (rings : List RingBring) (s : State) : Host.Outcome State Fault Refusal :=
  if s.eng.st != .boot || !s.eng.loaded then .next s
  else if !s.eng.noImage && (s.therm.trimAsked || s.therm.trimBusy) then .next s
  else
    let s1 := if s.eng.noImage then s else s.bringRings rings
    let s2 := ((s1.checkInput .a).checkInput .b).heldFaults.settle
    done (s2.leaveBoot.onPwr fun p => { p with bootMs := ms.toNat })

end Sys2Proof.Machine
end

