-- ==== Sys2Proof/Machine/Power.lean ====
section
/-!
DEFINITION. Sys2Proof/Machine/Power.lean: power entry, supplies, clocks, resets and departure (chapter 17).
-/

namespace Sys2Proof.Machine

/-- HOUSEKEEPING_UP (R475, R489): OFF to STANDBY; a power-on reset. The release waits for the temperature of R443. -/
def execHousekeepingUp (s : State) : Host.Outcome State Fault Refusal :=
  if s.eng.st != .off then .next s
  else done ((s.onEng fun e => { e with st := .standby }).onPwr fun p =>
    { p with hkOk := true, cause := .powerOn, others := 0, resets := 1, logicHeld := true, holdThermal := true, sameCycle := true })

/-- HOUSEKEEPING_LOST (R22, R475): OFF. The power die’s own registers reset too; channel B loses its causes and inputs. -/
def execHousekeepingLost (s : State) : Host.Outcome State Fault Refusal :=
  if s.eng.st == .off then .next s
  else
    let s1 := s.logicReset
    done { s1 with
      eng := { st := .off }
      saf := { ({} : Saf) with strapsNow := s.saf.strapsNow }
      pwr := { ({} : Pwr) with
        present := s.pwr.present, hsw := .gateOff, auxEn0 := false, auxEn1 := false, coreEn := false, auxPg0 := false, auxPg1 := false
        corePg := false, sequenced := false, hkOk := false, logicHeld := true, cause := .none, resets := 0, attempts := 0
        sealHigh := s.pwr.sealHigh } }

/-- INRUSH_START (R476): PRESENT_L asserted for 100 ms. -/
def execInrushStart (s : State) : Host.Outcome State Fault Refusal :=
  if s.pwr.hsw == .gateOff && s.pwr.cooldownOver && s.eng.st != .off && !s.pwr.departing then
    done (s.onPwr fun p => { p with hsw := .inrush, present := true, attempts := inc 16 p.attempts })
  else .next s

/-- INRUSH_COMPLETE (R476, R483): ON, and step 1 of the supply sequence. -/
def execInrushComplete (ms : BitVec 16) (s : State) : Host.Outcome State Fault Refusal :=
  if s.pwr.hsw == .inrush && !s.pwr.holdInrush then
    done (s.onPwr fun p => { p with hsw := .on, inrushMs := ms.toNat, auxEn0 := p.auxEn0 || !p.shutdownPending })
  else .next s

/-- An entry to TRIPPED (R476, R477), held for the next BOOT. -/
def Pwr.trip (p : Pwr) (detail : Nat) : Pwr :=
  { p with hsw := .tripped, cooldownOver := false, heldTrips := (p.heldTrips ++ [detail]).take 8 }

/-- INRUSH_TIMEOUT (R476, R477). -/
def execInrushTimeout (s : State) : Host.Outcome State Fault Refusal :=
  if s.pwr.hsw == .inrush && !s.pwr.holdInrush then
    done (s.onPwr fun p => { p.trip 0 with inrushFails := inc 8 p.inrushFails })
  else .next s

/-- A trip from ON (R477, R489): the switched bus collapses, and the power die holds the logic die in reset with cause SUPPLY. -/
def State.tripOn (s : State) (detail : Nat) : State :=
  ((s.onPwr fun p => { p.trip detail with trips := inc 8 p.trips }).holdReset .supply).dropSupplies

/-- BREAKER_TRIP (R476). -/
def execBreakerTrip (s : State) : Host.Outcome State Fault Refusal := if s.pwr.hsw == .on then done (s.tripOn 1) else .next s

/-- BREAKER_OVERLOAD (R476). -/
def execBreakerOverload (s : State) : Host.Outcome State Fault Refusal := if s.pwr.hsw == .on then done (s.tripOn 2) else .next s

/-- BUS_UV (R22, R476): the gate goes off and the engine is in STANDBY. BUS_UV is recorded first, and whatever severity FLT_SEV gives it,
the reset outranks SAFE (R23); the reset’s cause is SUPPLY (DEDUCED, log entry 16). -/
def execBusUv (s : State) : Host.Outcome State Fault Refusal :=
  if s.eng.st == .off then .next s
  else
    let s1 := s.onPwr fun p => { p with hsw := .gateOff }
    done (if s.running then (s1.resetWith .supply).raise 0xE0 0 else s1.dropSupplies)

/-- TRIP_COOLDOWN_END (R476). -/
def execTripCooldownEnd (s : State) : Host.Outcome State Fault Refusal :=
  if s.pwr.cooldownOver then .next s
  else done (s.onPwr fun p => { p with cooldownOver := true, hsw := if p.hsw == .tripped then .gateOff else p.hsw })

/-- BUS_OV (R478): SAFE with the gate still on. -/
def execBusOv (s : State) : Host.Outcome State Fault Refusal := if s.running then done (s.raise 0xE1 0) else .next s

/-- POWER_GOOD_RISE (R483): the next enable, or the release of the logic die. -/
def execPowerGoodRise (which : PowerGood) (s : State) : Host.Outcome State Fault Refusal :=
  let p := s.pwr
  match which with
  | .aux0 => if p.auxEn0 && !p.auxPg0 then done (s.onPwr fun p => { p with auxPg0 := true, auxEn1 := true }) else .next s
  | .aux1 => if p.auxEn1 && !p.auxPg1 then done (s.onPwr fun p => { p with auxPg1 := true, coreEn := true }) else .next s
  | .core => if p.coreEn && !p.corePg then done (s.onPwr fun p => { p with corePg := true, sequenced := true }) else .next s

/-- All enables low, and with them the power-good inputs (R483, R484). -/
def Pwr.enablesOff (p : Pwr) : Pwr :=
  { p with auxEn0 := false, auxEn1 := false, coreEn := false, auxPg0 := false, auxPg1 := false, corePg := false, sequenced := false }

/-- SEQUENCE_TIMEOUT (R483): CORE_SUPPLY_FAULT is held for the next BOOT. -/
def execSequenceTimeout (s : State) : Host.Outcome State Fault Refusal :=
  let p := s.pwr
  if s.eng.st == .standby && !p.sequenced && ((p.auxEn0 && !p.auxPg0) || (p.auxEn1 && !p.auxPg1) || (p.coreEn && !p.corePg)) then
    done (s.onPwr fun p => { p.enablesOff with coreFaultHeld := true, seqFailed := true })
  else .next s

/-- SEQUENCE_RETRY (R483): step 1 again. -/
def execSequenceRetry (s : State) : Host.Outcome State Fault Refusal :=
  if s.pwr.seqFailed && s.pwr.hsw == .on then done (s.onPwr fun p => { p with seqFailed := false, auxEn0 := true }) else .next s

/-- SUPPLY_SHUTDOWN (R484): the enables fall in order; with the hot-swap controller still ON a new sequence starts once all three
have been low (R489, log entry 16). -/
def execSupplyShutdown (s : State) : Host.Outcome State Fault Refusal :=
  if s.pwr.shutdownPending && s.eng.st == .standby then
    done (s.onPwr fun p => { p.enablesOff with shutdownPending := false, auxEn0 := p.hsw == .on })
  else .next s

/-- CORE_SUPPLY_FAULT (R485), by row; a row that resets outranks SAFE (R23). -/
def execCoreSupplyFault (supply : Supply) (s : State) : Host.Outcome State Fault Refusal :=
  if !s.running then .next s
  else match supply with
    | .coreLow => done ((s.resetWith .supply).raise 0xE4 0)
    | .coreWindow => done (s.raise 0xE4 0)
    | .aux => done ((s.resetWith .supply).raise 0xE4 1)

/-- HOUSEKEEPING_UV (R485). -/
def execHousekeepingUv (s : State) : Host.Outcome State Fault Refusal :=
  if s.running then done ((s.onPwr fun p => { p with hkOk := false }).raise 0xE3 0) else .next s

/-- REFCLK_LOSS (R488). While the logic die is held no fault is raised, and the release waits for the reference. -/
def execRefclkLoss (s : State) : Host.Outcome State Fault Refusal :=
  if s.running then done ((s.onPwr fun p => { p with refOk := false, clockFault := true }).raise 0x01 0)
  else if s.eng.st == .off then .next s
  else done (s.onPwr fun p => { p with holdClock := true })

/-- PLL_UNLOCK (R488). -/
def execPllUnlock (s : State) : Host.Outcome State Fault Refusal :=
  if s.running then done ((s.onPwr fun p => { p with rootLock := false, clockFault := true }).raise 0x00 0) else .next s

/-- CLOCK_RESET (R488): 10 ms after a clock fault, also where another reset has come first; the release waits for the reference. -/
def execClockReset (s : State) : Host.Outcome State Fault Refusal :=
  if s.eng.st != .off && s.pwr.clockFault then
    done ((s.holdReset .clock).onPwr fun p => { p with holdClock := true, clockFault := false })
  else .next s

/-- CLOCK_RECOVERED (R488). -/
def execClockRecovered (s : State) : Host.Outcome State Fault Refusal :=
  if s.pwr.holdClock then done (s.onPwr fun p => { p with holdClock := false }) else .next s

/-- PIN_RESET (R489): PORST_L low for 10 µs; 1 ms after it rises. -/
def execPinReset (edge : PinEdge) (s : State) : Host.Outcome State Fault Refusal :=
  match edge with
  | .low => if s.eng.st == .off then .next s else done ((s.holdReset .pin).onPwr fun p => { p with holdPin := true })
  | .released => if s.pwr.holdPin then done (s.onPwr fun p => { p with holdPin := false }) else .next s

/-- MGMT_WATCHDOG (R406, R489): SAFE, the NVM log entry, then the reset. -/
def execMgmtWatchdog (s : State) : Host.Outcome State Fault Refusal :=
  if s.running then done ((s.resetWith .watchdog).raise 0x02 0) else .next s

/-- JTAG_SYSTEM_RESET (R346, R365, R489): only while JTAG is open. -/
def execJtagSystemReset (s : State) : Host.Outcome State Fault Refusal :=
  if s.running && s.ward.jtagActs .debug == .debug then done (s.holdReset .debug) else .next s

/-- A port enters PARKED (R278). -/
def State.parkPort (s : State) (p : Port) : State :=
  s.onLink p fun l => { l with st := .parked, width := 0, used := 0, agreed := false, retraining := false }

/-- A port that is not in ALIGN or ACTIVE enters PARKED at once (R278). -/
def State.parkIdle (s : State) (p : Port) : State := if (s.link p).st == .align || s.active p then s else s.parkPort p

/-- DEPARTURE (R27, R480, steps 1 to 3): PRESENT_L is taken as deasserted. In STANDBY only the gate goes off (R476). -/
def execDeparture (s : State) : Host.Outcome State Fault Refusal :=
  if !s.pwr.present || s.eng.st == .off then .next s
  else if !s.running then done ((s.onPwr fun p => { p with present := false, hsw := .gateOff }).dropSupplies)
  else
    let s1 := ((s.onPwr fun p => { p with present := false, departing := true, departs := inc 16 p.departs }).onEng fun e =>
      { e with leaving := true }).stopStores
    done ((((((s1.raise 0xE5 0).railOff).driveZero).sendDepart).parkIdle .a).parkIdle .b)

/-- PORT_PARK (R278, R480): the used lanes send what waits, the departure frame last of it, and then 32 PARK blocks; a port that has sent
its departure frame, or that is not in ALIGN or ACTIVE, enters PARKED. The departure counts in DOWNS and in the tile map like any other departure from ACTIVE, and raises no LINK_DOWN (R277). -/
def execPortPark (p : Port) (s : State) : Host.Outcome State Fault Refusal :=
  let l := s.link p
  if !s.pwr.departing || l.st == .parked || (l.st == .active && (l.queue ++ l.onLine.toList).any fun q => q.departure && !q.whole) then .next s
  else if l.st == .active && l.queue.any (fun q => q.departure) then .next s
  else
    let s1 := if l.st == .active then
        (((s.cutOff p).onLink p fun l => { (l.lineDone.flush.sendPark) with downs := inc 8 l.downs }.dropTraffic).mapPortLoss p)
      else if l.st == .align then s.onLink p fun l => l.flush.sendPark else s
    done (s1.parkPort p)

/-- DEPARTURE_RESET (R480, step 5): a departure completes also where another reset has come first (R481). -/
def execDepartureReset (us : BitVec 16) (s : State) : Host.Outcome State Fault Refusal :=
  if s.pwr.departing && s.eng.st != .off then
    done ((s.holdReset .present).onPwr fun p => { p with lastUs := us.toNat, departHeld := true })
  else .next s

/-- DEPARTURE_GATE_OFF (R480, step 6; R481). -/
def execDepartureGateOff (s : State) : Host.Outcome State Fault Refusal :=
  if s.pwr.departing && s.pwr.departHeld then
    done ((s.onPwr fun p => { p with hsw := .gateOff, departing := false, departHeld := false }).dropSupplies)
  else .next s

/-- JOIN_COMPLETE (R22, R307, R491): tile ID assigned, map received for the assigned epoch, a time domain acquired. -/
def execJoinComplete (ms : BitVec 16) (s : State) : Host.Outcome State Fault Refusal :=
  if s.eng.st == .join && s.wall.id != 0 && s.wall.assigned.isSome && s.wall.doneEpoch == s.wall.assigned && s.time.valid then
    done (((s.onPwr fun p => { p with joinMs := ms.toNat }).onEng fun e => { e with joined := true }).enterDark)
  else .next s

/-- SHUTDOWN_RESET (R444, step 4): the logic die is held in reset after a shutdown crossing. -/
def execShutdownReset (s : State) : Host.Outcome State Fault Refusal :=
  if s.eng.shutting && s.running then
    let power := s.therm.pdieShut
    done ((s.holdReset .thermal).onPwr fun p => { p with holdInrush := power, hsw := if power then .inrush else p.hsw })
  else .next s

/-- THERMAL_RELEASE (R22, R443): sensor 0 at or below 132 °C for 500 ms, in STANDBY; every return to BOOT waits for it. -/
def execThermalRelease (reading : Int) (s : State) : Host.Outcome State Fault Refusal :=
  if s.pwr.holdThermal && s.eng.st == .standby && decide (reading ≤ 132 * 16) then
    done (s.onPwr fun p => { p with holdThermal := false, holdInrush := false })
  else .next s

end Sys2Proof.Machine
end

