-- ==== Sys2Proof/Machine/TumblerAlu.lean ====
section
/-!
DEFINITION. Sys2Proof/Machine/TumblerAlu.lean: the arithmetic, memory, control-flow and wait instructions of Tumbler
(R224 to R233).
-/

namespace Sys2Proof.Machine

/-- ADD (R224). -/
def execAdd (t : Fin 8) (rd ra rb : Fin 16) (s : State) : Host.Outcome State Fault Refusal := s.alu 0x00 t rd ra rb fun a b => a + b

/-- SUB (R224). -/
def execSub (t : Fin 8) (rd ra rb : Fin 16) (s : State) : Host.Outcome State Fault Refusal := s.alu 0x01 t rd ra rb fun a b => a - b

/-- AND (R224). -/
def execAnd (t : Fin 8) (rd ra rb : Fin 16) (s : State) : Host.Outcome State Fault Refusal := s.alu 0x02 t rd ra rb fun a b => a &&& b

/-- OR (R224). -/
def execOr (t : Fin 8) (rd ra rb : Fin 16) (s : State) : Host.Outcome State Fault Refusal := s.alu 0x03 t rd ra rb fun a b => a ||| b

/-- XOR (R224). -/
def execXor (t : Fin 8) (rd ra rb : Fin 16) (s : State) : Host.Outcome State Fault Refusal := s.alu 0x04 t rd ra rb fun a b => a ^^^ b

/-- SHL by rb[4:0] (R224). -/
def execShl (t : Fin 8) (rd ra rb : Fin 16) (s : State) : Host.Outcome State Fault Refusal :=
  s.alu 0x05 t rd ra rb fun a b => a <<< (b.toNat % 32)

/-- SHR, logical, by rb[4:0] (R224). -/
def execShr (t : Fin 8) (rd ra rb : Fin 16) (s : State) : Host.Outcome State Fault Refusal :=
  s.alu 0x06 t rd ra rb fun a b => a >>> (b.toNat % 32)

/-- SAR, arithmetic, by rb[4:0] (R224). -/
def execSar (t : Fin 8) (rd ra rb : Fin 16) (s : State) : Host.Outcome State Fault Refusal :=
  s.alu 0x07 t rd ra rb fun a b => a.sshiftRight (b.toNat % 32)

/-- MUL: the low 32 bits of the product (R224). -/
def execMul (t : Fin 8) (rd ra rb : Fin 16) (s : State) : Host.Outcome State Fault Refusal := s.alu 0x08 t rd ra rb fun a b => a * b

/-- MULHU: the high 32 bits of the unsigned product (R224). -/
def execMulhu (t : Fin 8) (rd ra rb : Fin 16) (s : State) : Host.Outcome State Fault Refusal :=
  s.alu 0x09 t rd ra rb fun a b => BitVec.ofNat 32 (a.toNat * b.toNat / 2 ^ 32)

/-- DIVU: the unsigned quotient, all ones for a divisor of zero (R224). -/
def execDivu (t : Fin 8) (rd ra rb : Fin 16) (s : State) : Host.Outcome State Fault Refusal :=
  s.alu 0x0A t rd ra rb fun a b => if b = 0 then 0xFFFFFFFF else a / b

/-- REMU: the unsigned remainder, ra for a divisor of zero (R224). -/
def execRemu (t : Fin 8) (rd ra rb : Fin 16) (s : State) : Host.Outcome State Fault Refusal :=
  s.alu 0x0B t rd ra rb fun a b => if b = 0 then a else a % b

/-- MIN, signed (R224). -/
def execMin (t : Fin 8) (rd ra rb : Fin 16) (s : State) : Host.Outcome State Fault Refusal :=
  s.alu 0x0C t rd ra rb fun a b => if b.slt a then b else a

/-- MAX, signed (R224). -/
def execMax (t : Fin 8) (rd ra rb : Fin 16) (s : State) : Host.Outcome State Fault Refusal :=
  s.alu 0x0D t rd ra rb fun a b => if a.slt b then b else a

/-- SLT, signed (R224). -/
def execSlt (t : Fin 8) (rd ra rb : Fin 16) (s : State) : Host.Outcome State Fault Refusal :=
  s.alu 0x0E t rd ra rb fun a b => if a.slt b then 1 else 0

/-- SLTU, unsigned (R224). -/
def execSltu (t : Fin 8) (rd ra rb : Fin 16) (s : State) : Host.Outcome State Fault Refusal :=
  s.alu 0x0F t rd ra rb fun a b => if a.ult b then 1 else 0

/-- ADDI (R224). -/
def execAddi (t : Fin 8) (rd ra : Fin 16) (imm : BitVec 18) (s : State) : Host.Outcome State Fault Refusal :=
  s.aluImm 0x10 t rd ra imm fun a => a + simm imm

/-- ANDI (R224). -/
def execAndi (t : Fin 8) (rd ra : Fin 16) (imm : BitVec 18) (s : State) : Host.Outcome State Fault Refusal :=
  s.aluImm 0x11 t rd ra imm fun a => a &&& uimm imm

/-- ORI (R224). -/
def execOri (t : Fin 8) (rd ra : Fin 16) (imm : BitVec 18) (s : State) : Host.Outcome State Fault Refusal :=
  s.aluImm 0x12 t rd ra imm fun a => a ||| uimm imm

/-- XORI (R224). -/
def execXori (t : Fin 8) (rd ra : Fin 16) (imm : BitVec 18) (s : State) : Host.Outcome State Fault Refusal :=
  s.aluImm 0x13 t rd ra imm fun a => a ^^^ uimm imm

/-- SHLI by imm[4:0]; imm[17:5] is zero in the word (R224). -/
def execShli (t : Fin 8) (rd ra : Fin 16) (imm : BitVec 5) (s : State) : Host.Outcome State Fault Refusal :=
  s.aluImm 0x14 t rd ra (imm.zeroExtend 18) fun a => a <<< imm.toNat

/-- SHRI, logical (R224). -/
def execShri (t : Fin 8) (rd ra : Fin 16) (imm : BitVec 5) (s : State) : Host.Outcome State Fault Refusal :=
  s.aluImm 0x15 t rd ra (imm.zeroExtend 18) fun a => a >>> imm.toNat

/-- SARI, arithmetic (R224). -/
def execSari (t : Fin 8) (rd ra : Fin 16) (imm : BitVec 5) (s : State) : Host.Outcome State Fault Refusal :=
  s.aluImm 0x16 t rd ra (imm.zeroExtend 18) fun a => a.sshiftRight imm.toNat

/-- LUI: uimm << 14 (R224). -/
def execLui (t : Fin 8) (rd : Fin 16) (imm : BitVec 18) (s : State) : Host.Outcome State Fault Refusal :=
  s.aluImm 0x17 t rd 0 imm fun _ => uimm imm <<< 14

/-- SLTI, signed (R224). -/
def execSlti (t : Fin 8) (rd ra : Fin 16) (imm : BitVec 18) (s : State) : Host.Outcome State Fault Refusal :=
  s.aluImm 0x18 t rd ra imm fun a => if a.slt (simm imm) then 1 else 0

/-- LD: a data word, or the DMEM exception (R224). -/
def execLd (t : Fin 8) (rd ra : Fin 16) (imm : BitVec 18) (s : State) : Host.Outcome State Fault Refusal :=
  s.issue t (encI 0x19 rd ra imm) fun x =>
    if wordOk (x.addr ra imm) then s.setResult t rd (s.dmemWord (x.addr ra imm / 4)) else s.except t 3

/-- LDB: a data byte, zero-extended (R224). -/
def execLdb (t : Fin 8) (rd ra : Fin 16) (imm : BitVec 18) (s : State) : Host.Outcome State Fault Refusal :=
  s.issue t (encI 0x1A rd ra imm) fun x =>
    if x.addr ra imm < 16384 then s.setResult t rd ((s.dmemByte (x.addr ra imm)).zeroExtend 32) else s.except t 3

/-- ST: a data word is written (R224). -/
def execSt (t : Fin 8) (rd ra : Fin 16) (imm : BitVec 18) (s : State) : Host.Outcome State Fault Refusal :=
  s.issue t (encI 0x1B rd ra imm) fun x =>
    if wordOk (x.addr ra imm) then (s.setDmem (x.addr ra imm / 4) (x.reg rd)).onThread t Thread.advance else s.except t 3

/-- STB: a data byte is written (R224). -/
def execStb (t : Fin 8) (rd ra : Fin 16) (imm : BitVec 18) (s : State) : Host.Outcome State Fault Refusal :=
  s.issue t (encI 0x1C rd ra imm) fun x =>
    let a := x.addr ra imm
    if a < 16384 then (s.setDmem (a / 4) (setByte (s.dmemWord (a / 4)) (a % 4) ((x.reg rd).truncate 8))).onThread t Thread.advance
    else s.except t 3

/-- SWAP: rd and a data word are exchanged (R224). -/
def execSwap (t : Fin 8) (rd ra : Fin 16) (imm : BitVec 18) (s : State) : Host.Outcome State Fault Refusal :=
  s.issue t (encI 0x1D rd ra imm) fun x =>
    if wordOk (x.addr ra imm) then
      (s.setDmem (x.addr ra imm / 4) (x.reg rd)).setResult t rd (s.dmemWord (x.addr ra imm / 4))
    else s.except t 3

/-- BEQ (R224). -/
def execBeq (t : Fin 8) (rd ra : Fin 16) (off : BitVec 18) (s : State) : Host.Outcome State Fault Refusal :=
  s.branch 0x20 t rd ra off fun a b => a == b

/-- BNE (R224). -/
def execBne (t : Fin 8) (rd ra : Fin 16) (off : BitVec 18) (s : State) : Host.Outcome State Fault Refusal :=
  s.branch 0x21 t rd ra off fun a b => a != b

/-- BLT, signed (R224). -/
def execBlt (t : Fin 8) (rd ra : Fin 16) (off : BitVec 18) (s : State) : Host.Outcome State Fault Refusal :=
  s.branch 0x22 t rd ra off fun a b => a.slt b

/-- BGE, signed (R224). -/
def execBge (t : Fin 8) (rd ra : Fin 16) (off : BitVec 18) (s : State) : Host.Outcome State Fault Refusal :=
  s.branch 0x23 t rd ra off fun a b => !a.slt b

/-- BLTU, unsigned (R224). -/
def execBltu (t : Fin 8) (rd ra : Fin 16) (off : BitVec 18) (s : State) : Host.Outcome State Fault Refusal :=
  s.branch 0x24 t rd ra off fun a b => a.ult b

/-- BGEU, unsigned (R224). -/
def execBgeu (t : Fin 8) (rd ra : Fin 16) (off : BitVec 18) (s : State) : Host.Outcome State Fault Refusal :=
  s.branch 0x25 t rd ra off fun a b => !a.ult b

/-- JMP (R223, R224). -/
def execJmp (t : Fin 8) (off : BitVec 18) (s : State) : Host.Outcome State Fault Refusal :=
  s.issue t (encI 0x26 0 0 off) fun x => s.transfer t (x.rel off) id

/-- JR: the PC from a register (R223, R224). -/
def execJr (t : Fin 8) (ra : Fin 16) (s : State) : Host.Outcome State Fault Refusal :=
  s.issue t (encR 0x27 0 ra 0) fun x => s.transfer t ((x.reg ra).toNat : Int) id

/-- The return address pushed (R224). -/
def Thread.push (x : Thread) : Thread := { x with stack := ((x.pc + 1) % 16384) :: x.stack }

/-- CALL: pushes PC + 1; a full stack raises STACK. With a target out of range as well, TARGET is reported: R224 names it first
(DEDUCED, log entry 13). -/
def execCall (t : Fin 8) (off : BitVec 18) (s : State) : Host.Outcome State Fault Refusal :=
  s.issue t (encI 0x28 0 0 off) fun x =>
    if x.stack.length ≥ 8 && decide (16 ≤ x.rel off ∧ x.rel off ≤ 16383) then s.except t 7
    else s.transfer t (x.rel off) Thread.push

/-- CALLR (R223, R224). -/
def execCallr (t : Fin 8) (ra : Fin 16) (s : State) : Host.Outcome State Fault Refusal :=
  s.issue t (encR 0x29 0 ra 0) fun x =>
    if x.stack.length ≥ 8 && targetOk (x.reg ra).toNat then s.except t 7
    else s.transfer t ((x.reg ra).toNat : Int) Thread.push

/-- RET: pops the PC; an empty stack raises STACK (R224). -/
def execRet (t : Fin 8) (s : State) : Host.Outcome State Fault Refusal :=
  s.issue t (encR 0x2A 0 0 0) fun x =>
    match x.stack with
    | [] => s.except t 7
    | pc :: rest => s.onThread t fun y => ({ y with stack := rest }).jump pc

/-- HALT: the thread halts with CAUSE 1; no fault (R224, R225). -/
def execHalt (t : Fin 8) (s : State) : Host.Outcome State Fault Refusal :=
  s.issue t (encR 0x2B 0 0 0) fun _ => s.onThread t fun x => x.halt 1

/-- WAITF: waits for the uimm-th take point, 0 counting as 1 (R230). -/
def execWaitf (t : Fin 8) (rd : Fin 16) (imm : BitVec 18) (s : State) : Host.Outcome State Fault Refusal :=
  s.issue t (encI 0x2C rd 0 imm) fun _ => s.onThread t fun x => x.sleep (.take rd (max 1 imm.toNat))

/-- WAITT: compare n gets the target (rb[15:0] << 32) | ra in ns (R231). -/
def execWaitt (t : Fin 8) (rd ra rb : Fin 16) (s : State) : Host.Outcome State Fault Refusal :=
  s.issue t (encR 0x2D rd ra rb) fun x =>
    (s.onThread t fun y => y.sleep (.compare rd)).armCompare t ((x.reg ra).toNat + fld (x.reg rb) 15 0 * 2 ^ 32)

/-- WAITD: the target is the time at issue plus (ra + uimm) µs, a 32-bit sum (R231). -/
def execWaitd (t : Fin 8) (rd ra : Fin 16) (imm : BitVec 18) (s : State) : Host.Outcome State Fault Refusal :=
  s.issue t (encI 0x2E rd ra imm) fun x =>
    (s.onThread t fun y => y.sleep (.compare rd)).armCompare t
      ((s.nowNs + (x.reg ra + uimm imm).toNat * 1000) % 2 ^ 48)

/-- WAITE: waits for events of the mask, or uimm µs; no mask and no timeout raises WAIT; events already pending end it at once
(R229). -/
def execWaite (t : Fin 8) (rd ra : Fin 16) (imm : BitVec 18) (s : State) : Host.Outcome State Fault Refusal :=
  s.issue t (encI 0x2F rd ra imm) fun x =>
    if x.reg ra = 0 && imm = 0 then s.except t 9
    else s.onThread t fun y => (y.sleep (.events rd (x.reg ra) imm.toNat)).checkEvents

/-- A read of the time (R232). -/
def State.timeSel (s : State) (x : Thread) (sel : Nat) : Word :=
  if sel = 0 then BitVec.ofNat 32 s.nowNs
  else if sel = 1 then BitVec.ofNat 32 (x.snap / 2 ^ 32 % 2 ^ 16)
  else if sel = 2 then BitVec.ofNat 32 s.nextFlip
  else if sel = 3 then BitVec.ofNat 32 s.framePeriodNs
  else BitVec.ofNat 32 s.localUs

/-- TIME: reads time by a selector; selector 0 takes the snapshot (R232). -/
def execTime (t : Fin 8) (rd : Fin 16) (sel : Fin 5) (s : State) : Host.Outcome State Fault Refusal :=
  s.issue t (encI 0x30 rd 0 (BitVec.ofNat 18 sel.val)) fun x =>
    (s.setResult t rd (s.timeSel x sel.val)).onThread t fun y => { y with snap := if sel.val = 0 then s.nowNs else y.snap }

/-- ILLEGAL_INSTRUCTION: the thread that has the issue slot reaches an illegal word (R211, R221, R225). -/
def execIllegalInstruction (t : Fin 8) (s : State) : Host.Outcome State Fault Refusal :=
  let x := s.thread t
  if s.hasSlot t && !x.runaway && !legalWord (s.progWord x.pc) then done (s.except t 2) else .next s

/-- RUNAWAY: the thread that has the issue slot has used up its run limit (R211, R213, R225). -/
def execRunaway (t : Fin 8) (s : State) : Host.Outcome State Fault Refusal :=
  let x := s.thread t
  if s.hasSlot t && x.runaway then done (s.except t 8) else .next s

/-- WAITE_TIMEOUT: the timeout of a WAITE ends with no event: rd receives 0 (R229). -/
def execWaiteTimeout (t : Fin 8) (s : State) : Host.Outcome State Fault Refusal :=
  match (s.thread t).st, (s.thread t).wait with
  | .waiting, .events rd _ us => if us = 0 then .next s else done (s.onThread t fun x => x.wake rd 0)
  | _, _ => .next s

end Sys2Proof.Machine
end

