-- ==== Sys2Proof/Machine/Dispatch.lean ====
section
/-!
DEFINITION. Sys2Proof/Machine/Dispatch.lean: one arm per command, each one direct call of its meaning.
-/

namespace Sys2Proof.Machine

def exec (i : Instr) (s : State) : Host.Outcome State Fault Refusal :=
  match i with
  | .housekeepingUp => Sys2Proof.Machine.execHousekeepingUp s
  | .housekeepingLost => Sys2Proof.Machine.execHousekeepingLost s
  | .inrushStart => Sys2Proof.Machine.execInrushStart s
  | .inrushComplete ms => Sys2Proof.Machine.execInrushComplete ms s
  | .inrushTimeout => Sys2Proof.Machine.execInrushTimeout s
  | .breakerTrip => Sys2Proof.Machine.execBreakerTrip s
  | .breakerOverload => Sys2Proof.Machine.execBreakerOverload s
  | .busUv => Sys2Proof.Machine.execBusUv s
  | .tripCooldownEnd => Sys2Proof.Machine.execTripCooldownEnd s
  | .busOv => Sys2Proof.Machine.execBusOv s
  | .powerGoodRise which => Sys2Proof.Machine.execPowerGoodRise which s
  | .sequenceTimeout => Sys2Proof.Machine.execSequenceTimeout s
  | .sequenceRetry => Sys2Proof.Machine.execSequenceRetry s
  | .supplyShutdown => Sys2Proof.Machine.execSupplyShutdown s
  | .coreSupplyFault supply => Sys2Proof.Machine.execCoreSupplyFault supply s
  | .housekeepingUv => Sys2Proof.Machine.execHousekeepingUv s
  | .refclkLoss => Sys2Proof.Machine.execRefclkLoss s
  | .pllUnlock => Sys2Proof.Machine.execPllUnlock s
  | .clockReset => Sys2Proof.Machine.execClockReset s
  | .clockRecovered => Sys2Proof.Machine.execClockRecovered s
  | .pinReset edge => Sys2Proof.Machine.execPinReset edge s
  | .mgmtWatchdog => Sys2Proof.Machine.execMgmtWatchdog s
  | .jtagSystemReset => Sys2Proof.Machine.execJtagSystemReset s
  | .departure => Sys2Proof.Machine.execDeparture s
  | .portPark p => Sys2Proof.Machine.execPortPark p s
  | .departureReset us => Sys2Proof.Machine.execDepartureReset us s
  | .departureGateOff => Sys2Proof.Machine.execDepartureGateOff s
  | .bootStart obs => Sys2Proof.Machine.execBootStart obs s
  | .bootComplete ms rings => Sys2Proof.Machine.execBootComplete ms rings s
  | .joinComplete ms => Sys2Proof.Machine.execJoinComplete ms s
  | .flip n => Sys2Proof.Machine.execFlip n s
  | .takePoint n => Sys2Proof.Machine.execTakePoint n s
  | .latchLaunch ring => Sys2Proof.Machine.execLatchLaunch ring s
  | .timeCompareFire n => Sys2Proof.Machine.execTimeCompareFire n s
  | .adcSnapshot => Sys2Proof.Machine.execAdcSnapshot s
  | .sync p f sinceStart residence => Sys2Proof.Machine.execSync p f sinceStart residence s
  | .followUp p f => Sys2Proof.Machine.execFollowUp p f s
  | .followUpTimeout p => Sys2Proof.Machine.execFollowUpTimeout p s
  | .pdelayReq p f turnaround => Sys2Proof.Machine.execPdelayReq p f turnaround s
  | .pdelayResp p f sinceStart => Sys2Proof.Machine.execPdelayResp p f sinceStart s
  | .pdelaySend p => Sys2Proof.Machine.execPdelaySend p s
  | .pdelayTimeout p => Sys2Proof.Machine.execPdelayTimeout p s
  | .domainLossTimeout d0 d1 => Sys2Proof.Machine.execDomainLossTimeout d0 d1 s
  | .holdoverExpiry => Sys2Proof.Machine.execHoldoverExpiry s
  | .slewComplete => Sys2Proof.Machine.execSlewComplete s
  | .switchBack => Sys2Proof.Machine.execSwitchBack s
  | .captureEdge source rising => Sys2Proof.Machine.execCaptureEdge source rising s
  | .frameLockEdge => Sys2Proof.Machine.execFrameLockEdge s
  | .flockLost => Sys2Proof.Machine.execFlockLost s
  | .holdMaxS src w => Sys2Proof.Machine.execHoldMaxS src w s
  | .compareArm src n w => Sys2Proof.Machine.execCompareArm src n w s
  | .adcSnapshotArm src w => Sys2Proof.Machine.execAdcSnapshotArm src w s
  | .timeCapSw src w => Sys2Proof.Machine.execTimeCapSw src w s
  | .timeCapData0Read src consume => Sys2Proof.Machine.execTimeCapData0Read src consume s
  | .timeNowRead src => Sys2Proof.Machine.execTimeNowRead src s
  | .timeLocalRead src => Sys2Proof.Machine.execTimeLocalRead src s
  | .commitAdmission => Sys2Proof.Machine.execCommitAdmission s
  | .compCommit src w => Sys2Proof.Machine.execCompCommit src w s
  | .stream p f => Sys2Proof.Machine.execStream p f s
  | .takeLanding => Sys2Proof.Machine.execTakeLanding s
  | .colTake src w => Sys2Proof.Machine.execColTake src w s
  | .colEnvData src w => Sys2Proof.Machine.execColEnvData src w s
  | .colEnvFill src w => Sys2Proof.Machine.execColEnvFill src w s
  | .colTfData src w => Sys2Proof.Machine.execColTfData src w s
  | .bandComplete obs => Sys2Proof.Machine.execBandComplete obs s
  | .calRecordRebuild => Sys2Proof.Machine.execCalRecordRebuild s
  | .calUpdateComplete => Sys2Proof.Machine.execCalUpdateComplete s
  | .ringRowSend ring => Sys2Proof.Machine.execRingRowSend ring s
  | .readReturn ring kind slots => Sys2Proof.Machine.execReadReturn ring kind slots s
  | .syncEcho ring echo => Sys2Proof.Machine.execSyncEcho ring echo s
  | .breakDetect ring => Sys2Proof.Machine.execBreakDetect ring s
  | .locateComplete ring obs => Sys2Proof.Machine.execLocateComplete ring obs s
  | .restoreProbe ring probe => Sys2Proof.Machine.execRestoreProbe ring probe s
  | .cellReenum ring answered found => Sys2Proof.Machine.execCellReenum ring answered found s
  | .cairnLatch => Sys2Proof.Machine.execCairnLatch s
  | .cairnRestream upsets => Sys2Proof.Machine.execCairnRestream upsets s
  | .vfSweepStart src w => Sys2Proof.Machine.execVfSweepStart src w s
  | .osSweepStart src w => Sys2Proof.Machine.execOsSweepStart src w s
  | .sweepStop src w => Sys2Proof.Machine.execSweepStop src w s
  | .clrRtFence src w => Sys2Proof.Machine.execClrRtFence src w s
  | .ledEvalTimeout => Sys2Proof.Machine.execLedEvalTimeout s
  | .railRampEnd vledMv => Sys2Proof.Machine.execRailRampEnd vledMv s
  | .railStartTimeout vledMv => Sys2Proof.Machine.execRailStartTimeout vledMv s
  | .railOv => Sys2Proof.Machine.execRailOv s
  | .railOcp phase => Sys2Proof.Machine.execRailOcp phase s
  | .railOcpSustained phase => Sys2Proof.Machine.execRailOcpSustained phase s
  | .phaseImbalance phase => Sys2Proof.Machine.execPhaseImbalance phase s
  | .railUv => Sys2Proof.Machine.execRailUv s
  | .railUvHold => Sys2Proof.Machine.execRailUvHold s
  | .railSense => Sys2Proof.Machine.execRailSense s
  | .adcSelfcheck => Sys2Proof.Machine.execAdcSelfcheck s
  | .powerLimitStep p100mw => Sys2Proof.Machine.execPowerLimitStep p100mw s
  | .boardDerateStep => Sys2Proof.Machine.execBoardDerateStep s
  | .ledgerPassComplete bad => Sys2Proof.Machine.execLedgerPassComplete bad s
  | .ledgerStoreStart => Sys2Proof.Machine.execLedgerStoreStart s
  | .ledgerEraseComplete => Sys2Proof.Machine.execLedgerEraseComplete s
  | .ledgerStoreComplete => Sys2Proof.Machine.execLedgerStoreComplete s
  | .ledgerStoreFail => Sys2Proof.Machine.execLedgerStoreFail s
  | .ledgerStoreRetry => Sys2Proof.Machine.execLedgerStoreRetry s
  | .planRewriteComplete => Sys2Proof.Machine.execPlanRewriteComplete s
  | .storeNow src w => Sys2Proof.Machine.execStoreNow src w s
  | .planNow src w => Sys2Proof.Machine.execPlanNow src w s
  | .clrLaneDerate src w => Sys2Proof.Machine.execClrLaneDerate src w s
  | .avsEvaluation slackPs written => Sys2Proof.Machine.execAvsEvaluation slackPs written s
  | .avsCheck ch17Mv => Sys2Proof.Machine.execAvsCheck ch17Mv s
  | .memEyeCheck eyes => Sys2Proof.Machine.execMemEyeCheck eyes s
  | .dqsTracking => Sys2Proof.Machine.execDqsTracking s
  | .laneMarginCheck eyesA eyesB => Sys2Proof.Machine.execLaneMarginCheck eyesA eyesB s
  | .nvmScrub obs => Sys2Proof.Machine.execNvmScrub obs s
  | .add t rd ra rb => Sys2Proof.Machine.execAdd t rd ra rb s
  | .sub t rd ra rb => Sys2Proof.Machine.execSub t rd ra rb s
  | .and t rd ra rb => Sys2Proof.Machine.execAnd t rd ra rb s
  | .or t rd ra rb => Sys2Proof.Machine.execOr t rd ra rb s
  | .xor t rd ra rb => Sys2Proof.Machine.execXor t rd ra rb s
  | .shl t rd ra rb => Sys2Proof.Machine.execShl t rd ra rb s
  | .shr t rd ra rb => Sys2Proof.Machine.execShr t rd ra rb s
  | .sar t rd ra rb => Sys2Proof.Machine.execSar t rd ra rb s
  | .mul t rd ra rb => Sys2Proof.Machine.execMul t rd ra rb s
  | .mulhu t rd ra rb => Sys2Proof.Machine.execMulhu t rd ra rb s
  | .divu t rd ra rb => Sys2Proof.Machine.execDivu t rd ra rb s
  | .remu t rd ra rb => Sys2Proof.Machine.execRemu t rd ra rb s
  | .min t rd ra rb => Sys2Proof.Machine.execMin t rd ra rb s
  | .max t rd ra rb => Sys2Proof.Machine.execMax t rd ra rb s
  | .slt t rd ra rb => Sys2Proof.Machine.execSlt t rd ra rb s
  | .sltu t rd ra rb => Sys2Proof.Machine.execSltu t rd ra rb s
  | .addi t rd ra imm => Sys2Proof.Machine.execAddi t rd ra imm s
  | .andi t rd ra imm => Sys2Proof.Machine.execAndi t rd ra imm s
  | .ori t rd ra imm => Sys2Proof.Machine.execOri t rd ra imm s
  | .xori t rd ra imm => Sys2Proof.Machine.execXori t rd ra imm s
  | .shli t rd ra imm => Sys2Proof.Machine.execShli t rd ra imm s
  | .shri t rd ra imm => Sys2Proof.Machine.execShri t rd ra imm s
  | .sari t rd ra imm => Sys2Proof.Machine.execSari t rd ra imm s
  | .lui t rd imm => Sys2Proof.Machine.execLui t rd imm s
  | .slti t rd ra imm => Sys2Proof.Machine.execSlti t rd ra imm s
  | .ld t rd ra imm => Sys2Proof.Machine.execLd t rd ra imm s
  | .ldb t rd ra imm => Sys2Proof.Machine.execLdb t rd ra imm s
  | .st t rd ra imm => Sys2Proof.Machine.execSt t rd ra imm s
  | .stb t rd ra imm => Sys2Proof.Machine.execStb t rd ra imm s
  | .swap t rd ra imm => Sys2Proof.Machine.execSwap t rd ra imm s
  | .ldx t rd ra imm => Sys2Proof.Machine.execLdx t rd ra imm s
  | .stx t rd ra imm => Sys2Proof.Machine.execStx t rd ra imm s
  | .beq t rd ra off => Sys2Proof.Machine.execBeq t rd ra off s
  | .bne t rd ra off => Sys2Proof.Machine.execBne t rd ra off s
  | .blt t rd ra off => Sys2Proof.Machine.execBlt t rd ra off s
  | .bge t rd ra off => Sys2Proof.Machine.execBge t rd ra off s
  | .bltu t rd ra off => Sys2Proof.Machine.execBltu t rd ra off s
  | .bgeu t rd ra off => Sys2Proof.Machine.execBgeu t rd ra off s
  | .jmp t off => Sys2Proof.Machine.execJmp t off s
  | .jr t ra => Sys2Proof.Machine.execJr t ra s
  | .call t off => Sys2Proof.Machine.execCall t off s
  | .callr t ra => Sys2Proof.Machine.execCallr t ra s
  | .ret t => Sys2Proof.Machine.execRet t s
  | .halt t => Sys2Proof.Machine.execHalt t s
  | .waitf t rd imm => Sys2Proof.Machine.execWaitf t rd imm s
  | .waitt t rd ra rb => Sys2Proof.Machine.execWaitt t rd ra rb s
  | .waitd t rd ra imm => Sys2Proof.Machine.execWaitd t rd ra imm s
  | .waite t rd ra imm => Sys2Proof.Machine.execWaite t rd ra imm s
  | .time t rd sel => Sys2Proof.Machine.execTime t rd sel s
  | .layer t rd ra rb => Sys2Proof.Machine.execLayer t rd ra rb s
  | .tumblerCommit t rd ra => Sys2Proof.Machine.execTumblerCommit t rd ra s
  | .tumblerMode t rd ra => Sys2Proof.Machine.execTumblerMode t rd ra s
  | .env t rd ra => Sys2Proof.Machine.execEnv t rd ra s
  | .tumblerCal t rd ra => Sys2Proof.Machine.execTumblerCal t rd ra s
  | .tumblerMeas t rd ra => Sys2Proof.Machine.execTumblerMeas t rd ra s
  | .tumblerStore t rd ra => Sys2Proof.Machine.execTumblerStore t rd ra s
  | .sig t rd ra => Sys2Proof.Machine.execSig t rd ra s
  | .post t rd ra rb => Sys2Proof.Machine.execPost t rd ra rb s
  | .sreq t rd imm => Sys2Proof.Machine.execSreq t rd imm s
  | .illegalInstruction t => Sys2Proof.Machine.execIllegalInstruction t s
  | .runaway t => Sys2Proof.Machine.execRunaway t s
  | .waiteTimeout t => Sys2Proof.Machine.execWaiteTimeout t s
  | .tumStart src w => Sys2Proof.Machine.execTumStart src w s
  | .tumHalt src w => Sys2Proof.Machine.execTumHalt src w s
  | .progStore src w => Sys2Proof.Machine.execProgStore src w s
  | .tumDbData src consume => Sys2Proof.Machine.execTumDbData src consume s
  | .ping q => Sys2Proof.Machine.execPing q s
  | .read q => Sys2Proof.Machine.execRead q s
  | .write q => Sys2Proof.Machine.execWrite q s
  | .commit q => Sys2Proof.Machine.execCommit q s
  | .mode q => Sys2Proof.Machine.execMode q s
  | .colourTake q => Sys2Proof.Machine.execColourTake q s
  | .cal q => Sys2Proof.Machine.execCal q s
  | .meas q => Sys2Proof.Machine.execMeas q s
  | .store q => Sys2Proof.Machine.execStore q s
  | .doorbell q => Sys2Proof.Machine.execDoorbell q s
  | .progLoad q => Sys2Proof.Machine.execProgLoad q s
  | .lightOn q => Sys2Proof.Machine.execLightOn q s
  | .lightOff q => Sys2Proof.Machine.execLightOff q s
  | .safeReq q => Sys2Proof.Machine.execSafeReq q s
  | .faultAck q => Sys2Proof.Machine.execFaultAck q s
  | .configRefresh q => Sys2Proof.Machine.execConfigRefresh q s
  | .shutdown q => Sys2Proof.Machine.execShutdown q s
  | .updateStart q => Sys2Proof.Machine.execUpdateStart q s
  | .updateAbort q => Sys2Proof.Machine.execUpdateAbort q s
  | .restart q => Sys2Proof.Machine.execRestart q s
  | .attest q => Sys2Proof.Machine.execAttest q s
  | .proofRead q => Sys2Proof.Machine.execProofRead q s
  | .sessionOpen q => Sys2Proof.Machine.execSessionOpen q s
  | .enterService q => Sys2Proof.Machine.execEnterService q s
  | .leaveService q => Sys2Proof.Machine.execLeaveService q s
  | .ownerEnroll q => Sys2Proof.Machine.execOwnerEnroll q s
  | .safetyParam q => Sys2Proof.Machine.execSafetyParam q s
  | .nvmErase q => Sys2Proof.Machine.execNvmErase q s
  | .debugUnlock q => Sys2Proof.Machine.execDebugUnlock q s
  | .serviceReply => Sys2Proof.Machine.execServiceReply s
  | .sealChange high => Sys2Proof.Machine.execSealChange high s
  | .trainDetected p lane payload trains => Sys2Proof.Machine.execTrainDetected p lane payload trains s
  | .rateAgreed p payload => Sys2Proof.Machine.execRateAgreed p payload s
  | .eqRequest p lane payload => Sys2Proof.Machine.execEqRequest p lane payload s
  | .eqDone p payload timeout obs => Sys2Proof.Machine.execEqDone p payload timeout obs s
  | .alignDone p skews => Sys2Proof.Machine.execAlignDone p skews s
  | .trainingTimeout p => Sys2Proof.Machine.execTrainingTimeout p s
  | .quietRetry p => Sys2Proof.Machine.execQuietRetry p s
  | .signalDetect p => Sys2Proof.Machine.execSignalDetect p s
  | .blockLock p obs => Sys2Proof.Machine.execBlockLock p obs s
  | .blockLockLoss p obs => Sys2Proof.Machine.execBlockLockLoss p obs s
  | .amReceived p lane blocks payload skew => Sys2Proof.Machine.execAmReceived p lane blocks payload skew s
  | .markerLockLoss p obs => Sys2Proof.Machine.execMarkerLockLoss p obs s
  | .parkReceived p lane => Sys2Proof.Machine.execParkReceived p lane s
  | .retrainTrigger p lane => Sys2Proof.Machine.execRetrainTrigger p lane s
  | .retrainFollow p lane payload => Sys2Proof.Machine.execRetrainFollow p lane payload s
  | .adaptFreeze p lane => Sys2Proof.Machine.execAdaptFreeze p lane s
  | .adaptResume p lane => Sys2Proof.Machine.execAdaptResume p lane s
  | .retrain src p w => Sys2Proof.Machine.execRetrain src p w s
  | .clrFence src p w => Sys2Proof.Machine.execClrFence src p w s
  | .portEnable src p w => Sys2Proof.Machine.execPortEnable src p w s
  | .lnkEye src p w => Sys2Proof.Machine.execLnkEye src p w s
  | .eyeMeasureComplete p eyes => Sys2Proof.Machine.execEyeMeasureComplete p eyes s
  | .testEn src p w => Sys2Proof.Machine.execTestEn src p w s
  | .testExit src p w => Sys2Proof.Machine.execTestExit src p w s
  | .prbsSyncTimeout p obs => Sys2Proof.Machine.execPrbsSyncTimeout p obs s
  | .prbsSyncLoss p obs => Sys2Proof.Machine.execPrbsSyncLoss p obs s
  | .lnkInject src p w => Sys2Proof.Machine.execLnkInject src p w s
  | .forwardingDecision p hdr => Sys2Proof.Machine.execForwardingDecision p hdr s
  | .frameTrailer p payload trailer => Sys2Proof.Machine.execFrameTrailer p payload trailer s
  | .egressSend p => Sys2Proof.Machine.execEgressSend p s
  | .announceSend => Sys2Proof.Machine.execAnnounceSend s
  | .announce p f => Sys2Proof.Machine.execAnnounce p f s
  | .depart p f => Sys2Proof.Machine.execDepart p f s
  | .assign p f => Sys2Proof.Machine.execAssign p f s
  | .load p f => Sys2Proof.Machine.execLoad p f s
  | .done p f => Sys2Proof.Machine.execDone p f s
  | .entryStale id => Sys2Proof.Machine.execEntryStale id s
  | .streamContextWrite src n words => Sys2Proof.Machine.execStreamContextWrite src n words s
  | .update p f => Sys2Proof.Machine.execUpdate p f s
  | .nvmUpdData src w => Sys2Proof.Machine.execNvmUpdData src w s
  | .keyLoad src w => Sys2Proof.Machine.execKeyLoad src w s
  | .keyClear src w => Sys2Proof.Machine.execKeyClear src w s
  | .previousSessionEnd => Sys2Proof.Machine.execPreviousSessionEnd s
  | .proofRecordSigned => Sys2Proof.Machine.execProofRecordSigned s
  | .debugChallengeExpiry => Sys2Proof.Machine.execDebugChallengeExpiry s
  | .wardEntropy => Sys2Proof.Machine.execWardEntropy s
  | .wardSealedEcc => Sys2Proof.Machine.execWardSealedEcc s
  | .inputSafe input ch => Sys2Proof.Machine.execInputSafe input ch s
  | .inputHealthy input ch pressMs => Sys2Proof.Machine.execInputHealthy input ch pressMs s
  | .testPulse output failA failB => Sys2Proof.Machine.execTestPulse output failA failB s
  | .inputDiscrepancy input => Sys2Proof.Machine.execInputDiscrepancy input s
  | .ackPress => Sys2Proof.Machine.execAckPress s
  | .safetyTick obs => Sys2Proof.Machine.execSafetyTick obs s
  | .safetyXcompare => Sys2Proof.Machine.execSafetyXcompare s
  | .aliveTimeout => Sys2Proof.Machine.execAliveTimeout s
  | .fadeDone => Sys2Proof.Machine.execFadeDone s
  | .sloCheck stage obs => Sys2Proof.Machine.execSloCheck stage obs s
  | .ssgDriveEnable => Sys2Proof.Machine.execSsgDriveEnable s
  | .heartbeat p pdu => Sys2Proof.Machine.execHeartbeat p pdu s
  | .demand p pdu => Sys2Proof.Machine.execDemand p pdu s
  | .ack p pdu => Sys2Proof.Machine.execAck p pdu s
  | .statusPdu p pdu => Sys2Proof.Machine.execStatusPdu p pdu s
  | .bcWatchdog => Sys2Proof.Machine.execBcWatchdog s
  | .bcDemandTimeout => Sys2Proof.Machine.execBcDemandTimeout s
  | .demandRepeat => Sys2Proof.Machine.execDemandRepeat s
  | .statusPduSend => Sys2Proof.Machine.execStatusPduSend s
  | .safetyStrapChanged straps => Sys2Proof.Machine.execSafetyStrapChanged straps s
  | .faultEventExpiry source detail => Sys2Proof.Machine.execFaultEventExpiry source detail s
  | .handlingEnd number => Sys2Proof.Machine.execHandlingEnd number s
  | .faultPairHealthy => Sys2Proof.Machine.execFaultPairHealthy s
  | .fltPairReadback => Sys2Proof.Machine.execFltPairReadback s
  | .fltInject src w => Sys2Proof.Machine.execFltInject src w s
  | .fltInjectClear src w => Sys2Proof.Machine.execFltInjectClear src w s
  | .clrFirst src w => Sys2Proof.Machine.execClrFirst src w s
  | .flashFail => Sys2Proof.Machine.execFlashFail s
  | .chkStart src u w => Sys2Proof.Machine.execChkStart src u w s
  | .chkDataB src u w => Sys2Proof.Machine.execChkDataB src u w s
  | .chkDataH src u w => Sys2Proof.Machine.execChkDataH src u w s
  | .chkDataW src u w => Sys2Proof.Machine.execChkDataW src u w s
  | .chkClose src u w => Sys2Proof.Machine.execChkClose src u w s
  | .chkDrainComplete u => Sys2Proof.Machine.execChkDrainComplete u s
  | .chkAliveFeed src u w => Sys2Proof.Machine.execChkAliveFeed src u w s
  | .aliveDeadline u => Sys2Proof.Machine.execAliveDeadline u s
  | .chkRstatus src u consume => Sys2Proof.Machine.execChkRstatus src u consume s
  | .ringSigCnt src consume => Sys2Proof.Machine.execRingSigCnt src consume s
  | .dieSensorFail sensor reading => Sys2Proof.Machine.execDieSensorFail sensor reading s
  | .thermalEvaluation obs => Sys2Proof.Machine.execThermalEvaluation obs s
  | .ntcCrosscheckFail ntc => Sys2Proof.Machine.execNtcCrosscheckFail ntc s
  | .thresholdCrossing q up value => Sys2Proof.Machine.execThresholdCrossing q up value s
  | .shutdownReset => Sys2Proof.Machine.execShutdownReset s
  | .thermalRelease reading => Sys2Proof.Machine.execThermalRelease reading s
  | .thermTrimCtrl src w => Sys2Proof.Machine.execThermTrimCtrl src w s
  | .trimDaily => Sys2Proof.Machine.execTrimDaily s
  | .selfTrimStart => Sys2Proof.Machine.execSelfTrimStart s
  | .selfTrimComplete trims => Sys2Proof.Machine.execSelfTrimComplete trims s
  | .trimTimeout => Sys2Proof.Machine.execTrimTimeout s
  | .trimApplyTimeout => Sys2Proof.Machine.execTrimApplyTimeout s
  | .nvmStoreComplete kind ok => Sys2Proof.Machine.execNvmStoreComplete kind ok s
  | .backgroundEraseDone kind => Sys2Proof.Machine.execBackgroundEraseDone kind s
  | .userCalStoreComplete ok => Sys2Proof.Machine.execUserCalStoreComplete ok s
  | .slotEraseComplete => Sys2Proof.Machine.execSlotEraseComplete s
  | .stagingComplete => Sys2Proof.Machine.execStagingComplete s
  | .confirm src w => Sys2Proof.Machine.execConfirm src w s
  | .trialConfirm => Sys2Proof.Machine.execTrialConfirm s
  | .trialTimerExpiry => Sys2Proof.Machine.execTrialTimerExpiry s
  | .cairnStart src w => Sys2Proof.Machine.execCairnStart src w s
  | .nvmCairnData src w => Sys2Proof.Machine.execNvmCairnData src w s
  | .cairnCommit src w => Sys2Proof.Machine.execCairnCommit src w s
  | .cairnStoreComplete ok => Sys2Proof.Machine.execCairnStoreComplete ok s
  | .cairnReload => Sys2Proof.Machine.execCairnReload s
  | .logAppend => Sys2Proof.Machine.execLogAppend s
  | .registerWrite src addr w => Sys2Proof.Machine.execRegisterWrite src addr w s
  | .registerRead src addr consume => Sys2Proof.Machine.execRegisterRead src addr consume s
  | .badOpcode opcode q => Sys2Proof.Machine.execBadOpcode opcode q s
  | .serviceWrite bits => Sys2Proof.Machine.execServiceWrite bits s
  | .tDieMove => Sys2Proof.Machine.execTDieMove s
  | .cairnCompletionDeadline ring => Sys2Proof.Machine.execCairnCompletionDeadline ring s
  | .compInternal => Sys2Proof.Machine.execCompInternal s
  | .colourInternal => Sys2Proof.Machine.execColourInternal s
  | .tumblerParity => Sys2Proof.Machine.execTumblerParity s

end Sys2Proof.Machine
end

