-- ==== Sys2Proof/Machine/Tick.lean ====
section
/-!
DEFINITION. Sys2Proof/Machine/Tick.lean: what passes when no command waits (log entry 1): one CORE cycle, in which the local counter
advances, the lanes of both ports send (R264, R285), the ADC goes on with its schedule (R177) and the oldest POST message leaves Tumbler’s queue (R236).
-/

namespace Sys2Proof.Machine

/-- One CORE cycle, 1.25 ns, in 2^-16 ns (R487, R316). -/
def coreCycle : Nat := 81920

/-- One slot of the ADC schedule, 0.5 µs, in 2^-16 ns (R177). -/
def adcSlot : Nat := 32768000

/-- The channel that slot `n` since power-up converts (R177): six slots of each sixteen go round channels 7 to 23. -/
def adcSlotChannel (n : Nat) : Nat :=
  let k := n % 16
  let turn (i : Nat) : Nat := 7 + (6 * (n / 16) + i) % 17
  if k % 4 = 0 then 0
  else if k = 1 then 1
  else if k = 5 then 2
  else if k = 9 then 3
  else if k = 13 then 4
  else if k = 2 then 5
  else if k = 6 then 6
  else if k = 3 then turn 0
  else if k = 7 then turn 1
  else if k = 10 then turn 2
  else if k = 11 then turn 3
  else if k = 14 then turn 4
  else turn 5

/-- What the controller measures with a conversion (R177, R179): VLED_SENSE averaged over the last 8 µs, the phase currents, VBUS, the bus
current and the local output voltage, at the full scales of the channels; a quotient is rounded down, and a phase’s average current is its
newest conversion (DESIGN CHOICE, log entry 76). -/
def Led.measure (l : Led) (ch code : Nat) : Led :=
  if ch = 0 then
    let win := (code :: l.vledWin).take 4
    { l with vledWin := win, vledMv := win.foldl (· + ·) 0 * 16 / (10 * win.length) }
  else if ch ≤ 4 then { l with phaseMa := l.phaseMa.set (ch - 1) (4 * code) }
  else if ch = 5 then { l with vbus10mv := 2 * code }
  else if ch = 6 then { l with ibusMa := 8 * code }
  else if ch = 7 then { l with localMv := code * 16 / 10 }
  else l

/-- A conversion of a channel ends: a free value, but 0 on channel 23 (R177, R178); channel 16 reads the housekeeping supply in mV, which
HK_OK follows (R494). -/
def State.convert (s : State) (ch : Nat) : State :=
  let code : BitVec 12 := if ch = 23 then 0 else (Config.freeWord s.free).truncate 12
  ((s.onLed fun l =>
    { l.measure ch code.toNat with adc := upd l.adc ch fun _ => { code := code, valid := true, fresh := true } }).onPwr fun p =>
    if ch = 16 then { p with hkOk := decide (3000 ≤ code.toNat) } else p).takeFree

/-- The frame signature being formed is complete after a free time of at most 20 µs (R141; log entry 28). -/
def State.sigTick (s : State) : State :=
  if !s.rings.sigBusy then s
  else if (Config.freeWord s.free).getLsbD 0 || decide (s.rings.sigAt + 20 * 65536000 ≤ s.time.local_) then s.takeFree.sigDone
  else s.takeFree

/-- The key load in progress is reported after a free time of at most 5 µs (R356; log entry 28). -/
def State.keyTick (s : State) : State :=
  if !s.ward.keyBusy then s
  else if (Config.freeWord s.free).getLsbD 0 || decide (s.ward.keyAt + 5 * 65536000 ≤ s.time.local_) then s.takeFree.keyDone
  else s.takeFree

/-- A new ambient-light reading fires ALS (R227); whether the sensor gives one in this cycle is a free value (log entry 82). -/
def State.alsTick (s : State) : State := if (Config.freeWord s.free).getLsbD 0 then s.takeFree.fire 18 else s.takeFree

/-- What a record of the cycle before has lost is raised (R228, R338; log entry 10). -/
def State.laterTick (s : State) : State :=
  s.flt.later.foldl (fun s q => s.raise q.1 q.2) (s.onFlt fun f => { f with later := [] })

/-- Both pins of the fault pair are read back every 10 µs (R420). -/
def pairRead : Nat := 655360000

/-- A read of the fault pair (R420, R431): whether it disagrees is a free value, but for the third in a row, which is FLT_PAIR_READBACK’s own row
(log entry 87). -/
def State.pairTick (s : State) : State :=
  let bad := (Config.freeWord s.free).getLsbD 0
  (s.onFlt fun f =>
    if !bad then { f with readRun := 0 }
    else if f.readRun < 2 || s.hasSrc 0x1A then { f with mismatches := inc 16 f.mismatches, readRun := min 3 (f.readRun + 1) }
    else f).takeFree

/-- Faults of the memory and of internal accesses, which no row reports (R406): whether one arises is a free value, reckoned at the
reads of the fault pair (log entry 83). -/
def State.memoryTick (s : State) : State :=
  let w := Config.freeWord s.free
  let s1 := if w.getLsbD 0 then s.raise 0x03 0 else s
  let s2 := if w.getLsbD 1 then s1.raise 0x04 0 else s1
  (if w.getLsbD 2 then s2.raise 0x06 0 else s2).takeFree

/-- What else goes on in a CORE cycle: the frame signature, a key load, the ambient-light sensor and the check units (R141, R356, R227, R427);
a fault that follows, a lost event or a check result that does not match, is recorded (R228, R428). -/
def State.otherTicks (s : State) : State :=
  let s1 := ((((s.laterTick.sigTick.keyTick.alsTick).chkTick 0).chkTick 1).chkTick 2).chkTick 3
  if s1.flt.newFaults.isEmpty then s1 else s1.settle

/-- Every short store under way began at least 2 ms before (R454). -/
def Nvm.storesOver (v : Nvm) (now : Nat) : Bool :=
  let over_ := fun (x : Option Nat) => match x with | some t => decide (t + shortStore ≤ now) | none => true
  (v.bootWroteAt.isSome || v.safetyWroteAt.isSome) && over_ v.bootWroteAt && over_ v.safetyWroteAt

/-- The clock advances by one CORE cycle, in which the lanes of both ports send (R272); an ADC slot that ends with it gives its
conversion. -/
def State.tick (s : State) : State :=
  let t := s.time.local_ + coreCycle
  let s0 := if s.nvm.storesOver t then s.onNvm Nvm.shortStoresDone else s
  let s1 := ((s0.onTime fun x => { x with local_ := t }).portCycle .a s.time.local_ t).portCycle .b s.time.local_ t
  let s2 := if s.time.local_ / pairRead < t / pairRead then s1.pairTick.memoryTick else s1
  if s.time.local_ / adcSlot < t / adcSlot then (s2.convert (adcSlotChannel (s.time.local_ / adcSlot))).otherTicks else s2.otherTicks

/-- The step of a block to which no command is waiting (log entry 1). While the logic die is held in reset only the cycle in which the
reset began is over (R489). -/
def State.idle (s : State) : State :=
  if s.running && !s.pwr.logicHeld then s.tick.sendPost else s.onPwr fun p => { p with sameCycle := false }

end Sys2Proof.Machine
end

