-- ==== Sys2Proof/WellFormed.lean ====
section
/-!
DEFINITION. Sys2Proof/WellFormed.lean: which commands can arrive at all: the lengths that the spec gives to frames, commands and
the sets of measured quantities. The meanings answer for every command, well-formed or not.
-/

namespace Sys2Proof

/-- A command that one CONTROL frame or service-port WRITE can carry: at most 9,200 argument bytes (R243). -/
def CmdReq.wf (q : CmdReq) : Bool := decide (q.args.length ≤ 9200)

/-- A frame whose payload has the LEN bytes of its header, at most 9,216 (R290, R291). -/
def Frame.wf (f : Frame) : Bool :=
  decide (f.payload.length ≤ 9216) && decide (f.payload.length = (f.hdr.extractLsb' 96 14).toNat)

/-- Twelve logic-die sensors and eight NTCs (R433, R435). -/
def ThermObs.wf (o : ThermObs) : Bool := decide (o.sensors.length = 12) && decide (o.ntc.length = 8)

/-- No burst is found twice by one read of the ledger. -/
def LedgerErrs.wf (e : LedgerErrs) : Bool := decide e.found.Nodup && decide e.later.Nodup

/-- At most 1,024 cells return slots, none twice (R135). -/
def slotsWf (l : List SlotObs) : Bool := decide (l.length ≤ 1024) && decide ((l.map (·.cell)).Nodup)

/-- At most four lanes, five DFE taps each (R280). -/
def eqObsWf (l : List EqObs) : Bool := decide (l.length ≤ 4) && l.all fun o => decide (o.dfe.length = 5)

/-- A write to a stream context names each of its four words at most once (R311). -/
def ctxWordsWf (l : List (Fin 4 × Word)) : Bool := decide ((l.map (·.1)).Nodup)

/-- Bursts and zones that fail in a band are named at most once (R91, R98). -/
def BandObs.wf (o : BandObs) : Bool := decide o.badBursts.Nodup && decide o.badZones.Nodup

/-- The command can arrive. -/
def Instr.wf : Instr → Bool
  | .housekeepingUp => true
  | .housekeepingLost => true
  | .inrushStart => true
  | .inrushComplete _ => true
  | .inrushTimeout => true
  | .breakerTrip => true
  | .breakerOverload => true
  | .busUv => true
  | .tripCooldownEnd => true
  | .busOv => true
  | .powerGoodRise _ => true
  | .sequenceTimeout => true
  | .sequenceRetry => true
  | .supplyShutdown => true
  | .coreSupplyFault _ => true
  | .housekeepingUv => true
  | .refclkLoss => true
  | .pllUnlock => true
  | .clockReset => true
  | .clockRecovered => true
  | .pinReset _ => true
  | .mgmtWatchdog => true
  | .jtagSystemReset => true
  | .departure => true
  | .portPark _ => true
  | .departureReset _ => true
  | .departureGateOff => true
  | .bootStart _ => true
  | .bootComplete _ rings => decide (rings.length = 64) && rings.all (fun r => slotsWf r.slots)
  | .joinComplete _ => true
  | .flip _ => true
  | .takePoint _ => true
  | .latchLaunch _ => true
  | .timeCompareFire _ => true
  | .adcSnapshot => true
  | .sync _ f _ _ => f.wf
  | .followUp _ f => f.wf
  | .followUpTimeout _ => true
  | .pdelayReq _ f _ => f.wf
  | .pdelayResp _ f _ => f.wf
  | .pdelaySend _ => true
  | .pdelayTimeout _ => true
  | .domainLossTimeout _ _ => true
  | .holdoverExpiry => true
  | .slewComplete => true
  | .switchBack => true
  | .captureEdge _ _ => true
  | .frameLockEdge => true
  | .flockLost => true
  | .holdMaxS _ _ => true
  | .compareArm _ _ _ => true
  | .adcSnapshotArm _ _ => true
  | .timeCapSw _ _ => true
  | .timeCapData0Read _ _ => true
  | .timeNowRead _ => true
  | .timeLocalRead _ => true
  | .commitAdmission => true
  | .compCommit _ _ => true
  | .stream _ f => f.wf
  | .takeLanding => true
  | .colTake _ _ => true
  | .colEnvData _ _ => true
  | .colEnvFill _ _ => true
  | .colTfData _ _ => true
  | .bandComplete obs => obs.wf
  | .calRecordRebuild => true
  | .calUpdateComplete => true
  | .ringRowSend _ => true
  | .readReturn _ _ slots => slotsWf slots
  | .syncEcho _ _ => true
  | .breakDetect _ => true
  | .locateComplete _ _ => true
  | .restoreProbe _ _ => true
  | .cellReenum _ answered _ => decide (answered.length ≤ 1024)
  | .cairnLatch => true
  | .cairnRestream _ => true
  | .vfSweepStart _ _ => true
  | .osSweepStart _ _ => true
  | .sweepStop _ _ => true
  | .clrRtFence _ _ => true
  | .ledEvalTimeout => true
  | .railRampEnd _ => true
  | .railStartTimeout _ => true
  | .railOv => true
  | .railOcp _ => true
  | .railOcpSustained _ => true
  | .phaseImbalance _ => true
  | .railUv => true
  | .railUvHold => true
  | .railSense => true
  | .adcSelfcheck => true
  | .powerLimitStep _ => true
  | .boardDerateStep => true
  | .ledgerPassComplete bad => bad.wf
  | .ledgerStoreStart => true
  | .ledgerEraseComplete => true
  | .ledgerStoreComplete => true
  | .ledgerStoreFail => true
  | .ledgerStoreRetry => true
  | .planRewriteComplete => true
  | .storeNow _ _ => true
  | .planNow _ _ => true
  | .clrLaneDerate _ _ => true
  | .avsEvaluation slackPs _ => decide (slackPs.length = 8)
  | .avsCheck _ => true
  | .memEyeCheck eyes => decide (eyes.length ≤ 4)
  | .dqsTracking => true
  | .laneMarginCheck eyesA eyesB => decide (eyesA.length ≤ 4) && decide (eyesB.length ≤ 4)
  | .nvmScrub _ => true
  | .add _ _ _ _ => true
  | .sub _ _ _ _ => true
  | .and _ _ _ _ => true
  | .or _ _ _ _ => true
  | .xor _ _ _ _ => true
  | .shl _ _ _ _ => true
  | .shr _ _ _ _ => true
  | .sar _ _ _ _ => true
  | .mul _ _ _ _ => true
  | .mulhu _ _ _ _ => true
  | .divu _ _ _ _ => true
  | .remu _ _ _ _ => true
  | .min _ _ _ _ => true
  | .max _ _ _ _ => true
  | .slt _ _ _ _ => true
  | .sltu _ _ _ _ => true
  | .addi _ _ _ _ => true
  | .andi _ _ _ _ => true
  | .ori _ _ _ _ => true
  | .xori _ _ _ _ => true
  | .shli _ _ _ _ => true
  | .shri _ _ _ _ => true
  | .sari _ _ _ _ => true
  | .lui _ _ _ => true
  | .slti _ _ _ _ => true
  | .ld _ _ _ _ => true
  | .ldb _ _ _ _ => true
  | .st _ _ _ _ => true
  | .stb _ _ _ _ => true
  | .swap _ _ _ _ => true
  | .ldx _ _ _ _ => true
  | .stx _ _ _ _ => true
  | .beq _ _ _ _ => true
  | .bne _ _ _ _ => true
  | .blt _ _ _ _ => true
  | .bge _ _ _ _ => true
  | .bltu _ _ _ _ => true
  | .bgeu _ _ _ _ => true
  | .jmp _ _ => true
  | .jr _ _ => true
  | .call _ _ => true
  | .callr _ _ => true
  | .ret _ => true
  | .halt _ => true
  | .waitf _ _ _ => true
  | .waitt _ _ _ _ => true
  | .waitd _ _ _ _ => true
  | .waite _ _ _ _ => true
  | .time _ _ _ => true
  | .layer _ _ _ _ => true
  | .tumblerCommit _ _ _ => true
  | .tumblerMode _ _ _ => true
  | .env _ _ _ => true
  | .tumblerCal _ _ _ => true
  | .tumblerMeas _ _ _ => true
  | .tumblerStore _ _ _ => true
  | .sig _ _ _ => true
  | .post _ _ _ _ => true
  | .sreq _ _ _ => true
  | .illegalInstruction _ => true
  | .runaway _ => true
  | .waiteTimeout _ => true
  | .tumStart _ _ => true
  | .tumHalt _ _ => true
  | .progStore _ _ => true
  | .tumDbData _ _ => true
  | .ping q => q.wf
  | .read q => q.wf
  | .write q => q.wf
  | .commit q => q.wf
  | .mode q => q.wf
  | .colourTake q => q.wf
  | .cal q => q.wf
  | .meas q => q.wf
  | .store q => q.wf
  | .doorbell q => q.wf
  | .progLoad q => q.wf
  | .lightOn q => q.wf
  | .lightOff q => q.wf
  | .safeReq q => q.wf
  | .faultAck q => q.wf
  | .configRefresh q => q.wf
  | .shutdown q => q.wf
  | .updateStart q => q.wf
  | .updateAbort q => q.wf
  | .restart q => q.wf
  | .attest q => q.wf
  | .proofRead q => q.wf
  | .sessionOpen q => q.wf
  | .enterService q => q.wf
  | .leaveService q => q.wf
  | .ownerEnroll q => q.wf
  | .safetyParam q => q.wf
  | .nvmErase q => q.wf
  | .debugUnlock q => q.wf
  | .serviceReply => true
  | .sealChange _ => true
  | .trainDetected _ _ _ _ => true
  | .rateAgreed _ _ => true
  | .eqRequest _ _ _ => true
  | .eqDone _ _ _ obs => eqObsWf obs
  | .alignDone _ skews => decide (skews.length ≤ 4)
  | .trainingTimeout _ => true
  | .quietRetry _ => true
  | .signalDetect _ => true
  | .blockLock _ _ => true
  | .blockLockLoss _ _ => true
  | .amReceived _ _ _ _ _ => true
  | .markerLockLoss _ _ => true
  | .parkReceived _ _ => true
  | .retrainTrigger _ _ => true
  | .retrainFollow _ _ _ => true
  | .adaptFreeze _ _ => true
  | .adaptResume _ _ => true
  | .retrain _ _ _ => true
  | .clrFence _ _ _ => true
  | .portEnable _ _ _ => true
  | .lnkEye _ _ _ => true
  | .eyeMeasureComplete _ eyes => decide (eyes.length ≤ 4)
  | .testEn _ _ _ => true
  | .testExit _ _ _ => true
  | .prbsSyncTimeout _ _ => true
  | .prbsSyncLoss _ _ => true
  | .lnkInject _ _ _ => true
  | .forwardingDecision _ _ => true
  | .frameTrailer _ payload _ => decide (payload.length ≤ 9216)
  | .egressSend _ => true
  | .announceSend => true
  | .announce _ f => f.wf
  | .depart _ f => f.wf
  | .assign _ f => f.wf
  | .load _ f => f.wf
  | .done _ f => f.wf
  | .entryStale _ => true
  | .streamContextWrite _ _ words => ctxWordsWf words
  | .update _ f => f.wf
  | .nvmUpdData _ _ => true
  | .keyLoad _ _ => true
  | .keyClear _ _ => true
  | .previousSessionEnd => true
  | .proofRecordSigned => true
  | .debugChallengeExpiry => true
  | .wardEntropy => true
  | .wardSealedEcc => true
  | .inputSafe _ _ => true
  | .inputHealthy _ _ _ => true
  | .testPulse _ _ _ => true
  | .inputDiscrepancy _ => true
  | .ackPress => true
  | .safetyTick _ => true
  | .safetyXcompare => true
  | .aliveTimeout => true
  | .fadeDone => true
  | .sloCheck _ _ => true
  | .ssgDriveEnable => true
  | .heartbeat _ pdu => decide (pdu.length ≤ 9216)
  | .demand _ pdu => decide (pdu.length ≤ 9216)
  | .ack _ pdu => decide (pdu.length ≤ 9216)
  | .statusPdu _ pdu => decide (pdu.length ≤ 9216)
  | .bcWatchdog => true
  | .bcDemandTimeout => true
  | .demandRepeat => true
  | .statusPduSend => true
  | .safetyStrapChanged _ => true
  | .faultEventExpiry _ _ => true
  | .handlingEnd _ => true
  | .faultPairHealthy => true
  | .fltPairReadback => true
  | .fltInject _ _ => true
  | .fltInjectClear _ _ => true
  | .clrFirst _ _ => true
  | .flashFail => true
  | .chkStart _ _ _ => true
  | .chkDataB _ _ _ => true
  | .chkDataH _ _ _ => true
  | .chkDataW _ _ _ => true
  | .chkClose _ _ _ => true
  | .chkDrainComplete _ => true
  | .chkAliveFeed _ _ _ => true
  | .aliveDeadline _ => true
  | .chkRstatus _ _ _ => true
  | .ringSigCnt _ _ => true
  | .dieSensorFail _ _ => true
  | .thermalEvaluation obs => obs.wf
  | .ntcCrosscheckFail _ => true
  | .thresholdCrossing _ _ _ => true
  | .shutdownReset => true
  | .thermalRelease _ => true
  | .thermTrimCtrl _ _ => true
  | .trimDaily => true
  | .selfTrimStart => true
  | .selfTrimComplete trims => decide (trims.length = 6)
  | .trimTimeout => true
  | .trimApplyTimeout => true
  | .nvmStoreComplete _ _ => true
  | .backgroundEraseDone _ => true
  | .userCalStoreComplete _ => true
  | .slotEraseComplete => true
  | .stagingComplete => true
  | .confirm _ _ => true
  | .trialConfirm => true
  | .trialTimerExpiry => true
  | .cairnStart _ _ => true
  | .nvmCairnData _ _ => true
  | .cairnCommit _ _ => true
  | .cairnStoreComplete _ => true
  | .cairnReload => true
  | .logAppend => true
  | .registerWrite _ _ _ => true
  | .registerRead _ _ _ => true
  | .badOpcode _ q => q.wf
  | .serviceWrite _ => true
  | .tDieMove => true
  | .cairnCompletionDeadline _ => true
  | .compInternal => true
  | .colourInternal => true
  | .tumblerParity => true

end Sys2Proof
end

