-- ==== Sys2Proof/Safety.lean ====
section
/-!
DEFINITION. Sys2Proof/Safety.lean: the terms in which claims about the machine are made: what a step that completes is, the states
in which nothing waits for the fault collector, what every state that a run reaches satisfies, and when the tile shows no light.
-/

namespace Sys2Proof.Machine

/-- The command completes: it answers a next state, of which `p` holds. -/
def Completes (c : Instr) (s : State) (p : State → Prop) : Prop := ∃ u, exec c s = .next u ∧ p u

/-- Between two commands nothing waits for the fault collector: every fault raised has been recorded (R410, R411). -/
abbrev State.FaultsHandled (s : State) : Prop := s.flt.newFaults = []

/-- The state is calm: nothing waits for the fault collector, no reset is due, there is no INTERNAL cause that could clear, and SAFE has a cause
(R25, R376). -/
abbrev State.Calm (s : State) : Prop :=
  s.FaultsHandled ∧ s.eng.resetDue = none ∧ s.saf.internal = none ∧ (s.eng.st = .safe → s.safeDemand = true)

/-- From `s` to `u` the fault collector took no fault, made no record and fenced nothing: only a condition of SAFETY_OUTPUT
that no longer holds may have ended (R381), and the fault pair may have gone to FAULT (R420). -/
def NoNewFault (s u : State) : Prop :=
  u.flt = { s.flt with conds := u.flt.conds, pairFault := u.flt.pairFault } ∧ ∀ c ∈ u.flt.conds, c ∈ s.flt.conds

/-- From `s` to `u` Tumbler’s other threads, its memories and its registers are as they were, and so is everything outside Tumbler
but the fault collector, which took no fault. -/
def OnlyThread (s u : State) (t : Fin 8) : Prop :=
  u.tum = { s.tum with threads := u.tum.threads } ∧ (∀ n, n ≠ t.val → u.thread n = s.thread n)
    ∧ u = { s with tum := u.tum, flt := u.flt } ∧ NoNewFault s u

/-- From `s` to `u` thread `t` went on to its next instruction: PC + 1, one more instruction counted, its registers alone changed. -/
def WentOn (s u : State) (t : Fin 8) : Prop :=
  u.thread t = { s.thread t with g := (u.thread t).g, pc := ((s.thread t).pc + 1) % 16384, issued := (s.thread t).issued + 1 }

/-- A Tumbler instruction of thread `t` wrote `v` to rd and nothing else (R222): G0 stays zero, the other registers keep their
values, the PC advances. -/
def WroteReg (s u : State) (t : Fin 8) (rd : Fin 16) (v : Word) : Prop :=
  (∀ r, (u.thread t).reg r = if r = rd ∧ r ≠ 0 then v else (s.thread t).reg r) ∧ WentOn s u t ∧ OnlyThread s u t

/-- The service port takes command `q` of opcode `op` (R242 to R257): it is open and idle, the command is no copy, its header is in order,
and the state is one in which R252 makes it legal. -/
abbrev SvcTakes (s : State) (q : CmdReq) (op : Nat) : Prop :=
  q.port = .service ∧ s.running = true ∧ s.pwr.sealHigh = false ∧ s.svcBusy = false ∧ s.copyOf q = none ∧ q.flags.toNat / 2 = 0 ∧ q.zero = 0
    ∧ q.argLen.toNat = q.args.length ∧ q.args.length ≤ 9200 ∧ s.recovery = false ∧ s.legal op = true

/-- From `s` to `u` command `q` was replied to on the service port (R244, R247, R256, R258) with a status and a result; STATE is left open. -/
abbrev Answered (s u : State) (q : CmdReq) (op status : Byte) (result : List Byte) : Prop :=
  (u.cmd.lastOp, u.cmd.lastStatus, u.cmd.lastPort) =
        (if q.flags.getLsbD 0 = true ∧ status = 0 then (s.cmd.lastOp, s.cmd.lastStatus, s.cmd.lastPort) else (op, status, 2))
    ∧ u.cmd.outstanding = s.cmd.outstanding ∧ u.cmd.svcRead = false
    ∧ u.cmd.accepted = (if status = 0 then min 65535 (s.cmd.accepted + 1) else s.cmd.accepted)
    ∧ u.cmd.refused = (if status = 0 then s.cmd.refused else min 65535 (s.cmd.refused + 1))
    ∧ (u.cmd.svcReply.map fun b => (b.take 6, b.drop 7)) =
        (if q.flags.getLsbD 0 = true ∧ status = 0 then none
         else some ([op, status] ++ leBytes 2 q.cmdId.toNat ++ leBytes 2 result.length, 0 :: result))

/-- From `s` to `u` command `q` was accepted on the service port, and its reply is still to come (R249). -/
abbrev Awaited (s u : State) (q : CmdReq) (op : Byte) : Prop :=
  u.cmd.outstanding = s.cmd.outstanding ++ [{ port := .service, src := 0, cmdId := q.cmdId, opcode := op, quiet := q.flags.getLsbD 0, session := cmdSession q }]
    ∧ u.cmd.svcReply = none ∧ u.cmd.accepted = s.cmd.accepted ∧ u.cmd.refused = s.cmd.refused

/-- Both byte memories are in canonical form. -/
abbrev State.MemoryOk (s : State) : Prop := Memory.wf flashFill s.flash = true ∧ Memory.wf dramFill s.dram = true

/-- Tumbler has eight threads of sixteen registers (R210). -/
abbrev State.TumShaped (s : State) : Prop := s.tum.threads.length = 8 ∧ ∀ x ∈ s.tum.threads, x.g.length = 16

/-- The register files have the sizes that the spec gives them: Tumbler’s threads, eight compares (R336), sixteen layers (R30),
256 stream contexts (R310), 64 rings (R117), four check units (R425). -/
abbrev State.Shaped (s : State) : Prop :=
  s.TumShaped ∧ s.time.cmps.length = 8 ∧ s.comp.layers.length = 16 ∧ s.ctxs.length = 256 ∧ s.rings.rings.length = 64 ∧ s.chk.length = 4

/-- No light: both drive enables deasserted and VLED disable asserted (the outputs of SLO, R379). -/
abbrev State.OutputsOff (s : State) : Prop := s.saf.drvEnA = false ∧ s.saf.drvEnB = false ∧ s.saf.vledDis = true

/-- The states that the table of R22 leads to from a state, but for OFF and STANDBY, to which every state can go. -/
def EngState.leadsTo : EngState → List EngState
  | .off => []
  | .standby => [.boot]
  | .boot => [.join, .safe, .service]
  | .join => [.dark, .safe]
  | .dark => [.lit, .safe, .service, .update]
  | .lit => [.dark, .safe, .update]
  | .safe => [.dark, .join, .service]
  | .service => [.dark, .join, .safe, .update]
  | .update => [.dark, .lit, .safe, .service]

/-- The last transition that the engine made is one of R22’s table; in UPDATE it came from the state that it returns to, and from SERVICE
only without a valid image. -/
abbrev State.MovesListed (s : State) : Prop :=
  (s.eng.st = .off ∨ s.eng.st = .standby ∨ s.eng.st ∈ s.eng.prev.leadsTo)
    ∧ (s.eng.st = .update → s.eng.beforeUpdate = s.eng.prev ∧ (s.eng.prev = .service → s.eng.noImage = true))

/-- Light is possible only as R375 and R377 allow: either all outputs are those of SLO, or the logic die has left BOOT, the start-up test
has passed, the parameter set is valid and the function in force is not SLO. -/
abbrev State.DriveAllowed (s : State) : Prop := s.OutputsOff ∨ (s.mayDrive = true ∧ s.saf.func ≠ some .slo)

/-- A run is safe: it neither faults nor is refused. -/
def SafeRun (s : State) (n : Nat) : Prop := ∃ u, Sys2Proof.core.run n s = .next u

end Sys2Proof.Machine
end

