-- ==== Sys2Proof/Certificates/Slice0/Obligations.lean ====
section
/-!
DEFINITION. Sys2Proof/Certificates/Slice0/Obligations.lean: the statements about the machine that are to be proved.
-/

open Sys2Proof Sys2Proof.Machine

/-- Power entry: what each step of the hot-swap controller and of the housekeeping supply does, and what it leaves alone -/
def Obligations.PowerEntryCompletes : Prop :=
  -- HOUSEKEEPING_UP
  (∀ (s : State), s.Calm → s.eng.st = .off → Completes .housekeepingUp s fun u =>
      u.eng = { s.eng with st := .standby } ∧
        u.pwr = { s.pwr with hkOk := true, cause := .powerOn, others := 0, resets := 1, logicHeld := true, holdThermal := true, sameCycle := true } ∧
        u = { s with eng := u.eng, pwr := u.pwr, flt := u.flt } ∧ NoNewFault s u) ∧
  -- HOUSEKEEPING_LOST
  (∀ (s : State), s.Calm → s.eng.st ≠ .off → Completes .housekeepingLost s fun u =>
      u.eng.st = .off ∧ u.pwr.hsw = .gateOff ∧ u.pwr.coreEn = false ∧ u.pwr.auxEn0 = false ∧ u.pwr.auxEn1 = false ∧
        u.pwr.logicHeld = true ∧ (u.saf.func = none ∧ u.OutputsOff) ∧ u.flash = s.flash ∧ u.dram = s.dram ∧ u.pending = s.pending) ∧
  -- INRUSH_START
  (∀ (s : State), s.Calm → s.pwr.hsw = .gateOff → s.pwr.cooldownOver = true → s.eng.st ≠ .off → s.pwr.departing = false →
    Completes .inrushStart s fun u =>
      u.pwr = { s.pwr with hsw := .inrush, present := true, attempts := min 65535 (s.pwr.attempts + 1) } ∧
        u = { s with pwr := u.pwr, flt := u.flt } ∧ NoNewFault s u) ∧
  -- INRUSH_COMPLETE
  (∀ (s : State) (ms : BitVec 16), s.Calm → s.pwr.hsw = .inrush → s.pwr.holdInrush = false → Completes (.inrushComplete ms) s fun u =>
      u.pwr = { s.pwr with hsw := .on, inrushMs := ms.toNat, auxEn0 := s.pwr.auxEn0 || !s.pwr.shutdownPending } ∧
        u = { s with pwr := u.pwr, flt := u.flt } ∧ NoNewFault s u) ∧
  -- INRUSH_TIMEOUT
  (∀ (s : State), s.Calm → s.pwr.hsw = .inrush → s.pwr.holdInrush = false → Completes .inrushTimeout s fun u =>
      u.pwr.hsw = .tripped ∧ u.pwr.cooldownOver = false ∧ u.pwr.inrushFails = min 255 (s.pwr.inrushFails + 1) ∧
        (s.pwr.heldTrips.length < 8 → u.pwr.heldTrips = s.pwr.heldTrips ++ [0]) ∧ u = { s with pwr := u.pwr, flt := u.flt } ∧
        NoNewFault s u) ∧
  -- BREAKER_TRIP
  (∀ (s : State), s.Calm → s.pwr.hsw = .on → s.running = true → Completes .breakerTrip s fun u =>
      u.pwr.hsw = .tripped ∧ u.pwr.cooldownOver = false ∧ u.pwr.trips = min 255 (s.pwr.trips + 1) ∧ u.pwr.cause = .supply ∧
        u.eng.st = .standby ∧ u.flash = s.flash ∧ u.dram = s.dram ∧ (s.pwr.heldTrips.length < 8 →
        u.pwr.heldTrips = s.pwr.heldTrips ++ [1])) ∧
  -- BREAKER_TRIP: in STANDBY
  (∀ (s : State), s.Calm → s.pwr.hsw = .on → s.running = false → Completes .breakerTrip s fun u =>
      u.pwr.hsw = .tripped ∧ u.pwr.cooldownOver = false ∧ u.pwr.trips = min 255 (s.pwr.trips + 1) ∧ u.pwr.sequenced = false ∧
        u.pwr.resets = s.pwr.resets ∧ u = { s with pwr := u.pwr, flt := u.flt } ∧ NoNewFault s u) ∧
  -- BREAKER_OVERLOAD
  (∀ (s : State), s.Calm → s.pwr.hsw = .on → s.running = true → Completes .breakerOverload s fun u =>
      u.pwr.hsw = .tripped ∧ u.pwr.cooldownOver = false ∧ u.pwr.trips = min 255 (s.pwr.trips + 1) ∧ u.pwr.cause = .supply ∧
        u.eng.st = .standby ∧ u.flash = s.flash ∧ u.dram = s.dram ∧ (s.pwr.heldTrips.length < 8 →
        u.pwr.heldTrips = s.pwr.heldTrips ++ [2])) ∧
  -- BREAKER_OVERLOAD: in STANDBY
  (∀ (s : State), s.Calm → s.pwr.hsw = .on → s.running = false → Completes .breakerOverload s fun u =>
      u.pwr.hsw = .tripped ∧ u.pwr.cooldownOver = false ∧ u.pwr.trips = min 255 (s.pwr.trips + 1) ∧ u.pwr.sequenced = false ∧
        u.pwr.resets = s.pwr.resets ∧ u = { s with pwr := u.pwr, flt := u.flt } ∧ NoNewFault s u) ∧
  -- BUS_UV
  (∀ (s : State), s.Calm → s.running = true → Completes .busUv s fun u =>
      u.eng.st = .standby ∧ u.pwr.hsw = .gateOff ∧ u.pwr.cause = .supply ∧ u.pwr.logicHeld = true ∧ u.flash = s.flash) ∧
  -- BUS_UV: in STANDBY
  (∀ (s : State), s.Calm → s.eng.st = .standby → Completes .busUv s fun u =>
      u.pwr = { s.pwr with hsw := .gateOff, shutdownPending := s.pwr.auxEn0 || s.pwr.auxEn1 || s.pwr.coreEn, sequenced := false } ∧
        u = { s with pwr := u.pwr, flt := u.flt } ∧ NoNewFault s u) ∧
  -- TRIP_COOLDOWN_END
  (∀ (s : State), s.Calm → s.pwr.cooldownOver = false → Completes .tripCooldownEnd s fun u =>
      (u.pwr = { s.pwr with cooldownOver := true, hsw := if s.pwr.hsw = .tripped then .gateOff else s.pwr.hsw }) ∧
        u = { s with pwr := u.pwr, flt := u.flt } ∧ NoNewFault s u) ∧
  -- BUS_OV
  (∀ (s : State), s.Calm → s.running = true → s.hasCond 0xE1 0 = false → s.eng.leaving = false → Completes .busOv s fun u =>
      u.hasCond 0xE1 0 = true ∧ u.saf.internal = some .slo ∧ u.pwr = s.pwr ∧ (s.eng.st ∈ [.join, .dark, .lit, .service] →
        u.eng.st = .safe) ∧ (s.saf.func ≠ some .slo → u.OutputsOff))

/-- Supply sequencing, clock faults, resets and departure: what each step does, and what it leaves alone -/
def Obligations.SupplySequenceCompletes : Prop :=
  -- POWER_GOOD_RISE: AUX_PG[0]
  (∀ (s : State), s.Calm → s.pwr.auxEn0 = true → s.pwr.auxPg0 = false → Completes (.powerGoodRise .aux0) s fun u =>
      u.pwr = { s.pwr with auxPg0 := true, auxEn1 := true } ∧ u = { s with pwr := u.pwr, flt := u.flt } ∧ NoNewFault s u) ∧
  -- POWER_GOOD_RISE: AUX_PG[1]
  (∀ (s : State), s.Calm → s.pwr.auxEn1 = true → s.pwr.auxPg1 = false → Completes (.powerGoodRise .aux1) s fun u =>
      u.pwr = { s.pwr with auxPg1 := true, coreEn := true } ∧ u = { s with pwr := u.pwr, flt := u.flt } ∧ NoNewFault s u) ∧
  -- POWER_GOOD_RISE: CORE_PG
  (∀ (s : State), s.Calm → s.pwr.coreEn = true → s.pwr.corePg = false → Completes (.powerGoodRise .core) s fun u =>
      u.pwr = { s.pwr with corePg := true, sequenced := true } ∧ u = { s with pwr := u.pwr, flt := u.flt } ∧ NoNewFault s u) ∧
  -- SEQUENCE_TIMEOUT
  (∀ (s : State), s.Calm → s.eng.st = .standby → s.pwr.sequenced = false →
    (s.pwr.auxEn0 && !s.pwr.auxPg0 || s.pwr.auxEn1 && !s.pwr.auxPg1 || s.pwr.coreEn && !s.pwr.corePg) = true →
    Completes .sequenceTimeout s fun u =>
      u.pwr.auxEn0 = false ∧ u.pwr.auxEn1 = false ∧ u.pwr.coreEn = false ∧ u.pwr.coreFaultHeld = true ∧ u.pwr.seqFailed = true ∧
        u = { s with pwr := u.pwr, flt := u.flt } ∧ NoNewFault s u) ∧
  -- SEQUENCE_RETRY
  (∀ (s : State), s.Calm → s.pwr.seqFailed = true → s.pwr.hsw = .on → Completes .sequenceRetry s fun u =>
      u.pwr = { s.pwr with seqFailed := false, auxEn0 := true } ∧ u = { s with pwr := u.pwr, flt := u.flt } ∧ NoNewFault s u) ∧
  -- SUPPLY_SHUTDOWN
  (∀ (s : State), s.Calm → s.pwr.shutdownPending = true → s.eng.st = .standby → Completes .supplyShutdown s fun u =>
      u.pwr.coreEn = false ∧ u.pwr.auxEn1 = false ∧ u.pwr.auxPg0 = false ∧ u.pwr.auxPg1 = false ∧ u.pwr.corePg = false ∧
        u.pwr.auxEn0 = decide (s.pwr.hsw = .on) ∧ u.pwr.shutdownPending = false ∧ u = { s with pwr := u.pwr, flt := u.flt } ∧
        NoNewFault s u) ∧
  -- CORE_SUPPLY_FAULT: core too low
  (∀ (s : State), s.Calm → s.running = true → Completes (.coreSupplyFault .coreLow) s fun u =>
      u.eng.st = .standby ∧ u.pwr.cause = .supply ∧ u.pwr.logicHeld = true ∧ u.flash = s.flash) ∧
  -- CORE_SUPPLY_FAULT: core outside its window
  (∀ (s : State), s.Calm → s.running = true → s.hasCond 0xE4 0 = false → s.eng.leaving = false →
    Completes (.coreSupplyFault .coreWindow) s fun u =>
      u.hasCond 0xE4 0 = true ∧ u.saf.internal = some .slo ∧ u.pwr = s.pwr ∧ (s.eng.st ∈ [.join, .dark, .lit, .service] →
        u.eng.st = .safe)) ∧
  -- CORE_SUPPLY_FAULT: an auxiliary supply
  (∀ (s : State), s.Calm → s.running = true → Completes (.coreSupplyFault .aux) s fun u =>
      u.eng.st = .standby ∧ u.pwr.cause = .supply ∧ u.pwr.logicHeld = true ∧ u.flash = s.flash) ∧
  -- HOUSEKEEPING_UV
  (∀ (s : State), s.Calm → s.running = true → s.hasCond 0xE3 0 = false → s.eng.leaving = false → Completes .housekeepingUv s fun u =>
      u.pwr = { s.pwr with hkOk := false } ∧ u.hasCond 0xE3 0 = true ∧ u.saf.internal = some .slo ∧
        (s.eng.st ∈ [.join, .dark, .lit, .service] → u.eng.st = .safe)) ∧
  -- REFCLK_LOSS
  (∀ (s : State), s.Calm → s.running = true → s.hasCond 0x01 0 = false → s.eng.leaving = false → Completes .refclkLoss s fun u =>
      u.pwr = { s.pwr with refOk := false, clockFault := true } ∧ u.hasCond 0x01 0 = true ∧ u.saf.internal = some .slo ∧
        (s.eng.st ∈ [.join, .dark, .lit, .service] → u.eng.st = .safe)) ∧
  -- PLL_UNLOCK
  (∀ (s : State), s.Calm → s.running = true → s.hasCond 0x00 0 = false → s.eng.leaving = false → Completes .pllUnlock s fun u =>
      u.pwr = { s.pwr with rootLock := false, clockFault := true } ∧ u.hasCond 0x00 0 = true ∧ u.saf.internal = some .slo ∧
        (s.eng.st ∈ [.join, .dark, .lit, .service] → u.eng.st = .safe)) ∧
  -- CLOCK_RESET: the logic die is in reset already
  (∀ (s : State), s.Calm → s.eng.st = .standby → s.pwr.clockFault = true → Completes .clockReset s fun u =>
      u.pwr.holdClock = true ∧ u.pwr.clockFault = false ∧ u.pwr.resets = s.pwr.resets ∧ u = { s with pwr := u.pwr, flt := u.flt } ∧
        NoNewFault s u) ∧
  -- CLOCK_RESET
  (∀ (s : State), s.Calm → s.running = true → s.pwr.clockFault = true → Completes .clockReset s fun u =>
      u.eng.st = .standby ∧ u.pwr.cause = .clock ∧ u.pwr.holdClock = true ∧ u.pwr.logicHeld = true ∧ u.flash = s.flash ∧ u.dram = s.dram ∧
        u.pwr.resets = min 65535 (s.pwr.resets + 1)) ∧
  -- CLOCK_RECOVERED
  (∀ (s : State), s.Calm → s.pwr.holdClock = true → Completes .clockRecovered s fun u =>
      u.pwr = { s.pwr with holdClock := false } ∧ u = { s with pwr := u.pwr, flt := u.flt } ∧ NoNewFault s u) ∧
  -- PIN_RESET: the pin has been low for 10 µs
  (∀ (s : State), s.Calm → s.running = true → Completes (.pinReset .low) s fun u =>
      u.eng.st = .standby ∧ u.pwr.cause = .pin ∧ u.pwr.holdPin = true ∧ u.pwr.logicHeld = true ∧ u.flash = s.flash ∧ u.dram = s.dram ∧
        u.pwr.resets = min 65535 (s.pwr.resets + 1)) ∧
  -- PIN_RESET: the pin goes low in STANDBY
  (∀ (s : State), s.Calm → s.eng.st = .standby → Completes (.pinReset .low) s fun u =>
      u.pwr.holdPin = true ∧ u.pwr.resets = s.pwr.resets ∧ u = { s with pwr := u.pwr, flt := u.flt } ∧ NoNewFault s u) ∧
  -- PIN_RESET: 1 ms after it rose
  (∀ (s : State), s.Calm → s.pwr.holdPin = true → Completes (.pinReset .released) s fun u =>
      u.pwr = { s.pwr with holdPin := false } ∧ u = { s with pwr := u.pwr, flt := u.flt } ∧ NoNewFault s u) ∧
  -- MGMT_WATCHDOG
  (∀ (s : State), s.Calm → s.running = true → Completes .mgmtWatchdog s fun u =>
      u.eng.st = .standby ∧ u.pwr.cause = .watchdog ∧ u.pwr.logicHeld = true ∧ u.nvm.logQueue = [] ∧ u.flash = s.flash ∧
        u.pwr.resets = min 65535 (s.pwr.resets + 1)) ∧
  -- JTAG_SYSTEM_RESET
  (∀ (s : State), s.Calm → s.running = true → s.ward.jtagOpen = true → Completes .jtagSystemReset s fun u =>
      u.eng.st = .standby ∧ u.pwr.cause = .debug ∧ u.pwr.logicHeld = true ∧ u.flash = s.flash ∧ u.dram = s.dram ∧
        u.pwr.resets = min 65535 (s.pwr.resets + 1)) ∧
  -- DEPARTURE
  (∀ (s : State), s.Calm → s.pwr.present = true → s.running = true → Completes .departure s fun u =>
      u.pwr.present = false ∧ u.pwr.departing = true ∧ u.pwr.noNewStore = true ∧ u.pwr.departs = min 65535 (s.pwr.departs + 1) ∧
        u.led.on = false ∧ u.flash = s.flash ∧ u.hasCond 0xE5 0 = true) ∧
  -- DEPARTURE: in STANDBY
  (∀ (s : State), s.Calm → s.pwr.present = true → s.eng.st = .standby → Completes .departure s fun u =>
      u.pwr = { s.pwr with present := false, hsw := .gateOff, shutdownPending := s.pwr.auxEn0 || s.pwr.auxEn1 || s.pwr.coreEn, sequenced := false } ∧
        u = { s with pwr := u.pwr, flt := u.flt } ∧ NoNewFault s u) ∧
  -- PORT_PARK: a port in ACTIVE whose departure frame has been sent
  (∀ (s : State) (p : Port), s.Calm → s.pwr.departing = true → (s.link p).st = .active →
    ((s.link p).queue ++ (s.link p).onLine.toList).any (fun q => q.departure && !q.whole) = false → (s.link p).queue.any (fun q =>
    q.departure) = false → Completes (.portPark p) s fun u =>
      (u.link p).st = .parked ∧ (u.link p).width = 0 ∧ (u.link p).downs = min 255 ((s.link p).downs + 1) ∧
        (u.link (otherPort p)).st = (s.link (otherPort p)).st ∧
        u = { s with wall := u.wall, linkA := u.linkA, linkB := u.linkB, flt := u.flt } ∧ NoNewFault s u) ∧
  -- PORT_PARK: a port in QUIET
  (∀ (s : State) (p : Port), s.Calm → s.pwr.departing = true → (s.link p).st = .quiet → Completes (.portPark p) s fun u =>
      (u.link p).st = .parked ∧ (u.link p).width = 0 ∧ u.link (otherPort p) = s.link (otherPort p) ∧
        u = { s with linkA := u.linkA, linkB := u.linkB, flt := u.flt } ∧ NoNewFault s u) ∧
  -- PORT_PARK: a port in ACTIVE with nothing left to send
  (∀ (s : State) (p : Port), s.Calm → s.pwr.departing = true → (s.link p).st = .active → (s.link p).queue = [] →
    (s.link p).onLine = none → (s.link p).arriving = none → Completes (.portPark p) s fun u =>
      (u.link p).st = .parked ∧ (u.link p).width = 0 ∧ (u.link p).downs = min 255 ((s.link p).downs + 1) ∧
        u.link (otherPort p) = s.link (otherPort p) ∧ u = { s with wall := u.wall, linkA := u.linkA, linkB := u.linkB, flt := u.flt } ∧
        NoNewFault s u) ∧
  -- DEPARTURE_RESET
  (∀ (s : State) (us : BitVec 16), s.Calm → s.pwr.departing = true → s.running = true → Completes (.departureReset us) s fun u =>
      u.eng.st = .standby ∧ u.pwr.cause = .present ∧ u.pwr.lastUs = us.toNat ∧ u.pwr.departHeld = true ∧ u.pwr.logicHeld = true ∧
        u.flash = s.flash ∧ u.dram = s.dram) ∧
  -- DEPARTURE_RESET: another reset has come first
  (∀ (s : State) (us : BitVec 16), s.Calm → s.pwr.departing = true → s.eng.st = .standby → Completes (.departureReset us) s fun u =>
      u.pwr.lastUs = us.toNat ∧ u.pwr.departHeld = true ∧ u.pwr.resets = s.pwr.resets ∧ u = { s with pwr := u.pwr, flt := u.flt } ∧
        NoNewFault s u) ∧
  -- DEPARTURE_GATE_OFF
  (∀ (s : State), s.Calm → s.pwr.departing = true → s.pwr.departHeld = true → Completes .departureGateOff s fun u =>
      u.pwr.hsw = .gateOff ∧ u.pwr.departing = false ∧ u.pwr.departHeld = false ∧ u.pwr.sequenced = false ∧
        u = { s with pwr := u.pwr, flt := u.flt } ∧ NoNewFault s u) ∧
  -- SHUTDOWN_RESET
  (∀ (s : State), s.Calm → s.eng.shutting = true → s.running = true → Completes .shutdownReset s fun u =>
      u.eng.st = .standby ∧ u.pwr.cause = .thermal ∧ u.pwr.holdThermal = true ∧ u.pwr.logicHeld = true ∧
        (u.pwr.hsw = (if s.therm.pdieShut then .inrush else s.pwr.hsw) ∧ u.flash = s.flash ∧ u.dram = s.dram)) ∧
  -- THERMAL_RELEASE
  (∀ (s : State) (reading : Int), s.Calm → s.pwr.holdThermal = true → s.eng.st = .standby → reading ≤ 132 * 16 →
    Completes (.thermalRelease reading) s fun u =>
      u.pwr = { s.pwr with holdThermal := false, holdInrush := false } ∧ u = { s with pwr := u.pwr, flt := u.flt } ∧ NoNewFault s u)

/-- The sixteen R-format instructions: rd receives the result that R224 gives, the PC advances, and nothing else changes -/
def Obligations.TumblerRegisterResults : Prop :=
  -- ADD
  (∀ (s : State) (t : Fin 8) (rd : Fin 16) (ra : Fin 16) (rb : Fin 16), s.Calm → s.TumShaped → s.issues t (encR 0x00 rd ra rb) = true →
    Completes (.add t rd ra rb) s fun u =>
      WroteReg s u t rd (BitVec.ofNat 32 (((s.thread t).reg ra).toNat + ((s.thread t).reg rb).toNat))) ∧
  -- SUB
  (∀ (s : State) (t : Fin 8) (rd : Fin 16) (ra : Fin 16) (rb : Fin 16), s.Calm → s.TumShaped → s.issues t (encR 0x01 rd ra rb) = true →
    Completes (.sub t rd ra rb) s fun u =>
      WroteReg s u t rd (BitVec.ofInt 32 ((((s.thread t).reg ra).toNat : Int) - ((s.thread t).reg rb).toNat))) ∧
  -- AND
  (∀ (s : State) (t : Fin 8) (rd : Fin 16) (ra : Fin 16) (rb : Fin 16), s.Calm → s.TumShaped → s.issues t (encR 0x02 rd ra rb) = true →
    Completes (.and t rd ra rb) s fun u =>
      WroteReg s u t rd (((s.thread t).reg ra) &&& ((s.thread t).reg rb))) ∧
  -- OR
  (∀ (s : State) (t : Fin 8) (rd : Fin 16) (ra : Fin 16) (rb : Fin 16), s.Calm → s.TumShaped → s.issues t (encR 0x03 rd ra rb) = true →
    Completes (.or t rd ra rb) s fun u =>
      WroteReg s u t rd (((s.thread t).reg ra) ||| ((s.thread t).reg rb))) ∧
  -- XOR
  (∀ (s : State) (t : Fin 8) (rd : Fin 16) (ra : Fin 16) (rb : Fin 16), s.Calm → s.TumShaped → s.issues t (encR 0x04 rd ra rb) = true →
    Completes (.xor t rd ra rb) s fun u =>
      WroteReg s u t rd (((s.thread t).reg ra) ^^^ ((s.thread t).reg rb))) ∧
  -- SHL
  (∀ (s : State) (t : Fin 8) (rd : Fin 16) (ra : Fin 16) (rb : Fin 16), s.Calm → s.TumShaped → s.issues t (encR 0x05 rd ra rb) = true →
    Completes (.shl t rd ra rb) s fun u =>
      WroteReg s u t rd (BitVec.ofNat 32 (((s.thread t).reg ra).toNat * 2 ^ (((s.thread t).reg rb).toNat % 32)))) ∧
  -- SHR
  (∀ (s : State) (t : Fin 8) (rd : Fin 16) (ra : Fin 16) (rb : Fin 16), s.Calm → s.TumShaped → s.issues t (encR 0x06 rd ra rb) = true →
    Completes (.shr t rd ra rb) s fun u =>
      WroteReg s u t rd (BitVec.ofNat 32 (((s.thread t).reg ra).toNat / 2 ^ (((s.thread t).reg rb).toNat % 32)))) ∧
  -- SAR
  (∀ (s : State) (t : Fin 8) (rd : Fin 16) (ra : Fin 16) (rb : Fin 16), s.Calm → s.TumShaped → s.issues t (encR 0x07 rd ra rb) = true →
    Completes (.sar t rd ra rb) s fun u =>
      WroteReg s u t rd (BitVec.ofInt 32 (((s.thread t).reg ra).toInt / 2 ^ (((s.thread t).reg rb).toNat % 32)))) ∧
  -- MUL
  (∀ (s : State) (t : Fin 8) (rd : Fin 16) (ra : Fin 16) (rb : Fin 16), s.Calm → s.TumShaped → s.issues t (encR 0x08 rd ra rb) = true →
    Completes (.mul t rd ra rb) s fun u =>
      WroteReg s u t rd (BitVec.ofNat 32 (((s.thread t).reg ra).toNat * ((s.thread t).reg rb).toNat))) ∧
  -- MULHU
  (∀ (s : State) (t : Fin 8) (rd : Fin 16) (ra : Fin 16) (rb : Fin 16), s.Calm → s.TumShaped → s.issues t (encR 0x09 rd ra rb) = true →
    Completes (.mulhu t rd ra rb) s fun u =>
      WroteReg s u t rd (BitVec.ofNat 32 (((s.thread t).reg ra).toNat * ((s.thread t).reg rb).toNat / 2 ^ 32))) ∧
  -- DIVU
  (∀ (s : State) (t : Fin 8) (rd : Fin 16) (ra : Fin 16) (rb : Fin 16), s.Calm → s.TumShaped → s.issues t (encR 0x0A rd ra rb) = true →
    Completes (.divu t rd ra rb) s fun u =>
      (WroteReg s u t rd (if ((s.thread t).reg rb).toNat = 0 then 0xFFFFFFFF
        else BitVec.ofNat 32 (((s.thread t).reg ra).toNat / ((s.thread t).reg rb).toNat)))) ∧
  -- REMU
  (∀ (s : State) (t : Fin 8) (rd : Fin 16) (ra : Fin 16) (rb : Fin 16), s.Calm → s.TumShaped → s.issues t (encR 0x0B rd ra rb) = true →
    Completes (.remu t rd ra rb) s fun u =>
      (WroteReg s u t rd (if ((s.thread t).reg rb).toNat = 0 then ((s.thread t).reg ra)
        else BitVec.ofNat 32 (((s.thread t).reg ra).toNat % ((s.thread t).reg rb).toNat)))) ∧
  -- MIN
  (∀ (s : State) (t : Fin 8) (rd : Fin 16) (ra : Fin 16) (rb : Fin 16), s.Calm → s.TumShaped → s.issues t (encR 0x0C rd ra rb) = true →
    Completes (.min t rd ra rb) s fun u =>
      WroteReg s u t rd (BitVec.ofInt 32 (min ((s.thread t).reg ra).toInt ((s.thread t).reg rb).toInt))) ∧
  -- MAX
  (∀ (s : State) (t : Fin 8) (rd : Fin 16) (ra : Fin 16) (rb : Fin 16), s.Calm → s.TumShaped → s.issues t (encR 0x0D rd ra rb) = true →
    Completes (.max t rd ra rb) s fun u =>
      WroteReg s u t rd (BitVec.ofInt 32 (max ((s.thread t).reg ra).toInt ((s.thread t).reg rb).toInt))) ∧
  -- SLT
  (∀ (s : State) (t : Fin 8) (rd : Fin 16) (ra : Fin 16) (rb : Fin 16), s.Calm → s.TumShaped → s.issues t (encR 0x0E rd ra rb) = true →
    Completes (.slt t rd ra rb) s fun u =>
      (WroteReg s u t rd (if ((s.thread t).reg ra).toInt < ((s.thread t).reg rb).toInt then 1 else 0))) ∧
  -- SLTU
  (∀ (s : State) (t : Fin 8) (rd : Fin 16) (ra : Fin 16) (rb : Fin 16), s.Calm → s.TumShaped → s.issues t (encR 0x0F rd ra rb) = true →
    Completes (.sltu t rd ra rb) s fun u =>
      (WroteReg s u t rd (if ((s.thread t).reg ra).toNat < ((s.thread t).reg rb).toNat then 1 else 0)))

/-- The nine I-format instructions with an immediate operand: rd receives the result that R224 gives, and nothing else changes -/
def Obligations.TumblerImmediateResults : Prop :=
  -- ADDI
  (∀ (s : State) (t : Fin 8) (rd : Fin 16) (ra : Fin 16) (imm : BitVec 18), s.Calm → s.TumShaped →
    s.issues t (encI 0x10 rd ra imm) = true → Completes (.addi t rd ra imm) s fun u =>
      WroteReg s u t rd (BitVec.ofInt 32 (((s.thread t).reg ra).toInt + imm.toInt))) ∧
  -- ANDI
  (∀ (s : State) (t : Fin 8) (rd : Fin 16) (ra : Fin 16) (imm : BitVec 18), s.Calm → s.TumShaped →
    s.issues t (encI 0x11 rd ra imm) = true → Completes (.andi t rd ra imm) s fun u =>
      WroteReg s u t rd (((s.thread t).reg ra) &&& BitVec.ofNat 32 imm.toNat)) ∧
  -- ORI
  (∀ (s : State) (t : Fin 8) (rd : Fin 16) (ra : Fin 16) (imm : BitVec 18), s.Calm → s.TumShaped →
    s.issues t (encI 0x12 rd ra imm) = true → Completes (.ori t rd ra imm) s fun u =>
      WroteReg s u t rd (((s.thread t).reg ra) ||| BitVec.ofNat 32 imm.toNat)) ∧
  -- XORI
  (∀ (s : State) (t : Fin 8) (rd : Fin 16) (ra : Fin 16) (imm : BitVec 18), s.Calm → s.TumShaped →
    s.issues t (encI 0x13 rd ra imm) = true → Completes (.xori t rd ra imm) s fun u =>
      WroteReg s u t rd (((s.thread t).reg ra) ^^^ BitVec.ofNat 32 imm.toNat)) ∧
  -- SHLI
  (∀ (s : State) (t : Fin 8) (rd : Fin 16) (ra : Fin 16) (imm : BitVec 5), s.Calm → s.TumShaped →
    s.issues t (encI 0x14 rd ra (imm.zeroExtend 18)) = true → Completes (.shli t rd ra imm) s fun u =>
      WroteReg s u t rd (BitVec.ofNat 32 (((s.thread t).reg ra).toNat * 2 ^ imm.toNat))) ∧
  -- SHRI
  (∀ (s : State) (t : Fin 8) (rd : Fin 16) (ra : Fin 16) (imm : BitVec 5), s.Calm → s.TumShaped →
    s.issues t (encI 0x15 rd ra (imm.zeroExtend 18)) = true → Completes (.shri t rd ra imm) s fun u =>
      WroteReg s u t rd (BitVec.ofNat 32 (((s.thread t).reg ra).toNat / 2 ^ imm.toNat))) ∧
  -- SARI
  (∀ (s : State) (t : Fin 8) (rd : Fin 16) (ra : Fin 16) (imm : BitVec 5), s.Calm → s.TumShaped →
    s.issues t (encI 0x16 rd ra (imm.zeroExtend 18)) = true → Completes (.sari t rd ra imm) s fun u =>
      WroteReg s u t rd (BitVec.ofInt 32 (((s.thread t).reg ra).toInt / 2 ^ imm.toNat))) ∧
  -- LUI
  (∀ (s : State) (t : Fin 8) (rd : Fin 16) (imm : BitVec 18), s.Calm → s.TumShaped → s.issues t (encI 0x17 rd 0 imm) = true →
    Completes (.lui t rd imm) s fun u =>
      WroteReg s u t rd (BitVec.ofNat 32 (imm.toNat * 16384))) ∧
  -- SLTI
  (∀ (s : State) (t : Fin 8) (rd : Fin 16) (ra : Fin 16) (imm : BitVec 18), s.Calm → s.TumShaped →
    s.issues t (encI 0x18 rd ra imm) = true → Completes (.slti t rd ra imm) s fun u =>
      (WroteReg s u t rd (if ((s.thread t).reg ra).toInt < imm.toInt then 1 else 0)))

/-- Loads, stores and SWAP at an address in range: what is read and written, that every other data word keeps its value -/
def Obligations.TumblerDataMemory : Prop :=
  -- LD
  (∀ (s : State) (a : Nat) (t : Fin 8) (rd : Fin 16) (ra : Fin 16) (imm : BitVec 18), s.Calm → s.TumShaped →
    s.issues t (encI 0x19 rd ra imm) = true → a = ((s.thread t).reg ra + imm.signExtend 32).toNat → a < 16384 → a % 4 = 0 →
    Completes (.ld t rd ra imm) s fun u =>
      WroteReg s u t rd (s.dmemWord (a / 4))) ∧
  -- LDB
  (∀ (s : State) (a : Nat) (t : Fin 8) (rd : Fin 16) (ra : Fin 16) (imm : BitVec 18), s.Calm → s.TumShaped →
    s.issues t (encI 0x1A rd ra imm) = true → a = ((s.thread t).reg ra + imm.signExtend 32).toNat → a < 16384 →
    Completes (.ldb t rd ra imm) s fun u =>
      WroteReg s u t rd (BitVec.ofNat 32 ((s.dmemWord (a / 4)).toNat / 2 ^ (8 * (a % 4)) % 256))) ∧
  -- ST
  (∀ (s : State) (a : Nat) (t : Fin 8) (rd : Fin 16) (ra : Fin 16) (imm : BitVec 18), s.Calm → s.TumShaped →
    s.issues t (encI 0x1B rd ra imm) = true → a = ((s.thread t).reg ra + imm.signExtend 32).toNat → a < 16384 → a % 4 = 0 →
    Completes (.st t rd ra imm) s fun u =>
      (u.dmemWord (a / 4) = (s.thread t).reg rd ∧ (∀ i, i ≠ a / 4 → u.dmemWord i = s.dmemWord i)) ∧
        ((∀ r, (u.thread t).reg r = (s.thread t).reg r) ∧ WentOn s u t) ∧ ((∀ n, n ≠ t.val → u.thread n = s.thread n) ∧
        u.tum = { s.tum with threads := u.tum.threads, dmem := u.tum.dmem }) ∧ u = { s with tum := u.tum, flt := u.flt } ∧ NoNewFault s u) ∧
  -- STB
  (∀ (s : State) (a : Nat) (t : Fin 8) (rd : Fin 16) (ra : Fin 16) (imm : BitVec 18), s.Calm → s.TumShaped →
    s.issues t (encI 0x1C rd ra imm) = true → a = ((s.thread t).reg ra + imm.signExtend 32).toNat → a < 16384 →
    Completes (.stb t rd ra imm) s fun u =>
      (u.dmemByte a = ((s.thread t).reg rd).truncate 8 ∧ (∀ i, i ≠ a → u.dmemByte i = s.dmemByte i)) ∧
        ((∀ r, (u.thread t).reg r = (s.thread t).reg r) ∧ WentOn s u t) ∧ ((∀ n, n ≠ t.val → u.thread n = s.thread n) ∧
        u.tum = { s.tum with threads := u.tum.threads, dmem := u.tum.dmem }) ∧ u = { s with tum := u.tum, flt := u.flt } ∧ NoNewFault s u) ∧
  -- SWAP
  (∀ (s : State) (a : Nat) (t : Fin 8) (rd : Fin 16) (ra : Fin 16) (imm : BitVec 18), s.Calm → s.TumShaped →
    s.issues t (encI 0x1D rd ra imm) = true → a = ((s.thread t).reg ra + imm.signExtend 32).toNat → a < 16384 → a % 4 = 0 →
    Completes (.swap t rd ra imm) s fun u =>
      (u.dmemWord (a / 4) = (s.thread t).reg rd ∧ (∀ i, i ≠ a / 4 → u.dmemWord i = s.dmemWord i)) ∧
        ((∀ r, (u.thread t).reg r = if r = rd ∧ r ≠ 0 then s.dmemWord (a / 4) else (s.thread t).reg r) ∧ WentOn s u t) ∧
        ((∀ n, n ≠ t.val → u.thread n = s.thread n) ∧ u.tum = { s.tum with threads := u.tum.threads, dmem := u.tum.dmem }) ∧
        u = { s with tum := u.tum, flt := u.flt } ∧ NoNewFault s u)

/-- The six branches: with a target from 16 to 16,383 the PC goes to PC + simm when the comparison holds and to PC + 1 when it does not, and nothing else changes -/
def Obligations.TumblerBranches : Prop :=
  -- BEQ
  (∀ (s : State) (t : Fin 8) (rd : Fin 16) (ra : Fin 16) (off : BitVec 18), s.Calm → s.TumShaped →
    s.issues t (encI 0x20 rd ra off) = true → 16 ≤ ((s.thread t).pc : Int) + off.toInt → ((s.thread t).pc : Int) + off.toInt ≤ 16383 →
    Completes (.beq t rd ra off) s fun u =>
      (u.thread t = { s.thread t with pc := if (s.thread t).reg rd = (s.thread t).reg ra then (((s.thread t).pc : Int) + off.toInt).toNat else ((s.thread t).pc + 1) % 16384, issued := (s.thread t).issued + 1 } ∧
        OnlyThread s u t)) ∧
  -- BNE
  (∀ (s : State) (t : Fin 8) (rd : Fin 16) (ra : Fin 16) (off : BitVec 18), s.Calm → s.TumShaped →
    s.issues t (encI 0x21 rd ra off) = true → 16 ≤ ((s.thread t).pc : Int) + off.toInt → ((s.thread t).pc : Int) + off.toInt ≤ 16383 →
    Completes (.bne t rd ra off) s fun u =>
      (u.thread t = { s.thread t with pc := if (s.thread t).reg rd ≠ (s.thread t).reg ra then (((s.thread t).pc : Int) + off.toInt).toNat else ((s.thread t).pc + 1) % 16384, issued := (s.thread t).issued + 1 } ∧
        OnlyThread s u t)) ∧
  -- BLT
  (∀ (s : State) (t : Fin 8) (rd : Fin 16) (ra : Fin 16) (off : BitVec 18), s.Calm → s.TumShaped →
    s.issues t (encI 0x22 rd ra off) = true → 16 ≤ ((s.thread t).pc : Int) + off.toInt → ((s.thread t).pc : Int) + off.toInt ≤ 16383 →
    Completes (.blt t rd ra off) s fun u =>
      (u.thread t = { s.thread t with pc := if ((s.thread t).reg rd).toInt < ((s.thread t).reg ra).toInt then (((s.thread t).pc : Int) + off.toInt).toNat else ((s.thread t).pc + 1) % 16384, issued := (s.thread t).issued + 1 } ∧
        OnlyThread s u t)) ∧
  -- BGE
  (∀ (s : State) (t : Fin 8) (rd : Fin 16) (ra : Fin 16) (off : BitVec 18), s.Calm → s.TumShaped →
    s.issues t (encI 0x23 rd ra off) = true → 16 ≤ ((s.thread t).pc : Int) + off.toInt → ((s.thread t).pc : Int) + off.toInt ≤ 16383 →
    Completes (.bge t rd ra off) s fun u =>
      (u.thread t = { s.thread t with pc := if ((s.thread t).reg ra).toInt ≤ ((s.thread t).reg rd).toInt then (((s.thread t).pc : Int) + off.toInt).toNat else ((s.thread t).pc + 1) % 16384, issued := (s.thread t).issued + 1 } ∧
        OnlyThread s u t)) ∧
  -- BLTU
  (∀ (s : State) (t : Fin 8) (rd : Fin 16) (ra : Fin 16) (off : BitVec 18), s.Calm → s.TumShaped →
    s.issues t (encI 0x24 rd ra off) = true → 16 ≤ ((s.thread t).pc : Int) + off.toInt → ((s.thread t).pc : Int) + off.toInt ≤ 16383 →
    Completes (.bltu t rd ra off) s fun u =>
      (u.thread t = { s.thread t with pc := if ((s.thread t).reg rd).toNat < ((s.thread t).reg ra).toNat then (((s.thread t).pc : Int) + off.toInt).toNat else ((s.thread t).pc + 1) % 16384, issued := (s.thread t).issued + 1 } ∧
        OnlyThread s u t)) ∧
  -- BGEU
  (∀ (s : State) (t : Fin 8) (rd : Fin 16) (ra : Fin 16) (off : BitVec 18), s.Calm → s.TumShaped →
    s.issues t (encI 0x25 rd ra off) = true → 16 ≤ ((s.thread t).pc : Int) + off.toInt → ((s.thread t).pc : Int) + off.toInt ≤ 16383 →
    Completes (.bgeu t rd ra off) s fun u =>
      (u.thread t = { s.thread t with pc := if ((s.thread t).reg ra).toNat ≤ ((s.thread t).reg rd).toNat then (((s.thread t).pc : Int) + off.toInt).toNat else ((s.thread t).pc + 1) % 16384, issued := (s.thread t).issued + 1 } ∧
        OnlyThread s u t))

/-- Jumps, calls, returns and HALT: the PC, the call stack and the thread’s state, and nothing else -/
def Obligations.TumblerJumps : Prop :=
  -- JMP
  (∀ (s : State) (t : Fin 8) (off : BitVec 18), s.Calm → s.TumShaped → s.issues t (encI 0x26 0 0 off) = true →
    16 ≤ ((s.thread t).pc : Int) + off.toInt → ((s.thread t).pc : Int) + off.toInt ≤ 16383 → Completes (.jmp t off) s fun u =>
      u.thread t = { s.thread t with pc := (((s.thread t).pc : Int) + off.toInt).toNat, issued := (s.thread t).issued + 1 } ∧
        OnlyThread s u t) ∧
  -- JR
  (∀ (s : State) (t : Fin 8) (ra : Fin 16), s.Calm → s.TumShaped → s.issues t (encR 0x27 0 ra 0) = true →
    16 ≤ ((s.thread t).reg ra).toNat → ((s.thread t).reg ra).toNat ≤ 16383 → Completes (.jr t ra) s fun u =>
      u.thread t = { s.thread t with pc := ((s.thread t).reg ra).toNat, issued := (s.thread t).issued + 1 } ∧ OnlyThread s u t) ∧
  -- CALL
  (∀ (s : State) (t : Fin 8) (off : BitVec 18), s.Calm → s.TumShaped → s.issues t (encI 0x28 0 0 off) = true →
    16 ≤ ((s.thread t).pc : Int) + off.toInt → ((s.thread t).pc : Int) + off.toInt ≤ 16383 → (s.thread t).stack.length < 8 →
    Completes (.call t off) s fun u =>
      u.thread t = { s.thread t with pc := (((s.thread t).pc : Int) + off.toInt).toNat, stack := ((s.thread t).pc + 1) % 16384 :: (s.thread t).stack, issued := (s.thread t).issued + 1 } ∧
        OnlyThread s u t) ∧
  -- CALLR
  (∀ (s : State) (t : Fin 8) (ra : Fin 16), s.Calm → s.TumShaped → s.issues t (encR 0x29 0 ra 0) = true →
    16 ≤ ((s.thread t).reg ra).toNat → ((s.thread t).reg ra).toNat ≤ 16383 → (s.thread t).stack.length < 8 →
    Completes (.callr t ra) s fun u =>
      u.thread t = { s.thread t with pc := ((s.thread t).reg ra).toNat, stack := ((s.thread t).pc + 1) % 16384 :: (s.thread t).stack, issued := (s.thread t).issued + 1 } ∧
        OnlyThread s u t) ∧
  -- RET
  (∀ (s : State) (pc : Nat) (rest : List Nat) (t : Fin 8), s.Calm → s.TumShaped → s.issues t (encR 0x2A 0 0 0) = true →
    (s.thread t).stack = pc :: rest → Completes (.ret t) s fun u =>
      u.thread t = { s.thread t with pc := pc, stack := rest, issued := (s.thread t).issued + 1 } ∧ OnlyThread s u t) ∧
  -- HALT
  (∀ (s : State) (t : Fin 8), s.Calm → s.TumShaped → s.issues t (encR 0x2B 0 0 0) = true → Completes (.halt t) s fun u =>
      (u.thread t).st = .halted ∧ (u.thread t).cause = 1 ∧ (u.thread t).pc = (s.thread t).pc ∧ (u.thread t).g = (s.thread t).g ∧
        OnlyThread s u t)

/-- WAITF, WAITT, WAITD, WAITE and TIME: the wait that a thread enters, the compare that serves it, and the time read -/
def Obligations.TumblerWaits : Prop :=
  -- WAITF
  (∀ (s : State) (t : Fin 8) (rd : Fin 16) (imm : BitVec 18), s.Calm → s.TumShaped → s.issues t (encI 0x2C rd 0 imm) = true →
    Completes (.waitf t rd imm) s fun u =>
      (u.thread t).st = .waiting ∧ (u.thread t).wait = .take rd (max 1 imm.toNat) ∧ (u.thread t).pc = ((s.thread t).pc + 1) % 16384 ∧
        (u.thread t).g = (s.thread t).g ∧ OnlyThread s u t) ∧
  -- WAITT
  (∀ (s : State) (t : Fin 8) (rd : Fin 16) (ra : Fin 16) (rb : Fin 16), s.Calm → s.TumShaped → s.time.cmps.length = 8 →
    s.issues t (encR 0x2D rd ra rb) = true → Completes (.waitt t rd ra rb) s fun u =>
      (u.thread t).st = .waiting ∧ (u.thread t).wait = .compare rd ∧ (u.thread t).pc = ((s.thread t).pc + 1) % 16384 ∧
        (u.time.cmps.getD t {}).armed = true ∧
        target48 (u.time.cmps.getD t {}).lo (u.time.cmps.getD t {}).hi = ((s.thread t).reg ra).toNat + ((s.thread t).reg rb).toNat % 65536 * 2 ^ 32 ∧
        (∀ n, n ≠ t.val → u.thread n = s.thread n ∧ u.time.cmps.getD n {} = s.time.cmps.getD n {}) ∧
        u = { s with tum := u.tum, time := u.time, flt := u.flt } ∧ NoNewFault s u) ∧
  -- WAITD
  (∀ (s : State) (t : Fin 8) (rd : Fin 16) (ra : Fin 16) (imm : BitVec 18), s.Calm → s.TumShaped → s.time.cmps.length = 8 →
    s.issues t (encI 0x2E rd ra imm) = true → Completes (.waitd t rd ra imm) s fun u =>
      (u.thread t).st = .waiting ∧ (u.thread t).wait = .compare rd ∧ (u.thread t).pc = ((s.thread t).pc + 1) % 16384 ∧
        (u.time.cmps.getD t {}).armed = true ∧
        target48 (u.time.cmps.getD t {}).lo (u.time.cmps.getD t {}).hi = (s.nowNs + (((s.thread t).reg ra).toNat + imm.toNat) % 2 ^ 32 * 1000) % 2 ^ 48 ∧
        (∀ n, n ≠ t.val → u.thread n = s.thread n ∧ u.time.cmps.getD n {} = s.time.cmps.getD n {}) ∧
        u = { s with tum := u.tum, time := u.time, flt := u.flt } ∧ NoNewFault s u) ∧
  -- WAITE
  (∀ (s : State) (t : Fin 8) (rd : Fin 16) (ra : Fin 16) (imm : BitVec 18), s.Calm → s.TumShaped →
    s.issues t (encI 0x2F rd ra imm) = true → (s.thread t).pending &&& (s.thread t).reg ra = 0 → ((s.thread t).reg ra ≠ 0 ∨ imm ≠ 0) →
    Completes (.waite t rd ra imm) s fun u =>
      (u.thread t).st = .waiting ∧ (u.thread t).wait = .events rd ((s.thread t).reg ra) imm.toNat ∧
        (u.thread t).pc = ((s.thread t).pc + 1) % 16384 ∧ (u.thread t).pending = (s.thread t).pending ∧ OnlyThread s u t) ∧
  -- WAITE: an event is pending
  (∀ (s : State) (t : Fin 8) (rd : Fin 16) (ra : Fin 16) (imm : BitVec 18), s.Calm → s.TumShaped →
    s.issues t (encI 0x2F rd ra imm) = true → (s.thread t).pending &&& (s.thread t).reg ra ≠ 0 → Completes (.waite t rd ra imm) s fun u =>
      (u.thread t).st = .ready ∧ (u.thread t).pc = ((s.thread t).pc + 1) % 16384 ∧
        (u.thread t).pending = (s.thread t).pending &&& ~~~(s.thread t).reg ra ∧ (rd ≠ 0 →
        (u.thread t).reg rd = (s.thread t).pending &&& (s.thread t).reg ra) ∧ OnlyThread s u t) ∧
  -- TIME
  (∀ (s : State) (t : Fin 8) (rd : Fin 16) (sel : Fin 5), s.Calm → s.TumShaped →
    s.issues t (encI 0x30 rd 0 (BitVec.ofNat 18 sel.val)) = true → Completes (.time t rd sel) s fun u =>
      (∀ r, (u.thread t).reg r = if r = rd ∧ r ≠ 0 then (if sel = 0 then BitVec.ofNat 32 s.nowNs else if sel = 1 then
        BitVec.ofNat 32 ((s.thread t).snap / 2 ^ 32 % 2 ^ 16) else if sel = 2 then BitVec.ofNat 32 s.nextFlip else if sel = 3 then
        BitVec.ofNat 32 s.framePeriodNs else BitVec.ofNat 32 s.localUs) else (s.thread t).reg r) ∧
        ((u.thread t).pc = ((s.thread t).pc + 1) % 16384 ∧ (sel = 0 → (u.thread t).snap = s.nowNs)) ∧ OnlyThread s u t)

/-- What halts a thread: illegal words, runaways, forbidden accesses, targets, stacks and waits; the PC, the cause and TUMBLER_EXC -/
def Obligations.TumblerExceptions : Prop :=
  -- ILLEGAL_INSTRUCTION
  (∀ (s : State) (t : Fin 8), s.Calm → s.TumShaped → (s.thread t).st = .ready → (s.thread t).runaway = false →
    legalWord (s.progWord (s.thread t).pc) = false → Completes (.illegalInstruction t) s fun u =>
      (u.thread t).st = .halted ∧ (u.thread t).cause = 2 ∧ (u.thread t).pc = (s.thread t).pc ∧ u.tum.excThread = t.val ∧
        u.tum.excCause = 2 ∧ u.tum.excPc = (s.thread t).pc ∧ u.tum.excCount = min 255 (s.tum.excCount + 1) ∧ u.hasCond 0xA0 t.val = true ∧
        u.dram = s.dram ∧ u.flash = s.flash ∧ u.tum.dmem = s.tum.dmem) ∧
  -- RUNAWAY
  (∀ (s : State) (t : Fin 8), s.Calm → s.TumShaped → (s.thread t).st = .ready → (s.thread t).runaway = true →
    Completes (.runaway t) s fun u =>
      (u.thread t).st = .halted ∧ (u.thread t).cause = 8 ∧ (u.thread t).pc = (s.thread t).pc ∧ u.tum.excThread = t.val ∧
        u.tum.excCause = 8 ∧ u.tum.excPc = (s.thread t).pc ∧ u.tum.excCount = min 255 (s.tum.excCount + 1) ∧ u.hasCond 0xA0 t.val = true ∧
        u.dram = s.dram ∧ u.flash = s.flash ∧ u.tum.dmem = s.tum.dmem) ∧
  -- LD: misaligned
  (∀ (s : State) (t : Fin 8) (rd : Fin 16) (ra : Fin 16) (imm : BitVec 18), s.Calm → s.TumShaped →
    s.issues t (encI 0x19 rd ra imm) = true → ((s.thread t).reg ra + imm.signExtend 32).toNat % 4 ≠ 0 →
    Completes (.ld t rd ra imm) s fun u =>
      (u.thread t).st = .halted ∧ (u.thread t).cause = 3 ∧ (u.thread t).pc = (s.thread t).pc ∧ u.tum.excThread = t.val ∧
        u.tum.excCause = 3 ∧ u.tum.excPc = (s.thread t).pc ∧ u.tum.excCount = min 255 (s.tum.excCount + 1) ∧ u.hasCond 0xA0 t.val = true ∧
        u.dram = s.dram ∧ u.flash = s.flash ∧ u.tum.dmem = s.tum.dmem) ∧
  -- STB: outside data memory
  (∀ (s : State) (t : Fin 8) (rd : Fin 16) (ra : Fin 16) (imm : BitVec 18), s.Calm → s.TumShaped →
    s.issues t (encI 0x1C rd ra imm) = true → 16384 ≤ ((s.thread t).reg ra + imm.signExtend 32).toNat →
    Completes (.stb t rd ra imm) s fun u =>
      (u.thread t).st = .halted ∧ (u.thread t).cause = 3 ∧ (u.thread t).pc = (s.thread t).pc ∧ u.tum.excThread = t.val ∧
        u.tum.excCause = 3 ∧ u.tum.excPc = (s.thread t).pc ∧ u.tum.excCount = min 255 (s.tum.excCount + 1) ∧ u.hasCond 0xA0 t.val = true ∧
        u.dram = s.dram ∧ u.flash = s.flash ∧ u.tum.dmem = s.tum.dmem) ∧
  -- JR: target out of range
  (∀ (s : State) (t : Fin 8) (ra : Fin 16), s.Calm → s.TumShaped → s.issues t (encR 0x27 0 ra 0) = true →
    ((s.thread t).reg ra).toNat < 16 → Completes (.jr t ra) s fun u =>
      (u.thread t).st = .halted ∧ (u.thread t).cause = 6 ∧ (u.thread t).pc = (s.thread t).pc ∧ u.tum.excThread = t.val ∧
        u.tum.excCause = 6 ∧ u.tum.excPc = (s.thread t).pc ∧ u.tum.excCount = min 255 (s.tum.excCount + 1) ∧ u.hasCond 0xA0 t.val = true ∧
        u.dram = s.dram ∧ u.flash = s.flash ∧ u.tum.dmem = s.tum.dmem) ∧
  -- RET: empty stack
  (∀ (s : State) (t : Fin 8), s.Calm → s.TumShaped → s.issues t (encR 0x2A 0 0 0) = true → (s.thread t).stack = [] →
    Completes (.ret t) s fun u =>
      (u.thread t).st = .halted ∧ (u.thread t).cause = 7 ∧ (u.thread t).pc = (s.thread t).pc ∧ u.tum.excThread = t.val ∧
        u.tum.excCause = 7 ∧ u.tum.excPc = (s.thread t).pc ∧ u.tum.excCount = min 255 (s.tum.excCount + 1) ∧ u.hasCond 0xA0 t.val = true ∧
        u.dram = s.dram ∧ u.flash = s.flash ∧ u.tum.dmem = s.tum.dmem) ∧
  -- WAITE: no mask and no timeout
  (∀ (s : State) (t : Fin 8) (rd : Fin 16) (ra : Fin 16), s.Calm → s.TumShaped → s.issues t (encI 0x2F rd ra 0) = true →
    (s.thread t).reg ra = 0 → Completes (.waite t rd ra 0) s fun u =>
      (u.thread t).st = .halted ∧ (u.thread t).cause = 9 ∧ (u.thread t).pc = (s.thread t).pc ∧ u.tum.excThread = t.val ∧
        u.tum.excCause = 9 ∧ u.tum.excPc = (s.thread t).pc ∧ u.tum.excCount = min 255 (s.tum.excCount + 1) ∧ u.hasCond 0xA0 t.val = true ∧
        u.dram = s.dram ∧ u.flash = s.flash ∧ u.tum.dmem = s.tum.dmem)

/-- TIME frames: what a SYNC, FOLLOW_UP, PDELAY_REQ or PDELAY_RESP with a verifying tag does, and what one with a failing tag does -/
def Obligations.TimeFramesComplete : Prop :=
  -- SYNC: a verifying tag and a SEQ_ID newer than the last of its grandmaster, the domain’s own or an idle domain’s
  (∀ (s : State) (p : Port) (f : Frame) (sinceStart : Nat) (residence : Nat), s.Calm → hType f.hdr = 0x04 → tKind f = 1 →
    s.gets p f = true → f.payload.length = 40 → leAt f.payload 1 1 ≤ 1 → leAt f.payload 8 6 < 18446744073 →
    leAt f.payload 14 4 < 1000000000 → s.cmdTagOk 0x03 f 0x20 = true →
    (match sget none (tGm f).toNat (s.time.dom (leAt f.payload 1 1 == 1)).seqs with
    | none => true
    | some n => newer16 (tSeq f) n) = true →
        ((s.time.dom (leAt f.payload 1 1 == 1)).gm = tGm f ∨ (s.time.dom (leAt f.payload 1 1 == 1)).cond = .idle) →
        Completes (.sync p f sinceStart residence) s fun u =>
      (u.time.dom (leAt f.payload 1 1 == 1)) = { (s.time.dom (leAt f.payload 1 1 == 1)) with gm := tGm f, seq := tSeq f, seqs := sset none (tGm f).toNat (some (tSeq f)) (s.time.dom (leAt f.payload 1 1 == 1)).seqs } ∧
        (u.link p).syncs = { domain := leAt f.payload 1 1 == 1, gm := tGm f, seq := tSeq f, log := ofSfield 8 (leAt f.payload 2 1), tin := stamp (s.time.local_ - sinceStart), residence := stamp residence, ts := leAt f.payload 8 10 } :: (s.link p).syncs ∧
        u = { s with time := u.time, linkA := u.linkA, linkB := u.linkB, flt := u.flt } ∧ NoNewFault s u) ∧
  -- SYNC: a SEQ_ID that is not newer
  (∀ (s : State) (p : Port) (f : Frame) (sinceStart : Nat) (residence : Nat), s.Calm → hType f.hdr = 0x04 → tKind f = 1 →
    s.gets p f = true → f.payload.length = 40 → leAt f.payload 1 1 ≤ 1 → leAt f.payload 8 6 < 18446744073 →
    leAt f.payload 14 4 < 1000000000 → s.cmdTagOk 0x03 f 0x20 = true →
    (match sget none (tGm f).toNat (s.time.dom (leAt f.payload 1 1 == 1)).seqs with
    | none => true
    | some n => newer16 (tSeq f) n) = false → Completes (.sync p f sinceStart residence) s fun u =>
      u.time = { s.time with badMsg := min 255 (s.time.badMsg + 1) } ∧ u = { s with time := u.time, flt := u.flt } ∧ NoNewFault s u) ∧
  -- SYNC: a tag that fails
  (∀ (s : State) (p : Port) (f : Frame) (sinceStart : Nat) (residence : Nat), s.Calm → hType f.hdr = 0x04 → tKind f = 1 →
    s.gets p f = true → f.payload.length = 40 → leAt f.payload 1 1 ≤ 1 → leAt f.payload 8 6 < 18446744073 →
    leAt f.payload 14 4 < 1000000000 → s.cmdTagOk 0x03 f 0x20 = false → Completes (.sync p f sinceStart residence) s fun u =>
      u.time = { s.time with badMsg := min 255 (s.time.badMsg + 1) } ∧
        u.ward = { s.ward with tagFails := min 65535 (s.ward.tagFails + 1) } ∧
        u = { s with time := u.time, ward := u.ward, flt := u.flt } ∧ NoNewFault s u) ∧
  -- FOLLOW_UP: its SYNC is held and the domain was idle: the first sample
  (∀ (s : State) (h : HeldSync) (ld : Int) (p : Port) (f : Frame), s.Calm → hType f.hdr = 0x04 → tKind f = 2 → s.gets p f = true →
    f.payload.length = 40 → leAt f.payload 1 1 ≤ 1 → leAt f.payload 8 6 < 18446744073 → leAt f.payload 14 4 < 1000000000 →
    s.annTagOk 0x03 f 0x20 = true → (s.link p).syncs.find? (fun h =>
    h.domain == (leAt f.payload 1 1 == 1) && h.gm == tGm f && h.seq == tSeq f && h.ts == leAt f.payload 8 10) = some h →
    (s.link p).delay = some ld → s.time.local_ - h.tin ≤ 10000000 * 65536 → s.active (otherPort p) = true →
    (s.time.dom h.domain).cond = .idle → s.hasRoom (otherPort p) 0 60 = true → Completes (.followUp p f) s fun u =>
      (u.time.dom h.domain).cond = .acquiring ∧ (u.time.dom h.domain).refLocal = h.tin ∧
        (u.time.dom h.domain).refTd = (tNs f : Int) * 65536 + tCorr f + ld ∧
        (u.time.dom h.domain).samples = min 65535 ((s.time.dom h.domain).samples + 1) ∧
        (u.link p).syncs.length < (s.link p).syncs.length ∧ ((u.link (otherPort p)).queue.dropLast = (s.link (otherPort p)).queue ∧
        ((u.link (otherPort p)).queue.getLast?.map fun q =>
        (hType q.frame.hdr, hDest q.frame.hdr, leAt q.frame.payload 0 1, leAt q.frame.payload 4 2, leAt q.frame.payload 6 2, leAt q.frame.payload 8 10, ofSfield 64 (leAt q.frame.payload 0x12 8))) = some (0x04, (s.link (otherPort p)).partnerId.toNat, 2, h.gm.toNat, h.seq.toNat, h.ts, ofSfield 64 (sfield 64 (tCorr f + ld + h.residence)))) ∧
        u = { s with time := u.time, wall := u.wall, linkA := u.linkA, linkB := u.linkB, flt := u.flt } ∧ NoNewFault s u) ∧
  -- FOLLOW_UP: a domain that is not idle: a further sample, which is no third outlier in a row
  (∀ (s : State) (h : HeldSync) (ld : Int) (p : Port) (f : Frame), s.Calm → hType f.hdr = 0x04 → tKind f = 2 → s.gets p f = true →
    f.payload.length = 40 → leAt f.payload 1 1 ≤ 1 → leAt f.payload 8 6 < 18446744073 → leAt f.payload 14 4 < 1000000000 →
    s.annTagOk 0x03 f 0x20 = true → (s.link p).syncs.find? (fun h =>
    h.domain == (leAt f.payload 1 1 == 1) && h.gm == tGm f && h.seq == tSeq f && h.ts == leAt f.payload 8 10) = some h →
    (s.link p).delay = some ld → s.time.local_ - h.tin ≤ 10000000 * 65536 → s.active (otherPort p) = true →
    (s.time.dom h.domain).outRun < 2 → Completes (.followUp p f) s fun u =>
      (u.time.dom h.domain).samples = min 65535 ((s.time.dom h.domain).samples + 1) ∧ (u.link p).syncs.length < (s.link p).syncs.length) ∧
  -- FOLLOW_UP: a tag that fails
  (∀ (s : State) (p : Port) (f : Frame), s.Calm → hType f.hdr = 0x04 → tKind f = 2 → s.gets p f = true → f.payload.length = 40 →
    leAt f.payload 1 1 ≤ 1 → leAt f.payload 8 6 < 18446744073 → leAt f.payload 14 4 < 1000000000 → s.annTagOk 0x03 f 0x20 = false →
    Completes (.followUp p f) s fun u =>
      u.time = { s.time with badMsg := min 255 (s.time.badMsg + 1) } ∧
        u.ward = { s.ward with tagFails := min 65535 (s.ward.tagFails + 1) } ∧
        u = { s with time := u.time, ward := u.ward, flt := u.flt } ∧ NoNewFault s u) ∧
  -- FOLLOW_UP_TIMEOUT
  (∀ (s : State) (p : Port), s.Calm → Completes (.followUpTimeout p) s fun u =>
      (u.link p).syncs = (s.link p).syncs.dropLast ∧ u.link (otherPort p) = s.link (otherPort p) ∧
        u = { s with linkA := u.linkA, linkB := u.linkB, flt := u.flt } ∧ NoNewFault s u) ∧
  -- PDELAY_REQ: a verifying tag: answered
  (∀ (s : State) (p : Port) (f : Frame) (turnaround : Nat), s.Calm → hType f.hdr = 0x04 → tKind f = 3 → hHops f.hdr = 0 →
    s.gets p f = true → f.payload.length = 40 → leAt f.payload 1 1 ≤ 1 → leAt f.payload 8 6 < 18446744073 →
    leAt f.payload 14 4 < 1000000000 → s.annTagOk 0x03 f 0x20 = true → s.hasRoom p 0 60 = true →
    Completes (.pdelayReq p f turnaround) s fun u =>
      ((u.link p).queue.dropLast = (s.link p).queue ∧ ((u.link p).queue.getLast?.map fun q =>
        (hType q.frame.hdr, hDest q.frame.hdr, leAt q.frame.payload 0 1, leAt q.frame.payload 6 2, ofSfield 64 (leAt q.frame.payload 0x12 8))) = some (0x04, hSrc f.hdr, 4, (tSeq f).toNat, ofSfield 64 (sfield 64 (stamp turnaround)))) ∧
        u.link (otherPort p) = s.link (otherPort p) ∧ u = { s with wall := u.wall, linkA := u.linkA, linkB := u.linkB, flt := u.flt } ∧
        NoNewFault s u) ∧
  -- PDELAY_REQ: a tag that fails
  (∀ (s : State) (p : Port) (f : Frame) (turnaround : Nat), s.Calm → hType f.hdr = 0x04 → tKind f = 3 → s.gets p f = true →
    f.payload.length = 40 → leAt f.payload 1 1 ≤ 1 → leAt f.payload 8 6 < 18446744073 → leAt f.payload 14 4 < 1000000000 →
    s.annTagOk 0x03 f 0x20 = false → Completes (.pdelayReq p f turnaround) s fun u =>
      u.time = { s.time with badMsg := min 255 (s.time.badMsg + 1) } ∧
        u.ward = { s.ward with tagFails := min 65535 (s.ward.tagFails + 1) } ∧
        u = { s with time := u.time, ward := u.ward, flt := u.flt } ∧ NoNewFault s u) ∧
  -- PDELAY_RESP: a verifying tag, the answer to the request: a sample of the link delay, unless it comes later than 1 ms
  (∀ (s : State) (r : PendReq) (p : Port) (f : Frame) (sinceStart : Nat), s.Calm → hType f.hdr = 0x04 → tKind f = 4 → hHops f.hdr = 0 →
    s.gets p f = true → f.payload.length = 40 → leAt f.payload 1 1 ≤ 1 → leAt f.payload 8 6 < 18446744073 →
    leAt f.payload 14 4 < 1000000000 → s.annTagOk 0x03 f 0x20 = true → (s.link p).pdPending = some r → r.seq = tSeq f →
    Completes (.pdelayResp p f sinceStart) s fun u =>
      (u.link p = { s.link p with pdPending := none, pdSamples := if ((stamp (s.time.local_ - sinceStart) : Nat) : Int) - r.t1 ≤ 1000000 * 65536 then ((((stamp (s.time.local_ - sinceStart) : Nat) : Int) - r.t1 - tCorr f) / 2 :: (s.link p).pdSamples).take 8 else (s.link p).pdSamples } ∧
        u.link (otherPort p) = s.link (otherPort p)) ∧ u = { s with linkA := u.linkA, linkB := u.linkB, flt := u.flt } ∧ NoNewFault s u) ∧
  -- PDELAY_RESP: a tag that fails
  (∀ (s : State) (p : Port) (f : Frame) (sinceStart : Nat), s.Calm → hType f.hdr = 0x04 → tKind f = 4 → s.gets p f = true →
    f.payload.length = 40 → leAt f.payload 1 1 ≤ 1 → leAt f.payload 8 6 < 18446744073 → leAt f.payload 14 4 < 1000000000 →
    s.annTagOk 0x03 f 0x20 = false → Completes (.pdelayResp p f sinceStart) s fun u =>
      u.time = { s.time with badMsg := min 255 (s.time.badMsg + 1) } ∧
        u.ward = { s.ward with tagFails := min 65535 (s.ward.tagFails + 1) } ∧
        u = { s with time := u.time, ward := u.ward, flt := u.flt } ∧ NoNewFault s u) ∧
  -- PDELAY_SEND
  (∀ (s : State) (p : Port), s.Calm → (s.link p).st = .active → (s.link p).partnerId ≠ 0 → s.hasRoom p 0 60 = true →
    Completes (.pdelaySend p) s fun u =>
      (u.link p).pdPending = some { seq := (s.link p).pdSeq, t1 := stamp s.time.local_ } ∧ (u.link p).pdSeq = (s.link p).pdSeq + 1 ∧
        ((u.link p).queue.dropLast = (s.link p).queue ∧ ((u.link p).queue.getLast?.map fun q =>
        (hType q.frame.hdr, hDest q.frame.hdr, leAt q.frame.payload 0 1, leAt q.frame.payload 6 2)) = some (0x04, (s.link p).partnerId.toNat, 3, (s.link p).pdSeq.toNat)) ∧
        u.link (otherPort p) = s.link (otherPort p) ∧ u = { s with wall := u.wall, linkA := u.linkA, linkB := u.linkB, flt := u.flt } ∧
        NoNewFault s u) ∧
  -- PDELAY_TIMEOUT
  (∀ (s : State) (p : Port), s.Calm → Completes (.pdelayTimeout p) s fun u =>
      (u.link p).pdPending = none ∧ u.link (otherPort p) = s.link (otherPort p) ∧
        u = { s with linkA := u.linkA, linkB := u.linkB, flt := u.flt } ∧ NoNewFault s u)

/-- Wall time: loss of a domain, end of holdover, slews and switches, FRAME_LOCK, compares and captures -/
def Obligations.WallTimeCompletes : Prop :=
  -- DOMAIN_LOSS_TIMEOUT: TD1, which W does not follow
  (∀ (s : State), s.Calm → s.time.d1.cond ≠ .idle → (s.time.valid = false ∨ s.time.active = false) → s.time.slewing = false →
    Completes (.domainLossTimeout false true) s fun u =>
      u.time.d1.cond = .idle ∧ u.time.d1.losses = min 65535 (s.time.d1.losses + 1) ∧ u.time.active = s.time.active ∧
        u.time.valid = s.time.valid ∧ u.time.d0 = s.time.d0 ∧ u.hasCond 0x33 0 = true) ∧
  -- DOMAIN_LOSS_TIMEOUT: TD0
  (∀ (s : State), s.Calm → s.time.d0.cond ≠ .idle → Completes (.domainLossTimeout true false) s fun u =>
      u.time.d0.cond = .idle ∧ u.time.d0.losses = min 65535 (s.time.d0.losses + 1) ∧ u.hasCond 0x33 0 = true) ∧
  -- HOLDOVER_EXPIRY
  (∀ (s : State), s.Calm → s.time.holdover = true → Completes .holdoverExpiry s fun u =>
      u.time.valid = false ∧ u.time.holdover = false ∧ u.time.lost = min 255 (s.time.lost + 1) ∧ u.hasCond 0x30 0 = true ∧
        u.eng.st ≠ .lit) ∧
  -- SLEW_COMPLETE
  (∀ (s : State), s.Calm → s.time.slewing = true → (s.time.td s.time.slewTo - s.time.w).natAbs ≤ 8 * 65536 → s.losers 25 = [] →
    Completes .slewComplete s fun u =>
      u.time.active = s.time.slewTo ∧ u.time.slewing = false ∧ u.time.holdover = false ∧ u.time.holdPrior = 0 ∧
        u = { s with time := u.time, tum := u.tum, flt := u.flt } ∧ NoNewFault s u) ∧
  -- SWITCH_BACK
  (∀ (s : State), s.Calm → s.time.valid = true → s.time.holdover = false → s.time.slewing = false → s.time.pref ≠ s.time.active →
    s.time.qualified = true → Completes .switchBack s fun u =>
      u.time.active = s.time.pref ∧ u.time.switches = min 255 (s.time.switches + 1) ∧ u.hasCond 0x32 0 = true) ∧
  -- CAPTURE_EDGE
  (∀ (s : State) (source : Fin 7) (rising : Bool), s.Calm → s.time.capEn.getLsbD source = true → s.time.caps.length < 16 →
    s.losers 26 = [] → s.time.caps.all (fun c =>
    !(c.stamp == s.nowNs % 2 ^ 48 && c.wValid == s.time.valid && decide (source.val < c.source))) = true → (source ≠ 0 ∨ rising = true) →
    Completes (.captureEdge source rising) s fun u =>
      u.time.caps = s.time.caps ++ [{ source := source, edge := rising, wValid := s.time.valid, stamp := s.nowNs % 2 ^ 48 }] ∧
        u = { s with time := u.time, tum := u.tum, flt := u.flt } ∧ NoNewFault s u) ∧
  -- CAPTURE_EDGE: the FIFO is full: the capture is lost
  (∀ (s : State) (source : Fin 7) (rising : Bool), s.Calm → s.time.capEn.getLsbD source = true → 16 ≤ s.time.caps.length →
    (source ≠ 0 ∨ rising = true) → Completes (.captureEdge source rising) s fun u =>
      u.time = { s.time with capLost := true } ∧ u.hasCond 0x35 0 = true) ∧
  -- FRAME_LOCK_EDGE
  (∀ (s : State), s.Calm → s.time.flockEn = true → Completes .frameLockEdge s fun u =>
      u.time.flockEdge = some s.time.local_ ∧ u.time.flockFresh = true ∧ u.hasCond 0x34 0 = false ∧ (∀ t, s.time.flockEdge = some t →
        u.time.flockPeriod = min (2 ^ 28 - 1) ((s.time.local_ - t) / 65536)) ∧ u = { s with time := u.time, flt := u.flt } ∧
        NoNewFault s u) ∧
  -- FLOCK_LOST
  (∀ (s : State), s.Calm → s.time.flockEn = true → Completes .flockLost s fun u =>
      u.hasCond 0x34 0 = true ∧ u.time.flockEdge = s.time.flockEdge ∧ u.pwr = s.pwr) ∧
  -- TIME_COMPARE_FIRE
  (∀ (s : State) (n : Fin 8), s.Calm → s.time.cmps.length = 8 → s.TumShaped → (s.time.cmps.getD n {}).armed = true →
    s.reached (s.time.cmps.getD n {}).lo (s.time.cmps.getD n {}).hi = true → s.losers n = [] → Completes (.timeCompareFire n) s fun u =>
      ((u.time.cmps.getD n {}).armed = false ∧ (∀ m, m ≠ n.val → u.time.cmps.getD m {} = s.time.cmps.getD m {})) ∧ (s.waitsOn n = true →
        (u.thread n).st = .ready ∧ (u.thread n).pc = (s.thread n).pc) ∧ (∀ m, m < 8 → (s.thread m).st = .halted →
        (u.thread m).st = .halted) ∧ u = { s with time := u.time, tum := u.tum, flt := u.flt } ∧ NoNewFault s u) ∧
  -- ADC_SNAPSHOT
  (∀ (s : State), s.Calm → s.time.adcArmed = true → s.reached s.time.adcLo s.time.adcHi = true → Completes .adcSnapshot s fun u =>
      (u.time.adcArmed = false ∧ u.time.adcFresh = true ∧ (∀ i, i < 7 → u.time.adcSnap.getD i 0 = (s.led.adc.getD i {}).code)) ∧
        u = { s with time := u.time, flt := u.flt } ∧ NoNewFault s u)

/-- Time registers: arming compares and the snapshot, HOLD_MAX_S, software captures, and the reads that snapshot -/
def Obligations.TimeRegistersComplete : Prop :=
  -- HOLD_MAX_S
  (∀ (s : State) (src : Source) (w : Word), s.Calm → s.canAccess src = true → s.accessLegal src true 0x1818 = true →
    s.time.holdover = false → Completes (.holdMaxS src w) s fun u =>
      u.time = { s.time with holdMaxS := min 600 (max 1 (w.toNat % 1024)) } ∧
        u.acc = some { source := src, addr := 0x1818, data := 0, status := 0 } ∧
        u = { s with time := u.time, acc := u.acc, flt := u.flt } ∧ NoNewFault s u) ∧
  -- COMPARE_ARM: armed
  (∀ (s : State) (src : Source) (n : Fin 8) (w : Word), s.Calm → s.canAccess src = true →
    s.accessLegal src true (0x1884 + 8 * n.val) = true → s.time.cmps.length = 8 → s.waitsOn n = false →
    Completes (.compareArm src n w) s fun u =>
      (u.time.cmps.getD n {}).armed = true ∧
        target48 (u.time.cmps.getD n {}).lo (u.time.cmps.getD n {}).hi = (s.time.cmps.getD n {}).lo.toNat + w.toNat % 65536 * 2 ^ 32 ∧
        ((∀ m, m ≠ n.val → u.time.cmps.getD m {} = s.time.cmps.getD m {}) ∧
        u.acc = some { source := src, addr := 0x1884 + 8 * n.val, data := 0, status := 0 }) ∧
        u = { s with time := u.time, acc := u.acc, flt := u.flt } ∧ NoNewFault s u) ∧
  -- COMPARE_ARM: refused with BUSY
  (∀ (s : State) (src : Source) (n : Fin 8) (w : Word), s.Calm → s.canAccess src = true →
    s.accessLegal src true (0x1884 + 8 * n.val) = true → s.waitsOn n = true → src ≠ .tumbler → Completes (.compareArm src n w) s fun u =>
      u.acc = some { source := src, addr := 0x1884 + 8 * n.val, data := 0, status := 0x06 } ∧ u = { s with acc := u.acc, flt := u.flt } ∧
        NoNewFault s u) ∧
  -- ADC_SNAPSHOT_ARM
  (∀ (s : State) (src : Source) (w : Word), s.Calm → s.canAccess src = true → s.accessLegal src true 0x1878 = true →
    Completes (.adcSnapshotArm src w) s fun u =>
      u.time = { s.time with adcHi := BitVec.ofNat 32 (w.toNat % 65536), adcArmed := true, adcFresh := false } ∧
        u.acc = some { source := src, addr := 0x1878, data := 0, status := 0 } ∧
        u = { s with time := u.time, acc := u.acc, flt := u.flt } ∧ NoNewFault s u) ∧
  -- TIME_CAP_SW
  (∀ (s : State) (src : Source) (w : Word), s.Calm → s.canAccess src = true → s.accessLegal src true 0x1870 = true →
    s.time.capEn.getLsbD 8 = true → s.time.caps.length < 16 → s.losers 26 = [] → s.time.caps.all (fun c =>
    !(c.stamp == s.nowNs % 2 ^ 48 && c.wValid == s.time.valid && decide (8 < c.source))) = true → Completes (.timeCapSw src w) s fun u =>
      u.time.caps = s.time.caps ++ [{ source := 8, edge := true, wValid := s.time.valid, stamp := s.nowNs % 2 ^ 48 }] ∧
        u = { s with time := u.time, tum := u.tum, acc := u.acc, flt := u.flt } ∧ NoNewFault s u) ∧
  -- TIME_CAP_DATA0_READ
  (∀ (s : State) (src : Source) (c : Capture) (rest : List Capture), s.Calm → s.canAccess src = true →
    s.accessLegal src false 0x1860 = true → s.time.caps = c :: rest → Completes (.timeCapData0Read src true) s fun u =>
      u.time = { s.time with caps := rest, capLost := false } ∧ (u.per src).capData1 = BitVec.ofNat 32 c.stamp ∧
        (∃ d, u.acc = some { source := src, addr := 0x1860, data := d, status := 0 } ∧ d.toNat % 32 = c.source % 32 ∧
        d.toNat / 65536 = c.stamp / 2 ^ 32 % 65536) ∧ u = { s with time := u.time, sel := u.sel, acc := u.acc, flt := u.flt } ∧
        NoNewFault s u) ∧
  -- TIME_NOW_READ
  (∀ (s : State) (src : Source), s.Calm → s.canAccess src = true → s.accessLegal src false 0x1808 = true →
    Completes (.timeNowRead src) s fun u =>
      u.acc = some { source := src, addr := 0x1808, data := BitVec.ofNat 32 s.nowNs, status := 0 } ∧
        (u.per src).nowHi = BitVec.ofNat 32 (s.nowNs / 2 ^ 32) ∧ u = { s with sel := u.sel, acc := u.acc, flt := u.flt } ∧ NoNewFault s u) ∧
  -- TIME_LOCAL_READ
  (∀ (s : State) (src : Source), s.Calm → s.canAccess src = true → s.accessLegal src false 0x1810 = true →
    Completes (.timeLocalRead src) s fun u =>
      u.acc = some { source := src, addr := 0x1810, data := BitVec.ofNat 32 s.localNs, status := 0 } ∧
        (u.per src).localHi = BitVec.ofNat 32 (s.localNs / 2 ^ 32) ∧ u = { s with sel := u.sel, acc := u.acc, flt := u.flt } ∧
        NoNewFault s u)

/-- Wall-link training: DETECT, RATE, EQ and ALIGN lead to ACTIVE; failed attempts, QUIET and its retries -/
def Obligations.LinkTrainingCompletes : Prop :=
  -- TRAIN_DETECTED: a valid TRAIN block of the other port letter on the lane of its own number
  (∀ (s : State) (p : Port) (lane : Fin 4) (payload : BitVec 64) (trains : List (Fin 4 × BitVec 64)), s.Calm →
    ((s.link p).st = .detect ∨ (s.link p).st = .rate) → (s.link p).lanes.length = 4 → trainOk payload = true →
    ((s.link p).lanes.getD lane.val {}).fenced = false → ((s.link p).lanes.getD lane.val {}).waiting = false →
    ((s.link p).lanes.getD lane.val {}).swapped = false → ((s.link p).lanes.getD lane.val {}).blockLock = true →
    bits64 payload 14 13 = lane.val → bits64 payload 15 15 ≠ portNo p → trains.all (fun t =>
    trainOk t.2 && bits64 t.2 14 13 == t.1.val && bits64 t.2 15 15 != portNo p) = true → (s.link p).lanes.all (fun x =>
    !x.swapped) = true → Completes (.trainDetected p lane payload trains) s fun u =>
      (u.link p).st = .rate ∧ (u.link p).partnerId.toNat = bits64 payload 51 40 ∧ (u.link p).headend = (bits64 payload 16 16 == 1) ∧
        (u.link p).partnerStart = bits64 payload 18 17 ∧ (u.link p).miswired = (s.link p).miswired ∧
        ((u.link p).lanes.getD lane.val {}) = { ((s.link p).lanes.getD lane.val {}) with healthy := true } ∧
        u.link (otherPort p) = s.link (otherPort p) ∧ (∀ i : Fin 4, i ≠ lane → (u.link p).lanes.getD i.val {} = if trains.any (fun t =>
        t.1 == i) && ((s.link p).lanes.getD i.val {}).trains then { (s.link p).lanes.getD i.val {} with healthy := true }
        else (s.link p).lanes.getD i.val {}) ∧ u = { s with linkA := u.linkA, linkB := u.linkB, flt := u.flt } ∧ NoNewFault s u) ∧
  -- TRAIN_DETECTED: its complement: the polarity of the lane is corrected
  (∀ (s : State) (p : Port) (lane : Fin 4) (payload : BitVec 64), s.Calm → (s.link p).st = .detect → (s.link p).lanes.length = 4 →
    trainOk payload = false → trainOk (~~~payload) = true → ((s.link p).lanes.getD lane.val {}).fenced = false →
    ((s.link p).lanes.getD lane.val {}).waiting = false → ((s.link p).lanes.getD lane.val {}).swapped = false →
    ((s.link p).lanes.getD lane.val {}).blockLock = true → bits64 (~~~payload) 14 13 = lane.val → bits64 (~~~payload) 15 15 ≠ portNo p →
    Completes (.trainDetected p lane payload []) s fun u =>
      ((u.link p).st = .rate ∧
        ((u.link p).lanes.getD lane.val {}) = { ((s.link p).lanes.getD lane.val {}) with healthy := true, inverted := !((s.link p).lanes.getD lane.val {}).inverted } ∧
        (∀ i, i ≠ lane.val → (u.link p).lanes.getD i {} = (s.link p).lanes.getD i {}) ∧ u.link (otherPort p) = s.link (otherPort p)) ∧
        u = { s with linkA := u.linkA, linkB := u.linkB, flt := u.flt } ∧ NoNewFault s u) ∧
  -- TRAIN_DETECTED: the same port letter: LINK_MISWIRED
  (∀ (s : State) (p : Port) (lane : Fin 4) (payload : BitVec 64) (trains : List (Fin 4 × BitVec 64)), s.Calm → (s.link p).st = .detect →
    trainOk payload = true → (s.link p).miswired = false → ((s.link p).lanes.getD lane.val {}).fenced = false →
    ((s.link p).lanes.getD lane.val {}).waiting = false → ((s.link p).lanes.getD lane.val {}).blockLock = true →
    bits64 payload 15 15 = portNo p → Completes (.trainDetected p lane payload trains) s fun u =>
      (u.link p).st = .rate ∧ (u.link p).miswired = true ∧ u.hasCond 0x24 (portNo p) = true) ∧
  -- TRAIN_DETECTED: a block of another lane: the lane stays unhealthy for the cycle, LINK_MISWIRED, and RATE all the same
  (∀ (s : State) (p : Port) (lane : Fin 4) (payload : BitVec 64), s.Calm → (s.link p).st = .detect → (s.link p).lanes.length = 4 →
    trainOk payload = true → (s.link p).miswired = false → ((s.link p).lanes.getD lane.val {}).fenced = false →
    ((s.link p).lanes.getD lane.val {}).waiting = false → ((s.link p).lanes.getD lane.val {}).blockLock = true →
    bits64 payload 14 13 ≠ lane.val → Completes (.trainDetected p lane payload []) s fun u =>
      (u.link p).st = .rate ∧ (u.link p).miswired = true ∧ ((u.link p).lanes.getD lane.val {}).healthy = false ∧
        ((u.link p).lanes.getD lane.val {}).swapped = true ∧ u.hasCond 0x24 (portNo p) = true) ∧
  -- RATE_AGREED
  (∀ (s : State) (r : Nat) (p : Port) (payload : BitVec 64), s.Calm → (s.link p).st = .rate → trainOk payload = true →
    bits64 payload 10 8 = 2 → bits64 payload 11 11 = 1 → bestRate (max (s.startRate p) (bits64 payload 18 17)) (fun k =>
    decide ((s.link p).fails.getD k 0 < 3) && decide (trainFails payload k < 3)) = some r → bits64 payload 30 29 = r →
    (widthOf ((s.link p).maskLanes ((s.link p).healthyMask &&& BitVec.ofNat 4 (bits64 payload 28 25)))).length ≠ 0 →
    Completes (.rateAgreed p payload) s fun u =>
      (u.link p).st = .eq ∧ (u.link p).rate = r ∧ (u.link p).agreed = true ∧
        (u.link p).usedLanes = widthOf ((s.link p).maskLanes ((s.link p).healthyMask &&& BitVec.ofNat 4 (bits64 payload 28 25))) ∧
        ((u.link p).width = (u.link p).usedLanes.length ∧ (∀ x ∈ (u.link p).lanes, x.txPre = 1 ∧ x.txPost = 4) ∧
        u.link (otherPort p) = s.link (otherPort p)) ∧ u = { s with linkA := u.linkA, linkB := u.linkB, flt := u.flt } ∧ NoNewFault s u) ∧
  -- EQ_REQUEST
  (∀ (s : State) (p : Port) (lane : Fin 4) (payload : BitVec 64), s.Calm → (s.link p).lanes.length = 4 → (s.link p).st = .eq →
    trainOk payload = true → bits64 payload 10 8 = 3 → Completes (.eqRequest p lane payload) s fun u =>
      (((u.link p).lanes.getD lane.val {}).txPre = (if bits64 payload 33 32 = 1 then
        (if ((s.link p).lanes.getD lane.val {}).txPre < 7 then ((s.link p).lanes.getD lane.val {}).txPre + 1
        else ((s.link p).lanes.getD lane.val {}).txPre) else if bits64 payload 33 32 = 2 then
        ((s.link p).lanes.getD lane.val {}).txPre - 1 else if bits64 payload 33 32 = 3 then 1
        else ((s.link p).lanes.getD lane.val {}).txPre)) ∧ (((u.link p).lanes.getD lane.val {}).txPost = (if bits64 payload 35 34 = 1 then
        (if ((s.link p).lanes.getD lane.val {}).txPost < 15 then ((s.link p).lanes.getD lane.val {}).txPost + 1
        else ((s.link p).lanes.getD lane.val {}).txPost) else if bits64 payload 35 34 = 2 then
        ((s.link p).lanes.getD lane.val {}).txPost - 1 else if bits64 payload 35 34 = 3 then 4
        else ((s.link p).lanes.getD lane.val {}).txPost)) ∧ ((u.link p).st = .eq ∧ (∀ i, i ≠ lane.val →
        (u.link p).lanes.getD i {} = (s.link p).lanes.getD i {}) ∧ u.link (otherPort p) = s.link (otherPort p)) ∧
        u = { s with linkA := u.linkA, linkB := u.linkB, free := u.free, flt := u.flt } ∧ NoNewFault s u) ∧
  -- EQ_DONE: both sides have converged
  (∀ (s : State) (p : Port) (payload : BitVec 64) (obs : List EqObs), s.Calm → (s.link p).st = .eq → trainOk payload = true →
    bits64 payload 10 8 = 3 → bits64 payload 12 11 = 3 → obs.length = (s.link p).usedLanes.length → obs.all (fun o =>
    eyeGood o.eye) = true → (s.link p).used ≠ 0 → Completes (.eqDone p payload false obs) s fun u =>
      (u.link p).st = .align ∧ (u.link p).used = (s.link p).used ∧ (u.link p).width = (s.link p).usedLanes.length ∧
        (u.link p).idleSeed = 0 ∧ (u.link p).markerCount = 0 ∧ (u.link p).eyeValid = true ∧ u.link (otherPort p) = s.link (otherPort p) ∧
        u = { s with linkA := u.linkA, linkB := u.linkB, flt := u.flt } ∧ NoNewFault s u) ∧
  -- EQ_DONE: by timeout: the lanes whose eye is at least 0.20 UI stay
  (∀ (s : State) (p : Port) (payload : BitVec 64) (obs : List EqObs), s.Calm → (s.link p).st = .eq → trainOk payload = true →
    bits64 payload 10 8 = 3 → bits64 payload 12 11 = 3 → obs.length = (s.link p).usedLanes.length →
    widthOf ((((s.link p).usedLanes.zip obs).filter fun o => !eyeBad o.2.eye).map (·.1)) ≠ [] →
    Completes (.eqDone p payload true obs) s fun u =>
      ((u.link p).st = .align ∧ (u.link p).usedLanes = widthOf ((((s.link p).usedLanes.zip obs).filter fun o =>
        !eyeBad o.2.eye).map (·.1)) ∧ (u.link p).width = (u.link p).usedLanes.length ∧
        (u.link p).eyeLanes = laneMask ((((s.link p).usedLanes.zip obs).map (·.1))) ∧ u.link (otherPort p) = s.link (otherPort p)) ∧
        u = { s with linkA := u.linkA, linkB := u.linkB, flt := u.flt } ∧ NoNewFault s u) ∧
  -- ALIGN_DONE: the tile announces itself
  (∀ (s : State) (p : Port) (skews : List (BitVec 8)), s.Calm → (s.link p).st = .align → (s.link p).usedLanes.all (fun i =>
    ((s.link p).lanes.getD i {}).markerLock) = true → skews.all (fun k => decide (k.toNat ≤ 80)) = true → s.announces = true →
    qFits (s.link p).queue 0 60 = true → Completes (.alignDone p skews) s fun u =>
      (u.link p).st = .active ∧ (u.link p).agreed = true ∧ (u.link p).retraining = false ∧ u.hasCond 0x20 (portNo p) = false ∧
        u.link (otherPort p) = s.link (otherPort p) ∧ ((u.link p).queue.dropLast = (s.link p).queue ∧
        ((u.link p).queue.getLast?.map fun q =>
        (hType q.frame.hdr, hDest q.frame.hdr, leAt q.frame.payload 0 1)) = some (0x09, 0xFFF, 1)) ∧
        u = { s with wall := u.wall, linkA := u.linkA, linkB := u.linkB, flt := u.flt } ∧ NoNewFault s u) ∧
  -- ALIGN_DONE: a tile without an ID that is not in JOIN
  (∀ (s : State) (p : Port) (skews : List (BitVec 8)), s.Calm → (s.link p).st = .align → (s.link p).usedLanes.all (fun i =>
    ((s.link p).lanes.getD i {}).markerLock) = true → skews.all (fun k => decide (k.toNat ≤ 80)) = true → s.announces = false →
    Completes (.alignDone p skews) s fun u =>
      (u.link p).st = .active ∧ (u.link p).agreed = true ∧ (u.link p).retraining = false ∧ u.hasCond 0x20 (portNo p) = false ∧
        (u.link p).queue = (s.link p).queue ∧ u.link (otherPort p) = s.link (otherPort p) ∧
        u = { s with linkA := u.linkA, linkB := u.linkB, flt := u.flt } ∧ NoNewFault s u) ∧
  -- TRAINING_TIMEOUT: a retrain fails: a new cycle starts
  (∀ (s : State) (p : Port), s.Calm → ((s.link p).st = .detect ∨ (s.link p).st = .rate ∨ (s.link p).st = .eq ∨ (s.link p).st = .align) →
    (s.link p).retraining = true → Completes (.trainingTimeout p) s fun u =>
      (u.link p).st = .detect ∧ (u.link p).fails = [0, 0, 0] ∧ (u.link p).retraining = false ∧ (u.link p).retryCycle = false ∧
        u.link (otherPort p) = s.link (otherPort p) ∧ u = { s with linkA := u.linkA, linkB := u.linkB, flt := u.flt } ∧ NoNewFault s u) ∧
  -- TRAINING_TIMEOUT: the attempt fails at its rate
  (∀ (s : State) (r : Nat) (p : Port), s.Calm →
    ((s.link p).st = .detect ∨ (s.link p).st = .rate ∨ (s.link p).st = .eq ∨ (s.link p).st = .align) → (s.link p).retraining = false →
    (s.link p).agreed = true → (s.link p).rate = r → r < 3 → s.startRate p ≤ r → (s.link p).fails.length = 3 →
    (s.link p).fails.getD r 0 < 2 → Completes (.trainingTimeout p) s fun u =>
      ((u.link p).st = .detect ∧ (u.link p).fails.getD r 0 = (s.link p).fails.getD r 0 + 1 ∧ (∀ k, k ≠ r →
        (u.link p).fails.getD k 0 = (s.link p).fails.getD k 0) ∧ u.link (otherPort p) = s.link (otherPort p)) ∧
        u = { s with linkA := u.linkA, linkB := u.linkB, flt := u.flt } ∧ NoNewFault s u) ∧
  -- TRAINING_TIMEOUT: the last rate has failed in a retry cycle
  (∀ (s : State) (p : Port), s.Calm → ((s.link p).st = .detect ∨ (s.link p).st = .rate ∨ (s.link p).st = .eq ∨ (s.link p).st = .align) →
    (s.link p).retraining = false → (s.link p).agreed = true → (s.link p).rate = 2 → (s.link p).fails = [3, 3, 2] →
    (s.link p).retryCycle = true → Completes (.trainingTimeout p) s fun u =>
      (u.link p).st = .quiet ∧ (u.link p).fails = [3, 3, 3] ∧ u.link (otherPort p) = s.link (otherPort p) ∧
        u = { s with linkA := u.linkA, linkB := u.linkB, flt := u.flt } ∧ NoNewFault s u) ∧
  -- TRAINING_TIMEOUT: the last rate has failed in a full cycle: LINK_QUIET
  (∀ (s : State) (p : Port), s.Calm → ((s.link p).st = .detect ∨ (s.link p).st = .rate ∨ (s.link p).st = .eq ∨ (s.link p).st = .align) →
    (s.link p).retraining = false → (s.link p).agreed = true → (s.link p).rate = 2 → (s.link p).fails = [3, 3, 2] →
    (s.link p).retryCycle = false → Completes (.trainingTimeout p) s fun u =>
      (u.link p).fails = [3, 3, 3] ∧ u.hasCond 0x20 (portNo p) = true) ∧
  -- QUIET_RETRY
  (∀ (s : State) (p : Port), s.Calm → (s.link p).st = .quiet → Completes (.quietRetry p) s fun u =>
      (u.link p).st = .detect ∧ (u.link p).fails = [2, 2, 2] ∧ (u.link p).retryCycle = true ∧
        u.link (otherPort p) = s.link (otherPort p) ∧ u = { s with linkA := u.linkA, linkB := u.linkB, flt := u.flt } ∧ NoNewFault s u) ∧
  -- SIGNAL_DETECT
  (∀ (s : State) (p : Port), s.Calm → (s.link p).st = .quiet → Completes (.signalDetect p) s fun u =>
      (u.link p).st = .detect ∧ (u.link p).fails = [0, 0, 0] ∧ (u.link p).retryCycle = false ∧ (u.link p).signal = true ∧
        u.link (otherPort p) = s.link (otherPort p) ∧ u = { s with linkA := u.linkA, linkB := u.linkB, flt := u.flt } ∧ NoNewFault s u) ∧
  -- BLOCK_LOCK: each invalid header counts
  (∀ (s : State) (lane : Fin 4) (blocks : List Block) (p : Port), s.Calm → (s.link p).lanes.length = 4 → s.receives p = true →
    (s.link p).arriving = none → (s.active p = false ∨ (s.link p).used.getLsbD lane.val = false) →
    ((s.link p).lanes.getD lane.val {}).hdrErrs ≤ 65535 → Completes (.blockLock p { lane := lane, blocks := blocks }) s fun u =>
      (((u.link p).lanes.getD lane.val {}).hdrErrs = min 65535 (((s.link p).lanes.getD lane.val {}).hdrErrs + (blocks.filter fun b =>
        !hdrValid (Block.header b)).length) ∧ (∀ i, i ≠ lane.val → (u.link p).lanes.getD i {} = (s.link p).lanes.getD i {}) ∧
        (u.link p).st = (s.link p).st ∧ u.link (otherPort p) = s.link (otherPort p)) ∧
        u = { s with linkA := u.linkA, linkB := u.linkB, flt := u.flt } ∧ NoNewFault s u) ∧
  -- BLOCK_LOCK: 64 valid headers in a row give block lock
  (∀ (s : State) (lane : Fin 4) (blocks : List Block) (p : Port), s.Calm → (s.link p).lanes.length = 4 → s.receives p = true →
    (s.link p).arriving = none → ((s.link p).lanes.getD lane.val {}).blockLock = false →
    ((s.link p).lanes.getD lane.val {}).markerLock = false → 64 ≤ blocks.length → blocks.all (fun b => hdrValid (Block.header b)) = true →
    Completes (.blockLock p { lane := lane, blocks := blocks }) s fun u =>
      (((u.link p).lanes.getD lane.val {}).blockLock = true ∧
        ((u.link p).lanes.getD lane.val {}).hdrErrs = ((s.link p).lanes.getD lane.val {}).hdrErrs ∧ (∀ i, i ≠ lane.val →
        (u.link p).lanes.getD i {} = (s.link p).lanes.getD i {}) ∧ (u.link p).st = (s.link p).st ∧
        u.link (otherPort p) = s.link (otherPort p)) ∧ u = { s with linkA := u.linkA, linkB := u.linkB, flt := u.flt } ∧ NoNewFault s u)

/-- Wall-link ACTIVE: markers and bit errors, loss of lock, PARK, retrains, lane fences, adaptation and eye measurement -/
def Obligations.LinkActiveCompletes : Prop :=
  -- BLOCK_LOCK_LOSS: 16 invalid headers on a lane that is not used
  (∀ (s : State) (lane : Fin 4) (blocks : List Block) (p : Port), s.Calm → (s.link p).lanes.length = 4 → s.receives p = true →
    (s.link p).arriving = none → (s.link p).used.getLsbD lane.val = false → ((s.link p).lanes.getD lane.val {}).blockLock = true →
    blocks.length = 16 → blocks.all (fun b => !hdrValid (Block.header b)) = true → ((s.link p).lanes.getD lane.val {}).hdrErrs ≤ 65535 →
    Completes (.blockLockLoss p { lane := lane, blocks := blocks }) s fun u =>
      (((u.link p).lanes.getD lane.val {}).blockLock = false ∧
        ((u.link p).lanes.getD lane.val {}).hdrErrs = min 65535 (((s.link p).lanes.getD lane.val {}).hdrErrs + 16) ∧ (∀ i, i ≠ lane.val →
        (u.link p).lanes.getD i {} = (s.link p).lanes.getD i {}) ∧ (u.link p).st = (s.link p).st ∧
        u.link (otherPort p) = s.link (otherPort p)) ∧ u = { s with linkA := u.linkA, linkB := u.linkB, flt := u.flt } ∧ NoNewFault s u) ∧
  -- BLOCK_LOCK_LOSS: on a used lane of an ACTIVE port: LINK_DOWN
  (∀ (s : State) (lane : Fin 4) (blocks : List Block) (p : Port), s.Calm → s.active p = true → (s.link p).used.getLsbD lane.val = true →
    ((s.link p).lanes.getD lane.val {}).blockLock = true → blocks.length = 16 → blocks.all (fun b => !hdrValid (Block.header b)) = true →
    Completes (.blockLockLoss p { lane := lane, blocks := blocks }) s fun u =>
      (u.link p).st ≠ .active ∧ (u.link p).downs = min 255 ((s.link p).downs + 1) ∧ (u.link p).queue = [] ∧
        u.hasCond 0x22 (portNo p) = true) ∧
  -- AM_RECEIVED: the second of two consecutive markers, in ALIGN
  (∀ (s : State) (p : Port) (lane : Fin 4) (blocks : List (BitVec 66)) (payload : BitVec 64) (skew : BitVec 8), s.Calm →
    (s.link p).lanes.length = 4 → (s.link p).st = .align → (s.link p).used.getLsbD lane.val = true → markerOk lane.val payload = true →
    (s.link p).arriving = none → ((((s.link p).lanes.getD lane.val {})).receive lane.val s.time.local_ blocks).lane.markerLock = false →
    ((((s.link p).lanes.getD lane.val {})).receive lane.val s.time.local_ blocks).lane.markers = 1 →
    ((((s.link p).lanes.getD lane.val {})).receive lane.val s.time.local_ blocks).lane.rxSince = 16383 →
    bits64 payload 55 32 = (((((s.link p).lanes.getD lane.val {})).receive lane.val s.time.local_ blocks).lane.mcount + 1 + ((((s.link p).lanes.getD lane.val {})).receive lane.val s.time.local_ blocks).lane.missed) % 2 ^ 24 →
    Completes (.amReceived p lane blocks payload skew) s fun u =>
      ((u.link p).lanes.getD lane.val {}).markerLock = true ∧ ((u.link p).lanes.getD lane.val {}).mcount = bits64 payload 55 32 ∧
        ((u.link p).lanes.getD lane.val {}).skew = skew.toNat ∧
        ((u.link p).lanes.getD lane.val {}).bipErrs = min 65535 (((((s.link p).lanes.getD lane.val {})).receive lane.val s.time.local_ blocks).lane.bipErrs + bitsDiffer (bits64 payload 63 56) ((((s.link p).lanes.getD lane.val {})).receive lane.val s.time.local_ blocks).lane.bipRx.toNat) ∧
        ((u.link p).stuffRx = min 65535 ((s.link p).stuffRx + ((((s.link p).lanes.getD lane.val {})).receive lane.val s.time.local_ blocks).stuff) ∧
        (∀ i, i ≠ lane.val → (u.link p).lanes.getD i {} = (s.link p).lanes.getD i {}) ∧ (u.link p).st = (s.link p).st ∧
        u.link (otherPort p) = s.link (otherPort p)) ∧ u = { s with linkA := u.linkA, linkB := u.linkB, free := u.free, flt := u.flt } ∧
        NoNewFault s u) ∧
  -- AM_RECEIVED: in ACTIVE: BIP errors and skew are measured
  (∀ (s : State) (p : Port) (lane : Fin 4) (blocks : List (BitVec 66)) (payload : BitVec 64) (skew : BitVec 8), s.Calm →
    (s.link p).lanes.length = 4 → (s.link p).st = .active → (s.link p).used.getLsbD lane.val = true → markerOk lane.val payload = true →
    skew.toNat ≤ 80 → (s.link p).arriving = none →
    ((((s.link p).lanes.getD lane.val {})).receive lane.val s.time.local_ blocks).lane.blockLock = ((s.link p).lanes.getD lane.val {}).blockLock →
    ((((s.link p).lanes.getD lane.val {})).receive lane.val s.time.local_ blocks).lane.markerLock = true →
    ((((s.link p).lanes.getD lane.val {})).receive lane.val s.time.local_ blocks).lane.rxSince = 16383 →
    bits64 payload 55 32 = (((((s.link p).lanes.getD lane.val {})).receive lane.val s.time.local_ blocks).lane.mcount + 1 + ((((s.link p).lanes.getD lane.val {})).receive lane.val s.time.local_ blocks).lane.missed) % 2 ^ 24 →
    ((((s.link p).lanes.getD lane.val {})).receive lane.val s.time.local_ blocks).lane.bipLog = [] →
    Completes (.amReceived p lane blocks payload skew) s fun u =>
      ((u.link p).lanes.getD lane.val {}).mcount = bits64 payload 55 32 ∧ ((u.link p).lanes.getD lane.val {}).skew = skew.toNat ∧
        ((u.link p).lanes.getD lane.val {}).bipErrs = min 65535 (((((s.link p).lanes.getD lane.val {})).receive lane.val s.time.local_ blocks).lane.bipErrs + bitsDiffer (bits64 payload 63 56) ((((s.link p).lanes.getD lane.val {})).receive lane.val s.time.local_ blocks).lane.bipRx.toNat) ∧
        (((u.link p).lanes.getD lane.val {}).markerLock = true ∧ ((u.link p).lanes.getD lane.val {}).bipRx = 0 ∧ (∀ i, i ≠ lane.val →
        (u.link p).lanes.getD i {} = (s.link p).lanes.getD i {}) ∧ (u.link p).st = .active ∧
        u.link (otherPort p) = s.link (otherPort p)) ∧ u = { s with linkA := u.linkA, linkB := u.linkB, free := u.free, flt := u.flt } ∧
        NoNewFault s u) ∧
  -- AM_RECEIVED: a skew above 20 ns ends ACTIVE
  (∀ (s : State) (p : Port) (lane : Fin 4) (blocks : List (BitVec 66)) (payload : BitVec 64) (skew : BitVec 8), s.Calm →
    s.active p = true → (s.link p).used.getLsbD lane.val = true → markerOk lane.val payload = true → 80 < skew.toNat →
    ((((s.link p).lanes.getD lane.val {})).receive lane.val s.time.local_ blocks).lane.markerLock = true →
    ((((s.link p).lanes.getD lane.val {})).receive lane.val s.time.local_ blocks).lane.rxSince = 16383 →
    bits64 payload 55 32 = (((((s.link p).lanes.getD lane.val {})).receive lane.val s.time.local_ blocks).lane.mcount + 1 + ((((s.link p).lanes.getD lane.val {})).receive lane.val s.time.local_ blocks).lane.missed) % 2 ^ 24 →
    Completes (.amReceived p lane blocks payload skew) s fun u =>
      (u.link p).st ≠ .active ∧ (u.link p).downs = min 255 ((s.link p).downs + 1) ∧ u.hasCond 0x22 (portNo p) = true) ∧
  -- MARKER_LOCK_LOSS: before ACTIVE
  (∀ (s : State) (lane : Fin 4) (b : Block) (p : Port), s.Calm → (s.link p).lanes.length = 4 →
    ((s.link p).lanes.getD lane.val {}).markerLock = true → ((s.link p).lanes.getD lane.val {}).blockLock = true →
    ((s.link p).lanes.getD lane.val {}).hdrWindow = 0 → ((s.link p).lanes.getD lane.val {}).inverted = false →
    ((s.link p).lanes.getD lane.val {}).missed = 2 → ((s.link p).lanes.getD lane.val {}).rxSince = 16383 → Block.header b = 1 →
    s.active p = false → (s.link p).arriving = none → Completes (.markerLockLoss p { lane := lane, blocks := [b] }) s fun u =>
      (((u.link p).lanes.getD lane.val {}) = { ((s.link p).lanes.getD lane.val {}) with markerLock := false, markers := 0, missed := 0, rxSince := 0, bipRx := 0, descrambler := (descr ((s.link p).lanes.getD lane.val {}).descrambler (Block.payload b)).2 } ∧
        (∀ i, i ≠ lane.val → (u.link p).lanes.getD i {} = (s.link p).lanes.getD i {}) ∧ (u.link p).st = (s.link p).st ∧
        u.link (otherPort p) = s.link (otherPort p)) ∧ u = { s with linkA := u.linkA, linkB := u.linkB, flt := u.flt } ∧ NoNewFault s u) ∧
  -- MARKER_LOCK_LOSS: on a used lane of an ACTIVE port
  (∀ (s : State) (lane : Fin 4) (blocks : List Block) (p : Port), s.Calm → (s.link p).lanes.length = 4 →
    ((s.link p).lanes.getD lane.val {}).markerLock = true → s.active p = true → (s.link p).used.getLsbD lane.val = true →
    ((((s.link p).lanes.getD lane.val {})).receive lane.val s.time.local_ blocks).lane.markerLock = false →
    Completes (.markerLockLoss p { lane := lane, blocks := blocks }) s fun u =>
      (u.link p).st ≠ .active ∧ (u.link p).downs = min 255 ((s.link p).downs + 1) ∧ u.hasCond 0x22 (portNo p) = true) ∧
  -- PARK_RECEIVED
  (∀ (s : State) (p : Port) (lane : Fin 4), s.Calm → s.active p = true → (s.link p).lanes.all (·.fenced) = false →
    Completes (.parkReceived p lane) s fun u =>
      (u.link p).st = .detect ∧ (u.link p).fails = [0, 0, 0] ∧ (u.link p).parks = min 255 ((s.link p).parks + 1) ∧
        (u.link p).downs = min 255 ((s.link p).downs + 1) ∧ (u.link p).queue = [] ∧ (u.link p).pdSamples = [] ∧
        u = { s with wall := u.wall, linkA := u.linkA, linkB := u.linkB, flt := u.flt } ∧ NoNewFault s u) ∧
  -- RETRAIN_TRIGGER: the port retrains
  (∀ (s : State) (p : Port) (lane : Fin 4), s.Calm → (s.link p).lanes.length = 4 → s.active p = true →
    (s.link p).used.getLsbD lane.val = true → (((s.link p).lanes.getD lane.val {}).triggers.filter fun t =>
    decide (s.time.local_ - t < 600000000000 * 65536)).length < 2 → Completes (.retrainTrigger p lane) s fun u =>
      (u.link p).st ≠ .active ∧ (u.link p).retrains = min 255 ((s.link p).retrains + 1) ∧ (u.link p).downs = (s.link p).downs ∧
        (u.link p).queue = [] ∧ u.hasCond 0x23 (portNo p) = true ∧
        ((u.link p).lanes.getD lane.val {}).fenced = ((s.link p).lanes.getD lane.val {}).fenced ∧
        s.time.local_ ∈ ((u.link p).lanes.getD lane.val {}).triggers) ∧
  -- RETRAIN_TRIGGER: the third one of a lane within 10 min fences it
  (∀ (s : State) (p : Port) (lane : Fin 4), s.Calm → (s.link p).lanes.length = 4 → s.active p = true →
    (s.link p).used.getLsbD lane.val = true → 2 ≤ (((s.link p).lanes.getD lane.val {}).triggers.filter fun t =>
    decide (s.time.local_ - t < 600000000000 * 65536)).length → Completes (.retrainTrigger p lane) s fun u =>
      (u.link p).st ≠ .active ∧ ((u.link p).lanes.getD lane.val {}).fenced = true ∧ (u.link p).downs = min 255 ((s.link p).downs + 1) ∧
        u.hasCond 0x22 (portNo p) = true) ∧
  -- RETRAIN_FOLLOW
  (∀ (s : State) (p : Port) (lane : Fin 4) (payload : BitVec 64), s.Calm → s.active p = true → (s.link p).used.getLsbD lane.val = true →
    trainOk payload = true → bits64 payload 10 8 = 3 → Completes (.retrainFollow p lane payload) s fun u =>
      (u.link p).st ≠ .active ∧ (u.link p).partnerState = 3 ∧ (u.link p).retrains = min 255 ((s.link p).retrains + 1) ∧
        (u.link p).downs = (s.link p).downs ∧ u.hasCond 0x23 (portNo p) = true) ∧
  -- ADAPT_FREEZE
  (∀ (s : State) (p : Port) (lane : Fin 4), s.Calm → (s.link p).lanes.length = 4 → s.active p = true →
    (s.link p).used.getLsbD lane.val = true → Completes (.adaptFreeze p lane) s fun u =>
      (((u.link p).lanes.getD lane.val {}) = { ((s.link p).lanes.getD lane.val {}) with frozen := true } ∧ (∀ i, i ≠ lane.val →
        (u.link p).lanes.getD i {} = (s.link p).lanes.getD i {}) ∧ u.link (otherPort p) = s.link (otherPort p)) ∧
        u = { s with linkA := u.linkA, linkB := u.linkB, flt := u.flt } ∧ NoNewFault s u) ∧
  -- ADAPT_RESUME
  (∀ (s : State) (p : Port) (lane : Fin 4), s.Calm → (s.link p).lanes.length = 4 → s.active p = true →
    ((s.link p).lanes.getD lane.val {}).frozen = true → Completes (.adaptResume p lane) s fun u =>
      (((u.link p).lanes.getD lane.val {}) = { ((s.link p).lanes.getD lane.val {}) with frozen := false } ∧ (∀ i, i ≠ lane.val →
        (u.link p).lanes.getD i {} = (s.link p).lanes.getD i {}) ∧ u.link (otherPort p) = s.link (otherPort p)) ∧
        u = { s with linkA := u.linkA, linkB := u.linkB, flt := u.flt } ∧ NoNewFault s u) ∧
  -- EYE_MEASURE_COMPLETE
  (∀ (s : State) (p : Port) (eyes : List (BitVec 8)), s.Calm → (s.link p).eyeValid = false → eyes.length = (s.link p).usedLanes.length →
    Completes (.eyeMeasureComplete p eyes) s fun u =>
      ((u.link p).eyeValid = true ∧ (u.link p).eyeFresh = true ∧ (u.link p).eyeLanes = (s.link p).used ∧
        (∀ e ∈ eyes, (u.link p).eyeMin ≤ e.toNat) ∧ (u.link p).st = (s.link p).st ∧ u.link (otherPort p) = s.link (otherPort p)) ∧
        u = { s with linkA := u.linkA, linkB := u.linkB, flt := u.flt } ∧ NoNewFault s u)

/-- Wall-link registers and tests: RETRAIN, CLR_FENCE, ENABLE, LNK_EYE, TEST, the checkers and LNK_INJECT -/
def Obligations.LinkRegistersComplete : Prop :=
  -- RETRAIN
  (∀ (s : State) (src : Source) (p : Port) (w : Word), s.Calm → s.canAccess src = true → s.accessLegal src true (linkBase p) = true →
    s.active p = true → (s.link p).enable = true → w.getLsbD 0 = true → w.getLsbD 2 = false → Completes (.retrain src p w) s fun u =>
      u.acc = some { source := src, addr := linkBase p, data := 0, status := 0 } ∧ (u.link p).st ≠ .active ∧
        (u.link p).retrains = min 255 ((s.link p).retrains + 1) ∧ u.hasCond 0x23 (portNo p) = true) ∧
  -- CLR_FENCE
  (∀ (s : State) (src : Source) (p : Port) (w : Word), s.Calm → s.canAccess src = true → s.accessLegal src true (linkBase p) = true →
    isService src = true → (s.link p).enable = true → w.getLsbD 0 = true → w.getLsbD 1 = false → Completes (.clrFence src p w) s fun u =>
      u.acc = some { source := src, addr := linkBase p, data := 0, status := 0 } ∧ ((∀ x ∈ (u.link p).lanes, x.fenced = false) ∧
        (u.link p).lanes.length = (s.link p).lanes.length ∧ u.hasCond 0x21 (portNo p) = false ∧ (u.link p).st = (s.link p).st ∧
        u.link (otherPort p) = s.link (otherPort p)) ∧ u = { s with linkA := u.linkA, linkB := u.linkB, acc := u.acc, flt := u.flt } ∧
        NoNewFault s u) ∧
  -- PORT_ENABLE: set: a new cycle starts
  (∀ (s : State) (src : Source) (p : Port) (w : Word), s.Calm → s.canAccess src = true → s.accessLegal src true (linkBase p) = true →
    (s.link p).enable = false → s.eng.st ≠ .boot → s.unitFenced (6 + portNo p) = false → w.getLsbD 0 = true → w.getLsbD 1 = false →
    w.getLsbD 2 = false → Completes (.portEnable src p w) s fun u =>
      u.acc = some { source := src, addr := linkBase p, data := 0, status := 0 } ∧ (u.link p).enable = true ∧ (u.link p).st = .detect ∧
        (u.link p).fails = [0, 0, 0] ∧ (u.link p).adaptEn = w.getLsbD 3 ∧ u.link (otherPort p) = s.link (otherPort p) ∧
        u = { s with linkA := u.linkA, linkB := u.linkB, acc := u.acc, flt := u.flt } ∧ NoNewFault s u) ∧
  -- PORT_ENABLE: cleared: an ACTIVE port leaves ACTIVE
  (∀ (s : State) (src : Source) (p : Port) (w : Word), s.Calm → s.canAccess src = true → s.accessLegal src true (linkBase p) = true →
    s.active p = true → w.getLsbD 0 = false → w.getLsbD 1 = false → w.getLsbD 2 = false → Completes (.portEnable src p w) s fun u =>
      u.acc = some { source := src, addr := linkBase p, data := 0, status := 0 } ∧ (u.link p).enable = false ∧ (u.link p).st = .disabled ∧
        (u.link p).downs = min 255 ((s.link p).downs + 1) ∧ u.hasCond 0x22 (portNo p) = true) ∧
  -- LNK_EYE
  (∀ (s : State) (src : Source) (p : Port) (w : Word), s.Calm → s.canAccess src = true →
    s.accessLegal src true (linkBase p + 0x20) = true → (s.link p).used ≠ 0 → Completes (.lnkEye src p w) s fun u =>
      u.acc = some { source := src, addr := linkBase p + 0x20, data := 0, status := 0 } ∧ (u.link p).eyeValid = false ∧
        (u.link p).eyeFresh = false ∧ (u.link p).st = (s.link p).st ∧ u.link (otherPort p) = s.link (otherPort p) ∧
        u = { s with linkA := u.linkA, linkB := u.linkB, acc := u.acc, flt := u.flt } ∧ NoNewFault s u) ∧
  -- TEST_EN
  (∀ (s : State) (src : Source) (p : Port) (w : Word), s.Calm → s.canAccess src = true →
    s.accessLegal src true (linkBase p + 0x30) = true → isService src = true → s.eng.st = .service → (s.link p).st ≠ .active →
    (s.link p).st ≠ .test → Completes (.testEn src p w) s fun u =>
      u.acc = some { source := src, addr := linkBase p + 0x30, data := 0, status := 0 } ∧ ((u.link p).st = .test ∧
        (u.link p).rate = w.toNat / 32 % 4 ∧ (∀ x ∈ (u.link p).lanes, x.sync = false ∧ x.fail = false ∧ x.generator = BitVec.allOnes 31) ∧
        u.link (otherPort p) = s.link (otherPort p)) ∧ u = { s with linkA := u.linkA, linkB := u.linkB, acc := u.acc, flt := u.flt } ∧
        NoNewFault s u) ∧
  -- TEST_EXIT: with TEST_NOFENCE, the failed lanes stay
  (∀ (s : State) (src : Source) (p : Port) (w : Word), s.Calm → s.canAccess src = true →
    s.accessLegal src true (linkBase p + 0x30) = true → isService src = true → s.eng.st = .service → (s.link p).st = .test →
    (s.link p).enable = true → s.unitFenced (6 + portNo p) = false → (s.link p).lanes.all (·.fenced) = false → w.getLsbD 15 = true →
    Completes (.testExit src p w) s fun u =>
      u.acc = some { source := src, addr := linkBase p + 0x30, data := 0, status := 0 } ∧ ((u.link p).st = .detect ∧
        (∀ i, ((u.link p).lanes.getD i {}).fenced = ((s.link p).lanes.getD i {}).fenced) ∧ u.link (otherPort p) = s.link (otherPort p)) ∧
        u = { s with linkA := u.linkA, linkB := u.linkB, acc := u.acc, flt := u.flt } ∧ NoNewFault s u) ∧
  -- TEST_EXIT: else every failed lane is fenced
  (∀ (s : State) (src : Source) (p : Port) (w : Word), s.Calm → s.canAccess src = true →
    s.accessLegal src true (linkBase p + 0x30) = true → (s.link p).lanes.length = 4 → isService src = true → s.eng.st = .service →
    (s.link p).st = .test → w.getLsbD 15 = false → Completes (.testExit src p w) s fun u =>
      u.acc = some { source := src, addr := linkBase p + 0x30, data := 0, status := 0 } ∧ ((u.link p).st ≠ .test ∧
        (∀ i, ((s.link p).lanes.getD i {}).fail = true → ((u.link p).lanes.getD i {}).fenced = true))) ∧
  -- PRBS_SYNC_TIMEOUT: the checker has not come into sync since TEST_EN
  (∀ (s : State) (lane : Fin 4) (received : List Bool) (p : Port), s.Calm → (s.link p).lanes.length = 4 → s.checks p lane.val = true →
    (s.link p).test.toNat / 8 % 4 ≠ 2 →
    (((s.link p).lanes.getD lane.val {}).checkAll ((s.link p).test.toNat / 2 % 4) s.time.local_ received).synced = false →
    Completes (.prbsSyncTimeout p { lane := lane, received := received }) s fun u =>
      (((u.link p).lanes.getD lane.val {}) = { ((s.link p).lanes.getD lane.val {}).checkAll ((s.link p).test.toNat / 2 % 4) s.time.local_ received with fail := true } ∧
        (∀ i, i ≠ lane.val → (u.link p).lanes.getD i {} = (s.link p).lanes.getD i {}) ∧ u.link (otherPort p) = s.link (otherPort p)) ∧
        u = { s with linkA := u.linkA, linkB := u.linkB, flt := u.flt } ∧ NoNewFault s u) ∧
  -- PRBS_SYNC_TIMEOUT: the checker has reached sync, whether or not it is in sync now
  (∀ (s : State) (lane : Fin 4) (received : List Bool) (p : Port), s.Calm → (s.link p).lanes.length = 4 → s.checks p lane.val = true →
    (s.link p).test.toNat / 8 % 4 ≠ 2 →
    (((s.link p).lanes.getD lane.val {}).checkAll ((s.link p).test.toNat / 2 % 4) s.time.local_ received).synced = true →
    Completes (.prbsSyncTimeout p { lane := lane, received := received }) s fun u =>
      (((u.link p).lanes.getD lane.val {}) = ((s.link p).lanes.getD lane.val {}).checkAll ((s.link p).test.toNat / 2 % 4) s.time.local_ received ∧
        (∀ i, i ≠ lane.val → (u.link p).lanes.getD i {} = (s.link p).lanes.getD i {}) ∧ u.link (otherPort p) = s.link (otherPort p)) ∧
        u = { s with linkA := u.linkA, linkB := u.linkB, flt := u.flt } ∧ NoNewFault s u) ∧
  -- PRBS_SYNC_TIMEOUT: far-end loopback: the bits received leave on the lane's transmitter
  (∀ (s : State) (lane : Fin 4) (received : List Bool) (p : Port), s.Calm → (s.link p).lanes.length = 4 → (s.link p).st = .test →
    s.checks p lane.val = false → (s.link p).test.toNat / 8 % 4 = 2 → received.length = 66 →
    Completes (.prbsSyncTimeout p { lane := lane, received := received }) s fun u =>
      ((∀ i, i < 66 → ((u.link p).lanes.getD lane.val {}).out.getLsbD i = received.getD i false) ∧
        ((u.link p).lanes.getD lane.val {}) = { ((s.link p).lanes.getD lane.val {}) with out := ((u.link p).lanes.getD lane.val {}).out } ∧
        (∀ i, i ≠ lane.val → (u.link p).lanes.getD i {} = (s.link p).lanes.getD i {}) ∧ u.link (otherPort p) = s.link (otherPort p)) ∧
        u = { s with linkA := u.linkA, linkB := u.linkB, flt := u.flt } ∧ NoNewFault s u) ∧
  -- PRBS_SYNC_LOSS: a differing bit of a checker in sync counts
  (∀ (s : State) (lane : Fin 4) (b : Bool) (p : Port), s.Calm → (s.link p).lanes.length = 4 → s.checks p lane.val = true →
    ((s.link p).lanes.getD lane.val {}).sync = true → (s.link p).test.toNat / 8 % 4 ≠ 2 →
    b ≠ prbsNext ((s.link p).test.toNat / 2 % 4) ((s.link p).lanes.getD lane.val {}).checker →
    ((s.link p).lanes.getD lane.val {}).chkErrs.length < 63 → Completes (.prbsSyncLoss p { lane := lane, received := [b] }) s fun u =>
      (((u.link p).lanes.getD lane.val {}).sync = true ∧
        ((u.link p).lanes.getD lane.val {}).fail = ((s.link p).lanes.getD lane.val {}).fail ∧
        ((u.link p).lanes.getD lane.val {}).prbsErrs = min 4294967295 (((s.link p).lanes.getD lane.val {}).prbsErrs + 1) ∧
        (∀ i, i ≠ lane.val → (u.link p).lanes.getD i {} = (s.link p).lanes.getD i {}) ∧ u.link (otherPort p) = s.link (otherPort p)) ∧
        u = { s with linkA := u.linkA, linkB := u.linkB, flt := u.flt } ∧ NoNewFault s u) ∧
  -- PRBS_SYNC_LOSS: the 64th within 1,024 bits loses sync; the fifth loss within a second sets FAIL
  (∀ (s : State) (lane : Fin 4) (b : Bool) (p : Port), s.Calm → (s.link p).lanes.length = 4 → s.checks p lane.val = true →
    ((s.link p).lanes.getD lane.val {}).sync = true → (s.link p).test.toNat / 8 % 4 ≠ 2 →
    b ≠ prbsNext ((s.link p).test.toNat / 2 % 4) ((s.link p).lanes.getD lane.val {}).checker →
    63 ≤ (((s.link p).lanes.getD lane.val {}).chkErrs.filter fun t =>
    decide (((s.link p).lanes.getD lane.val {}).chkSeen + 1 < t + 1024)).length →
    Completes (.prbsSyncLoss p { lane := lane, received := [b] }) s fun u =>
      (((u.link p).lanes.getD lane.val {}).sync = false ∧
        ((u.link p).lanes.getD lane.val {}).prbsErrs = min 4294967295 (((s.link p).lanes.getD lane.val {}).prbsErrs + 1) ∧
        (∀ i, i ≠ lane.val → (u.link p).lanes.getD i {} = (s.link p).lanes.getD i {}) ∧ u.link (otherPort p) = s.link (otherPort p)) ∧
        (((u.link p).lanes.getD lane.val {}).fail = (((s.link p).lanes.getD lane.val {}).fail || decide (4 ≤ (((s.link p).lanes.getD lane.val {}).losses.filter fun t =>
        decide (s.time.local_ - t < 1000000000 * 65536)).length))) ∧ u = { s with linkA := u.linkA, linkB := u.linkB, flt := u.flt } ∧
        NoNewFault s u) ∧
  -- LNK_INJECT
  (∀ (s : State) (src : Source) (p : Port) (w : Word), s.Calm → s.canAccess src = true →
    s.accessLegal src true (linkBase p + 0x34) = true → (s.link p).lanes.length = 4 → isService src = true → s.eng.st = .service →
    (s.link p).st = .test → Completes (.lnkInject src p w) s fun u =>
      u.acc = some { source := src, addr := linkBase p + 0x34, data := 0, status := 0 } ∧
        (∀ i : Fin 4, ((u.link p).lanes.getD i.val {}).injBits = ((s.link p).lanes.getD i.val {}).injBits) ∧
        (∀ i : Fin 4, ((u.link p).lanes.getD i.val {}).inject = if w.getLsbD i.val && (s.link p).test.getLsbD (7 + i.val) && decide ((s.link p).test.toNat / 8 % 4 ≠ 2) then
        ((s.link p).lanes.getD i.val {}).inject + (if w.getLsbD 4 then max 1 (w.toNat / 32 % 256) else 1)
        else ((s.link p).lanes.getD i.val {}).inject) ∧ u.link (otherPort p) = s.link (otherPort p) ∧
        u = { s with linkA := u.linkA, linkB := u.linkB, acc := u.acc, flt := u.flt } ∧ NoNewFault s u)

/-- Frames: the forwarding decision on a header, the trailer of a frame, and the start of the next frame on the line -/
def Obligations.FramesComplete : Prop :=
  -- FORWARDING_DECISION: a broadcast is delivered and passed on with HOPS one higher
  (∀ (s : State) (p : Port) (hdr : BitVec 128), s.Calm → s.active p = true → s.active (otherPort p) = true → (s.link p).arriving = none →
    hdrOk hdr = true → hDest hdr = 0xFFF → hHops hdr < 4095 → qFits (s.link (otherPort p)).queue (hClass hdr) (20 + hLen hdr) = true →
    Completes (.forwardingDecision p hdr) s fun u =>
      (u.link (otherPort p)).queue = queueIn (s.link (otherPort p)).queue { frame := { hdr := fixHcrc (setBits128 hdr 47 36 (hHops hdr + 1)), payload := [] }, cls := hClass hdr, size := 20 + hLen hdr, forwarded := true, at_ := s.time.local_, cut := decide ((s.link (otherPort p)).speed ≤ (s.link p).speed), whole := false, departure := false } ∧
        ((u.link p).rxFrames = min 65535 ((s.link p).rxFrames + 1) ∧
        (u.link p).arriving = some { frame := { hdr := hdr, payload := [] }, deliver := true, out := some (otherPort p), slot := if hType hdr = 1 then s.keySlot (fld (s.ctx (hCtx hdr)).w0 15 8) else none }) ∧
        u = { s with linkA := u.linkA, linkB := u.linkB, flt := u.flt } ∧ NoNewFault s u) ∧
  -- FORWARDING_DECISION: a frame to another tile goes on through the other port
  (∀ (s : State) (p : Port) (hdr : BitVec 128), s.Calm → s.active p = true → s.active (otherPort p) = true → (s.link p).arriving = none →
    hdrOk hdr = true → hDest hdr ≠ 0 → hDest hdr ≠ 0xFFF → hDest hdr ≠ s.wall.id.toNat → s.outPort (hDest hdr) = (otherPort p) →
    hHops hdr < 4095 → qFits (s.link (otherPort p)).queue (hClass hdr) (20 + hLen hdr) = true →
    Completes (.forwardingDecision p hdr) s fun u =>
      (u.link (otherPort p)).queue = queueIn (s.link (otherPort p)).queue { frame := { hdr := fixHcrc (setBits128 hdr 47 36 (hHops hdr + 1)), payload := [] }, cls := hClass hdr, size := 20 + hLen hdr, forwarded := true, at_ := s.time.local_, cut := decide ((s.link (otherPort p)).speed ≤ (s.link p).speed), whole := false, departure := false } ∧
        ((u.link p).arriving = some { frame := { hdr := hdr, payload := [] }, deliver := false, out := some (otherPort p), slot := if hType hdr = 1 then s.keySlot (fld (s.ctx (hCtx hdr)).w0 15 8) else none } ∧
        (u.link p).rxFrames = min 65535 ((s.link p).rxFrames + 1)) ∧ u = { s with linkA := u.linkA, linkB := u.linkB, flt := u.flt } ∧
        NoNewFault s u) ∧
  -- FORWARDING_DECISION: a frame to this tile is delivered and goes no further
  (∀ (s : State) (p : Port) (hdr : BitVec 128), s.Calm → s.active p = true → (s.link p).arriving = none → hdrOk hdr = true →
    hDest hdr = s.wall.id.toNat → s.wall.id ≠ 0 → s.wall.id ≠ 0xFFF → Completes (.forwardingDecision p hdr) s fun u =>
      ((u.link p).arriving = some { frame := { hdr := hdr, payload := [] }, deliver := true, out := none, slot := if hType hdr = 1 then s.keySlot (fld (s.ctx (hCtx hdr)).w0 15 8) else none } ∧
        (u.link p).rxFrames = min 65535 ((s.link p).rxFrames + 1) ∧ u.link (otherPort p) = s.link (otherPort p)) ∧
        u = { s with linkA := u.linkA, linkB := u.linkB, flt := u.flt } ∧ NoNewFault s u) ∧
  -- FORWARDING_DECISION: a frame that cannot go on and has already turned is misrouted
  (∀ (s : State) (p : Port) (hdr : BitVec 128), s.Calm → s.active p = true → s.active (otherPort p) = false → (s.link p).arriving = none →
    hdrOk hdr = true → hTurned hdr = true → hDest hdr ≠ 0 → hDest hdr ≠ 0xFFF → hDest hdr ≠ s.wall.id.toNat →
    Completes (.forwardingDecision p hdr) s fun u =>
      ((u.link p).misroute = min 255 ((s.link p).misroute + 1) ∧
        (u.link p).arriving = some { frame := { hdr := hdr, payload := [] }, deliver := false, out := none, slot := if hType hdr = 1 then s.keySlot (fld (s.ctx (hCtx hdr)).w0 15 8) else none } ∧
        (u.link p).queue = (s.link p).queue) ∧ u = { s with linkA := u.linkA, linkB := u.linkB, flt := u.flt } ∧ NoNewFault s u) ∧
  -- FORWARDING_DECISION: a bad header
  (∀ (s : State) (p : Port) (hdr : BitVec 128), s.Calm → s.active p = true → (s.link p).arriving = none → hdrOk hdr = false →
    Completes (.forwardingDecision p hdr) s fun u =>
      (u.link p) = { (s.link p) with rxFrames := min 65535 ((s.link p).rxFrames + 1), badhdr := min 255 ((s.link p).badhdr + 1) } ∧
        u.link (otherPort p) = s.link (otherPort p) ∧ u = { s with linkA := u.linkA, linkB := u.linkB, flt := u.flt } ∧ NoNewFault s u) ∧
  -- FRAME_TRAILER: good: the payload is delivered
  (∀ (s : State) (a : Arriving) (p : Port) (payload : List Byte) (trailer : Word), s.Calm → (s.link p).arriving = some a →
    a.deliver = true → a.out = none → payload.length = hLen a.frame.hdr →
    trailer.toNat = trailerOf { hdr := a.frame.hdr, payload := payload } → Completes (.frameTrailer p payload trailer) s fun u =>
      (u.link p).arriving = none ∧ (u.link p).delivered = some ({ hdr := a.frame.hdr, payload := payload }, a.slot) ∧
        (u.link p).crcErrs = (s.link p).crcErrs ∧ u.link (otherPort p) = s.link (otherPort p) ∧
        u = { s with linkA := u.linkA, linkB := u.linkB, flt := u.flt } ∧ NoNewFault s u) ∧
  -- FRAME_TRAILER: good: what goes on through the other port takes the payload
  (∀ (s : State) (a : Arriving) (p : Port) (payload : List Byte) (trailer : Word), s.Calm → (s.link p).arriving = some a →
    a.out = some (otherPort p) → payload.length = hLen a.frame.hdr →
    trailer.toNat = trailerOf { hdr := a.frame.hdr, payload := payload } → Completes (.frameTrailer p payload trailer) s fun u =>
      ((u.link (otherPort p)).queue = (s.link (otherPort p)).queue.map (fillCopy a.frame.hdr payload) ∧
        (u.link (otherPort p)).onLine = (s.link (otherPort p)).onLine.map (fillCopy a.frame.hdr payload) ∧ (u.link p).arriving = none ∧
        (u.link p).delivered = (if a.deliver then some ({ hdr := a.frame.hdr, payload := payload }, a.slot) else (s.link p).delivered)) ∧
        u = { s with linkA := u.linkA, linkB := u.linkB, flt := u.flt } ∧ NoNewFault s u) ∧
  -- FRAME_TRAILER: bad: nothing is delivered
  (∀ (s : State) (a : Arriving) (p : Port) (payload : List Byte) (trailer : Word), s.Calm → (s.link p).arriving = some a → a.out = none →
    payload.length = hLen a.frame.hdr → trailer.toNat ≠ trailerOf { hdr := a.frame.hdr, payload := payload } →
    (~~~trailer).toNat ≠ trailerOf { hdr := a.frame.hdr, payload := payload } → Completes (.frameTrailer p payload trailer) s fun u =>
      (u.link p) = { (s.link p) with arriving := none, crcErrs := min 255 ((s.link p).crcErrs + 1) } ∧
        u.link (otherPort p) = s.link (otherPort p) ∧ u = { s with linkA := u.linkA, linkB := u.linkB, flt := u.flt } ∧ NoNewFault s u) ∧
  -- EGRESS_SEND
  (∀ (s : State) (i : Nat) (p : Port), s.Calm → s.active p = true → (s.link p).onLine.any (fun q => !q.whole) = false →
    nextFrame s.time.local_ (s.link p).queue = some i → Completes (.egressSend p) s fun u =>
      (u.link p).queue = (s.link p).queue.eraseIdx i ∧ (u.link p).onLine = (s.link p).queue[i]? ∧
        (u.link p).txFrames = min 65535 ((s.link p).txFrames + 1) ∧ u.link (otherPort p) = s.link (otherPort p) ∧
        u = { s with linkA := u.linkA, linkB := u.linkB, flt := u.flt } ∧ NoNewFault s u)

/-- Tile map: ANNOUNCE, DEPART, ASSIGN, LOAD and DONE with a verifying and with a failing tag, the tile’s own ANNOUNCE, stale entries -/
def Obligations.TileMapCompletes : Prop :=
  -- ANNOUNCE_SEND
  (∀ (s : State), s.Calm → s.announces = true → s.running = true → s.hasRoom .a 0 60 = true → s.hasRoom .b 0 60 = true →
    Completes .announceSend s fun u =>
      u.linkA.queue.dropLast = s.linkA.queue ∧ u.linkB.queue.dropLast = s.linkB.queue ∧ u.linkA.queue.getLast? = u.linkB.queue.getLast? ∧
        ((u.linkA.queue.getLast?.map fun q =>
        (hType q.frame.hdr, hDest q.frame.hdr, hSrc q.frame.hdr, leAt q.frame.payload 0 1, leAt q.frame.payload 12 2)) = some (0x09, 0xFFF, s.wall.id.toNat, 1, s.wall.id.toNat)) ∧
        u = { s with wall := u.wall, linkA := u.linkA, linkB := u.linkB, flt := u.flt } ∧ NoNewFault s u) ∧
  -- ANNOUNCE_SEND: one port is ACTIVE
  (∀ (s : State) (p : Port), s.Calm → s.announces = true → s.running = true → s.hasRoom p 0 60 = true → s.active (otherPort p) = false →
    Completes .announceSend s fun u =>
      ((u.link p).queue.dropLast = (s.link p).queue ∧ ((u.link p).queue.getLast?.map fun q =>
        (hType q.frame.hdr, hDest q.frame.hdr, leAt q.frame.payload 0 1)) = some (0x09, 0xFFF, 1) ∧
        (u.link (otherPort p)).queue = (s.link (otherPort p)).queue) ∧
        u = { s with wall := u.wall, linkA := u.linkA, linkB := u.linkB, flt := u.flt } ∧ NoNewFault s u) ∧
  -- ANNOUNCE
  (∀ (s : State) (p : Port) (f : Frame), s.Calm → s.gets p f = true → hType f.hdr = 0x09 → leAt f.payload 0 1 = 1 → mapFieldsOk f = true →
    s.annTagOk 0x02 f 0x20 = true → frId f ≠ 0 → frId f ≠ 0xFFF → Completes (.announce p f) s fun u =>
      mDir (u.mapEntry (frId f)) = dirOf p ∧ mHops (u.mapEntry (frId f)) = min 0xFFF (hHops f.hdr + 1) ∧ mSeen (u.mapEntry (frId f)) = 1 ∧
        u.wall.mapRejects = s.wall.mapRejects ∧ ((∀ n, n ≠ frId f → u.mapEntry n = s.mapEntry n) ∧ (frId f = s.wall.id.toNat →
        frUid f ≠ s.col.ident.uid → u.hasCond 0x25 (portNo p) = true))) ∧
  -- ANNOUNCE: a tag that fails
  (∀ (s : State) (p : Port) (f : Frame), s.Calm → s.gets p f = true → hType f.hdr = 0x09 → leAt f.payload 0 1 = 1 → mapFieldsOk f = true →
    s.annTagOk 0x02 f 0x20 = false → Completes (.announce p f) s fun u =>
      (u.wall.mapRejects = min 65535 (s.wall.mapRejects + 1) ∧ u.ward.tagFails = min 65535 (s.ward.tagFails + 1) ∧
        u.hasCond 0x26 (portNo p) = true) ∧ u.wall.map = s.wall.map) ∧
  -- DEPART
  (∀ (s : State) (p : Port) (f : Frame), s.Calm → s.gets p f = true → hType f.hdr = 0x09 → leAt f.payload 0 1 = 2 → mapFieldsOk f = true →
    s.annTagOk 0x02 f 0x20 = true → frId f ≠ 0 → frId f ≠ 0xFFF → Completes (.depart p f) s fun u =>
      (mDir (u.mapEntry (frId f)) = 0 ∧ mHops (u.mapEntry (frId f)) = 0xFFF ∧ mSeen (u.mapEntry (frId f)) = 2 ∧ (∀ n, n ≠ frId f →
        u.mapEntry n = s.mapEntry n)) ∧ u = { s with wall := u.wall, flt := u.flt } ∧ NoNewFault s u) ∧
  -- DEPART: a tag that fails
  (∀ (s : State) (p : Port) (f : Frame), s.Calm → s.gets p f = true → hType f.hdr = 0x09 → leAt f.payload 0 1 = 2 → mapFieldsOk f = true →
    s.annTagOk 0x02 f 0x20 = false → Completes (.depart p f) s fun u =>
      (u.wall.mapRejects = min 65535 (s.wall.mapRejects + 1) ∧ u.ward.tagFails = min 65535 (s.ward.tagFails + 1) ∧
        u.hasCond 0x26 (portNo p) = true) ∧ u.wall.map = s.wall.map) ∧
  -- ASSIGN
  (∀ (s : State) (p : Port) (f : Frame), s.Calm → s.gets p f = true → hType f.hdr = 0x09 → leAt f.payload 0 1 = 3 → mapFieldsOk f = true →
    frUid f = s.col.ident.uid → s.cmdTagOk 0x02 f 0x20 = true → Completes (.assign p f) s fun u =>
      u.wall.id.toNat = frId f ∧ u.wall.assigned = some (frEpoch f) ∧ u.cmd.wallEpoch = frEpoch f ∧
        u.eng.stale = (s.eng.stale || decide (frEpoch f ≠ s.cmd.wallEpoch)) ∧ u.wall.map = s.wall.map ∧ u.eng.st = s.eng.st ∧
        (s.pwr.noNewStore = false → s.unitFenced 9 = false → (u.nvm.jobSettings.isSome || u.nvm.settingsAgain) = true)) ∧
  -- ASSIGN: to another tile: no effect
  (∀ (s : State) (p : Port) (f : Frame), s.Calm → s.gets p f = true → hType f.hdr = 0x09 → leAt f.payload 0 1 = 3 → mapFieldsOk f = true →
    frUid f ≠ s.col.ident.uid → s.cmdTagOk 0x02 f 0x20 = true → Completes (.assign p f) s fun u =>
      u.wall = s.wall ∧ u = { s with flt := u.flt } ∧ NoNewFault s u) ∧
  -- ASSIGN: a tag that fails
  (∀ (s : State) (p : Port) (f : Frame), s.Calm → s.gets p f = true → hType f.hdr = 0x09 → leAt f.payload 0 1 = 3 → mapFieldsOk f = true →
    s.cmdTagOk 0x02 f 0x20 = false → Completes (.assign p f) s fun u =>
      (u.wall.mapRejects = min 65535 (s.wall.mapRejects + 1) ∧ u.ward.tagFails = min 65535 (s.ward.tagFails + 1) ∧
        u.hasCond 0x26 (portNo p) = true) ∧ u.wall.id = s.wall.id ∧ u.cmd = s.cmd) ∧
  -- LOAD
  (∀ (s : State) (p : Port) (f : Frame), s.Calm → s.gets p f = true → hType f.hdr = 0x09 → leAt f.payload 0 1 = 4 → mapFieldsOk f = true →
    s.cmdTagOk 0x02 f 0x20 = true → Completes (.load p f) s fun u =>
      (u.wall.pendGen = some (frGen f) ∧ (∀ i, i < frCount f → sget 0 (frId f + i) u.wall.pend = headFields (frEntry f i)) ∧
        u.wall = { s.wall with pendGen := u.wall.pendGen, pend := u.wall.pend }) ∧ (∀ n, ¬ (frId f ≤ n ∧ n < frId f + frCount f) →
        sget 0 n u.wall.pend = (if s.wall.pendGen = some (frGen f) then sget 0 n s.wall.pend else 0)) ∧
        u = { s with wall := u.wall, flt := u.flt } ∧ NoNewFault s u) ∧
  -- LOAD: a tag that fails
  (∀ (s : State) (p : Port) (f : Frame), s.Calm → s.gets p f = true → hType f.hdr = 0x09 → leAt f.payload 0 1 = 4 → mapFieldsOk f = true →
    s.cmdTagOk 0x02 f 0x20 = false → Completes (.load p f) s fun u =>
      (u.wall.mapRejects = min 65535 (s.wall.mapRejects + 1) ∧ u.ward.tagFails = min 65535 (s.ward.tagFails + 1) ∧
        u.hasCond 0x26 (portNo p) = true) ∧ u.wall.pend = s.wall.pend) ∧
  -- DONE: the pending map is complete
  (∀ (s : State) (p : Port) (f : Frame), s.Calm → s.gets p f = true → hType f.hdr = 0x09 → leAt f.payload 0 1 = 5 → mapFieldsOk f = true →
    s.cmdTagOk 0x02 f 0x20 = true → s.wall.pendGen = some (frGen f) → (s.wall.pend.filter fun e => mKind e.2 != 0).length = frCount f →
    (s.wall.pend.all fun e => mKind e.2 != 3) = true → Completes (.done p f) s fun u =>
      (u.wall = { s.wall with map := (s.wall.pend.filter fun e => mKind e.2 != 0).map (fun e => (e.1, mergeEntry (s.mapEntry e.1) e.2)), pend := [], pendGen := none, gen := frGen f, mapOk := true, doneEpoch := some (frEpoch f) }) ∧
        u = { s with wall := u.wall, flt := u.flt } ∧ NoNewFault s u) ∧
  -- DONE: the pending map is of another generation: it is discarded
  (∀ (s : State) (p : Port) (f : Frame), s.Calm → s.gets p f = true → hType f.hdr = 0x09 → leAt f.payload 0 1 = 5 → mapFieldsOk f = true →
    s.cmdTagOk 0x02 f 0x20 = true → s.wall.pendGen ≠ some (frGen f) → Completes (.done p f) s fun u =>
      u.wall.gen = s.wall.gen ∧ u.wall.map = s.wall.map ∧ u.wall.pend = [] ∧ u.wall.mapRejects = min 65535 (s.wall.mapRejects + 1) ∧
        u.hasCond 0x26 (portNo p) = true) ∧
  -- DONE: a tag that fails
  (∀ (s : State) (p : Port) (f : Frame), s.Calm → s.gets p f = true → hType f.hdr = 0x09 → leAt f.payload 0 1 = 5 → mapFieldsOk f = true →
    s.cmdTagOk 0x02 f 0x20 = false → Completes (.done p f) s fun u =>
      (u.wall.mapRejects = min 65535 (s.wall.mapRejects + 1) ∧ u.ward.tagFails = min 65535 (s.ward.tagFails + 1) ∧
        u.hasCond 0x26 (portNo p) = true) ∧ u.wall.gen = s.wall.gen ∧ u.wall.pend = s.wall.pend) ∧
  -- ENTRY_STALE
  (∀ (s : State) (id : BitVec 12), s.Calm → s.running = true → mSeen (s.mapEntry id.toNat) = 1 → Completes (.entryStale id) s fun u =>
      mDir (u.mapEntry id.toNat) = 0 ∧ mHops (u.mapEntry id.toNat) = 0xFFF ∧ mSeen (u.mapEntry id.toNat) = 3 ∧
        u.wall.changes = min 65535 (s.wall.changes + 1) ∧ (∀ n, n ≠ id.toNat → u.mapEntry n = s.mapEntry n) ∧
        u = { s with wall := u.wall, flt := u.flt } ∧ NoNewFault s u)

/-- Streams: writing a stream context and its refusals, landing a payload by its key, replay and order, and UPDATE frames -/
def Obligations.StreamsComplete : Prop :=
  -- STREAM_CONTEXT_WRITE: a context that stays disabled
  (∀ (s : State) (w : Word) (src : Source) (n : Fin 256), s.Calm → s.canAccess src = true →
    s.accessLegal src true (0x40000 + 64 * n.val) = true → src ≠ .tumbler → s.ctxs.length = 256 → s.ctxUsed n = false →
    w.getLsbD 0 = false → 2 ≤ w.toNat / 2 % 8 → w.toNat / 2 % 8 ≤ 4 → (s.ctx n).base.toNat % 4096 = 0 →
    Completes (.streamContextWrite src n [(0, w)]) s fun u =>
      (u.ctx n = { s.ctx n with w0 := w &&& 0x0FFFFF1F, land := none, drops := (u.ctx n).drops, any := (u.ctx n).any, hasNewest := (u.ctx n).hasNewest, bufs := (u.ctx n).bufs } ∧
        (∀ m, m ≠ n.val → u.ctx m = s.ctx m)) ∧ u.acc = some { source := src, addr := 0x40000 + 64 * n.val, data := 0, status := 0 } ∧
        u = { s with ctxs := u.ctxs, comp := u.comp, acc := u.acc, flt := u.flt } ∧ NoNewFault s u) ∧
  -- STREAM_CONTEXT_WRITE: a context with three words is enabled
  (∀ (s : State) (w : Word) (b : Word) (st : Word) (src : Source) (n : Fin 256), s.Calm → s.canAccess src = true →
    s.accessLegal src true (0x40000 + 64 * n.val) = true → src ≠ .tumbler → s.ctxs.length = 256 → s.ctxUsed n = false →
    s.ctxs.all (fun c => !c.w0.getLsbD 0) = true → w.getLsbD 0 = true → w.getLsbD 4 = false → 2 ≤ w.toNat / 2 % 8 → w.toNat / 2 % 8 ≤ 4 →
    b.toNat % 4096 = 0 → strideOk st = true → 0x83000000 ≤ b.toNat → b.toNat + w.toNat / 2 % 8 * st.toNat ≤ s.dramEnd →
    Completes (.streamContextWrite src n [(0, w), (1, b), (2, st)]) s fun u =>
      (u.ctx n = { s.ctx n with w0 := w &&& 0x0FFFFF1F, base := b, stride := st, land := none, drops := (u.ctx n).drops, any := (u.ctx n).any, hasNewest := (u.ctx n).hasNewest, bufs := (u.ctx n).bufs } ∧
        (∀ m, m ≠ n.val → u.ctx m = s.ctx m)) ∧ u.acc = some { source := src, addr := 0x40000 + 64 * n.val, data := 0, status := 0 } ∧
        u = { s with ctxs := u.ctxs, comp := u.comp, acc := u.acc, flt := u.flt } ∧ NoNewFault s u) ∧
  -- STREAM_CONTEXT_WRITE: any words that no row of R311 refuses
  (∀ (s : State) (d : Ctx) (src : Source) (n : Fin 256) (words : List (Fin 4 × Word)), s.Calm → s.canAccess src = true →
    s.accessLegal src true (0x40000 + 64 * n.val) = true → src ≠ .tumbler → s.ctxs.length = 256 → words ≠ [] → d = words.foldl (fun c p =>
    c.setWord p.1.val p.2) (s.ctx n) → s.ctxBusy n (s.ctx n) d = false → d.badLen (words.any fun p => decide (p.1.val = 2)) = false →
    ((d.enable && !d.idle) = true → 0x83000000 ≤ d.range.1 ∧ d.range.2 ≤ s.dramEnd) → ((List.range 256).all (fun m =>
    decide (m = n.val ∨ d.range.2 ≤ d.range.1 ∨ (s.ctx m).range.2 ≤ (s.ctx m).range.1 ∨ d.range.2 ≤ (s.ctx m).range.1 ∨ (s.ctx m).range.2 ≤ d.range.1)) = true) →
    Completes (.streamContextWrite src n words) s fun u =>
      ((u.ctx n).w0 = d.w0 ∧ (u.ctx n).base = d.base ∧ (u.ctx n).stride = d.stride ∧ (u.ctx n).land = none ∧ (∀ m, m ≠ n.val →
        u.ctx m = s.ctx m)) ∧ (u.ctx n).any = ((s.ctx n).any && fld d.w0 15 8 == fld (s.ctx n).w0 15 8) ∧
        (u.ctx n).hasNewest = ((s.ctx n).hasNewest && fld d.w0 3 1 == fld (s.ctx n).w0 3 1 && d.base == (s.ctx n).base && d.stride == (s.ctx n).stride) ∧
        u.acc = some { source := src, addr := 0x40000 + 64 * n.val, data := 0, status := 0 } ∧
        u = { s with ctxs := u.ctxs, comp := u.comp, acc := u.acc, flt := u.flt } ∧ NoNewFault s u) ∧
  -- STREAM_CONTEXT_WRITE: disabling a context that a layer uses is BUSY
  (∀ (s : State) (w : Word) (src : Source) (n : Fin 256), s.Calm → s.canAccess src = true →
    s.accessLegal src true (0x40000 + 64 * n.val) = true → src ≠ .tumbler → s.ctxs.length = 256 → s.ctxUsed n = true →
    (s.ctx n).w0.getLsbD 0 = true → w.getLsbD 0 = false → Completes (.streamContextWrite src n [(0, w)]) s fun u =>
      u.acc = some { source := src, addr := 0x40000 + 64 * n.val, data := 0, status := 0x06 } ∧
        u = { s with acc := u.acc, flt := u.flt } ∧ NoNewFault s u) ∧
  -- STREAM: accepted, no frame in progress: its data lands in the buffer that is chosen
  (∀ (s : State) (k : KeySlot) (data : List Byte) (c : Ctx) (b : Nat) (p : Port) (f : Frame), s.Calm → s.gets p f = true →
    hType f.hdr = 1 → s.ctxs.length = 256 → (s.ctx (hCtx f.hdr)).w0.getLsbD 0 = true → (s.ctx (hCtx f.hdr)).w0.getLsbD 4 = false →
    (fld (s.ctx (hCtx f.hdr)).w0 27 16 = 0 ∨ fld (s.ctx (hCtx f.hdr)).w0 27 16 = hSrc f.hdr) → s.unitFenced 3 = false →
    (s.link p).delivered = some (f, some k) → streamOpen k f = some data →
    (s.ctx (hCtx f.hdr)).checkReplay k (BitVec.ofNat 32 (hSeq f.hdr)) = some c → data ≠ [] →
    leAt f.payload 4 4 + data.length ≤ (s.ctx (hCtx f.hdr)).stride.toNat → (s.ctx (hCtx f.hdr)).land = none →
    s.chooseBuf (hCtx f.hdr) = some b → Completes (.stream p f) s fun u =>
      (u.ctx (hCtx f.hdr)).window = c.window ∧ (u.ctx (hCtx f.hdr)).lastSeq = c.lastSeq ∧ (u.ctx (hCtx f.hdr)).any = true ∧
        (u.ctx (hCtx f.hdr)).authFails = (s.ctx (hCtx f.hdr)).authFails ∧ (u.ctx (hCtx f.hdr)).replays = (s.ctx (hCtx f.hdr)).replays ∧
        u.dramBytes ((s.ctx (hCtx f.hdr)).base.toNat - 0x80000000 + b * (s.ctx (hCtx f.hdr)).stride.toNat + leAt f.payload 4 4) data.length = data ∧
        (∀ m, m ≠ hCtx f.hdr → u.ctx m = s.ctx m)) ∧
  -- STREAM: accepted, of the frame in progress
  (∀ (s : State) (k : KeySlot) (data : List Byte) (c : Ctx) (l : Land) (p : Port) (f : Frame), s.Calm → s.gets p f = true →
    hType f.hdr = 1 → s.ctxs.length = 256 → (s.ctx (hCtx f.hdr)).w0.getLsbD 0 = true → (s.ctx (hCtx f.hdr)).w0.getLsbD 4 = false →
    (fld (s.ctx (hCtx f.hdr)).w0 27 16 = 0 ∨ fld (s.ctx (hCtx f.hdr)).w0 27 16 = hSrc f.hdr) → s.unitFenced 3 = false →
    (s.link p).delivered = some (f, some k) → streamOpen k f = some data →
    (s.ctx (hCtx f.hdr)).checkReplay k (BitVec.ofNat 32 (hSeq f.hdr)) = some c → data ≠ [] →
    leAt f.payload 4 4 + data.length ≤ (s.ctx (hCtx f.hdr)).stride.toNat → (s.ctx (hCtx f.hdr)).land = some l →
    l.frame = BitVec.ofNat 32 (leAt f.payload 0 4) → l.dropped = false → Completes (.stream p f) s fun u =>
      (u.ctx (hCtx f.hdr)).window = c.window ∧ (u.ctx (hCtx f.hdr)).lastSeq = c.lastSeq ∧ (u.ctx (hCtx f.hdr)).any = true ∧
        (u.ctx (hCtx f.hdr)).drops = (s.ctx (hCtx f.hdr)).drops ∧
        u.dramBytes ((s.ctx (hCtx f.hdr)).base.toNat - 0x80000000 + l.buf * (s.ctx (hCtx f.hdr)).stride.toNat + leAt f.payload 4 4) data.length = data ∧
        (∀ m, m ≠ hCtx f.hdr → u.ctx m = s.ctx m)) ∧
  -- STREAM: accepted, but empty or beyond STRIDE: a drop
  (∀ (s : State) (k : KeySlot) (data : List Byte) (c : Ctx) (p : Port) (f : Frame), s.Calm → s.gets p f = true → hType f.hdr = 1 →
    s.ctxs.length = 256 → (s.ctx (hCtx f.hdr)).w0.getLsbD 0 = true → (s.ctx (hCtx f.hdr)).w0.getLsbD 4 = false →
    (fld (s.ctx (hCtx f.hdr)).w0 27 16 = 0 ∨ fld (s.ctx (hCtx f.hdr)).w0 27 16 = hSrc f.hdr) → s.unitFenced 3 = false →
    (s.link p).delivered = some (f, some k) → streamOpen k f = some data →
    (s.ctx (hCtx f.hdr)).checkReplay k (BitVec.ofNat 32 (hSeq f.hdr)) = some c →
    (data = [] ∨ (s.ctx (hCtx f.hdr)).stride.toNat < leAt f.payload 4 4 + data.length) → Completes (.stream p f) s fun u =>
      (u.ctx (hCtx f.hdr)).drops = min 65535 ((s.ctx (hCtx f.hdr)).drops + 1) ∧ (u.ctx (hCtx f.hdr)).window = c.window ∧
        (u.ctx (hCtx f.hdr)).land = (s.ctx (hCtx f.hdr)).land ∧ u.dram = s.dram ∧ (∀ m, m ≠ hCtx f.hdr → u.ctx m = s.ctx m) ∧
        u = { s with ctxs := u.ctxs, flt := u.flt } ∧ NoNewFault s u) ∧
  -- STREAM: its tag verifies, and it is a replay
  (∀ (s : State) (k : KeySlot) (data : List Byte) (p : Port) (f : Frame), s.Calm → s.gets p f = true → hType f.hdr = 1 →
    s.ctxs.length = 256 → (s.ctx (hCtx f.hdr)).w0.getLsbD 0 = true → (s.ctx (hCtx f.hdr)).w0.getLsbD 4 = false →
    (fld (s.ctx (hCtx f.hdr)).w0 27 16 = 0 ∨ fld (s.ctx (hCtx f.hdr)).w0 27 16 = hSrc f.hdr) → s.unitFenced 3 = false →
    (s.link p).delivered = some (f, some k) → streamOpen k f = some data →
    (s.ctx (hCtx f.hdr)).checkReplay k (BitVec.ofNat 32 (hSeq f.hdr)) = none → Completes (.stream p f) s fun u =>
      (u.ctx (hCtx f.hdr)) = { (s.ctx (hCtx f.hdr)) with replays := min 65535 ((s.ctx (hCtx f.hdr)).replays + 1) } ∧
        u.ward = { s.ward with replays := min 65535 (s.ward.replays + 1) } ∧ (∀ m, m ≠ hCtx f.hdr → u.ctx m = s.ctx m) ∧
        u = { s with ctxs := u.ctxs, ward := u.ward, flt := u.flt } ∧ NoNewFault s u) ∧
  -- STREAM: its tag fails: STREAM_AUTH_FAIL with the port as DETAIL
  (∀ (s : State) (k : KeySlot) (p : Port) (f : Frame), s.Calm → s.gets p f = true → hType f.hdr = 1 → s.ctxs.length = 256 →
    (s.ctx (hCtx f.hdr)).w0.getLsbD 0 = true → (s.ctx (hCtx f.hdr)).w0.getLsbD 4 = false →
    (fld (s.ctx (hCtx f.hdr)).w0 27 16 = 0 ∨ fld (s.ctx (hCtx f.hdr)).w0 27 16 = hSrc f.hdr) → s.unitFenced 3 = false →
    (s.link p).delivered = some (f, some k) → streamOpen k f = none → Completes (.stream p f) s fun u =>
      (u.ctx (hCtx f.hdr)) = { (s.ctx (hCtx f.hdr)) with authFails := min 65535 ((s.ctx (hCtx f.hdr)).authFails + 1) } ∧
        u.hasCond 0x27 (portNo p) = true ∧ u.dram = s.dram ∧ (∀ m, m ≠ hCtx f.hdr → u.ctx m = s.ctx m)) ∧
  -- STREAM: a context without ENABLE
  (∀ (s : State) (p : Port) (f : Frame), s.Calm → s.gets p f = true → hType f.hdr = 1 → (s.ctx (hCtx f.hdr)).w0.getLsbD 0 = false →
    Completes (.stream p f) s fun u =>
      u.wall.noCtx = min 65535 (s.wall.noCtx + 1) ∧ u = { s with wall := u.wall, flt := u.flt } ∧ NoNewFault s u) ∧
  -- UPDATE: accepted: the data is staged
  (∀ (s : State) (p : Port) (f : Frame), s.Calm → s.gets p f = true → hType f.hdr = 8 → s.cmdTagOk 0x04 f (f.payload.length - 8) = true →
    s.ward.updSeqOk (hSrc f.hdr) (hSeq f.hdr) = true → 20 ≤ f.payload.length → f.payload.length ≤ 9208 → f.payload.length % 4 = 0 →
    leAt f.payload 4 4 = 0 → s.nvm.phase = .receiving → s.staged < 65536 → s.pwr.noNewStore = false →
    leAt f.payload 0 4 = s.nvm.nextOffset.toNat →
    s.nvm.nextOffset.toNat + (f.payload.length - 16) ≤ (s.nvm.slot s.nvm.updTarget).bodyLen → Completes (.update p f) s fun u =>
      (u.nvm.slot s.nvm.updTarget).body = (s.nvm.slot s.nvm.updTarget).body ++ slice f.payload 8 (f.payload.length - 16) ∧
        u.nvm.slot (!s.nvm.updTarget) = s.nvm.slot (!s.nvm.updTarget) ∧ u.nvm.drops = s.nvm.drops ∧
        (u.nvm.nextOffset = BitVec.ofNat 32 (s.nvm.nextOffset.toNat + (f.payload.length - 16)) ∧
        u.nvm.nextSeq = BitVec.ofNat 32 (hSeq f.hdr + 1) ∧
        u.nvm.phase = (if s.nvm.nextOffset.toNat + (f.payload.length - 16) = (s.nvm.slot s.nvm.updTarget).bodyLen then .verifying
        else .receiving)) ∧ u.ward = { s.ward with updLast := some (BitVec.ofNat 12 (hSrc f.hdr), BitVec.ofNat 32 (hSeq f.hdr)) } ∧
        u = { s with nvm := u.nvm, ward := u.ward, flt := u.flt } ∧ NoNewFault s u) ∧
  -- UPDATE: accepted by Ward, at another offset than the next: staging drops it
  (∀ (s : State) (p : Port) (f : Frame), s.Calm → s.gets p f = true → hType f.hdr = 8 → s.cmdTagOk 0x04 f (f.payload.length - 8) = true →
    s.ward.updSeqOk (hSrc f.hdr) (hSeq f.hdr) = true → 20 ≤ f.payload.length → f.payload.length ≤ 9208 → f.payload.length % 4 = 0 →
    leAt f.payload 4 4 = 0 → (s.nvm.phase ≠ .receiving ∨ leAt f.payload 0 4 ≠ s.nvm.nextOffset.toNat) → Completes (.update p f) s fun u =>
      u.nvm = { s.nvm with drops := min 65535 (s.nvm.drops + 1) } ∧ u = { s with nvm := u.nvm, flt := u.flt } ∧ NoNewFault s u) ∧
  -- UPDATE: a tag that fails
  (∀ (s : State) (p : Port) (f : Frame), s.Calm → s.gets p f = true → hType f.hdr = 8 → s.cmdTagOk 0x04 f (f.payload.length - 8) = false →
    Completes (.update p f) s fun u =>
      u.ward.tagFails = min 65535 (s.ward.tagFails + 1) ∧ u.ward.updLast = s.ward.updLast ∧ u.hasCond 0xB4 0 = true ∧
        u.nvm.nextOffset = s.nvm.nextOffset) ∧
  -- NVM_UPD_DATA: one body word is staged
  (∀ (s : State) (src : Source) (w : Word), s.Calm → s.canAccess src = true → s.accessLegal src true (0x3C24) = true →
    isService src = true → s.nvm.phase = .receiving → s.staged < 65536 → s.pwr.noNewStore = false →
    s.nvm.nextOffset.toNat + 4 ≤ (s.nvm.slot s.nvm.updTarget).bodyLen → Completes (.nvmUpdData src w) s fun u =>
      u.acc = some { source := src, addr := 0x3C24, data := 0, status := 0 } ∧
        ((u.nvm.slot s.nvm.updTarget).body = (s.nvm.slot s.nvm.updTarget).body ++ leBytes 4 w.toNat ∧
        u.nvm.nextOffset = BitVec.ofNat 32 (s.nvm.nextOffset.toNat + 4) ∧ u.nvm.nextSeq = s.nvm.nextSeq + 1 ∧
        u.nvm.phase = (if s.nvm.nextOffset.toNat + 4 = (s.nvm.slot s.nvm.updTarget).bodyLen then .verifying else .receiving) ∧
        u.nvm.drops = s.nvm.drops) ∧ u = { s with nvm := u.nvm, acc := u.acc, flt := u.flt } ∧ NoNewFault s u) ∧
  -- NVM_UPD_DATA: no staging takes words: a drop
  (∀ (s : State) (src : Source) (w : Word), s.Calm → s.canAccess src = true → s.accessLegal src true (0x3C24) = true →
    isService src = true → s.nvm.phase ≠ .receiving → Completes (.nvmUpdData src w) s fun u =>
      u.acc = some { source := src, addr := 0x3C24, data := 0, status := 0 } ∧
        u.nvm = { s.nvm with drops := min 65535 (s.nvm.drops + 1) } ∧ u = { s with nvm := u.nvm, acc := u.acc, flt := u.flt } ∧
        NoNewFault s u)

/-- NVM stores: a settings, retained-region or program store that completes or fails, the erase behind it, the Cairn plane and the log -/
def Obligations.NvmStoresComplete : Prop :=
  -- NVM_STORE_COMPLETE: settings
  (∀ (s : State) (x : Settings), s.Calm → s.pwr.noNewStore = false → s.unitFenced 9 = false → s.nvm.jobSettings = some x →
    s.targetReady .settings = true → s.nvm.shortRuns = false → s.cmd.shutdownFrom = none → s.losers 22 = [] →
    Completes (.nvmStoreComplete .settings true) s fun u =>
      ((u.nvm.area s.areaUsed).copy ((s.nvm.area s.areaUsed).next (settingsLayout s.areaUsed))).body = x ∧
        ((u.nvm.area s.areaUsed).copy ((s.nvm.area s.areaUsed).next (settingsLayout s.areaUsed))).magic = copyMagic ∧
        ((u.nvm.area s.areaUsed).copy ((s.nvm.area s.areaUsed).next (settingsLayout s.areaUsed))).kind = 5 ∧
        ((u.nvm.area s.areaUsed).copy ((s.nvm.area s.areaUsed).next (settingsLayout s.areaUsed))).commit = copyCommit ∧
        ((u.nvm.area s.areaUsed).copy ((s.nvm.area s.areaUsed).next (settingsLayout s.areaUsed))).format = s.nvm.formatUsed ∧
        ((u.nvm.area s.areaUsed).copy ((s.nvm.area s.areaUsed).next (settingsLayout s.areaUsed))).crc = BitVec.ofNat 32 (crc32c x.bytes) ∧
        (settingsLayout s.areaUsed).valid ((s.nvm.area s.areaUsed).next (settingsLayout s.areaUsed)) ((u.nvm.area s.areaUsed).copy ((s.nvm.area s.areaUsed).next (settingsLayout s.areaUsed))) = true ∧
        (∀ c, (s.nvm.area s.areaUsed).newest (settingsLayout s.areaUsed) = some c →
        ((u.nvm.area s.areaUsed).copy ((s.nvm.area s.areaUsed).next (settingsLayout s.areaUsed))).gen = c.gen + 1) ∧
        (u.nvm.area s.areaUsed).copy (!((s.nvm.area s.areaUsed).next (settingsLayout s.areaUsed))) = (s.nvm.area s.areaUsed).copy (!((s.nvm.area s.areaUsed).next (settingsLayout s.areaUsed))) ∧
        u.nvm.area (!s.areaUsed) = s.nvm.area (!s.areaUsed) ∧ u.nvm.jobSettings = none ∧ u.nvm.stCode = 0 ∧ u.nvm.stKind = 0 ∧
        u.nvm.stValid = true ∧ u.nvm.erasing.contains .settings = true ∧ u = { s with nvm := u.nvm, tum := u.tum, flt := u.flt } ∧
        NoNewFault s u) ∧
  -- NVM_STORE_COMPLETE: settings, the store fails
  (∀ (s : State), s.Calm → s.pwr.noNewStore = false → s.unitFenced 9 = false → s.nvm.jobSettings.isSome = true →
    s.targetReady .settings = true → s.nvm.shortRuns = false → s.cmd.shutdownFrom = none →
    Completes (.nvmStoreComplete .settings false) s fun u =>
      u.nvm.area0 = s.nvm.area0 ∧ u.nvm.area1 = s.nvm.area1 ∧ u.nvm.stCode ≠ 0 ∧ u.nvm.stValid = true ∧ u.hasCond 0xD1 0 = true) ∧
  -- NVM_STORE_COMPLETE: retained region
  (∀ (s : State) (x : Sparse (BitVec 32)), s.Calm → s.pwr.noNewStore = false → s.unitFenced 9 = false → s.nvm.jobRetained = some x →
    s.targetReady .retained = true → s.nvm.shortRuns = false → s.losers 22 = [] → Completes (.nvmStoreComplete .retained true) s fun u =>
      (u.nvm.retained.copy (s.nvm.retained.next retainedLayout)).body = x ∧
        retainedLayout.valid (s.nvm.retained.next retainedLayout) (u.nvm.retained.copy (s.nvm.retained.next retainedLayout)) = true ∧
        u.nvm.retained.copy (!(s.nvm.retained.next retainedLayout)) = s.nvm.retained.copy (!(s.nvm.retained.next retainedLayout)) ∧
        (∀ c, s.nvm.retained.newest retainedLayout = some c →
        (u.nvm.retained.copy (s.nvm.retained.next retainedLayout)).gen = c.gen + 1) ∧ u.nvm.jobRetained = none ∧ u.tum.storeCode = 0 ∧
        u.tum.storeValid = true ∧ u.tum.storeFresh = true ∧ u = { s with nvm := u.nvm, tum := u.tum, flt := u.flt } ∧ NoNewFault s u) ∧
  -- NVM_STORE_COMPLETE: retained region, the store fails
  (∀ (s : State), s.Calm → s.pwr.noNewStore = false → s.unitFenced 9 = false → s.nvm.jobRetained.isSome = true →
    s.targetReady .retained = true → s.nvm.shortRuns = false → Completes (.nvmStoreComplete .retained false) s fun u =>
      u.nvm.retained = s.nvm.retained ∧ u.tum.storeCode ≠ 0 ∧ u.tum.storeValid = true ∧ u.hasCond 0xD1 0 = true) ∧
  -- NVM_STORE_COMPLETE: program
  (∀ (s : State) (x : Sparse (BitVec 32)), s.Calm → s.pwr.noNewStore = false → s.unitFenced 9 = false → s.nvm.jobProg = some x →
    s.targetReady .program = true → s.nvm.shortRuns = false → s.losers 22 = [] → Completes (.nvmStoreComplete .program true) s fun u =>
      (u.nvm.prog.copy (s.nvm.prog.next programLayout)).body = x ∧ (u.nvm.prog.copy (s.nvm.prog.next programLayout)).gen = imageWord x 6 ∧
        u.nvm.prog.copy (!(s.nvm.prog.next programLayout)) = s.nvm.prog.copy (!(s.nvm.prog.next programLayout)) ∧
        programLayout.valid (s.nvm.prog.next programLayout) (u.nvm.prog.copy (s.nvm.prog.next programLayout)) = (imageCheck x == stOk) ∧
        u.tum.progCopy = (s.nvm.prog.next programLayout) ∧ u.nvm.jobProg = none ∧ u.tum.progCode = 0 ∧ u.tum.progValid = true ∧
        u = { s with nvm := u.nvm, tum := u.tum, flt := u.flt } ∧ NoNewFault s u) ∧
  -- BACKGROUND_ERASE_DONE
  (∀ (s : State) (kind : NvmJob), s.Calm → s.pwr.noNewStore = false → s.unitFenced 9 = false →
    s.nvm.erasing.contains (jobKind kind) = true → s.nvm.settingsAgain = false → s.eraseWaits = false →
    Completes (.backgroundEraseDone kind) s fun u =>
      u.nvm.erasing.contains (jobKind kind) = false ∧ ((kind = .settings →
        (u.nvm.area s.areaUsed).targetErased (settingsLayout s.areaUsed) = true ∧
        (u.nvm.area s.areaUsed).newest (settingsLayout s.areaUsed) = (s.nvm.area s.areaUsed).newest (settingsLayout s.areaUsed))) ∧
        ((kind = .retained → u.nvm.retained.targetErased retainedLayout = true ∧
        u.nvm.retained.newest retainedLayout = s.nvm.retained.newest retainedLayout)) ∧ ((kind = .program →
        u.nvm.prog.targetErased programLayout = true ∧ u.nvm.prog.newest programLayout = s.nvm.prog.newest programLayout)) ∧
        u = { s with nvm := u.nvm, flt := u.flt } ∧ NoNewFault s u) ∧
  -- CAIRN_START
  (∀ (s : State) (src : Source) (w : Word), s.Calm → s.canAccess src = true → s.accessLegal src true (0x3C30) = true →
    isService src = true → s.eng.st = .service → w.getLsbD 1 = false → Completes (.cairnStart src w) s fun u =>
      u.acc = some { source := src, addr := 0x3C30, data := 0, status := 0 } ∧
        u.nvm = { s.nvm with cairnOpen := true, cairnBuf := [], cairnCount := 0 } ∧
        u = { s with nvm := u.nvm, acc := u.acc, flt := u.flt } ∧ NoNewFault s u) ∧
  -- NVM_CAIRN_DATA
  (∀ (s : State) (src : Source) (w : Word), s.Calm → s.canAccess src = true → s.accessLegal src true (0x3C38) = true →
    isService src = true → s.eng.st = .service → s.nvm.cairnOpen = true → s.nvm.cairnCount < 65536 →
    Completes (.nvmCairnData src w) s fun u =>
      u.acc = some { source := src, addr := 0x3C38, data := 0, status := 0 } ∧ (u.nvm.cairnCount = s.nvm.cairnCount + 1 ∧
        sget 0 s.nvm.cairnCount u.nvm.cairnBuf = w ∧ (∀ n, n ≠ s.nvm.cairnCount → sget 0 n u.nvm.cairnBuf = sget 0 n s.nvm.cairnBuf)) ∧
        u = { s with nvm := u.nvm, acc := u.acc, flt := u.flt } ∧ NoNewFault s u) ∧
  -- CAIRN_COMMIT: the plane’s CRC is right
  (∀ (s : State) (src : Source) (w : Word), s.Calm → s.canAccess src = true → s.accessLegal src true (0x3C30) = true →
    isService src = true → s.eng.st = .service → s.pwr.noNewStore = false → s.unitFenced 9 = false → s.nvm.journal = none →
    s.nvm.cairnOpen = true → s.nvm.cairnCount = 65536 → w.getLsbD 0 = false → s.nvm.cairnCrc.toNat = crc32 (planeBytes s.nvm.cairnBuf) →
    Completes (.cairnCommit src w) s fun u =>
      u.acc = some { source := src, addr := 0x3C30, data := 0, status := 0 } ∧
        u.nvm = { s.nvm with journal := some (s.nvm.cairnBuf, { palette := s.nvm.pal, crc := s.nvm.cairnCrc }), cairnValid := false, cairnFresh := false, cairnOpen := false } ∧
        u = { s with nvm := u.nvm, acc := u.acc, flt := u.flt } ∧ NoNewFault s u) ∧
  -- CAIRN_COMMIT: the plane’s CRC is wrong
  (∀ (s : State) (src : Source) (w : Word), s.Calm → s.canAccess src = true → s.accessLegal src true (0x3C30) = true →
    isService src = true → s.eng.st = .service → s.nvm.journal = none → s.nvm.cairnOpen = true → s.nvm.cairnCount = 65536 →
    w.getLsbD 0 = false → s.nvm.cairnCrc.toNat ≠ crc32 (planeBytes s.nvm.cairnBuf) → Completes (.cairnCommit src w) s fun u =>
      u.acc = some { source := src, addr := 0x3C30, data := 0, status := 0 } ∧
        u.nvm = { s.nvm with cairnCode := stBadSig, cairnValid := true, cairnFresh := true } ∧
        u = { s with nvm := u.nvm, acc := u.acc, flt := u.flt } ∧ NoNewFault s u) ∧
  -- CAIRN_COMMIT: words are missing
  (∀ (s : State) (src : Source) (w : Word), s.Calm → s.canAccess src = true → s.accessLegal src true (0x3C30) = true →
    isService src = true → s.eng.st = .service → s.nvm.journal = none → s.nvm.cairnCount ≠ 65536 → w.getLsbD 0 = false →
    Completes (.cairnCommit src w) s fun u =>
      u.acc = some { source := src, addr := 0x3C30, data := 0, status := 0 } ∧ u.nvm.journal = none ∧ u.nvm.cairnValid = true ∧
        u.nvm.cairnCode = stBadLen ∧ u = { s with nvm := u.nvm, acc := u.acc, flt := u.flt } ∧ NoNewFault s u) ∧
  -- CAIRN_STORE_COMPLETE
  (∀ (s : State) (x : Sparse (BitVec 32)) (h : CairnHeader), s.Calm → s.pwr.noNewStore = false → s.unitFenced 9 = false →
    s.nvm.journal = some (x, h) → s.nvm.cairnValid = false → s.nvm.storeRuns = false → Completes (.cairnStoreComplete true) s fun u =>
      u.nvm.plane = x ∧ u.nvm.planeBad = false ∧ u.nvm.planeOk = u.nvm.planeValid ∧
        (u.nvm.cairnHdr.copy (s.nvm.cairnHdr.next cairnLayout)).body = h ∧
        cairnLayout.valid (s.nvm.cairnHdr.next cairnLayout) (u.nvm.cairnHdr.copy (s.nvm.cairnHdr.next cairnLayout)) = true ∧
        u.nvm.journal = none ∧ u.nvm.cairnCode = 0 ∧ u.nvm.cairnValid = true ∧ u.nvm.reload = true ∧
        u = { s with nvm := u.nvm, flt := u.flt } ∧ NoNewFault s u) ∧
  -- CAIRN_STORE_COMPLETE: the write fails
  (∀ (s : State), s.Calm → s.pwr.noNewStore = false → s.unitFenced 9 = false → s.nvm.journal.isSome = true → s.nvm.cairnValid = false →
    s.nvm.storeRuns = false → Completes (.cairnStoreComplete false) s fun u =>
      u.nvm.plane = s.nvm.plane ∧ u.nvm.journal = none ∧ u.nvm.cairnCode ≠ 0 ∧ u.nvm.cairnValid = true ∧ u.hasCond 0xD1 0 = true) ∧
  -- CAIRN_RELOAD
  (∀ (s : State), s.Calm → s.running = true → s.nvm.reload = true → s.saf.func ≠ some .ssg → Completes .cairnReload s fun u =>
      u.rings = { s.rings with sram := s.nvm.plane, sramOk := s.nvm.planeOk, sramCrc := u.rings.sramCrc, palette := u.rings.palette } ∧
        u.nvm = { s.nvm with reload := false } ∧ (∀ c, s.nvm.cairnHdr.newest cairnLayout = some c → u.rings.sramCrc = c.body.crc ∧
        u.rings.palette = c.body.palette) ∧ u = { s with rings := u.rings, nvm := u.nvm, flt := u.flt } ∧ NoNewFault s u) ∧
  -- LOG_APPEND
  (∀ (s : State) (e : LogEntry) (rest : List LogEntry), s.Calm → s.running = true → s.unitFenced 9 = false → s.nvm.logQueue = e :: rest →
    s.nvm.working = false → s.pwr.noNewStore = false → Completes .logAppend s fun u =>
      (u.nvm.logQueue = rest ∧ u.nvm.log = e :: (if s.nvm.log.length < 12288 then s.nvm.log else s.nvm.log.take 12160)) ∧
        u = { s with nvm := u.nvm, flt := u.flt } ∧ NoNewFault s u)

/-- Firmware update: slot erase, the end of staging, CONFIRM, confirmation of a trial and its expiry -/
def Obligations.UpdateCompletes : Prop :=
  -- SLOT_ERASE_COMPLETE
  (∀ (s : State), s.Calm → s.pwr.noNewStore = false → s.nvm.phase = .erasing → Completes .slotEraseComplete s fun u =>
      u.nvm.phase = .receiving ∧ (u.nvm.slot s.nvm.updTarget).body = [] ∧ u.nvm.slot (!s.nvm.updTarget) = s.nvm.slot (!s.nvm.updTarget) ∧
        u = { s with nvm := u.nvm, flt := u.flt } ∧ NoNewFault s u) ∧
  -- STAGING_COMPLETE: the digest is right
  (∀ (s : State), s.Calm → s.pwr.noNewStore = false → s.nvm.phase = .verifying → (s.nvm.slot s.nvm.updTarget).digestOk = true →
    Completes .stagingComplete s fun u =>
      u.nvm.phase = .staged ∧ u.nvm.updCode = 0 ∧ u.nvm.updFresh = true ∧ u.bootRec = s.bootRec.setSlot s.nvm.updTarget .staged ∧
        u.nvm.slot0 = s.nvm.slot0 ∧ u.nvm.slot1 = s.nvm.slot1 ∧ u = { s with nvm := u.nvm, flt := u.flt } ∧ NoNewFault s u) ∧
  -- STAGING_COMPLETE: the digest is wrong
  (∀ (s : State), s.Calm → s.pwr.noNewStore = false → s.nvm.phase = .verifying → s.eng.st ≠ .update →
    (s.nvm.slot s.nvm.updTarget).digestOk = false → Completes .stagingComplete s fun u =>
      u.nvm.phase = .failed ∧ u.nvm.updCode = stBadSig ∧ u.nvm.updFresh = true ∧ u.bootRec = s.bootRec.setSlot s.nvm.updTarget .invalid ∧
        u = { s with nvm := u.nvm, flt := u.flt } ∧ NoNewFault s u) ∧
  -- STAGING_COMPLETE: the digest is wrong, in UPDATE
  (∀ (s : State), s.Calm → s.pwr.noNewStore = false → s.nvm.phase = .verifying → s.eng.st = .update → s.eng.beforeUpdate ≠ .update →
    s.eng.beforeUpdate ≠ .service → s.losers 24 = [] → (s.nvm.slot s.nvm.updTarget).digestOk = false →
    Completes .stagingComplete s fun u =>
      u.eng.st = s.eng.beforeUpdate ∧ u.nvm.phase = .failed ∧ u.nvm.updCode = stBadSig ∧
        u.bootRec = s.bootRec.setSlot s.nvm.updTarget .invalid) ∧
  -- CONFIRM
  (∀ (s : State) (src : Source) (w : Word), s.Calm → s.canAccess src = true → s.accessLegal src true (0x3C14) = true →
    s.writable src 0x3C14 = true → s.mayConfirm = true → Completes (.confirm src w) s fun u =>
      u.acc = some { source := src, addr := 0x3C14, data := 0, status := 0 } ∧ u.nvm.confirmAsked = true ∧
        u.nvm.autoConfirm = w.getLsbD 1 ∧ u.nvm.confirmMin = max 1 (w.toNat / 256 % 256) ∧
        u.nvm.holdS = min 3600 (max 1 (w.toNat / 65536)) ∧ u.bootRec.confirmMin = max 1 (w.toNat / 256 % 256) ∧
        u = { s with nvm := u.nvm, acc := u.acc, flt := u.flt } ∧ NoNewFault s u) ∧
  -- CONFIRM: before the conditions hold
  (∀ (s : State) (src : Source) (w : Word), s.Calm → s.canAccess src = true → s.accessLegal src true 0x3C14 = true →
    s.writable src 0x3C14 = true → s.mayConfirm = false → Completes (.confirm src w) s fun u =>
      u.acc = some { source := src, addr := 0x3C14, data := 0, status := stNotReady } ∧ u = { s with acc := u.acc, flt := u.flt } ∧
        NoNewFault s u) ∧
  -- TRIAL_CONFIRM
  (∀ (s : State), s.Calm → s.mayConfirm = true → (s.nvm.autoConfirm = true ∨ s.nvm.confirmAsked = true) →
    Completes .trialConfirm s fun u =>
      u.nvm.trial = false ∧ u.bootRec.slot s.nvm.runSlot = .confirmed ∧ u.bootRec.areaL = (!s.bootRec.areaL) ∧ u.bootRec.tries = 0 ∧
        s.ward.arbFw.toNat ≤ u.ward.arbFw.toNat ∧ (u.bootRec.slot (!s.nvm.runSlot) = (if s.bootRec.slot (!s.nvm.runSlot) = .confirmed then
        .old else s.bootRec.slot (!s.nvm.runSlot))) ∧ u = { s with nvm := u.nvm, ward := u.ward, flt := u.flt } ∧ NoNewFault s u) ∧
  -- TRIAL_TIMER_EXPIRY: the ledger is stored first
  (∀ (s : State), s.Calm → s.pwr.noNewStore = false → s.running = true → s.nvm.trial = true → s.nvm.fallbackDue = false →
    s.unitFenced 4 = false → Completes .trialTimerExpiry s fun u =>
      u.nvm.fallbackDue = true ∧ u.nvm.trial = true ∧ u.age.busy = true ∧ u.pwr = s.pwr ∧ u.nvm.boot = s.nvm.boot) ∧
  -- TRIAL_TIMER_EXPIRY: with the tile flash fenced: the fallback and its reset
  (∀ (s : State), s.Calm → s.running = true → s.nvm.trial = true → s.nvm.fallbackDue = false → s.unitFenced 4 = true →
    Completes .trialTimerExpiry s fun u =>
      u.bootRec.slot s.nvm.runSlot = .invalid ∧ u.pwr.cause = .fallback ∧ u.eng.st = .standby)

/-- Composition: COMMIT and its admission, what a take point puts in force, the flip, bands and rebuilt records -/
def Obligations.CompositionCompletes : Prop :=
  -- COMP_COMMIT: queued; admission starts with the shadow parts
  (∀ (s : State) (src : Source) (w : Word), s.Calm → s.canAccess src = true → s.accessLegal src true (0x1C10) = true →
    s.legal 0x04 = true → s.comp.queue = [] → Completes (.compCommit src w) s fun u =>
      u.acc = some { source := src, addr := 0x1C10, data := 0, status := 0 } ∧
        u.comp.queue = [{ mask := BitVec.ofNat 16 (w.toNat % 65536), globals := w.getLsbD 16, token := BitVec.ofNat 8 (w.toNat / 2 ^ 24), by_ := .register }] ∧
        (u.comp.admitting = some { layers := s.comp.layers.map fun l => l.shadow, bg := s.comp.bg, conf := s.comp.conf } ∧
        u.comp.pending = s.comp.pending ∧ u.comp.layers = s.comp.layers) ∧ u = { s with comp := u.comp, acc := u.acc, flt := u.flt } ∧
        NoNewFault s u) ∧
  -- COMP_COMMIT: four wait already
  (∀ (s : State) (src : Source) (w : Word), s.Calm → s.canAccess src = true → s.accessLegal src true 0x1C10 = true → s.legal 0x04 = true →
    s.comp.queue.length = 5 → Completes (.compCommit src w) s fun u =>
      u.acc = some { source := src, addr := 0x1C10, data := 0, status := 0x06 } ∧ u = { s with acc := u.acc, flt := u.flt } ∧
        NoNewFault s u) ∧
  -- COMMIT_ADMISSION: accepted: the candidate waits for its take point
  (∀ (s : State) (snap : CommitSnap) (q : CommitReq), s.Calm → s.comp.admitting = some snap → s.comp.queue = [q] → q.by_ = .register →
    s.losers 20 = [] → (s.admission snap q).1 = 0 → Completes .commitAdmission s fun u =>
      u.comp.queue = [] ∧ u.comp.admitting = none ∧ u.comp.resToken = q.token ∧ u.comp.resCode = 0 ∧ u.comp.resFresh = true ∧
        u.comp.layers = s.comp.layers ∧ (u.comp.pending.map (fun p => p.layers) = some (s.candidate snap q.mask)) ∧
        u = { s with comp := u.comp, tum := u.tum, flt := u.flt } ∧ NoNewFault s u) ∧
  -- COMMIT_ADMISSION: refused: nothing but the result changes
  (∀ (s : State) (snap : CommitSnap) (q : CommitReq), s.Calm → s.comp.admitting = some snap → s.comp.queue = [q] → q.by_ = .register →
    s.losers 20 = [] → (s.admission snap q).1 ≠ 0 → Completes .commitAdmission s fun u =>
      u.comp.queue = [] ∧ u.comp.admitting = none ∧ u.comp.resToken = q.token ∧ u.comp.resCode = (s.admission snap q).1 ∧
        u.comp.resFresh = true ∧ u.comp.layers = s.comp.layers ∧ u.comp.pending = s.comp.pending ∧
        u = { s with comp := u.comp, tum := u.tum, flt := u.flt } ∧ NoNewFault s u) ∧
  -- COMMIT_ADMISSION: whoever asked, and with further COMMITs waiting: the next is admitted
  (∀ (s : State) (snap : CommitSnap) (q : CommitReq) (rest : List CommitReq), s.Calm → s.comp.admitting = some snap →
    s.comp.queue = q :: rest → Completes .commitAdmission s fun u =>
      u.comp.queue = rest ∧ u.comp.resToken = q.token ∧ u.comp.resCode = (s.admission snap q).1 ∧ u.comp.resFresh = rest.isEmpty ∧
        u.comp.layers = s.comp.layers ∧ u.comp.admitting.isSome = !rest.isEmpty) ∧
  -- COMMIT_ADMISSION: layer 0 with a source width of 0: BAD_LEN, detail 1
  (∀ (s : State) (snap : CommitSnap) (q : CommitReq), s.Calm → s.comp.admitting = some snap → s.comp.queue = [q] → q.by_ = .register →
    q.globals = false → q.mask.getLsbD 0 = true → (snap.layers.getD 0 {}).w0.getLsbD 0 = true →
    (snap.layers.getD 0 {}).w3.toNat % 16384 = 0 → s.unitFenced 0 = false → s.losers 20 = [] → Completes .commitAdmission s fun u =>
      u.comp.resCode = stBadLen ∧ u.comp.resLayer = 0 ∧ u.comp.resDetail = 1 ∧ u.comp.pending = s.comp.pending ∧
        u = { s with comp := u.comp, tum := u.tum, flt := u.flt } ∧ NoNewFault s u) ∧
  -- TAKE_POINT: the pending configuration, the colour settings, caps and limits take effect
  (∀ (s : State) (n : Nat), s.Calm → s.running = true → s.eng.st ≠ .boot → s.takeDue n = true → Completes (.takePoint n) s fun u =>
      u.comp.lastTake = n ∧ u.comp.takeCount = s.comp.takeCount + 1 ∧ u.comp.pending = none ∧ u.col.pending = none ∧
        u.col.envPending = none ∧ u.col.limitActive = s.col.limit ∧ (∀ p i, s.comp.pending = some p → i < 16 →
        (u.layer i).active = p.layers.getD i {}) ∧ (∀ i, s.comp.pending = none → i < 16 → (u.layer i).active = (s.layer i).active) ∧
        u.col.active = s.col.pending.getD s.col.active ∧ u.col.envActive = s.col.envPending.getD s.col.envActive) ∧
  -- TAKE_POINT: a pending mode for the next take point takes effect
  (∀ (s : State) (m : Mode) (n : Nat), s.Calm → s.running = true → s.eng.st ≠ .boot → s.takeDue n = true → s.comp.pendingMode = some m →
    m.target = 0 → Completes (.takePoint n) s fun u =>
      u.comp.num = m.num ∧ u.comp.den = m.den ∧ u.comp.vblankActive = m.vblankUs ∧ u.col.depth = m.depth ∧ u.led.plan = m.seg ∧
        u.comp.pendingMode = none ∧ (m.num * s.comp.den ≠ s.comp.num * m.den → u.comp.rateStep = 1)) ∧
  -- TAKE_POINT: an enabled layer with a newer complete frame shows it
  (∀ (s : State) (i : Nat) (f : Word) (b : Nat) (n : Nat), s.Calm → s.running = true → s.eng.st ≠ .boot → s.takeDue n = true →
    s.comp.pending = none → s.comp.layers.length = 16 → i < 16 → (s.layer i).active.enable = true → (s.layer i).active.pinned = false →
    (s.layer i).active.group = 0 → s.newestOf (s.layer i).active = some (f, b) → f ≠ (s.layer i).shownSeq →
    Completes (.takePoint n) s fun u =>
      (u.layer i).shownSeq = f ∧ (u.layer i).shownBuf = b ∧ (u.layer i).shownValid = true ∧ (u.layer i).lstate = .showing ∧
        (u.layer i).since = 0 ∧ (u.layer i).hold = 0 ∧ (u.layer i).late = false) ∧
  -- FLIP: the next frame is composed
  (∀ (s : State) (n : Nat), s.Calm → s.running = true → s.eng.st ≠ .boot → s.time.valid = true → s.flipDue n = true →
    s.comp.rateStep ≠ 1 → Completes (.flip n) s fun u =>
      u.comp.lastFlip = n ∧ u.comp.lastFlipNs = some (s.flipTarget n) ∧ u.led.rising = false ∧ u.comp.takeCount = s.comp.takeCount ∧
        (u.comp.rateStep = 0 ∧ u.comp.composing = true ∧ u.comp.composed = 0 ∧ u.col.zonesCapped = (if s.comp.bands = 256 then
        s.col.zonesNow.length else s.col.zonesCapped))) ∧
  -- FLIP: the last flip of the old rate
  (∀ (s : State) (n : Nat), s.Calm → s.running = true → s.eng.st ≠ .boot → s.time.valid = true → s.flipDue n = true →
    s.comp.rateStep = 1 → Completes (.flip n) s fun u =>
      u.comp.lastFlip = n ∧ u.comp.lastFlipNs = some (s.flipTarget n) ∧ u.led.rising = false ∧ u.comp.takeCount = s.comp.takeCount ∧
        u.comp.rateStep = 2 ∧ u.comp.composing = s.comp.composing ∧ u.col.zonesCapped = s.col.zonesCapped) ∧
  -- FLIP: while the sign is shown and W is not valid, the flips of the local counter are sampled
  (∀ (s : State) (n : Nat), s.Calm → s.localFlipDue n = true → s.time.valid = false → Completes (.flip n) s fun u =>
      u.comp.localFlip = n ∧ u.comp.lastFlip = s.comp.lastFlip ∧ u.rings = s.rings) ∧
  -- BAND_COMPLETE: the band is written
  (∀ (s : State) (obs : BandObs), s.Calm → s.running = true → s.eng.st ≠ .boot → s.comp.composing = true → s.comp.composed < 256 →
    s.comp.rateStep = 0 → s.comp.bands = s.comp.composed → s.col.halted = false → Completes (.bandComplete obs) s fun u =>
      u.comp.bands = s.comp.bands + 1 ∧ u.comp.composed = s.comp.composed + 1 ∧ u.col.front = s.col.front) ∧
  -- BAND_COMPLETE: with no record to give up and nothing else running: what else changes
  (∀ (s : State) (obs : BandObs), s.Calm → s.running = true → s.eng.st ≠ .boot → s.comp.composing = true → s.comp.composed < 256 →
    s.comp.rateStep = 0 → s.comp.bands = s.comp.composed → s.col.halted = false → obs.badZones = [] → obs.badBursts = [] →
    s.comp.confOn = false → s.col.calRunning = false → Completes (.bandComplete obs) s fun u =>
      u.comp.bands = s.comp.bands + 1 ∧ u.comp.confRows = s.comp.confRows ∧ u.col.front = s.col.front ∧
        (∀ a, (a < planeAt s.back ∨ planeAt s.back + 6291456 ≤ a) → u.dramByte a = s.dramByte a) ∧
        u = { s with comp := u.comp, dram := u.dram, col := u.col, flt := u.flt } ∧ NoNewFault s u) ∧
  -- BAND_COMPLETE: the colour pipeline is held: only the composer goes on
  (∀ (s : State) (obs : BandObs), s.Calm → s.running = true → s.eng.st ≠ .boot → s.comp.composing = true → s.comp.composed < 256 →
    s.comp.rateStep = 0 → (s.col.halted = true ∨ s.comp.bands ≠ s.comp.composed) → Completes (.bandComplete obs) s fun u =>
      u.comp.bands = s.comp.bands ∧ u.comp.composed = s.comp.composed + 1 ∧ u.col = s.col) ∧
  -- CAL_RECORD_REBUILD
  (∀ (s : State), s.Calm → s.unitFenced 4 = false → s.col.rebuild ≠ [] → Completes .calRecordRebuild s fun u =>
      u.col.rebuild = [] ∧ u.col.rtFence = s.col.rtFence ∧ u = { s with dram := u.dram, col := u.col, flt := u.flt } ∧ NoNewFault s u)

/-- Colour and calibration: takes and their landing, the envelope and transfer tables, user calibration and its stores -/
def Obligations.ColourCompletes : Prop :=
  -- COL_TAKE: a landing starts with the shadow groups asked for
  (∀ (s : State) (src : Source) (w : Word), s.Calm → s.canAccess src = true → s.accessLegal src true (0x2058) = true →
    s.col.landings = [] → (w.getLsbD 0 = true ∨ w.getLsbD 1 = true) → Completes (.colTake src w) s fun u =>
      u.acc = some { source := src, addr := 0x2058, data := 0, status := 0 } ∧
        (u.col.landings = [{ env := if w.getLsbD 0 then some s.col.envShadow else none, colour := if w.getLsbD 1 then some s.col.shadow else none, token := BitVec.ofNat 8 (w.toNat / 2 ^ 24), by_ := .register }]) ∧
        u.col.resFresh = false ∧ u.col.active = s.col.active ∧ u.col.envActive = s.col.envActive ∧
        u = { s with col := u.col, acc := u.acc, flt := u.flt } ∧ NoNewFault s u) ∧
  -- COL_TAKE: neither group: it has landed at once
  (∀ (s : State) (src : Source) (w : Word), s.Calm → s.canAccess src = true → s.accessLegal src true (0x2058) = true →
    w.getLsbD 0 = false → w.getLsbD 1 = false → s.losers 21 = [] → Completes (.colTake src w) s fun u =>
      u.acc = some { source := src, addr := 0x2058, data := 0, status := 0 } ∧ u.col.resCode = 0 ∧ u.col.resFresh = true ∧
        u.col.landings = s.col.landings ∧ u.col.resToken = BitVec.ofNat 8 (w.toNat / 2 ^ 24) ∧
        u = { s with col := u.col, tum := u.tum, acc := u.acc, flt := u.flt } ∧ NoNewFault s u) ∧
  -- TAKE_LANDING
  (∀ (s : State) (l : Landing), s.Calm → nextLanding s.col.landings = some l → l.by_ = .register → s.losers 21 = [] →
    Completes .takeLanding s fun u =>
      u.col.landings = s.col.landings.erase l ∧ u.col.resToken = l.token ∧ u.col.resFresh = true ∧ ((∀ g, l.colour = some g →
        colourRefused s.col.ident.prims g = false) → u.col.resCode = 0 ∧ (∀ t, l.env = some t → u.col.envPending = some t) ∧
        (∀ g, l.colour = some g → u.col.pending.map (fun a => a.grp) = some g)) ∧ ((∀ g, l.colour = some g →
        colourRefused s.col.ident.prims g = true → u.col.resCode = stBadLen ∧ u.col.envPending = s.col.envPending ∧
        u.col.pending = s.col.pending)) ∧ u = { s with col := u.col, tum := u.tum, flt := u.flt } ∧ NoNewFault s u) ∧
  -- COL_ENV_DATA
  (∀ (s : State) (src : Source) (w : Word), s.Calm → s.canAccess src = true → s.accessLegal src true (0x2048) = true →
    (s.per src).envAddr < 1024 → Completes (.colEnvData src w) s fun u =>
      u.acc = some { source := src, addr := 0x2048, data := 0, status := 0 } ∧
        sget 0xFFFF (s.per src).envAddr u.col.envShadow = BitVec.ofNat 16 (w.toNat % 65536) ∧
        sget 0xFFFF (((s.per src).envAddr + 1) % 1024) u.col.envShadow = BitVec.ofNat 16 (w.toNat / 65536) ∧
        ((∀ z, z ≠ (s.per src).envAddr → z ≠ ((s.per src).envAddr + 1) % 1024 →
        sget 0xFFFF z u.col.envShadow = sget 0xFFFF z s.col.envShadow) ∧ (u.per src).envAddr = ((s.per src).envAddr + 2) % 1024) ∧
        u = { s with col := u.col, sel := u.sel, acc := u.acc, flt := u.flt } ∧ NoNewFault s u) ∧
  -- COL_ENV_FILL
  (∀ (s : State) (src : Source) (w : Word), s.Calm → s.canAccess src = true → s.accessLegal src true (0x204C) = true →
    Completes (.colEnvFill src w) s fun u =>
      u.acc = some { source := src, addr := 0x204C, data := 0, status := 0 } ∧ (∀ z, z < 1024 →
        sget 0xFFFF z u.col.envShadow = if w.toNat % 32 ≤ z % 32 ∧ z % 32 ≤ w.toNat / 1024 % 32 ∧ w.toNat / 32 % 32 ≤ z / 32 ∧
        z / 32 ≤ w.toNat / 32768 % 32 then s.col.fillCap else sget 0xFFFF z s.col.envShadow) ∧
        u = { s with col := u.col, acc := u.acc, flt := u.flt } ∧ NoNewFault s u) ∧
  -- COL_TF_DATA
  (∀ (s : State) (src : Source) (w : Word), s.Calm → s.canAccess src = true → s.accessLegal src true (0x206C) = true →
    (s.per src).tfAddr < 4096 → Completes (.colTfData src w) s fun u =>
      u.acc = some { source := src, addr := 0x206C, data := 0, status := 0 } ∧
        sget 0 (s.per src).tfAddr u.col.shadow.custom = w.truncate 20 ∧ (u.per src).tfAddr = ((s.per src).tfAddr + 1) % 4096 ∧
        u.col.active = s.col.active ∧ ((∀ i, i ≠ (s.per src).tfAddr → sget 0 i u.col.shadow.custom = sget 0 i s.col.shadow.custom)) ∧
        u = { s with col := u.col, sel := u.sel, acc := u.acc, flt := u.flt } ∧ NoNewFault s u) ∧
  -- CAL_UPDATE_COMPLETE: wherever the update stands
  (∀ (s : State) (q : CalReq) (rest : List CalReq), s.Calm → s.col.calRunning = true → s.col.calQueue = q :: rest →
    Completes .calUpdateComplete s fun u =>
      u.col.calQueue = rest ∧ u.col.calRunning = false ∧ u.col.calPos = 0 ∧
        u = { s with dram := u.dram, col := u.col, free := u.free, flt := u.flt } ∧ NoNewFault s u) ∧
  -- CAL_UPDATE_COMPLETE: every record of the rectangle, and none outside it
  (∀ (s : State) (q : CalReq) (rest : List CalReq), s.Calm → s.col.calRunning = true → s.col.calQueue = q :: rest → s.col.calPos = 0 →
    q.x + q.w ≤ 1024 → q.y + q.h ≤ 1024 → Completes .calUpdateComplete s fun u =>
      u.col.calQueue = rest ∧ u.col.calRunning = false ∧ u.col.calPos = 0 ∧ (∀ x y, x < 1024 → y < 1024 → ¬ (q.x ≤ x ∧ x < q.x + q.w ∧
        q.y ≤ y ∧ y < q.y + q.h) → u.calRec x y = s.calRec x y) ∧ (∀ x y, q.fence = true → q.x ≤ x → x < q.x + q.w → q.y ≤ y →
        y < q.y + q.h → (u.calRec x y).getLsbD 126 = true) ∧ u = { s with dram := u.dram, col := u.col, free := u.free, flt := u.flt } ∧
        NoNewFault s u) ∧
  -- USER_CAL_STORE_COMPLETE: the store fails
  (∀ (s : State), s.Calm → s.col.userStore = true → s.unitFenced 4 = false → s.pwr.noNewStore = false →
    (s.age.busy && s.age.copying) = false → s.cmd.shutdownFrom = none → Completes (.userCalStoreComplete false) s fun u =>
      u.col.userStore = false ∧ u.col.userHalf = s.col.userHalf ∧ u.col.userGen = s.col.userGen ∧ u.nvm.stCode ≠ 0 ∧ u.nvm.stKind = 3 ∧
        u.nvm.stValid = true ∧ u = { s with col := u.col, nvm := u.nvm, free := u.free, flt := u.flt } ∧ NoNewFault s u) ∧
  -- USER_CAL_STORE_COMPLETE: the half written becomes the one in use
  (∀ (s : State), s.Calm → s.col.userStore = true → s.unitFenced 4 = false → s.pwr.noNewStore = false →
    (s.age.busy && s.age.copying) = false → s.cmd.shutdownFrom = none → s.losers 22 = [] →
    Completes (.userCalStoreComplete true) s fun u =>
      u.col.userStore = false ∧ u.col.userAny = true ∧ u.col.userHalf = s.col.userTarget ∧ u.col.userEpoch = s.col.userEpoch ∧
        u.nvm.stCode = 0 ∧ u.nvm.stKind = 3 ∧ (u.col.userGen = (if s.col.userAny then s.col.userGen + 1 else 1)) ∧
        u = { s with col := u.col, nvm := u.nvm, tum := u.tum, flash := u.flash, flt := u.flt } ∧ NoNewFault s u)

/-- Pixel rings: rows sent, slots that confirm their cells, echoes, the LATCH, and the sign of the Cairn path -/
def Obligations.RingStreamingCompletes : Prop :=
  -- RING_ROW_SEND
  (∀ (s : State) (ring : Fin 64), s.Calm → s.rings.rings.length = 64 → (s.ring ring.val).up = true →
    (s.ring ring.val).rows < (s.ring ring.val).rowCount → s.rings.cairnOn = (s.ring ring.val).cairn →
    s.rowLanded ring.val (s.ring ring.val).rows = true → (List.range (min 1024 (s.ring ring.val).n)).all (fun c =>
    !(s.cell ring.val c).due) = true → Completes (.ringRowSend ring) s fun u =>
      ((u.ring ring.val).rows = (s.ring ring.val).rows + 1 ∧ (u.ring ring.val).out = s.rowWords ring.val (s.ring ring.val).rows ∧
        (∀ n, n ≠ ring.val → u.ring n = s.ring n)) ∧
        (∀ c ∈ (s.ring ring.val).rowCells (s.ring ring.val).rows, (u.cell ring.val c).sentCrc = BitVec.ofNat 16 (crc16 (s.frameBytes ring.val c))) ∧
        u = { s with rings := u.rings, flt := u.flt } ∧ NoNewFault s u) ∧
  -- RING_ROW_SEND: with cells due for a retry
  (∀ (s : State) (ring : Fin 64), s.Calm → s.rings.rings.length = 64 → (s.ring ring.val).up = true →
    (s.ring ring.val).rows < (s.ring ring.val).rowCount → s.rings.cairnOn = (s.ring ring.val).cairn →
    s.rowLanded ring.val (s.ring ring.val).rows = true → Completes (.ringRowSend ring) s fun u =>
      (u.ring ring.val).rows = (s.ring ring.val).rows + 1 ∧ (s.rowWords ring.val (s.ring ring.val).rows) <+: (u.ring ring.val).out) ∧
  -- READ_RETURN: any slots of any read: errors are counted, and the hop’s reads and lock follow
  (∀ (s : State) (ring : Fin 64) (kind : Fin 4) (slots : List SlotObs), s.Calm → s.rings.rings.length = 64 → (s.ring ring.val).up = true →
    Completes (.readReturn ring kind slots) s fun u =>
      (u.ring ring.val).wordErrs = ((s.ring ring.val).slotsIn s.time.local_ kind.val slots).1.wordErrs ∧
        (u.ring ring.val).lockB = ((s.ring ring.val).slotsIn s.time.local_ kind.val slots).1.lockB ∧
        (u.ring ring.val).reads = ((s.ring ring.val).slotsIn s.time.local_ kind.val slots).1.reads) ∧
  -- READ_RETURN: KIND 0: a slot whose CRC is that of the codes sent confirms its cell
  (∀ (s : State) (o : SlotObs) (p : SlotObs) (ring : Fin 64), s.Calm → s.rings.rings.length = 64 → (s.ring ring.val).up = true →
    ((s.ring ring.val).slotsIn s.time.local_ 0 [o]).2 = [p] → (s.ring ring.val).reaches p.cell.val = true →
    p.cell.val / 32 < (s.ring ring.val).rows → (s.cell ring.val p.cell.val).confirmed = false →
    (s.cell ring.val p.cell.val).keep = false → (s.cell ring.val p.cell.val).excluded = false → (slotWord p 0).getLsbD 31 = true →
    (slotWord p 0).getLsbD 16 = true → fld (slotWord p 0) 27 24 = 0 →
    fld (slotWord p 0) 15 0 = (s.cell ring.val p.cell.val).sentCrc.toNat → (List.range 48).all (fun e => slotEs p 2 e == 0) = true →
    s.tempOff ring.val p.cell.val (fld (slotWord p 1) 7 0) = false → s.rings.cairnShown = false →
    Completes (.readReturn ring 0 [o]) s fun u =>
      (u.cell ring.val p.cell.val).confirmed = true ∧ (u.cell ring.val p.cell.val).retCrc = (s.cell ring.val p.cell.val).sentCrc ∧
        (u.cell ring.val p.cell.val).silent = 0 ∧ (u.cell ring.val p.cell.val).temp = some (fld (slotWord p 1) 7 0) ∧
        (u.led.dMax = some (match s.led.dMax with
        | some m => max m (s.led.setMv + slotHeadroom p)
        | none => s.led.setMv + slotHeadroom p)) ∧ u = { s with rings := u.rings, led := u.led, flt := u.flt } ∧ NoNewFault s u) ∧
  -- READ_RETURN: KIND 1 in a VF sweep: the result of the round
  (∀ (s : State) (o : SlotObs) (p : SlotObs) (ring : Fin 64), s.Calm → s.rings.rings.length = 64 → (s.ring ring.val).up = true →
    ((s.ring ring.val).slotsIn s.time.local_ 1 [o]).2 = [p] → (s.ring ring.val).reaches p.cell.val = true → s.rings.reading = .vf →
    (slotWord p 0).getLsbD 12 = true → Completes (.readReturn ring 1 [o]) s fun u =>
      sget 0 (48 * (1024 * ring.val + p.cell.val) + s.rings.round) u.rings.vf = BitVec.ofNat 12 (fld (slotWord p 0) 11 0) ∧
        u.rings.cells = s.rings.cells ∧ u = { s with rings := u.rings, flt := u.flt } ∧ NoNewFault s u) ∧
  -- SYNC_ECHO: its own index
  (∀ (s : State) (ring : Fin 64), s.Calm → s.rings.rings.length = 64 → (s.ring ring.val).up = true → ((s.ring ring.val).mode = .ring →
    ((s.ring ring.val).begin s.time.local_).lockB.locked = true) → (s.ring ring.val).echoed = false →
    Completes (.syncEcho ring { index := BitVec.ofNat 6 ring.val, seq := s.rings.seq }) s fun u =>
      (u.ring ring.val = { s.ring ring.val with echoed := true } ∧ (∀ n, n ≠ ring.val → u.ring n = s.ring n)) ∧
        u = { s with rings := u.rings, flt := u.flt } ∧ NoNewFault s u) ∧
  -- SYNC_ECHO: another ring’s index: RING_CROSSED
  (∀ (s : State) (ring : Fin 64) (index : BitVec 6) (seq : BitVec 16), s.Calm → (s.ring ring.val).up = true →
    ((s.ring ring.val).mode = .ring → ((s.ring ring.val).begin s.time.local_).lockB.locked = true) → (s.ring ring.val).echoed = false →
    index.toNat ≠ ring.val → Completes (.syncEcho ring { index := index, seq := seq }) s fun u =>
      u.hasCond 0x60 ring.val = true) ∧
  -- SYNC_ECHO: its own index with another SEQ is not the echo
  (∀ (s : State) (ring : Fin 64) (seq : BitVec 16), s.Calm → (s.ring ring.val).up = true → seq ≠ s.rings.seq →
    Completes (.syncEcho ring { index := BitVec.ofNat 6 ring.val, seq := seq }) s fun u =>
      u = s) ∧
  -- SYNC_ECHO: without word lock PXI receives none
  (∀ (s : State) (ring : Fin 64) (echo : EchoObs), s.Calm → (s.ring ring.val).mode = .ring →
    ((s.ring ring.val).begin s.time.local_).lockB.locked = false → Completes (.syncEcho ring echo) s fun u =>
      u = s) ∧
  -- LATCH_LAUNCH: RING mode
  (∀ (s : State) (codes : Bool) (ring : Fin 64), s.Calm → s.rings.rings.length = 64 → (s.ring ring.val).mode = .ring →
    (s.ring ring.val).decided = some codes → (s.ring ring.val).outA = false → s.signDue = false →
    s.launchDue (s.ring ring.val).wNs = true → Completes (.latchLaunch ring) s fun u =>
      ((u.ring ring.val).launched = some codes ∧ (u.ring ring.val).decided = none ∧ (u.ring ring.val).out = [(true, latchWord codes)] ∧
        (∀ n, n ≠ ring.val → u.ring n = s.ring n)) ∧ u = { s with rings := u.rings, flt := u.flt } ∧ NoNewFault s u) ∧
  -- LATCH_LAUNCH: Hinge mode, both arcs due
  (∀ (s : State) (codes : Bool) (ring : Fin 64), s.Calm → s.rings.rings.length = 64 → (s.ring ring.val).mode = .hinge →
    (s.ring ring.val).aLast.isSome = true → (s.ring ring.val).bFirst.isSome = true → (s.ring ring.val).decided = some codes →
    (s.ring ring.val).outA = false → (s.ring ring.val).outB = false → s.signDue = false → s.launchDue (s.ring ring.val).wNs = true →
    s.launchDue (s.ring ring.val).wB = true → Completes (.latchLaunch ring) s fun u =>
      ((u.ring ring.val).launched = some codes ∧ (u.ring ring.val).decided = none ∧
        (u.ring ring.val).out = [(true, latchWord codes), (false, latchWord codes)] ∧ (∀ n, n ≠ ring.val → u.ring n = s.ring n)) ∧
        u = { s with rings := u.rings, flt := u.flt } ∧ NoNewFault s u) ∧
  -- LATCH_LAUNCH: Hinge mode, the arc with the higher W goes first
  (∀ (s : State) (codes : Bool) (ring : Fin 64), s.Calm → s.rings.rings.length = 64 → (s.ring ring.val).mode = .hinge →
    (s.ring ring.val).aLast.isSome = true → (s.ring ring.val).bFirst.isSome = true → (s.ring ring.val).decided = some codes →
    (s.ring ring.val).outA = false → (s.ring ring.val).outB = false → s.signDue = false → s.launchDue (s.ring ring.val).wNs = true →
    s.launchDue (s.ring ring.val).wB = false → Completes (.latchLaunch ring) s fun u =>
      ((u.ring ring.val).launched = none ∧ (u.ring ring.val).decided = some codes ∧ (u.ring ring.val).outA = true ∧
        (u.ring ring.val).out = [(true, latchWord codes)] ∧ (∀ n, n ≠ ring.val → u.ring n = s.ring n)) ∧
        u = { s with rings := u.rings, flt := u.flt } ∧ NoNewFault s u) ∧
  -- CAIRN_LATCH
  (∀ (s : State), s.Calm → s.rings.cairnOn = true → s.rings.cairnLatched = false → s.cairnStreamed = true →
    Completes .cairnLatch s fun u =>
      u.rings.cairnLatched = true ∧ u.rings.cairnShown = true ∧ (∀ k, k < 64 → (s.ring k).up = true →
        (u.ring k).driveShown = List.replicate 3 s.rings.cairnLevel) ∧ u = { s with rings := u.rings, flt := u.flt } ∧ NoNewFault s u) ∧
  -- CAIRN_RESTREAM: the plane in SRAM is good
  (∀ (s : State) (upsets : List (Fin 65536 × BitVec 32)), s.Calm → s.rings.cairnOn = true → s.rings.cairnLatched = true →
    s.led.on = false → (s.rings.upset upsets).sramGood = true → Completes (.cairnRestream upsets) s fun u =>
      u.rings.monOk = true ∧ u.rings.refreshes = min 65535 (s.rings.refreshes + 1) ∧ u.rings.cairnLatched = false ∧ NoNewFault s u ∧
        (∀ k, k < 64 → (s.ring k).up = true → (u.ring k).rows = 0 ∧ (u.ring k).cairn = true) ∧ u.rings.sram = (s.rings.upset upsets).sram) ∧
  -- CAIRN_RESTREAM: with the rail on it is evaluated too
  (∀ (s : State) (upsets : List (Fin 65536 × BitVec 32)), s.Calm → s.rings.cairnOn = true → s.rings.cairnLatched = true →
    (s.rings.upset upsets).sramGood = true → Completes (.cairnRestream upsets) s fun u =>
      u.rings.refreshes = min 65535 (s.rings.refreshes + 1) ∧ u.rings.sram = (s.rings.upset upsets).sram) ∧
  -- CAIRN_RESTREAM: the plane in SRAM is not good
  (∀ (s : State) (upsets : List (Fin 65536 × BitVec 32)), s.Calm → s.rings.cairnOn = true → s.rings.cairnLatched = true →
    (s.rings.upset upsets).sramGood = false → Completes (.cairnRestream upsets) s fun u =>
      u.rings.monOk = false ∧ u.rings.refreshes = s.rings.refreshes ∧ u.rings.sram = (s.rings.upset upsets).sram) ∧
  -- CAIRN_COMPLETION_DEADLINE
  (∀ (s : State) (ring : Fin 64), s.Calm → s.rings.cairnOn = true → (s.ring ring.val).up = true → s.ringComplete ring.val = false →
    Completes (.cairnCompletionDeadline ring) s fun u =>
      u.rings.monOk = false) ∧
  -- VF_SWEEP_START
  (∀ (s : State) (src : Source) (w : Word), s.Calm → s.canAccess src = true → s.accessLegal src true (0x2448) = true →
    (s.eng.st = .dark ∨ s.eng.st = .lit) → s.rings.cairnOn = false → s.rings.sweep = .none → Completes (.vfSweepStart src w) s fun u =>
      u.acc = some { source := src, addr := 0x2448, data := 0, status := 0 } ∧
        u.rings = { s.rings with sweep := .vf, interval := max 1 (w.toNat / 4 % 256), toNext := 0, rounds := 0, sent := none, measFresh := false } ∧
        u = { s with rings := u.rings, acc := u.acc, flt := u.flt } ∧ NoNewFault s u) ∧
  -- OS_SWEEP_START
  (∀ (s : State) (src : Source) (w : Word), s.Calm → s.canAccess src = true → s.accessLegal src true (0x2448) = true →
    (s.eng.st = .dark ∨ s.eng.st = .lit) → s.rings.cairnOn = false → s.rings.sweep = .none → Completes (.osSweepStart src w) s fun u =>
      u.acc = some { source := src, addr := 0x2448, data := 0, status := 0 } ∧
        u.rings = { s.rings with sweep := .os, interval := max 1 (w.toNat / 4 % 256), toNext := 0, rounds := 0, sent := none, measFresh := false } ∧
        u = { s with rings := u.rings, acc := u.acc, flt := u.flt } ∧ NoNewFault s u) ∧
  -- OS_SWEEP_START: while a sweep runs
  (∀ (s : State) (src : Source) (w : Word), s.Calm → s.canAccess src = true → s.accessLegal src true 0x2448 = true →
    (s.eng.st = .dark ∨ s.eng.st = .lit) → s.rings.cairnOn = false → s.rings.sweep ≠ .none → Completes (.osSweepStart src w) s fun u =>
      u.acc = some { source := src, addr := 0x2448, data := 0, status := 0x06 } ∧ u = { s with acc := u.acc, flt := u.flt } ∧
        NoNewFault s u) ∧
  -- SWEEP_STOP
  (∀ (s : State) (src : Source) (w : Word), s.Calm → s.canAccess src = true → s.accessLegal src true (0x2448) = true →
    s.rings.sweep ≠ .none → s.losers 19 = [] → Completes (.sweepStop src w) s fun u =>
      u.acc = some { source := src, addr := 0x2448, data := 0, status := 0 } ∧ u.rings = { s.rings with sweep := .none, sent := none } ∧
        u = { s with rings := u.rings, tum := u.tum, acc := u.acc, flt := u.flt } ∧ NoNewFault s u) ∧
  -- CLR_RT_FENCE
  (∀ (s : State) (src : Source) (w : Word), s.Calm → s.canAccess src = true → s.accessLegal src true (0x2400) = true →
    isService src = true → Completes (.clrRtFence src w) s fun u =>
      u.acc = some { source := src, addr := 0x2400, data := 0, status := 0 } ∧ (u.col.rtFence = [] ∧ u.rings.ctrl = w &&& 0xD ∧
        (∀ c ∈ u.rings.cells, c.2.fencedEm = [])) ∧
        u = { s with dram := u.dram, col := u.col, rings := u.rings, acc := u.acc, flt := u.flt } ∧ NoNewFault s u) ∧
  -- RING_SIG_CNT
  (∀ (s : State) (src : Source), s.Calm → s.canAccess src = true → s.accessLegal src false (0x2440) = true →
    Completes (.ringSigCnt src true) s fun u =>
      u.rings = { s.rings with sigFresh := false } ∧ (u.per src).sigLo = s.rings.sigShown.value.truncate 32 ∧
        (u.per src).sigHi = (s.rings.sigShown.value >>> 32).truncate 32 ∧ (u.per src).sigFlip = s.rings.sigShown.flip ∧
        (∃ d, u.acc = some { source := src, addr := 0x2440, data := d, status := 0 } ∧ d.getLsbD 31 = s.rings.sigFresh ∧
        d.getLsbD 30 = !s.rings.sigBusy ∧ d.toNat % 2 ^ 17 = min 131071 s.rings.sigShown.conf) ∧
        u = { s with rings := u.rings, sel := u.sel, acc := u.acc, flt := u.flt } ∧ NoNewFault s u)

/-- Ring breaks: detection, locating, Hinge mode and its end, the enumeration of silent cells -/
def Obligations.RingBreaksComplete : Prop :=
  -- BREAK_DETECT
  (∀ (s : State) (ring : Fin 64), s.Calm → s.rings.rings.length = 64 → (s.ring ring.val).up = true →
    Completes (.breakDetect ring) s fun u =>
      (u.ring ring.val).up = false ∧ u.hasCond 0x62 ring.val = true) ∧
  -- LOCATE_COMPLETE: neither end reaches a cell: the ring is LOST
  (∀ (s : State) (ring : Fin 64) (obs : LocateObs), s.Calm → s.rings.rings.length = 64 → (s.ring ring.val).mode = .locating →
    obs.aLast = none → obs.bFirst = none → Completes (.locateComplete ring obs) s fun u =>
      (u.ring ring.val).mode = .lost ∧ u.hasCond 0x61 ring.val = true) ∧
  -- LOCATE_COMPLETE: the two arcs meet: Hinge mode without unreachable cells
  (∀ (s : State) (a : Fin 1024) (b : Fin 1024) (ring : Fin 64) (obs : LocateObs), s.Calm → s.rings.rings.length = 64 →
    (s.ring ring.val).mode = .locating → obs.aLast = some a → obs.bFirst = some b → b.val = a.val + 1 → s.losers 17 = [] →
    Completes (.locateComplete ring obs) s fun u =>
      (u.ring ring.val).mode = .hinge ∧ (u.ring ring.val).aLast = some a.val ∧ (u.ring ring.val).bFirst = some b.val ∧
        (u.ring ring.val).rows = 0 ∧ (u.ring ring.val).resend = true ∧ (u.ring ring.val).rtNs = obs.rtA.toNat ∧
        ((∀ c, (u.ring ring.val).n ≤ 1024 → c < 1024 → (u.ring ring.val).reaches c = true) ∧ u.hasCond 0x63 ring.val = false ∧
        (∀ n, n ≠ ring.val → u.ring n = s.ring n)) ∧ u = { s with rings := u.rings, tum := u.tum, flt := u.flt } ∧ NoNewFault s u) ∧
  -- LOCATE_COMPLETE: cells between the arcs that neither end reaches
  (∀ (s : State) (a : Fin 1024) (b : Fin 1024) (ring : Fin 64) (obs : LocateObs), s.Calm → s.rings.rings.length = 64 →
    (s.ring ring.val).mode = .locating → obs.aLast = some a → obs.bFirst = some b → a.val + 1 < b.val →
    Completes (.locateComplete ring obs) s fun u =>
      (u.ring ring.val).mode = .hinge ∧ (u.ring ring.val).aLast = some a.val ∧ (u.ring ring.val).bFirst = some b.val ∧
        u.hasCond 0x63 ring.val = true) ∧
  -- RESTORE_PROBE
  (∀ (s : State) (ring : Fin 64) (reaches echo : Bool), s.Calm → s.rings.rings.length = 64 → (s.ring ring.val).mode = .hinge →
    s.rings.ctrl.getLsbD 0 = true → Completes (.restoreProbe ring { reaches := reaches, echo := echo }) s fun u =>
      ((u.ring ring.val).mode = .hinge ∧ (u.ring ring.val).restoreDue = ((s.ring ring.val).restoreDue || (reaches && echo)) ∧
        (u.ring ring.val).out = (s.ring ring.val).restoreWords ring.val s.rings.seq.toNat reaches echo ∧ (∀ n, n ≠ ring.val →
        u.ring n = s.ring n)) ∧ u = { s with rings := u.rings, flt := u.flt } ∧ NoNewFault s u) ∧
  -- CELL_REENUM: every cell answers but the silent one
  (∀ (s : State) (ring : Fin 64) (found : BitVec 11), s.Calm → s.rings.rings.length = 64 → (s.ring ring.val).mode = .ring →
    (List.range (min 1024 (s.ring ring.val).n)).any (fun c => (s.cell ring.val c).isSilent && (s.cell ring.val c).silent == 1) = true →
    found.toNat = (s.ring ring.val).expect → Completes (.cellReenum ring [] found) s fun u =>
      ((u.ring ring.val).found = found.toNat ∧ (u.ring ring.val).n = found.toNat ∧ u.hasCond 0x64 ring.val = false ∧
        u.rings.cells = s.rings.cells ∧ (∀ n, n ≠ ring.val → u.ring n = s.ring n)) ∧ u = { s with rings := u.rings, flt := u.flt } ∧
        NoNewFault s u) ∧
  -- CELL_REENUM: another count: RING_COUNT
  (∀ (s : State) (ring : Fin 64) (found : BitVec 11), s.Calm → s.rings.rings.length = 64 → (s.ring ring.val).mode = .ring →
    (List.range (min 1024 (s.ring ring.val).n)).any (fun c => (s.cell ring.val c).isSilent && (s.cell ring.val c).silent == 1) = true →
    found.toNat ≠ (s.ring ring.val).expect → Completes (.cellReenum ring [] found) s fun u =>
      (u.ring ring.val).found = found.toNat ∧ (u.ring ring.val).n = min found.toNat (s.ring ring.val).expect ∧
        u.hasCond 0x64 ring.val = true) ∧
  -- CELL_REENUM: silent cells that answer again
  (∀ (s : State) (ring : Fin 64) (answered : List (Fin 1024)) (found : BitVec 11), s.Calm → s.rings.rings.length = 64 →
    (s.ring ring.val).mode = .ring → (List.range (min 1024 (s.ring ring.val).n)).any (fun c =>
    (s.cell ring.val c).isSilent && (s.cell ring.val c).silent == 1) = true → Completes (.cellReenum ring answered found) s fun u =>
      (u.ring ring.val).found = found.toNat ∧ (u.ring ring.val).n = min found.toNat (s.ring ring.val).expect)

/-- LED supply: the start of the rail, its evaluation, its protection and its limits -/
def Obligations.LedSupplyCompletes : Prop :=
  -- RAIL_RAMP_END: in regulation
  (∀ (s : State) (vledMv : BitVec 13), s.Calm → s.led.on = true → s.led.starting = true → s.refNow = s.led.setMv →
    s.refNow ≤ vledMv.toNat + 50 → vledMv.toNat ≤ s.refNow + 50 → s.saf.ssgAsked = false → Completes (.railRampEnd vledMv) s fun u =>
      u.led.regOk = true ∧ u.led.starting = false ∧ u.led.peakA = 14 ∧ u.led.vledMv = vledMv.toNat ∧ u.led.setMv = s.led.setMv ∧
        u.led.on = true ∧ u = { s with led := u.led, flt := u.flt } ∧ NoNewFault s u) ∧
  -- RAIL_RAMP_END: out of regulation: the peak limit and the control loop follow all the same
  (∀ (s : State) (vledMv : BitVec 13), s.Calm → s.led.on = true → s.led.starting = true → s.refNow = s.led.setMv →
    (vledMv.toNat + 50 < s.refNow ∨ s.refNow + 50 < vledMv.toNat) → Completes (.railRampEnd vledMv) s fun u =>
      u.led.vledMv = vledMv.toNat ∧ u.led.regOk = false ∧ u.led.starting = false ∧ u.led.startWait = true ∧ u.led.peakA = 14 ∧
        u.led.setMv = s.led.setMv ∧ u.led.on = true ∧ u = { s with led := u.led, flt := u.flt } ∧ NoNewFault s u) ∧
  -- RAIL_RAMP_END: in regulation, and the sign waits for the rail
  (∀ (s : State) (vledMv : BitVec 13), s.Calm → s.led.on = true → s.led.starting = true → s.refNow = s.led.setMv →
    s.refNow ≤ vledMv.toNat + 50 → vledMv.toNat ≤ s.refNow + 50 → s.saf.ssgAsked = true → s.saf.func = some .ssg → s.rings.sramOk = true →
    Completes (.railRampEnd vledMv) s fun u =>
      u.led.regOk = true ∧ u.led.starting = false ∧ u.led.peakA = 14 ∧ u.led.vledMv = vledMv.toNat ∧ u.rings.cairnOn = true ∧
        u.rings.monOk = true) ∧
  -- RAIL_START_TIMEOUT: the ramp has not ended, or VLED is not within 50 mV: below 1 V
  (∀ (s : State) (vledMv : BitVec 13), s.Calm → s.led.on = true → s.led.startWait = true →
    (s.led.starting = true ∨ vledMv.toNat + 50 < s.refNow ∨ s.refNow + 50 < vledMv.toNat) → vledMv.toNat < 1000 →
    Completes (.railStartTimeout vledMv) s fun u =>
      u.led.vledMv = vledMv.toNat ∧ u.led.startWait = false ∧ u.led.regOk = false ∧ u.hasCond 0x71 0 = true) ∧
  -- RAIL_START_TIMEOUT: the ramp has not ended, or VLED is not within 50 mV: 1 V or more
  (∀ (s : State) (vledMv : BitVec 13), s.Calm → s.led.on = true → s.led.startWait = true →
    (s.led.starting = true ∨ vledMv.toNat + 50 < s.refNow ∨ s.refNow + 50 < vledMv.toNat) → 1000 ≤ vledMv.toNat →
    Completes (.railStartTimeout vledMv) s fun u =>
      u.led.vledMv = vledMv.toNat ∧ u.led.startWait = false ∧ u.led.regOk = false ∧ u.hasCond 0x72 0 = true) ∧
  -- RAIL_START_TIMEOUT: VLED has come within 50 mV meanwhile
  (∀ (s : State) (vledMv : BitVec 13), s.Calm → s.led.on = true → s.led.startWait = true → s.led.starting = false →
    s.refNow ≤ vledMv.toNat + 50 → vledMv.toNat ≤ s.refNow + 50 → s.saf.ssgAsked = false → Completes (.railStartTimeout vledMv) s fun u =>
      u.led = { s.led with vledMv := vledMv.toNat, startWait := false, regOk := true } ∧ u = { s with led := u.led, flt := u.flt } ∧
        NoNewFault s u) ∧
  -- LED_EVAL_TIMEOUT: a rise within the limits
  (∀ (s : State) (d : Int), s.Calm → s.running = true → s.rings.cairnOn = false → s.led.on = true → s.led.starting = false →
    s.led.fixed = false → s.led.uvHeld = false → s.led.adcHeld = false → s.led.ocpHeld = false → s.led.dMax = some d →
    (s.led.setMv : Int) ≤ d + s.led.marginMv → (s.led.vminMv : Int) ≤ d + s.led.marginMv → d + s.led.marginMv ≤ (s.led.vmaxMv : Int) →
    Completes .ledEvalTimeout s fun u =>
      (u.led.setMv : Int) = d + s.led.marginMv ∧ u.led.dMax = none ∧ u.led.shortfall = false ∧ u.led.regOk = s.led.regOk ∧
        u = { s with led := u.led, rings := u.rings, flt := u.flt } ∧ NoNewFault s u) ∧
  -- LED_EVAL_TIMEOUT: a new shortfall
  (∀ (s : State) (d : Int), s.Calm → s.running = true → s.rings.cairnOn = false → s.led.on = true → s.led.starting = false →
    s.led.shortfall = false → s.led.dMax = some d → (s.led.vmaxMv : Int) < d + s.led.marginMv → Completes .ledEvalTimeout s fun u =>
      u.led.shortfall = true ∧ u.hasCond 0x78 0 = true) ∧
  -- LED_EVAL_TIMEOUT: a fall: at most 50 mV, and not below the demand
  (∀ (s : State) (d : Int) (t : Nat), s.Calm → s.running = true → s.rings.cairnOn = false → s.led.on = true → s.led.starting = false →
    s.led.fixed = false → s.led.uvHeld = false → s.led.adcHeld = false → s.led.ocpHeld = false → s.led.dMax = some d →
    (t : Int) = d + s.led.marginMv → s.led.vminMv ≤ t → t ≤ s.led.vmaxMv → t + 20 ≤ s.led.setMv → s.allIn = true →
    Completes .ledEvalTimeout s fun u =>
      u.led.setMv = max t (s.led.setMv - 50) ∧ u.led.dMax = none ∧ u.led.shortfall = false ∧
        u = { s with led := u.led, rings := u.rings, flt := u.flt } ∧ NoNewFault s u) ∧
  -- LED_EVAL_TIMEOUT: the set point is held, or has no demand to follow
  (∀ (s : State), s.Calm → s.running = true → s.rings.cairnOn = false → s.led.on = true → s.led.starting = false →
    ((s.led.uvHeld || s.led.adcHeld || s.led.ocpHeld) = true ∨ (s.led.dMax = none ∧ s.led.fixed = false)) →
    Completes .ledEvalTimeout s fun u =>
      u.led.setMv = s.led.setMv ∧ u.led.dMax = none ∧ u.led.on = true) ∧
  -- LED_EVAL_TIMEOUT: the rail is off or starting
  (∀ (s : State), s.Calm → s.running = true → s.rings.cairnOn = false → (s.led.on = false ∨ s.led.starting = true) →
    Completes .ledEvalTimeout s fun u =>
      u = { s with flt := u.flt } ∧ u = { s with flt := u.flt } ∧ NoNewFault s u) ∧
  -- RAIL_OV
  (∀ (s : State), s.Calm → s.running = true → Completes .railOv s fun u =>
      u.led.on = false ∧ u.led.setMv = 0 ∧ u.led.regOk = false ∧ u.hasCond 0x70 0 = true) ∧
  -- RAIL_OCP
  (∀ (s : State) (phase : Fin 4), s.Calm → s.led.uses phase = true → Completes (.railOcp phase) s fun u =>
      u.led.ocp = min 255 (s.led.ocp + 1) ∧ u.hasCond 0x79 phase.val = true) ∧
  -- RAIL_OCP_SUSTAINED
  (∀ (s : State) (phase : Fin 4), s.Calm → s.led.uses phase = true → Completes (.railOcpSustained phase) s fun u =>
      u.led.ocpHeld = true ∧ u.hasCond 0x73 phase.val = true) ∧
  -- PHASE_IMBALANCE
  (∀ (s : State) (phase : Fin 4), s.Calm → s.led.uses phase = true → 1 < s.led.inUse → Completes (.phaseImbalance phase) s fun u =>
      u.led.disabled = s.led.disabled ||| BitVec.ofNat 4 (2 ^ phase.val) ∧ u.hasCond 0x74 phase.val = true) ∧
  -- RAIL_UV
  (∀ (s : State), s.Calm → s.led.on = true → Completes .railUv s fun u =>
      u.led.uv = min 255 (s.led.uv + 1) ∧ u.hasCond 0x75 0 = true) ∧
  -- RAIL_UV_HOLD
  (∀ (s : State), s.Calm → s.led.on = true → s.hasCond 0x75 0 = true → Completes .railUvHold s fun u =>
      u.led = { s.led with uvHeld := true } ∧ u = { s with led := u.led, flt := u.flt } ∧ NoNewFault s u) ∧
  -- RAIL_SENSE
  (∀ (s : State), s.Calm → s.led.on = true → Completes .railSense s fun u =>
      u.led.onLocal = true ∧ u.hasCond 0x76 0 = true) ∧
  -- ADC_SELFCHECK
  (∀ (s : State), s.Calm → s.running = true → Completes .adcSelfcheck s fun u =>
      u.led.adcHeld = true ∧ u.hasCond 0x77 0 = true) ∧
  -- POWER_LIMIT_STEP: above the limit: one step down, and every level below the new ceiling
  (∀ (s : State) (p100mw : BitVec 12), s.Calm → s.running = true → s.led.limit100mw < p100mw.toNat → 8 < s.led.kPower →
    s.led.kPower < 32 → s.rings.cairnOn = false → s.rings.rings.length = 64 → s.rings.rings.all (fun r => r.launched.isNone) = true →
    s.losers 16 = [] → Completes (.powerLimitStep p100mw) s fun u =>
      u.led = { s.led with p100mw := p100mw.toNat, lowDwell := 0, kPower := s.led.kPower - 1, plimSteps := min 255 (s.led.plimSteps + 1) } ∧
        (∀ k c, k < 64 → c < 3 → (s.ring k).up = true → (u.ring k).driveShown.getD c 0 ≤ 191 * (s.led.kPower - 1) / 32 ∧
        (u.ring k).driveShown.getD c 0 ≤ (s.ring k).driveShown.getD c 0) ∧
        u = { s with led := u.led, tum := u.tum, rings := u.rings, flt := u.flt } ∧ NoNewFault s u) ∧
  -- POWER_LIMIT_STEP: at or below 95 % twice in a row: one step up
  (∀ (s : State) (p100mw : BitVec 12), s.Calm → s.running = true → 100 * p100mw.toNat ≤ 95 * s.led.limit100mw → 1 ≤ s.led.lowDwell →
    s.led.kPower < 32 → s.losers 16 = [] → Completes (.powerLimitStep p100mw) s fun u =>
      u.led.kPower = s.led.kPower + 1 ∧ u.led.p100mw = p100mw.toNat ∧ u.led.plimSteps = min 255 (s.led.plimSteps + 1) ∧
        u = { s with led := u.led, tum := u.tum, flt := u.flt } ∧ NoNewFault s u) ∧
  -- POWER_LIMIT_STEP: the first step down
  (∀ (s : State) (p100mw : BitVec 12), s.Calm → s.running = true → s.led.limit100mw < p100mw.toNat → s.led.kPower = 32 →
    Completes (.powerLimitStep p100mw) s fun u =>
      u.led.p100mw = p100mw.toNat ∧ u.led.lowDwell = 0 ∧ u.led.kPower = 31 ∧ u.led.plimSteps = min 255 (s.led.plimSteps + 1) ∧
        u.hasCond 0x7A 0 = true) ∧
  -- POWER_LIMIT_STEP: above the limit at the lowest level
  (∀ (s : State) (p100mw : BitVec 12), s.Calm → s.running = true → s.led.limit100mw < p100mw.toNat → s.led.kPower ≤ 8 →
    Completes (.powerLimitStep p100mw) s fun u =>
      u.led = { s.led with p100mw := p100mw.toNat, lowDwell := 0 } ∧ u = { s with led := u.led, flt := u.flt } ∧ NoNewFault s u) ∧
  -- POWER_LIMIT_STEP: at or below 95 % for the first time, or at the full level
  (∀ (s : State) (p100mw : BitVec 12), s.Calm → s.running = true → 100 * p100mw.toNat ≤ 95 * s.led.limit100mw →
    (s.led.lowDwell = 0 ∨ 32 ≤ s.led.kPower) → Completes (.powerLimitStep p100mw) s fun u =>
      u.led = { s.led with p100mw := p100mw.toNat, lowDwell := s.led.lowDwell + 1 } ∧ u = { s with led := u.led, flt := u.flt } ∧
        NoNewFault s u) ∧
  -- POWER_LIMIT_STEP: between 95 % of the limit and the limit
  (∀ (s : State) (p100mw : BitVec 12), s.Calm → s.running = true → 95 * s.led.limit100mw < 100 * p100mw.toNat →
    p100mw.toNat ≤ s.led.limit100mw → Completes (.powerLimitStep p100mw) s fun u =>
      u.led = { s.led with p100mw := p100mw.toNat, lowDwell := 0 } ∧ u = { s with led := u.led, flt := u.flt } ∧ NoNewFault s u) ∧
  -- BOARD_DERATE_STEP: one evaluation of every ring
  (∀ (s : State), s.Calm → s.running = true → Completes .boardDerateStep s fun u =>
      (∀ k, k < 64 → derateTarget (s.therm.rings.getD k {}).t (16 * s.led.kneeC) < (s.led.board.getD k {}).k →
        1 ≤ (s.led.board.getD k {}).downDwell → (u.led.board.getD k {}).k = (s.led.board.getD k {}).k - 1 ∧
        (u.led.board.getD k {}).upDwell = 0 ∧ (u.led.board.getD k {}).steps = min 65535 ((s.led.board.getD k {}).steps + 1)) ∧
        (∀ k, k < 64 → derateTarget (s.therm.rings.getD k {}).t (16 * s.led.kneeC) < (s.led.board.getD k {}).k →
        (s.led.board.getD k {}).downDwell = 0 → (u.led.board.getD k {}).k = (s.led.board.getD k {}).k ∧
        (u.led.board.getD k {}).downDwell = 1) ∧ (∀ k, k < 64 →
        (s.led.board.getD k {}).k ≤ derateTarget (s.therm.rings.getD k {}).t (16 * s.led.kneeC) →
        (s.led.board.getD k {}).k < derateTarget ((s.therm.rings.getD k {}).t + 48) (16 * s.led.kneeC) →
        1 ≤ (s.led.board.getD k {}).upDwell → (u.led.board.getD k {}).k = (s.led.board.getD k {}).k + 1 ∧
        (u.led.board.getD k {}).downDwell = 0 ∧ (u.led.board.getD k {}).steps = min 65535 ((s.led.board.getD k {}).steps + 1)) ∧
        (∀ k, k < 64 → (s.led.board.getD k {}).k ≤ derateTarget (s.therm.rings.getD k {}).t (16 * s.led.kneeC) →
        derateTarget ((s.therm.rings.getD k {}).t + 48) (16 * s.led.kneeC) ≤ (s.led.board.getD k {}).k →
        u.led.board.getD k {} = { s.led.board.getD k {} with downDwell := 0, upDwell := 0 })) ∧
  -- BOARD_DERATE_STEP: the levels stay in range, move by one step at most, and nothing else changes
  (∀ (s : State), s.Calm → s.running = true → s.losers 16 = [] → (s.led.board.all (fun b => decide (8 ≤ b.k ∧ b.k ≤ 32)) = true) →
    Completes .boardDerateStep s fun u =>
      (∀ k, k < 64 → 8 ≤ (u.led.board.getD k {}).k ∧ (u.led.board.getD k {}).k ≤ 32 ∧
        (u.led.board.getD k {}).k ≤ (s.led.board.getD k {}).k + 1 ∧ (s.led.board.getD k {}).k ≤ (u.led.board.getD k {}).k + 1) ∧
        u = { s with led := u.led, tum := u.tum, rings := u.rings, flt := u.flt } ∧ NoNewFault s u)

/-- Temperature: failed sensors, the evaluation with its throttling, thresholds and shutdown, self-trim -/
def Obligations.TemperatureCompletes : Prop :=
  -- DIE_SENSOR_FAIL
  (∀ (s : State) (sensor : Fin 12) (reading : Int), s.Calm → s.running = true → s.therm.failed.getLsbD sensor.val = false →
    s.therm.sensorBad sensor.val reading = true → Completes (.dieSensorFail sensor reading) s fun u =>
      u.therm = { s.therm with sensors := s.therm.sensors.set sensor.val reading, failed := s.therm.failed ||| BitVec.ofNat 12 (2 ^ sensor.val) } ∧
        u.hasCond 0x85 sensor.val = true) ∧
  -- THERMAL_EVALUATION: whatever the sensors read
  (∀ (s : State) (obs : ThermObs), s.Calm → s.running = true → obs.sensors.length = 12 → Completes (.thermalEvaluation obs) s fun u =>
      u.therm.pdie = obs.pdie ∧ u.therm.sensors = obs.sensors ∧ u.therm.hist.length ≤ 17 ∧ (∀ i, i < 12 →
        u.therm.failed.getLsbD i = (s.therm.failed.getLsbD i || decide (obs.sensors.getD i 0 < -800 ∨ 2560 < obs.sensors.getD i 0))) ∧
        ((s.therm.pdieLimit = true ∨ s.therm.rings.any (fun r => r.rise) = true) → 8 < s.therm.kThr → u.therm.kThr = s.therm.kThr - 1) ∧
        (s.therm.dieRise = true → u.therm.skip = min 8 (s.therm.skip + 1))) ∧
  -- THERMAL_EVALUATION: no sensor fails, and no injected fault reacts
  (∀ (s : State) (obs : ThermObs), s.Calm → s.running = true → s.allHalted = true → 8 ≤ s.therm.kThr → s.therm.kThr ≤ 32 →
    s.therm.skip ≤ 8 → s.therm.outOfRange obs.sensors = 0 → s.injects 0x81 = false → s.injects 0x84 = false →
    Completes (.thermalEvaluation obs) s fun u =>
      u.therm.pdie = obs.pdie ∧ 8 ≤ u.therm.kThr ∧ u.therm.kThr ≤ 32 ∧ u.therm.skip ≤ 8 ∧ u.therm.hist.length ≤ 17 ∧
        (s.therm.pdieLimit = true → u.therm.kThr = max 8 (s.therm.kThr - 1)) ∧ (s.therm.pdieLimit = false →
        (s.therm.rings.take 64).any (fun r => r.rise) = false → 1 ≤ s.therm.thrHeld → u.therm.kThr = min 32 (s.therm.kThr + 1)) ∧
        (s.therm.dieRise = true → u.therm.skip = min 8 (s.therm.skip + 1)) ∧ (s.therm.dieRise = false → s.therm.dieLimit = false →
        u.therm.skip = s.therm.skip - 1) ∧ u = { s with therm := u.therm, tum := u.tum, rings := u.rings, flt := u.flt } ∧ NoNewFault s u) ∧
  -- NTC_CROSSCHECK_FAIL
  (∀ (s : State) (ntc : Fin 8), s.Calm → s.running = true → s.therm.ntcs.length = 8 → s.therm.ntcUsable ntc.val = true →
    (s.therm.rings.getD (s.therm.ntcRing ntc.val).1 {}).source = 0 →
    160 < ((s.therm.ntcs.getD ntc.val {}).t - (s.therm.rings.getD (s.therm.ntcRing ntc.val).1 {}).t).natAbs →
    Completes (.ntcCrosscheckFail ntc) s fun u =>
      (u.therm.ntcs.getD ntc.val {}).failed = true ∧ (u.therm.ntcs.getD ntc.val {}).used = false ∧
        u.hasCond 0x85 (0x200 + ntc.val) = true) ∧
  -- THRESHOLD_CROSSING: up, without a shutdown
  (∀ (s : State) (q : ThermQty) (value : Int), s.Calm → s.running = true → s.therm.rings.length = 64 → q ≠ .dieShut → q ≠ .pdieShut →
    s.therm.crossed q = false → s.crosses q true value = true → Completes (.thresholdCrossing q true value) s fun u =>
      u.therm.crossed q = true ∧ u.hasCond (thermSource q).1 (thermSource q).2 = true) ∧
  -- THRESHOLD_CROSSING: T_die has risen by 20 °C in 4 s
  (∀ (s : State) (d : Int) (value : Int), s.Calm → s.running = true → s.therm.dieRise = false → s.therm.dieRise4 = some d → 320 ≤ d →
    Completes (.thresholdCrossing .dieRise true value) s fun u =>
      u.therm.dieRise = true ∧ u.hasCond 0x84 0xFF = true) ∧
  -- THRESHOLD_CROSSING: no rate crosses before one is formed
  (∀ (s : State) (value : Int), s.Calm → s.therm.dieRise4 = none → Completes (.thresholdCrossing .dieRise true value) s fun u =>
      u = s) ∧
  -- THRESHOLD_CROSSING: released
  (∀ (s : State) (q : ThermQty) (value : Int), s.Calm → s.running = true → s.therm.rings.length = 64 → s.therm.crossed q = true →
    s.crosses q false value = true → Completes (.thresholdCrossing q false value) s fun u =>
      u.therm.crossed q = false ∧ u.hasCond (thermSource q).1 (thermSource q).2 = false ∧ u = { s with therm := u.therm, flt := u.flt } ∧
        NoNewFault s u) ∧
  -- THRESHOLD_CROSSING: the shutdown threshold: gates off, no new store, a trim run cut short
  (∀ (s : State) (value : Int), s.Calm → s.running = true → s.therm.dieShut = false → 2160 ≤ value →
    Completes (.thresholdCrossing .dieShut true value) s fun u =>
      u.led.on = false ∧ u.pwr.noNewStore = true ∧ u.therm.trimBusy = false ∧ u.hasCond 0x82 0 = true ∧ u.eng.shutting = true) ∧
  -- THERM_TRIM_CTRL
  (∀ (s : State) (src : Source) (w : Word), s.Calm → s.canAccess src = true → s.accessLegal src true (0x2C48) = true →
    Completes (.thermTrimCtrl src w) s fun u =>
      u.acc = some { source := src, addr := 0x2C48, data := 0, status := 0 } ∧ u.therm = { s.therm with trimAsked := true } ∧
        u = { s with therm := u.therm, acc := u.acc, flt := u.flt } ∧ NoNewFault s u) ∧
  -- TRIM_DAILY
  (∀ (s : State), s.Calm → s.running = true → Completes .trimDaily s fun u =>
      u.therm = { s.therm with trimAsked := true } ∧ u = { s with therm := u.therm, flt := u.flt } ∧ NoNewFault s u) ∧
  -- T_DIE_MOVE
  (∀ (s : State), s.Calm → s.running = true → 128 ≤ (s.therm.tDie - s.therm.tAtRun).natAbs → Completes .tDieMove s fun u =>
      u.therm = { s.therm with trimAsked := true } ∧ u = { s with therm := u.therm, flt := u.flt } ∧ NoNewFault s u) ∧
  -- SELF_TRIM_START
  (∀ (s : State), s.Calm → s.running = true → s.therm.trimAsked = true → s.therm.trimBusy = false → s.eng.st ≠ .service →
    s.eng.shutting = false → Completes .selfTrimStart s fun u =>
      u.therm = { s.therm with trimAsked := false, trimBusy := true, trimFresh := false, trimStartT := s.therm.tDie } ∧
        u = { s with therm := u.therm, flt := u.flt } ∧ NoNewFault s u) ∧
  -- SELF_TRIM_COMPLETE: no block rejected
  (∀ (s : State) (trims : List (Int × Bool)), s.Calm → s.therm.trimBusy = true → s.therm.trimPending = false →
    (List.range 10).all (fun i => !trimRejects (s.therm.trims.getD i 0) (trims.getD i (0, true))) = true →
    Completes (.selfTrimComplete trims) s fun u =>
      u.therm.trimBusy = false ∧ u.therm.trimPending = true ∧ u.therm.trimCode = 0 ∧ u.therm.trimRejected = 0 ∧
        u.therm.trims = s.therm.trims ∧ u.therm.tAtRun = s.therm.trimStartT ∧ ((∀ i, i < 8 →
        u.therm.trimNew.getD i 0 = (trims.getD i (0, true)).1) ∧ (∀ i, i < 10 →
        (u.therm.trimNew.getD i 0 - s.therm.trims.getD i 0).natAbs ≤ 8) ∧ (∀ i, 8 ≤ i → i < 10 →
        (u.therm.trimNew.getD i 0 - s.therm.trims.getD i 0).natAbs ≤ 2)) ∧ u = { s with therm := u.therm, flt := u.flt } ∧ NoNewFault s u) ∧
  -- SELF_TRIM_COMPLETE: a block is rejected: it keeps its trims
  (∀ (s : State) (b : Nat) (trims : List (Int × Bool)), s.Calm → s.therm.trimBusy = true → b < 6 →
    blockRejects s.therm.trims trims b = true → Completes (.selfTrimComplete trims) s fun u =>
      u.therm.trimBusy = false ∧ u.therm.trimRejected.getLsbD b = true ∧ u.therm.trimCode = 0 ∧ u.therm.trims = s.therm.trims ∧
        u.hasCond 0x86 b = true ∧ (∀ i, i < 10 → trimBlock.getD i 0 = b → u.therm.trimNew.getD i 0 = (if s.therm.trimPending then
        s.therm.trimNew else s.therm.trims).getD i 0)) ∧
  -- TRIM_TIMEOUT
  (∀ (s : State), s.Calm → s.therm.trimBusy = true → Completes .trimTimeout s fun u =>
      u.therm = { s.therm with trimBusy := false, trimCode := stNotReady, trimRejected := 0, trimFresh := true } ∧
        u.hasCond 0x86 0xFF = true) ∧
  -- TRIM_APPLY_TIMEOUT
  (∀ (s : State), s.Calm → s.therm.trimPending = true → Completes .trimApplyTimeout s fun u =>
      u.therm = { s.therm with trims := s.therm.trimNew, trimPending := false } ∧ u = { s with therm := u.therm, flt := u.flt } ∧
        NoNewFault s u)

/-- The dose ledger: its pass, its stores and their failure, plan passes -/
def Obligations.LedgerCompletes : Prop :=
  -- LEDGER_PASS_COMPLETE: every burst correctable: doses never fall
  (∀ (s : State) (x : Sample) (later : List Nat), s.Calm → s.age.upset = [] → s.age.sample = some x →
    Completes (.ledgerPassComplete { later := later }) s fun u =>
      u.age = { s.age with sample := none, samples := min 65535 (s.age.samples + 1), lastSampleUs := some x.atUs, firstUs := 0, upset := later } ∧
        ((∀ e, s.dose e ≤ u.dose e) ∧ (∀ a, (a < 0x1C00000 → u.dramByte a = s.dramByte a))) ∧
        u = { s with dram := u.dram, age := u.age, flt := u.flt } ∧ NoNewFault s u) ∧
  -- LEDGER_PASS_COMPLETE: bursts that the ECC cannot correct: doses of other pixels never fall
  (∀ (s : State) (x : Sample) (found later : List Nat), s.Calm → s.age.sample = some x →
    Completes (.ledgerPassComplete { found := found, later := later }) s fun u =>
      u.age = { s.age with sample := none, samples := min 65535 (s.age.samples + 1), lastSampleUs := some x.atUs, firstUs := 0, upset := later } ∧
        ((∀ e, (∀ b ∈ s.age.upset ++ found, e / 3 ∉ burstPixels b) → s.dose e ≤ u.dose e) ∧ (∀ a, (a < 0x1C00000 →
        u.dramByte a = s.dramByte a)))) ∧
  -- LEDGER_STORE_START
  (∀ (s : State), s.Calm → s.unitFenced 4 = false → s.pwr.noNewStore = false → s.running = true → s.age.joinAt.isSome = true →
    s.age.busy = false → Completes .ledgerStoreStart s fun u =>
      u.age.busy = true ∧ u.age.fresh = false ∧ u.age.copying = s.age.erased ∧ u.age.storeOpS = s.opSeconds ∧
        u.age.passCount = s.age.passCount + 1) ∧
  -- LEDGER_STORE_START: with the tile flash fenced
  (∀ (s : State), s.Calm → s.unitFenced 4 = true → s.running = true → s.age.joinAt.isSome = true → s.age.busy = false →
    Completes .ledgerStoreStart s fun u =>
      u.age = { s.age with code := stFenced, fresh := true } ∧ u = { s with age := u.age, flt := u.flt } ∧ NoNewFault s u) ∧
  -- LEDGER_STORE_START: while a store runs: BUSY
  (∀ (s : State), s.Calm → s.unitFenced 4 = false → s.running = true → s.age.joinAt.isSome = true → s.age.busy = true →
    Completes .ledgerStoreStart s fun u =>
      u.age = { s.age with code := stBusy } ∧ u = { s with age := u.age, flt := u.flt } ∧ NoNewFault s u) ∧
  -- LEDGER_ERASE_COMPLETE
  (∀ (s : State), s.Calm → s.unitFenced 4 = false → s.pwr.noNewStore = false → s.running = true → s.age.erased = false →
    Completes .ledgerEraseComplete s fun u =>
      u.age = { s.age with erased := true, copying := s.age.busy } ∧ (∀ a, u.flashByte a = if ledgerHalfAt s.age.target ≤ a ∧
        a < ledgerHalfAt s.age.target + 0x1300000 then 0xFF else s.flashByte a) ∧
        u = { s with flash := u.flash, age := u.age, flt := u.flt } ∧ NoNewFault s u) ∧
  -- LEDGER_STORE_COMPLETE: every burst correctable
  (∀ (s : State), s.Calm → s.age.upset = [] → s.unitFenced 4 = false → s.pwr.noNewStore = false → s.age.busy = true →
    s.age.copying = true → s.age.forRestart = false → s.nvm.fallbackDue = false → s.cmd.shutdownFrom = none → s.losers 22 = [] →
    Completes .ledgerStoreComplete s fun u =>
      u.age.busy = false ∧ u.age.code = 0 ∧ u.age.fresh = true ∧ u.age.half = s.age.target ∧ u.age.newestB = s.age.target ∧
        u.age.anyValid = true ∧ u.age.erased = false ∧ (u.age.gen = (if s.age.anyValid then s.age.gen + 1 else 1)) ∧
        u = { s with flash := u.flash, age := u.age, tum := u.tum, flt := u.flt } ∧ NoNewFault s u) ∧
  -- LEDGER_STORE_COMPLETE: bursts that the ECC cannot correct
  (∀ (s : State), s.Calm → s.unitFenced 4 = false → s.pwr.noNewStore = false → s.age.busy = true → s.age.copying = true →
    s.age.forRestart = false → s.nvm.fallbackDue = false → s.cmd.shutdownFrom = none → Completes .ledgerStoreComplete s fun u =>
      u.age.busy = false ∧ u.age.code = 0 ∧ u.age.fresh = true ∧ u.age.half = s.age.target ∧ u.age.newestB = s.age.target ∧
        u.age.anyValid = true ∧ u.age.erased = false ∧ (u.age.gen = (if s.age.anyValid then s.age.gen + 1 else 1))) ∧
  -- LEDGER_STORE_FAIL
  (∀ (s : State), s.Calm → s.age.busy = true → s.age.copying = true → s.age.forRestart = false → s.nvm.fallbackDue = false →
    s.cmd.shutdownFrom = none → Completes .ledgerStoreFail s fun u =>
      u.age.busy = false ∧ u.age.code ≠ 0 ∧ u.age.retry = true ∧ u.age.half = s.age.half ∧ u.age.gen = s.age.gen ∧ u.flash = s.flash ∧
        u.hasCond 0x93 0 = true) ∧
  -- LEDGER_STORE_RETRY
  (∀ (s : State), s.Calm → s.unitFenced 4 = false → s.pwr.noNewStore = false → s.running = true → s.age.retry = true →
    s.age.busy = false → Completes .ledgerStoreRetry s fun u =>
      u.age.busy = true ∧ u.age.retry = false) ∧
  -- PLAN_REWRITE_COMPLETE: every burst correctable
  (∀ (s : State) (res : List Nat), s.Calm → s.age.upset = [] → s.unitFenced 4 = false → s.age.resNext = some res →
    Completes .planRewriteComplete s fun u =>
      u.age = { s.age with resNext := none, resReady := some res, comp := u.age.comp } ∧ u.col = s.col ∧
        u = { s with dram := u.dram, age := u.age, flt := u.flt } ∧ NoNewFault s u) ∧
  -- PLAN_REWRITE_COMPLETE: bursts that the ECC cannot correct
  (∀ (s : State) (res : List Nat), s.Calm → s.unitFenced 4 = false → s.age.resNext = some res → Completes .planRewriteComplete s fun u =>
      u.age = { s.age with resNext := none, resReady := some res, comp := u.age.comp, upset := [] } ∧ u.col.res = s.col.res) ∧
  -- STORE_NOW
  (∀ (s : State) (src : Source) (w : Word), s.Calm → s.canAccess src = true → s.accessLegal src true (0x3400) = true →
    s.unitFenced 4 = false → s.pwr.noNewStore = false → isService src = true → s.age.busy = false → w.getLsbD 4 = false →
    w.getLsbD 5 = false → Completes (.storeNow src w) s fun u =>
      u.acc = some { source := src, addr := 0x3400, data := 0, status := 0 } ∧ u.age.busy = true ∧ u.age.passCount = s.age.passCount + 1 ∧
        u.age.ledgerEn = w.getLsbD 0) ∧
  -- PLAN_NOW
  (∀ (s : State) (src : Source) (w : Word), s.Calm → s.canAccess src = true → s.accessLegal src true (0x3400) = true →
    isService src = true → w.getLsbD 3 = false → w.getLsbD 5 = false → Completes (.planNow src w) s fun u =>
      u.acc = some { source := src, addr := 0x3400, data := 0, status := 0 } ∧ u.age.passCount = s.age.passCount + 1 ∧
        u.age.planEn = w.getLsbD 1 ∧ u.age.busy = s.age.busy ∧ u.age.computed = (List.range 3).map s.floorOf) ∧
  -- CLR_LANE_DERATE
  (∀ (s : State) (src : Source) (w : Word), s.Calm → s.canAccess src = true → s.accessLegal src true (0x3400) = true →
    isService src = true → w.getLsbD 3 = false → w.getLsbD 4 = false → Completes (.clrLaneDerate src w) s fun u =>
      u.acc = some { source := src, addr := 0x3400, data := 0, status := 0 } ∧ u.age.startA = 0 ∧ u.age.startB = 0 ∧
        u.age.avsEn = w.getLsbD 2 ∧ (s.unitFenced 9 = false → s.pwr.noNewStore = false →
        u.nvm.jobSettings.isSome = true ∨ u.nvm.settingsAgain = true) ∧
        u = { s with age := u.age, nvm := u.nvm, acc := u.acc, flt := u.flt } ∧ NoNewFault s u)

/-- The engine’s own margins: core voltage, memory timing, lane margins and the scrub of the NVM -/
def Obligations.MarginsComplete : Prop :=
  -- AVS_EVALUATION: little slack: one step up
  (∀ (s : State) (slackPs : List (BitVec 10)), s.Calm → s.running = true → s.age.avsEn = true → s.age.avsDead = false →
    (leastSlack slackPs).1 < 60 → s.age.vcoreMv < s.age.avsVmax → Completes (.avsEvaluation slackPs true) s fun u =>
      u.age.vcoreMv = min (s.age.vcoreMv + 5) s.age.avsVmax ∧ u.age.stepsUp = min 65535 (s.age.stepsUp + 1) ∧
        u.age.slacks.head? = some (s.time.local_, leastSlack slackPs) ∧
        u.age.pmbus = voutBytes s.age.avsAddr (voutCommand (min (s.age.vcoreMv + 5) s.age.avsVmax) s.age.avsExp) ∧
        u.age.vcoreCmd = some (voutCommand (min (s.age.vcoreMv + 5) s.age.avsVmax) s.age.avsExp) ∧ u.hasCond 0x90 0 = false ∧
        u.hasCond 0x96 0 = false ∧ u = { s with age := u.age, flt := u.flt } ∧ NoNewFault s u) ∧
  -- AVS_EVALUATION: little slack at the top of the range
  (∀ (s : State) (slackPs : List (BitVec 10)) (written : Bool), s.Calm → s.running = true → s.age.avsEn = true → s.age.avsDead = false →
    (leastSlack slackPs).1 < 60 → s.age.avsVmax ≤ s.age.vcoreMv → Completes (.avsEvaluation slackPs written) s fun u =>
      (u.age.vcoreMv = s.age.vcoreMv ∧ u.hasCond (if (leastSlack slackPs).1 < 20 then 0x90 else 0x96) 0 = true)) ∧
  -- AVS_EVALUATION: a write that fails three times
  (∀ (s : State) (slackPs : List (BitVec 10)), s.Calm → s.running = true → s.age.avsEn = true → s.age.avsDead = false →
    (leastSlack slackPs).1 < 60 → s.age.vcoreMv < s.age.avsVmax → Completes (.avsEvaluation slackPs false) s fun u =>
      u.age.vcoreMv = s.age.vcoreMv ∧ u.age.avsDead = true ∧ u.hasCond 0x97 0 = true) ∧
  -- AVS_EVALUATION: AVS disabled: the nominal voltage
  (∀ (s : State) (slackPs : List (BitVec 10)), s.Calm → s.running = true → s.age.avsEn = false → s.age.avsDead = false →
    s.age.vcoreMv ≠ 750 → Completes (.avsEvaluation slackPs true) s fun u =>
      u.age.vcoreMv = 750 ∧ u.age.slacks.head? = some (s.time.local_, leastSlack slackPs) ∧
        u.age.vcoreCmd = some (voutCommand 750 s.age.avsExp)) ∧
  -- AVS_EVALUATION: slack of at least 100 ps for an hour: one step down
  (∀ (s : State) (t : Nat) (slackPs : List (BitVec 10)), s.Calm → s.running = true → s.age.avsEn = true → s.age.avsDead = false →
    100 ≤ (leastSlack slackPs).1 → s.age.slackSince = some t → 235929600000000000 ≤ s.time.local_ - t → s.therm.trimBusy = false →
    s.therm.trimPending = false → s.age.avsVmin < s.age.vcoreMv → Completes (.avsEvaluation slackPs true) s fun u =>
      u.age.vcoreMv = max (s.age.vcoreMv - 5) s.age.avsVmin ∧ u.age.stepsUp = s.age.stepsUp ∧
        u.age.vcoreCmd = some (voutCommand (max (s.age.vcoreMv - 5) s.age.avsVmin) s.age.avsExp)) ∧
  -- AVS_EVALUATION: adaptive voltage scaling has failed, or needs no step: the slack is recorded
  (∀ (s : State) (slackPs : List (BitVec 10)) (written : Bool), s.Calm → s.running = true → (s.age.avsDead = true ∨ (s.age.avsEn = true ∧
    60 ≤ (leastSlack slackPs).1 ∧ (leastSlack slackPs).1 < 100)) → Completes (.avsEvaluation slackPs written) s fun u =>
      u.age.vcoreMv = s.age.vcoreMv ∧ u.age.slacks.head? = some (s.time.local_, leastSlack slackPs) ∧ u.age.pmbus = s.age.pmbus) ∧
  -- AVS_CHECK
  (∀ (s : State) (ch17Mv : BitVec 12), s.Calm → s.age.vcoreCmd.isSome = true → s.age.avsDead = false →
    (ch17Mv.toNat + 25 < s.age.vcoreMv ∨ s.age.vcoreMv + 25 < ch17Mv.toNat) → Completes (.avsCheck ch17Mv) s fun u =>
      u.age.avsDead = true ∧ u.age.vcoreMv = s.age.vcoreMv ∧ u.hasCond 0x97 0 = true) ∧
  -- AVS_CHECK: within 25 mV
  (∀ (s : State) (ch17Mv : BitVec 12), s.Calm → s.age.vcoreMv ≤ ch17Mv.toNat + 25 → ch17Mv.toNat ≤ s.age.vcoreMv + 25 →
    Completes (.avsCheck ch17Mv) s fun u =>
      u = s) ∧
  -- MEM_EYE_CHECK
  (∀ (s : State) (eyes : List (BitVec 8)), s.Calm → s.running = true → s.age.memSet = false → Completes (.memEyeCheck eyes) s fun u =>
      (u.age.readEyes = eyes.map (fun e => e.toNat) ∧ u.age.nextSet = (s.age.nextSet || eyes.any fun e => decide (100 * e.toNat < 8960)) ∧
        u.age.memSet = false ∧ u.hasCond 0x98 0 = false) ∧ u = { s with age := u.age, flt := u.flt } ∧ NoNewFault s u) ∧
  -- DQS_TRACKING
  (∀ (s : State), s.Calm → s.running = true → Completes .dqsTracking s fun u =>
      u.age = { s.age with dqsRuns := s.age.dqsRuns + 1 } ∧ u = { s with age := u.age, flt := u.flt } ∧ NoNewFault s u) ∧
  -- MEM_EYE_CHECK: under timing set 1 an eye below 0.30 UI
  (∀ (s : State) (eyes : List (BitVec 8)), s.Calm → s.running = true → s.age.memSet = true → eyes.any (fun e =>
    decide (100 * e.toNat < 7680)) = true → Completes (.memEyeCheck eyes) s fun u =>
      (u.age.readEyes = eyes.map (fun e => e.toNat) ∧ u.age.nextSet = true ∧ u.hasCond 0x98 0 = true)) ∧
  -- LANE_MARGIN_CHECK: eyes of at least 0.30 UI on the used lanes
  (∀ (s : State) (eyesA : List (BitVec 8)) (eyesB : List (BitVec 8)), s.Calm → s.running = true → s.active .a = true →
    s.active .b = true → s.linkA.usedLanes ≠ [] → s.linkB.usedLanes ≠ [] → (List.range 4).all (fun i =>
    !s.linkA.used.getLsbD i || decide (7680 ≤ 100 * (eyesA.getD i 255).toNat)) = true → (List.range 4).all (fun i =>
    !s.linkB.used.getLsbD i || decide (7680 ≤ 100 * (eyesB.getD i 255).toNat)) = true →
    Completes (.laneMarginCheck eyesA eyesB) s fun u =>
      (u.age.startA = s.age.startA ∧ u.age.startB = s.age.startB ∧ (∀ i, i < 4 → s.linkA.used.getLsbD i = true →
        u.age.laneA ≤ (eyesA.getD i 255).toNat ∧ (u.linkA.lanes.getD i {}).eye = (eyesA.getD i 255).toNat)) ∧ (∀ i, i < 4 →
        s.linkB.used.getLsbD i = true → u.age.laneB ≤ (eyesB.getD i 255).toNat ∧
        (u.linkB.lanes.getD i {}).eye = (eyesB.getD i 255).toNat) ∧
        u = { s with age := u.age, linkA := u.linkA, linkB := u.linkB, flt := u.flt } ∧ NoNewFault s u) ∧
  -- LANE_MARGIN_CHECK: a lower eye of a used lane of port A: its start rate goes one step down
  (∀ (s : State) (i : Nat) (eyesA : List (BitVec 8)) (eyesB : List (BitVec 8)), s.Calm → s.running = true → s.active .a = true →
    s.active .b = false → i < 4 → s.linkA.used.getLsbD i = true → 100 * (eyesA.getD i 255).toNat < 7680 →
    Completes (.laneMarginCheck eyesA eyesB) s fun u =>
      u.age.startA = min 2 (s.age.startA + 1) ∧ u.age.startB = s.age.startB ∧ u.age.laneA ≤ (eyesA.getD i 255).toNat ∧
        u.hasCond 0x9B 0 = true) ∧
  -- LANE_MARGIN_CHECK: a lower eye of a used lane of port B
  (∀ (s : State) (i : Nat) (eyesA : List (BitVec 8)) (eyesB : List (BitVec 8)), s.Calm → s.running = true → s.active .b = true → i < 4 →
    s.linkB.used.getLsbD i = true → 100 * (eyesB.getD i 255).toNat < 7680 → Completes (.laneMarginCheck eyesA eyesB) s fun u =>
      u.age.startB = min 2 (s.age.startB + 1) ∧ u.age.laneB ≤ (eyesB.getD i 255).toNat ∧ u.hasCond 0x9B 1 = true) ∧
  -- NVM_SCRUB: whatever the scrub finds
  (∀ (s : State) (obs : ScrubObs), s.Calm → s.running = true → s.unitFenced 9 = false → s.nvm.working = false → s.pwr.noNewStore = false →
    Completes (.nvmScrub obs) s fun u =>
      (u.nvm.eccCorr = min 65535 (s.nvm.eccCorr + obs.corrected) ∧ u.age.intervalH = (if obs.refreshed = 0 then 24 else 6)) ∧
        ((obs.refreshed ≠ 0 → u.hasCond 0xD6 0 = true) ∧ (obs.bad.isSome = true → u.hasCond 0xD0 0 = true))) ∧
  -- NVM_SCRUB: nothing found
  (∀ (s : State) (obs : ScrubObs), s.Calm → s.running = true → s.unitFenced 9 = false → s.nvm.working = false → s.pwr.noNewStore = false →
    obs.refreshed = 0 → obs.bad = none → Completes (.nvmScrub obs) s fun u =>
      u.age = { s.age with refreshed := u.age.refreshed, refreshedRec := u.age.refreshedRec, intervalH := 24 } ∧
        u.nvm = { s.nvm with eccCorr := min 65535 (s.nvm.eccCorr + obs.corrected) } ∧
        u = { s with age := u.age, nvm := u.nvm, flt := u.flt } ∧ NoNewFault s u) ∧
  -- NVM_SCRUB: a page that cannot be corrected spoils its copy
  (∀ (s : State) (p : Fin 8192) (c : Bool) (o : Nat) (obs : ScrubObs), s.Calm → s.running = true → s.unitFenced 9 = false →
    s.nvm.working = false → s.pwr.noNewStore = false → obs.bad = some p → regionAt (512 * p.val) = some (.settings false c, o) →
    (s.nvm.area0.copy c).uses true (o / 512) = true → Completes (.nvmScrub obs) s fun u =>
      ((settingsLayout false).valid c (u.nvm.area0.copy c) = false ∧ u.nvm.area0.copy (!c) = s.nvm.area0.copy (!c) ∧
        u.nvm.area1 = s.nvm.area1 ∧ u.hasCond 0xD0 0 = true ∧ u.age.intervalH = (if obs.refreshed = 0 then 24 else 6)))

/-- LDX and STX: the word read or written at an engine address, XADDR where Tumbler may not go, DENIED where only the service port may write -/
def Obligations.EngineAccessByTumbler : Prop :=
  -- LDX: DEV_ID at address 0
  (∀ (s : State) (t : Fin 8) (rd : Fin 16) (ra : Fin 16) (imm : BitVec 18), s.Calm → s.TumShaped →
    s.issues t (encI 0x1E rd ra imm) = true → (s.thread t).reg ra + imm.signExtend 32 = 0 → Completes (.ldx t rd ra imm) s fun u =>
      WroteReg s u t rd 0x0B0E1024) ∧
  -- LDX: a data-memory word through its engine address
  (∀ (s : State) (i : Nat) (t : Fin 8) (rd : Fin 16) (ra : Fin 16) (imm : BitVec 18), s.Calm → s.TumShaped →
    s.issues t (encI 0x1E rd ra imm) = true → i < 4096 → ((s.thread t).reg ra + imm.signExtend 32).toNat = 0x20000 + 4 * i →
    Completes (.ldx t rd ra imm) s fun u =>
      WroteReg s u t rd (s.dmemWord i)) ∧
  -- LDX: a word that Tumbler may read, with the effect of its read
  (∀ (s : State) (a : Nat) (t : Fin 8) (rd : Fin 16) (ra : Fin 16) (imm : BitVec 18), s.Calm → s.TumShaped →
    s.issues t (encI 0x1E rd ra imm) = true → a = ((s.thread t).reg ra + imm.signExtend 32).toNat → s.readable .tumbler a = true →
    Completes (.ldx t rd ra imm) s fun u =>
      (∀ r, (u.thread t).reg r = if r = rd ∧ r ≠ 0 then s.readAt .tumbler a else (s.thread t).reg r) ∧ (WentOn s u t ∧ (∀ n, n ≠ t.val →
        u.thread n = s.thread n)) ∧ u.dram = s.dram ∧ u.flash = s.flash ∧ u.tum.dmem = s.tum.dmem ∧ u.eng.st = s.eng.st) ∧
  -- LDX: an address that Tumbler may not read
  (∀ (s : State) (t : Fin 8) (rd : Fin 16) (ra : Fin 16) (imm : BitVec 18), s.Calm → s.TumShaped →
    s.issues t (encI 0x1E rd ra imm) = true → s.readable .tumbler ((s.thread t).reg ra + imm.signExtend 32).toNat = false →
    Completes (.ldx t rd ra imm) s fun u =>
      (u.thread t).st = .halted ∧ (u.thread t).cause = 4 ∧ u.tum.excCause = 4 ∧ u.tum.excThread = t.val ∧ u.tum.excPc = (s.thread t).pc ∧
        u.tum.excCount = min 255 (s.tum.excCount + 1) ∧ u.hasCond 0xA0 t.val = true ∧ u.dram = s.dram ∧ u.flash = s.flash ∧
        u.tum.dmem = s.tum.dmem) ∧
  -- STX: a data-memory word through its engine address
  (∀ (s : State) (i : Nat) (t : Fin 8) (rd : Fin 16) (ra : Fin 16) (imm : BitVec 18), s.Calm → s.TumShaped →
    s.issues t (encI 0x1F rd ra imm) = true → i < 4096 → ((s.thread t).reg ra + imm.signExtend 32).toNat = 0x20000 + 4 * i →
    Completes (.stx t rd ra imm) s fun u =>
      (∀ j, u.dmemWord j = if j = i then (s.thread t).reg rd else s.dmemWord j) ∧ (WentOn s u t ∧ (u.thread t).g = (s.thread t).g ∧
        (∀ n, n ≠ t.val → u.thread n = s.thread n)) ∧ u = { s with tum := u.tum, flt := u.flt } ∧ NoNewFault s u) ∧
  -- STX: TUM_LRDY
  (∀ (s : State) (t : Fin 8) (rd : Fin 16) (ra : Fin 16) (imm : BitVec 18), s.Calm → s.TumShaped →
    s.issues t (encI 0x1F rd ra imm) = true → ((s.thread t).reg ra + imm.signExtend 32).toNat = 0x0170 →
    Completes (.stx t rd ra imm) s fun u =>
      u.tum.lrdy = BitVec.ofNat 32 (((s.thread t).reg rd).toNat % 65536) ∧ u.tum.dmem = s.tum.dmem ∧ (WentOn s u t ∧
        (u.thread t).g = (s.thread t).g ∧ (∀ n, n ≠ t.val → u.thread n = s.thread n)) ∧ u = { s with tum := u.tum, flt := u.flt } ∧
        NoNewFault s u) ∧
  -- STX: an address that Tumbler may not write
  (∀ (s : State) (t : Fin 8) (rd : Fin 16) (ra : Fin 16) (imm : BitVec 18), s.Calm → s.TumShaped →
    s.issues t (encI 0x1F rd ra imm) = true → s.writable .tumbler ((s.thread t).reg ra + imm.signExtend 32).toNat = false →
    Completes (.stx t rd ra imm) s fun u =>
      (u.thread t).st = .halted ∧ (u.thread t).cause = 4 ∧ u.tum.excCause = 4 ∧ u.tum.excThread = t.val ∧ u.tum.excPc = (s.thread t).pc ∧
        u.tum.excCount = min 255 (s.tum.excCount + 1) ∧ u.hasCond 0xA0 t.val = true ∧ u.dram = s.dram ∧ u.flash = s.flash ∧
        u.tum.dmem = s.tum.dmem) ∧
  -- STX: a register that only the service port may write
  (∀ (s : State) (t : Fin 8) (rd : Fin 16) (ra : Fin 16) (imm : BitVec 18), s.Calm → s.TumShaped →
    s.issues t (encI 0x1F rd ra imm) = true → ((s.thread t).reg ra + imm.signExtend 32).toNat = 0x0830 →
    Completes (.stx t rd ra imm) s fun u =>
      (u.thread t).st = .halted ∧ (u.thread t).cause = 5 ∧ u.tum.excCause = 5 ∧ u.tum.excThread = t.val ∧ u.tum.excPc = (s.thread t).pc ∧
        u.tum.excCount = min 255 (s.tum.excCount + 1) ∧ u.hasCond 0xA0 t.val = true ∧ u.dram = s.dram ∧ u.flash = s.flash ∧
        u.tum.dmem = s.tum.dmem ∧ u.flt.injHeld = s.flt.injHeld)

/-- The device operations LAYER to SREQ: what each asks of its unit, and the status or stall that the thread gets -/
def Obligations.DeviceOperations : Prop :=
  -- LAYER
  (∀ (s : State) (t : Fin 8) (rd : Fin 16) (ra : Fin 16) (rb : Fin 16), s.Calm → s.TumShaped → s.comp.layers.length = 16 →
    s.issues t (encR 0x31 rd ra rb) = true → s.legal 0x03 = true → ((s.thread t).reg ra).toNat % 4 = 0 →
    ((s.thread t).reg ra).toNat + 32 ≤ 16384 → ((s.thread t).reg rb).toNat < 16 → Completes (.layer t rd ra rb) s fun u =>
      (∀ i, i < 8 →
        (u.layer ((s.thread t).reg rb).toNat).shadow.word i = s.dmemWord (((s.thread t).reg ra).toNat / 4 + i) &&& layerMask i) ∧
        ((u.layer ((s.thread t).reg rb).toNat).active = (s.layer ((s.thread t).reg rb).toNat).active ∧
        (∀ n, n ≠ ((s.thread t).reg rb).toNat → u.layer n = s.layer n)) ∧ ((u.thread t).reg rd = 0 ∧ (u.thread t).st = .ready ∧
        (u.thread t).pc = ((s.thread t).pc + 1) % 16384 ∧ (u.thread t).issued = (s.thread t).issued + 1 ∧ (∀ n, n ≠ t.val →
        u.thread n = s.thread n)) ∧ u = { s with comp := u.comp, tum := u.tum, flt := u.flt } ∧ NoNewFault s u) ∧
  -- LAYER: a misaligned block or a layer number above 15
  (∀ (s : State) (t : Fin 8) (rd : Fin 16) (ra : Fin 16) (rb : Fin 16), s.Calm → s.TumShaped → s.issues t (encR 0x31 rd ra rb) = true →
    s.legal 0x03 = true → (((s.thread t).reg ra).toNat % 4 ≠ 0 ∨ 16 ≤ ((s.thread t).reg rb).toNat) →
    Completes (.layer t rd ra rb) s fun u =>
      WroteReg s u t rd 0x02) ∧
  -- TUMBLER_COMMIT
  (∀ (s : State) (t : Fin 8) (rd : Fin 16) (ra : Fin 16), s.Calm → s.TumShaped → s.issues t (encR 0x32 rd ra 0) = true →
    s.legal 0x04 = true → s.comp.queue = [] → Completes (.tumblerCommit t rd ra) s fun u =>
      u.comp.queue = [{ mask := BitVec.ofNat 16 (((s.thread t).reg ra).toNat % 65536), globals := ((s.thread t).reg ra).getLsbD 16, token := BitVec.ofNat 8 (((s.thread t).reg ra).toNat / 2 ^ 24), by_ := .thread t rd }] ∧
        (u.comp.admitting = some { layers := s.comp.layers.map fun l => l.shadow, bg := s.comp.bg, conf := s.comp.conf } ∧
        u.comp.layers = s.comp.layers) ∧ ((u.thread t).st = .stalled ∧ (u.thread t).wait = .device rd ∧
        (u.thread t).pc = ((s.thread t).pc + 1) % 16384 ∧ (u.thread t).g = (s.thread t).g ∧ (∀ n, n ≠ t.val → u.thread n = s.thread n)) ∧
        u = { s with comp := u.comp, tum := u.tum, flt := u.flt } ∧ NoNewFault s u) ∧
  -- TUMBLER_COMMIT: four wait already
  (∀ (s : State) (t : Fin 8) (rd : Fin 16) (ra : Fin 16), s.Calm → s.TumShaped → s.issues t (encR 0x32 rd ra 0) = true →
    s.legal 0x04 = true → s.comp.queue.length = 5 → Completes (.tumblerCommit t rd ra) s fun u =>
      WroteReg s u t rd (BitVec.ofNat 32 (6 + ((s.thread t).reg ra).toNat / 2 ^ 24 * 2 ^ 16))) ∧
  -- TUMBLER_MODE: accepted
  (∀ (s : State) (a : Nat) (m : Mode) (t : Fin 8) (rd : Fin 16) (ra : Fin 16), s.Calm → s.TumShaped →
    s.issues t (encR 0x33 rd ra 0) = true → s.legal 0x05 = true → s.unitFenced 0 = false → a = ((s.thread t).reg ra).toNat / 4 →
    ((s.thread t).reg ra).toNat % 4 = 0 → ((s.thread t).reg ra).toNat + 16 ≤ 16384 → s.comp.pendingMode = none →
    s.modeOf (s.dmemWord a) (s.dmemWord (a + 1)) (s.dmemWord (a + 2)) (s.dmemWord (a + 3)) = some m → s.modeStale m = false →
    s.modeFits m = true → Completes (.tumblerMode t rd ra) s fun u =>
      u.comp = { s.comp with pendingMode := some m, vblankUs := m.vblankUs } ∧ (u.thread t).reg rd = 0 ∧ ((u.thread t).st = .ready ∧
        (u.thread t).pc = ((s.thread t).pc + 1) % 16384 ∧ (u.thread t).issued = (s.thread t).issued + 1 ∧ (∀ n, n ≠ t.val →
        u.thread n = s.thread n)) ∧ u = { s with comp := u.comp, tum := u.tum, flt := u.flt } ∧ NoNewFault s u) ∧
  -- TUMBLER_MODE: its target flip has passed: STALE
  (∀ (s : State) (a : Nat) (m : Mode) (t : Fin 8) (rd : Fin 16) (ra : Fin 16), s.Calm → s.TumShaped →
    s.issues t (encR 0x33 rd ra 0) = true → s.legal 0x05 = true → s.unitFenced 0 = false → a = ((s.thread t).reg ra).toNat / 4 →
    ((s.thread t).reg ra).toNat % 4 = 0 → ((s.thread t).reg ra).toNat + 16 ≤ 16384 → s.comp.pendingMode = none →
    s.modeOf (s.dmemWord a) (s.dmemWord (a + 1)) (s.dmemWord (a + 2)) (s.dmemWord (a + 3)) = some m → s.modeStale m = true →
    Completes (.tumblerMode t rd ra) s fun u =>
      WroteReg s u t rd 0x0C ∧ u.comp = s.comp) ∧
  -- TUMBLER_MODE: the planned configuration does not fit: BUDGET
  (∀ (s : State) (a : Nat) (m : Mode) (t : Fin 8) (rd : Fin 16) (ra : Fin 16), s.Calm → s.TumShaped →
    s.issues t (encR 0x33 rd ra 0) = true → s.legal 0x05 = true → s.unitFenced 0 = false → a = ((s.thread t).reg ra).toNat / 4 →
    ((s.thread t).reg ra).toNat % 4 = 0 → ((s.thread t).reg ra).toNat + 16 ≤ 16384 → s.comp.pendingMode = none →
    s.modeOf (s.dmemWord a) (s.dmemWord (a + 1)) (s.dmemWord (a + 2)) (s.dmemWord (a + 3)) = some m → s.modeStale m = false →
    s.modeFits m = false → Completes (.tumblerMode t rd ra) s fun u =>
      WroteReg s u t rd 0x0A ∧ u.comp = s.comp) ∧
  -- TUMBLER_MODE: four words that make no mode: BAD_LEN
  (∀ (s : State) (a : Nat) (t : Fin 8) (rd : Fin 16) (ra : Fin 16), s.Calm → s.TumShaped → s.issues t (encR 0x33 rd ra 0) = true →
    s.legal 0x05 = true → s.unitFenced 0 = false → a = ((s.thread t).reg ra).toNat / 4 → ((s.thread t).reg ra).toNat % 4 = 0 →
    ((s.thread t).reg ra).toNat + 16 ≤ 16384 → s.comp.pendingMode = none →
    s.modeOf (s.dmemWord a) (s.dmemWord (a + 1)) (s.dmemWord (a + 2)) (s.dmemWord (a + 3)) = none →
    Completes (.tumblerMode t rd ra) s fun u =>
      WroteReg s u t rd 0x03 ∧ u.comp = s.comp) ∧
  -- ENV
  (∀ (s : State) (t : Fin 8) (rd : Fin 16) (ra : Fin 16), s.Calm → s.TumShaped → s.issues t (encR 0x34 rd ra 0) = true →
    s.legal 0x06 = true → s.unitFenced 1 = false → s.col.landings = [] → Completes (.env t rd ra) s fun u =>
      u.col.landings = [{ env := some s.col.envShadow, colour := none, token := BitVec.ofNat 8 (((s.thread t).reg ra).toNat % 256), by_ := .thread t rd }] ∧
        (u.col.envActive = s.col.envActive ∧ u.col.resFresh = false ∧ (u.thread t).st = .stalled ∧ (u.thread t).wait = .device rd ∧
        (u.thread t).pc = ((s.thread t).pc + 1) % 16384 ∧ (u.thread t).g = (s.thread t).g ∧ (∀ n, n ≠ t.val → u.thread n = s.thread n)) ∧
        u = { s with col := u.col, tum := u.tum, flt := u.flt } ∧ NoNewFault s u) ∧
  -- TUMBLER_CAL
  (∀ (s : State) (a : Nat) (q : CalReq) (t : Fin 8) (rd : Fin 16) (ra : Fin 16), s.Calm → s.TumShaped →
    s.issues t (encR 0x35 rd ra 0) = true → s.legal 0x07 = true → s.unitFenced 1 = false → a = ((s.thread t).reg ra).toNat / 4 →
    ((s.thread t).reg ra).toNat % 4 = 0 → ((s.thread t).reg ra).toNat + 12 ≤ 16384 →
    calReq (s.dmemWord a) (s.dmemWord (a + 1)) (s.dmemWord (a + 2)) = some q → q.unfence = false → s.col.calQueue = [] →
    Completes (.tumblerCal t rd ra) s fun u =>
      u.col = { s.col with calQueue := [q] } ∧ ((u.thread t).reg rd = 0 ∧ (u.thread t).st = .ready ∧
        (u.thread t).pc = ((s.thread t).pc + 1) % 16384 ∧ (u.thread t).issued = (s.thread t).issued + 1 ∧ (∀ n, n ≠ t.val →
        u.thread n = s.thread n)) ∧ u = { s with col := u.col, tum := u.tum, flt := u.flt } ∧ NoNewFault s u) ∧
  -- TUMBLER_CAL: UNFENCE is denied
  (∀ (s : State) (a : Nat) (t : Fin 8) (rd : Fin 16) (ra : Fin 16), s.Calm → s.TumShaped → s.issues t (encR 0x35 rd ra 0) = true →
    a = ((s.thread t).reg ra).toNat / 4 → ((s.thread t).reg ra).toNat % 4 = 0 → ((s.thread t).reg ra).toNat + 12 ≤ 16384 →
    (s.dmemWord (a + 2)).getLsbD 20 = true → Completes (.tumblerCal t rd ra) s fun u =>
      WroteReg s u t rd 0x04) ∧
  -- TUMBLER_MEAS
  (∀ (s : State) (t : Fin 8) (rd : Fin 16) (ra : Fin 16), s.Calm → s.TumShaped → s.issues t (encR 0x36 rd ra 0) = true →
    (s.eng.st = .dark ∨ s.eng.st = .lit) → s.rings.cairnOn = false → s.rings.sweep = .none →
    (((s.thread t).reg ra).toNat % 4 = 1 ∨ ((s.thread t).reg ra).toNat % 4 = 2) → Completes (.tumblerMeas t rd ra) s fun u =>
      (u.rings = { s.rings with sweep := if ((s.thread t).reg ra).toNat % 4 = 1 then .vf else .os, interval := max 1 (((s.thread t).reg ra).toNat / 4 % 256), toNext := 0, rounds := 0, sent := none, measFresh := false }) ∧
        ((u.thread t).reg rd = 0 ∧ (u.thread t).st = .ready ∧ (u.thread t).pc = ((s.thread t).pc + 1) % 16384 ∧
        (u.thread t).issued = (s.thread t).issued + 1 ∧ (∀ n, n ≠ t.val → u.thread n = s.thread n)) ∧
        u = { s with rings := u.rings, tum := u.tum, flt := u.flt } ∧ NoNewFault s u) ∧
  -- TUMBLER_MEAS: 0 stops the sweep in progress
  (∀ (s : State) (t : Fin 8) (rd : Fin 16) (ra : Fin 16), s.Calm → s.TumShaped → s.issues t (encR 0x36 rd ra 0) = true →
    ((s.thread t).reg ra).toNat % 4 = 0 → s.losers 19 = [] → Completes (.tumblerMeas t rd ra) s fun u =>
      u.rings.sweep = .none ∧ u.rings.measFresh = s.rings.measFresh ∧ (u.thread t).reg rd = 0 ∧
        (u.thread t).pc = ((s.thread t).pc + 1) % 16384) ∧
  -- TUMBLER_MEAS: 3 is no kind
  (∀ (s : State) (t : Fin 8) (rd : Fin 16) (ra : Fin 16), s.Calm → s.TumShaped → s.issues t (encR 0x36 rd ra 0) = true →
    ((s.thread t).reg ra).toNat % 4 = 3 → Completes (.tumblerMeas t rd ra) s fun u =>
      WroteReg s u t rd 0x03) ∧
  -- TUMBLER_STORE: the retained region
  (∀ (s : State) (t : Fin 8) (rd : Fin 16) (ra : Fin 16), s.Calm → s.TumShaped → s.issues t (encR 0x37 rd ra 0) = true →
    s.legal 0x09 = true → (s.thread t).reg ra = 1 → s.unitFenced 9 = false → s.pwr.noNewStore = false → s.nvm.storing .retained = false →
    Completes (.tumblerStore t rd ra) s fun u =>
      u.nvm = { s.nvm with jobRetained := some s.retainedWords } ∧ u.tum.storeValid = false ∧ u.tum.storeFresh = false ∧
        ((u.thread t).reg rd = 0 ∧ (u.thread t).st = .ready ∧ (u.thread t).pc = ((s.thread t).pc + 1) % 16384 ∧
        (u.thread t).issued = (s.thread t).issued + 1 ∧ (∀ n, n ≠ t.val → u.thread n = s.thread n)) ∧
        u = { s with nvm := u.nvm, tum := u.tum, flt := u.flt } ∧ NoNewFault s u) ∧
  -- TUMBLER_STORE: no such kind
  (∀ (s : State) (t : Fin 8) (rd : Fin 16) (ra : Fin 16), s.Calm → s.TumShaped → s.issues t (encR 0x37 rd ra 0) = true →
    s.legal 0x09 = true → 4 ≤ ((s.thread t).reg ra).toNat → Completes (.tumblerStore t rd ra) s fun u =>
      WroteReg s u t rd 0x02) ∧
  -- SIG
  (∀ (s : State) (t : Fin 8) (rd : Fin 16) (ra : Fin 16), s.Calm → s.TumShaped → s.issues t (encR 0x38 rd ra 0) = true →
    s.losers 28 = [] → s.losers 29 = [] → s.losers 30 = [] → s.losers 31 = [] → Completes (.sig t rd ra) s fun u =>
      (∀ n, (s.thread n).st = .ready → (u.thread n).pending = (s.thread n).pending ||| ((s.thread t).reg ra) <<< 28) ∧
        ((u.thread t).reg rd = 0 ∧ (u.thread t).st = .ready ∧ (u.thread t).pc = ((s.thread t).pc + 1) % 16384 ∧
        (u.thread t).issued = (s.thread t).issued + 1 ∧ (∀ n, (s.thread n).st = .halted → u.thread n = s.thread n)) ∧
        u = { s with tum := u.tum, flt := u.flt } ∧ NoNewFault s u) ∧
  -- POST
  (∀ (s : State) (t : Fin 8) (rd : Fin 16) (ra : Fin 16) (rb : Fin 16), s.Calm → s.TumShaped → s.issues t (encR 0x39 rd ra rb) = true →
    1 ≤ ((s.thread t).reg rb).toNat → ((s.thread t).reg rb).toNat ≤ 256 →
    ((s.thread t).reg ra).toNat + ((s.thread t).reg rb).toNat ≤ 16384 → s.wall.id ≠ 0 → s.tum.posts.length < 4 →
    Completes (.post t rd ra rb) s fun u =>
      u.tum.posts = s.tum.posts ++ [{ thread := t.val, data := s.dmemBytes ((s.thread t).reg ra).toNat ((s.thread t).reg rb).toNat }] ∧
        ((u.thread t).reg rd = 0 ∧ (u.thread t).st = .ready ∧ (u.thread t).pc = ((s.thread t).pc + 1) % 16384 ∧
        (u.thread t).issued = (s.thread t).issued + 1 ∧ (∀ n, n ≠ t.val → u.thread n = s.thread n)) ∧
        u = { s with tum := u.tum, flt := u.flt } ∧ NoNewFault s u) ∧
  -- POST: with no tile ID, or an empty post
  (∀ (s : State) (t : Fin 8) (rd : Fin 16) (ra : Fin 16) (rb : Fin 16), s.Calm → s.TumShaped → s.issues t (encR 0x39 rd ra rb) = true →
    ((s.thread t).reg rb = 0 ∨ s.wall.id = 0) → Completes (.post t rd ra rb) s fun u =>
      (WroteReg s u t rd (if (s.thread t).reg rb = 0 ∨ 256 < ((s.thread t).reg rb).toNat ∨ 16384 < ((s.thread t).reg ra).toNat + ((s.thread t).reg rb).toNat then
        3 else 5))) ∧
  -- SREQ
  (∀ (s : State) (t : Fin 8) (rd : Fin 16) (imm : BitVec 18), s.Calm → s.TumShaped → s.issues t (encI 0x3A rd 0 imm) = true →
    s.legal 0x12 = true → imm = 2 → s.saf.func ≠ some .slo → s.losers 23 = [] → s.losers 24 = [] → s.eng.leaving = false →
    Completes (.sreq t rd imm) s fun u =>
      u.saf.request = some .slo ∧ u.eng.st = .safe ∧ u.OutputsOff ∧ u.saf.sloOut = true ∧ (u.thread t).reg rd = 0 ∧
        (u.thread t).pc = ((s.thread t).pc + 1) % 16384) ∧
  -- SREQ: no such function
  (∀ (s : State) (t : Fin 8) (rd : Fin 16) (imm : BitVec 18), s.Calm → s.TumShaped → s.issues t (encI 0x3A rd 0 imm) = true →
    s.legal 0x12 = true → (imm = 0 ∨ 4 ≤ imm.toNat) → Completes (.sreq t rd imm) s fun u =>
      WroteReg s u t rd 0x03) ∧
  -- WAITE_TIMEOUT
  (∀ (s : State) (rd : Fin 16) (m : Word) (us : Nat) (t : Fin 8), s.Calm → s.TumShaped → (s.thread t).st = .waiting →
    (s.thread t).wait = .events rd m us → us ≠ 0 → Completes (.waiteTimeout t) s fun u =>
      (u.thread t).st = .ready ∧ (u.thread t).wait = .none ∧ (u.thread t).issued = 0 ∧ (u.thread t).pc = (s.thread t).pc ∧
        (u.thread t).pending = (s.thread t).pending ∧ (∀ r, (u.thread t).reg r = if r = rd then 0 else (s.thread t).reg r) ∧
        OnlyThread s u t)

/-- TUM_CTRL and TUM_DB_DATA: threads started at their entry points, threads halted with cause 10, a program store, and the doorbell queue read -/
def Obligations.TumblerRegisters : Prop :=
  -- TUM_START
  (∀ (s : State) (src : Source) (w : Word), s.Calm → s.canAccess src = true → s.accessLegal src true (0x0100) = true → s.TumShaped →
    w.toNat < 256 → (s.eng.st = .join ∨ s.eng.st = .dark ∨ s.eng.st = .lit ∨ s.eng.st = .safe ∨ s.eng.st = .update) →
    s.unitFenced 5 = false → (s.allHalted = false ∨ progCheck s = stOk) → Completes (.tumStart src w) s fun u =>
      u.acc = some { source := src, addr := 0x0100, data := 0, status := 0 } ∧ (∀ n, n < 8 → u.thread n = if w.getLsbD n = true ∧
        progEntry s n ≠ 0xFFFF then
        { s.thread n with pc := progEntry s n, g := List.replicate 16 0, stack := [], pending := 0, st := .ready, cause := 0, issued := 0, wait := .none }
        else s.thread n) ∧ u.tum.prog = s.tum.prog ∧ u.tum.dmem = s.tum.dmem ∧
        u = { s with tum := u.tum, comp := u.comp, col := u.col, acc := u.acc, flt := u.flt } ∧ NoNewFault s u) ∧
  -- TUM_START: every thread is halted and the program check fails
  (∀ (s : State) (src : Source) (w : Word), s.Calm → s.canAccess src = true → s.accessLegal src true (0x0100) = true → w.toNat < 256 →
    w ≠ 0 → (s.eng.st = .join ∨ s.eng.st = .dark ∨ s.eng.st = .lit ∨ s.eng.st = .safe ∨ s.eng.st = .update) → s.unitFenced 5 = false →
    s.allHalted = true → progCheck s ≠ stOk → Completes (.tumStart src w) s fun u =>
      u.acc = some { source := src, addr := 0x0100, data := 0, status := 0 } ∧
        u.tum = { s.tum with progCode := progCheck s, progFresh := true } ∧ u = { s with tum := u.tum, acc := u.acc, flt := u.flt } ∧
        NoNewFault s u) ∧
  -- TUM_HALT
  (∀ (s : State) (src : Source) (w : Word), s.Calm → s.canAccess src = true → s.accessLegal src true (0x0100) = true → s.TumShaped →
    w.toNat < 65536 → w.toNat % 256 = 0 → Completes (.tumHalt src w) s fun u =>
      u.acc = some { source := src, addr := 0x0100, data := 0, status := 0 } ∧ (∀ n, n < 8 → u.thread n = if w.getLsbD (8 + n) = true ∧
        (s.thread n).st ≠ .halted then { s.thread n with st := .halted, cause := 10, wait := .none } else s.thread n) ∧
        u = { s with tum := u.tum, acc := u.acc, flt := u.flt } ∧ NoNewFault s u) ∧
  -- PROG_STORE: the program check passes: the store starts
  (∀ (s : State) (src : Source) (w : Word), s.Calm → s.canAccess src = true → s.accessLegal src true (0x0100) = true →
    w.toNat % 65536 = 0 → s.pwr.noNewStore = false → progCheck s = stOk → s.unitFenced 9 = false → s.nvm.storing .program = false →
    Completes (.progStore src w) s fun u =>
      u.acc = some { source := src, addr := 0x0100, data := 0, status := 0 } ∧ u.nvm = { s.nvm with jobProg := some s.tum.prog } ∧
        u.tum.progValid = false ∧ u.tum.progFresh = false ∧ u.tum.threads = s.tum.threads ∧ u.tum.prog = s.tum.prog ∧
        u = { s with tum := u.tum, nvm := u.nvm, acc := u.acc, flt := u.flt } ∧ NoNewFault s u) ∧
  -- PROG_STORE: the program check fails
  (∀ (s : State) (src : Source) (w : Word), s.Calm → s.canAccess src = true → s.accessLegal src true (0x0100) = true →
    w.toNat % 65536 = 0 → s.pwr.noNewStore = false → progCheck s ≠ stOk → Completes (.progStore src w) s fun u =>
      u.acc = some { source := src, addr := 0x0100, data := 0, status := 0 } ∧ u.nvm = s.nvm ∧ u.tum.progCode = progCheck s ∧
        u.tum.progFresh = true ∧ u.tum.threads = s.tum.threads ∧ u.tum.prog = s.tum.prog ∧
        u = { s with tum := u.tum, nvm := u.nvm, acc := u.acc, flt := u.flt } ∧ NoNewFault s u) ∧
  -- PROG_STORE: with the NVM fenced, or while a store of a program runs
  (∀ (s : State) (src : Source) (w : Word), s.Calm → s.canAccess src = true → s.accessLegal src true (0x0100) = true →
    w.toNat % 65536 = 0 → s.pwr.noNewStore = false → progCheck s = stOk → (s.unitFenced 9 = true ∨ s.nvm.storing .program = true) →
    Completes (.progStore src w) s fun u =>
      u.acc = some { source := src, addr := 0x0100, data := 0, status := 0 } ∧ (u.nvm = s.nvm ∧ u.tum.progCode = (if s.unitFenced 9 then
        stFenced else stBusy) ∧ u.tum.progFresh = true) ∧ u.tum.threads = s.tum.threads ∧ u.tum.prog = s.tum.prog ∧
        u = { s with tum := u.tum, nvm := u.nvm, acc := u.acc, flt := u.flt } ∧ NoNewFault s u) ∧
  -- TUM_DB_DATA
  (∀ (s : State) (src : Source) (consume : Bool), s.Calm → s.canAccess src = true → s.accessLegal src false (0x0174) = true →
    Completes (.tumDbData src consume) s fun u =>
      u.acc = some { source := src, addr := 0x0174, data := s.tum.doorbell.head?.getD 0, status := 0 } ∧
        (u.tum = (if consume = true ∨ (src ≠ .portA ∧ src ≠ .portB) then { s.tum with doorbell := s.tum.doorbell.tail } else s.tum)) ∧
        u = { s with tum := u.tum, acc := u.acc, flt := u.flt } ∧ NoNewFault s u) ∧
  -- TUMBLER_PARITY
  (∀ (s : State), s.Calm → s.running = true → s.hasCond 0xA4 0 = false → s.flt.sevOf 0xA4 = 2 → s.flt.slots ≠ [] →
    Completes .tumblerParity s fun u =>
      u.hasCond 0xA4 0 = true ∧ u.unitFenced 5 = true ∧ u.allHalted = true ∧ u.tum.prog = s.tum.prog ∧ u.tum.dmem = s.tum.dmem ∧
        (u.flt.nextNo ≠ s.flt.nextNo ∨ u.flt.merged = min 65535 (s.flt.merged + 1) ∨ u.flt.full = min 65535 (s.flt.full + 1)) ∧
        u = { s with flt := u.flt, tum := u.tum, time := u.time, nvm := u.nvm })

/-- PING, READ and WRITE on the service port, and a READ answered by a frame: what is read, what is written, and that a refused WRITE writes nothing -/
def Obligations.AccessCommandsComplete : Prop :=
  -- PING
  (∀ (s : State) (q : CmdReq), s.Calm → SvcTakes s q 0x01 → q.args = [] → Completes (.ping q) s fun u =>
      Answered s u q 0x01 0 (leBytes 4 0x0B0E1024 ++ leBytes 4 s.idState.toNat) ∧ u = { s with cmd := u.cmd, flt := u.flt } ∧
        NoNewFault s u) ∧
  -- PING: on port A: the reply is a frame to its sender
  (∀ (s : State) (q : CmdReq), s.Calm → q.port = .a → s.active .a = true → q.dest = s.wall.id → q.dest ≠ 0xFFF → q.src ≠ 0xFFF →
    s.copyOf q = none → q.flags = 0 → q.zero = 0 → q.argLen = 0 → q.args = [] → s.recovery = false → s.legal 0x01 = true →
    (s.cmd.outstanding.filter fun o => o.port == .a) = [] → s.active (s.outPort q.src.toNat) = true →
    (s.link (s.outPort q.src.toNat)).queue = [] → Completes (.ping q) s fun u =>
      u.cmd.lastOp = 0x01 ∧ u.cmd.lastStatus = 0 ∧ u.cmd.lastPort = 0 ∧ u.cmd.accepted = min 65535 (s.cmd.accepted + 1) ∧
        (((u.link (s.outPort q.src.toNat)).queue.map fun f =>
        (hType f.frame.hdr, hDest f.frame.hdr, f.frame.payload.take 6, f.frame.payload.drop 8)) = [(0x03, q.src.toNat, [1, 0] ++ leBytes 2 q.cmdId.toNat ++ [8, 0], leBytes 4 0x0B0E1024 ++ leBytes 4 s.idState.toNat)]) ∧
        u.link (otherPort (s.outPort q.src.toNat)) = s.link (otherPort (s.outPort q.src.toNat)) ∧
        u = { s with cmd := u.cmd, wall := u.wall, linkA := u.linkA, linkB := u.linkB, flt := u.flt } ∧ NoNewFault s u) ∧
  -- READ: words of data memory
  (∀ (s : State) (i n : Nat) (q : CmdReq), s.Calm → SvcTakes s q 0x02 → q.args.length = 6 → leAt q.args 0 4 = 0x20000 + 4 * i →
    leAt q.args 4 2 = n → 1 ≤ n → n ≤ 2048 → i + n ≤ 4096 → Completes (.read q) s fun u =>
      (Answered s u q 0x02 0 (bytesOf ((List.range n).map fun k => s.dmemWord (i + k)))) ∧ u = { s with cmd := u.cmd, flt := u.flt } ∧
        NoNewFault s u) ∧
  -- READ: DEV_ID and ID_STATE, whose count the read clears
  (∀ (s : State) (q : CmdReq), s.Calm → SvcTakes s q 0x02 → q.args = [0, 0, 0, 0, 2, 0] → Completes (.read q) s fun u =>
      Answered s u q 0x02 0 (leBytes 4 0x0B0E1024 ++ leBytes 4 s.idState.toNat) ∧ u.eng = { s.eng with transCount := 0 } ∧
        u = { s with eng := u.eng, cmd := u.cmd, flt := u.flt } ∧ NoNewFault s u) ∧
  -- READ: a misaligned address
  (∀ (s : State) (q : CmdReq), s.Calm → SvcTakes s q 0x02 → q.args.length = 6 → leAt q.args 0 4 % 4 ≠ 0 → 1 ≤ leAt q.args 4 2 →
    leAt q.args 4 2 ≤ 2048 → Completes (.read q) s fun u =>
      Answered s u q 0x02 0x02 [] ∧ u = { s with cmd := u.cmd, flt := u.flt } ∧ NoNewFault s u) ∧
  -- WRITE: words of data memory
  (∀ (s : State) (i n : Nat) (q : CmdReq), s.Calm → SvcTakes s q 0x03 → q.args.length = 4 + 4 * n → leAt q.args 0 4 = 0x20000 + 4 * i →
    1 ≤ n → n ≤ 2048 → i + n ≤ 4096 → Completes (.write q) s fun u =>
      (∀ j, u.dmemWord j = if i ≤ j ∧ j < i + n then BitVec.ofNat 32 (leAt q.args (4 + 4 * (j - i)) 4) else s.dmemWord j) ∧
        u.tum.threads = s.tum.threads ∧ u.tum.prog = s.tum.prog ∧ Answered s u q 0x03 0 [] ∧
        u = { s with tum := u.tum, cmd := u.cmd, flt := u.flt } ∧ NoNewFault s u) ∧
  -- WRITE: the tile map is not writable
  (∀ (s : State) (q : CmdReq), s.Calm → SvcTakes s q 0x03 → q.args.length % 4 = 0 → 8 ≤ q.args.length → q.args.length ≤ 8196 →
    leAt q.args 0 4 = 0x30000 → Completes (.write q) s fun u =>
      Answered s u q 0x03 0x02 [] ∧ u = { s with cmd := u.cmd, flt := u.flt } ∧ NoNewFault s u) ∧
  -- WRITE: program memory while a thread is not halted
  (∀ (s : State) (q : CmdReq), s.Calm → SvcTakes s q 0x03 → q.args.length % 4 = 0 → 8 ≤ q.args.length → q.args.length ≤ 8196 →
    leAt q.args 0 4 = 0x10000 → s.allHalted = false → Completes (.write q) s fun u =>
      Answered s u q 0x03 0x05 [] ∧ u = { s with cmd := u.cmd, flt := u.flt } ∧ NoNewFault s u)

/-- The checks of R248: an unknown opcode, a restricted port, a broadcast, a wrong length, a fenced Ward, an illegal state; copies and a busy service port -/
def Obligations.CommandChecksRefuse : Prop :=
  -- BAD_OPCODE
  (∀ (s : State) (opcode : Byte) (q : CmdReq), s.Calm → q.port = .service → s.running = true → s.pwr.sealHigh = false →
    s.svcBusy = false → opRule opcode.toNat = none → s.copyOf q = none → Completes (.badOpcode opcode q) s fun u =>
      u.cmd.lastOp = opcode ∧ u.cmd.lastStatus = 0x01 ∧ u.cmd.refused = min 65535 (s.cmd.refused + 1) ∧ u.cmd.accepted = s.cmd.accepted ∧
        ((u.cmd.svcReply.map fun b => b.take 6) = some ([opcode, 1] ++ leBytes 2 q.cmdId.toNat ++ [0, 0])) ∧
        u = { s with cmd := u.cmd, flt := u.flt } ∧ NoNewFault s u) ∧
  -- ENTER_SERVICE: by a WALL port: DENIED_PORT
  (∀ (s : State) (q : CmdReq), s.Calm → q.port = .a → s.active .a = true → q.dest = s.wall.id → s.copyOf q = none →
    Completes (.enterService q) s fun u =>
      u.cmd.lastStatus = 0x04 ∧ u.cmd.refused = min 65535 (s.cmd.refused + 1) ∧ u.eng = s.eng ∧ u.tum = s.tum ∧
        u = { s with cmd := u.cmd, wall := u.wall, linkA := u.linkA, linkB := u.linkB, flt := u.flt } ∧ NoNewFault s u) ∧
  -- READ: a broadcast: BAD_ADDR
  (∀ (s : State) (q : CmdReq), s.Calm → q.port = .a → s.active .a = true → q.dest = 0xFFF → s.copyOf q = none →
    Completes (.read q) s fun u =>
      u.cmd.lastStatus = 0x02 ∧ u.cmd.refused = min 65535 (s.cmd.refused + 1) ∧
        u = { s with cmd := u.cmd, wall := u.wall, linkA := u.linkA, linkB := u.linkB, flt := u.flt } ∧ NoNewFault s u) ∧
  -- PING: arguments that the catalogue does not give it: BAD_LEN
  (∀ (s : State) (q : CmdReq), s.Calm → SvcTakes s q 0x01 → q.args ≠ [] → Completes (.ping q) s fun u =>
      Answered s u q 0x01 0x03 [] ∧ u = { s with cmd := u.cmd, flt := u.flt } ∧ NoNewFault s u) ∧
  -- WRITE: by a WALL port while Ward is fenced: FENCED
  (∀ (s : State) (q : CmdReq), s.Calm → q.port = .b → s.active .b = true → q.dest = s.wall.id → q.dest ≠ 0xFFF → s.copyOf q = none →
    q.flags = 0 → q.zero = 0 → q.argLen = 8 → q.args.length = 8 → leAt q.args 0 4 = 0x20000 → s.unitFenced 3 = true →
    Completes (.write q) s fun u =>
      u.cmd.lastStatus = 0x0B ∧ u.cmd.refused = min 65535 (s.cmd.refused + 1) ∧ u.tum = s.tum ∧
        u = { s with cmd := u.cmd, wall := u.wall, linkA := u.linkA, linkB := u.linkB, flt := u.flt } ∧ NoNewFault s u) ∧
  -- WRITE: by a WALL port with a tag that fails: BAD_TAG, and nothing written
  (∀ (s : State) (q : CmdReq), s.Calm → q.port = .b → s.active .b = true → q.dest = s.wall.id → q.dest ≠ 0xFFF → s.copyOf q = none →
    q.flags = 0 → q.zero = 0 → q.argLen = 8 → q.args.length = 8 → leAt q.args 0 4 = 0x20000 → s.unitFenced 3 = false →
    s.ward.session = none → s.ward.previous = none → s.cmd.tagWindowB = [] → Completes (.write q) s fun u =>
      u.cmd.lastStatus = 0x07 ∧ u.cmd.refused = min 65535 (s.cmd.refused + 1) ∧ u.cmd.tagFail = min 65535 (s.cmd.tagFail + 1) ∧
        u.cmd.tagFailSrc = q.src ∧ u.tum = s.tum) ∧
  -- LIGHT_ON: in a state for which R252 has no mark: REFUSED_STATE
  (∀ (s : State) (q : CmdReq), s.Calm → q.port = .service → s.running = true → s.pwr.sealHigh = false → s.svcBusy = false →
    s.copyOf q = none → q.flags.toNat / 2 = 0 → q.zero = 0 → q.argLen = 0 → q.args = [] → s.eng.st ≠ .dark →
    Completes (.lightOn q) s fun u =>
      Answered s u q 0x10 0x05 [] ∧ u.eng = s.eng ∧ u = { s with cmd := u.cmd, flt := u.flt } ∧ NoNewFault s u) ∧
  -- LIGHT_ON: a copy of a command already replied to: its stored reply, and nothing else
  (∀ (s : State) (e : Recent) (b : List Byte) (q : CmdReq), s.Calm → q.port = .service → s.running = true → s.pwr.sealHigh = false →
    s.svcBusy = false → s.copyOf q = some e → e.reply = some b → b ≠ [] → Completes (.lightOn q) s fun u =>
      u.cmd = { s.cmd with svcReply := some b, svcRead := false } ∧ u = { s with cmd := u.cmd, flt := u.flt } ∧ NoNewFault s u) ∧
  -- SAFE_REQ: while a command executes on the service port: discarded and counted
  (∀ (s : State) (q : CmdReq), s.Calm → q.port = .service → s.running = true → s.pwr.sealHigh = false → s.svcBusy = true →
    Completes (.safeReq q) s fun u =>
      u.cmd = { s.cmd with svcErrors := min 65535 (s.cmd.svcErrors + 1) } ∧ u = { s with cmd := u.cmd, flt := u.flt } ∧ NoNewFault s u)

/-- The service port itself: what a REPLY transaction returns, what is discarded, and a change of the seal -/
def Obligations.ServicePortEvents : Prop :=
  -- SERVICE_REPLY: the reply is ready, or was read before
  (∀ (s : State) (b : List Byte), s.Calm → s.running = true → s.pwr.sealHigh = false → s.svcBusy = false → s.cmd.svcReply = some b →
    Completes .serviceReply s fun u =>
      (u.cmd = { s.cmd with svcRead := true, svcOut := (if s.cmd.svcRead = true then [0x03] else [0x02]) ++ (leBytes 2 b.length ++ b) ++ leBytes 4 (crc32c (leBytes 2 b.length ++ b)) }) ∧
        u = { s with cmd := u.cmd, flt := u.flt } ∧ NoNewFault s u) ∧
  -- SERVICE_REPLY: a command executes, or nothing is held
  (∀ (s : State), s.Calm → s.running = true → s.pwr.sealHigh = false → (s.svcBusy = true ∨ s.cmd.svcReply = none) →
    Completes .serviceReply s fun u =>
      (u.cmd = { s.cmd with svcOut := if s.svcBusy = true then [0x01] else [0x00] }) ∧ u = { s with cmd := u.cmd, flt := u.flt } ∧
        NoNewFault s u) ∧
  -- SERVICE_WRITE: a transaction that is no WRITE of a valid command block
  (∀ (s : State) (bits : List Bool), s.Calm → s.running = true → s.pwr.sealHigh = false → (lsbBytes bits).head? ≠ some 0x5D →
    writeValid (lsbBytes bits) = false → Completes (.serviceWrite bits) s fun u =>
      u.cmd = { s.cmd with svcErrors := min 65535 (s.cmd.svcErrors + 1) } ∧ u = { s with cmd := u.cmd, flt := u.flt } ∧ NoNewFault s u) ∧
  -- SERVICE_WRITE: while the seal is intact: ignored
  (∀ (s : State) (bits : List Bool), s.Calm → s.pwr.sealHigh = true → Completes (.serviceWrite bits) s fun u =>
      u = s) ∧
  -- SEAL_CHANGE: opened
  (∀ (s : State), s.Calm → s.running = true → s.pwr.sealHigh = true → Completes (.sealChange false) s fun u =>
      u.pwr = { s.pwr with sealHigh := false } ∧ u.ward = { s.ward with sealOpenings := min 65535 (s.ward.sealOpenings + 1) } ∧
        u.nvm.logQueue.length = s.nvm.logQueue.length + 1 ∧ u = { s with pwr := u.pwr, ward := u.ward, nvm := u.nvm, flt := u.flt } ∧
        NoNewFault s u) ∧
  -- SEAL_CHANGE: closed
  (∀ (s : State), s.Calm → s.running = true → s.pwr.sealHigh = false → Completes (.sealChange true) s fun u =>
      u.pwr = { s.pwr with sealHigh := true } ∧ u.nvm.logQueue.length = s.nvm.logQueue.length + 1 ∧
        u = { s with pwr := u.pwr, nvm := u.nvm, flt := u.flt } ∧ NoNewFault s u)

/-- COMMIT, MODE, COLOUR_TAKE, CAL, MEAS, STORE, DOORBELL and PROG_LOAD: what each asks of its unit, and its reply or that it comes later -/
def Obligations.PictureCommandsComplete : Prop :=
  -- COMMIT
  (∀ (s : State) (q : CmdReq), s.Calm → SvcTakes s q 0x04 → q.args.length = 4 → s.unitFenced 0 = false → s.comp.queue = [] →
    Completes (.commit q) s fun u =>
      u.comp.queue = [{ mask := BitVec.ofNat 16 (leAt q.args 0 2), globals := (BitVec.ofNat 8 (leAt q.args 2 1)).getLsbD 0, token := BitVec.ofNat 8 (leAt q.args 3 1), by_ := .command .service 0 q.cmdId 0 }] ∧
        (u.comp.admitting = some { layers := s.comp.layers.map fun l => l.shadow, bg := s.comp.bg, conf := s.comp.conf } ∧
        Awaited s u q 0x04) ∧ u = { s with comp := u.comp, cmd := u.cmd, flt := u.flt } ∧ NoNewFault s u) ∧
  -- COMMIT: four wait already: BUSY with the result word
  (∀ (s : State) (q : CmdReq), s.Calm → SvcTakes s q 0x04 → q.args.length = 4 → s.unitFenced 0 = false → s.comp.queue.length = 5 →
    Completes (.commit q) s fun u =>
      Answered s u q 0x04 0x06 [6, 0, BitVec.ofNat 8 (leAt q.args 3 1), 0] ∧ u = { s with cmd := u.cmd, flt := u.flt } ∧ NoNewFault s u) ∧
  -- MODE
  (∀ (s : State) (m : Mode) (q : CmdReq), s.Calm → SvcTakes s q 0x05 → q.args.length = 16 → s.unitFenced 0 = false →
    s.comp.pendingMode = none →
    s.modeOf (BitVec.ofNat 32 (leAt q.args 0 4)) (BitVec.ofNat 32 (leAt q.args 4 4)) (BitVec.ofNat 32 (leAt q.args 8 4)) (BitVec.ofNat 32 (leAt q.args 12 4)) = some m →
    s.modeStale m = false → s.modeFits m = true → Completes (.mode q) s fun u =>
      u.comp = { s.comp with pendingMode := some m, vblankUs := m.vblankUs } ∧ Answered s u q 0x05 0 [] ∧
        u = { s with comp := u.comp, cmd := u.cmd, flt := u.flt } ∧ NoNewFault s u) ∧
  -- COLOUR_TAKE
  (∀ (s : State) (q : CmdReq), s.Calm → SvcTakes s q 0x06 → q.args.length = 4 → s.unitFenced 1 = false → s.col.landings = [] →
    leAt q.args 0 1 % 4 ≠ 0 → Completes (.colourTake q) s fun u =>
      (u.col.landings = [{ env := if leAt q.args 0 1 % 2 = 1 then some s.col.envShadow else none, colour := if leAt q.args 0 1 / 2 % 2 = 1 then some s.col.shadow else none, token := BitVec.ofNat 8 (leAt q.args 3 1), by_ := .command .service 0 q.cmdId 0 }]) ∧
        u.col.active = s.col.active ∧ u.col.envActive = s.col.envActive ∧ Awaited s u q 0x06 ∧
        u = { s with col := u.col, cmd := u.cmd, flt := u.flt } ∧ NoNewFault s u) ∧
  -- COLOUR_TAKE: neither group
  (∀ (s : State) (q : CmdReq), s.Calm → SvcTakes s q 0x06 → q.args.length = 4 → s.unitFenced 1 = false → leAt q.args 0 1 % 4 = 0 →
    s.losers 21 = [] → Completes (.colourTake q) s fun u =>
      u.col = { s.col with resCode := 0, resToken := BitVec.ofNat 8 (leAt q.args 3 1), resFresh := true } ∧
        Answered s u q 0x06 0 [0, BitVec.ofNat 8 (leAt q.args 3 1), 0, 0] ∧
        u = { s with col := u.col, tum := u.tum, cmd := u.cmd, flt := u.flt } ∧ NoNewFault s u) ∧
  -- CAL
  (∀ (s : State) (x : CalReq) (q : CmdReq), s.Calm → SvcTakes s q 0x07 → q.args.length = 12 → s.unitFenced 1 = false →
    calReq (BitVec.ofNat 32 (leAt q.args 0 4)) (BitVec.ofNat 32 (leAt q.args 4 4)) (BitVec.ofNat 32 (leAt q.args 8 4)) = some x →
    s.col.calQueue = [] → Completes (.cal q) s fun u =>
      u.col = { s.col with calQueue := [x] } ∧ Answered s u q 0x07 0 [] ∧ u = { s with col := u.col, cmd := u.cmd, flt := u.flt } ∧
        NoNewFault s u) ∧
  -- MEAS
  (∀ (s : State) (q : CmdReq), s.Calm → SvcTakes s q 0x08 → q.args.length = 4 → s.rings.cairnOn = false → s.rings.sweep = .none →
    (leAt q.args 0 1 % 4 = 1 ∨ leAt q.args 0 1 % 4 = 2) → Completes (.meas q) s fun u =>
      (u.rings = { s.rings with sweep := if leAt q.args 0 1 % 4 = 1 then .vf else .os, interval := max 1 (leAt q.args 0 2 / 4 % 256), toNext := 0, rounds := 0, sent := none, measFresh := false } ∧
        Answered s u q 0x08 0 []) ∧ u = { s with rings := u.rings, cmd := u.cmd, flt := u.flt } ∧ NoNewFault s u) ∧
  -- STORE: settings
  (∀ (s : State) (q : CmdReq), s.Calm → SvcTakes s q 0x09 → q.args = [0, 0, 0, 0] → s.pwr.noNewStore = false → s.unitFenced 9 = false →
    s.nvm.storing .settings = false → Completes (.store q) s fun u =>
      u.nvm = { s.nvm with jobSettings := some s.snapshot, stKind := 0, stValid := false, stFresh := false, settingsAgain := false } ∧
        Answered s u q 0x09 0 [] ∧ u = { s with nvm := u.nvm, cmd := u.cmd, flt := u.flt } ∧ NoNewFault s u) ∧
  -- STORE: settings, while one runs: BUSY
  (∀ (s : State) (q : CmdReq), s.Calm → SvcTakes s q 0x09 → q.args = [0, 0, 0, 0] → s.unitFenced 9 = false →
    s.nvm.storing .settings = true → Completes (.store q) s fun u =>
      Answered s u q 0x09 0x06 [] ∧ u = { s with cmd := u.cmd, flt := u.flt } ∧ NoNewFault s u) ∧
  -- DOORBELL
  (∀ (s : State) (q : CmdReq), s.Calm → SvcTakes s q 0x0A → q.args.length = 4 → s.unitFenced 5 = false → s.tum.doorbell.length < 4 →
    s.losers 11 = [] → Completes (.doorbell q) s fun u =>
      u.tum.doorbell = s.tum.doorbell ++ [BitVec.ofNat 32 (leAt q.args 0 4)] ∧ Answered s u q 0x0A 0 [] ∧ (∀ n, (s.thread n).st = .ready →
        (u.thread n).pending = (s.thread n).pending ||| 0x800) ∧ u = { s with tum := u.tum, cmd := u.cmd, flt := u.flt } ∧ NoNewFault s u) ∧
  -- DOORBELL: four words wait: BUSY
  (∀ (s : State) (q : CmdReq), s.Calm → SvcTakes s q 0x0A → q.args.length = 4 → s.unitFenced 5 = false → s.tum.doorbell.length = 4 →
    Completes (.doorbell q) s fun u =>
      Answered s u q 0x0A 0x06 [] ∧ u = { s with cmd := u.cmd, flt := u.flt } ∧ NoNewFault s u) ∧
  -- PROG_LOAD
  (∀ (s : State) (i n : Nat) (q : CmdReq), s.Calm → SvcTakes s q 0x0B → q.args.length = 4 + 4 * n → leAt q.args 0 4 = i → 1 ≤ n →
    n ≤ 2048 → i + n ≤ 16384 → s.allHalted = true → s.unitFenced 5 = false → Completes (.progLoad q) s fun u =>
      (∀ j, u.progWord j = if i ≤ j ∧ j < i + n then BitVec.ofNat 32 (leAt q.args (4 + 4 * (j - i)) 4) else s.progWord j) ∧
        u.tum.threads = s.tum.threads ∧ u.tum.dmem = s.tum.dmem ∧ Answered s u q 0x0B 0 [] ∧
        u = { s with tum := u.tum, cmd := u.cmd, flt := u.flt } ∧ NoNewFault s u)

/-- LIGHT_ON, LIGHT_OFF, SAFE_REQ, FAULT_ACK, CONFIG_REFRESH and SHUTDOWN: the state they lead to and what they start -/
def Obligations.LightAndSafetyCommandsComplete : Prop :=
  -- LIGHT_ON
  (∀ (s : State) (q : CmdReq), s.Calm → SvcTakes s q 0x10 → q.args = [] → s.eng.stale = false → s.safeDemand = false →
    s.criticalOpen = false → s.losers 24 = [] → Completes (.lightOn q) s fun u =>
      u.eng = { s.eng with st := .lit, prev := .dark, transCount := min 65535 (s.eng.transCount + 1) } ∧ Answered s u q 0x10 0 [] ∧
        (u.saf = (if s.saf.straps.getLsbD 4 = true ∧ s.saf.wdgArmed = false then { s.saf with wdgArmed := true, wdgExpired := false }
        else s.saf)) ∧ u = { s with eng := u.eng, tum := u.tum, saf := u.saf, cmd := u.cmd, flt := u.flt } ∧ NoNewFault s u) ∧
  -- LIGHT_ON: STALE, a safety demand or an open CRITICAL record: REFUSED_STATE
  (∀ (s : State) (q : CmdReq), s.Calm → SvcTakes s q 0x10 → q.args = [] →
    (s.eng.stale = true ∨ s.safeDemand = true ∨ s.criticalOpen = true) → Completes (.lightOn q) s fun u =>
      Answered s u q 0x10 0x05 [] ∧ u.eng = s.eng ∧ u = { s with cmd := u.cmd, flt := u.flt } ∧ NoNewFault s u) ∧
  -- LIGHT_OFF
  (∀ (s : State) (q : CmdReq), s.Calm → SvcTakes s q 0x11 → q.args = [] → s.losers 24 = [] → Completes (.lightOff q) s fun u =>
      u.eng = { s.eng with st := .dark, prev := .lit, transCount := min 65535 (s.eng.transCount + 1) } ∧
        u.rings = { s.rings with zeroFrame := true } ∧ Answered s u q 0x11 0 [] ∧
        u = { s with eng := u.eng, tum := u.tum, rings := u.rings, nvm := u.nvm, cmd := u.cmd, flt := u.flt } ∧ NoNewFault s u) ∧
  -- SAFE_REQ
  (∀ (s : State) (q : CmdReq), s.Calm → SvcTakes s q 0x12 → q.args = [2, 0, 0, 0] → s.saf.func ≠ some .slo → s.losers 23 = [] →
    s.losers 24 = [] → s.eng.leaving = false → Completes (.safeReq q) s fun u =>
      u.saf.request = some .slo ∧ u.eng.st = .safe ∧ u.OutputsOff ∧ u.saf.sloOut = true ∧ Answered s u q 0x12 0 []) ∧
  -- SAFE_REQ: no such function: BAD_LEN
  (∀ (s : State) (q : CmdReq), s.Calm → SvcTakes s q 0x12 → q.args.length = 4 → (leAt q.args 0 4 = 0 ∨ 4 ≤ leAt q.args 0 4) →
    Completes (.safeReq q) s fun u =>
      Answered s u q 0x12 0x03 [] ∧ u = { s with cmd := u.cmd, flt := u.flt } ∧ NoNewFault s u) ∧
  -- FAULT_ACK: a record of S0 or S1 faults
  (∀ (s : State) (r : FaultRecord) (q : CmdReq), s.Calm → SvcTakes s q 0x13 → q.args.length = 4 → leAt q.args 0 4 ≠ 0xFFFFFFFF →
    s.flt.records.find? (fun r => r.number == BitVec.ofNat 32 (leAt q.args 0 4)) = some r → r.members.all (fun m =>
    decide (m.sev.val < 2)) = true → Completes (.faultAck q) s fun u =>
      (u.flt.slots = s.flt.slots.map (fun x => x.map fun x => if x.number = r.number then { x with acked := true } else x)) ∧
        ((∀ c ∈ u.flt.conds, c ∈ s.flt.conds) ∧ u.flt.fences = s.flt.fences ∧ u.flt.ringFences = s.flt.ringFences ∧
        Answered s u q 0x13 0 []) ∧ u = { s with cmd := u.cmd, flt := u.flt }) ∧
  -- FAULT_ACK: an S2 record of the composer whose condition is gone: its fence lifts
  (∀ (s : State) (r : FaultRecord) (q : CmdReq), s.Calm → SvcTakes s q 0x13 → q.args.length = 4 → leAt q.args 0 4 = r.number.toNat →
    r.number ≠ 0xFFFFFFFF → s.flt.slots = some r :: List.replicate 63 none →
    r.members = [{ src := 0x43, detail := 0, sev := 2, react := true, unit := .unit 0 }] → s.flt.conds = [] →
    Completes (.faultAck q) s fun u =>
      (u.unitFenced 0 = false ∧ (∀ i, i ≠ 0 → u.unitFenced i = s.unitFenced i) ∧
        u.flt.slots = some { r with acked := true } :: List.replicate 63 none ∧ Answered s u q 0x13 0 []) ∧
        u = { s with cmd := u.cmd, flt := u.flt }) ∧
  -- FAULT_ACK: no such record: BAD_ADDR; its condition present: NOT_READY
  (∀ (s : State) (q : CmdReq), s.Calm → SvcTakes s q 0x13 → q.args.length = 4 → leAt q.args 0 4 ≠ 0xFFFFFFFF →
    (match s.flt.records.find? (fun r => r.number == BitVec.ofNat 32 (leAt q.args 0 4)) with
    | none => true
    | some r => s.ackBlocked r) = true → Completes (.faultAck q) s fun u =>
      (Answered s u q 0x13 (if (s.flt.records.find? (fun r => r.number == BitVec.ofNat 32 (leAt q.args 0 4))).isNone = true then 0x02
        else 0x09) []) ∧ u = { s with cmd := u.cmd, flt := u.flt } ∧ NoNewFault s u) ∧
  -- CONFIG_REFRESH
  (∀ (s : State) (q : CmdReq), s.Calm → SvcTakes s q 0x14 → q.args.length = 8 → s.pwr.noNewStore = false → s.unitFenced 9 = false →
    s.nvm.storing .settings = false → Completes (.configRefresh q) s fun u =>
      u.cmd.wallEpoch = BitVec.ofNat 32 (leAt q.args 0 4) ∧ u.cmd.settingsEpoch = BitVec.ofNat 32 (leAt q.args 4 4) ∧
        u.eng = { s.eng with stale := false } ∧ u.nvm.settingsUid = s.col.ident.uid ∧ ((u.nvm.jobSettings.map fun x =>
        (x.wallEpoch, x.settingsEpoch, x.tileUid)) = some (u.cmd.wallEpoch, u.cmd.settingsEpoch, s.col.ident.uid) ∧
        (s.unitFenced 4 = false → u.col.userStore = true) ∧ Answered s u q 0x14 0 []) ∧
        u = { s with cmd := u.cmd, nvm := u.nvm, eng := u.eng, col := u.col, flash := u.flash, flt := u.flt } ∧ NoNewFault s u) ∧
  -- SHUTDOWN
  (∀ (s : State) (q : CmdReq), s.Calm → SvcTakes s q 0x15 → q.args = [] → s.pwr.noNewStore = false → s.unitFenced 9 = false →
    s.nvm.storing .settings = false → s.cmd.shutdownFrom = none → Completes (.shutdown q) s fun u =>
      (u.eng.st ≠ .lit ∧ u.nvm.jobSettings.isSome = true ∧ (s.unitFenced 4 = false → u.age.busy = true ∧ u.col.userStore = true) ∧
        u.ward.openRec = none) ∧
        u.cmd.shutdownFrom = some { port := .service, src := 0, cmdId := q.cmdId, opcode := 0x15, quiet := q.flags.getLsbD 0, session := 0 } ∧
        Awaited s u q 0x15) ∧
  -- SHUTDOWN: while one runs: BUSY
  (∀ (s : State) (q : CmdReq), s.Calm → SvcTakes s q 0x15 → q.args = [] → s.cmd.shutdownFrom.isSome = true →
    Completes (.shutdown q) s fun u =>
      Answered s u q 0x15 0x06 [] ∧ u = { s with cmd := u.cmd, flt := u.flt } ∧ NoNewFault s u)

/-- UPDATE_START, UPDATE_ABORT, RESTART, ENTER_SERVICE, LEAVE_SERVICE, SAFETY_PARAM and NVM_ERASE: what each changes -/
def Obligations.UpdateAndServiceCommandsComplete : Prop :=
  -- UPDATE_START
  (∀ (s : State) (q : CmdReq), s.Calm → SvcTakes s q 0x18 → q.args.length = 1024 → s.unitFenced 9 = false → s.pwr.noNewStore = false →
    s.unitFenced 3 = false → s.losers 24 = [] → s.losers 19 = [] → Completes (.updateStart q) s fun u =>
      (if s.formatFits q.args = true ∧ s.headerCheck q.args = 0 then (u.eng.st = .update ∧ u.eng.beforeUpdate = s.eng.st ∧
        u.nvm.phase = .erasing ∧ u.nvm.updTarget = s.stageSlot ∧ (u.nvm.slot s.stageSlot).header = q.args ∧
        u.nvm.slot (!s.stageSlot) = s.nvm.slot (!s.stageSlot) ∧ u.bootRec.slot s.stageSlot = .staging ∧ u.rings.sweep = .none ∧
        Answered s u q 0x18 0 (leBytes 4 (b2n s.stageSlot))) else (u.hasCond 0xD4 0 = true ∧ u.nvm.phase = s.nvm.phase ∧
        u.nvm.boot = s.nvm.boot ∧ u.cmd.lastStatus ≠ 0))) ∧
  -- UPDATE_ABORT
  (∀ (s : State) (q : CmdReq), s.Calm → SvcTakes s q 0x19 → q.args = [] → (s.eng.beforeUpdate = .dark ∨ s.eng.beforeUpdate = .lit) →
    s.losers 24 = [] → Completes (.updateAbort q) s fun u =>
      u.eng.st = s.eng.beforeUpdate ∧ u.nvm.phase = .failed ∧ u.nvm.updFresh = true ∧ u.bootRec.slot s.nvm.updTarget = .invalid ∧
        u.nvm.slot0 = s.nvm.slot0 ∧ u.nvm.slot1 = s.nvm.slot1 ∧ Answered s u q 0x19 0 []) ∧
  -- RESTART
  (∀ (s : State) (q : CmdReq), s.Calm → SvcTakes s q 0x1A → q.args = [] → s.nvm.phase = .staged → s.unitFenced 9 = false →
    s.pwr.noNewStore = false → s.unitFenced 4 = false → s.eng.noImage = false → s.age.busy = false → Completes (.restart q) s fun u =>
      u.age.forRestart = true ∧ u.age.busy = true ∧ u.bootRec.slot s.nvm.updTarget = .trial ∧ u.bootRec.tries = 1 ∧
        u.pwr.logicHeld = s.pwr.logicHeld ∧ Answered s u q 0x1A 0 []) ∧
  -- RESTART: no ledger to store: the reset follows at once
  (∀ (s : State) (q : CmdReq), s.Calm → SvcTakes s q 0x1A → q.args = [] → s.nvm.phase = .staged → s.unitFenced 9 = false →
    s.pwr.noNewStore = false → s.eng.noImage = true → s.age.busy = false → s.age.forRestart = false → Completes (.restart q) s fun u =>
      u.eng.st = .standby ∧ u.pwr.logicHeld = true ∧ u.pwr.cause = .restart ∧ u.bootRec.slot s.stageSlot = .trial ∧ u.bootRec.tries = 1) ∧
  -- RESTART: without an image, a slot that the boot control record holds STAGED
  (∀ (s : State) (q : CmdReq), s.Calm → q.port = .service → s.running = true → s.pwr.sealHigh = false → s.svcBusy = false →
    s.copyOf q = none → q.flags.toNat / 2 = 0 → q.zero = 0 → q.argLen = 0 → q.args = [] → s.unitFenced 9 = false →
    s.pwr.noNewStore = false → s.eng.st = .service → s.eng.noImage = true → s.bootRec.slot s.stageSlot = .staged → s.age.busy = false →
    s.age.forRestart = false → Completes (.restart q) s fun u =>
      u.eng.st = .standby ∧ u.pwr.logicHeld = true ∧ u.pwr.cause = .restart ∧ u.bootRec.slot s.stageSlot = .trial ∧ u.bootRec.tries = 1) ∧
  -- RESTART: nothing staged: NOT_READY
  (∀ (s : State) (q : CmdReq), s.Calm → SvcTakes s q 0x1A → q.args = [] → s.mayRestart = false → s.unitFenced 9 = false →
    Completes (.restart q) s fun u =>
      Answered s u q 0x1A 0x09 [] ∧ u = { s with cmd := u.cmd, flt := u.flt } ∧ NoNewFault s u) ∧
  -- ENTER_SERVICE
  (∀ (s : State) (q : CmdReq), s.Calm → SvcTakes s q 0x30 → q.args = [] → s.losers 24 = [] → s.losers 19 = [] →
    Completes (.enterService q) s fun u =>
      (u.eng.st = .service ∧ u.rings.sweep = .none ∧ u.allHalted = true ∧ (∀ n, n < 8 → (s.thread n).st ≠ .halted →
        (u.thread n).cause = 11) ∧ Answered s u q 0x30 0 []) ∧
        u = { s with eng := u.eng, rings := u.rings, tum := u.tum, cmd := u.cmd, flt := u.flt } ∧ NoNewFault s u) ∧
  -- LEAVE_SERVICE
  (∀ (s : State) (q : CmdReq), s.Calm → s.TumShaped → SvcTakes s q 0x31 → q.args = [] → s.eng.joined = true → s.safeDemand = false →
    s.criticalOpen = false → s.led.on = true → s.unitFenced 5 = false → s.losers 24 = [] → Completes (.leaveService q) s fun u =>
      u.eng.st = .dark ∧ u.rings.zeroFrame = true ∧ Answered s u q 0x31 0 [] ∧ (s.nvm.retained.newest retainedLayout = none →
        u.tum.dmem = []) ∧ (u.tum.progCode = progCheck s ∧ (progCheck s = stOk → ∀ n, n < 8 → progEntry s n ≠ 0xFFFF →
        (u.thread n).st = .ready ∧ (u.thread n).pc = progEntry s n)) ∧
        u = { s with eng := u.eng, rings := u.rings, tum := u.tum, comp := u.comp, col := u.col, nvm := u.nvm, cmd := u.cmd, flt := u.flt } ∧
        NoNewFault s u) ∧
  -- SAFETY_PARAM
  (∀ (s : State) (p : SafetyParams) (q : CmdReq), s.Calm → SvcTakes s q 0x33 → q.args.length = 32 → s.unitFenced 9 = false →
    s.pwr.noNewStore = false → paramsOf s.saf.straps q.args = some p → Completes (.safetyParam q) s fun u =>
      (u.saf.params = p ∧ u.saf.paramsOk = true ∧ ((u.nvm.safety.newest safetyLayout).map fun c => c.body) = some p ∧
        u.hasSrc 0xC3 = false ∧ Answered s u q 0x33 0 (leBytes 4 p.pcrc.toNat)) ∧ (s.saf.selftestOk = true → s.safeDemand = false →
        u.saf.drvEnA = true ∧ u.saf.drvEnB = true ∧ u.saf.vledDis = false)) ∧
  -- SAFETY_PARAM: a set that breaks R387: BAD_LEN
  (∀ (s : State) (q : CmdReq), s.Calm → SvcTakes s q 0x33 → q.args.length = 32 → s.unitFenced 9 = false →
    paramsOf s.saf.straps q.args = none → Completes (.safetyParam q) s fun u =>
      Answered s u q 0x33 0x03 [] ∧ u = { s with cmd := u.cmd, flt := u.flt } ∧ NoNewFault s u) ∧
  -- NVM_ERASE: the log
  (∀ (s : State) (q : CmdReq), s.Calm → SvcTakes s q 0x34 → q.args = [3, 0, 0, 0] → s.unitFenced 9 = false → s.pwr.noNewStore = false →
    Completes (.nvmErase q) s fun u =>
      u.nvm = { s.nvm with log := [] } ∧ Answered s u q 0x34 0 [] ∧ u = { s with nvm := u.nvm, cmd := u.cmd, flt := u.flt } ∧
        NoNewFault s u) ∧
  -- NVM_ERASE: firmware slots: one that is CONFIRMED stays
  (∀ (s : State) (q : CmdReq), s.Calm → SvcTakes s q 0x34 → q.args = [5, 0, 0, 0] → s.unitFenced 9 = false → s.pwr.noNewStore = false →
    s.bootRec.slot0 = .confirmed → s.bootRec.slot1 ≠ .confirmed → Completes (.nvmErase q) s fun u =>
      u.bootRec.slot0 = .confirmed ∧ u.bootRec.slot1 = .empty ∧ u.nvm.slot0 = s.nvm.slot0 ∧ u.nvm.slot1 = {} ∧ Answered s u q 0x34 0 [] ∧
        u = { s with nvm := u.nvm, cmd := u.cmd, flt := u.flt } ∧ NoNewFault s u) ∧
  -- NVM_ERASE: no such region: BAD_LEN
  (∀ (s : State) (q : CmdReq), s.Calm → SvcTakes s q 0x34 → q.args.length = 4 → s.unitFenced 9 = false →
    (leAt q.args 0 4 = 0 ∨ 7 ≤ leAt q.args 0 4) → Completes (.nvmErase q) s fun u =>
      Answered s u q 0x34 0x03 [] ∧ u = { s with cmd := u.cmd, flt := u.flt } ∧ NoNewFault s u)

/-- ATTEST, PROOF_READ, SESSION_OPEN, OWNER_ENROLL and DEBUG_UNLOCK: the result, and what Ward changes when its checks pass and when they fail -/
def Obligations.WardCommandsComplete : Prop :=
  -- ATTEST
  (∀ (s : State) (q : CmdReq), s.Calm → SvcTakes s q 0x20 → q.args.length = 16 → s.unitFenced 3 = false → Completes (.attest q) s fun u =>
      u.ward = { s.ward with drawn := s.ward.drawn + 1 } ∧
        Answered s u q 0x20 0 (s.attestBody q.args ++ padTo 96 (s.ward.sign (s.attestBody q.args)) ++ s.ward.identityCert.take 256) ∧
        u = { s with ward := u.ward, cmd := u.cmd, flt := u.flt } ∧ NoNewFault s u) ∧
  -- ATTEST: while Ward is fenced: FENCED
  (∀ (s : State) (q : CmdReq), s.Calm → SvcTakes s q 0x20 → q.args.length = 16 → s.unitFenced 3 = true → Completes (.attest q) s fun u =>
      Answered s u q 0x20 0x0B [] ∧ u = { s with cmd := u.cmd, flt := u.flt } ∧ NoNewFault s u) ∧
  -- PROOF_READ
  (∀ (s : State) (q : CmdReq), s.Calm → SvcTakes s q 0x21 → q.args.length = 8 → leAt q.args 6 2 = 0 → 1 ≤ leAt q.args 4 2 →
    leAt q.args 4 2 ≤ 16 → Completes (.proofRead q) s fun u =>
      Answered s u q 0x21 0 (s.ward.proofRead (leAt q.args 0 4) (leAt q.args 4 2)) ∧ u = { s with cmd := u.cmd, flt := u.flt } ∧
        NoNewFault s u) ∧
  -- PROOF_READ: none, or more than 16 records: BAD_LEN
  (∀ (s : State) (q : CmdReq), s.Calm → SvcTakes s q 0x21 → q.args.length = 8 → leAt q.args 6 2 = 0 →
    (leAt q.args 4 2 = 0 ∨ 16 < leAt q.args 4 2) → Completes (.proofRead q) s fun u =>
      Answered s u q 0x21 0x03 [] ∧ u = { s with cmd := u.cmd, flt := u.flt } ∧ NoNewFault s u) ∧
  -- SESSION_OPEN: a number below the high-water mark: STALE
  (∀ (s : State) (q : CmdReq), s.Calm → SvcTakes s q 0x22 → q.args.length = 68 → leAt q.args 4 4 = 0 → s.unitFenced 3 = false →
    leAt q.args 0 4 < s.ward.highWater.toNat → Completes (.sessionOpen q) s fun u =>
      Answered s u q 0x22 0x0C [] ∧ u.hasCond 0xB2 0 = true ∧ u.ward.highWater = s.ward.highWater) ∧
  -- SESSION_OPEN: the wrapped secret opens under K_swrap
  (∀ (s : State) (q : CmdReq), s.Calm → SvcTakes s q 0x22 → q.args.length = 68 → leAt q.args 4 4 = 0 → s.unitFenced 3 = false →
    s.ward.highWater.toNat ≤ leAt q.args 0 4 →
    (gcmOpen s.ward.kSwrap (slice q.args 8 12) (slice q.args 0 8) (slice q.args 20 32) (slice q.args 52 16)).isSome = true →
    Completes (.sessionOpen q) s fun u =>
      Answered s u q 0x22 0 (leBytes 4 (leAt q.args 0 4)) ∧
        u.ward.session = some { no := BitVec.ofNat 32 (leAt q.args 0 4), secret := key256 ((gcmOpen s.ward.kSwrap (slice q.args 8 12) (slice q.args 0 8) (slice q.args 20 32) (slice q.args 52 16)).getD []), entries := [] } ∧
        u.ward.highWater.toNat = max s.ward.highWater.toNat (leAt q.args 0 4) ∧ (∀ x, s.ward.session = some x →
        x.no.toNat < leAt q.args 0 4 → u.ward.previous = some x) ∧ u = { s with ward := u.ward, cmd := u.cmd, flt := u.flt } ∧
        NoNewFault s u) ∧
  -- SESSION_OPEN: it does not: BAD_SIG
  (∀ (s : State) (q : CmdReq), s.Calm → SvcTakes s q 0x22 → q.args.length = 68 → leAt q.args 4 4 = 0 → s.unitFenced 3 = false →
    s.ward.highWater.toNat ≤ leAt q.args 0 4 →
    gcmOpen s.ward.kSwrap (slice q.args 8 12) (slice q.args 0 8) (slice q.args 20 32) (slice q.args 52 16) = none →
    Completes (.sessionOpen q) s fun u =>
      Answered s u q 0x22 0x08 [] ∧ u.hasCond 0xB2 0 = true ∧ u.ward.session = s.ward.session ∧ u.ward.highWater = s.ward.highWater) ∧
  -- OWNER_ENROLL: accepted: a release, or the K_wall that the enrolment wraps
  (∀ (s : State) (k : BitVec 256) (q : CmdReq), s.Calm → SvcTakes s q 0x32 → enrollOk q.args = true → s.unitFenced 3 = false →
    s.enrollCheck q.args = 0 → (if leAt q.args 0 1 = 3 then some 0 else s.unwrapWall q.args) = some k →
    Completes (.ownerEnroll q) s fun u =>
      (u.ward.owned = decide (leAt q.args 0 1 ≠ 3) ∧ u.ward.kWall = k ∧ u.ward.slots = [] ∧ u.ward.session = none ∧
        u.ward.previous = none ∧ u.ward.enrollCount = min 65535 (s.ward.enrollCount + 1) ∧ u.ward.ownerPub = (if leAt q.args 0 1 = 3 then
        [] else slice q.args 0x24 96)) ∧ u.col.idleOk = false ∧ u.hasCond 0xB5 (leAt q.args 0 1) = true ∧
        Answered s u q 0x32 0 (leBytes 4 u.ward.enrollCount)) ∧
  -- OWNER_ENROLL: the first row of R347 that fails
  (∀ (s : State) (q : CmdReq), s.Calm → SvcTakes s q 0x32 → enrollOk q.args = true → s.unitFenced 3 = false → s.enrollCheck q.args ≠ 0 →
    Completes (.ownerEnroll q) s fun u =>
      Answered s u q 0x32 (s.enrollCheck q.args) [] ∧ u.ward = s.ward) ∧
  -- DEBUG_UNLOCK: MODE 0: a challenge
  (∀ (s : State) (q : CmdReq), s.Calm → SvcTakes s q 0x35 → q.args = [0, 0, 0, 0] → s.ward.owned = true → s.unitFenced 3 = false →
    Completes (.debugUnlock q) s fun u =>
      u.ward = { s.ward with challenge := some (Config.drbg s.ward.drawn), drawn := s.ward.drawn + 1 } ∧
        Answered s u q 0x35 0 (bytes256 (Config.drbg s.ward.drawn)) ∧ u = { s with ward := u.ward, cmd := u.cmd, flt := u.flt } ∧
        NoNewFault s u) ∧
  -- DEBUG_UNLOCK: MODE 1: the challenge that stands, signed by the owner
  (∀ (s : State) (q : CmdReq), s.Calm → SvcTakes s q 0x35 → q.args.length = 132 → leAt q.args 0 4 = 1 → s.ward.owned = true →
    s.unitFenced 3 = false → s.unlockSigned q.args = true → s.ward.challenge.map bytes256 = some (slice q.args 4 32) →
    Completes (.debugUnlock q) s fun u =>
      Answered s u q 0x35 0 [] ∧ u.ward.debugOpen = true ∧ u.ward.debugSinceReset = true ∧ u.ward.slots = [] ∧ u.ward.session = none ∧
        u.ward.challenge = none ∧ u.ward.debugUnlocks = min 65535 (s.ward.debugUnlocks + 1) ∧ u.hasCond 0xB6 0 = true) ∧
  -- DEBUG_UNLOCK: MODE 1: another challenge, or one that has ended
  (∀ (s : State) (q : CmdReq), s.Calm → SvcTakes s q 0x35 → q.args.length = 132 → leAt q.args 0 4 = 1 → s.ward.owned = true →
    s.unitFenced 3 = false → s.unlockSigned q.args = true → s.ward.challenge.map bytes256 ≠ some (slice q.args 4 32) →
    Completes (.debugUnlock q) s fun u =>
      Answered s u q 0x35 0x0C [] ∧ u.ward = s.ward) ∧
  -- DEBUG_UNLOCK: MODE 1: a signature that fails
  (∀ (s : State) (q : CmdReq), s.Calm → SvcTakes s q 0x35 → q.args.length = 132 → leAt q.args 0 4 = 1 → s.ward.owned = true →
    s.unitFenced 3 = false → s.unlockSigned q.args = false → Completes (.debugUnlock q) s fun u =>
      Answered s u q 0x35 0x08 [] ∧ u.ward = s.ward)

/-- Ward’s key slots, sessions, proof records and fences: a key load, a slot emptied, the end of a previous session, a signature, the end of a challenge -/
def Obligations.WardKeysAndRecords : Prop :=
  -- KEY_LOAD: the load starts; the key stands in the slot once it completes
  (∀ (s : State) (src : Source) (w : Word), s.Calm → s.canAccess src = true → s.accessLegal src true (0x3880) = true → src ≠ .tumbler →
    s.unitFenced 3 = false → s.ward.keyBusy = false → w.getLsbD 9 = false → s.keyLoadCode w = 0 → Completes (.keyLoad src w) s fun u =>
      u.acc = some { source := src, addr := 0x3880, data := 0, status := 0 } ∧ u.ward.keyCode = 0 ∧ u.ward.keySlot = w.toNat % 256 ∧
        u.ward.keyBusy = true ∧ u.ward.keyFresh = false ∧ u.ward.slots = s.ward.slots ∧
        u.keyDone.keySlot (w.toNat % 256) = some { key := key256 ((s.openBlob (w.toNat % 256) (w.toNat / 256 % 2)).getD []), gmac := w.getLsbD 8, gen := s.ward.keyGen } ∧
        (∀ n, n ≠ w.toNat % 256 → u.keyDone.keySlot n = s.keySlot n) ∧ u.keyDone.ward.keyBusy = false ∧ u.keyDone.ward.keyFresh = true ∧
        u = { s with ward := u.ward, acc := u.acc, flt := u.flt } ∧ NoNewFault s u) ∧
  -- KEY_LOAD: one that fails: KEY_LOAD_FAIL at its end
  (∀ (s : State) (src : Source) (w : Word), s.Calm → s.canAccess src = true → s.accessLegal src true (0x3880) = true → src ≠ .tumbler →
    s.unitFenced 3 = false → s.ward.keyBusy = false → s.keyLoadCode w ≠ 0 → Completes (.keyLoad src w) s fun u =>
      u.acc = some { source := src, addr := 0x3880, data := 0, status := 0 } ∧ u.ward.keyCode = s.keyLoadCode w ∧
        u.ward.keySlot = w.toNat % 256 ∧ u.ward.keyBusy = true ∧ u.keyDone.ward.slots = s.ward.slots ∧ u.keyDone.hasCond 0xB3 0 = true ∧
        u = { s with ward := u.ward, acc := u.acc, flt := u.flt } ∧ NoNewFault s u) ∧
  -- KEY_LOAD: with no session open: REFUSED_STATE is posted
  (∀ (s : State) (src : Source) (w : Word), s.Calm → s.canAccess src = true → s.accessLegal src true (0x3880) = true → src ≠ .tumbler →
    s.unitFenced 3 = false → s.ward.keyBusy = false → w.getLsbD 9 = false → s.ward.session = none → s.ward.previous = none →
    Completes (.keyLoad src w) s fun u =>
      u.acc = some { source := src, addr := 0x3880, data := 0, status := 0 } ∧ u.ward.keyCode = 0x05 ∧
        u.keyDone.ward.slots = s.ward.slots ∧ u.keyDone.hasCond 0xB3 0 = true ∧
        u = { s with ward := u.ward, acc := u.acc, flt := u.flt } ∧ NoNewFault s u) ∧
  -- KEY_LOAD: while Ward is fenced
  (∀ (s : State) (src : Source) (w : Word), s.Calm → s.canAccess src = true → s.accessLegal src true 0x3880 = true → src ≠ .tumbler →
    s.unitFenced 3 = true → Completes (.keyLoad src w) s fun u =>
      u.acc = some { source := src, addr := 0x3880, data := 0, status := 0x0B } ∧ u = { s with acc := u.acc, flt := u.flt } ∧
        NoNewFault s u) ∧
  -- KEY_CLEAR
  (∀ (s : State) (src : Source) (w : Word), s.Calm → s.canAccess src = true → s.accessLegal src true (0x3880) = true → src ≠ .tumbler →
    s.unitFenced 3 = false → s.ward.keyBusy = false → Completes (.keyClear src w) s fun u =>
      u.acc = some { source := src, addr := 0x3880, data := 0, status := 0 } ∧ (u.ward.keyCode = 0 ∧ u.ward.keyBusy = true ∧
        u.keyDone.keySlot (w.toNat % 256) = none ∧ (∀ n, n ≠ w.toNat % 256 → u.keyDone.keySlot n = s.keySlot n)) ∧
        (∀ n, u.keyDone.ctx n = if (s.ctx n).w0.toNat / 256 % 256 = w.toNat % 256 then { s.ctx n with any := false } else s.ctx n) ∧
        u = { s with ward := u.ward, acc := u.acc, flt := u.flt } ∧ NoNewFault s u) ∧
  -- PREVIOUS_SESSION_END
  (∀ (s : State), s.Calm → s.ward.previous.isSome = true → Completes .previousSessionEnd s fun u =>
      u.ward = { s.ward with previous := none } ∧ u = { s with ward := u.ward, flt := u.flt } ∧ NoNewFault s u) ∧
  -- PROOF_RECORD_SIGNED
  (∀ (s : State) (r : ProofRec) (l : List ProofRec), s.Calm → s.running = true → s.unitFenced 3 = false → s.ward.unsigned = r :: l →
    Completes .proofRecordSigned s fun u =>
      u.ward.unsigned = l ∧ u.ward.drawn = s.ward.drawn + 1 ∧ u.ward.records.length = min 256 (s.ward.records.length + 1) ∧
        ((u.ward.records.head?.map fun x => (x.no, x.flips, x.layers, x.flags)) = some (r.no, r.flips, r.layers, r.flags) ∧
        u.ward.records.tail = s.ward.records.take 255) ∧ ((u.ward.records.head?.map fun x => x.prevHash) = some (if r.first then 0
        else (s.ward.records.head?.map fun q => sha256 q.bytes).getD 0)) ∧ ((u.ward.records.head?.map fun x =>
        x.signature) = u.ward.records.head?.map fun x => s.ward.sign x.body) ∧ u = { s with ward := u.ward, flt := u.flt } ∧
        NoNewFault s u) ∧
  -- DEBUG_CHALLENGE_EXPIRY
  (∀ (s : State), s.Calm → s.ward.challenge.isSome = true → Completes .debugChallengeExpiry s fun u =>
      u.ward = { s.ward with challenge := none } ∧ u = { s with ward := u.ward, flt := u.flt } ∧ NoNewFault s u) ∧
  -- WARD_ENTROPY
  (∀ (s : State), s.Calm → s.running = true → s.hasCond 0xB0 0 = false → s.flt.sevOf 0xB0 = 2 → Completes .wardEntropy s fun u =>
      u.unitFenced 3 = true ∧ u.hasCond 0xB0 0 = true ∧ u.ward = { s.ward with session := none, previous := none } ∧ u.eng = s.eng) ∧
  -- WARD_SEALED_ECC
  (∀ (s : State), s.Calm → s.running = true → s.hasCond 0xB1 0 = false → s.flt.sevOf 0xB1 = 2 → Completes .wardSealedEcc s fun u =>
      u.unitFenced 3 = true ∧ u.hasCond 0xB1 0 = true ∧ u.ward = { s.ward with session := none, previous := none } ∧ u.eng = s.eng)

/-- The hardwired inputs: a channel that goes safe or healthy, test pulses, a discrepancy, the acknowledgement press -/
def Obligations.SafetyInputsComplete : Prop :=
  -- INPUT_SAFE: an SLO input: the cause arises, SLO is performed, the engine is in SAFE
  (∀ (s : State) (input : InputAB) (ch : Bool), s.Calm → s.saf.inputFunc input = some .slo → (if ch then (s.saf.input input).filt1
    else (s.saf.input input).filt0) = true → s.saf.straps.getLsbD 4 = false → s.saf.func ≠ some .slo →
    (s.eng.st = .join ∨ s.eng.st = .dark ∨ s.eng.st = .lit ∨ s.eng.st = .safe) → s.losers 23 = [] → s.losers 24 = [] →
    s.eng.leaving = false → Completes (.inputSafe input ch) s fun u =>
      u.saf.cause (causeOf input) = some .slo ∧ u.OutputsOff ∧ u.saf.sloOut = true ∧ u.eng.st = .safe ∧
        u.hasCond 0xC9 (demandDetail (causeOf input) .slo) = ((s.saf.cause (causeOf input)).isNone || s.hasCond 0xC9 (demandDetail (causeOf input) .slo)) ∧
        (u.saf.input input).filt0 = ((s.saf.input input).filt0 && ch) ∧ (u.saf.input input).filt1 = ((s.saf.input input).filt1 && !ch) ∧
        (u.saf.input input).faulted = (s.saf.input input).faulted) ∧
  -- INPUT_SAFE: the acknowledgement input demands nothing
  (∀ (s : State) (input : InputAB) (ch : Bool), s.Calm → s.saf.inputFunc input = none → s.eng.st ≠ .off → (if ch then
    (s.saf.input input).filt1 else (s.saf.input input).filt0) = true → Completes (.inputSafe input ch) s fun u =>
      u.saf.causes = s.saf.causes ∧ (u.saf.input input).filt0 = ((s.saf.input input).filt0 && ch) ∧
        (u.saf.input input).filt1 = ((s.saf.input input).filt1 && !ch) ∧ u = { s with saf := u.saf, flt := u.flt } ∧ NoNewFault s u) ∧
  -- INPUT_HEALTHY: one channel, the other still safe: no cause clears
  (∀ (s : State) (input : InputAB) (ch : Bool) (pressMs : Nat), s.Calm → s.eng.st ≠ .off → (if ch then (s.saf.input input).filt1
    else (s.saf.input input).filt0) = false → (if ch then (s.saf.input input).filt0 else (s.saf.input input).filt1) = false →
    Completes (.inputHealthy input ch pressMs) s fun u =>
      u.saf.causes = s.saf.causes ∧ (u.saf.input input).filt0 = !ch ∧ (u.saf.input input).filt1 = ch ∧ u.saf.ackReady = s.saf.ackReady ∧
        u = { s with saf := u.saf, flt := u.flt } ∧ NoNewFault s u) ∧
  -- INPUT_HEALTHY: the end of a press on the acknowledgement input
  (∀ (s : State) (input : InputAB) (ch : Bool) (pressMs : Nat), s.Calm → s.eng.st ≠ .off → input = .b → s.saf.inputFunc .b = none →
    (if ch then (s.saf.input input).filt1 else (s.saf.input input).filt0) = false → (if ch then (s.saf.input input).filt0
    else (s.saf.input input).filt1) = true → (s.saf.input input).faulted = false → Completes (.inputHealthy input ch pressMs) s fun u =>
      (u.saf.ackReady = (s.saf.ackReady || decide (100 ≤ pressMs ∧ pressMs ≤ 5000)) ∧ u.saf.longPress = (if 5000 < pressMs then
        min 255 (s.saf.longPress + 1) else s.saf.longPress) ∧ u.saf.causes = s.saf.causes) ∧ u = { s with saf := u.saf, flt := u.flt } ∧
        NoNewFault s u) ∧
  -- TEST_PULSE: passed on both inputs, neither FAULTED
  (∀ (s : State) (output : Bool) (failA : Bool) (failB : Bool), s.Calm → s.running = true → s.eng.st ≠ .boot → s.saf.params.tpEn = true →
    failA = false → failB = false → s.saf.inputA.faulted = false → s.saf.inputB.faulted = false →
    Completes (.testPulse output failA failB) s fun u =>
      u.saf.inputA.tpFails = 0 ∧ u.saf.inputB.tpFails = 0 ∧ u.saf.inputA.faulted = false ∧ u.saf.causes = s.saf.causes ∧
        u.saf.tpFailCount = s.saf.tpFailCount ∧ u = { s with saf := u.saf, flt := u.flt } ∧ NoNewFault s u) ∧
  -- TEST_PULSE: a second failure in a row latches input A FAULTED
  (∀ (s : State) (output : Bool) (failA : Bool) (failB : Bool), s.Calm → s.running = true → s.eng.st ≠ .boot → s.saf.params.tpEn = true →
    failA = true → failB = false → s.saf.inputA.tpFails = 1 → s.saf.inputFunc .a = some .slo →
    Completes (.testPulse output failA failB) s fun u =>
      u.saf.inputA.faulted = true ∧ u.saf.inA = some .slo ∧ u.hasCond 0xC7 0 = true ∧ u.saf.tpFailCount = min 255 (s.saf.tpFailCount + 1)) ∧
  -- INPUT_DISCREPANCY
  (∀ (s : State) (input : InputAB), s.Calm → s.running = true → s.saf.params.discMs ≤ (s.saf.input input).discCount →
    (s.saf.input input).byDisc = false → s.saf.inputFunc input = some .slo → Completes (.inputDiscrepancy input) s fun u =>
      (u.saf.input input).faulted = true ∧ u.saf.cause (causeOf input) = some .slo ∧ u.hasCond 0xC6 (inputNo input) = true) ∧
  -- INPUT_DISCREPANCY: while the logic die is held in reset: the monitor latches the input
  (∀ (s : State) (input : InputAB), s.Calm → s.eng.st = .standby → s.saf.params.discMs ≤ (s.saf.input input).discCount →
    (s.saf.input input).byDisc = false → s.saf.inputFunc input = some .slo → Completes (.inputDiscrepancy input) s fun u =>
      (u.saf.input input).faulted = true ∧ u.saf.cause (causeOf input) = some .slo ∧ u = { s with saf := u.saf, flt := u.flt } ∧
        NoNewFault s u) ∧
  -- ACK_PRESS: the last cause clears: the drive enables return, and SAFE is left for DARK
  (∀ (s : State), s.Calm → s.saf.ackReady = true → s.saf.inA = none → s.saf.inB = none → s.saf.bcDemand = none → s.saf.watchdog = none →
    s.saf.request.isSome = true → s.eng.st = .safe → s.eng.noImage = false → s.eng.joined = true → s.saf.selftestOk = true →
    s.saf.paramsOk = true → s.losers 23 = [] → s.losers 24 = [] → Completes .ackPress s fun u =>
      (u.saf.func = none ∧ u.saf.ackReady = false ∧ u.saf.drvEnA = true ∧ u.saf.drvEnB = true ∧ u.saf.vledDis = false ∧
        u.saf.sloOut = false ∧ u.eng.st = .dark ∧ u.saf.ackRefused = min 255 s.saf.ackRefused)) ∧
  -- ACK_PRESS: a cause whose reset condition does not hold stays, and is counted
  (∀ (s : State), s.Calm → s.running = true → s.saf.ackReady = true → s.saf.inA.isSome = true → s.saf.inB = none → s.saf.bcDemand = none →
    s.saf.watchdog = none → s.saf.request = none → s.saf.inputA.filt0 = false → Completes .ackPress s fun u =>
      u.saf = { s.saf with ackReady := false, ackRefused := min 255 (s.saf.ackRefused + 1) } ∧ u = { s with saf := u.saf, flt := u.flt } ∧
        NoNewFault s u)

/-- The monitor’s ticks and deadlines: the fade, channel comparison, the alive toggle, the checks of SLO and the sign’s drive enables -/
def Obligations.SafetyMonitorComplete : Prop :=
  -- SAFETY_TICK: nothing wrong, no fade
  (∀ (s : State) (obs : TickObs), s.Calm → s.running = true → s.saf.fading = false → obs.mismatch = false → obs.pinFail = false →
    Completes (.safetyTick obs) s fun u =>
      u.saf.sinceMs = min 65535 (s.saf.sinceMs + 1) ∧ u.saf.xMism = 0 ∧ u.saf.causes = s.saf.causes ∧ u.saf.ceiling = s.saf.ceiling ∧
        (u.saf.inputA.discCount = (if s.saf.inputA.filt0 = s.saf.inputA.filt1 then 0 else min 65535 (s.saf.inputA.discCount + 1))) ∧
        u = { s with saf := u.saf, flt := u.flt } ∧ NoNewFault s u) ∧
  -- SAFETY_TICK: channels that differ
  (∀ (s : State) (obs : TickObs), s.Calm → s.running = true → s.saf.fading = false → obs.mismatch = true → obs.pinFail = false →
    Completes (.safetyTick obs) s fun u =>
      u.saf.xMism = min 2 (s.saf.xMism + 1) ∧ u.saf.xcompare = min 255 (s.saf.xcompare + 1) ∧ u.saf.causes = s.saf.causes ∧
        u = { s with saf := u.saf, flt := u.flt } ∧ NoNewFault s u) ∧
  -- SAFETY_TICK: while the logic die is held in reset: the monitor counts on
  (∀ (s : State) (obs : TickObs), s.Calm → s.eng.st = .standby → Completes (.safetyTick obs) s fun u =>
      (u.saf.inputA.discCount = (if s.saf.inputA.filt0 = s.saf.inputA.filt1 then 0 else min 65535 (s.saf.inputA.discCount + 1)) ∧
        u.saf.inputA.raw0 = obs.raw.getLsbD 0 ∧ u.saf.inputA.raw1 = obs.raw.getLsbD 1) ∧
        u.saf = { s.saf with inputA := u.saf.inputA, inputB := u.saf.inputB } ∧ u = { s with saf := u.saf, flt := u.flt } ∧
        NoNewFault s u) ∧
  -- SAFETY_TICK: a step of the fade
  (∀ (s : State) (obs : TickObs), s.Calm → s.running = true → s.saf.fading = true → obs.mismatch = false → obs.pinFail = false →
    0 < s.saf.fadeL0 →
    20 * obs.phaseMa * s.saf.fadeL0 ≤ 20 * s.saf.fadeI0 * s.saf.ceil1 + s.saf.fadeI0 * s.saf.fadeL0 + 10000 * s.saf.fadeL0 →
    obs.maxEcho ≤ s.saf.ceiling → Completes (.safetyTick obs) s fun u =>
      u.saf.fadeTick = s.saf.fadeTick + 1 ∧
        u.saf.ceiling = s.saf.fadeL0 * (s.saf.params.fadeMs - (s.saf.fadeTick + 1)) / s.saf.params.fadeMs ∧ u.saf.ceil1 = s.saf.ceiling ∧
        u.saf.fading = true ∧ u = { s with saf := u.saf, rings := u.rings, flt := u.flt } ∧ NoNewFault s u) ∧
  -- SAFETY_TICK: a fade whose phase current stays above the ceiling: SLO at once
  (∀ (s : State) (obs : TickObs), s.Calm → (s.eng.st = .join ∨ s.eng.st = .dark ∨ s.eng.st = .lit ∨ s.eng.st = .safe) →
    s.saf.fading = true → obs.mismatch = false → obs.pinFail = false → 0 < s.saf.fadeL0 →
    20 * s.saf.fadeI0 * s.saf.ceil1 + s.saf.fadeI0 * s.saf.fadeL0 + 10000 * s.saf.fadeL0 < 20 * obs.phaseMa * s.saf.fadeL0 →
    s.hasCond 0xC5 0 = false → Completes (.safetyTick obs) s fun u =>
      (u.hasCond 0xC5 0 = true ∧ u.saf.fading = false ∧ u.OutputsOff ∧ u.saf.sloOut = true ∧ u.saf.internal = some .slo ∧
        (s.eng.leaving = false → u.eng.st = .safe))) ∧
  -- SAFETY_TICK: a fade whose cells stay brighter than the ceiling: SLO at once
  (∀ (s : State) (obs : TickObs), s.Calm → (s.eng.st = .join ∨ s.eng.st = .dark ∨ s.eng.st = .lit ∨ s.eng.st = .safe) →
    s.saf.fading = true → obs.mismatch = false → obs.pinFail = false → s.saf.ceiling < obs.maxEcho → s.hasCond 0xC5 0 = false →
    Completes (.safetyTick obs) s fun u =>
      (u.hasCond 0xC5 0 = true ∧ u.saf.fading = false ∧ u.OutputsOff ∧ u.saf.sloOut = true ∧ u.saf.internal = some .slo ∧
        (s.eng.leaving = false → u.eng.st = .safe))) ∧
  -- SAFETY_TICK: an output that reads back wrong
  (∀ (s : State) (obs : TickObs), s.Calm → (s.eng.st = .join ∨ s.eng.st = .dark ∨ s.eng.st = .lit ∨ s.eng.st = .safe) →
    s.saf.fading = false → obs.pinFail = true → s.hasCond 0xC2 4 = false → s.saf.func ≠ some .slo → Completes (.safetyTick obs) s fun u =>
      (u.hasCond 0xC2 4 = true ∧ u.saf.outFails = min 255 (s.saf.outFails + 1) ∧ u.OutputsOff ∧ u.saf.sloOut = true ∧
        u.saf.internal = some .slo ∧ (s.eng.leaving = false → u.eng.st = .safe))) ∧
  -- SAFETY_XCOMPARE
  (∀ (s : State), s.Calm → (s.eng.st = .join ∨ s.eng.st = .dark ∨ s.eng.st = .lit ∨ s.eng.st = .safe) → s.eng.shutting = false →
    2 ≤ s.saf.xMism → s.hasCond 0xC1 0 = false → Completes .safetyXcompare s fun u =>
      (u.hasCond 0xC1 0 = true ∧ u.saf.xMism = 0 ∧ u.OutputsOff ∧ u.saf.sloOut = true ∧ u.saf.internal = some .slo ∧
        (s.eng.leaving = false → u.eng.st = .safe))) ∧
  -- ALIVE_TIMEOUT
  (∀ (s : State), s.Calm → (s.eng.st = .join ∨ s.eng.st = .dark ∨ s.eng.st = .lit ∨ s.eng.st = .safe) → s.eng.shutting = false →
    s.hasCond 0xC1 1 = false → Completes .aliveTimeout s fun u =>
      (u.hasCond 0xC1 1 = true ∧ u.flt.pairFault = true ∧ u.OutputsOff ∧ u.saf.sloOut = true ∧ u.saf.internal = some .slo ∧
        (s.eng.leaving = false → u.eng.st = .safe))) ∧
  -- FADE_DONE
  (∀ (s : State), s.Calm → s.saf.fading = true → s.saf.params.fadeMs ≤ s.saf.fadeTick → Completes .fadeDone s fun u =>
      u.OutputsOff ∧ u.saf.sloOut = true ∧ u.saf.fading = false ∧ u.saf.fadeDone = true ∧ u.led.on = false ∧ u.saf.causes = s.saf.causes ∧
        u = { s with saf := u.saf, led := u.led, rings := u.rings, flt := u.flt } ∧ NoNewFault s u) ∧
  -- SLO_CHECK: met
  (∀ (s : State) (stage : Fin 3) (obs : SloObs), s.Calm → (if stage = 0 then obs.pinFail else if stage = 1 then decide (500 ≤ obs.phaseMa)
    else obs.cellOn) = false → Completes (.sloCheck stage obs) s fun u =>
      u = s) ∧
  -- SLO_CHECK: missed: SAFETY_OUTPUT with the step as DETAIL
  (∀ (s : State) (stage : Fin 3) (obs : SloObs), s.Calm → (s.eng.st = .join ∨ s.eng.st = .dark ∨ s.eng.st = .lit ∨ s.eng.st = .safe) →
    s.saf.sloOut = true → (if stage = 0 then obs.pinFail else if stage = 1 then decide (500 ≤ obs.phaseMa) else obs.cellOn) = true →
    s.hasCond 0xC2 (stage.val + 1) = false → s.eng.leaving = false → Completes (.sloCheck stage obs) s fun u =>
      u.hasCond 0xC2 (stage.val + 1) = true ∧ u.saf.internal = some .slo ∧ u.saf.sloOut = true ∧ u.eng.st = .safe) ∧
  -- SSG_DRIVE_ENABLE
  (∀ (s : State), s.Calm → s.saf.ssgAsked = true → s.saf.func = some .ssg → s.rings.cairnShown = true → s.eng.st = .safe →
    s.saf.selftestOk = true → s.saf.paramsOk = true → Completes .ssgDriveEnable s fun u =>
      u.saf = { s.saf with drvEnA := true, drvEnB := true, sloOut := false, ssgAsked := false } ∧
        u = { s with saf := u.saf, flt := u.flt } ∧ NoNewFault s u) ∧
  -- SAFETY_STRAP_CHANGED
  (∀ (s : State) (straps : BitVec 6), s.Calm → (s.eng.st = .join ∨ s.eng.st = .dark ∨ s.eng.st = .lit ∨ s.eng.st = .safe) →
    straps ≠ s.saf.straps → s.hasCond 0xC4 0 = false → s.eng.leaving = false → Completes (.safetyStrapChanged straps) s fun u =>
      u.hasCond 0xC4 0 = true ∧ u.saf.straps = s.saf.straps ∧ u.saf.strapsNow = straps ∧ u.saf.internal = some .slo ∧ u.eng.st = .safe)

/-- The black channel: what an accepted master PDU, a DEMAND and an ACK do, what a PDU that fails a check does, the watchdog, and the PDUs that the engine sends -/
def Obligations.BlackChannelComplete : Prop :=
  -- HEARTBEAT
  (∀ (s : State) (p : Port) (pdu : List Byte), s.Calm → s.active p = true → s.saf.straps.getLsbD 4 = true →
    pConn pdu = s.saf.params.masterConn → pKind pdu = 1 → pduOk pdu = true → s.saf.targeted pdu = true → s.masterCheck pdu = 0 →
    Completes (.heartbeat p pdu) s fun u =>
      (u.saf.masterSeen = true ∧ u.saf.masterSeq = BitVec.ofNat 16 (leAt pdu 4 2) ∧ u.saf.masterAlive = BitVec.ofNat 8 (leAt pdu 7 1) ∧
        u.saf.masterTime = BitVec.ofNat 32 (leAt pdu 8 4) ∧ u.saf.masterLocal = s.time.local_ ∧ u.saf.rxOk = min 255 (s.saf.rxOk + 1) ∧
        u.saf.sinceMs = 0 ∧ u.saf.wdgArmed = true ∧ u.saf.wdgExpired = false) ∧ u.saf.causes = s.saf.causes ∧
        u = { s with saf := u.saf, flt := u.flt } ∧ NoNewFault s u) ∧
  -- HEARTBEAT: a sequence number or ALIVE that R391 refuses, or an age out of tolerance
  (∀ (s : State) (p : Port) (pdu : List Byte), s.Calm → s.active p = true → s.saf.straps.getLsbD 4 = true →
    pConn pdu = s.saf.params.masterConn → pKind pdu = 1 → pduOk pdu = true → s.saf.targeted pdu = true → s.masterCheck pdu ≠ 0 →
    Completes (.heartbeat p pdu) s fun u =>
      (u.saf = (if s.masterCheck pdu = 1 then { s.saf with seqErrs := min 255 (s.saf.seqErrs + 1), wdgValidRun := 0 }
        else { s.saf with ageErrs := min 255 (s.saf.ageErrs + 1), wdgValidRun := 0 })) ∧ u = { s with saf := u.saf, flt := u.flt } ∧
        NoNewFault s u) ∧
  -- HEARTBEAT: a CRC or a field that is not valid
  (∀ (s : State) (p : Port) (pdu : List Byte), s.Calm → s.active p = true → s.saf.straps.getLsbD 4 = true → pKind pdu = 1 →
    pduOk pdu = false → Completes (.heartbeat p pdu) s fun u =>
      u.saf.crcErrs = min 255 (s.saf.crcErrs + 1) ∧ u.saf.masterSeen = s.saf.masterSeen ∧ u.saf.sinceMs = s.saf.sinceMs ∧
        u.hasCond 0xCA 0 = true) ∧
  -- DEMAND: by the master: an SLO demand
  (∀ (s : State) (p : Port) (pdu : List Byte), s.Calm → s.active p = true → s.saf.straps.getLsbD 4 = true →
    pConn pdu = s.saf.params.masterConn → pKind pdu = 2 → pduOk pdu = true → s.saf.targeted pdu = true → s.masterCheck pdu = 0 →
    leAt pdu 0x10 1 = 2 → (s.eng.st = .join ∨ s.eng.st = .dark ∨ s.eng.st = .lit ∨ s.eng.st = .safe) → s.losers 23 = [] →
    s.losers 24 = [] → s.eng.leaving = false → Completes (.demand p pdu) s fun u =>
      ((u.saf.masterSeen = true ∧ u.saf.masterSeq = BitVec.ofNat 16 (leAt pdu 4 2) ∧ u.saf.masterAlive = BitVec.ofNat 8 (leAt pdu 7 1) ∧
        u.saf.masterTime = BitVec.ofNat 32 (leAt pdu 8 4) ∧ u.saf.masterLocal = s.time.local_ ∧ u.saf.rxOk = min 255 (s.saf.rxOk + 1) ∧
        u.saf.sinceMs = 0 ∧ u.saf.wdgArmed = true ∧ u.saf.wdgExpired = false) ∧ u.saf.bcDemand = some .slo ∧ u.saf.bcQuiet = false ∧
        u.saf.demandsRx = min 65535 (s.saf.demandsRx + 1) ∧ u.saf.demandFrom = BitVec.ofNat 12 (leAt pdu 0xC 2) ∧ u.saf.func = some .slo ∧
        u.eng.st = .safe)) ∧
  -- DEMAND: by another tile, without the master’s checks
  (∀ (s : State) (p : Port) (pdu : List Byte), s.Calm → s.active p = true → s.saf.straps.getLsbD 4 = true → pKind pdu = 2 →
    pduOk pdu = true → s.saf.targeted pdu = true → pConn pdu ≠ s.saf.params.masterConn → pConn pdu ≠ s.saf.params.ownConn →
    leAt pdu 0x10 1 = 2 → (s.eng.st = .join ∨ s.eng.st = .dark ∨ s.eng.st = .lit ∨ s.eng.st = .safe) → s.losers 23 = [] →
    s.losers 24 = [] → s.eng.leaving = false → Completes (.demand p pdu) s fun u =>
      (u.saf.bcDemand = some .slo ∧ u.saf.rxOk = s.saf.rxOk ∧ u.saf.sinceMs = s.saf.sinceMs ∧ u.saf.func = some .slo ∧ u.eng.st = .safe)) ∧
  -- DEMAND: the engine’s own, come round the wall
  (∀ (s : State) (p : Port) (pdu : List Byte), s.Calm → s.active p = true → s.saf.straps.getLsbD 4 = true → pKind pdu = 2 →
    pduOk pdu = true → s.saf.targeted pdu = true → pConn pdu ≠ s.saf.params.masterConn → pConn pdu = s.saf.params.ownConn →
    Completes (.demand p pdu) s fun u =>
      u.saf = s.saf ∧ u = { s with flt := u.flt } ∧ NoNewFault s u) ∧
  -- ACK: the causes named whose reset condition holds clear
  (∀ (s : State) (p : Port) (pdu : List Byte), s.Calm → s.active p = true → s.saf.straps.getLsbD 4 = true →
    pConn pdu = s.saf.params.masterConn → pKind pdu = 3 → pduOk pdu = true → s.saf.targeted pdu = true → s.masterCheck pdu = 0 →
    leAt pdu 0x10 1 = 0x10 → s.saf.request.isSome = true → s.saf.inA.isSome = true → s.saf.inB = none → s.saf.bcDemand = none →
    s.saf.watchdog = none → s.saf.internal = none → Completes (.ack p pdu) s fun u =>
      (u.saf.masterSeen = true ∧ u.saf.masterSeq = BitVec.ofNat 16 (leAt pdu 4 2) ∧ u.saf.masterAlive = BitVec.ofNat 8 (leAt pdu 7 1) ∧
        u.saf.masterTime = BitVec.ofNat 32 (leAt pdu 8 4) ∧ u.saf.masterLocal = s.time.local_ ∧ u.saf.rxOk = min 255 (s.saf.rxOk + 1) ∧
        u.saf.sinceMs = 0 ∧ u.saf.wdgArmed = true ∧ u.saf.wdgExpired = false) ∧ u.saf.request = none ∧ u.saf.inA = s.saf.inA ∧
        u.saf.ackRefused = min 255 (s.saf.ackRefused + 1)) ∧
  -- STATUS_PDU: from another connection: no effect
  (∀ (s : State) (p : Port) (pdu : List Byte), s.Calm → s.active p = true → s.saf.straps.getLsbD 4 = true → pKind pdu = 4 →
    pduOk pdu = true → s.saf.targeted pdu = true → pConn pdu ≠ s.saf.params.masterConn → Completes (.statusPdu p pdu) s fun u =>
      u.saf = s.saf ∧ u = { s with flt := u.flt } ∧ NoNewFault s u) ∧
  -- STATUS_PDU: from the master
  (∀ (s : State) (p : Port) (pdu : List Byte), s.Calm → s.active p = true → s.saf.straps.getLsbD 4 = true →
    pConn pdu = s.saf.params.masterConn → pKind pdu = 4 → pduOk pdu = true → s.saf.targeted pdu = true → s.masterCheck pdu = 0 →
    Completes (.statusPdu p pdu) s fun u =>
      (u.saf.masterSeen = true ∧ u.saf.masterSeq = BitVec.ofNat 16 (leAt pdu 4 2) ∧ u.saf.masterAlive = BitVec.ofNat 8 (leAt pdu 7 1) ∧
        u.saf.masterTime = BitVec.ofNat 32 (leAt pdu 8 4) ∧ u.saf.masterLocal = s.time.local_ ∧ u.saf.rxOk = min 255 (s.saf.rxOk + 1) ∧
        u.saf.sinceMs = 0 ∧ u.saf.wdgArmed = true ∧ u.saf.wdgExpired = false) ∧ u.saf.causes = s.saf.causes ∧
        u = { s with saf := u.saf, flt := u.flt } ∧ NoNewFault s u) ∧
  -- BC_WATCHDOG
  (∀ (s : State), s.Calm → s.saf.straps.getLsbD 4 = true → (s.eng.st = .join ∨ s.eng.st = .dark ∨ s.eng.st = .lit ∨ s.eng.st = .safe) →
    s.saf.wdgArmed = true → s.saf.wdgExpired = false → s.saf.watchdog = none → s.saf.params.wdgFunc = .slo → s.eng.leaving = false →
    Completes .bcWatchdog s fun u =>
      (u.saf.watchdog = some .slo ∧ u.saf.wdgExpired = true ∧ u.saf.wdgValidRun = 0 ∧ u.saf.wdgTrips = min 255 (s.saf.wdgTrips + 1) ∧
        u.hasCond 0xC8 0 = true ∧ u.saf.func = some .slo ∧ u.eng.st = .safe)) ∧
  -- BC_DEMAND_TIMEOUT
  (∀ (s : State), s.Calm → s.saf.bcDemand.isSome = true → s.saf.bcQuiet = false → Completes .bcDemandTimeout s fun u =>
      u.saf = { s.saf with bcQuiet := true } ∧ u = { s with saf := u.saf, flt := u.flt } ∧ NoNewFault s u) ∧
  -- DEMAND_REPEAT: input A still demands: a broadcast on both ports
  (∀ (s : State) (p : Port), s.Calm → s.saf.straps.getLsbD 4 = true → s.running = true → s.saf.inA.isSome = true →
    s.saf.inputFunc .a = some .slo → s.saf.inputA.filt0 = false → s.saf.inB = none → s.active p = true → (s.link p).queue = [] →
    Completes .demandRepeat s fun u =>
      (((u.link p).queue.map fun f =>
        (hType f.frame.hdr, hDest f.frame.hdr, leAt f.frame.payload 6 1, slice f.frame.payload 0x10 2)) = [(0x05, 0xFFF, 2, [2, 1])]) ∧
        u.saf = { s.saf with ownSeq := s.saf.ownSeq + 1, ownAlive := s.saf.ownAlive + 1, ownRestart := false } ∧
        u = { s with saf := u.saf, wall := u.wall, linkA := u.linkA, linkB := u.linkB, flt := u.flt } ∧ NoNewFault s u) ∧
  -- STATUS_PDU_SEND
  (∀ (s : State), s.Calm → s.saf.straps.getLsbD 4 = true → s.running = true → s.saf.masterSeen = true → s.saf.masterId ≠ 0xFFF →
    s.active (s.outPort s.saf.masterId.toNat) = true → (s.link (s.outPort s.saf.masterId.toNat)).queue = [] →
    Completes .statusPduSend s fun u =>
      (((u.link (s.outPort s.saf.masterId.toNat)).queue.map fun f =>
        (hType f.frame.hdr, hDest f.frame.hdr, leAt f.frame.payload 6 1, leAt f.frame.payload 0x11 1, leAt f.frame.payload 0x14 4)) = [(0x05, s.saf.masterId.toNat, 4, s.saf.causes, s.saf.params.pcrc.toNat)]) ∧
        u.saf = { s.saf with ownSeq := s.saf.ownSeq + 1, ownAlive := s.saf.ownAlive + 1, ownRestart := false } ∧
        u = { s with saf := u.saf, wall := u.wall, linkA := u.linkA, linkB := u.linkB, flt := u.flt } ∧ NoNewFault s u)

/-- The fault collector: conditions that expire, handling that ends, the fault pair, injections and their end, the first-fault register -/
def Obligations.FaultCollectorComplete : Prop :=
  -- FAULT_EVENT_EXPIRY: an event source
  (∀ (s : State) (source : BitVec 8) (detail : BitVec 16), s.Calm → s.running = true → isLevel source.toNat = false →
    Completes (.faultEventExpiry source detail) s fun u =>
      (u.hasCond source.toNat detail.toNat = false ∧ (∀ n d, (n, d) ≠ (source.toNat, detail.toNat) → (n, d) ≠ (0xC2, 0) →
        u.hasCond n d = s.hasCond n d)) ∧ u.flt.slots = s.flt.slots ∧ u.flt.fences = s.flt.fences ∧ u = { s with flt := u.flt } ∧
        NoNewFault s u) ∧
  -- FAULT_EVENT_EXPIRY: a level condition that the outside world ends
  (∀ (s : State) (source : BitVec 8) (detail : BitVec 16), s.Calm → s.running = true → source = 0x43 →
    Completes (.faultEventExpiry source detail) s fun u =>
      u.hasCond 0x43 detail.toNat = false ∧ u.flt.slots = s.flt.slots ∧ u.flt.fences = s.flt.fences) ∧
  -- HANDLING_END
  (∀ (s : State) (number : Word), s.Calm → Completes (.handlingEnd number) s fun u =>
      (u.flt.slots = s.flt.slots.map (fun r => r.map fun r => if r.number = number then { r with handling := false } else r)) ∧
        u.flt.nextNo = s.flt.nextNo ∧ u.flt.fences = s.flt.fences ∧ u.flt.created = s.flt.created ∧ u = { s with flt := u.flt }) ∧
  -- FAULT_PAIR_HEALTHY
  (∀ (s : State), s.Calm → s.pairDemand = false → Completes .faultPairHealthy s fun u =>
      u.flt.pairFault = false ∧ u.flt.slots = s.flt.slots ∧ u = { s with flt := u.flt } ∧ NoNewFault s u) ∧
  -- FAULT_PAIR_HEALTHY: FAULT is still demanded
  (∀ (s : State), s.Calm → s.pairDemand = true → Completes .faultPairHealthy s fun u =>
      u = s) ∧
  -- FLT_PAIR_READBACK
  (∀ (s : State), s.Calm → s.running = true → (s.eng.st = .join ∨ s.eng.st = .dark ∨ s.eng.st = .lit ∨ s.eng.st = .safe) →
    s.hasCond 0x1A 0 = false → s.eng.leaving = false → Completes .fltPairReadback s fun u =>
      (u.flt.mismatches = min 65535 (s.flt.mismatches + (3 - s.flt.readRun)) ∧ u.flt.readRun = 3 ∧ u.hasCond 0x1A 0 = true ∧
        u.saf.internal = some .slo ∧ u.saf.func = some .slo ∧ u.eng.st = .safe)) ∧
  -- FLT_INJECT: a level source, in NO_REACTION mode: held, recorded, and nothing reacts
  (∀ (s : State) (sv : Fin 4) (src : Source) (w : Word), s.Calm → s.canAccess src = true → s.accessLegal src true (0x0830) = true →
    isService src = true → w.toNat / 256 % 2 = 1 → srcInfo (w.toNat % 256) = some (sv, true) →
    s.flt.injHeld.contains (w.toNat % 256) = false → s.flt.injHeld.length < 4 → Completes (.fltInject src w) s fun u =>
      u.acc = some { source := src, addr := 0x0830, data := 0, status := 0 } ∧ u.flt.injHeld = s.flt.injHeld ++ [w.toNat % 256] ∧
        u.flt.injected = min 65535 (s.flt.injected + 1) ∧ (u.flt.fences = s.flt.fences ∧ u.saf = s.saf ∧ u.eng = s.eng ∧ u.led = s.led ∧
        (∀ c ∈ s.flt.conds, c.injected = false → ¬ (c.src = 0xC2 ∧ c.detail = 0) → c ∈ u.flt.conds))) ∧
  -- FLT_INJECT: the composer’s S2 source with reaction: its fence
  (∀ (s : State) (src : Source) (w : Word), s.Calm → s.canAccess src = true → s.accessLegal src true (0x0830) = true →
    isService src = true → w = 0x43 → s.flt.sevOf 0x43 = 2 → s.flt.injHeld = [] → Completes (.fltInject src w) s fun u =>
      u.acc = some { source := src, addr := 0x0830, data := 0, status := 0 } ∧ u.unitFenced 0 = true ∧ u.comp.bgOnly = true ∧
        u.flt.injHeld = [0x43] ∧ u.hasCond 0x43 0 = s.hasCond 0x43 0 ∧ u.eng = s.eng) ∧
  -- FLT_INJECT: a fifth level source: BUSY
  (∀ (s : State) (sv : Fin 4) (src : Source) (w : Word), s.Calm → s.canAccess src = true → s.accessLegal src true 0x0830 = true →
    isService src = true → srcInfo (w.toNat % 256) = some (sv, true) → s.flt.injHeld.contains (w.toNat % 256) = false →
    s.flt.injHeld.length = 4 → Completes (.fltInject src w) s fun u =>
      u.acc = some { source := src, addr := 0x0830, data := 0, status := 0x06 } ∧ u = { s with acc := u.acc, flt := u.flt } ∧
        NoNewFault s u) ∧
  -- FLT_INJECT: a reserved source number: BAD_LEN
  (∀ (s : State) (src : Source) (w : Word), s.Calm → s.canAccess src = true → s.accessLegal src true 0x0830 = true →
    isService src = true → srcInfo (w.toNat % 256) = none → Completes (.fltInject src w) s fun u =>
      u.acc = some { source := src, addr := 0x0830, data := 0, status := 0x03 } ∧ u = { s with acc := u.acc, flt := u.flt } ∧
        NoNewFault s u) ∧
  -- FLT_INJECT: from a port without SERVICE authority: DENIED_PORT
  (∀ (s : State) (src : Source) (w : Word), s.Calm → s.canAccess src = true → isService src = false →
    Completes (.fltInject src w) s fun u =>
      u.acc = some { source := src, addr := 0x0830, data := 0, status := 0x04 } ∧ u = { s with acc := u.acc, flt := u.flt } ∧
        NoNewFault s u) ∧
  -- FLT_INJECT_CLEAR
  (∀ (s : State) (i : Fin 4 × Bool) (src : Source) (w : Word), s.Calm → s.canAccess src = true → s.accessLegal src true (0x0830) = true →
    isService src = true → srcInfo (w.toNat % 256) = some i → Completes (.fltInjectClear src w) s fun u =>
      u.acc = some { source := src, addr := 0x0830, data := 0, status := 0 } ∧ (u.flt.injHeld = s.flt.injHeld.filter (fun n =>
        n != w.toNat % 256) ∧ (∀ c ∈ u.flt.conds, ¬ (c.src = w.toNat % 256 ∧ c.injected = true)) ∧ u.flt.slots = s.flt.slots) ∧
        u.led = { s.led with ocpHeld := u.led.ocpHeld, uvHeld := u.led.uvHeld, onLocal := u.led.onLocal, adcHeld := u.led.adcHeld } ∧
        u = { s with led := u.led, acc := u.acc, flt := u.flt }) ∧
  -- CLR_FIRST
  (∀ (s : State) (src : Source) (w : Word), s.Calm → s.canAccess src = true → s.accessLegal src true (0x080C) = true →
    Completes (.clrFirst src w) s fun u =>
      u.acc = some { source := src, addr := 0x080C, data := 0, status := 0 } ∧ u.flt.first = 0 ∧ u.flt.firstInfo = 0 ∧
        u.flt.slots = s.flt.slots ∧ u.flt.newest = s.flt.newest ∧ u = { s with acc := u.acc, flt := u.flt })

/-- An S2 fault of the flash, the composer or the colour pipeline fences its unit and leaves the engine’s state and the safety causes alone -/
def Obligations.UnitFaultsFence : Prop :=
  -- FLASH_FAIL
  (∀ (s : State), s.Calm → s.running = true → s.hasCond 0xD5 0 = false → s.flt.sevOf 0xD5 = 2 → Completes .flashFail s fun u =>
      (u.hasCond 0xD5 0 = true ∧ u.unitFenced 4 = true ∧ (∀ i, i ≠ 4 → u.unitFenced i = s.unitFenced i) ∧ u.eng = s.eng ∧ u.saf = s.saf ∧
        u.flash = s.flash)) ∧
  -- COMP_INTERNAL
  (∀ (s : State), s.Calm → s.running = true → s.hasCond 0x43 0 = false → s.flt.sevOf 0x43 = 2 → Completes .compInternal s fun u =>
      (u.hasCond 0x43 0 = true ∧ u.unitFenced 0 = true ∧ (∀ i, i ≠ 0 → u.unitFenced i = s.unitFenced i) ∧
        u.comp = { s.comp with bgOnly := true } ∧ u.eng = s.eng ∧ u.saf = s.saf)) ∧
  -- COLOUR_INTERNAL
  (∀ (s : State), s.Calm → s.running = true → s.hasCond 0x55 0 = false → s.flt.sevOf 0x55 = 2 → s.unitFenced 1 = false →
    Completes .colourInternal s fun u =>
      (u.hasCond 0x55 0 = true ∧ u.unitFenced 1 = true ∧ (∀ i, i ≠ 1 → u.unitFenced i = s.unitFenced i) ∧ u.col.halted = true ∧
        u.eng = s.eng ∧ u.saf = s.saf) ∧ (∀ i, i < 6291456 → u.dramByte ((if s.col.front then 0 else 0x600000) + i) = 0))

/-- The check units: a computation started, fed, closed and formed, its comparison, the alive counter and its deadline, the result read -/
def Obligations.CheckUnitsComplete : Prop :=
  -- CHK_START: preset 1
  (∀ (s : State) (k : Fin 4) (src : Source) (w : Word), s.Calm → s.canAccess src = true →
    s.accessLegal src true (0x0C10 + 64 * k.val) = true → s.chk.length = 4 → (s.unit k.val).cfg.toNat % 8 = 1 →
    (s.unit k.val).queue = [] → (s.unit k.val).draining = false → Completes (.chkStart src k w) s fun u =>
      u.acc = some { source := src, addr := 0x0C10 + 64 * k.val, data := 0, status := 0 } ∧
        ((u.unit k.val) = { (s.unit k.val) with width := 32, curPoly := 0x04C11DB7, refin := true, refout := true, curXor := 0xFFFFFFFF, crc := 0xFFFFFFFF, started := true, closed := false, aliveFirst := true, compare := (s.unit k.val).cfg.getLsbD 10, target := (s.unit k.val).cfg.toNat / 65536 % 16 } ∧
        (∀ n, n ≠ k.val → u.unit n = s.unit n)) ∧ u = { s with chk := u.chk, acc := u.acc, flt := u.flt } ∧ NoNewFault s u) ∧
  -- CHK_START: PRESET 0: the parameters of the registers
  (∀ (s : State) (k : Fin 4) (src : Source) (w : Word), s.Calm → s.canAccess src = true →
    s.accessLegal src true (0x0C10 + 64 * k.val) = true → s.chk.length = 4 → (s.unit k.val).cfg.toNat % 8 = 0 →
    (s.unit k.val).queue = [] → (s.unit k.val).draining = false → Completes (.chkStart src k w) s fun u =>
      u.acc = some { source := src, addr := 0x0C10 + 64 * k.val, data := 0, status := 0 } ∧
        ((u.unit k.val) = { (s.unit k.val) with width := (s.unit k.val).cfg.toNat / 8 % 32 + 1, curPoly := (s.unit k.val).poly, refin := (s.unit k.val).cfg.getLsbD 8, refout := (s.unit k.val).cfg.getLsbD 9, curXor := (s.unit k.val).xorout, crc := BitVec.ofNat 32 ((s.unit k.val).init.toNat % 2 ^ ((s.unit k.val).cfg.toNat / 8 % 32 + 1)), started := true, closed := false, aliveFirst := true, compare := (s.unit k.val).cfg.getLsbD 10, target := (s.unit k.val).cfg.toNat / 65536 % 16 } ∧
        (∀ n, n ≠ k.val → u.unit n = s.unit n)) ∧ u = { s with chk := u.chk, acc := u.acc, flt := u.flt } ∧ NoNewFault s u) ∧
  -- CHK_DATA_B
  (∀ (s : State) (k : Fin 4) (src : Source) (w : Word), s.Calm → s.canAccess src = true →
    s.accessLegal src true (0x0C14 + 64 * k.val) = true → s.chk.length = 4 → (s.unit k.val).started = true →
    (s.unit k.val).closed = false → s.unitFenced 8 = false → (s.unit k.val).queue.length < 8 → Completes (.chkDataB src k w) s fun u =>
      u.acc = some { source := src, addr := 0x0C14 + 64 * k.val, data := 0, status := 0 } ∧
        ((u.unit k.val) = { (s.unit k.val) with queue := (s.unit k.val).queue ++ [leBytes 1 (w.toNat % 256)] } ∧ (∀ n, n ≠ k.val →
        u.unit n = s.unit n)) ∧ u = { s with chk := u.chk, acc := u.acc, flt := u.flt } ∧ NoNewFault s u) ∧
  -- CHK_DATA_H
  (∀ (s : State) (k : Fin 4) (src : Source) (w : Word), s.Calm → s.canAccess src = true →
    s.accessLegal src true (0x0C18 + 64 * k.val) = true → s.chk.length = 4 → (s.unit k.val).started = true →
    (s.unit k.val).closed = false → s.unitFenced 8 = false → (s.unit k.val).queue.length < 8 → Completes (.chkDataH src k w) s fun u =>
      u.acc = some { source := src, addr := 0x0C18 + 64 * k.val, data := 0, status := 0 } ∧
        ((u.unit k.val) = { (s.unit k.val) with queue := (s.unit k.val).queue ++ [leBytes 2 (w.toNat % 65536)] } ∧ (∀ n, n ≠ k.val →
        u.unit n = s.unit n)) ∧ u = { s with chk := u.chk, acc := u.acc, flt := u.flt } ∧ NoNewFault s u) ∧
  -- CHK_DATA_W
  (∀ (s : State) (k : Fin 4) (src : Source) (w : Word), s.Calm → s.canAccess src = true →
    s.accessLegal src true (0x0C1C + 64 * k.val) = true → s.chk.length = 4 → (s.unit k.val).started = true →
    (s.unit k.val).closed = false → s.unitFenced 8 = false → (s.unit k.val).queue.length < 8 → Completes (.chkDataW src k w) s fun u =>
      u.acc = some { source := src, addr := 0x0C1C + 64 * k.val, data := 0, status := 0 } ∧
        ((u.unit k.val) = { (s.unit k.val) with queue := (s.unit k.val).queue ++ [leBytes 4 w.toNat] } ∧ (∀ n, n ≠ k.val →
        u.unit n = s.unit n)) ∧ u = { s with chk := u.chk, acc := u.acc, flt := u.flt } ∧ NoNewFault s u) ∧
  -- CHK_DATA_W: before CHK_START, after CHK_CLOSE or while fenced: discarded and counted
  (∀ (s : State) (k : Fin 4) (src : Source) (w : Word), s.Calm → s.canAccess src = true →
    s.accessLegal src true (0x0C1C + 64 * k.val) = true → s.chk.length = 4 →
    ((s.unit k.val).started = false ∨ (s.unit k.val).closed = true ∨ s.unitFenced 8 = true) → Completes (.chkDataW src k w) s fun u =>
      u.acc = some { source := src, addr := 0x0C1C + 64 * k.val, data := 0, status := 0 } ∧
        ((u.unit k.val) = { (s.unit k.val) with discards := min 255 ((s.unit k.val).discards + 1) } ∧ (∀ n, n ≠ k.val →
        u.unit n = s.unit n)) ∧ u = { s with chk := u.chk, acc := u.acc, flt := u.flt } ∧ NoNewFault s u) ∧
  -- CHK_CLOSE
  (∀ (s : State) (k : Fin 4) (src : Source) (w : Word), s.Calm → s.canAccess src = true →
    s.accessLegal src true (0x0C20 + 64 * k.val) = true → s.chk.length = 4 → (s.unit k.val).started = true →
    (s.unit k.val).closed = false → Completes (.chkClose src k w) s fun u =>
      u.acc = some { source := src, addr := 0x0C20 + 64 * k.val, data := 0, status := 0 } ∧
        ((u.unit k.val) = { (s.unit k.val) with closed := true, draining := true, fresh := false } ∧ (∀ n, n ≠ k.val →
        u.unit n = s.unit n)) ∧ u = { s with chk := u.chk, acc := u.acc, flt := u.flt } ∧ NoNewFault s u) ∧
  -- CHK_DRAIN_COMPLETE: preset 1 since its start: the CRC-32 of the bytes fed
  (∀ (s : State) (k : Fin 4), s.Calm → s.chk.length = 4 → (s.unit k.val).draining = true → (s.unit k.val).width = 32 →
    (s.unit k.val).curPoly = 0x04C11DB7 → (s.unit k.val).refin = true → (s.unit k.val).refout = true →
    (s.unit k.val).curXor = 0xFFFFFFFF → (s.unit k.val).crc = 0xFFFFFFFF → (s.unit k.val).compare = false →
    Completes (.chkDrainComplete k) s fun u =>
      ((u.unit k.val).result = BitVec.ofNat 32 (crc32 (s.unit k.val).queue.flatten) ∧ (u.unit k.val).queue = [] ∧
        (u.unit k.val).draining = false ∧ (u.unit k.val).fresh = true ∧ (u.unit k.val).matched = false ∧
        (u.unit k.val).mism = (s.unit k.val).mism ∧ (∀ n, n ≠ k.val → u.unit n = s.unit n)) ∧ u = { s with chk := u.chk, flt := u.flt } ∧
        NoNewFault s u) ∧
  -- CHK_DRAIN_COMPLETE: a comparison that fails
  (∀ (s : State) (k : Fin 4), s.Calm → s.chk.length = 4 → (s.unit k.val).draining = true → (s.unit k.val).queue = [] →
    (s.unit k.val).compare = true → (s.unit k.val).formed ≠ (s.unit k.val).expect → Completes (.chkDrainComplete k) s fun u =>
      ((u.unit k.val).result = (s.unit k.val).formed ∧ (u.unit k.val).matched = false ∧ (u.unit k.val).fresh = true ∧
        (u.unit k.val).mism = min 255 ((s.unit k.val).mism + 1) ∧ u.hasCond (0x10 + k.val) k.val = true ∧ (∀ n, n ≠ k.val →
        u.unit n = s.unit n))) ∧
  -- CHK_DRAIN_COMPLETE: a comparison that holds
  (∀ (s : State) (k : Fin 4), s.Calm → s.chk.length = 4 → (s.unit k.val).draining = true → (s.unit k.val).queue = [] →
    (s.unit k.val).compare = true → (s.unit k.val).formed = (s.unit k.val).expect → Completes (.chkDrainComplete k) s fun u =>
      ((u.unit k.val) = { (s.unit k.val) with draining := false, result := (s.unit k.val).expect, matched := true, fresh := true } ∧
        (∀ n, n ≠ k.val → u.unit n = s.unit n)) ∧ u = { s with chk := u.chk, flt := u.flt } ∧ NoNewFault s u) ∧
  -- CHK_ALIVE_FEED: the first feed after CHK_START, or one on
  (∀ (s : State) (k : Fin 4) (src : Source) (w : Word), s.Calm → s.canAccess src = true →
    s.accessLegal src true (0x0C30 + 64 * k.val) = true → s.chk.length = 4 →
    ((s.unit k.val).aliveFirst = true ∨ w.toNat % (if (s.unit k.val).cfg.getLsbD 11 then 256
    else 16) = ((s.unit k.val).alivePrev + 1) % (if (s.unit k.val).cfg.getLsbD 11 then 256 else 16)) →
    Completes (.chkAliveFeed src k w) s fun u =>
      u.acc = some { source := src, addr := 0x0C30 + 64 * k.val, data := 0, status := 0 } ∧
        ((u.unit k.val) = { (s.unit k.val) with aliveFirst := false, alivePrev := w.toNat % (if (s.unit k.val).cfg.getLsbD 11 then 256 else 16), aliveArmed := true, aliveAt := s.time.local_ } ∧
        (∀ n, n ≠ k.val → u.unit n = s.unit n)) ∧ u = { s with chk := u.chk, acc := u.acc, flt := u.flt } ∧ NoNewFault s u) ∧
  -- CHK_ALIVE_FEED: any other value
  (∀ (s : State) (k : Fin 4) (src : Source) (w : Word), s.Calm → s.canAccess src = true →
    s.accessLegal src true (0x0C30 + 64 * k.val) = true → s.chk.length = 4 → (s.unit k.val).aliveFirst = false →
    w.toNat % (if (s.unit k.val).cfg.getLsbD 11 then 256
    else 16) ≠ ((s.unit k.val).alivePrev + 1) % (if (s.unit k.val).cfg.getLsbD 11 then 256 else 16) →
    Completes (.chkAliveFeed src k w) s fun u =>
      u.acc = some { source := src, addr := 0x0C30 + 64 * k.val, data := 0, status := 0 } ∧
        ((u.unit k.val) = { (s.unit k.val) with alivePrev := w.toNat % (if (s.unit k.val).cfg.getLsbD 11 then 256 else 16), aliveArmed := true, aliveAt := s.time.local_, aliveErrs := min 255 ((s.unit k.val).aliveErrs + 1) } ∧
        u.hasCond (0x14 + k.val) k.val = true ∧ (∀ n, n ≠ k.val → u.unit n = s.unit n))) ∧
  -- ALIVE_DEADLINE
  (∀ (s : State) (k : Fin 4), s.Calm → s.chk.length = 4 → s.running = true → (s.unit k.val).deadlineUs ≠ 0 →
    (s.unit k.val).aliveFirst = false → (s.unit k.val).aliveArmed = true →
    (s.unit k.val).aliveAt + (s.unit k.val).deadlineUs * 65536000 < s.time.local_ → Completes (.aliveDeadline k) s fun u =>
      ((u.unit k.val) = { (s.unit k.val) with aliveArmed := false, timeouts := min 255 ((s.unit k.val).timeouts + 1) } ∧
        u.hasCond (0x14 + k.val) k.val = true ∧ (∀ n, n ≠ k.val → u.unit n = s.unit n))) ∧
  -- CHK_RSTATUS
  (∀ (s : State) (k : Fin 4) (src : Source) (consume : Bool), s.Calm → s.canAccess src = true →
    s.accessLegal src false (0x0C2C + 64 * k.val) = true → s.chk.length = 4 → s.unitFenced 8 = false →
    Completes (.chkRstatus src k consume) s fun u =>
      (u.acc = some { source := src, addr := 0x0C2C + 64 * k.val, data := (if (s.unit k.val).matched then 1 else 0) ||| (if (s.unit k.val).draining then 0 else 0x40000000) ||| (if (s.unit k.val).draining = false ∧ (s.unit k.val).fresh = true then 0x80000000 else 0), status := 0 }) ∧
        ((u.per src).chk k.val = (s.unit k.val).result ∧ (u.unit k.val) = (if (consume = true ∨ (src ≠ .portA ∧ src ≠ .portB)) ∧
        (s.unit k.val).draining = false then { (s.unit k.val) with fresh := false } else (s.unit k.val)) ∧ (∀ n, n ≠ k.val →
        u.unit n = s.unit n)) ∧ u = { s with chk := u.chk, sel := u.sel, acc := u.acc, flt := u.flt } ∧ NoNewFault s u)

/-- BOOT and JOIN: what the start of BOOT takes, and the state that BOOT and JOIN lead to -/
def Obligations.BootAndJoinComplete : Prop :=
  -- BOOT_START
  (∀ (s : State) (obs : BootObs), s.Calm → (s.released = true ∨ (s.eng.st = .boot ∧ s.eng.begun = false)) → s.eng.loaded = false →
    Completes (.bootStart obs) s fun u =>
      u.eng.st = .boot ∧ u.eng.prev = .standby ∧ u.eng.begun = true ∧ u.eng.loaded = (u.eng.noImage || obs.dramOk) ∧
        u.pwr.clksel = obs.clksel ∧ u.pwr.logicHeld = false ∧ u.pwr.rootLock = true ∧ (u.saf.straps = obs.straps ∧
        u.saf.selftestOk = obs.safetyOk ∧ u.ward.katOk = obs.katOk ∧ (obs.safetyOk = false → u.hasCond 0xC0 0 = true) ∧
        (obs.checksOk = false → u.hasCond 0x18 0 = true)) ∧ ((u.eng.noImage = false → obs.dramOk = false → u.hasCond 0x05 0 = true) ∧
        (u.eng.noImage = false → obs.dramOk = true → u.eng.trained = true ∧ u.eng.dramGib = obs.dramGib.toNat))) ∧
  -- BOOT_COMPLETE: without an image: SERVICE
  (∀ (s : State) (ms : BitVec 16) (rings : List RingBring), s.Calm → s.eng.st = .boot → s.eng.loaded = true → s.eng.noImage = true →
    s.losers 24 = [] → Completes (.bootComplete ms rings) s fun u =>
      u.eng.st = .service ∧ u.eng.prev = .boot ∧ u.allHalted = true ∧ u.pwr.bootMs = ms.toNat) ∧
  -- BOOT_COMPLETE: with an image, a healthy start: JOIN
  (∀ (s : State) (ms : BitVec 16) (rings : List RingBring), s.Calm → s.eng.st = .boot → s.eng.loaded = true → s.eng.noImage = false →
    s.therm.trimAsked = false → s.therm.trimBusy = false → s.saf.inputA.filt0 = true → s.saf.inputA.filt1 = true →
    s.saf.inputA.faulted = false → s.saf.inputB.filt0 = true → s.saf.inputB.filt1 = true → s.saf.inputB.faulted = false →
    s.safeDemand = false → s.criticalOpen = false → s.pwr.heldTrips = [] → s.pwr.coreFaultHeld = false → s.rings.rings.length = 64 →
    (∀ k, k < 64 →
    (rings.getD k { found := 0, answered := false, aLast := none, bFirst := none, rtA := 0, rtB := 0, slots := [] }).answered = true ∧
    (rings.getD k { found := 0, answered := false, aLast := none, bFirst := none, rtA := 0, rtB := 0, slots := [] }).slots = [] ∧
    (rings.getD k { found := 0, answered := false, aLast := none, bFirst := none, rtA := 0, rtB := 0, slots := [] }).found.toNat = (s.ring k).expect) →
    s.losers 24 = [] → Completes (.bootComplete ms rings) s fun u =>
      u.eng.st = .join ∧ u.eng.prev = .boot ∧ u.pwr.bootMs = ms.toNat ∧ u.age.joinAt.isSome = true ∧ u.saf.causes = 0 ∧ (∀ k, k < 64 →
        (u.ring k).mode = .ring ∧ (u.ring k).n = (s.ring k).expect) ∧ (s.saf.selftestOk = true → s.saf.paramsOk = true →
        u.saf.drvEnA = true ∧ u.saf.drvEnB = true ∧ u.saf.vledDis = false)) ∧
  -- BOOT_COMPLETE: with an image, an input that demands: SAFE
  (∀ (s : State) (ms : BitVec 16) (rings : List RingBring), s.Calm → s.eng.st = .boot → s.eng.loaded = true → s.eng.noImage = false →
    s.therm.trimAsked = false → s.therm.trimBusy = false → s.saf.inputFunc .a = some .slo → s.saf.inputA.filt0 = false →
    s.saf.inputFunc .b = none → s.saf.straps.getLsbD 4 = false → s.eng.leaving = false → Completes (.bootComplete ms rings) s fun u =>
      u.eng.st = .safe ∧ u.saf.inA = some .slo ∧ u.pwr.bootMs = ms.toNat) ∧
  -- JOIN_COMPLETE
  (∀ (s : State) (ms : BitVec 16), s.Calm → s.eng.st = .join → s.wall.id ≠ 0 → s.wall.assigned.isSome = true →
    s.wall.doneEpoch = s.wall.assigned → s.time.valid = true → s.losers 24 = [] → Completes (.joinComplete ms) s fun u =>
      u.eng = { s.eng with st := .dark, prev := .join, joined := true, transCount := min 65535 (s.eng.transCount + 1) } ∧
        u.pwr = { s.pwr with joinMs := ms.toNat } ∧ u.rings = { s.rings with zeroFrame := true } ∧
        u = { s with eng := u.eng, pwr := u.pwr, rings := u.rings, tum := u.tum, nvm := u.nvm, flt := u.flt } ∧ NoNewFault s u) ∧
  -- JOIN_COMPLETE: nothing happens until all three are met
  (∀ (s : State) (ms : BitVec 16), s.Calm →
    (s.eng.st ≠ .join ∨ s.wall.id = 0 ∨ s.wall.assigned.isSome = false ∨ s.wall.doneEpoch ≠ s.wall.assigned ∨ s.time.valid = false) →
    Completes (.joinComplete ms) s fun u =>
      u = s)

/-- A register read or written by any source: the word, its status, and what a source may not reach -/
def Obligations.AddressMapComplete : Prop :=
  -- REGISTER_READ: DEV_ID
  (∀ (s : State) (src : Source) (addr : Word) (consume : Bool), s.Calm → s.canAccess src = true →
    s.accessLegal src false (addr.toNat) = true → addr = 0 → Completes (.registerRead src addr consume) s fun u =>
      u.acc = some { source := src, addr := 0, data := 0x0B0E1024, status := 0 } ∧ u = { s with acc := u.acc, flt := u.flt } ∧
        NoNewFault s u) ∧
  -- REGISTER_READ: ID_STATE: only a consuming read clears the count
  (∀ (s : State) (src : Source) (addr : Word) (consume : Bool), s.Calm → s.canAccess src = true →
    s.accessLegal src false (addr.toNat) = true → addr = 4 → s.eng.st ≠ .boot → Completes (.registerRead src addr consume) s fun u =>
      (u.acc = some { source := src, addr := 4, data := s.idState, status := 0 } ∧ u.eng = (if consume = true ∨ (src ≠ .portA ∧
        src ≠ .portB) then { s.eng with transCount := 0 } else s.eng)) ∧ u = { s with eng := u.eng, acc := u.acc, flt := u.flt } ∧
        NoNewFault s u) ∧
  -- REGISTER_READ: data memory
  (∀ (s : State) (i : Nat) (src : Source) (addr : Word) (consume : Bool), s.Calm → s.canAccess src = true →
    s.accessLegal src false (addr.toNat) = true → i < 4096 → addr.toNat = 0x20000 + 4 * i →
    Completes (.registerRead src addr consume) s fun u =>
      u.acc = some { source := src, addr := addr.toNat, data := s.dmemWord i, status := 0 } ∧ u = { s with acc := u.acc, flt := u.flt } ∧
        NoNewFault s u) ∧
  -- REGISTER_READ: a misaligned or reserved address: BAD_ADDR
  (∀ (s : State) (src : Source) (addr : Word) (consume : Bool), s.Calm → s.canAccess src = true →
    s.accessLegal src false (addr.toNat) = true → s.readable src addr.toNat = false →
    Completes (.registerRead src addr consume) s fun u =>
      u.acc = some { source := src, addr := addr.toNat, data := 0, status := 0x02 } ∧ u = { s with acc := u.acc, flt := u.flt } ∧
        NoNewFault s u) ∧
  -- REGISTER_READ: a source that can make no access now
  (∀ (s : State) (src : Source) (addr : Word) (consume : Bool), s.Calm → s.canAccess src = false →
    Completes (.registerRead src addr consume) s fun u =>
      u = s) ∧
  -- REGISTER_WRITE: data memory
  (∀ (s : State) (i : Nat) (src : Source) (addr : Word) (w : Word), s.Calm → s.canAccess src = true →
    s.accessLegal src true (addr.toNat) = true → i < 4096 → addr.toNat = 0x20000 + 4 * i →
    Completes (.registerWrite src addr w) s fun u =>
      u.acc = some { source := src, addr := addr.toNat, data := 0, status := 0 } ∧ (∀ j, u.dmemWord j = if j = i then w
        else s.dmemWord j) ∧ u.tum.threads = s.tum.threads ∧ u.tum.prog = s.tum.prog ∧
        u = { s with tum := u.tum, acc := u.acc, flt := u.flt } ∧ NoNewFault s u) ∧
  -- REGISTER_WRITE: program memory: only while every thread is halted
  (∀ (s : State) (i : Nat) (src : Source) (addr : Word) (w : Word), s.Calm → s.canAccess src = true →
    s.accessLegal src true addr.toNat = true → src ≠ .tumbler → i < 16384 → addr.toNat = 0x10000 + 4 * i →
    Completes (.registerWrite src addr w) s fun u =>
      (u.acc = some { source := src, addr := addr.toNat, data := 0, status := if s.allHalted then 0 else 0x05 } ∧
        (∀ j, u.progWord j = if j = i ∧ s.allHalted = true then w else s.progWord j) ∧ u.tum.threads = s.tum.threads) ∧
        u = { s with tum := u.tum, acc := u.acc, flt := u.flt } ∧ NoNewFault s u) ∧
  -- REGISTER_WRITE: HANDLE_US out of its range stores the nearer bound
  (∀ (s : State) (src : Source) (addr : Word) (w : Word), s.Calm → s.canAccess src = true → s.accessLegal src true (addr.toNat) = true →
    addr = 0x0810 → Completes (.registerWrite src addr w) s fun u =>
      u.acc = some { source := src, addr := addr.toNat, data := 0, status := 0 } ∧
        u.flt = { s.flt with handleUs := max 10 (min 10000 (w.toNat % 16384)), conds := u.flt.conds, pairFault := u.flt.pairFault } ∧
        u = { s with flt := u.flt, acc := u.acc }) ∧
  -- REGISTER_WRITE: an address that the source may not write: BAD_ADDR
  (∀ (s : State) (src : Source) (addr : Word) (w : Word), s.Calm → s.canAccess src = true → s.accessLegal src true addr.toNat = true →
    s.writable src addr.toNat = false → Completes (.registerWrite src addr w) s fun u =>
      u.acc = some { source := src, addr := addr.toNat, data := 0, status := 0x02 } ∧ u = { s with acc := u.acc, flt := u.flt } ∧
        NoNewFault s u) ∧
  -- REGISTER_WRITE: a severity, from a port without SERVICE authority: DENIED_PORT
  (∀ (s : State) (src : Source) (addr : Word) (w : Word), s.Calm → s.canAccess src = true → isService src = false → addr = 0x0880 →
    Completes (.registerWrite src addr w) s fun u =>
      u.acc = some { source := src, addr := 0x0880, data := 0, status := 0x04 } ∧ u = { s with acc := u.acc, flt := u.flt } ∧
        NoNewFault s u) ∧
  -- REGISTER_WRITE: a source that can make no access now
  (∀ (s : State) (src : Source) (addr : Word) (w : Word), s.Calm → s.canAccess src = false →
    Completes (.registerWrite src addr w) s fun u =>
      u = s)

/-- One step: the command at the front of the queue runs with the rest of the queue; with an empty queue one CORE cycle passes (log entry 1, the model’s choice). -/
def Obligations.StepRunsCommand : Prop :=
  (∀ (s : State) (c : Instr) (rest : List Instr), s.pending = c :: rest → step s = exec c (s.withPending rest)) ∧
    (∀ s : State, s.pending = [] → step s = .next s.idle)

/-- After reset: BOOT, entered from STANDBY; no command waits; no light; every invariant of this file holds; the registers that the register tables give a reset value other than zero read it. -/
def Obligations.ResetState : Prop :=
  State.reset.eng.st = .boot ∧ State.reset.eng.prev = .standby ∧ State.reset.pending = [] ∧ State.reset.OutputsOff ∧
    State.reset.FaultsHandled ∧ State.reset.MemoryOk ∧ State.reset.Shaped ∧ State.reset.MovesListed ∧ State.reset.DriveAllowed ∧
    State.reset.saf.causes = 0 ∧ State.reset.flt.records = [] ∧ State.reset.flt.fences = 0 ∧ State.reset.allHalted = true ∧
    State.reset.linkA.st = .disabled ∧ State.reset.linkB.st = .disabled ∧
    (∀ p ∈ (
          [(0x1c04, 0xc800c8), (0x1c08, 0xa), (0x1c14, 0x40000000), (0x2000, 0x1), (0x2008, 0x1), (0x2038, 0x100002),
           (0x203c, 0x80008000), (0x2040, 0x8000), (0x2048, 0xffffffff), (0x2050, 0xffff), (0x205c, 0x40000000), (0x2400, 0x9),
           (0x240c, 0x3fffff00), (0x2440, 0x40000000), (0x244c, 0x40000000), (0x2700, 0x400), (0x2704, 0x400), (0x2800, 0x3),
           (0x2804, 0x96), (0x2808, 0x157c09c4), (0x280c, 0xce40ce4), (0x2820, 0x20c80000), (0x2824, 0x37), (0x282c, 0x515),
           (0x2900, 0x20), (0x2904, 0x20), (0x3400, 0x7), (0x3404, 0x40000000), (0x3414, 0xc190000), (0x3420, 0x80008000),
           (0x3424, 0x8000), (0x3438, 0x2ee0940), (0x343c, 0x35202bc), (0x344c, 0x180000), (0x180, 0x40000000), (0x184, 0x40000000),
           (0x20c, 0x1), (0x10c8, 0x1fffffe), (0x1818, 0x1e), (0x1840, 0xffffffff), (0x186c, 0xfe), (0x18cc, 0x40000000),
           (0x3884, 0x40000000), (0x3898, 0x3c), (0x3000, 0x1002), (0x3004, 0x500), (0x800, 0x200000), (0x810, 0x3e8), (0x838, 0x2),
           (0x2c04, 0xfff0000), (0x2c08, 0x20), (0x2c14, 0x100f6e), (0x2c4c, 0x40000000), (0x2d00, 0x30000), (0x2d04, 0x30000),
           (0x3c04, 0x40000000), (0x3c14, 0x3c0f02), (0x3c18, 0x40000000), (0x3c3c, 0x40000000), (0x408, 0x7d), (0x0, 0xb0e1024),
           (0x8, 0xa1)]
          : List (Nat × Word)), State.reset.readReg .service p.1 = some p.2)

/-- Every command answers a next state in every state: it neither faults nor is refused. It leaves the queue of waiting commands as it is, and every fault that it raises is recorded before the next command. -/
def Obligations.EveryCommandCompletes : Prop :=
  ∀ (c : Instr) (s : State), Completes c s fun u => u.pending = s.pending ∧ (s.FaultsHandled → u.FaultsHandled)

/-- Every step keeps the register files at the sizes that the spec gives them, and the tile flash and the DRAM in canonical form. -/
def Obligations.StateStaysWellFormed : Prop :=
  ∀ s u : State, step s = .next u → (s.Shaped → u.Shaped) ∧ (s.MemoryOk → u.MemoryOk)

/-- Every step keeps this: the last transition that the engine made, ID_STATE.PREV to ID_STATE.STATE, is one of R22’s table, and UPDATE returns to the state that it came from. -/
def Obligations.OnlyListedMoves : Prop :=
  ∀ s u : State, s.MovesListed → step s = .next u → u.MovesListed

/-- A command that leaves the engine in LIT found it there, or is a light-on command in DARK with no STALE mark, no safety demand and no open CRITICAL record, or ends an UPDATE that was entered from LIT (R22). -/
def Obligations.LightOnlyByLightOn : Prop :=
  ∀ (c : Instr) (s u : State), exec c s = .next u → u.eng.st = .lit →
    s.eng.st = .lit ∨
      ((∃ q, c = .lightOn q) ∧ s.eng.st = .dark ∧ s.eng.stale = false ∧ s.safeDemand = false ∧ s.criticalOpen = false) ∨
      (s.eng.st = .update ∧ s.eng.beforeUpdate = .lit)

/-- Every step keeps this: if a drive enable is asserted or VLED disable is released, the logic die runs and has left BOOT, the start-up test has passed, the parameter set is valid, and the function in force is not SLO. -/
def Obligations.DriveOnlyWhenAllowed : Prop :=
  ∀ s u : State, s.DriveAllowed → step s = .next u → u.DriveAllowed

/-- The safety CRC (R392): its parameters, its value over "123456789", and that preset 5 of a check unit has these parameters. -/
def Obligations.SafetyCrcParameters : Prop :=
  (∀ l : List Byte, crcSafety l = crcOf 32 0xF4ACFB13 0xFFFFFFFF true true 0xFFFFFFFF l) ∧
    crcSafety [0x31, 0x32, 0x33, 0x34, 0x35, 0x36, 0x37, 0x38, 0x39] = 0x1697D06A ∧
    (∀ c : Chk, fld c.cfg 2 0 = 5 → c.parameters = (32, 0xF4ACFB13, 0xFFFFFFFF, true, true, 0xFFFFFFFF))

/-- The local counter (R316), held in units of 2^-16 ns: a CORE cycle adds 1.25 ns, which is 81,920 units; it stands still while the logic die does not run (an idle step then only ends the CORE cycle, log entry 1); no command changes it but one that resets the logic die, after which it is 0; the registers read its 64 bits of nanoseconds. -/
def Obligations.LocalCounterFreeRuns : Prop :=
  State.reset.time.local_ = 0 ∧
    (∀ s : State, s.running = true → s.pwr.logicHeld = false → s.idle.time.local_ = s.time.local_ + 81920) ∧
    (∀ s : State, s.running = false → s.idle = { s with pwr := { s.pwr with sameCycle := false } }) ∧
    (∀ (c : Instr) (s u : State), exec c s = .next u → u.time.local_ = s.time.local_ ∨ (u.running = false ∧ u.time.local_ = 0)) ∧
    (∀ (s : State) (src : Source), s.readReg src 0x1810 = some (BitVec.ofNat 32 (s.time.local_ / 65536)) ∧
      ((s.touchReg src 0x1810 true).readReg src 0x1814 = some (BitVec.ofNat 32 (s.time.local_ / 65536 / 2 ^ 32))))

/-- A pair of copies in the NVM: a completed store becomes the newest copy, one generation on (1 when there was none), and the copy that was newest stays; erasing the next target, or a store that is cut short, leaves the newest copy as it was. -/
def Obligations.StoreTakesOlderCopy : Prop :=
  ∀ (α : Type) (L : Layout α) (p : Pair α) (body : α) (format : Nat),
    (∀ k, (L.region k).kind.isSome = true ∧ nvmPage + (L.bytes body).length ≤ (L.region k).span.2) →
    (∃ n, (L.region (p.next L)).kind = some n ∧ (p.store L body format).newest L =
      some { magic := 0x4D564E4F, kind := n, format := format, gen := (match p.newest L with | some c => c.gen + 1 | none => 1),
             len := (L.bytes body).length, crc := BitVec.ofNat 32 (crc32c (L.bytes body)), commit := 0x5A5AC3C3, erased := false, body := body }) ∧
    (∀ c, p.newest L = some c → ((p.store L body format).c0 = c ∨ (p.store L body format).c1 = c) ∧ (p.spoilNext L).newest L = some c ∧
      (p.eraseNext L).newest L = some c)

/-- The function in force (R377), and what a demand does (R376, R378, R379): its cause holds the higher-ranked of its functions, the other causes stay, the engine enters SAFE from the states of R22 unless a departure or a thermal shutdown is under way, and once SLO is in force no light is left. -/
def Obligations.DemandTakesEffect : Prop :=
  (∀ f : Saf, (f.func = none ↔ ∀ c, f.cause c = none) ∧
      ∀ x, f.func = some x → (∃ c, f.cause c = some x) ∧ ∀ c y, f.cause c = some y → y.rank ≤ x.rank) ∧
    (∀ (s : State) (c : Cause) (fn : SafeFunc),
      (s.addCause c fn).saf.cause c = higher (s.saf.cause c) (some fn) ∧
        (∀ d, d ≠ c → (s.addCause c fn).saf.cause d = s.saf.cause d) ∧
        (s.eng.leaving = false → s.eng.st ∈ [EngState.join, .dark, .lit, .service, .update] → (s.addCause c fn).eng.st = .safe) ∧
        (s.eng.leaving = true ∨ s.eng.st ∉ [EngState.join, .dark, .lit, .service, .update] → (s.addCause c fn).eng.st = s.eng.st) ∧
        (s.saf.func ≠ some .slo → (s.addCause c fn).saf.func = some .slo → (s.addCause c fn).OutputsOff))

/-- The zones (R85): the index of a pixel’s zone; the 64 cells of a zone are those of its pixels; the 16 zones of a ring region are those of its pixels. -/
def Obligations.ZonesOfPixels : Prop :=
  (∀ x y : Nat, zoneOf x y = 32 * (y >>> 5) + (x >>> 5)) ∧
    (∀ z, z < 1024 → (zoneCells z).length = 64 ∧ (zoneCells z).Nodup) ∧
    (∀ k, k < 64 → (ringZones k).length = 16 ∧ (ringZones k).Nodup) ∧
    (∀ x y z : Nat, x < 1024 → y < 1024 → z < 1024 → (((cellOf x y).1, (cellOf x y).2.1) ∈ zoneCells z ↔ zoneOf x y = z)) ∧
    (∀ x y k : Nat, x < 1024 → y < 1024 → k < 64 → (zoneOf x y ∈ ringZones k ↔ (cellOf x y).1 = k))

/-- While SEAL_INTACT is high, no command, register access or other transaction of the service port changes anything (R242). -/
def Obligations.SealedServicePort : Prop :=
  ∀ s : State, s.pwr.sealHigh = true →
    (∀ c ∈
      ([.ping, .read, .write, .commit, .mode, .colourTake, .cal, .meas, .store, .doorbell, .progLoad, .lightOn,
        .lightOff, .safeReq, .faultAck, .configRefresh, .shutdown, .updateStart, .updateAbort, .restart, .attest,
        .proofRead, .sessionOpen, .enterService, .leaveService, .ownerEnroll, .safetyParam, .nvmErase, .debugUnlock] : List (CmdReq → Instr)),
        ∀ q : CmdReq, q.port = .service → exec (c q) s = .next s) ∧
    (∀ (o : Byte) (q : CmdReq), q.port = .service → exec (.badOpcode o q) s = .next s) ∧
    (∀ (a w : Word) (consume : Bool), exec (.registerRead .service a consume) s = .next s ∧ exec (.registerWrite .service a w) s = .next s) ∧
    exec .serviceReply s = .next s ∧ (∀ bytes, exec (.serviceWrite bytes) s = .next s)
end

