-- ==== Sys2Proof/Laws/Crc.lean ====
section
/-!
SUPPORT. Sys2Proof/Laws/Crc.lean: a CRC fits its width.
-/

namespace Sys2Proof.Machine

/-- Reversed bits fit the width. -/
theorem reflectBits_lt (w v : Nat) : reflectBits w v < 2 ^ w := by
  have h : ∀ n, n ≤ w → (List.range n).foldl (fun a i => if v.testBit i then a + 2 ^ (w - 1 - i) else a) 0 + 2 ^ (w - n) ≤ 2 ^ w := by
    intro n
    induction n with
    | zero => intro _; simp
    | succ n ih =>
      intro hn
      have h1 := ih (by omega)
      have h0 := Nat.two_pow_pos (w - (n + 1))
      have h2 : 2 ^ (w - n) = 2 ^ (w - (n + 1)) + 2 ^ (w - (n + 1)) := by
        rw [show w - n = (w - (n + 1)) + 1 by omega, Nat.pow_succ]; omega
      rw [List.range_succ, List.foldl_append]
      simp only [List.foldl_cons, List.foldl_nil]
      rw [show w - 1 - n = w - (n + 1) by omega]
      split <;> omega
  have := h w (Nat.le_refl w)
  rw [Nat.sub_self] at this
  unfold reflectBits
  omega

/-- A CRC whose result is reflected fits its width. -/
theorem crcOf_lt (w poly init xorout : Nat) (refin : Bool) (l : List Byte) : crcOf w poly init refin true xorout l < 2 ^ w :=
  Nat.xor_lt_two_pow (reflectBits_lt w _) (Nat.mod_lt _ (Nat.two_pow_pos w))

/-- CRC-32 fits 32 bits. -/
theorem crc32_lt (l : List Byte) : crc32 l < 2 ^ 32 := crcOf_lt 32 _ _ _ _ l

/-- CRC-32C fits 32 bits. -/
theorem crc32c_lt (l : List Byte) : crc32c l < 2 ^ 32 := crcOf_lt 32 _ _ _ _ l

/-- A register of 32 bits holds a CRC-32 whole. -/
@[simp] theorem toNat_crc32 (l : List Byte) : (BitVec.ofNat 32 (crc32 l)).toNat = crc32 l :=
  Nat.mod_eq_of_lt (crc32_lt l)

/-- A register one higher than a CRC-32 does not hold it. -/
theorem toNat_crc32_succ_ne (l : List Byte) : (BitVec.ofNat 32 (crc32 l) + 1).toNat ≠ crc32 l := by
  have h := crc32_lt l
  intro e
  have h2 : BitVec.ofNat 32 (crc32 l) + 1 = BitVec.ofNat 32 (crc32 l) :=
    BitVec.eq_of_toNat_eq (e.trans (toNat_crc32 l).symm)
  generalize BitVec.ofNat 32 (crc32 l) = x at h2
  bv_omega

end Sys2Proof.Machine
end

