-- ==== Sys2Proof/Laws/State.lean ====
section
/-!
SUPPORT. Sys2Proof/Laws/State.lean: for each update of the state and each of its fields, what the field is afterwards.
-/

namespace Sys2Proof.Machine

@[simp] theorem State.onEng_pending (s : State) (f : Eng → Eng) : (s.onEng f).pending = s.pending := rfl
@[simp] theorem State.onEng_eng (s : State) (f : Eng → Eng) : (s.onEng f).eng = f s.eng := rfl
@[simp] theorem State.onEng_pwr (s : State) (f : Eng → Eng) : (s.onEng f).pwr = s.pwr := rfl
@[simp] theorem State.onEng_flt (s : State) (f : Eng → Eng) : (s.onEng f).flt = s.flt := rfl
@[simp] theorem State.onEng_chk (s : State) (f : Eng → Eng) : (s.onEng f).chk = s.chk := rfl
@[simp] theorem State.onEng_linkA (s : State) (f : Eng → Eng) : (s.onEng f).linkA = s.linkA := rfl
@[simp] theorem State.onEng_linkB (s : State) (f : Eng → Eng) : (s.onEng f).linkB = s.linkB := rfl
@[simp] theorem State.onEng_wall (s : State) (f : Eng → Eng) : (s.onEng f).wall = s.wall := rfl
@[simp] theorem State.onEng_ctxs (s : State) (f : Eng → Eng) : (s.onEng f).ctxs = s.ctxs := rfl
@[simp] theorem State.onEng_time (s : State) (f : Eng → Eng) : (s.onEng f).time = s.time := rfl
@[simp] theorem State.onEng_tum (s : State) (f : Eng → Eng) : (s.onEng f).tum = s.tum := rfl
@[simp] theorem State.onEng_comp (s : State) (f : Eng → Eng) : (s.onEng f).comp = s.comp := rfl
@[simp] theorem State.onEng_col (s : State) (f : Eng → Eng) : (s.onEng f).col = s.col := rfl
@[simp] theorem State.onEng_rings (s : State) (f : Eng → Eng) : (s.onEng f).rings = s.rings := rfl
@[simp] theorem State.onEng_led (s : State) (f : Eng → Eng) : (s.onEng f).led = s.led := rfl
@[simp] theorem State.onEng_therm (s : State) (f : Eng → Eng) : (s.onEng f).therm = s.therm := rfl
@[simp] theorem State.onEng_saf (s : State) (f : Eng → Eng) : (s.onEng f).saf = s.saf := rfl
@[simp] theorem State.onEng_age (s : State) (f : Eng → Eng) : (s.onEng f).age = s.age := rfl
@[simp] theorem State.onEng_cmd (s : State) (f : Eng → Eng) : (s.onEng f).cmd = s.cmd := rfl
@[simp] theorem State.onEng_sel (s : State) (f : Eng → Eng) : (s.onEng f).sel = s.sel := rfl
@[simp] theorem State.onEng_ward (s : State) (f : Eng → Eng) : (s.onEng f).ward = s.ward := rfl
@[simp] theorem State.onEng_nvm (s : State) (f : Eng → Eng) : (s.onEng f).nvm = s.nvm := rfl
@[simp] theorem State.onEng_flash (s : State) (f : Eng → Eng) : (s.onEng f).flash = s.flash := rfl
@[simp] theorem State.onEng_dram (s : State) (f : Eng → Eng) : (s.onEng f).dram = s.dram := rfl
@[simp] theorem State.onEng_acc (s : State) (f : Eng → Eng) : (s.onEng f).acc = s.acc := rfl
@[simp] theorem State.onEng_free (s : State) (f : Eng → Eng) : (s.onEng f).free = s.free := rfl

@[simp] theorem State.onPwr_pending (s : State) (f : Pwr → Pwr) : (s.onPwr f).pending = s.pending := rfl
@[simp] theorem State.onPwr_eng (s : State) (f : Pwr → Pwr) : (s.onPwr f).eng = s.eng := rfl
@[simp] theorem State.onPwr_pwr (s : State) (f : Pwr → Pwr) : (s.onPwr f).pwr = f s.pwr := rfl
@[simp] theorem State.onPwr_flt (s : State) (f : Pwr → Pwr) : (s.onPwr f).flt = s.flt := rfl
@[simp] theorem State.onPwr_chk (s : State) (f : Pwr → Pwr) : (s.onPwr f).chk = s.chk := rfl
@[simp] theorem State.onPwr_linkA (s : State) (f : Pwr → Pwr) : (s.onPwr f).linkA = s.linkA := rfl
@[simp] theorem State.onPwr_linkB (s : State) (f : Pwr → Pwr) : (s.onPwr f).linkB = s.linkB := rfl
@[simp] theorem State.onPwr_wall (s : State) (f : Pwr → Pwr) : (s.onPwr f).wall = s.wall := rfl
@[simp] theorem State.onPwr_ctxs (s : State) (f : Pwr → Pwr) : (s.onPwr f).ctxs = s.ctxs := rfl
@[simp] theorem State.onPwr_time (s : State) (f : Pwr → Pwr) : (s.onPwr f).time = s.time := rfl
@[simp] theorem State.onPwr_tum (s : State) (f : Pwr → Pwr) : (s.onPwr f).tum = s.tum := rfl
@[simp] theorem State.onPwr_comp (s : State) (f : Pwr → Pwr) : (s.onPwr f).comp = s.comp := rfl
@[simp] theorem State.onPwr_col (s : State) (f : Pwr → Pwr) : (s.onPwr f).col = s.col := rfl
@[simp] theorem State.onPwr_rings (s : State) (f : Pwr → Pwr) : (s.onPwr f).rings = s.rings := rfl
@[simp] theorem State.onPwr_led (s : State) (f : Pwr → Pwr) : (s.onPwr f).led = s.led := rfl
@[simp] theorem State.onPwr_therm (s : State) (f : Pwr → Pwr) : (s.onPwr f).therm = s.therm := rfl
@[simp] theorem State.onPwr_saf (s : State) (f : Pwr → Pwr) : (s.onPwr f).saf = s.saf := rfl
@[simp] theorem State.onPwr_age (s : State) (f : Pwr → Pwr) : (s.onPwr f).age = s.age := rfl
@[simp] theorem State.onPwr_cmd (s : State) (f : Pwr → Pwr) : (s.onPwr f).cmd = s.cmd := rfl
@[simp] theorem State.onPwr_sel (s : State) (f : Pwr → Pwr) : (s.onPwr f).sel = s.sel := rfl
@[simp] theorem State.onPwr_ward (s : State) (f : Pwr → Pwr) : (s.onPwr f).ward = s.ward := rfl
@[simp] theorem State.onPwr_nvm (s : State) (f : Pwr → Pwr) : (s.onPwr f).nvm = s.nvm := rfl
@[simp] theorem State.onPwr_flash (s : State) (f : Pwr → Pwr) : (s.onPwr f).flash = s.flash := rfl
@[simp] theorem State.onPwr_dram (s : State) (f : Pwr → Pwr) : (s.onPwr f).dram = s.dram := rfl
@[simp] theorem State.onPwr_acc (s : State) (f : Pwr → Pwr) : (s.onPwr f).acc = s.acc := rfl
@[simp] theorem State.onPwr_free (s : State) (f : Pwr → Pwr) : (s.onPwr f).free = s.free := rfl

@[simp] theorem State.onFlt_pending (s : State) (f : Flt → Flt) : (s.onFlt f).pending = s.pending := rfl
@[simp] theorem State.onFlt_eng (s : State) (f : Flt → Flt) : (s.onFlt f).eng = s.eng := rfl
@[simp] theorem State.onFlt_pwr (s : State) (f : Flt → Flt) : (s.onFlt f).pwr = s.pwr := rfl
@[simp] theorem State.onFlt_flt (s : State) (f : Flt → Flt) : (s.onFlt f).flt = f s.flt := rfl
@[simp] theorem State.onFlt_chk (s : State) (f : Flt → Flt) : (s.onFlt f).chk = s.chk := rfl
@[simp] theorem State.onFlt_linkA (s : State) (f : Flt → Flt) : (s.onFlt f).linkA = s.linkA := rfl
@[simp] theorem State.onFlt_linkB (s : State) (f : Flt → Flt) : (s.onFlt f).linkB = s.linkB := rfl
@[simp] theorem State.onFlt_wall (s : State) (f : Flt → Flt) : (s.onFlt f).wall = s.wall := rfl
@[simp] theorem State.onFlt_ctxs (s : State) (f : Flt → Flt) : (s.onFlt f).ctxs = s.ctxs := rfl
@[simp] theorem State.onFlt_time (s : State) (f : Flt → Flt) : (s.onFlt f).time = s.time := rfl
@[simp] theorem State.onFlt_tum (s : State) (f : Flt → Flt) : (s.onFlt f).tum = s.tum := rfl
@[simp] theorem State.onFlt_comp (s : State) (f : Flt → Flt) : (s.onFlt f).comp = s.comp := rfl
@[simp] theorem State.onFlt_col (s : State) (f : Flt → Flt) : (s.onFlt f).col = s.col := rfl
@[simp] theorem State.onFlt_rings (s : State) (f : Flt → Flt) : (s.onFlt f).rings = s.rings := rfl
@[simp] theorem State.onFlt_led (s : State) (f : Flt → Flt) : (s.onFlt f).led = s.led := rfl
@[simp] theorem State.onFlt_therm (s : State) (f : Flt → Flt) : (s.onFlt f).therm = s.therm := rfl
@[simp] theorem State.onFlt_saf (s : State) (f : Flt → Flt) : (s.onFlt f).saf = s.saf := rfl
@[simp] theorem State.onFlt_age (s : State) (f : Flt → Flt) : (s.onFlt f).age = s.age := rfl
@[simp] theorem State.onFlt_cmd (s : State) (f : Flt → Flt) : (s.onFlt f).cmd = s.cmd := rfl
@[simp] theorem State.onFlt_sel (s : State) (f : Flt → Flt) : (s.onFlt f).sel = s.sel := rfl
@[simp] theorem State.onFlt_ward (s : State) (f : Flt → Flt) : (s.onFlt f).ward = s.ward := rfl
@[simp] theorem State.onFlt_nvm (s : State) (f : Flt → Flt) : (s.onFlt f).nvm = s.nvm := rfl
@[simp] theorem State.onFlt_flash (s : State) (f : Flt → Flt) : (s.onFlt f).flash = s.flash := rfl
@[simp] theorem State.onFlt_dram (s : State) (f : Flt → Flt) : (s.onFlt f).dram = s.dram := rfl
@[simp] theorem State.onFlt_acc (s : State) (f : Flt → Flt) : (s.onFlt f).acc = s.acc := rfl
@[simp] theorem State.onFlt_free (s : State) (f : Flt → Flt) : (s.onFlt f).free = s.free := rfl

@[simp] theorem State.onLinkA_pending (s : State) (f : Link → Link) : (s.onLinkA f).pending = s.pending := rfl
@[simp] theorem State.onLinkA_eng (s : State) (f : Link → Link) : (s.onLinkA f).eng = s.eng := rfl
@[simp] theorem State.onLinkA_pwr (s : State) (f : Link → Link) : (s.onLinkA f).pwr = s.pwr := rfl
@[simp] theorem State.onLinkA_flt (s : State) (f : Link → Link) : (s.onLinkA f).flt = s.flt := rfl
@[simp] theorem State.onLinkA_chk (s : State) (f : Link → Link) : (s.onLinkA f).chk = s.chk := rfl
@[simp] theorem State.onLinkA_linkA (s : State) (f : Link → Link) : (s.onLinkA f).linkA = f s.linkA := rfl
@[simp] theorem State.onLinkA_linkB (s : State) (f : Link → Link) : (s.onLinkA f).linkB = s.linkB := rfl
@[simp] theorem State.onLinkA_wall (s : State) (f : Link → Link) : (s.onLinkA f).wall = s.wall := rfl
@[simp] theorem State.onLinkA_ctxs (s : State) (f : Link → Link) : (s.onLinkA f).ctxs = s.ctxs := rfl
@[simp] theorem State.onLinkA_time (s : State) (f : Link → Link) : (s.onLinkA f).time = s.time := rfl
@[simp] theorem State.onLinkA_tum (s : State) (f : Link → Link) : (s.onLinkA f).tum = s.tum := rfl
@[simp] theorem State.onLinkA_comp (s : State) (f : Link → Link) : (s.onLinkA f).comp = s.comp := rfl
@[simp] theorem State.onLinkA_col (s : State) (f : Link → Link) : (s.onLinkA f).col = s.col := rfl
@[simp] theorem State.onLinkA_rings (s : State) (f : Link → Link) : (s.onLinkA f).rings = s.rings := rfl
@[simp] theorem State.onLinkA_led (s : State) (f : Link → Link) : (s.onLinkA f).led = s.led := rfl
@[simp] theorem State.onLinkA_therm (s : State) (f : Link → Link) : (s.onLinkA f).therm = s.therm := rfl
@[simp] theorem State.onLinkA_saf (s : State) (f : Link → Link) : (s.onLinkA f).saf = s.saf := rfl
@[simp] theorem State.onLinkA_age (s : State) (f : Link → Link) : (s.onLinkA f).age = s.age := rfl
@[simp] theorem State.onLinkA_cmd (s : State) (f : Link → Link) : (s.onLinkA f).cmd = s.cmd := rfl
@[simp] theorem State.onLinkA_sel (s : State) (f : Link → Link) : (s.onLinkA f).sel = s.sel := rfl
@[simp] theorem State.onLinkA_ward (s : State) (f : Link → Link) : (s.onLinkA f).ward = s.ward := rfl
@[simp] theorem State.onLinkA_nvm (s : State) (f : Link → Link) : (s.onLinkA f).nvm = s.nvm := rfl
@[simp] theorem State.onLinkA_flash (s : State) (f : Link → Link) : (s.onLinkA f).flash = s.flash := rfl
@[simp] theorem State.onLinkA_dram (s : State) (f : Link → Link) : (s.onLinkA f).dram = s.dram := rfl
@[simp] theorem State.onLinkA_acc (s : State) (f : Link → Link) : (s.onLinkA f).acc = s.acc := rfl
@[simp] theorem State.onLinkA_free (s : State) (f : Link → Link) : (s.onLinkA f).free = s.free := rfl

@[simp] theorem State.onLinkB_pending (s : State) (f : Link → Link) : (s.onLinkB f).pending = s.pending := rfl
@[simp] theorem State.onLinkB_eng (s : State) (f : Link → Link) : (s.onLinkB f).eng = s.eng := rfl
@[simp] theorem State.onLinkB_pwr (s : State) (f : Link → Link) : (s.onLinkB f).pwr = s.pwr := rfl
@[simp] theorem State.onLinkB_flt (s : State) (f : Link → Link) : (s.onLinkB f).flt = s.flt := rfl
@[simp] theorem State.onLinkB_chk (s : State) (f : Link → Link) : (s.onLinkB f).chk = s.chk := rfl
@[simp] theorem State.onLinkB_linkA (s : State) (f : Link → Link) : (s.onLinkB f).linkA = s.linkA := rfl
@[simp] theorem State.onLinkB_linkB (s : State) (f : Link → Link) : (s.onLinkB f).linkB = f s.linkB := rfl
@[simp] theorem State.onLinkB_wall (s : State) (f : Link → Link) : (s.onLinkB f).wall = s.wall := rfl
@[simp] theorem State.onLinkB_ctxs (s : State) (f : Link → Link) : (s.onLinkB f).ctxs = s.ctxs := rfl
@[simp] theorem State.onLinkB_time (s : State) (f : Link → Link) : (s.onLinkB f).time = s.time := rfl
@[simp] theorem State.onLinkB_tum (s : State) (f : Link → Link) : (s.onLinkB f).tum = s.tum := rfl
@[simp] theorem State.onLinkB_comp (s : State) (f : Link → Link) : (s.onLinkB f).comp = s.comp := rfl
@[simp] theorem State.onLinkB_col (s : State) (f : Link → Link) : (s.onLinkB f).col = s.col := rfl
@[simp] theorem State.onLinkB_rings (s : State) (f : Link → Link) : (s.onLinkB f).rings = s.rings := rfl
@[simp] theorem State.onLinkB_led (s : State) (f : Link → Link) : (s.onLinkB f).led = s.led := rfl
@[simp] theorem State.onLinkB_therm (s : State) (f : Link → Link) : (s.onLinkB f).therm = s.therm := rfl
@[simp] theorem State.onLinkB_saf (s : State) (f : Link → Link) : (s.onLinkB f).saf = s.saf := rfl
@[simp] theorem State.onLinkB_age (s : State) (f : Link → Link) : (s.onLinkB f).age = s.age := rfl
@[simp] theorem State.onLinkB_cmd (s : State) (f : Link → Link) : (s.onLinkB f).cmd = s.cmd := rfl
@[simp] theorem State.onLinkB_sel (s : State) (f : Link → Link) : (s.onLinkB f).sel = s.sel := rfl
@[simp] theorem State.onLinkB_ward (s : State) (f : Link → Link) : (s.onLinkB f).ward = s.ward := rfl
@[simp] theorem State.onLinkB_nvm (s : State) (f : Link → Link) : (s.onLinkB f).nvm = s.nvm := rfl
@[simp] theorem State.onLinkB_flash (s : State) (f : Link → Link) : (s.onLinkB f).flash = s.flash := rfl
@[simp] theorem State.onLinkB_dram (s : State) (f : Link → Link) : (s.onLinkB f).dram = s.dram := rfl
@[simp] theorem State.onLinkB_acc (s : State) (f : Link → Link) : (s.onLinkB f).acc = s.acc := rfl
@[simp] theorem State.onLinkB_free (s : State) (f : Link → Link) : (s.onLinkB f).free = s.free := rfl

@[simp] theorem State.onWall_pending (s : State) (f : Wall → Wall) : (s.onWall f).pending = s.pending := rfl
@[simp] theorem State.onWall_eng (s : State) (f : Wall → Wall) : (s.onWall f).eng = s.eng := rfl
@[simp] theorem State.onWall_pwr (s : State) (f : Wall → Wall) : (s.onWall f).pwr = s.pwr := rfl
@[simp] theorem State.onWall_flt (s : State) (f : Wall → Wall) : (s.onWall f).flt = s.flt := rfl
@[simp] theorem State.onWall_chk (s : State) (f : Wall → Wall) : (s.onWall f).chk = s.chk := rfl
@[simp] theorem State.onWall_linkA (s : State) (f : Wall → Wall) : (s.onWall f).linkA = s.linkA := rfl
@[simp] theorem State.onWall_linkB (s : State) (f : Wall → Wall) : (s.onWall f).linkB = s.linkB := rfl
@[simp] theorem State.onWall_wall (s : State) (f : Wall → Wall) : (s.onWall f).wall = f s.wall := rfl
@[simp] theorem State.onWall_ctxs (s : State) (f : Wall → Wall) : (s.onWall f).ctxs = s.ctxs := rfl
@[simp] theorem State.onWall_time (s : State) (f : Wall → Wall) : (s.onWall f).time = s.time := rfl
@[simp] theorem State.onWall_tum (s : State) (f : Wall → Wall) : (s.onWall f).tum = s.tum := rfl
@[simp] theorem State.onWall_comp (s : State) (f : Wall → Wall) : (s.onWall f).comp = s.comp := rfl
@[simp] theorem State.onWall_col (s : State) (f : Wall → Wall) : (s.onWall f).col = s.col := rfl
@[simp] theorem State.onWall_rings (s : State) (f : Wall → Wall) : (s.onWall f).rings = s.rings := rfl
@[simp] theorem State.onWall_led (s : State) (f : Wall → Wall) : (s.onWall f).led = s.led := rfl
@[simp] theorem State.onWall_therm (s : State) (f : Wall → Wall) : (s.onWall f).therm = s.therm := rfl
@[simp] theorem State.onWall_saf (s : State) (f : Wall → Wall) : (s.onWall f).saf = s.saf := rfl
@[simp] theorem State.onWall_age (s : State) (f : Wall → Wall) : (s.onWall f).age = s.age := rfl
@[simp] theorem State.onWall_cmd (s : State) (f : Wall → Wall) : (s.onWall f).cmd = s.cmd := rfl
@[simp] theorem State.onWall_sel (s : State) (f : Wall → Wall) : (s.onWall f).sel = s.sel := rfl
@[simp] theorem State.onWall_ward (s : State) (f : Wall → Wall) : (s.onWall f).ward = s.ward := rfl
@[simp] theorem State.onWall_nvm (s : State) (f : Wall → Wall) : (s.onWall f).nvm = s.nvm := rfl
@[simp] theorem State.onWall_flash (s : State) (f : Wall → Wall) : (s.onWall f).flash = s.flash := rfl
@[simp] theorem State.onWall_dram (s : State) (f : Wall → Wall) : (s.onWall f).dram = s.dram := rfl
@[simp] theorem State.onWall_acc (s : State) (f : Wall → Wall) : (s.onWall f).acc = s.acc := rfl
@[simp] theorem State.onWall_free (s : State) (f : Wall → Wall) : (s.onWall f).free = s.free := rfl

@[simp] theorem State.onTime_pending (s : State) (f : WTime → WTime) : (s.onTime f).pending = s.pending := rfl
@[simp] theorem State.onTime_eng (s : State) (f : WTime → WTime) : (s.onTime f).eng = s.eng := rfl
@[simp] theorem State.onTime_pwr (s : State) (f : WTime → WTime) : (s.onTime f).pwr = s.pwr := rfl
@[simp] theorem State.onTime_flt (s : State) (f : WTime → WTime) : (s.onTime f).flt = s.flt := rfl
@[simp] theorem State.onTime_chk (s : State) (f : WTime → WTime) : (s.onTime f).chk = s.chk := rfl
@[simp] theorem State.onTime_linkA (s : State) (f : WTime → WTime) : (s.onTime f).linkA = s.linkA := rfl
@[simp] theorem State.onTime_linkB (s : State) (f : WTime → WTime) : (s.onTime f).linkB = s.linkB := rfl
@[simp] theorem State.onTime_wall (s : State) (f : WTime → WTime) : (s.onTime f).wall = s.wall := rfl
@[simp] theorem State.onTime_ctxs (s : State) (f : WTime → WTime) : (s.onTime f).ctxs = s.ctxs := rfl
@[simp] theorem State.onTime_time (s : State) (f : WTime → WTime) : (s.onTime f).time = f s.time := rfl
@[simp] theorem State.onTime_tum (s : State) (f : WTime → WTime) : (s.onTime f).tum = s.tum := rfl
@[simp] theorem State.onTime_comp (s : State) (f : WTime → WTime) : (s.onTime f).comp = s.comp := rfl
@[simp] theorem State.onTime_col (s : State) (f : WTime → WTime) : (s.onTime f).col = s.col := rfl
@[simp] theorem State.onTime_rings (s : State) (f : WTime → WTime) : (s.onTime f).rings = s.rings := rfl
@[simp] theorem State.onTime_led (s : State) (f : WTime → WTime) : (s.onTime f).led = s.led := rfl
@[simp] theorem State.onTime_therm (s : State) (f : WTime → WTime) : (s.onTime f).therm = s.therm := rfl
@[simp] theorem State.onTime_saf (s : State) (f : WTime → WTime) : (s.onTime f).saf = s.saf := rfl
@[simp] theorem State.onTime_age (s : State) (f : WTime → WTime) : (s.onTime f).age = s.age := rfl
@[simp] theorem State.onTime_cmd (s : State) (f : WTime → WTime) : (s.onTime f).cmd = s.cmd := rfl
@[simp] theorem State.onTime_sel (s : State) (f : WTime → WTime) : (s.onTime f).sel = s.sel := rfl
@[simp] theorem State.onTime_ward (s : State) (f : WTime → WTime) : (s.onTime f).ward = s.ward := rfl
@[simp] theorem State.onTime_nvm (s : State) (f : WTime → WTime) : (s.onTime f).nvm = s.nvm := rfl
@[simp] theorem State.onTime_flash (s : State) (f : WTime → WTime) : (s.onTime f).flash = s.flash := rfl
@[simp] theorem State.onTime_dram (s : State) (f : WTime → WTime) : (s.onTime f).dram = s.dram := rfl
@[simp] theorem State.onTime_acc (s : State) (f : WTime → WTime) : (s.onTime f).acc = s.acc := rfl
@[simp] theorem State.onTime_free (s : State) (f : WTime → WTime) : (s.onTime f).free = s.free := rfl

@[simp] theorem State.onTum_pending (s : State) (f : Tum → Tum) : (s.onTum f).pending = s.pending := rfl
@[simp] theorem State.onTum_eng (s : State) (f : Tum → Tum) : (s.onTum f).eng = s.eng := rfl
@[simp] theorem State.onTum_pwr (s : State) (f : Tum → Tum) : (s.onTum f).pwr = s.pwr := rfl
@[simp] theorem State.onTum_flt (s : State) (f : Tum → Tum) : (s.onTum f).flt = s.flt := rfl
@[simp] theorem State.onTum_chk (s : State) (f : Tum → Tum) : (s.onTum f).chk = s.chk := rfl
@[simp] theorem State.onTum_linkA (s : State) (f : Tum → Tum) : (s.onTum f).linkA = s.linkA := rfl
@[simp] theorem State.onTum_linkB (s : State) (f : Tum → Tum) : (s.onTum f).linkB = s.linkB := rfl
@[simp] theorem State.onTum_wall (s : State) (f : Tum → Tum) : (s.onTum f).wall = s.wall := rfl
@[simp] theorem State.onTum_ctxs (s : State) (f : Tum → Tum) : (s.onTum f).ctxs = s.ctxs := rfl
@[simp] theorem State.onTum_time (s : State) (f : Tum → Tum) : (s.onTum f).time = s.time := rfl
@[simp] theorem State.onTum_tum (s : State) (f : Tum → Tum) : (s.onTum f).tum = f s.tum := rfl
@[simp] theorem State.onTum_comp (s : State) (f : Tum → Tum) : (s.onTum f).comp = s.comp := rfl
@[simp] theorem State.onTum_col (s : State) (f : Tum → Tum) : (s.onTum f).col = s.col := rfl
@[simp] theorem State.onTum_rings (s : State) (f : Tum → Tum) : (s.onTum f).rings = s.rings := rfl
@[simp] theorem State.onTum_led (s : State) (f : Tum → Tum) : (s.onTum f).led = s.led := rfl
@[simp] theorem State.onTum_therm (s : State) (f : Tum → Tum) : (s.onTum f).therm = s.therm := rfl
@[simp] theorem State.onTum_saf (s : State) (f : Tum → Tum) : (s.onTum f).saf = s.saf := rfl
@[simp] theorem State.onTum_age (s : State) (f : Tum → Tum) : (s.onTum f).age = s.age := rfl
@[simp] theorem State.onTum_cmd (s : State) (f : Tum → Tum) : (s.onTum f).cmd = s.cmd := rfl
@[simp] theorem State.onTum_sel (s : State) (f : Tum → Tum) : (s.onTum f).sel = s.sel := rfl
@[simp] theorem State.onTum_ward (s : State) (f : Tum → Tum) : (s.onTum f).ward = s.ward := rfl
@[simp] theorem State.onTum_nvm (s : State) (f : Tum → Tum) : (s.onTum f).nvm = s.nvm := rfl
@[simp] theorem State.onTum_flash (s : State) (f : Tum → Tum) : (s.onTum f).flash = s.flash := rfl
@[simp] theorem State.onTum_dram (s : State) (f : Tum → Tum) : (s.onTum f).dram = s.dram := rfl
@[simp] theorem State.onTum_acc (s : State) (f : Tum → Tum) : (s.onTum f).acc = s.acc := rfl
@[simp] theorem State.onTum_free (s : State) (f : Tum → Tum) : (s.onTum f).free = s.free := rfl

@[simp] theorem State.onComp_pending (s : State) (f : Comp → Comp) : (s.onComp f).pending = s.pending := rfl
@[simp] theorem State.onComp_eng (s : State) (f : Comp → Comp) : (s.onComp f).eng = s.eng := rfl
@[simp] theorem State.onComp_pwr (s : State) (f : Comp → Comp) : (s.onComp f).pwr = s.pwr := rfl
@[simp] theorem State.onComp_flt (s : State) (f : Comp → Comp) : (s.onComp f).flt = s.flt := rfl
@[simp] theorem State.onComp_chk (s : State) (f : Comp → Comp) : (s.onComp f).chk = s.chk := rfl
@[simp] theorem State.onComp_linkA (s : State) (f : Comp → Comp) : (s.onComp f).linkA = s.linkA := rfl
@[simp] theorem State.onComp_linkB (s : State) (f : Comp → Comp) : (s.onComp f).linkB = s.linkB := rfl
@[simp] theorem State.onComp_wall (s : State) (f : Comp → Comp) : (s.onComp f).wall = s.wall := rfl
@[simp] theorem State.onComp_ctxs (s : State) (f : Comp → Comp) : (s.onComp f).ctxs = s.ctxs := rfl
@[simp] theorem State.onComp_time (s : State) (f : Comp → Comp) : (s.onComp f).time = s.time := rfl
@[simp] theorem State.onComp_tum (s : State) (f : Comp → Comp) : (s.onComp f).tum = s.tum := rfl
@[simp] theorem State.onComp_comp (s : State) (f : Comp → Comp) : (s.onComp f).comp = f s.comp := rfl
@[simp] theorem State.onComp_col (s : State) (f : Comp → Comp) : (s.onComp f).col = s.col := rfl
@[simp] theorem State.onComp_rings (s : State) (f : Comp → Comp) : (s.onComp f).rings = s.rings := rfl
@[simp] theorem State.onComp_led (s : State) (f : Comp → Comp) : (s.onComp f).led = s.led := rfl
@[simp] theorem State.onComp_therm (s : State) (f : Comp → Comp) : (s.onComp f).therm = s.therm := rfl
@[simp] theorem State.onComp_saf (s : State) (f : Comp → Comp) : (s.onComp f).saf = s.saf := rfl
@[simp] theorem State.onComp_age (s : State) (f : Comp → Comp) : (s.onComp f).age = s.age := rfl
@[simp] theorem State.onComp_cmd (s : State) (f : Comp → Comp) : (s.onComp f).cmd = s.cmd := rfl
@[simp] theorem State.onComp_sel (s : State) (f : Comp → Comp) : (s.onComp f).sel = s.sel := rfl
@[simp] theorem State.onComp_ward (s : State) (f : Comp → Comp) : (s.onComp f).ward = s.ward := rfl
@[simp] theorem State.onComp_nvm (s : State) (f : Comp → Comp) : (s.onComp f).nvm = s.nvm := rfl
@[simp] theorem State.onComp_flash (s : State) (f : Comp → Comp) : (s.onComp f).flash = s.flash := rfl
@[simp] theorem State.onComp_dram (s : State) (f : Comp → Comp) : (s.onComp f).dram = s.dram := rfl
@[simp] theorem State.onComp_acc (s : State) (f : Comp → Comp) : (s.onComp f).acc = s.acc := rfl
@[simp] theorem State.onComp_free (s : State) (f : Comp → Comp) : (s.onComp f).free = s.free := rfl

@[simp] theorem State.onCol_pending (s : State) (f : Col → Col) : (s.onCol f).pending = s.pending := rfl
@[simp] theorem State.onCol_eng (s : State) (f : Col → Col) : (s.onCol f).eng = s.eng := rfl
@[simp] theorem State.onCol_pwr (s : State) (f : Col → Col) : (s.onCol f).pwr = s.pwr := rfl
@[simp] theorem State.onCol_flt (s : State) (f : Col → Col) : (s.onCol f).flt = s.flt := rfl
@[simp] theorem State.onCol_chk (s : State) (f : Col → Col) : (s.onCol f).chk = s.chk := rfl
@[simp] theorem State.onCol_linkA (s : State) (f : Col → Col) : (s.onCol f).linkA = s.linkA := rfl
@[simp] theorem State.onCol_linkB (s : State) (f : Col → Col) : (s.onCol f).linkB = s.linkB := rfl
@[simp] theorem State.onCol_wall (s : State) (f : Col → Col) : (s.onCol f).wall = s.wall := rfl
@[simp] theorem State.onCol_ctxs (s : State) (f : Col → Col) : (s.onCol f).ctxs = s.ctxs := rfl
@[simp] theorem State.onCol_time (s : State) (f : Col → Col) : (s.onCol f).time = s.time := rfl
@[simp] theorem State.onCol_tum (s : State) (f : Col → Col) : (s.onCol f).tum = s.tum := rfl
@[simp] theorem State.onCol_comp (s : State) (f : Col → Col) : (s.onCol f).comp = s.comp := rfl
@[simp] theorem State.onCol_col (s : State) (f : Col → Col) : (s.onCol f).col = f s.col := rfl
@[simp] theorem State.onCol_rings (s : State) (f : Col → Col) : (s.onCol f).rings = s.rings := rfl
@[simp] theorem State.onCol_led (s : State) (f : Col → Col) : (s.onCol f).led = s.led := rfl
@[simp] theorem State.onCol_therm (s : State) (f : Col → Col) : (s.onCol f).therm = s.therm := rfl
@[simp] theorem State.onCol_saf (s : State) (f : Col → Col) : (s.onCol f).saf = s.saf := rfl
@[simp] theorem State.onCol_age (s : State) (f : Col → Col) : (s.onCol f).age = s.age := rfl
@[simp] theorem State.onCol_cmd (s : State) (f : Col → Col) : (s.onCol f).cmd = s.cmd := rfl
@[simp] theorem State.onCol_sel (s : State) (f : Col → Col) : (s.onCol f).sel = s.sel := rfl
@[simp] theorem State.onCol_ward (s : State) (f : Col → Col) : (s.onCol f).ward = s.ward := rfl
@[simp] theorem State.onCol_nvm (s : State) (f : Col → Col) : (s.onCol f).nvm = s.nvm := rfl
@[simp] theorem State.onCol_flash (s : State) (f : Col → Col) : (s.onCol f).flash = s.flash := rfl
@[simp] theorem State.onCol_dram (s : State) (f : Col → Col) : (s.onCol f).dram = s.dram := rfl
@[simp] theorem State.onCol_acc (s : State) (f : Col → Col) : (s.onCol f).acc = s.acc := rfl
@[simp] theorem State.onCol_free (s : State) (f : Col → Col) : (s.onCol f).free = s.free := rfl

@[simp] theorem State.onRings_pending (s : State) (f : RingUnit → RingUnit) : (s.onRings f).pending = s.pending := rfl
@[simp] theorem State.onRings_eng (s : State) (f : RingUnit → RingUnit) : (s.onRings f).eng = s.eng := rfl
@[simp] theorem State.onRings_pwr (s : State) (f : RingUnit → RingUnit) : (s.onRings f).pwr = s.pwr := rfl
@[simp] theorem State.onRings_flt (s : State) (f : RingUnit → RingUnit) : (s.onRings f).flt = s.flt := rfl
@[simp] theorem State.onRings_chk (s : State) (f : RingUnit → RingUnit) : (s.onRings f).chk = s.chk := rfl
@[simp] theorem State.onRings_linkA (s : State) (f : RingUnit → RingUnit) : (s.onRings f).linkA = s.linkA := rfl
@[simp] theorem State.onRings_linkB (s : State) (f : RingUnit → RingUnit) : (s.onRings f).linkB = s.linkB := rfl
@[simp] theorem State.onRings_wall (s : State) (f : RingUnit → RingUnit) : (s.onRings f).wall = s.wall := rfl
@[simp] theorem State.onRings_ctxs (s : State) (f : RingUnit → RingUnit) : (s.onRings f).ctxs = s.ctxs := rfl
@[simp] theorem State.onRings_time (s : State) (f : RingUnit → RingUnit) : (s.onRings f).time = s.time := rfl
@[simp] theorem State.onRings_tum (s : State) (f : RingUnit → RingUnit) : (s.onRings f).tum = s.tum := rfl
@[simp] theorem State.onRings_comp (s : State) (f : RingUnit → RingUnit) : (s.onRings f).comp = s.comp := rfl
@[simp] theorem State.onRings_col (s : State) (f : RingUnit → RingUnit) : (s.onRings f).col = s.col := rfl
@[simp] theorem State.onRings_rings (s : State) (f : RingUnit → RingUnit) : (s.onRings f).rings = f s.rings := rfl
@[simp] theorem State.onRings_led (s : State) (f : RingUnit → RingUnit) : (s.onRings f).led = s.led := rfl
@[simp] theorem State.onRings_therm (s : State) (f : RingUnit → RingUnit) : (s.onRings f).therm = s.therm := rfl
@[simp] theorem State.onRings_saf (s : State) (f : RingUnit → RingUnit) : (s.onRings f).saf = s.saf := rfl
@[simp] theorem State.onRings_age (s : State) (f : RingUnit → RingUnit) : (s.onRings f).age = s.age := rfl
@[simp] theorem State.onRings_cmd (s : State) (f : RingUnit → RingUnit) : (s.onRings f).cmd = s.cmd := rfl
@[simp] theorem State.onRings_sel (s : State) (f : RingUnit → RingUnit) : (s.onRings f).sel = s.sel := rfl
@[simp] theorem State.onRings_ward (s : State) (f : RingUnit → RingUnit) : (s.onRings f).ward = s.ward := rfl
@[simp] theorem State.onRings_nvm (s : State) (f : RingUnit → RingUnit) : (s.onRings f).nvm = s.nvm := rfl
@[simp] theorem State.onRings_flash (s : State) (f : RingUnit → RingUnit) : (s.onRings f).flash = s.flash := rfl
@[simp] theorem State.onRings_dram (s : State) (f : RingUnit → RingUnit) : (s.onRings f).dram = s.dram := rfl
@[simp] theorem State.onRings_acc (s : State) (f : RingUnit → RingUnit) : (s.onRings f).acc = s.acc := rfl
@[simp] theorem State.onRings_free (s : State) (f : RingUnit → RingUnit) : (s.onRings f).free = s.free := rfl

@[simp] theorem State.onLed_pending (s : State) (f : Led → Led) : (s.onLed f).pending = s.pending := rfl
@[simp] theorem State.onLed_eng (s : State) (f : Led → Led) : (s.onLed f).eng = s.eng := rfl
@[simp] theorem State.onLed_pwr (s : State) (f : Led → Led) : (s.onLed f).pwr = s.pwr := rfl
@[simp] theorem State.onLed_flt (s : State) (f : Led → Led) : (s.onLed f).flt = s.flt := rfl
@[simp] theorem State.onLed_chk (s : State) (f : Led → Led) : (s.onLed f).chk = s.chk := rfl
@[simp] theorem State.onLed_linkA (s : State) (f : Led → Led) : (s.onLed f).linkA = s.linkA := rfl
@[simp] theorem State.onLed_linkB (s : State) (f : Led → Led) : (s.onLed f).linkB = s.linkB := rfl
@[simp] theorem State.onLed_wall (s : State) (f : Led → Led) : (s.onLed f).wall = s.wall := rfl
@[simp] theorem State.onLed_ctxs (s : State) (f : Led → Led) : (s.onLed f).ctxs = s.ctxs := rfl
@[simp] theorem State.onLed_time (s : State) (f : Led → Led) : (s.onLed f).time = s.time := rfl
@[simp] theorem State.onLed_tum (s : State) (f : Led → Led) : (s.onLed f).tum = s.tum := rfl
@[simp] theorem State.onLed_comp (s : State) (f : Led → Led) : (s.onLed f).comp = s.comp := rfl
@[simp] theorem State.onLed_col (s : State) (f : Led → Led) : (s.onLed f).col = s.col := rfl
@[simp] theorem State.onLed_rings (s : State) (f : Led → Led) : (s.onLed f).rings = s.rings := rfl
@[simp] theorem State.onLed_led (s : State) (f : Led → Led) : (s.onLed f).led = f s.led := rfl
@[simp] theorem State.onLed_therm (s : State) (f : Led → Led) : (s.onLed f).therm = s.therm := rfl
@[simp] theorem State.onLed_saf (s : State) (f : Led → Led) : (s.onLed f).saf = s.saf := rfl
@[simp] theorem State.onLed_age (s : State) (f : Led → Led) : (s.onLed f).age = s.age := rfl
@[simp] theorem State.onLed_cmd (s : State) (f : Led → Led) : (s.onLed f).cmd = s.cmd := rfl
@[simp] theorem State.onLed_sel (s : State) (f : Led → Led) : (s.onLed f).sel = s.sel := rfl
@[simp] theorem State.onLed_ward (s : State) (f : Led → Led) : (s.onLed f).ward = s.ward := rfl
@[simp] theorem State.onLed_nvm (s : State) (f : Led → Led) : (s.onLed f).nvm = s.nvm := rfl
@[simp] theorem State.onLed_flash (s : State) (f : Led → Led) : (s.onLed f).flash = s.flash := rfl
@[simp] theorem State.onLed_dram (s : State) (f : Led → Led) : (s.onLed f).dram = s.dram := rfl
@[simp] theorem State.onLed_acc (s : State) (f : Led → Led) : (s.onLed f).acc = s.acc := rfl
@[simp] theorem State.onLed_free (s : State) (f : Led → Led) : (s.onLed f).free = s.free := rfl

@[simp] theorem State.onTherm_pending (s : State) (f : Therm → Therm) : (s.onTherm f).pending = s.pending := rfl
@[simp] theorem State.onTherm_eng (s : State) (f : Therm → Therm) : (s.onTherm f).eng = s.eng := rfl
@[simp] theorem State.onTherm_pwr (s : State) (f : Therm → Therm) : (s.onTherm f).pwr = s.pwr := rfl
@[simp] theorem State.onTherm_flt (s : State) (f : Therm → Therm) : (s.onTherm f).flt = s.flt := rfl
@[simp] theorem State.onTherm_chk (s : State) (f : Therm → Therm) : (s.onTherm f).chk = s.chk := rfl
@[simp] theorem State.onTherm_linkA (s : State) (f : Therm → Therm) : (s.onTherm f).linkA = s.linkA := rfl
@[simp] theorem State.onTherm_linkB (s : State) (f : Therm → Therm) : (s.onTherm f).linkB = s.linkB := rfl
@[simp] theorem State.onTherm_wall (s : State) (f : Therm → Therm) : (s.onTherm f).wall = s.wall := rfl
@[simp] theorem State.onTherm_ctxs (s : State) (f : Therm → Therm) : (s.onTherm f).ctxs = s.ctxs := rfl
@[simp] theorem State.onTherm_time (s : State) (f : Therm → Therm) : (s.onTherm f).time = s.time := rfl
@[simp] theorem State.onTherm_tum (s : State) (f : Therm → Therm) : (s.onTherm f).tum = s.tum := rfl
@[simp] theorem State.onTherm_comp (s : State) (f : Therm → Therm) : (s.onTherm f).comp = s.comp := rfl
@[simp] theorem State.onTherm_col (s : State) (f : Therm → Therm) : (s.onTherm f).col = s.col := rfl
@[simp] theorem State.onTherm_rings (s : State) (f : Therm → Therm) : (s.onTherm f).rings = s.rings := rfl
@[simp] theorem State.onTherm_led (s : State) (f : Therm → Therm) : (s.onTherm f).led = s.led := rfl
@[simp] theorem State.onTherm_therm (s : State) (f : Therm → Therm) : (s.onTherm f).therm = f s.therm := rfl
@[simp] theorem State.onTherm_saf (s : State) (f : Therm → Therm) : (s.onTherm f).saf = s.saf := rfl
@[simp] theorem State.onTherm_age (s : State) (f : Therm → Therm) : (s.onTherm f).age = s.age := rfl
@[simp] theorem State.onTherm_cmd (s : State) (f : Therm → Therm) : (s.onTherm f).cmd = s.cmd := rfl
@[simp] theorem State.onTherm_sel (s : State) (f : Therm → Therm) : (s.onTherm f).sel = s.sel := rfl
@[simp] theorem State.onTherm_ward (s : State) (f : Therm → Therm) : (s.onTherm f).ward = s.ward := rfl
@[simp] theorem State.onTherm_nvm (s : State) (f : Therm → Therm) : (s.onTherm f).nvm = s.nvm := rfl
@[simp] theorem State.onTherm_flash (s : State) (f : Therm → Therm) : (s.onTherm f).flash = s.flash := rfl
@[simp] theorem State.onTherm_dram (s : State) (f : Therm → Therm) : (s.onTherm f).dram = s.dram := rfl
@[simp] theorem State.onTherm_acc (s : State) (f : Therm → Therm) : (s.onTherm f).acc = s.acc := rfl
@[simp] theorem State.onTherm_free (s : State) (f : Therm → Therm) : (s.onTherm f).free = s.free := rfl

@[simp] theorem State.onSaf_pending (s : State) (f : Saf → Saf) : (s.onSaf f).pending = s.pending := rfl
@[simp] theorem State.onSaf_eng (s : State) (f : Saf → Saf) : (s.onSaf f).eng = s.eng := rfl
@[simp] theorem State.onSaf_pwr (s : State) (f : Saf → Saf) : (s.onSaf f).pwr = s.pwr := rfl
@[simp] theorem State.onSaf_flt (s : State) (f : Saf → Saf) : (s.onSaf f).flt = s.flt := rfl
@[simp] theorem State.onSaf_chk (s : State) (f : Saf → Saf) : (s.onSaf f).chk = s.chk := rfl
@[simp] theorem State.onSaf_linkA (s : State) (f : Saf → Saf) : (s.onSaf f).linkA = s.linkA := rfl
@[simp] theorem State.onSaf_linkB (s : State) (f : Saf → Saf) : (s.onSaf f).linkB = s.linkB := rfl
@[simp] theorem State.onSaf_wall (s : State) (f : Saf → Saf) : (s.onSaf f).wall = s.wall := rfl
@[simp] theorem State.onSaf_ctxs (s : State) (f : Saf → Saf) : (s.onSaf f).ctxs = s.ctxs := rfl
@[simp] theorem State.onSaf_time (s : State) (f : Saf → Saf) : (s.onSaf f).time = s.time := rfl
@[simp] theorem State.onSaf_tum (s : State) (f : Saf → Saf) : (s.onSaf f).tum = s.tum := rfl
@[simp] theorem State.onSaf_comp (s : State) (f : Saf → Saf) : (s.onSaf f).comp = s.comp := rfl
@[simp] theorem State.onSaf_col (s : State) (f : Saf → Saf) : (s.onSaf f).col = s.col := rfl
@[simp] theorem State.onSaf_rings (s : State) (f : Saf → Saf) : (s.onSaf f).rings = s.rings := rfl
@[simp] theorem State.onSaf_led (s : State) (f : Saf → Saf) : (s.onSaf f).led = s.led := rfl
@[simp] theorem State.onSaf_therm (s : State) (f : Saf → Saf) : (s.onSaf f).therm = s.therm := rfl
@[simp] theorem State.onSaf_saf (s : State) (f : Saf → Saf) : (s.onSaf f).saf = f s.saf := rfl
@[simp] theorem State.onSaf_age (s : State) (f : Saf → Saf) : (s.onSaf f).age = s.age := rfl
@[simp] theorem State.onSaf_cmd (s : State) (f : Saf → Saf) : (s.onSaf f).cmd = s.cmd := rfl
@[simp] theorem State.onSaf_sel (s : State) (f : Saf → Saf) : (s.onSaf f).sel = s.sel := rfl
@[simp] theorem State.onSaf_ward (s : State) (f : Saf → Saf) : (s.onSaf f).ward = s.ward := rfl
@[simp] theorem State.onSaf_nvm (s : State) (f : Saf → Saf) : (s.onSaf f).nvm = s.nvm := rfl
@[simp] theorem State.onSaf_flash (s : State) (f : Saf → Saf) : (s.onSaf f).flash = s.flash := rfl
@[simp] theorem State.onSaf_dram (s : State) (f : Saf → Saf) : (s.onSaf f).dram = s.dram := rfl
@[simp] theorem State.onSaf_acc (s : State) (f : Saf → Saf) : (s.onSaf f).acc = s.acc := rfl
@[simp] theorem State.onSaf_free (s : State) (f : Saf → Saf) : (s.onSaf f).free = s.free := rfl

@[simp] theorem State.onAge_pending (s : State) (f : Age → Age) : (s.onAge f).pending = s.pending := rfl
@[simp] theorem State.onAge_eng (s : State) (f : Age → Age) : (s.onAge f).eng = s.eng := rfl
@[simp] theorem State.onAge_pwr (s : State) (f : Age → Age) : (s.onAge f).pwr = s.pwr := rfl
@[simp] theorem State.onAge_flt (s : State) (f : Age → Age) : (s.onAge f).flt = s.flt := rfl
@[simp] theorem State.onAge_chk (s : State) (f : Age → Age) : (s.onAge f).chk = s.chk := rfl
@[simp] theorem State.onAge_linkA (s : State) (f : Age → Age) : (s.onAge f).linkA = s.linkA := rfl
@[simp] theorem State.onAge_linkB (s : State) (f : Age → Age) : (s.onAge f).linkB = s.linkB := rfl
@[simp] theorem State.onAge_wall (s : State) (f : Age → Age) : (s.onAge f).wall = s.wall := rfl
@[simp] theorem State.onAge_ctxs (s : State) (f : Age → Age) : (s.onAge f).ctxs = s.ctxs := rfl
@[simp] theorem State.onAge_time (s : State) (f : Age → Age) : (s.onAge f).time = s.time := rfl
@[simp] theorem State.onAge_tum (s : State) (f : Age → Age) : (s.onAge f).tum = s.tum := rfl
@[simp] theorem State.onAge_comp (s : State) (f : Age → Age) : (s.onAge f).comp = s.comp := rfl
@[simp] theorem State.onAge_col (s : State) (f : Age → Age) : (s.onAge f).col = s.col := rfl
@[simp] theorem State.onAge_rings (s : State) (f : Age → Age) : (s.onAge f).rings = s.rings := rfl
@[simp] theorem State.onAge_led (s : State) (f : Age → Age) : (s.onAge f).led = s.led := rfl
@[simp] theorem State.onAge_therm (s : State) (f : Age → Age) : (s.onAge f).therm = s.therm := rfl
@[simp] theorem State.onAge_saf (s : State) (f : Age → Age) : (s.onAge f).saf = s.saf := rfl
@[simp] theorem State.onAge_age (s : State) (f : Age → Age) : (s.onAge f).age = f s.age := rfl
@[simp] theorem State.onAge_cmd (s : State) (f : Age → Age) : (s.onAge f).cmd = s.cmd := rfl
@[simp] theorem State.onAge_sel (s : State) (f : Age → Age) : (s.onAge f).sel = s.sel := rfl
@[simp] theorem State.onAge_ward (s : State) (f : Age → Age) : (s.onAge f).ward = s.ward := rfl
@[simp] theorem State.onAge_nvm (s : State) (f : Age → Age) : (s.onAge f).nvm = s.nvm := rfl
@[simp] theorem State.onAge_flash (s : State) (f : Age → Age) : (s.onAge f).flash = s.flash := rfl
@[simp] theorem State.onAge_dram (s : State) (f : Age → Age) : (s.onAge f).dram = s.dram := rfl
@[simp] theorem State.onAge_acc (s : State) (f : Age → Age) : (s.onAge f).acc = s.acc := rfl
@[simp] theorem State.onAge_free (s : State) (f : Age → Age) : (s.onAge f).free = s.free := rfl

@[simp] theorem State.onCmd_pending (s : State) (f : Cmd → Cmd) : (s.onCmd f).pending = s.pending := rfl
@[simp] theorem State.onCmd_eng (s : State) (f : Cmd → Cmd) : (s.onCmd f).eng = s.eng := rfl
@[simp] theorem State.onCmd_pwr (s : State) (f : Cmd → Cmd) : (s.onCmd f).pwr = s.pwr := rfl
@[simp] theorem State.onCmd_flt (s : State) (f : Cmd → Cmd) : (s.onCmd f).flt = s.flt := rfl
@[simp] theorem State.onCmd_chk (s : State) (f : Cmd → Cmd) : (s.onCmd f).chk = s.chk := rfl
@[simp] theorem State.onCmd_linkA (s : State) (f : Cmd → Cmd) : (s.onCmd f).linkA = s.linkA := rfl
@[simp] theorem State.onCmd_linkB (s : State) (f : Cmd → Cmd) : (s.onCmd f).linkB = s.linkB := rfl
@[simp] theorem State.onCmd_wall (s : State) (f : Cmd → Cmd) : (s.onCmd f).wall = s.wall := rfl
@[simp] theorem State.onCmd_ctxs (s : State) (f : Cmd → Cmd) : (s.onCmd f).ctxs = s.ctxs := rfl
@[simp] theorem State.onCmd_time (s : State) (f : Cmd → Cmd) : (s.onCmd f).time = s.time := rfl
@[simp] theorem State.onCmd_tum (s : State) (f : Cmd → Cmd) : (s.onCmd f).tum = s.tum := rfl
@[simp] theorem State.onCmd_comp (s : State) (f : Cmd → Cmd) : (s.onCmd f).comp = s.comp := rfl
@[simp] theorem State.onCmd_col (s : State) (f : Cmd → Cmd) : (s.onCmd f).col = s.col := rfl
@[simp] theorem State.onCmd_rings (s : State) (f : Cmd → Cmd) : (s.onCmd f).rings = s.rings := rfl
@[simp] theorem State.onCmd_led (s : State) (f : Cmd → Cmd) : (s.onCmd f).led = s.led := rfl
@[simp] theorem State.onCmd_therm (s : State) (f : Cmd → Cmd) : (s.onCmd f).therm = s.therm := rfl
@[simp] theorem State.onCmd_saf (s : State) (f : Cmd → Cmd) : (s.onCmd f).saf = s.saf := rfl
@[simp] theorem State.onCmd_age (s : State) (f : Cmd → Cmd) : (s.onCmd f).age = s.age := rfl
@[simp] theorem State.onCmd_cmd (s : State) (f : Cmd → Cmd) : (s.onCmd f).cmd = f s.cmd := rfl
@[simp] theorem State.onCmd_sel (s : State) (f : Cmd → Cmd) : (s.onCmd f).sel = s.sel := rfl
@[simp] theorem State.onCmd_ward (s : State) (f : Cmd → Cmd) : (s.onCmd f).ward = s.ward := rfl
@[simp] theorem State.onCmd_nvm (s : State) (f : Cmd → Cmd) : (s.onCmd f).nvm = s.nvm := rfl
@[simp] theorem State.onCmd_flash (s : State) (f : Cmd → Cmd) : (s.onCmd f).flash = s.flash := rfl
@[simp] theorem State.onCmd_dram (s : State) (f : Cmd → Cmd) : (s.onCmd f).dram = s.dram := rfl
@[simp] theorem State.onCmd_acc (s : State) (f : Cmd → Cmd) : (s.onCmd f).acc = s.acc := rfl
@[simp] theorem State.onCmd_free (s : State) (f : Cmd → Cmd) : (s.onCmd f).free = s.free := rfl

@[simp] theorem State.onSel_pending (s : State) (f : Sel → Sel) : (s.onSel f).pending = s.pending := rfl
@[simp] theorem State.onSel_eng (s : State) (f : Sel → Sel) : (s.onSel f).eng = s.eng := rfl
@[simp] theorem State.onSel_pwr (s : State) (f : Sel → Sel) : (s.onSel f).pwr = s.pwr := rfl
@[simp] theorem State.onSel_flt (s : State) (f : Sel → Sel) : (s.onSel f).flt = s.flt := rfl
@[simp] theorem State.onSel_chk (s : State) (f : Sel → Sel) : (s.onSel f).chk = s.chk := rfl
@[simp] theorem State.onSel_linkA (s : State) (f : Sel → Sel) : (s.onSel f).linkA = s.linkA := rfl
@[simp] theorem State.onSel_linkB (s : State) (f : Sel → Sel) : (s.onSel f).linkB = s.linkB := rfl
@[simp] theorem State.onSel_wall (s : State) (f : Sel → Sel) : (s.onSel f).wall = s.wall := rfl
@[simp] theorem State.onSel_ctxs (s : State) (f : Sel → Sel) : (s.onSel f).ctxs = s.ctxs := rfl
@[simp] theorem State.onSel_time (s : State) (f : Sel → Sel) : (s.onSel f).time = s.time := rfl
@[simp] theorem State.onSel_tum (s : State) (f : Sel → Sel) : (s.onSel f).tum = s.tum := rfl
@[simp] theorem State.onSel_comp (s : State) (f : Sel → Sel) : (s.onSel f).comp = s.comp := rfl
@[simp] theorem State.onSel_col (s : State) (f : Sel → Sel) : (s.onSel f).col = s.col := rfl
@[simp] theorem State.onSel_rings (s : State) (f : Sel → Sel) : (s.onSel f).rings = s.rings := rfl
@[simp] theorem State.onSel_led (s : State) (f : Sel → Sel) : (s.onSel f).led = s.led := rfl
@[simp] theorem State.onSel_therm (s : State) (f : Sel → Sel) : (s.onSel f).therm = s.therm := rfl
@[simp] theorem State.onSel_saf (s : State) (f : Sel → Sel) : (s.onSel f).saf = s.saf := rfl
@[simp] theorem State.onSel_age (s : State) (f : Sel → Sel) : (s.onSel f).age = s.age := rfl
@[simp] theorem State.onSel_cmd (s : State) (f : Sel → Sel) : (s.onSel f).cmd = s.cmd := rfl
@[simp] theorem State.onSel_sel (s : State) (f : Sel → Sel) : (s.onSel f).sel = f s.sel := rfl
@[simp] theorem State.onSel_ward (s : State) (f : Sel → Sel) : (s.onSel f).ward = s.ward := rfl
@[simp] theorem State.onSel_nvm (s : State) (f : Sel → Sel) : (s.onSel f).nvm = s.nvm := rfl
@[simp] theorem State.onSel_flash (s : State) (f : Sel → Sel) : (s.onSel f).flash = s.flash := rfl
@[simp] theorem State.onSel_dram (s : State) (f : Sel → Sel) : (s.onSel f).dram = s.dram := rfl
@[simp] theorem State.onSel_acc (s : State) (f : Sel → Sel) : (s.onSel f).acc = s.acc := rfl
@[simp] theorem State.onSel_free (s : State) (f : Sel → Sel) : (s.onSel f).free = s.free := rfl

@[simp] theorem State.onWard_pending (s : State) (f : Ward → Ward) : (s.onWard f).pending = s.pending := rfl
@[simp] theorem State.onWard_eng (s : State) (f : Ward → Ward) : (s.onWard f).eng = s.eng := rfl
@[simp] theorem State.onWard_pwr (s : State) (f : Ward → Ward) : (s.onWard f).pwr = s.pwr := rfl
@[simp] theorem State.onWard_flt (s : State) (f : Ward → Ward) : (s.onWard f).flt = s.flt := rfl
@[simp] theorem State.onWard_chk (s : State) (f : Ward → Ward) : (s.onWard f).chk = s.chk := rfl
@[simp] theorem State.onWard_linkA (s : State) (f : Ward → Ward) : (s.onWard f).linkA = s.linkA := rfl
@[simp] theorem State.onWard_linkB (s : State) (f : Ward → Ward) : (s.onWard f).linkB = s.linkB := rfl
@[simp] theorem State.onWard_wall (s : State) (f : Ward → Ward) : (s.onWard f).wall = s.wall := rfl
@[simp] theorem State.onWard_ctxs (s : State) (f : Ward → Ward) : (s.onWard f).ctxs = s.ctxs := rfl
@[simp] theorem State.onWard_time (s : State) (f : Ward → Ward) : (s.onWard f).time = s.time := rfl
@[simp] theorem State.onWard_tum (s : State) (f : Ward → Ward) : (s.onWard f).tum = s.tum := rfl
@[simp] theorem State.onWard_comp (s : State) (f : Ward → Ward) : (s.onWard f).comp = s.comp := rfl
@[simp] theorem State.onWard_col (s : State) (f : Ward → Ward) : (s.onWard f).col = s.col := rfl
@[simp] theorem State.onWard_rings (s : State) (f : Ward → Ward) : (s.onWard f).rings = s.rings := rfl
@[simp] theorem State.onWard_led (s : State) (f : Ward → Ward) : (s.onWard f).led = s.led := rfl
@[simp] theorem State.onWard_therm (s : State) (f : Ward → Ward) : (s.onWard f).therm = s.therm := rfl
@[simp] theorem State.onWard_saf (s : State) (f : Ward → Ward) : (s.onWard f).saf = s.saf := rfl
@[simp] theorem State.onWard_age (s : State) (f : Ward → Ward) : (s.onWard f).age = s.age := rfl
@[simp] theorem State.onWard_cmd (s : State) (f : Ward → Ward) : (s.onWard f).cmd = s.cmd := rfl
@[simp] theorem State.onWard_sel (s : State) (f : Ward → Ward) : (s.onWard f).sel = s.sel := rfl
@[simp] theorem State.onWard_ward (s : State) (f : Ward → Ward) : (s.onWard f).ward = f s.ward := rfl
@[simp] theorem State.onWard_nvm (s : State) (f : Ward → Ward) : (s.onWard f).nvm = s.nvm := rfl
@[simp] theorem State.onWard_flash (s : State) (f : Ward → Ward) : (s.onWard f).flash = s.flash := rfl
@[simp] theorem State.onWard_dram (s : State) (f : Ward → Ward) : (s.onWard f).dram = s.dram := rfl
@[simp] theorem State.onWard_acc (s : State) (f : Ward → Ward) : (s.onWard f).acc = s.acc := rfl
@[simp] theorem State.onWard_free (s : State) (f : Ward → Ward) : (s.onWard f).free = s.free := rfl

@[simp] theorem State.onNvm_pending (s : State) (f : Nvm → Nvm) : (s.onNvm f).pending = s.pending := rfl
@[simp] theorem State.onNvm_eng (s : State) (f : Nvm → Nvm) : (s.onNvm f).eng = s.eng := rfl
@[simp] theorem State.onNvm_pwr (s : State) (f : Nvm → Nvm) : (s.onNvm f).pwr = s.pwr := rfl
@[simp] theorem State.onNvm_flt (s : State) (f : Nvm → Nvm) : (s.onNvm f).flt = s.flt := rfl
@[simp] theorem State.onNvm_chk (s : State) (f : Nvm → Nvm) : (s.onNvm f).chk = s.chk := rfl
@[simp] theorem State.onNvm_linkA (s : State) (f : Nvm → Nvm) : (s.onNvm f).linkA = s.linkA := rfl
@[simp] theorem State.onNvm_linkB (s : State) (f : Nvm → Nvm) : (s.onNvm f).linkB = s.linkB := rfl
@[simp] theorem State.onNvm_wall (s : State) (f : Nvm → Nvm) : (s.onNvm f).wall = s.wall := rfl
@[simp] theorem State.onNvm_ctxs (s : State) (f : Nvm → Nvm) : (s.onNvm f).ctxs = s.ctxs := rfl
@[simp] theorem State.onNvm_time (s : State) (f : Nvm → Nvm) : (s.onNvm f).time = s.time := rfl
@[simp] theorem State.onNvm_tum (s : State) (f : Nvm → Nvm) : (s.onNvm f).tum = s.tum := rfl
@[simp] theorem State.onNvm_comp (s : State) (f : Nvm → Nvm) : (s.onNvm f).comp = s.comp := rfl
@[simp] theorem State.onNvm_col (s : State) (f : Nvm → Nvm) : (s.onNvm f).col = s.col := rfl
@[simp] theorem State.onNvm_rings (s : State) (f : Nvm → Nvm) : (s.onNvm f).rings = s.rings := rfl
@[simp] theorem State.onNvm_led (s : State) (f : Nvm → Nvm) : (s.onNvm f).led = s.led := rfl
@[simp] theorem State.onNvm_therm (s : State) (f : Nvm → Nvm) : (s.onNvm f).therm = s.therm := rfl
@[simp] theorem State.onNvm_saf (s : State) (f : Nvm → Nvm) : (s.onNvm f).saf = s.saf := rfl
@[simp] theorem State.onNvm_age (s : State) (f : Nvm → Nvm) : (s.onNvm f).age = s.age := rfl
@[simp] theorem State.onNvm_cmd (s : State) (f : Nvm → Nvm) : (s.onNvm f).cmd = s.cmd := rfl
@[simp] theorem State.onNvm_sel (s : State) (f : Nvm → Nvm) : (s.onNvm f).sel = s.sel := rfl
@[simp] theorem State.onNvm_ward (s : State) (f : Nvm → Nvm) : (s.onNvm f).ward = s.ward := rfl
@[simp] theorem State.onNvm_nvm (s : State) (f : Nvm → Nvm) : (s.onNvm f).nvm = f s.nvm := rfl
@[simp] theorem State.onNvm_flash (s : State) (f : Nvm → Nvm) : (s.onNvm f).flash = s.flash := rfl
@[simp] theorem State.onNvm_dram (s : State) (f : Nvm → Nvm) : (s.onNvm f).dram = s.dram := rfl
@[simp] theorem State.onNvm_acc (s : State) (f : Nvm → Nvm) : (s.onNvm f).acc = s.acc := rfl
@[simp] theorem State.onNvm_free (s : State) (f : Nvm → Nvm) : (s.onNvm f).free = s.free := rfl

@[simp] theorem State.takeFree_pending (s : State)  : (s.takeFree).pending = s.pending := rfl
@[simp] theorem State.takeFree_eng (s : State)  : (s.takeFree).eng = s.eng := rfl
@[simp] theorem State.takeFree_pwr (s : State)  : (s.takeFree).pwr = s.pwr := rfl
@[simp] theorem State.takeFree_flt (s : State)  : (s.takeFree).flt = s.flt := rfl
@[simp] theorem State.takeFree_chk (s : State)  : (s.takeFree).chk = s.chk := rfl
@[simp] theorem State.takeFree_linkA (s : State)  : (s.takeFree).linkA = s.linkA := rfl
@[simp] theorem State.takeFree_linkB (s : State)  : (s.takeFree).linkB = s.linkB := rfl
@[simp] theorem State.takeFree_wall (s : State)  : (s.takeFree).wall = s.wall := rfl
@[simp] theorem State.takeFree_ctxs (s : State)  : (s.takeFree).ctxs = s.ctxs := rfl
@[simp] theorem State.takeFree_time (s : State)  : (s.takeFree).time = s.time := rfl
@[simp] theorem State.takeFree_tum (s : State)  : (s.takeFree).tum = s.tum := rfl
@[simp] theorem State.takeFree_comp (s : State)  : (s.takeFree).comp = s.comp := rfl
@[simp] theorem State.takeFree_col (s : State)  : (s.takeFree).col = s.col := rfl
@[simp] theorem State.takeFree_rings (s : State)  : (s.takeFree).rings = s.rings := rfl
@[simp] theorem State.takeFree_led (s : State)  : (s.takeFree).led = s.led := rfl
@[simp] theorem State.takeFree_therm (s : State)  : (s.takeFree).therm = s.therm := rfl
@[simp] theorem State.takeFree_saf (s : State)  : (s.takeFree).saf = s.saf := rfl
@[simp] theorem State.takeFree_age (s : State)  : (s.takeFree).age = s.age := rfl
@[simp] theorem State.takeFree_cmd (s : State)  : (s.takeFree).cmd = s.cmd := rfl
@[simp] theorem State.takeFree_sel (s : State)  : (s.takeFree).sel = s.sel := rfl
@[simp] theorem State.takeFree_ward (s : State)  : (s.takeFree).ward = s.ward := rfl
@[simp] theorem State.takeFree_nvm (s : State)  : (s.takeFree).nvm = s.nvm := rfl
@[simp] theorem State.takeFree_flash (s : State)  : (s.takeFree).flash = s.flash := rfl
@[simp] theorem State.takeFree_dram (s : State)  : (s.takeFree).dram = s.dram := rfl
@[simp] theorem State.takeFree_acc (s : State)  : (s.takeFree).acc = s.acc := rfl
@[simp] theorem State.takeFree_free (s : State)  : (s.takeFree).free = s.free + 1 := rfl

@[simp] theorem State.withPending_pending (s : State) (q : List Instr) : (s.withPending q).pending = q := rfl
@[simp] theorem State.withPending_eng (s : State) (q : List Instr) : (s.withPending q).eng = s.eng := rfl
@[simp] theorem State.withPending_pwr (s : State) (q : List Instr) : (s.withPending q).pwr = s.pwr := rfl
@[simp] theorem State.withPending_flt (s : State) (q : List Instr) : (s.withPending q).flt = s.flt := rfl
@[simp] theorem State.withPending_chk (s : State) (q : List Instr) : (s.withPending q).chk = s.chk := rfl
@[simp] theorem State.withPending_linkA (s : State) (q : List Instr) : (s.withPending q).linkA = s.linkA := rfl
@[simp] theorem State.withPending_linkB (s : State) (q : List Instr) : (s.withPending q).linkB = s.linkB := rfl
@[simp] theorem State.withPending_wall (s : State) (q : List Instr) : (s.withPending q).wall = s.wall := rfl
@[simp] theorem State.withPending_ctxs (s : State) (q : List Instr) : (s.withPending q).ctxs = s.ctxs := rfl
@[simp] theorem State.withPending_time (s : State) (q : List Instr) : (s.withPending q).time = s.time := rfl
@[simp] theorem State.withPending_tum (s : State) (q : List Instr) : (s.withPending q).tum = s.tum := rfl
@[simp] theorem State.withPending_comp (s : State) (q : List Instr) : (s.withPending q).comp = s.comp := rfl
@[simp] theorem State.withPending_col (s : State) (q : List Instr) : (s.withPending q).col = s.col := rfl
@[simp] theorem State.withPending_rings (s : State) (q : List Instr) : (s.withPending q).rings = s.rings := rfl
@[simp] theorem State.withPending_led (s : State) (q : List Instr) : (s.withPending q).led = s.led := rfl
@[simp] theorem State.withPending_therm (s : State) (q : List Instr) : (s.withPending q).therm = s.therm := rfl
@[simp] theorem State.withPending_saf (s : State) (q : List Instr) : (s.withPending q).saf = s.saf := rfl
@[simp] theorem State.withPending_age (s : State) (q : List Instr) : (s.withPending q).age = s.age := rfl
@[simp] theorem State.withPending_cmd (s : State) (q : List Instr) : (s.withPending q).cmd = s.cmd := rfl
@[simp] theorem State.withPending_sel (s : State) (q : List Instr) : (s.withPending q).sel = s.sel := rfl
@[simp] theorem State.withPending_ward (s : State) (q : List Instr) : (s.withPending q).ward = s.ward := rfl
@[simp] theorem State.withPending_nvm (s : State) (q : List Instr) : (s.withPending q).nvm = s.nvm := rfl
@[simp] theorem State.withPending_flash (s : State) (q : List Instr) : (s.withPending q).flash = s.flash := rfl
@[simp] theorem State.withPending_dram (s : State) (q : List Instr) : (s.withPending q).dram = s.dram := rfl
@[simp] theorem State.withPending_acc (s : State) (q : List Instr) : (s.withPending q).acc = s.acc := rfl
@[simp] theorem State.withPending_free (s : State) (q : List Instr) : (s.withPending q).free = s.free := rfl

@[simp] theorem State.answer_pending (s : State) (src : Source) (a : Nat) (d : Word) (b : Byte) : (s.answer src a d b).pending = s.pending := rfl
@[simp] theorem State.answer_eng (s : State) (src : Source) (a : Nat) (d : Word) (b : Byte) : (s.answer src a d b).eng = s.eng := rfl
@[simp] theorem State.answer_pwr (s : State) (src : Source) (a : Nat) (d : Word) (b : Byte) : (s.answer src a d b).pwr = s.pwr := rfl
@[simp] theorem State.answer_flt (s : State) (src : Source) (a : Nat) (d : Word) (b : Byte) : (s.answer src a d b).flt = s.flt := rfl
@[simp] theorem State.answer_chk (s : State) (src : Source) (a : Nat) (d : Word) (b : Byte) : (s.answer src a d b).chk = s.chk := rfl
@[simp] theorem State.answer_linkA (s : State) (src : Source) (a : Nat) (d : Word) (b : Byte) : (s.answer src a d b).linkA = s.linkA := rfl
@[simp] theorem State.answer_linkB (s : State) (src : Source) (a : Nat) (d : Word) (b : Byte) : (s.answer src a d b).linkB = s.linkB := rfl
@[simp] theorem State.answer_wall (s : State) (src : Source) (a : Nat) (d : Word) (b : Byte) : (s.answer src a d b).wall = s.wall := rfl
@[simp] theorem State.answer_ctxs (s : State) (src : Source) (a : Nat) (d : Word) (b : Byte) : (s.answer src a d b).ctxs = s.ctxs := rfl
@[simp] theorem State.answer_time (s : State) (src : Source) (a : Nat) (d : Word) (b : Byte) : (s.answer src a d b).time = s.time := rfl
@[simp] theorem State.answer_tum (s : State) (src : Source) (a : Nat) (d : Word) (b : Byte) : (s.answer src a d b).tum = s.tum := rfl
@[simp] theorem State.answer_comp (s : State) (src : Source) (a : Nat) (d : Word) (b : Byte) : (s.answer src a d b).comp = s.comp := rfl
@[simp] theorem State.answer_col (s : State) (src : Source) (a : Nat) (d : Word) (b : Byte) : (s.answer src a d b).col = s.col := rfl
@[simp] theorem State.answer_rings (s : State) (src : Source) (a : Nat) (d : Word) (b : Byte) : (s.answer src a d b).rings = s.rings := rfl
@[simp] theorem State.answer_led (s : State) (src : Source) (a : Nat) (d : Word) (b : Byte) : (s.answer src a d b).led = s.led := rfl
@[simp] theorem State.answer_therm (s : State) (src : Source) (a : Nat) (d : Word) (b : Byte) : (s.answer src a d b).therm = s.therm := rfl
@[simp] theorem State.answer_saf (s : State) (src : Source) (a : Nat) (d : Word) (b : Byte) : (s.answer src a d b).saf = s.saf := rfl
@[simp] theorem State.answer_age (s : State) (src : Source) (a : Nat) (d : Word) (b : Byte) : (s.answer src a d b).age = s.age := rfl
@[simp] theorem State.answer_cmd (s : State) (src : Source) (a : Nat) (d : Word) (b : Byte) : (s.answer src a d b).cmd = s.cmd := rfl
@[simp] theorem State.answer_sel (s : State) (src : Source) (a : Nat) (d : Word) (b : Byte) : (s.answer src a d b).sel = s.sel := rfl
@[simp] theorem State.answer_ward (s : State) (src : Source) (a : Nat) (d : Word) (b : Byte) : (s.answer src a d b).ward = s.ward := rfl
@[simp] theorem State.answer_nvm (s : State) (src : Source) (a : Nat) (d : Word) (b : Byte) : (s.answer src a d b).nvm = s.nvm := rfl
@[simp] theorem State.answer_flash (s : State) (src : Source) (a : Nat) (d : Word) (b : Byte) : (s.answer src a d b).flash = s.flash := rfl
@[simp] theorem State.answer_dram (s : State) (src : Source) (a : Nat) (d : Word) (b : Byte) : (s.answer src a d b).dram = s.dram := rfl
@[simp] theorem State.answer_acc (s : State) (src : Source) (a : Nat) (d : Word) (b : Byte) : (s.answer src a d b).acc = some { source := src, addr := a, data := d, status := b } := rfl
@[simp] theorem State.answer_free (s : State) (src : Source) (a : Nat) (d : Word) (b : Byte) : (s.answer src a d b).free = s.free := rfl

@[simp] theorem State.onThread_pending (s : State) (i : Nat) (f : Thread → Thread) : (s.onThread i f).pending = s.pending := rfl
@[simp] theorem State.onThread_eng (s : State) (i : Nat) (f : Thread → Thread) : (s.onThread i f).eng = s.eng := rfl
@[simp] theorem State.onThread_pwr (s : State) (i : Nat) (f : Thread → Thread) : (s.onThread i f).pwr = s.pwr := rfl
@[simp] theorem State.onThread_flt (s : State) (i : Nat) (f : Thread → Thread) : (s.onThread i f).flt = s.flt := rfl
@[simp] theorem State.onThread_chk (s : State) (i : Nat) (f : Thread → Thread) : (s.onThread i f).chk = s.chk := rfl
@[simp] theorem State.onThread_linkA (s : State) (i : Nat) (f : Thread → Thread) : (s.onThread i f).linkA = s.linkA := rfl
@[simp] theorem State.onThread_linkB (s : State) (i : Nat) (f : Thread → Thread) : (s.onThread i f).linkB = s.linkB := rfl
@[simp] theorem State.onThread_wall (s : State) (i : Nat) (f : Thread → Thread) : (s.onThread i f).wall = s.wall := rfl
@[simp] theorem State.onThread_ctxs (s : State) (i : Nat) (f : Thread → Thread) : (s.onThread i f).ctxs = s.ctxs := rfl
@[simp] theorem State.onThread_time (s : State) (i : Nat) (f : Thread → Thread) : (s.onThread i f).time = s.time := rfl
@[simp] theorem State.onThread_tum (s : State) (i : Nat) (f : Thread → Thread) : (s.onThread i f).tum = { s.tum with threads := upd s.tum.threads i f } := rfl
@[simp] theorem State.onThread_comp (s : State) (i : Nat) (f : Thread → Thread) : (s.onThread i f).comp = s.comp := rfl
@[simp] theorem State.onThread_col (s : State) (i : Nat) (f : Thread → Thread) : (s.onThread i f).col = s.col := rfl
@[simp] theorem State.onThread_rings (s : State) (i : Nat) (f : Thread → Thread) : (s.onThread i f).rings = s.rings := rfl
@[simp] theorem State.onThread_led (s : State) (i : Nat) (f : Thread → Thread) : (s.onThread i f).led = s.led := rfl
@[simp] theorem State.onThread_therm (s : State) (i : Nat) (f : Thread → Thread) : (s.onThread i f).therm = s.therm := rfl
@[simp] theorem State.onThread_saf (s : State) (i : Nat) (f : Thread → Thread) : (s.onThread i f).saf = s.saf := rfl
@[simp] theorem State.onThread_age (s : State) (i : Nat) (f : Thread → Thread) : (s.onThread i f).age = s.age := rfl
@[simp] theorem State.onThread_cmd (s : State) (i : Nat) (f : Thread → Thread) : (s.onThread i f).cmd = s.cmd := rfl
@[simp] theorem State.onThread_sel (s : State) (i : Nat) (f : Thread → Thread) : (s.onThread i f).sel = s.sel := rfl
@[simp] theorem State.onThread_ward (s : State) (i : Nat) (f : Thread → Thread) : (s.onThread i f).ward = s.ward := rfl
@[simp] theorem State.onThread_nvm (s : State) (i : Nat) (f : Thread → Thread) : (s.onThread i f).nvm = s.nvm := rfl
@[simp] theorem State.onThread_flash (s : State) (i : Nat) (f : Thread → Thread) : (s.onThread i f).flash = s.flash := rfl
@[simp] theorem State.onThread_dram (s : State) (i : Nat) (f : Thread → Thread) : (s.onThread i f).dram = s.dram := rfl
@[simp] theorem State.onThread_acc (s : State) (i : Nat) (f : Thread → Thread) : (s.onThread i f).acc = s.acc := rfl
@[simp] theorem State.onThread_free (s : State) (i : Nat) (f : Thread → Thread) : (s.onThread i f).free = s.free := rfl

@[simp] theorem State.onUnit_pending (s : State) (i : Nat) (f : Chk → Chk) : (s.onUnit i f).pending = s.pending := rfl
@[simp] theorem State.onUnit_eng (s : State) (i : Nat) (f : Chk → Chk) : (s.onUnit i f).eng = s.eng := rfl
@[simp] theorem State.onUnit_pwr (s : State) (i : Nat) (f : Chk → Chk) : (s.onUnit i f).pwr = s.pwr := rfl
@[simp] theorem State.onUnit_flt (s : State) (i : Nat) (f : Chk → Chk) : (s.onUnit i f).flt = s.flt := rfl
@[simp] theorem State.onUnit_chk (s : State) (i : Nat) (f : Chk → Chk) : (s.onUnit i f).chk = upd s.chk i f := rfl
@[simp] theorem State.onUnit_linkA (s : State) (i : Nat) (f : Chk → Chk) : (s.onUnit i f).linkA = s.linkA := rfl
@[simp] theorem State.onUnit_linkB (s : State) (i : Nat) (f : Chk → Chk) : (s.onUnit i f).linkB = s.linkB := rfl
@[simp] theorem State.onUnit_wall (s : State) (i : Nat) (f : Chk → Chk) : (s.onUnit i f).wall = s.wall := rfl
@[simp] theorem State.onUnit_ctxs (s : State) (i : Nat) (f : Chk → Chk) : (s.onUnit i f).ctxs = s.ctxs := rfl
@[simp] theorem State.onUnit_time (s : State) (i : Nat) (f : Chk → Chk) : (s.onUnit i f).time = s.time := rfl
@[simp] theorem State.onUnit_tum (s : State) (i : Nat) (f : Chk → Chk) : (s.onUnit i f).tum = s.tum := rfl
@[simp] theorem State.onUnit_comp (s : State) (i : Nat) (f : Chk → Chk) : (s.onUnit i f).comp = s.comp := rfl
@[simp] theorem State.onUnit_col (s : State) (i : Nat) (f : Chk → Chk) : (s.onUnit i f).col = s.col := rfl
@[simp] theorem State.onUnit_rings (s : State) (i : Nat) (f : Chk → Chk) : (s.onUnit i f).rings = s.rings := rfl
@[simp] theorem State.onUnit_led (s : State) (i : Nat) (f : Chk → Chk) : (s.onUnit i f).led = s.led := rfl
@[simp] theorem State.onUnit_therm (s : State) (i : Nat) (f : Chk → Chk) : (s.onUnit i f).therm = s.therm := rfl
@[simp] theorem State.onUnit_saf (s : State) (i : Nat) (f : Chk → Chk) : (s.onUnit i f).saf = s.saf := rfl
@[simp] theorem State.onUnit_age (s : State) (i : Nat) (f : Chk → Chk) : (s.onUnit i f).age = s.age := rfl
@[simp] theorem State.onUnit_cmd (s : State) (i : Nat) (f : Chk → Chk) : (s.onUnit i f).cmd = s.cmd := rfl
@[simp] theorem State.onUnit_sel (s : State) (i : Nat) (f : Chk → Chk) : (s.onUnit i f).sel = s.sel := rfl
@[simp] theorem State.onUnit_ward (s : State) (i : Nat) (f : Chk → Chk) : (s.onUnit i f).ward = s.ward := rfl
@[simp] theorem State.onUnit_nvm (s : State) (i : Nat) (f : Chk → Chk) : (s.onUnit i f).nvm = s.nvm := rfl
@[simp] theorem State.onUnit_flash (s : State) (i : Nat) (f : Chk → Chk) : (s.onUnit i f).flash = s.flash := rfl
@[simp] theorem State.onUnit_dram (s : State) (i : Nat) (f : Chk → Chk) : (s.onUnit i f).dram = s.dram := rfl
@[simp] theorem State.onUnit_acc (s : State) (i : Nat) (f : Chk → Chk) : (s.onUnit i f).acc = s.acc := rfl
@[simp] theorem State.onUnit_free (s : State) (i : Nat) (f : Chk → Chk) : (s.onUnit i f).free = s.free := rfl

@[simp] theorem State.onCtx_pending (s : State) (i : Nat) (f : Ctx → Ctx) : (s.onCtx i f).pending = s.pending := rfl
@[simp] theorem State.onCtx_eng (s : State) (i : Nat) (f : Ctx → Ctx) : (s.onCtx i f).eng = s.eng := rfl
@[simp] theorem State.onCtx_pwr (s : State) (i : Nat) (f : Ctx → Ctx) : (s.onCtx i f).pwr = s.pwr := rfl
@[simp] theorem State.onCtx_flt (s : State) (i : Nat) (f : Ctx → Ctx) : (s.onCtx i f).flt = s.flt := rfl
@[simp] theorem State.onCtx_chk (s : State) (i : Nat) (f : Ctx → Ctx) : (s.onCtx i f).chk = s.chk := rfl
@[simp] theorem State.onCtx_linkA (s : State) (i : Nat) (f : Ctx → Ctx) : (s.onCtx i f).linkA = s.linkA := rfl
@[simp] theorem State.onCtx_linkB (s : State) (i : Nat) (f : Ctx → Ctx) : (s.onCtx i f).linkB = s.linkB := rfl
@[simp] theorem State.onCtx_wall (s : State) (i : Nat) (f : Ctx → Ctx) : (s.onCtx i f).wall = s.wall := rfl
@[simp] theorem State.onCtx_ctxs (s : State) (i : Nat) (f : Ctx → Ctx) : (s.onCtx i f).ctxs = upd s.ctxs i f := rfl
@[simp] theorem State.onCtx_time (s : State) (i : Nat) (f : Ctx → Ctx) : (s.onCtx i f).time = s.time := rfl
@[simp] theorem State.onCtx_tum (s : State) (i : Nat) (f : Ctx → Ctx) : (s.onCtx i f).tum = s.tum := rfl
@[simp] theorem State.onCtx_comp (s : State) (i : Nat) (f : Ctx → Ctx) : (s.onCtx i f).comp = s.comp := rfl
@[simp] theorem State.onCtx_col (s : State) (i : Nat) (f : Ctx → Ctx) : (s.onCtx i f).col = s.col := rfl
@[simp] theorem State.onCtx_rings (s : State) (i : Nat) (f : Ctx → Ctx) : (s.onCtx i f).rings = s.rings := rfl
@[simp] theorem State.onCtx_led (s : State) (i : Nat) (f : Ctx → Ctx) : (s.onCtx i f).led = s.led := rfl
@[simp] theorem State.onCtx_therm (s : State) (i : Nat) (f : Ctx → Ctx) : (s.onCtx i f).therm = s.therm := rfl
@[simp] theorem State.onCtx_saf (s : State) (i : Nat) (f : Ctx → Ctx) : (s.onCtx i f).saf = s.saf := rfl
@[simp] theorem State.onCtx_age (s : State) (i : Nat) (f : Ctx → Ctx) : (s.onCtx i f).age = s.age := rfl
@[simp] theorem State.onCtx_cmd (s : State) (i : Nat) (f : Ctx → Ctx) : (s.onCtx i f).cmd = s.cmd := rfl
@[simp] theorem State.onCtx_sel (s : State) (i : Nat) (f : Ctx → Ctx) : (s.onCtx i f).sel = s.sel := rfl
@[simp] theorem State.onCtx_ward (s : State) (i : Nat) (f : Ctx → Ctx) : (s.onCtx i f).ward = s.ward := rfl
@[simp] theorem State.onCtx_nvm (s : State) (i : Nat) (f : Ctx → Ctx) : (s.onCtx i f).nvm = s.nvm := rfl
@[simp] theorem State.onCtx_flash (s : State) (i : Nat) (f : Ctx → Ctx) : (s.onCtx i f).flash = s.flash := rfl
@[simp] theorem State.onCtx_dram (s : State) (i : Nat) (f : Ctx → Ctx) : (s.onCtx i f).dram = s.dram := rfl
@[simp] theorem State.onCtx_acc (s : State) (i : Nat) (f : Ctx → Ctx) : (s.onCtx i f).acc = s.acc := rfl
@[simp] theorem State.onCtx_free (s : State) (i : Nat) (f : Ctx → Ctx) : (s.onCtx i f).free = s.free := rfl

@[simp] theorem State.onRing_pending (s : State) (i : Nat) (f : Ring → Ring) : (s.onRing i f).pending = s.pending := rfl
@[simp] theorem State.onRing_eng (s : State) (i : Nat) (f : Ring → Ring) : (s.onRing i f).eng = s.eng := rfl
@[simp] theorem State.onRing_pwr (s : State) (i : Nat) (f : Ring → Ring) : (s.onRing i f).pwr = s.pwr := rfl
@[simp] theorem State.onRing_flt (s : State) (i : Nat) (f : Ring → Ring) : (s.onRing i f).flt = s.flt := rfl
@[simp] theorem State.onRing_chk (s : State) (i : Nat) (f : Ring → Ring) : (s.onRing i f).chk = s.chk := rfl
@[simp] theorem State.onRing_linkA (s : State) (i : Nat) (f : Ring → Ring) : (s.onRing i f).linkA = s.linkA := rfl
@[simp] theorem State.onRing_linkB (s : State) (i : Nat) (f : Ring → Ring) : (s.onRing i f).linkB = s.linkB := rfl
@[simp] theorem State.onRing_wall (s : State) (i : Nat) (f : Ring → Ring) : (s.onRing i f).wall = s.wall := rfl
@[simp] theorem State.onRing_ctxs (s : State) (i : Nat) (f : Ring → Ring) : (s.onRing i f).ctxs = s.ctxs := rfl
@[simp] theorem State.onRing_time (s : State) (i : Nat) (f : Ring → Ring) : (s.onRing i f).time = s.time := rfl
@[simp] theorem State.onRing_tum (s : State) (i : Nat) (f : Ring → Ring) : (s.onRing i f).tum = s.tum := rfl
@[simp] theorem State.onRing_comp (s : State) (i : Nat) (f : Ring → Ring) : (s.onRing i f).comp = s.comp := rfl
@[simp] theorem State.onRing_col (s : State) (i : Nat) (f : Ring → Ring) : (s.onRing i f).col = s.col := rfl
@[simp] theorem State.onRing_rings (s : State) (i : Nat) (f : Ring → Ring) : (s.onRing i f).rings = { s.rings with rings := upd s.rings.rings i f } := rfl
@[simp] theorem State.onRing_led (s : State) (i : Nat) (f : Ring → Ring) : (s.onRing i f).led = s.led := rfl
@[simp] theorem State.onRing_therm (s : State) (i : Nat) (f : Ring → Ring) : (s.onRing i f).therm = s.therm := rfl
@[simp] theorem State.onRing_saf (s : State) (i : Nat) (f : Ring → Ring) : (s.onRing i f).saf = s.saf := rfl
@[simp] theorem State.onRing_age (s : State) (i : Nat) (f : Ring → Ring) : (s.onRing i f).age = s.age := rfl
@[simp] theorem State.onRing_cmd (s : State) (i : Nat) (f : Ring → Ring) : (s.onRing i f).cmd = s.cmd := rfl
@[simp] theorem State.onRing_sel (s : State) (i : Nat) (f : Ring → Ring) : (s.onRing i f).sel = s.sel := rfl
@[simp] theorem State.onRing_ward (s : State) (i : Nat) (f : Ring → Ring) : (s.onRing i f).ward = s.ward := rfl
@[simp] theorem State.onRing_nvm (s : State) (i : Nat) (f : Ring → Ring) : (s.onRing i f).nvm = s.nvm := rfl
@[simp] theorem State.onRing_flash (s : State) (i : Nat) (f : Ring → Ring) : (s.onRing i f).flash = s.flash := rfl
@[simp] theorem State.onRing_dram (s : State) (i : Nat) (f : Ring → Ring) : (s.onRing i f).dram = s.dram := rfl
@[simp] theorem State.onRing_acc (s : State) (i : Nat) (f : Ring → Ring) : (s.onRing i f).acc = s.acc := rfl
@[simp] theorem State.onRing_free (s : State) (i : Nat) (f : Ring → Ring) : (s.onRing i f).free = s.free := rfl

@[simp] theorem State.onLayer_pending (s : State) (i : Nat) (f : Layer → Layer) : (s.onLayer i f).pending = s.pending := rfl
@[simp] theorem State.onLayer_eng (s : State) (i : Nat) (f : Layer → Layer) : (s.onLayer i f).eng = s.eng := rfl
@[simp] theorem State.onLayer_pwr (s : State) (i : Nat) (f : Layer → Layer) : (s.onLayer i f).pwr = s.pwr := rfl
@[simp] theorem State.onLayer_flt (s : State) (i : Nat) (f : Layer → Layer) : (s.onLayer i f).flt = s.flt := rfl
@[simp] theorem State.onLayer_chk (s : State) (i : Nat) (f : Layer → Layer) : (s.onLayer i f).chk = s.chk := rfl
@[simp] theorem State.onLayer_linkA (s : State) (i : Nat) (f : Layer → Layer) : (s.onLayer i f).linkA = s.linkA := rfl
@[simp] theorem State.onLayer_linkB (s : State) (i : Nat) (f : Layer → Layer) : (s.onLayer i f).linkB = s.linkB := rfl
@[simp] theorem State.onLayer_wall (s : State) (i : Nat) (f : Layer → Layer) : (s.onLayer i f).wall = s.wall := rfl
@[simp] theorem State.onLayer_ctxs (s : State) (i : Nat) (f : Layer → Layer) : (s.onLayer i f).ctxs = s.ctxs := rfl
@[simp] theorem State.onLayer_time (s : State) (i : Nat) (f : Layer → Layer) : (s.onLayer i f).time = s.time := rfl
@[simp] theorem State.onLayer_tum (s : State) (i : Nat) (f : Layer → Layer) : (s.onLayer i f).tum = s.tum := rfl
@[simp] theorem State.onLayer_comp (s : State) (i : Nat) (f : Layer → Layer) : (s.onLayer i f).comp = { s.comp with layers := upd s.comp.layers i f } := rfl
@[simp] theorem State.onLayer_col (s : State) (i : Nat) (f : Layer → Layer) : (s.onLayer i f).col = s.col := rfl
@[simp] theorem State.onLayer_rings (s : State) (i : Nat) (f : Layer → Layer) : (s.onLayer i f).rings = s.rings := rfl
@[simp] theorem State.onLayer_led (s : State) (i : Nat) (f : Layer → Layer) : (s.onLayer i f).led = s.led := rfl
@[simp] theorem State.onLayer_therm (s : State) (i : Nat) (f : Layer → Layer) : (s.onLayer i f).therm = s.therm := rfl
@[simp] theorem State.onLayer_saf (s : State) (i : Nat) (f : Layer → Layer) : (s.onLayer i f).saf = s.saf := rfl
@[simp] theorem State.onLayer_age (s : State) (i : Nat) (f : Layer → Layer) : (s.onLayer i f).age = s.age := rfl
@[simp] theorem State.onLayer_cmd (s : State) (i : Nat) (f : Layer → Layer) : (s.onLayer i f).cmd = s.cmd := rfl
@[simp] theorem State.onLayer_sel (s : State) (i : Nat) (f : Layer → Layer) : (s.onLayer i f).sel = s.sel := rfl
@[simp] theorem State.onLayer_ward (s : State) (i : Nat) (f : Layer → Layer) : (s.onLayer i f).ward = s.ward := rfl
@[simp] theorem State.onLayer_nvm (s : State) (i : Nat) (f : Layer → Layer) : (s.onLayer i f).nvm = s.nvm := rfl
@[simp] theorem State.onLayer_flash (s : State) (i : Nat) (f : Layer → Layer) : (s.onLayer i f).flash = s.flash := rfl
@[simp] theorem State.onLayer_dram (s : State) (i : Nat) (f : Layer → Layer) : (s.onLayer i f).dram = s.dram := rfl
@[simp] theorem State.onLayer_acc (s : State) (i : Nat) (f : Layer → Layer) : (s.onLayer i f).acc = s.acc := rfl
@[simp] theorem State.onLayer_free (s : State) (i : Nat) (f : Layer → Layer) : (s.onLayer i f).free = s.free := rfl

@[simp] theorem State.flashStore_pending (s : State) (a : Nat) (l : List Byte) : (s.flashStore a l).pending = s.pending := rfl
@[simp] theorem State.flashStore_eng (s : State) (a : Nat) (l : List Byte) : (s.flashStore a l).eng = s.eng := rfl
@[simp] theorem State.flashStore_pwr (s : State) (a : Nat) (l : List Byte) : (s.flashStore a l).pwr = s.pwr := rfl
@[simp] theorem State.flashStore_flt (s : State) (a : Nat) (l : List Byte) : (s.flashStore a l).flt = s.flt := rfl
@[simp] theorem State.flashStore_chk (s : State) (a : Nat) (l : List Byte) : (s.flashStore a l).chk = s.chk := rfl
@[simp] theorem State.flashStore_linkA (s : State) (a : Nat) (l : List Byte) : (s.flashStore a l).linkA = s.linkA := rfl
@[simp] theorem State.flashStore_linkB (s : State) (a : Nat) (l : List Byte) : (s.flashStore a l).linkB = s.linkB := rfl
@[simp] theorem State.flashStore_wall (s : State) (a : Nat) (l : List Byte) : (s.flashStore a l).wall = s.wall := rfl
@[simp] theorem State.flashStore_ctxs (s : State) (a : Nat) (l : List Byte) : (s.flashStore a l).ctxs = s.ctxs := rfl
@[simp] theorem State.flashStore_time (s : State) (a : Nat) (l : List Byte) : (s.flashStore a l).time = s.time := rfl
@[simp] theorem State.flashStore_tum (s : State) (a : Nat) (l : List Byte) : (s.flashStore a l).tum = s.tum := rfl
@[simp] theorem State.flashStore_comp (s : State) (a : Nat) (l : List Byte) : (s.flashStore a l).comp = s.comp := rfl
@[simp] theorem State.flashStore_col (s : State) (a : Nat) (l : List Byte) : (s.flashStore a l).col = s.col := rfl
@[simp] theorem State.flashStore_rings (s : State) (a : Nat) (l : List Byte) : (s.flashStore a l).rings = s.rings := rfl
@[simp] theorem State.flashStore_led (s : State) (a : Nat) (l : List Byte) : (s.flashStore a l).led = s.led := rfl
@[simp] theorem State.flashStore_therm (s : State) (a : Nat) (l : List Byte) : (s.flashStore a l).therm = s.therm := rfl
@[simp] theorem State.flashStore_saf (s : State) (a : Nat) (l : List Byte) : (s.flashStore a l).saf = s.saf := rfl
@[simp] theorem State.flashStore_age (s : State) (a : Nat) (l : List Byte) : (s.flashStore a l).age = s.age := rfl
@[simp] theorem State.flashStore_cmd (s : State) (a : Nat) (l : List Byte) : (s.flashStore a l).cmd = s.cmd := rfl
@[simp] theorem State.flashStore_sel (s : State) (a : Nat) (l : List Byte) : (s.flashStore a l).sel = s.sel := rfl
@[simp] theorem State.flashStore_ward (s : State) (a : Nat) (l : List Byte) : (s.flashStore a l).ward = s.ward := rfl
@[simp] theorem State.flashStore_nvm (s : State) (a : Nat) (l : List Byte) : (s.flashStore a l).nvm = s.nvm := rfl
@[simp] theorem State.flashStore_flash (s : State) (a : Nat) (l : List Byte) : (s.flashStore a l).flash = storeBytes flashFill a l s.flash := rfl
@[simp] theorem State.flashStore_dram (s : State) (a : Nat) (l : List Byte) : (s.flashStore a l).dram = s.dram := rfl
@[simp] theorem State.flashStore_acc (s : State) (a : Nat) (l : List Byte) : (s.flashStore a l).acc = s.acc := rfl
@[simp] theorem State.flashStore_free (s : State) (a : Nat) (l : List Byte) : (s.flashStore a l).free = s.free := rfl

@[simp] theorem State.dramStore_pending (s : State) (a : Nat) (l : List Byte) : (s.dramStore a l).pending = s.pending := rfl
@[simp] theorem State.dramStore_eng (s : State) (a : Nat) (l : List Byte) : (s.dramStore a l).eng = s.eng := rfl
@[simp] theorem State.dramStore_pwr (s : State) (a : Nat) (l : List Byte) : (s.dramStore a l).pwr = s.pwr := rfl
@[simp] theorem State.dramStore_flt (s : State) (a : Nat) (l : List Byte) : (s.dramStore a l).flt = s.flt := rfl
@[simp] theorem State.dramStore_chk (s : State) (a : Nat) (l : List Byte) : (s.dramStore a l).chk = s.chk := rfl
@[simp] theorem State.dramStore_linkA (s : State) (a : Nat) (l : List Byte) : (s.dramStore a l).linkA = s.linkA := rfl
@[simp] theorem State.dramStore_linkB (s : State) (a : Nat) (l : List Byte) : (s.dramStore a l).linkB = s.linkB := rfl
@[simp] theorem State.dramStore_wall (s : State) (a : Nat) (l : List Byte) : (s.dramStore a l).wall = s.wall := rfl
@[simp] theorem State.dramStore_ctxs (s : State) (a : Nat) (l : List Byte) : (s.dramStore a l).ctxs = s.ctxs := rfl
@[simp] theorem State.dramStore_time (s : State) (a : Nat) (l : List Byte) : (s.dramStore a l).time = s.time := rfl
@[simp] theorem State.dramStore_tum (s : State) (a : Nat) (l : List Byte) : (s.dramStore a l).tum = s.tum := rfl
@[simp] theorem State.dramStore_comp (s : State) (a : Nat) (l : List Byte) : (s.dramStore a l).comp = s.comp := rfl
@[simp] theorem State.dramStore_col (s : State) (a : Nat) (l : List Byte) : (s.dramStore a l).col = s.col := rfl
@[simp] theorem State.dramStore_rings (s : State) (a : Nat) (l : List Byte) : (s.dramStore a l).rings = s.rings := rfl
@[simp] theorem State.dramStore_led (s : State) (a : Nat) (l : List Byte) : (s.dramStore a l).led = s.led := rfl
@[simp] theorem State.dramStore_therm (s : State) (a : Nat) (l : List Byte) : (s.dramStore a l).therm = s.therm := rfl
@[simp] theorem State.dramStore_saf (s : State) (a : Nat) (l : List Byte) : (s.dramStore a l).saf = s.saf := rfl
@[simp] theorem State.dramStore_age (s : State) (a : Nat) (l : List Byte) : (s.dramStore a l).age = s.age := rfl
@[simp] theorem State.dramStore_cmd (s : State) (a : Nat) (l : List Byte) : (s.dramStore a l).cmd = s.cmd := rfl
@[simp] theorem State.dramStore_sel (s : State) (a : Nat) (l : List Byte) : (s.dramStore a l).sel = s.sel := rfl
@[simp] theorem State.dramStore_ward (s : State) (a : Nat) (l : List Byte) : (s.dramStore a l).ward = s.ward := rfl
@[simp] theorem State.dramStore_nvm (s : State) (a : Nat) (l : List Byte) : (s.dramStore a l).nvm = s.nvm := rfl
@[simp] theorem State.dramStore_flash (s : State) (a : Nat) (l : List Byte) : (s.dramStore a l).flash = s.flash := rfl
@[simp] theorem State.dramStore_dram (s : State) (a : Nat) (l : List Byte) : (s.dramStore a l).dram = storeBytes dramFill a l s.dram := rfl
@[simp] theorem State.dramStore_acc (s : State) (a : Nat) (l : List Byte) : (s.dramStore a l).acc = s.acc := rfl
@[simp] theorem State.dramStore_free (s : State) (a : Nat) (l : List Byte) : (s.dramStore a l).free = s.free := rfl

@[simp] theorem State.endCond_pending (s : State) (n d : Nat) : (s.endCond n d).pending = s.pending := rfl
@[simp] theorem State.endCond_eng (s : State) (n d : Nat) : (s.endCond n d).eng = s.eng := rfl
@[simp] theorem State.endCond_pwr (s : State) (n d : Nat) : (s.endCond n d).pwr = s.pwr := rfl
@[simp] theorem State.endCond_flt (s : State) (n d : Nat) : (s.endCond n d).flt = { s.flt with conds := s.flt.conds.filter fun c => !(c.src == n && c.detail == d && !c.injected) } := rfl
@[simp] theorem State.endCond_chk (s : State) (n d : Nat) : (s.endCond n d).chk = s.chk := rfl
@[simp] theorem State.endCond_linkA (s : State) (n d : Nat) : (s.endCond n d).linkA = s.linkA := rfl
@[simp] theorem State.endCond_linkB (s : State) (n d : Nat) : (s.endCond n d).linkB = s.linkB := rfl
@[simp] theorem State.endCond_wall (s : State) (n d : Nat) : (s.endCond n d).wall = s.wall := rfl
@[simp] theorem State.endCond_ctxs (s : State) (n d : Nat) : (s.endCond n d).ctxs = s.ctxs := rfl
@[simp] theorem State.endCond_time (s : State) (n d : Nat) : (s.endCond n d).time = s.time := rfl
@[simp] theorem State.endCond_tum (s : State) (n d : Nat) : (s.endCond n d).tum = s.tum := rfl
@[simp] theorem State.endCond_comp (s : State) (n d : Nat) : (s.endCond n d).comp = s.comp := rfl
@[simp] theorem State.endCond_col (s : State) (n d : Nat) : (s.endCond n d).col = s.col := rfl
@[simp] theorem State.endCond_rings (s : State) (n d : Nat) : (s.endCond n d).rings = s.rings := rfl
@[simp] theorem State.endCond_led (s : State) (n d : Nat) : (s.endCond n d).led = s.led := rfl
@[simp] theorem State.endCond_therm (s : State) (n d : Nat) : (s.endCond n d).therm = s.therm := rfl
@[simp] theorem State.endCond_saf (s : State) (n d : Nat) : (s.endCond n d).saf = s.saf := rfl
@[simp] theorem State.endCond_age (s : State) (n d : Nat) : (s.endCond n d).age = s.age := rfl
@[simp] theorem State.endCond_cmd (s : State) (n d : Nat) : (s.endCond n d).cmd = s.cmd := rfl
@[simp] theorem State.endCond_sel (s : State) (n d : Nat) : (s.endCond n d).sel = s.sel := rfl
@[simp] theorem State.endCond_ward (s : State) (n d : Nat) : (s.endCond n d).ward = s.ward := rfl
@[simp] theorem State.endCond_nvm (s : State) (n d : Nat) : (s.endCond n d).nvm = s.nvm := rfl
@[simp] theorem State.endCond_flash (s : State) (n d : Nat) : (s.endCond n d).flash = s.flash := rfl
@[simp] theorem State.endCond_dram (s : State) (n d : Nat) : (s.endCond n d).dram = s.dram := rfl
@[simp] theorem State.endCond_acc (s : State) (n d : Nat) : (s.endCond n d).acc = s.acc := rfl
@[simp] theorem State.endCond_free (s : State) (n d : Nat) : (s.endCond n d).free = s.free := rfl

@[simp] theorem State.endSrc_pending (s : State) (n : Nat) : (s.endSrc n).pending = s.pending := rfl
@[simp] theorem State.endSrc_eng (s : State) (n : Nat) : (s.endSrc n).eng = s.eng := rfl
@[simp] theorem State.endSrc_pwr (s : State) (n : Nat) : (s.endSrc n).pwr = s.pwr := rfl
@[simp] theorem State.endSrc_flt (s : State) (n : Nat) : (s.endSrc n).flt = { s.flt with conds := s.flt.conds.filter fun c => !(c.src == n && !c.injected) } := rfl
@[simp] theorem State.endSrc_chk (s : State) (n : Nat) : (s.endSrc n).chk = s.chk := rfl
@[simp] theorem State.endSrc_linkA (s : State) (n : Nat) : (s.endSrc n).linkA = s.linkA := rfl
@[simp] theorem State.endSrc_linkB (s : State) (n : Nat) : (s.endSrc n).linkB = s.linkB := rfl
@[simp] theorem State.endSrc_wall (s : State) (n : Nat) : (s.endSrc n).wall = s.wall := rfl
@[simp] theorem State.endSrc_ctxs (s : State) (n : Nat) : (s.endSrc n).ctxs = s.ctxs := rfl
@[simp] theorem State.endSrc_time (s : State) (n : Nat) : (s.endSrc n).time = s.time := rfl
@[simp] theorem State.endSrc_tum (s : State) (n : Nat) : (s.endSrc n).tum = s.tum := rfl
@[simp] theorem State.endSrc_comp (s : State) (n : Nat) : (s.endSrc n).comp = s.comp := rfl
@[simp] theorem State.endSrc_col (s : State) (n : Nat) : (s.endSrc n).col = s.col := rfl
@[simp] theorem State.endSrc_rings (s : State) (n : Nat) : (s.endSrc n).rings = s.rings := rfl
@[simp] theorem State.endSrc_led (s : State) (n : Nat) : (s.endSrc n).led = s.led := rfl
@[simp] theorem State.endSrc_therm (s : State) (n : Nat) : (s.endSrc n).therm = s.therm := rfl
@[simp] theorem State.endSrc_saf (s : State) (n : Nat) : (s.endSrc n).saf = s.saf := rfl
@[simp] theorem State.endSrc_age (s : State) (n : Nat) : (s.endSrc n).age = s.age := rfl
@[simp] theorem State.endSrc_cmd (s : State) (n : Nat) : (s.endSrc n).cmd = s.cmd := rfl
@[simp] theorem State.endSrc_sel (s : State) (n : Nat) : (s.endSrc n).sel = s.sel := rfl
@[simp] theorem State.endSrc_ward (s : State) (n : Nat) : (s.endSrc n).ward = s.ward := rfl
@[simp] theorem State.endSrc_nvm (s : State) (n : Nat) : (s.endSrc n).nvm = s.nvm := rfl
@[simp] theorem State.endSrc_flash (s : State) (n : Nat) : (s.endSrc n).flash = s.flash := rfl
@[simp] theorem State.endSrc_dram (s : State) (n : Nat) : (s.endSrc n).dram = s.dram := rfl
@[simp] theorem State.endSrc_acc (s : State) (n : Nat) : (s.endSrc n).acc = s.acc := rfl
@[simp] theorem State.endSrc_free (s : State) (n : Nat) : (s.endSrc n).free = s.free := rfl

/-! Updates that a case distinction hides. -/

@[simp] theorem State.onLink_pending (s : State) (p : Port) (f : Link → Link) : (s.onLink p f).pending = s.pending := by
  cases p <;> rfl
@[simp] theorem State.onLink_eng (s : State) (p : Port) (f : Link → Link) : (s.onLink p f).eng = s.eng := by
  cases p <;> rfl
@[simp] theorem State.onLink_pwr (s : State) (p : Port) (f : Link → Link) : (s.onLink p f).pwr = s.pwr := by
  cases p <;> rfl
@[simp] theorem State.onLink_flt (s : State) (p : Port) (f : Link → Link) : (s.onLink p f).flt = s.flt := by
  cases p <;> rfl
@[simp] theorem State.onLink_chk (s : State) (p : Port) (f : Link → Link) : (s.onLink p f).chk = s.chk := by
  cases p <;> rfl
@[simp] theorem State.onLink_wall (s : State) (p : Port) (f : Link → Link) : (s.onLink p f).wall = s.wall := by
  cases p <;> rfl
@[simp] theorem State.onLink_ctxs (s : State) (p : Port) (f : Link → Link) : (s.onLink p f).ctxs = s.ctxs := by
  cases p <;> rfl
@[simp] theorem State.onLink_time (s : State) (p : Port) (f : Link → Link) : (s.onLink p f).time = s.time := by
  cases p <;> rfl
@[simp] theorem State.onLink_tum (s : State) (p : Port) (f : Link → Link) : (s.onLink p f).tum = s.tum := by
  cases p <;> rfl
@[simp] theorem State.onLink_comp (s : State) (p : Port) (f : Link → Link) : (s.onLink p f).comp = s.comp := by
  cases p <;> rfl
@[simp] theorem State.onLink_col (s : State) (p : Port) (f : Link → Link) : (s.onLink p f).col = s.col := by
  cases p <;> rfl
@[simp] theorem State.onLink_rings (s : State) (p : Port) (f : Link → Link) : (s.onLink p f).rings = s.rings := by
  cases p <;> rfl
@[simp] theorem State.onLink_led (s : State) (p : Port) (f : Link → Link) : (s.onLink p f).led = s.led := by
  cases p <;> rfl
@[simp] theorem State.onLink_therm (s : State) (p : Port) (f : Link → Link) : (s.onLink p f).therm = s.therm := by
  cases p <;> rfl
@[simp] theorem State.onLink_saf (s : State) (p : Port) (f : Link → Link) : (s.onLink p f).saf = s.saf := by
  cases p <;> rfl
@[simp] theorem State.onLink_age (s : State) (p : Port) (f : Link → Link) : (s.onLink p f).age = s.age := by
  cases p <;> rfl
@[simp] theorem State.onLink_cmd (s : State) (p : Port) (f : Link → Link) : (s.onLink p f).cmd = s.cmd := by
  cases p <;> rfl
@[simp] theorem State.onLink_sel (s : State) (p : Port) (f : Link → Link) : (s.onLink p f).sel = s.sel := by
  cases p <;> rfl
@[simp] theorem State.onLink_ward (s : State) (p : Port) (f : Link → Link) : (s.onLink p f).ward = s.ward := by
  cases p <;> rfl
@[simp] theorem State.onLink_nvm (s : State) (p : Port) (f : Link → Link) : (s.onLink p f).nvm = s.nvm := by
  cases p <;> rfl
@[simp] theorem State.onLink_flash (s : State) (p : Port) (f : Link → Link) : (s.onLink p f).flash = s.flash := by
  cases p <;> rfl
@[simp] theorem State.onLink_dram (s : State) (p : Port) (f : Link → Link) : (s.onLink p f).dram = s.dram := by
  cases p <;> rfl
@[simp] theorem State.onLink_acc (s : State) (p : Port) (f : Link → Link) : (s.onLink p f).acc = s.acc := by
  cases p <;> rfl
@[simp] theorem State.onLink_free (s : State) (p : Port) (f : Link → Link) : (s.onLink p f).free = s.free := by
  cases p <;> rfl

@[simp] theorem State.onPer_pending (s : State) (src : Source) (f : PerSource → PerSource) : (s.onPer src f).pending = s.pending := by
  rfl
@[simp] theorem State.onPer_eng (s : State) (src : Source) (f : PerSource → PerSource) : (s.onPer src f).eng = s.eng := by
  rfl
@[simp] theorem State.onPer_pwr (s : State) (src : Source) (f : PerSource → PerSource) : (s.onPer src f).pwr = s.pwr := by
  rfl
@[simp] theorem State.onPer_flt (s : State) (src : Source) (f : PerSource → PerSource) : (s.onPer src f).flt = s.flt := by
  rfl
@[simp] theorem State.onPer_chk (s : State) (src : Source) (f : PerSource → PerSource) : (s.onPer src f).chk = s.chk := by
  rfl
@[simp] theorem State.onPer_linkA (s : State) (src : Source) (f : PerSource → PerSource) : (s.onPer src f).linkA = s.linkA := by
  rfl
@[simp] theorem State.onPer_linkB (s : State) (src : Source) (f : PerSource → PerSource) : (s.onPer src f).linkB = s.linkB := by
  rfl
@[simp] theorem State.onPer_wall (s : State) (src : Source) (f : PerSource → PerSource) : (s.onPer src f).wall = s.wall := by
  rfl
@[simp] theorem State.onPer_ctxs (s : State) (src : Source) (f : PerSource → PerSource) : (s.onPer src f).ctxs = s.ctxs := by
  rfl
@[simp] theorem State.onPer_time (s : State) (src : Source) (f : PerSource → PerSource) : (s.onPer src f).time = s.time := by
  rfl
@[simp] theorem State.onPer_tum (s : State) (src : Source) (f : PerSource → PerSource) : (s.onPer src f).tum = s.tum := by
  rfl
@[simp] theorem State.onPer_comp (s : State) (src : Source) (f : PerSource → PerSource) : (s.onPer src f).comp = s.comp := by
  rfl
@[simp] theorem State.onPer_col (s : State) (src : Source) (f : PerSource → PerSource) : (s.onPer src f).col = s.col := by
  rfl
@[simp] theorem State.onPer_rings (s : State) (src : Source) (f : PerSource → PerSource) : (s.onPer src f).rings = s.rings := by
  rfl
@[simp] theorem State.onPer_led (s : State) (src : Source) (f : PerSource → PerSource) : (s.onPer src f).led = s.led := by
  rfl
@[simp] theorem State.onPer_therm (s : State) (src : Source) (f : PerSource → PerSource) : (s.onPer src f).therm = s.therm := by
  rfl
@[simp] theorem State.onPer_saf (s : State) (src : Source) (f : PerSource → PerSource) : (s.onPer src f).saf = s.saf := by
  rfl
@[simp] theorem State.onPer_age (s : State) (src : Source) (f : PerSource → PerSource) : (s.onPer src f).age = s.age := by
  rfl
@[simp] theorem State.onPer_cmd (s : State) (src : Source) (f : PerSource → PerSource) : (s.onPer src f).cmd = s.cmd := by
  rfl
@[simp] theorem State.onPer_ward (s : State) (src : Source) (f : PerSource → PerSource) : (s.onPer src f).ward = s.ward := by
  rfl
@[simp] theorem State.onPer_nvm (s : State) (src : Source) (f : PerSource → PerSource) : (s.onPer src f).nvm = s.nvm := by
  rfl
@[simp] theorem State.onPer_flash (s : State) (src : Source) (f : PerSource → PerSource) : (s.onPer src f).flash = s.flash := by
  rfl
@[simp] theorem State.onPer_dram (s : State) (src : Source) (f : PerSource → PerSource) : (s.onPer src f).dram = s.dram := by
  rfl
@[simp] theorem State.onPer_acc (s : State) (src : Source) (f : PerSource → PerSource) : (s.onPer src f).acc = s.acc := by
  rfl
@[simp] theorem State.onPer_free (s : State) (src : Source) (f : PerSource → PerSource) : (s.onPer src f).free = s.free := by
  rfl

@[simp] theorem State.raise_pending (s : State) (n d : Nat) : (s.raise n d).pending = s.pending := by
  unfold State.raise; split <;> rfl
@[simp] theorem State.raise_eng (s : State) (n d : Nat) : (s.raise n d).eng = s.eng := by
  unfold State.raise; split <;> rfl
@[simp] theorem State.raise_pwr (s : State) (n d : Nat) : (s.raise n d).pwr = s.pwr := by
  unfold State.raise; split <;> rfl
@[simp] theorem State.raise_chk (s : State) (n d : Nat) : (s.raise n d).chk = s.chk := by
  unfold State.raise; split <;> rfl
@[simp] theorem State.raise_linkA (s : State) (n d : Nat) : (s.raise n d).linkA = s.linkA := by
  unfold State.raise; split <;> rfl
@[simp] theorem State.raise_linkB (s : State) (n d : Nat) : (s.raise n d).linkB = s.linkB := by
  unfold State.raise; split <;> rfl
@[simp] theorem State.raise_wall (s : State) (n d : Nat) : (s.raise n d).wall = s.wall := by
  unfold State.raise; split <;> rfl
@[simp] theorem State.raise_ctxs (s : State) (n d : Nat) : (s.raise n d).ctxs = s.ctxs := by
  unfold State.raise; split <;> rfl
@[simp] theorem State.raise_time (s : State) (n d : Nat) : (s.raise n d).time = s.time := by
  unfold State.raise; split <;> rfl
@[simp] theorem State.raise_tum (s : State) (n d : Nat) : (s.raise n d).tum = s.tum := by
  unfold State.raise; split <;> rfl
@[simp] theorem State.raise_comp (s : State) (n d : Nat) : (s.raise n d).comp = s.comp := by
  unfold State.raise; split <;> rfl
@[simp] theorem State.raise_col (s : State) (n d : Nat) : (s.raise n d).col = s.col := by
  unfold State.raise; split <;> rfl
@[simp] theorem State.raise_rings (s : State) (n d : Nat) : (s.raise n d).rings = s.rings := by
  unfold State.raise; split <;> rfl
@[simp] theorem State.raise_led (s : State) (n d : Nat) : (s.raise n d).led = s.led := by
  unfold State.raise; split <;> rfl
@[simp] theorem State.raise_therm (s : State) (n d : Nat) : (s.raise n d).therm = s.therm := by
  unfold State.raise; split <;> rfl
@[simp] theorem State.raise_saf (s : State) (n d : Nat) : (s.raise n d).saf = s.saf := by
  unfold State.raise; split <;> rfl
@[simp] theorem State.raise_age (s : State) (n d : Nat) : (s.raise n d).age = s.age := by
  unfold State.raise; split <;> rfl
@[simp] theorem State.raise_cmd (s : State) (n d : Nat) : (s.raise n d).cmd = s.cmd := by
  unfold State.raise; split <;> rfl
@[simp] theorem State.raise_sel (s : State) (n d : Nat) : (s.raise n d).sel = s.sel := by
  unfold State.raise; split <;> rfl
@[simp] theorem State.raise_ward (s : State) (n d : Nat) : (s.raise n d).ward = s.ward := by
  unfold State.raise; split <;> rfl
@[simp] theorem State.raise_nvm (s : State) (n d : Nat) : (s.raise n d).nvm = s.nvm := by
  unfold State.raise; split <;> rfl
@[simp] theorem State.raise_flash (s : State) (n d : Nat) : (s.raise n d).flash = s.flash := by
  unfold State.raise; split <;> rfl
@[simp] theorem State.raise_dram (s : State) (n d : Nat) : (s.raise n d).dram = s.dram := by
  unfold State.raise; split <;> rfl
@[simp] theorem State.raise_acc (s : State) (n d : Nat) : (s.raise n d).acc = s.acc := by
  unfold State.raise; split <;> rfl
@[simp] theorem State.raise_free (s : State) (n d : Nat) : (s.raise n d).free = s.free := by
  unfold State.raise; split <;> rfl

@[simp] theorem State.level_pending (s : State) (b : Bool) (n d : Nat) : (s.level b n d).pending = s.pending := by
  unfold State.level; split <;> simp
@[simp] theorem State.level_eng (s : State) (b : Bool) (n d : Nat) : (s.level b n d).eng = s.eng := by
  unfold State.level; split <;> simp
@[simp] theorem State.level_pwr (s : State) (b : Bool) (n d : Nat) : (s.level b n d).pwr = s.pwr := by
  unfold State.level; split <;> simp
@[simp] theorem State.level_chk (s : State) (b : Bool) (n d : Nat) : (s.level b n d).chk = s.chk := by
  unfold State.level; split <;> simp
@[simp] theorem State.level_linkA (s : State) (b : Bool) (n d : Nat) : (s.level b n d).linkA = s.linkA := by
  unfold State.level; split <;> simp
@[simp] theorem State.level_linkB (s : State) (b : Bool) (n d : Nat) : (s.level b n d).linkB = s.linkB := by
  unfold State.level; split <;> simp
@[simp] theorem State.level_wall (s : State) (b : Bool) (n d : Nat) : (s.level b n d).wall = s.wall := by
  unfold State.level; split <;> simp
@[simp] theorem State.level_ctxs (s : State) (b : Bool) (n d : Nat) : (s.level b n d).ctxs = s.ctxs := by
  unfold State.level; split <;> simp
@[simp] theorem State.level_time (s : State) (b : Bool) (n d : Nat) : (s.level b n d).time = s.time := by
  unfold State.level; split <;> simp
@[simp] theorem State.level_tum (s : State) (b : Bool) (n d : Nat) : (s.level b n d).tum = s.tum := by
  unfold State.level; split <;> simp
@[simp] theorem State.level_comp (s : State) (b : Bool) (n d : Nat) : (s.level b n d).comp = s.comp := by
  unfold State.level; split <;> simp
@[simp] theorem State.level_col (s : State) (b : Bool) (n d : Nat) : (s.level b n d).col = s.col := by
  unfold State.level; split <;> simp
@[simp] theorem State.level_rings (s : State) (b : Bool) (n d : Nat) : (s.level b n d).rings = s.rings := by
  unfold State.level; split <;> simp
@[simp] theorem State.level_led (s : State) (b : Bool) (n d : Nat) : (s.level b n d).led = s.led := by
  unfold State.level; split <;> simp
@[simp] theorem State.level_therm (s : State) (b : Bool) (n d : Nat) : (s.level b n d).therm = s.therm := by
  unfold State.level; split <;> simp
@[simp] theorem State.level_saf (s : State) (b : Bool) (n d : Nat) : (s.level b n d).saf = s.saf := by
  unfold State.level; split <;> simp
@[simp] theorem State.level_age (s : State) (b : Bool) (n d : Nat) : (s.level b n d).age = s.age := by
  unfold State.level; split <;> simp
@[simp] theorem State.level_cmd (s : State) (b : Bool) (n d : Nat) : (s.level b n d).cmd = s.cmd := by
  unfold State.level; split <;> simp
@[simp] theorem State.level_sel (s : State) (b : Bool) (n d : Nat) : (s.level b n d).sel = s.sel := by
  unfold State.level; split <;> simp
@[simp] theorem State.level_ward (s : State) (b : Bool) (n d : Nat) : (s.level b n d).ward = s.ward := by
  unfold State.level; split <;> simp
@[simp] theorem State.level_nvm (s : State) (b : Bool) (n d : Nat) : (s.level b n d).nvm = s.nvm := by
  unfold State.level; split <;> simp
@[simp] theorem State.level_flash (s : State) (b : Bool) (n d : Nat) : (s.level b n d).flash = s.flash := by
  unfold State.level; split <;> simp
@[simp] theorem State.level_dram (s : State) (b : Bool) (n d : Nat) : (s.level b n d).dram = s.dram := by
  unfold State.level; split <;> simp
@[simp] theorem State.level_acc (s : State) (b : Bool) (n d : Nat) : (s.level b n d).acc = s.acc := by
  unfold State.level; split <;> simp
@[simp] theorem State.level_free (s : State) (b : Bool) (n d : Nat) : (s.level b n d).free = s.free := by
  unfold State.level; split <;> simp

@[simp] theorem State.onLink_link_same (s : State) (p : Port) (f : Link → Link) : (s.onLink p f).link p = f (s.link p) := by
  cases p <;> rfl

@[simp] theorem State.onLink_link_other (s : State) (p : Port) (f : Link → Link) :
    (s.onLink p f).link (otherPort p) = s.link (otherPort p) := by
  cases p <;> rfl

@[simp] theorem State.onPer_per (s : State) (src : Source) (f : PerSource → PerSource) : (s.onPer src f).per src = f (s.per src) := by
  cases src <;> rfl

end Sys2Proof.Machine
end

