-- ==== Sys2Proof/Laws/Memory.lean ====
section
/-!
SUPPORT. Sys2Proof/Laws/Memory.lean: the laws of sparse tables and of the two byte memories: a read after a write, and that every
operation keeps the canonical form.
-/

namespace Sys2Proof.Machine

/-! ### Reading after writing -/

theorem sget_sput_other {α : Type} (d : α) (k k' : Nat) (v : α) (h : k' ≠ k) (l : List (Nat × α)) :
    sget d k' (sput k v l) = sget d k' l := by
  induction l with
  | nil => simp [sput, sget, Ne.symm h]
  | cons p l ih =>
    obtain ⟨q, x⟩ := p
    unfold sput
    split
    · simp [sget, ih]
    · simp [sget, Ne.symm h]

theorem sget_filter_other {α : Type} (d : α) (k k' : Nat) (h : k' ≠ k) (l : List (Nat × α)) :
    sget d k' (l.filter fun c => c.1 != k) = sget d k' l := by
  induction l with
  | nil => rfl
  | cons p l ih =>
    obtain ⟨q, x⟩ := p
    by_cases hq : q = k
    · subst hq; simp [sget, ih, Ne.symm h]
    · simp [hq, sget, ih]

theorem sget_filter_same {α : Type} (d : α) (k : Nat) (l : List (Nat × α)) : sget d k (l.filter fun c => c.1 != k) = d := by
  induction l with
  | nil => rfl
  | cons p l ih =>
    obtain ⟨q, x⟩ := p
    by_cases hq : q = k
    · subst hq; simpa using ih
    · simp [hq, sget]; simpa using ih

theorem sget_sput_same {α : Type} (d : α) (k : Nat) (v : α) (l : List (Nat × α)) (h : ∀ c ∈ l, c.1 ≠ k) :
    sget d k (sput k v l) = v := by
  induction l with
  | nil => simp [sput, sget]
  | cons p l ih =>
    obtain ⟨q, x⟩ := p
    have hq : q ≠ k := h (q, x) (by simp)
    unfold sput
    split
    · simp [sget, hq, ih fun c hc => h c (by simp [hc])]
    · simp [sget]

/-- A key just set reads as what was set. -/
@[simp] theorem sget_sset_same {α : Type} [DecidableEq α] (d : α) (k : Nat) (v : α) (l : List (Nat × α)) :
    sget d k (sset d k v l) = v := by
  unfold sset
  simp only []
  split
  · next h => rw [sget_filter_same, h]
  · exact sget_sput_same d k v _ fun c hc => by simpa using (List.mem_filter.mp hc).2

/-- Every other key reads as before. -/
theorem sget_sset_other {α : Type} [DecidableEq α] (d : α) (k k' : Nat) (v : α) (l : List (Nat × α)) (h : k' ≠ k) :
    sget d k' (sset d k v l) = sget d k' l := by
  unfold sset
  simp only []
  split
  · exact sget_filter_other d k k' h l
  · rw [sget_sput_other d k k' v h, sget_filter_other d k k' h]

/-- A memory reads outside the bytes stored as before. -/
theorem sget_storeBytes_other (d : Byte) (l : List Byte) (a x : Nat) (m : Memory) (h : x < a ∨ a + l.length ≤ x) :
    sget d x (storeBytes d a l m) = sget d x m := by
  induction l generalizing a m with
  | nil => rfl
  | cons b l ih =>
    simp only [List.length_cons] at h
    unfold storeBytes
    rw [ih (a + 1) _ (by omega), sget_sset_other d a x b m (by omega)]

/-- A byte stored reads as what was stored. -/
theorem sget_storeBytes_same (d : Byte) (l : List Byte) (a i : Nat) (m : Memory) (h : i < l.length) :
    sget d (a + i) (storeBytes d a l m) = l.getD i 0 := by
  induction l generalizing a i m with
  | nil => simp at h
  | cons b l ih =>
    unfold storeBytes
    cases i with
    | zero => rw [sget_storeBytes_other d l (a + 1) (a + 0) _ (by omega)]; simp
    | succ i =>
      have e : a + (i + 1) = (a + 1) + i := by omega
      rw [e, ih (a + 1) i _ (by simpa using h)]; simp

/-! ### Canonical form -/

/-- Canonical form, one pair against all later ones. -/
theorem sparseWf_iff {α : Type} [DecidableEq α] (d : α) (l : List (Nat × α)) :
    sparseWf d l = true ↔ l.Pairwise (fun p q => p.1 < q.1) ∧ ∀ c ∈ l, c.2 ≠ d := by
  induction l with
  | nil => simp [sparseWf]
  | cons p l ih =>
    cases l with
    | nil => simp [sparseWf]
    | cons q l =>
      unfold sparseWf
      rw [Bool.and_eq_true, Bool.and_eq_true, decide_eq_true_iff, decide_eq_true_iff, ih]
      constructor
      · rintro ⟨⟨h1, h2⟩, h3, h4⟩
        refine ⟨List.pairwise_cons.mpr ⟨?_, h3⟩, ?_⟩
        · intro c hc
          rcases List.mem_cons.mp hc with rfl | hc
          · exact h1
          · exact Nat.lt_trans h1 ((List.pairwise_cons.mp h3).1 c hc)
        · intro c hc
          rcases List.mem_cons.mp hc with rfl | hc
          · exact h2
          · exact h4 c hc
      · rintro ⟨h1, h2⟩
        exact ⟨⟨(List.pairwise_cons.mp h1).1 q (by simp), h2 p (by simp)⟩, (List.pairwise_cons.mp h1).2, fun c hc => h2 c (by simp [hc])⟩

theorem sput_mem {α : Type} (k : Nat) (v : α) (l : List (Nat × α)) (c : Nat × α) (h : c ∈ sput k v l) : c = (k, v) ∨ c ∈ l := by
  induction l with
  | nil => simpa [sput] using h
  | cons p l ih =>
    unfold sput at h
    split at h
    · rcases List.mem_cons.mp h with rfl | h
      · simp
      · rcases ih h with h | h <;> simp [h]
    · simpa using h

theorem sput_sorted {α : Type} (k : Nat) (v : α) (l : List (Nat × α)) (h : l.Pairwise fun p q => p.1 < q.1) (hk : ∀ c ∈ l, c.1 ≠ k) :
    (sput k v l).Pairwise fun p q => p.1 < q.1 := by
  induction l with
  | nil => simp [sput]
  | cons p l ih =>
    obtain ⟨hp, hl⟩ := List.pairwise_cons.mp h
    have hpk : p.1 ≠ k := hk p (by simp)
    unfold sput
    split
    · next hlt =>
      refine List.pairwise_cons.mpr ⟨?_, ih hl fun c hc => hk c (by simp [hc])⟩
      intro c hc
      rcases sput_mem k v l c hc with rfl | hc
      · exact hlt
      · exact hp c hc
    · next hge =>
      refine List.pairwise_cons.mpr ⟨?_, h⟩
      intro c hc
      have : k < p.1 := by omega
      rcases List.mem_cons.mp hc with rfl | hc
      · exact this
      · exact Nat.lt_trans this (hp c hc)

/-- A table without some of its entries stays in canonical form. -/
theorem filter_wf {α : Type} [DecidableEq α] (d : α) (f : Nat × α → Bool) (l : List (Nat × α)) (h : sparseWf d l = true) :
    sparseWf d (l.filter f) = true := by
  rw [sparseWf_iff] at h ⊢
  exact ⟨h.1.sublist List.filter_sublist, fun c hc => h.2 c (List.mem_filter.mp hc).1⟩

/-- Setting an entry keeps the canonical form. -/
theorem sset_wf {α : Type} [DecidableEq α] (d : α) (k : Nat) (v : α) (l : List (Nat × α)) (h : sparseWf d l = true) :
    sparseWf d (sset d k v l) = true := by
  unfold sset
  simp only []
  split
  · exact filter_wf d _ l h
  · next hv =>
    have hf := filter_wf d (fun c => c.1 != k) l h
    rw [sparseWf_iff] at hf ⊢
    refine ⟨sput_sorted k v _ hf.1 fun c hc => by simpa using (List.mem_filter.mp hc).2, fun c hc => ?_⟩
    rcases sput_mem k v _ c hc with rfl | hc
    · exact hv
    · exact hf.2 c hc

/-- Storing bytes keeps the canonical form. -/
theorem storeBytes_wf (d : Byte) (l : List Byte) (a : Nat) (m : Memory) (h : Memory.wf d m = true) :
    Memory.wf d (storeBytes d a l m) = true := by
  induction l generalizing a m with
  | nil => exact h
  | cons b l ih => exact ih (a + 1) _ (sset_wf d a b m h)

/-! ### The memories of the machine -/

theorem State.flashStore_wf (s : State) (a : Nat) (l : List Byte) (h : Memory.wf flashFill s.flash = true) :
    Memory.wf flashFill (s.flashStore a l).flash = true := storeBytes_wf flashFill l a s.flash h

theorem State.dramStore_wf (s : State) (a : Nat) (l : List Byte) (h : Memory.wf dramFill s.dram = true) :
    Memory.wf dramFill (s.dramStore a l).dram = true := storeBytes_wf dramFill l a s.dram h

theorem State.flashErase_wf (s : State) (a n : Nat) (h : Memory.wf flashFill s.flash = true) :
    Memory.wf flashFill (s.flashErase a n).flash = true := filter_wf flashFill _ s.flash h

/-- The memories right after reset are in canonical form. -/
theorem State.reset_flash_wf : Memory.wf flashFill State.reset.flash = true := rfl
theorem State.reset_dram_wf : Memory.wf dramFill State.reset.dram = true := rfl

@[simp] theorem State.setDmem_word_same (s : State) (i : Nat) (v : Word) : (s.setDmem i v).dmemWord i = v :=
  sget_sset_same 0 i v s.tum.dmem

theorem State.setDmem_word_other (s : State) (i j : Nat) (v : Word) (h : j ≠ i) : (s.setDmem i v).dmemWord j = s.dmemWord j :=
  sget_sset_other 0 i j v s.tum.dmem h

end Sys2Proof.Machine
end

