-- ==== Sys2Proof/Laws/PerInstr.lean ====
section
/-!
SUPPORT. Sys2Proof/Laws/PerInstr.lean: for each command, that no word spells it: the operation table gives no row any bits, so the
decoder answers nothing (family NoWord).
-/

namespace Sys2Proof.Laws.NoWord

/-- No word of any width decodes to the command. -/
def Statement (i : Sys2Proof.Instr) : Prop := ∀ nbits w : Nat, Sys2Proof.decodeTableWord nbits w ≠ some i

/-- The decoder answers nothing. -/
theorem all (i : Sys2Proof.Instr) : Statement i := fun _ _ h => nomatch h

theorem housekeepingUp : Statement .housekeepingUp := all _
theorem housekeepingLost : Statement .housekeepingLost := all _
theorem inrushStart : Statement .inrushStart := all _
theorem inrushComplete (ms : BitVec 16) : Statement (.inrushComplete ms) := all _
theorem inrushTimeout : Statement .inrushTimeout := all _
theorem breakerTrip : Statement .breakerTrip := all _
theorem breakerOverload : Statement .breakerOverload := all _
theorem busUv : Statement .busUv := all _
theorem tripCooldownEnd : Statement .tripCooldownEnd := all _
theorem busOv : Statement .busOv := all _
theorem powerGoodRise (which : PowerGood) : Statement (.powerGoodRise which) := all _
theorem sequenceTimeout : Statement .sequenceTimeout := all _
theorem sequenceRetry : Statement .sequenceRetry := all _
theorem supplyShutdown : Statement .supplyShutdown := all _
theorem coreSupplyFault (supply : Supply) : Statement (.coreSupplyFault supply) := all _
theorem housekeepingUv : Statement .housekeepingUv := all _
theorem refclkLoss : Statement .refclkLoss := all _
theorem pllUnlock : Statement .pllUnlock := all _
theorem clockReset : Statement .clockReset := all _
theorem clockRecovered : Statement .clockRecovered := all _
theorem pinReset (edge : PinEdge) : Statement (.pinReset edge) := all _
theorem mgmtWatchdog : Statement .mgmtWatchdog := all _
theorem jtagSystemReset : Statement .jtagSystemReset := all _
theorem departure : Statement .departure := all _
theorem portPark (p : Port) : Statement (.portPark p) := all _
theorem departureReset (us : BitVec 16) : Statement (.departureReset us) := all _
theorem departureGateOff : Statement .departureGateOff := all _
theorem bootStart (obs : BootObs) : Statement (.bootStart obs) := all _
theorem bootComplete (ms : BitVec 16) (rings : List RingBring) : Statement (.bootComplete ms rings) := all _
theorem joinComplete (ms : BitVec 16) : Statement (.joinComplete ms) := all _
theorem flip (n : Nat) : Statement (.flip n) := all _
theorem takePoint (n : Nat) : Statement (.takePoint n) := all _
theorem latchLaunch (ring : Fin 64) : Statement (.latchLaunch ring) := all _
theorem timeCompareFire (n : Fin 8) : Statement (.timeCompareFire n) := all _
theorem adcSnapshot : Statement .adcSnapshot := all _
theorem sync (p : Port) (f : Frame) (sinceStart : Nat) (residence : Nat) : Statement (.sync p f sinceStart residence) := all _
theorem followUp (p : Port) (f : Frame) : Statement (.followUp p f) := all _
theorem followUpTimeout (p : Port) : Statement (.followUpTimeout p) := all _
theorem pdelayReq (p : Port) (f : Frame) (turnaround : Nat) : Statement (.pdelayReq p f turnaround) := all _
theorem pdelayResp (p : Port) (f : Frame) (sinceStart : Nat) : Statement (.pdelayResp p f sinceStart) := all _
theorem pdelaySend (p : Port) : Statement (.pdelaySend p) := all _
theorem pdelayTimeout (p : Port) : Statement (.pdelayTimeout p) := all _
theorem domainLossTimeout (d0 : Bool) (d1 : Bool) : Statement (.domainLossTimeout d0 d1) := all _
theorem holdoverExpiry : Statement .holdoverExpiry := all _
theorem slewComplete : Statement .slewComplete := all _
theorem switchBack : Statement .switchBack := all _
theorem captureEdge (source : Fin 7) (rising : Bool) : Statement (.captureEdge source rising) := all _
theorem frameLockEdge : Statement .frameLockEdge := all _
theorem flockLost : Statement .flockLost := all _
theorem holdMaxS (src : Source) (w : Word) : Statement (.holdMaxS src w) := all _
theorem compareArm (src : Source) (n : Fin 8) (w : Word) : Statement (.compareArm src n w) := all _
theorem adcSnapshotArm (src : Source) (w : Word) : Statement (.adcSnapshotArm src w) := all _
theorem timeCapSw (src : Source) (w : Word) : Statement (.timeCapSw src w) := all _
theorem timeCapData0Read (src : Source) (consume : Bool) : Statement (.timeCapData0Read src consume) := all _
theorem timeNowRead (src : Source) : Statement (.timeNowRead src) := all _
theorem timeLocalRead (src : Source) : Statement (.timeLocalRead src) := all _
theorem commitAdmission : Statement .commitAdmission := all _
theorem compCommit (src : Source) (w : Word) : Statement (.compCommit src w) := all _
theorem stream (p : Port) (f : Frame) : Statement (.stream p f) := all _
theorem takeLanding : Statement .takeLanding := all _
theorem colTake (src : Source) (w : Word) : Statement (.colTake src w) := all _
theorem colEnvData (src : Source) (w : Word) : Statement (.colEnvData src w) := all _
theorem colEnvFill (src : Source) (w : Word) : Statement (.colEnvFill src w) := all _
theorem colTfData (src : Source) (w : Word) : Statement (.colTfData src w) := all _
theorem bandComplete (obs : BandObs) : Statement (.bandComplete obs) := all _
theorem calRecordRebuild : Statement .calRecordRebuild := all _
theorem calUpdateComplete : Statement .calUpdateComplete := all _
theorem ringRowSend (ring : Fin 64) : Statement (.ringRowSend ring) := all _
theorem readReturn (ring : Fin 64) (kind : Fin 4) (slots : List SlotObs) : Statement (.readReturn ring kind slots) := all _
theorem syncEcho (ring : Fin 64) (echo : EchoObs) : Statement (.syncEcho ring echo) := all _
theorem breakDetect (ring : Fin 64) : Statement (.breakDetect ring) := all _
theorem locateComplete (ring : Fin 64) (obs : LocateObs) : Statement (.locateComplete ring obs) := all _
theorem restoreProbe (ring : Fin 64) (probe : ProbeObs) : Statement (.restoreProbe ring probe) := all _
theorem cellReenum (ring : Fin 64) (answered : List (Fin 1024)) (found : BitVec 11) : Statement (.cellReenum ring answered found) := all _
theorem cairnLatch : Statement .cairnLatch := all _
theorem cairnRestream (upsets : List (Fin 65536 × BitVec 32)) : Statement (.cairnRestream upsets) := all _
theorem vfSweepStart (src : Source) (w : Word) : Statement (.vfSweepStart src w) := all _
theorem osSweepStart (src : Source) (w : Word) : Statement (.osSweepStart src w) := all _
theorem sweepStop (src : Source) (w : Word) : Statement (.sweepStop src w) := all _
theorem clrRtFence (src : Source) (w : Word) : Statement (.clrRtFence src w) := all _
theorem ledEvalTimeout : Statement .ledEvalTimeout := all _
theorem railRampEnd (vledMv : BitVec 13) : Statement (.railRampEnd vledMv) := all _
theorem railStartTimeout (vledMv : BitVec 13) : Statement (.railStartTimeout vledMv) := all _
theorem railOv : Statement .railOv := all _
theorem railOcp (phase : Fin 4) : Statement (.railOcp phase) := all _
theorem railOcpSustained (phase : Fin 4) : Statement (.railOcpSustained phase) := all _
theorem phaseImbalance (phase : Fin 4) : Statement (.phaseImbalance phase) := all _
theorem railUv : Statement .railUv := all _
theorem railUvHold : Statement .railUvHold := all _
theorem railSense : Statement .railSense := all _
theorem adcSelfcheck : Statement .adcSelfcheck := all _
theorem powerLimitStep (p100mw : BitVec 12) : Statement (.powerLimitStep p100mw) := all _
theorem boardDerateStep : Statement .boardDerateStep := all _
theorem ledgerPassComplete (bad : LedgerErrs) : Statement (.ledgerPassComplete bad) := all _
theorem ledgerStoreStart : Statement .ledgerStoreStart := all _
theorem ledgerEraseComplete : Statement .ledgerEraseComplete := all _
theorem ledgerStoreComplete : Statement .ledgerStoreComplete := all _
theorem ledgerStoreFail : Statement .ledgerStoreFail := all _
theorem ledgerStoreRetry : Statement .ledgerStoreRetry := all _
theorem planRewriteComplete : Statement .planRewriteComplete := all _
theorem storeNow (src : Source) (w : Word) : Statement (.storeNow src w) := all _
theorem planNow (src : Source) (w : Word) : Statement (.planNow src w) := all _
theorem clrLaneDerate (src : Source) (w : Word) : Statement (.clrLaneDerate src w) := all _
theorem avsEvaluation (slackPs : List (BitVec 10)) (written : Bool) : Statement (.avsEvaluation slackPs written) := all _
theorem avsCheck (ch17Mv : BitVec 12) : Statement (.avsCheck ch17Mv) := all _
theorem memEyeCheck (eyes : List (BitVec 8)) : Statement (.memEyeCheck eyes) := all _
theorem dqsTracking : Statement .dqsTracking := all _
theorem laneMarginCheck (eyesA : List (BitVec 8)) (eyesB : List (BitVec 8)) : Statement (.laneMarginCheck eyesA eyesB) := all _
theorem nvmScrub (obs : ScrubObs) : Statement (.nvmScrub obs) := all _
theorem add (t : Fin 8) (rd : Fin 16) (ra : Fin 16) (rb : Fin 16) : Statement (.add t rd ra rb) := all _
theorem sub (t : Fin 8) (rd : Fin 16) (ra : Fin 16) (rb : Fin 16) : Statement (.sub t rd ra rb) := all _
theorem and (t : Fin 8) (rd : Fin 16) (ra : Fin 16) (rb : Fin 16) : Statement (.and t rd ra rb) := all _
theorem or (t : Fin 8) (rd : Fin 16) (ra : Fin 16) (rb : Fin 16) : Statement (.or t rd ra rb) := all _
theorem xor (t : Fin 8) (rd : Fin 16) (ra : Fin 16) (rb : Fin 16) : Statement (.xor t rd ra rb) := all _
theorem shl (t : Fin 8) (rd : Fin 16) (ra : Fin 16) (rb : Fin 16) : Statement (.shl t rd ra rb) := all _
theorem shr (t : Fin 8) (rd : Fin 16) (ra : Fin 16) (rb : Fin 16) : Statement (.shr t rd ra rb) := all _
theorem sar (t : Fin 8) (rd : Fin 16) (ra : Fin 16) (rb : Fin 16) : Statement (.sar t rd ra rb) := all _
theorem mul (t : Fin 8) (rd : Fin 16) (ra : Fin 16) (rb : Fin 16) : Statement (.mul t rd ra rb) := all _
theorem mulhu (t : Fin 8) (rd : Fin 16) (ra : Fin 16) (rb : Fin 16) : Statement (.mulhu t rd ra rb) := all _
theorem divu (t : Fin 8) (rd : Fin 16) (ra : Fin 16) (rb : Fin 16) : Statement (.divu t rd ra rb) := all _
theorem remu (t : Fin 8) (rd : Fin 16) (ra : Fin 16) (rb : Fin 16) : Statement (.remu t rd ra rb) := all _
theorem min (t : Fin 8) (rd : Fin 16) (ra : Fin 16) (rb : Fin 16) : Statement (.min t rd ra rb) := all _
theorem max (t : Fin 8) (rd : Fin 16) (ra : Fin 16) (rb : Fin 16) : Statement (.max t rd ra rb) := all _
theorem slt (t : Fin 8) (rd : Fin 16) (ra : Fin 16) (rb : Fin 16) : Statement (.slt t rd ra rb) := all _
theorem sltu (t : Fin 8) (rd : Fin 16) (ra : Fin 16) (rb : Fin 16) : Statement (.sltu t rd ra rb) := all _
theorem addi (t : Fin 8) (rd : Fin 16) (ra : Fin 16) (imm : BitVec 18) : Statement (.addi t rd ra imm) := all _
theorem andi (t : Fin 8) (rd : Fin 16) (ra : Fin 16) (imm : BitVec 18) : Statement (.andi t rd ra imm) := all _
theorem ori (t : Fin 8) (rd : Fin 16) (ra : Fin 16) (imm : BitVec 18) : Statement (.ori t rd ra imm) := all _
theorem xori (t : Fin 8) (rd : Fin 16) (ra : Fin 16) (imm : BitVec 18) : Statement (.xori t rd ra imm) := all _
theorem shli (t : Fin 8) (rd : Fin 16) (ra : Fin 16) (imm : BitVec 5) : Statement (.shli t rd ra imm) := all _
theorem shri (t : Fin 8) (rd : Fin 16) (ra : Fin 16) (imm : BitVec 5) : Statement (.shri t rd ra imm) := all _
theorem sari (t : Fin 8) (rd : Fin 16) (ra : Fin 16) (imm : BitVec 5) : Statement (.sari t rd ra imm) := all _
theorem lui (t : Fin 8) (rd : Fin 16) (imm : BitVec 18) : Statement (.lui t rd imm) := all _
theorem slti (t : Fin 8) (rd : Fin 16) (ra : Fin 16) (imm : BitVec 18) : Statement (.slti t rd ra imm) := all _
theorem ld (t : Fin 8) (rd : Fin 16) (ra : Fin 16) (imm : BitVec 18) : Statement (.ld t rd ra imm) := all _
theorem ldb (t : Fin 8) (rd : Fin 16) (ra : Fin 16) (imm : BitVec 18) : Statement (.ldb t rd ra imm) := all _
theorem st (t : Fin 8) (rd : Fin 16) (ra : Fin 16) (imm : BitVec 18) : Statement (.st t rd ra imm) := all _
theorem stb (t : Fin 8) (rd : Fin 16) (ra : Fin 16) (imm : BitVec 18) : Statement (.stb t rd ra imm) := all _
theorem swap (t : Fin 8) (rd : Fin 16) (ra : Fin 16) (imm : BitVec 18) : Statement (.swap t rd ra imm) := all _
theorem ldx (t : Fin 8) (rd : Fin 16) (ra : Fin 16) (imm : BitVec 18) : Statement (.ldx t rd ra imm) := all _
theorem stx (t : Fin 8) (rd : Fin 16) (ra : Fin 16) (imm : BitVec 18) : Statement (.stx t rd ra imm) := all _
theorem beq (t : Fin 8) (rd : Fin 16) (ra : Fin 16) (off : BitVec 18) : Statement (.beq t rd ra off) := all _
theorem bne (t : Fin 8) (rd : Fin 16) (ra : Fin 16) (off : BitVec 18) : Statement (.bne t rd ra off) := all _
theorem blt (t : Fin 8) (rd : Fin 16) (ra : Fin 16) (off : BitVec 18) : Statement (.blt t rd ra off) := all _
theorem bge (t : Fin 8) (rd : Fin 16) (ra : Fin 16) (off : BitVec 18) : Statement (.bge t rd ra off) := all _
theorem bltu (t : Fin 8) (rd : Fin 16) (ra : Fin 16) (off : BitVec 18) : Statement (.bltu t rd ra off) := all _
theorem bgeu (t : Fin 8) (rd : Fin 16) (ra : Fin 16) (off : BitVec 18) : Statement (.bgeu t rd ra off) := all _
theorem jmp (t : Fin 8) (off : BitVec 18) : Statement (.jmp t off) := all _
theorem jr (t : Fin 8) (ra : Fin 16) : Statement (.jr t ra) := all _
theorem call (t : Fin 8) (off : BitVec 18) : Statement (.call t off) := all _
theorem callr (t : Fin 8) (ra : Fin 16) : Statement (.callr t ra) := all _
theorem ret (t : Fin 8) : Statement (.ret t) := all _
theorem halt (t : Fin 8) : Statement (.halt t) := all _
theorem waitf (t : Fin 8) (rd : Fin 16) (imm : BitVec 18) : Statement (.waitf t rd imm) := all _
theorem waitt (t : Fin 8) (rd : Fin 16) (ra : Fin 16) (rb : Fin 16) : Statement (.waitt t rd ra rb) := all _
theorem waitd (t : Fin 8) (rd : Fin 16) (ra : Fin 16) (imm : BitVec 18) : Statement (.waitd t rd ra imm) := all _
theorem waite (t : Fin 8) (rd : Fin 16) (ra : Fin 16) (imm : BitVec 18) : Statement (.waite t rd ra imm) := all _
theorem time (t : Fin 8) (rd : Fin 16) (sel : Fin 5) : Statement (.time t rd sel) := all _
theorem layer (t : Fin 8) (rd : Fin 16) (ra : Fin 16) (rb : Fin 16) : Statement (.layer t rd ra rb) := all _
theorem tumblerCommit (t : Fin 8) (rd : Fin 16) (ra : Fin 16) : Statement (.tumblerCommit t rd ra) := all _
theorem tumblerMode (t : Fin 8) (rd : Fin 16) (ra : Fin 16) : Statement (.tumblerMode t rd ra) := all _
theorem env (t : Fin 8) (rd : Fin 16) (ra : Fin 16) : Statement (.env t rd ra) := all _
theorem tumblerCal (t : Fin 8) (rd : Fin 16) (ra : Fin 16) : Statement (.tumblerCal t rd ra) := all _
theorem tumblerMeas (t : Fin 8) (rd : Fin 16) (ra : Fin 16) : Statement (.tumblerMeas t rd ra) := all _
theorem tumblerStore (t : Fin 8) (rd : Fin 16) (ra : Fin 16) : Statement (.tumblerStore t rd ra) := all _
theorem sig (t : Fin 8) (rd : Fin 16) (ra : Fin 16) : Statement (.sig t rd ra) := all _
theorem post (t : Fin 8) (rd : Fin 16) (ra : Fin 16) (rb : Fin 16) : Statement (.post t rd ra rb) := all _
theorem sreq (t : Fin 8) (rd : Fin 16) (imm : BitVec 18) : Statement (.sreq t rd imm) := all _
theorem illegalInstruction (t : Fin 8) : Statement (.illegalInstruction t) := all _
theorem runaway (t : Fin 8) : Statement (.runaway t) := all _
theorem waiteTimeout (t : Fin 8) : Statement (.waiteTimeout t) := all _
theorem tumStart (src : Source) (w : Word) : Statement (.tumStart src w) := all _
theorem tumHalt (src : Source) (w : Word) : Statement (.tumHalt src w) := all _
theorem progStore (src : Source) (w : Word) : Statement (.progStore src w) := all _
theorem tumDbData (src : Source) (consume : Bool) : Statement (.tumDbData src consume) := all _
theorem ping (q : CmdReq) : Statement (.ping q) := all _
theorem read (q : CmdReq) : Statement (.read q) := all _
theorem write (q : CmdReq) : Statement (.write q) := all _
theorem commit (q : CmdReq) : Statement (.commit q) := all _
theorem mode (q : CmdReq) : Statement (.mode q) := all _
theorem colourTake (q : CmdReq) : Statement (.colourTake q) := all _
theorem cal (q : CmdReq) : Statement (.cal q) := all _
theorem meas (q : CmdReq) : Statement (.meas q) := all _
theorem store (q : CmdReq) : Statement (.store q) := all _
theorem doorbell (q : CmdReq) : Statement (.doorbell q) := all _
theorem progLoad (q : CmdReq) : Statement (.progLoad q) := all _
theorem lightOn (q : CmdReq) : Statement (.lightOn q) := all _
theorem lightOff (q : CmdReq) : Statement (.lightOff q) := all _
theorem safeReq (q : CmdReq) : Statement (.safeReq q) := all _
theorem faultAck (q : CmdReq) : Statement (.faultAck q) := all _
theorem configRefresh (q : CmdReq) : Statement (.configRefresh q) := all _
theorem shutdown (q : CmdReq) : Statement (.shutdown q) := all _
theorem updateStart (q : CmdReq) : Statement (.updateStart q) := all _
theorem updateAbort (q : CmdReq) : Statement (.updateAbort q) := all _
theorem restart (q : CmdReq) : Statement (.restart q) := all _
theorem attest (q : CmdReq) : Statement (.attest q) := all _
theorem proofRead (q : CmdReq) : Statement (.proofRead q) := all _
theorem sessionOpen (q : CmdReq) : Statement (.sessionOpen q) := all _
theorem enterService (q : CmdReq) : Statement (.enterService q) := all _
theorem leaveService (q : CmdReq) : Statement (.leaveService q) := all _
theorem ownerEnroll (q : CmdReq) : Statement (.ownerEnroll q) := all _
theorem safetyParam (q : CmdReq) : Statement (.safetyParam q) := all _
theorem nvmErase (q : CmdReq) : Statement (.nvmErase q) := all _
theorem debugUnlock (q : CmdReq) : Statement (.debugUnlock q) := all _
theorem serviceReply : Statement .serviceReply := all _
theorem sealChange (high : Bool) : Statement (.sealChange high) := all _
theorem trainDetected (p : Port) (lane : Fin 4) (payload : BitVec 64) (trains : List (Fin 4 × BitVec 64)) : Statement (.trainDetected p lane payload trains) := all _
theorem rateAgreed (p : Port) (payload : BitVec 64) : Statement (.rateAgreed p payload) := all _
theorem eqRequest (p : Port) (lane : Fin 4) (payload : BitVec 64) : Statement (.eqRequest p lane payload) := all _
theorem eqDone (p : Port) (payload : BitVec 64) (timeout : Bool) (obs : List EqObs) : Statement (.eqDone p payload timeout obs) := all _
theorem alignDone (p : Port) (skews : List (BitVec 8)) : Statement (.alignDone p skews) := all _
theorem trainingTimeout (p : Port) : Statement (.trainingTimeout p) := all _
theorem quietRetry (p : Port) : Statement (.quietRetry p) := all _
theorem signalDetect (p : Port) : Statement (.signalDetect p) := all _
theorem blockLock (p : Port) (obs : LaneBlocks) : Statement (.blockLock p obs) := all _
theorem blockLockLoss (p : Port) (obs : LaneBlocks) : Statement (.blockLockLoss p obs) := all _
theorem amReceived (p : Port) (lane : Fin 4) (blocks : List (BitVec 66)) (payload : BitVec 64) (skew : BitVec 8) : Statement (.amReceived p lane blocks payload skew) := all _
theorem markerLockLoss (p : Port) (obs : LaneBlocks) : Statement (.markerLockLoss p obs) := all _
theorem parkReceived (p : Port) (lane : Fin 4) : Statement (.parkReceived p lane) := all _
theorem retrainTrigger (p : Port) (lane : Fin 4) : Statement (.retrainTrigger p lane) := all _
theorem retrainFollow (p : Port) (lane : Fin 4) (payload : BitVec 64) : Statement (.retrainFollow p lane payload) := all _
theorem adaptFreeze (p : Port) (lane : Fin 4) : Statement (.adaptFreeze p lane) := all _
theorem adaptResume (p : Port) (lane : Fin 4) : Statement (.adaptResume p lane) := all _
theorem retrain (src : Source) (p : Port) (w : Word) : Statement (.retrain src p w) := all _
theorem clrFence (src : Source) (p : Port) (w : Word) : Statement (.clrFence src p w) := all _
theorem portEnable (src : Source) (p : Port) (w : Word) : Statement (.portEnable src p w) := all _
theorem lnkEye (src : Source) (p : Port) (w : Word) : Statement (.lnkEye src p w) := all _
theorem eyeMeasureComplete (p : Port) (eyes : List (BitVec 8)) : Statement (.eyeMeasureComplete p eyes) := all _
theorem testEn (src : Source) (p : Port) (w : Word) : Statement (.testEn src p w) := all _
theorem testExit (src : Source) (p : Port) (w : Word) : Statement (.testExit src p w) := all _
theorem prbsSyncTimeout (p : Port) (obs : LaneBits) : Statement (.prbsSyncTimeout p obs) := all _
theorem prbsSyncLoss (p : Port) (obs : LaneBits) : Statement (.prbsSyncLoss p obs) := all _
theorem lnkInject (src : Source) (p : Port) (w : Word) : Statement (.lnkInject src p w) := all _
theorem forwardingDecision (p : Port) (hdr : BitVec 128) : Statement (.forwardingDecision p hdr) := all _
theorem frameTrailer (p : Port) (payload : List Byte) (trailer : Word) : Statement (.frameTrailer p payload trailer) := all _
theorem egressSend (p : Port) : Statement (.egressSend p) := all _
theorem announceSend : Statement .announceSend := all _
theorem announce (p : Port) (f : Frame) : Statement (.announce p f) := all _
theorem depart (p : Port) (f : Frame) : Statement (.depart p f) := all _
theorem assign (p : Port) (f : Frame) : Statement (.assign p f) := all _
theorem load (p : Port) (f : Frame) : Statement (.load p f) := all _
theorem done (p : Port) (f : Frame) : Statement (.done p f) := all _
theorem entryStale (id : BitVec 12) : Statement (.entryStale id) := all _
theorem streamContextWrite (src : Source) (n : Fin 256) (words : List (Fin 4 × Word)) : Statement (.streamContextWrite src n words) := all _
theorem update (p : Port) (f : Frame) : Statement (.update p f) := all _
theorem nvmUpdData (src : Source) (w : Word) : Statement (.nvmUpdData src w) := all _
theorem keyLoad (src : Source) (w : Word) : Statement (.keyLoad src w) := all _
theorem keyClear (src : Source) (w : Word) : Statement (.keyClear src w) := all _
theorem previousSessionEnd : Statement .previousSessionEnd := all _
theorem proofRecordSigned : Statement .proofRecordSigned := all _
theorem debugChallengeExpiry : Statement .debugChallengeExpiry := all _
theorem wardEntropy : Statement .wardEntropy := all _
theorem wardSealedEcc : Statement .wardSealedEcc := all _
theorem inputSafe (input : InputAB) (ch : Bool) : Statement (.inputSafe input ch) := all _
theorem inputHealthy (input : InputAB) (ch : Bool) (pressMs : Nat) : Statement (.inputHealthy input ch pressMs) := all _
theorem testPulse (output : Bool) (failA : Bool) (failB : Bool) : Statement (.testPulse output failA failB) := all _
theorem inputDiscrepancy (input : InputAB) : Statement (.inputDiscrepancy input) := all _
theorem ackPress : Statement .ackPress := all _
theorem safetyTick (obs : TickObs) : Statement (.safetyTick obs) := all _
theorem safetyXcompare : Statement .safetyXcompare := all _
theorem aliveTimeout : Statement .aliveTimeout := all _
theorem fadeDone : Statement .fadeDone := all _
theorem sloCheck (stage : Fin 3) (obs : SloObs) : Statement (.sloCheck stage obs) := all _
theorem ssgDriveEnable : Statement .ssgDriveEnable := all _
theorem heartbeat (p : Port) (pdu : List Byte) : Statement (.heartbeat p pdu) := all _
theorem demand (p : Port) (pdu : List Byte) : Statement (.demand p pdu) := all _
theorem ack (p : Port) (pdu : List Byte) : Statement (.ack p pdu) := all _
theorem statusPdu (p : Port) (pdu : List Byte) : Statement (.statusPdu p pdu) := all _
theorem bcWatchdog : Statement .bcWatchdog := all _
theorem bcDemandTimeout : Statement .bcDemandTimeout := all _
theorem demandRepeat : Statement .demandRepeat := all _
theorem statusPduSend : Statement .statusPduSend := all _
theorem safetyStrapChanged (straps : BitVec 6) : Statement (.safetyStrapChanged straps) := all _
theorem faultEventExpiry (source : BitVec 8) (detail : BitVec 16) : Statement (.faultEventExpiry source detail) := all _
theorem handlingEnd (number : Word) : Statement (.handlingEnd number) := all _
theorem faultPairHealthy : Statement .faultPairHealthy := all _
theorem fltPairReadback : Statement .fltPairReadback := all _
theorem fltInject (src : Source) (w : Word) : Statement (.fltInject src w) := all _
theorem fltInjectClear (src : Source) (w : Word) : Statement (.fltInjectClear src w) := all _
theorem clrFirst (src : Source) (w : Word) : Statement (.clrFirst src w) := all _
theorem flashFail : Statement .flashFail := all _
theorem chkStart (src : Source) (u : Fin 4) (w : Word) : Statement (.chkStart src u w) := all _
theorem chkDataB (src : Source) (u : Fin 4) (w : Word) : Statement (.chkDataB src u w) := all _
theorem chkDataH (src : Source) (u : Fin 4) (w : Word) : Statement (.chkDataH src u w) := all _
theorem chkDataW (src : Source) (u : Fin 4) (w : Word) : Statement (.chkDataW src u w) := all _
theorem chkClose (src : Source) (u : Fin 4) (w : Word) : Statement (.chkClose src u w) := all _
theorem chkDrainComplete (u : Fin 4) : Statement (.chkDrainComplete u) := all _
theorem chkAliveFeed (src : Source) (u : Fin 4) (w : Word) : Statement (.chkAliveFeed src u w) := all _
theorem aliveDeadline (u : Fin 4) : Statement (.aliveDeadline u) := all _
theorem chkRstatus (src : Source) (u : Fin 4) (consume : Bool) : Statement (.chkRstatus src u consume) := all _
theorem ringSigCnt (src : Source) (consume : Bool) : Statement (.ringSigCnt src consume) := all _
theorem dieSensorFail (sensor : Fin 12) (reading : Int) : Statement (.dieSensorFail sensor reading) := all _
theorem thermalEvaluation (obs : ThermObs) : Statement (.thermalEvaluation obs) := all _
theorem ntcCrosscheckFail (ntc : Fin 8) : Statement (.ntcCrosscheckFail ntc) := all _
theorem thresholdCrossing (q : ThermQty) (up : Bool) (value : Int) : Statement (.thresholdCrossing q up value) := all _
theorem shutdownReset : Statement .shutdownReset := all _
theorem thermalRelease (reading : Int) : Statement (.thermalRelease reading) := all _
theorem thermTrimCtrl (src : Source) (w : Word) : Statement (.thermTrimCtrl src w) := all _
theorem trimDaily : Statement .trimDaily := all _
theorem selfTrimStart : Statement .selfTrimStart := all _
theorem selfTrimComplete (trims : List (Int × Bool)) : Statement (.selfTrimComplete trims) := all _
theorem trimTimeout : Statement .trimTimeout := all _
theorem trimApplyTimeout : Statement .trimApplyTimeout := all _
theorem nvmStoreComplete (kind : NvmJob) (ok : Bool) : Statement (.nvmStoreComplete kind ok) := all _
theorem backgroundEraseDone (kind : NvmJob) : Statement (.backgroundEraseDone kind) := all _
theorem userCalStoreComplete (ok : Bool) : Statement (.userCalStoreComplete ok) := all _
theorem slotEraseComplete : Statement .slotEraseComplete := all _
theorem stagingComplete : Statement .stagingComplete := all _
theorem confirm (src : Source) (w : Word) : Statement (.confirm src w) := all _
theorem trialConfirm : Statement .trialConfirm := all _
theorem trialTimerExpiry : Statement .trialTimerExpiry := all _
theorem cairnStart (src : Source) (w : Word) : Statement (.cairnStart src w) := all _
theorem nvmCairnData (src : Source) (w : Word) : Statement (.nvmCairnData src w) := all _
theorem cairnCommit (src : Source) (w : Word) : Statement (.cairnCommit src w) := all _
theorem cairnStoreComplete (ok : Bool) : Statement (.cairnStoreComplete ok) := all _
theorem cairnReload : Statement .cairnReload := all _
theorem logAppend : Statement .logAppend := all _
theorem registerWrite (src : Source) (addr : Word) (w : Word) : Statement (.registerWrite src addr w) := all _
theorem registerRead (src : Source) (addr : Word) (consume : Bool) : Statement (.registerRead src addr consume) := all _
theorem badOpcode (opcode : Byte) (q : CmdReq) : Statement (.badOpcode opcode q) := all _
theorem serviceWrite (bits : List Bool) : Statement (.serviceWrite bits) := all _
theorem tDieMove : Statement .tDieMove := all _
theorem cairnCompletionDeadline (ring : Fin 64) : Statement (.cairnCompletionDeadline ring) := all _
theorem compInternal : Statement .compInternal := all _
theorem colourInternal : Statement .colourInternal := all _
theorem tumblerParity : Statement .tumblerParity := all _

end Sys2Proof.Laws.NoWord
end

