-- ==== Sys2Proof/Laws/Settle.lean ====
section
/-!
SUPPORT. Sys2Proof/Laws/Settle.lean: what the fault collector can do after a command: which state it never touches, that it leaves no
fault waiting, and that from a calm state it changes nothing but a condition of SAFETY_OUTPUT and the fault pair.
-/

namespace Sys2Proof.Machine

/-- A fold changes nothing that none of its steps changes. -/
theorem foldl_keeps {α β γ : Type} (g : α → γ) (f : α → β → α) (h : ∀ a b, g (f a b) = g a) (l : List β) (a : α) :
    g (l.foldl f a) = g a := by
  induction l generalizing a with
  | nil => rfl
  | cons b l ih => rw [List.foldl_cons, ih, h]

/-- The same of a fold over the numbers below `n`. -/
theorem State.each_keeps {γ : Type} (g : State → γ) (f : State → Nat → State) (h : ∀ s n, g (f s n) = g s) (s : State) (n : Nat) :
    g (s.each n f) = g s := foldl_keeps g f h _ s

/-- The state that no reaction to a fault touches: power, check units, stream contexts, temperatures, commands, selectors, the tile
flash, the queue, the latest register answer and a reset that is due. -/
def State.outside (s : State) :=
  (s.pending, s.pwr, s.chk, s.ctxs, s.therm, s.cmd, s.sel, s.flash, s.acc, s.eng.resetDue)

@[simp] theorem State.onEng_outside (s : State) (f) (h : ∀ e, (f e).resetDue = e.resetDue) : (s.onEng f).outside = s.outside := by
  simp [State.outside, State.onEng, h]
@[simp] theorem State.onFlt_outside (s : State) (f) : (s.onFlt f).outside = s.outside := rfl
@[simp] theorem State.onLinkA_outside (s : State) (f) : (s.onLinkA f).outside = s.outside := rfl
@[simp] theorem State.onLinkB_outside (s : State) (f) : (s.onLinkB f).outside = s.outside := rfl
@[simp] theorem State.onWall_outside (s : State) (f) : (s.onWall f).outside = s.outside := rfl
@[simp] theorem State.onTime_outside (s : State) (f) : (s.onTime f).outside = s.outside := rfl
@[simp] theorem State.onTum_outside (s : State) (f) : (s.onTum f).outside = s.outside := rfl
@[simp] theorem State.onComp_outside (s : State) (f) : (s.onComp f).outside = s.outside := rfl
@[simp] theorem State.onCol_outside (s : State) (f) : (s.onCol f).outside = s.outside := rfl
@[simp] theorem State.onRings_outside (s : State) (f) : (s.onRings f).outside = s.outside := rfl
@[simp] theorem State.onLed_outside (s : State) (f) : (s.onLed f).outside = s.outside := rfl
@[simp] theorem State.onSaf_outside (s : State) (f) : (s.onSaf f).outside = s.outside := rfl
@[simp] theorem State.onAge_outside (s : State) (f) : (s.onAge f).outside = s.outside := rfl
@[simp] theorem State.onWard_outside (s : State) (f) : (s.onWard f).outside = s.outside := rfl
@[simp] theorem State.onNvm_outside (s : State) (f) : (s.onNvm f).outside = s.outside := rfl
@[simp] theorem State.onThread_outside (s : State) (i f) : (s.onThread i f).outside = s.outside := rfl
@[simp] theorem State.onRing_outside (s : State) (i f) : (s.onRing i f).outside = s.outside := rfl
@[simp] theorem State.onLayer_outside (s : State) (i f) : (s.onLayer i f).outside = s.outside := rfl
@[simp] theorem State.takeFree_outside (s : State) : s.takeFree.outside = s.outside := rfl
@[simp] theorem State.onLink_outside (s : State) (p f) : (s.onLink p f).outside = s.outside := by cases p <;> rfl
@[simp] theorem State.endCond_outside (s : State) (a b) : (s.endCond a b).outside = s.outside := rfl
@[simp] theorem State.endSrc_outside (s : State) (a) : (s.endSrc a).outside = s.outside := rfl

@[simp] theorem State.raise_outside (s : State) (a b) : (s.raise a b).outside = s.outside := by
  unfold State.raise; repeat' split
  all_goals simp

@[simp] theorem State.raiseAt_outside (s : State) (n a b) : (s.raiseAt n a b).outside = s.outside := by
  unfold State.raiseAt; split <;> simp

@[simp] theorem State.fireWith_outside (s : State) (b e) : (s.fireWith b e).outside = s.outside := by
  unfold State.fireWith; simp only []; split <;> simp

@[simp] theorem State.fire_outside (s : State) (e) : (s.fire e).outside = s.outside := by
  simp [State.fire]

@[simp] theorem State.captureWith_outside (s : State) (a b c) : (s.captureWith a b c).outside = s.outside := by
  unfold State.captureWith; repeat' split
  all_goals simp

@[simp] theorem State.haltAll_outside (s : State) (c) : (s.haltAll c).outside = s.outside := by
  simp [State.haltAll]

@[simp] theorem State.discardResults_outside (s : State) (n) : (s.discardResults n).outside = s.outside := by
  simp [State.discardResults]

@[simp] theorem State.startThread_outside (s : State) (n) : (s.startThread n).outside = s.outside := by
  simp [State.startThread]

@[simp] theorem State.startThreads_outside (s : State) : (s.startThreads).outside = s.outside := by
  unfold State.startThreads
  split
  · rfl
  · exact State.each_keeps State.outside _ (fun t n => by split <;> simp) s 8

@[simp] theorem State.applyCeilings_outside (s : State) : (s.applyCeilings).outside = s.outside := by
  unfold State.applyCeilings
  split
  · rfl
  · exact State.each_keeps State.outside _ (fun t n => by simp) s 64

@[simp] theorem State.setPoint_outside (s : State) (m) : (s.setPoint m).outside = s.outside := by
  simp [State.setPoint]

@[simp] theorem State.railOff_outside (s : State) : (s.railOff).outside = s.outside := by
  simp [State.railOff]

@[simp] theorem State.railStart_outside (s : State) : (s.railStart).outside = s.outside := by
  unfold State.railStart; repeat' split
  all_goals simp

@[simp] theorem State.railStartIfOff_outside (s : State) : (s.railStartIfOff).outside = s.outside := by
  unfold State.railStartIfOff; repeat' split
  all_goals simp

@[simp] theorem State.stopSweep_outside (s : State) : (s.stopSweep).outside = s.outside := by
  unfold State.stopSweep; repeat' split
  all_goals simp

@[simp] theorem State.askZeroFrame_outside (s : State) : (s.askZeroFrame).outside = s.outside := by
  simp [State.askZeroFrame]

@[simp] theorem State.cairnStream_outside (s : State) : (s.cairnStream).outside = s.outside := by
  simp [State.cairnStream]

@[simp] theorem State.cairnRequest_outside (s : State) : (s.cairnRequest).outside = s.outside := by
  unfold State.cairnRequest; repeat' split
  all_goals simp

@[simp] theorem State.cairnEnd_outside (s : State) : (s.cairnEnd).outside = s.outside := by
  simp [State.cairnEnd]

@[simp] theorem State.fenceRing_outside (s : State) (k) : (s.fenceRing k).outside = s.outside := by
  simp [State.fenceRing]

@[simp] theorem State.setEng_outside (s : State) (n) : (s.setEng n).outside = s.outside := by
  unfold State.setEng; simp only []; repeat' split
  all_goals simp

@[simp] theorem State.enterDark_outside (s : State) : (s.enterDark).outside = s.outside := by
  simp [State.enterDark]

@[simp] theorem State.writeBoot_outside (s : State) (f) : (s.writeBoot f).outside = s.outside := by
  unfold State.writeBoot; split <;> simp

@[simp] theorem State.abortStaging_outside (s : State) : (s.abortStaging).outside = s.outside := by
  simp [State.abortStaging]

@[simp] theorem State.performSlo_outside (s : State) : (s.performSlo).outside = s.outside := by
  simp [State.performSlo]

@[simp] theorem State.performSfd_outside (s : State) : (s.performSfd).outside = s.outside := by
  unfold State.performSfd; repeat' split
  all_goals simp

@[simp] theorem State.performSsg_outside (s : State) : (s.performSsg).outside = s.outside := by
  unfold State.performSsg; repeat' split
  all_goals simp

@[simp] theorem State.applyFunc_outside (s : State) (o) : (s.applyFunc o).outside = s.outside := by
  unfold State.applyFunc; repeat' split
  all_goals simp

@[simp] theorem State.enterSafe_outside (s : State) : (s.enterSafe).outside = s.outside := by
  unfold State.enterSafe; repeat' split
  all_goals simp

@[simp] theorem State.addCause_outside (s : State) (c f) : (s.addCause c f).outside = s.outside := by
  unfold State.addCause; simp only [State.enterSafe_outside, State.applyFunc_outside]; repeat' split
  all_goals simp

@[simp] theorem State.releaseOutputs_outside (s : State) : (s.releaseOutputs).outside = s.outside := by
  unfold State.releaseOutputs; repeat' split
  all_goals simp

@[simp] theorem State.reportProg_outside (s : State) : s.reportProg.outside = s.outside := by
  simp [State.reportProg]

@[simp] theorem State.enterJoin_outside (s : State) : (s.enterJoin).outside = s.outside := by
  unfold State.enterJoin; simp only [State.railStartIfOff_outside, State.releaseOutputs_outside]; repeat' split
  all_goals simp

@[simp] theorem State.exitSafe_outside (s : State) : (s.exitSafe).outside = s.outside := by
  unfold State.exitSafe; simp only []; repeat' split
  all_goals simp

@[simp] theorem State.clearCauses_outside (s : State) (p) : (s.clearCauses p).outside = s.outside := by
  unfold State.clearCauses; simp only []; repeat' split
  all_goals simp

@[simp] theorem State.checkInternal_outside (s : State) : (s.checkInternal).outside = s.outside := by
  unfold State.checkInternal; simp only []; repeat' split
  all_goals simp

@[simp] theorem State.checkSsgFenced_outside (s : State) : (s.checkSsgFenced).outside = s.outside := by
  unfold State.checkSsgFenced; repeat' split
  all_goals simp

@[simp] theorem State.pairUpdate_outside (s : State) : (s.pairUpdate).outside = s.outside := by
  unfold State.pairUpdate; repeat' split
  all_goals simp

@[simp] theorem State.cutOff_outside (s : State) (p) : (s.cutOff p).outside = s.outside := by
  have hat : ∀ (t : State) (l : List Byte), (t.cutOffAt p l).outside = t.outside := by
    intro t l; unfold State.cutOffAt; split
    · rfl
    · simp only []; split <;> simp
  unfold State.cutOff; split
  · rfl
  · exact hat s _

@[simp] theorem State.mapPortLoss_outside (s : State) (p) : (s.mapPortLoss p).outside = s.outside := by
  simp [State.mapPortLoss]

@[simp] theorem State.leaveActive_outside (s : State) (p) : (s.leaveActive p).outside = s.outside := by
  unfold State.leaveActive; repeat' split
  all_goals simp

@[simp] theorem State.disablePort_outside (s : State) (p) : (s.disablePort p).outside = s.outside := by
  simp [State.disablePort]

@[simp] theorem State.setFence_outside (s : State) (i) : (s.setFence i).outside = s.outside := by
  simp [State.setFence]

@[simp] theorem State.fenceColour_outside (s : State) : (s.fenceColour).outside = s.outside := by
  rfl

@[simp] theorem State.fenceUnit_outside (s : State) (u) : (s.fenceUnit u).outside = s.outside := by
  unfold State.fenceUnit; split <;> (try simp only []) <;> (repeat' split) <;> simp

@[simp] theorem State.logEvent_outside (s : State) (a b c) : (s.logEvent a b c).outside = s.outside := by
  simp [State.logEvent]

@[simp] theorem State.mergeInto_outside (s : State) (i n v c) : (s.mergeInto i n v c).outside = s.outside := by
  unfold State.mergeInto; split
  · rfl
  · simp only []; split <;> simp

@[simp] theorem State.createRec_outside (s : State) (i n v) : (s.createRec i n v).outside = s.outside := by
  unfold State.createRec; simp only []; repeat' split
  all_goals simp

/-- A reaction touches nothing outside. -/
@[simp] theorem State.react_outside (s : State) (n v) : (s.react n v).outside = s.outside := by
  unfold State.react; repeat' split
  all_goals simp

@[simp] theorem State.fifoFull_outside (s : State) (i a b) : (s.fifoFull i a b).outside = s.outside := by
  simp [State.fifoFull]

@[simp] theorem State.record_outside (s : State) (o n v) : (s.record o n v).outside = s.outside := by
  unfold State.record; repeat' split
  all_goals simp

/-- Recording and reacting touches nothing outside. -/
@[simp] theorem State.settleN_outside (k : Nat) (old : List (BitVec 32)) (s : State) : (s.settleN k old).outside = s.outside := by
  induction k generalizing s with
  | zero => rfl
  | succ k ih =>
    unfold State.settleN
    split
    · rfl
    · simp only [ih]
      have hf : ∀ (l : List NewFault) (t : State),
          (l.foldl (fun s n => (s.record old n (s.flt.sevOf n.src)).react n (s.flt.sevOf n.src)) t).outside = t.outside := by
        intro l
        induction l with
        | nil => intro t; rfl
        | cons n l ihl => intro t; rw [List.foldl_cons, ihl]; simp
      rw [hf]; simp

/-- No reset acts that is not due. -/
@[simp] theorem State.resetIfDue_none (s : State) (h : s.eng.resetDue = none) : s.resetIfDue = s := by
  unfold State.resetIfDue; rw [h]

/-- What follows a command that brings no reset touches nothing outside. -/
theorem State.settle_outside (s : State) (h : s.eng.resetDue = none) : s.settle.outside = s.outside := by
  have ho : ∀ old, (((s.settleN 6 old).checkSsgFenced.checkInternal.settleN 6 old).pairUpdate).outside = s.outside := by intro old; simp
  unfold State.settle
  simp only []
  rw [State.resetIfDue_none _ ((congrArg (·.2.2.2.2.2.2.2.2.2) (ho _)).trans h)]
  exact ho _

theorem State.settle_pwr (s : State) (h : s.eng.resetDue = none) : s.settle.pwr = s.pwr := congrArg (·.2.1) (s.settle_outside h)
theorem State.settle_chk (s : State) (h : s.eng.resetDue = none) : s.settle.chk = s.chk := congrArg (·.2.2.1) (s.settle_outside h)
theorem State.settle_ctxs (s : State) (h : s.eng.resetDue = none) : s.settle.ctxs = s.ctxs := congrArg (·.2.2.2.1) (s.settle_outside h)
theorem State.settle_therm (s : State) (h : s.eng.resetDue = none) : s.settle.therm = s.therm := congrArg (·.2.2.2.2.1) (s.settle_outside h)
theorem State.settle_cmd (s : State) (h : s.eng.resetDue = none) : s.settle.cmd = s.cmd := congrArg (·.2.2.2.2.2.1) (s.settle_outside h)
theorem State.settle_sel (s : State) (h : s.eng.resetDue = none) : s.settle.sel = s.sel := congrArg (·.2.2.2.2.2.2.1) (s.settle_outside h)
theorem State.settle_flash (s : State) (h : s.eng.resetDue = none) : s.settle.flash = s.flash := congrArg (·.2.2.2.2.2.2.2.1) (s.settle_outside h)
theorem State.settle_acc (s : State) (h : s.eng.resetDue = none) : s.settle.acc = s.acc := congrArg (·.2.2.2.2.2.2.2.2.1) (s.settle_outside h)

/-- A reset leaves the queue and no fault waiting, whatever its cause. -/
theorem State.holdReset_spec (s : State) (c : RstCause) :
    (s.holdReset c).pending = s.pending ∧ (s.FaultsHandled → (s.holdReset c).FaultsHandled) := by
  unfold State.holdReset; repeat' split
  · exact ⟨rfl, fun _ => rfl⟩
  · exact ⟨rfl, id⟩
  · exact ⟨rfl, id⟩

/-- So does the reset that is due, if there is one. -/
theorem State.resetIfDue_spec (s : State) : s.resetIfDue.pending = s.pending ∧ (s.FaultsHandled → s.resetIfDue.FaultsHandled) := by
  unfold State.resetIfDue; simp only []; split
  · exact ⟨rfl, id⟩
  · exact ⟨(State.holdReset_spec _ _).1, fun h => (State.holdReset_spec _ _).2 h⟩
  · exact ⟨(State.holdReset_spec _ _).1, fun h => (State.holdReset_spec _ _).2 h⟩
  · exact ⟨(State.holdReset_spec _ _).1, fun h => (State.holdReset_spec _ _).2 h⟩

/-- The queue stays whatever follows a command. -/
theorem State.settle_pending (s : State) : s.settle.pending = s.pending := by
  have ho : ∀ old, (((s.settleN 6 old).checkSsgFenced.checkInternal.settleN 6 old).pairUpdate).outside = s.outside := by intro old; simp
  exact (State.resetIfDue_spec _).1.trans (congrArg (·.1) (ho _))

/-- Recording leaves no fault waiting. -/
theorem State.settleN_handled (k : Nat) (old : List (BitVec 32)) (s : State) : (s.settleN k old).FaultsHandled := by
  induction k generalizing s with
  | zero => rfl
  | succ k ih =>
    unfold State.settleN
    split
    · assumption
    · exact ih _

/-- After a command nothing waits for the fault collector (R411). -/
theorem State.settle_handled (s : State) : s.settle.FaultsHandled := by
  refine (State.resetIfDue_spec _).2 ?_
  unfold State.pairUpdate
  split
  · exact State.settleN_handled 6 _ _
  · exact State.settleN_handled 6 _ _

/-- From a calm state only the fault collector’s conditions and the fault pair can change. -/
theorem State.settle_calm (s : State) (h : s.Calm) :
    s.settle = { s with flt := { s.flt with conds := s.settle.flt.conds, pairFault := s.settle.flt.pairFault } } := by
  obtain ⟨h1, h0, h2, h3⟩ := h
  have hn : ∀ old, s.settleN 6 old = s := by
    intro old; unfold State.settleN; rw [State.FaultsHandled] at h1; rw [h1]
  have hc : s.checkSsgFenced.saf.internal = none := by
    unfold State.checkSsgFenced; split <;> simpa using h2
  have hi : s.checkSsgFenced.checkInternal = s.checkSsgFenced := by
    have hd : s.checkSsgFenced.eng.st = .safe → s.checkSsgFenced.safeDemand = true := by
      unfold State.checkSsgFenced; split <;> exact h3
    unfold State.checkInternal; simp only [hc, Option.isSome_none, Bool.false_and, Bool.false_eq_true, if_false]
    by_cases he : s.checkSsgFenced.eng.st = .safe
    · simp [he, hd he]
    · simp [he]
  have hw : s.checkSsgFenced.flt.newFaults = [] := by
    unfold State.checkSsgFenced; split <;> simpa using h1
  have hn2 : ∀ old, s.checkSsgFenced.settleN 6 old = s.checkSsgFenced := by
    intro old; unfold State.settleN; rw [hw]
  have hr : s.checkSsgFenced.pairUpdate.eng.resetDue = none := by
    unfold State.pairUpdate State.checkSsgFenced; repeat' split
    all_goals simpa using h0
  unfold State.settle
  simp only [hn, hi, hn2]
  rw [State.resetIfDue_none _ hr]
  unfold State.pairUpdate State.checkSsgFenced
  repeat' split
  all_goals rfl

/-- From a calm state no condition is added. -/
theorem State.settle_calm_conds (s : State) (h : s.Calm) : ∀ c ∈ s.settle.flt.conds, c ∈ s.flt.conds := by
  obtain ⟨h1, h0, h2, h3⟩ := h
  have hn : ∀ old, s.settleN 6 old = s := by
    intro old; unfold State.settleN; rw [State.FaultsHandled] at h1; rw [h1]
  have hc : s.checkSsgFenced.saf.internal = none := by
    unfold State.checkSsgFenced; split <;> simpa using h2
  have hi : s.checkSsgFenced.checkInternal = s.checkSsgFenced := by
    have hd : s.checkSsgFenced.eng.st = .safe → s.checkSsgFenced.safeDemand = true := by
      unfold State.checkSsgFenced; split <;> exact h3
    unfold State.checkInternal; simp only [hc, Option.isSome_none, Bool.false_and, Bool.false_eq_true, if_false]
    by_cases he : s.checkSsgFenced.eng.st = .safe
    · simp [he, hd he]
    · simp [he]
  have hw : s.checkSsgFenced.flt.newFaults = [] := by
    unfold State.checkSsgFenced; split <;> simpa using h1
  have hn2 : ∀ old, s.checkSsgFenced.settleN 6 old = s.checkSsgFenced := by
    intro old; unfold State.settleN; rw [hw]
  have hr : s.checkSsgFenced.pairUpdate.eng.resetDue = none := by
    unfold State.pairUpdate State.checkSsgFenced; repeat' split
    all_goals simpa using h0
  unfold State.settle
  simp only [hn, hi, hn2]
  rw [State.resetIfDue_none _ hr]
  intro c
  unfold State.pairUpdate State.checkSsgFenced
  repeat' split
  all_goals simp
  all_goals exact fun h _ => h

/-- A command’s own effect from which nothing is to be recorded: its next state is that effect, but for those two. -/
theorem done_calm (s : State) (h : s.Calm) :
    ∃ u, done s = .next u ∧ NoNewFault s u ∧ u = { s with flt := u.flt } :=
  ⟨s.settle, rfl, ⟨by rw [s.settle_calm h], s.settle_calm_conds h⟩, by rw [s.settle_calm h]⟩

end Sys2Proof.Machine
end

