-- ==== Sys2Proof/Laws/Tumbler.lean ====
section
/-!
SUPPORT. Sys2Proof/Laws/Tumbler.lean: what the operations that Tumbler instructions share do to threads and registers.
-/

namespace Sys2Proof.Machine

/-! ### One element of a list -/

@[simp] theorem upd_length {α : Type} (l : List α) (i : Nat) (f : α → α) : (upd l i f).length = l.length := by
  induction l generalizing i with
  | nil => rfl
  | cons a l ih => cases i <;> simp [upd, ih]

theorem upd_getD_same {α : Type} (l : List α) (i : Nat) (f : α → α) (d : α) (h : i < l.length) :
    (upd l i f).getD i d = f (l.getD i d) := by
  induction l generalizing i with
  | nil => simp at h
  | cons a l ih =>
    cases i with
    | zero => simp [upd]
    | succ i => simpa [upd] using ih i (by simpa using h)

theorem upd_getD_other {α : Type} (l : List α) (i j : Nat) (f : α → α) (d : α) (h : j ≠ i) : (upd l i f).getD j d = l.getD j d := by
  induction l generalizing i j with
  | nil => rfl
  | cons a l ih =>
    cases i with
    | zero => cases j with
      | zero => exact absurd rfl h
      | succ j => simp [upd]
    | succ i => cases j with
      | zero => simp [upd]
      | succ j => simpa [upd] using ih i j (by omega)

theorem upd_mem {α : Type} (l : List α) (i : Nat) (f : α → α) (x : α) (h : x ∈ upd l i f) : x ∈ l ∨ ∃ y ∈ l, x = f y := by
  induction l generalizing i with
  | nil => exact Or.inl h
  | cons a l ih =>
    cases i with
    | zero =>
      rcases List.mem_cons.mp h with rfl | h
      · exact Or.inr ⟨a, by simp, rfl⟩
      · exact Or.inl (by simp [h])
    | succ i =>
      rcases List.mem_cons.mp h with rfl | h
      · exact Or.inl (by simp)
      · rcases ih i h with h | ⟨y, hy, rfl⟩
        · exact Or.inl (by simp [h])
        · exact Or.inr ⟨y, by simp [hy], rfl⟩

/-! ### Threads -/

/-- One thread changed: that thread. -/
theorem State.onThread_same (s : State) (t : Fin 8) (f : Thread → Thread) (h : s.TumShaped) : (s.onThread t f).thread t = f (s.thread t) :=
  upd_getD_same _ _ _ _ (by rw [h.1]; exact t.isLt)

/-- One thread changed: the others keep. -/
theorem State.onThread_other (s : State) (t n : Nat) (f : Thread → Thread) (h : n ≠ t) : (s.onThread t f).thread n = s.thread n :=
  upd_getD_other _ _ _ _ _ h

/-- A thread’s registers are sixteen. -/
theorem State.thread_g (s : State) (t : Fin 8) (h : s.TumShaped) : (s.thread t).g.length = 16 := by
  have ht : t.val < s.tum.threads.length := by rw [h.1]; exact t.isLt
  have : s.thread t = s.tum.threads[t.val] := by simp [State.thread, ht]
  rw [this]
  exact h.2 _ (List.getElem_mem ht)

/-- Reading a register after one is written: G0 stays zero (R222). -/
theorem Thread.setReg_reg (x : Thread) (rd r : Fin 16) (v : Word) (h : x.g.length = 16) :
    (x.setReg rd v).reg r = if r = rd ∧ r ≠ 0 then v else x.reg r := by
  unfold Thread.setReg Thread.reg
  by_cases h0 : r = 0
  · subst h0; simp
  · have hv : r.val ≠ 0 := fun e => h0 (Fin.ext e)
    by_cases hrd : rd.val = 0
    · have : r ≠ rd := fun e => hv (by rw [e]; exact hrd)
      simp [hrd, this]
    · by_cases he : r = rd
      · subst he; simp [hv, h0, List.getD, h]
      · have hne : rd.val ≠ r.val := fun e => he (Fin.ext e.symm)
        simp [hv, hrd, he, List.getD, hne]

@[simp] theorem Thread.setReg_pc (x : Thread) (r : Fin 16) (v : Word) : (x.setReg r v).pc = x.pc := by
  unfold Thread.setReg; split <;> rfl

@[simp] theorem Thread.advance_reg (x : Thread) (r : Fin 16) : x.advance.reg r = x.reg r := rfl

/-- A register written leaves everything of the thread but its registers. -/
theorem Thread.setReg_advance (x : Thread) (r : Fin 16) (v : Word) :
    (x.setReg r v).advance = { x with g := (x.setReg r v).g, pc := (x.pc + 1) % 16384, issued := x.issued + 1 } := by
  unfold Thread.setReg Thread.advance; split <;> rfl

/-- The end of an instruction that writes one register, from a calm state: rd alone changes, and the PC (R222). -/
theorem State.setResult_completes (s : State) (t : Fin 8) (rd : Fin 16) (v : Word) (hc : s.Calm) (hs : s.TumShaped) :
    ∃ u, done (s.setResult t rd v) = .next u ∧ WroteReg s u t rd v := by
  obtain ⟨u, hu, hn, he⟩ := done_calm (s.setResult t rd v) hc
  refine ⟨u, hu, ?_⟩
  have ht : ∀ n, u.thread n = (s.setResult t rd v).thread n := fun n => by rw [he]; rfl
  have hsame : u.thread t = ((s.thread t).setReg rd v).advance := by
    rw [ht]; exact State.onThread_same s t _ hs
  refine ⟨fun r => ?_, ?_, ?_, ?_, ?_, hn⟩
  · rw [hsame, Thread.advance_reg, Thread.setReg_reg _ _ _ _ (s.thread_g t hs)]
  · rw [WentOn, hsame]; exact Thread.setReg_advance _ _ _
  · rw [he]; rfl
  · intro n hne; rw [ht]; exact State.onThread_other s t n _ hne
  · rw [he]; rfl

/-- An instruction that can issue has its effect (R211). -/
theorem State.issue_eq (s : State) (t : Fin 8) (w : Word) (f : Thread → State) (h : s.issues t w = true) :
    s.issue t w f = done (f (s.thread t)) := by
  unfold State.issue; rw [if_pos h]

end Sys2Proof.Machine
end

