-- ==== Sys2Proof/Laws/Still.lean ====
section
/-!
SUPPORT. Sys2Proof/Laws/Still.lean: what most shared operations leave alone: the queue, the engine state, the outputs and causes of the
safety monitor, the local counter, and the sizes of the register files.
-/

namespace Sys2Proof.Machine

/-- The engine’s state machine, the safety monitor’s causes and outputs, the local counter, the queue, and the sizes of the register files. -/
def State.still (s : State) :=
  (s.pending, s.eng.st, s.eng.prev, s.eng.beforeUpdate, s.eng.noImage, s.time.local_,
    (s.saf.inA, s.saf.inB, s.saf.bcDemand, s.saf.watchdog, s.saf.request, s.saf.internal),
    (s.saf.drvEnA, s.saf.drvEnB, s.saf.vledDis, s.saf.selftestOk, s.saf.paramsOk),
    (s.tum.threads.length, s.time.cmps.length, s.comp.layers.length, s.ctxs.length, s.rings.rings.length, s.chk.length))

@[simp] theorem State.onEng_still (s : State) (f : Eng → Eng)
    (h : ((f s.eng).st, (f s.eng).prev, (f s.eng).beforeUpdate, (f s.eng).noImage) = (s.eng.st, s.eng.prev, s.eng.beforeUpdate, s.eng.noImage)) :
    (s.onEng f).still = s.still := by
  simp only [Prod.mk.injEq] at h; simp [State.still, h]

@[simp] theorem State.onSaf_still (s : State) (f : Saf → Saf)
    (h : ((f s.saf).inA, (f s.saf).inB, (f s.saf).bcDemand, (f s.saf).watchdog, (f s.saf).request, (f s.saf).internal)
      = (s.saf.inA, s.saf.inB, s.saf.bcDemand, s.saf.watchdog, s.saf.request, s.saf.internal))
    (h2 : ((f s.saf).drvEnA, (f s.saf).drvEnB, (f s.saf).vledDis, (f s.saf).selftestOk, (f s.saf).paramsOk)
      = (s.saf.drvEnA, s.saf.drvEnB, s.saf.vledDis, s.saf.selftestOk, s.saf.paramsOk)) :
    (s.onSaf f).still = s.still := by
  simp only [Prod.mk.injEq] at h h2; simp [State.still, h, h2]

@[simp] theorem State.onTime_still (s : State) (f : WTime → WTime)
    (h : ((f s.time).local_, (f s.time).cmps.length) = (s.time.local_, s.time.cmps.length)) : (s.onTime f).still = s.still := by
  simp only [Prod.mk.injEq] at h; simp [State.still, h]

@[simp] theorem State.onTum_still (s : State) (f : Tum → Tum) (h : (f s.tum).threads.length = s.tum.threads.length) : (s.onTum f).still = s.still := by
  simp [State.still, h]

@[simp] theorem State.onComp_still (s : State) (f : Comp → Comp) (h : (f s.comp).layers.length = s.comp.layers.length) :
    (s.onComp f).still = s.still := by
  simp [State.still, h]

@[simp] theorem State.onPwr_still (s : State) (f) : (s.onPwr f).still = s.still := rfl
@[simp] theorem State.onFlt_still (s : State) (f) : (s.onFlt f).still = s.still := rfl
@[simp] theorem State.onLinkA_still (s : State) (f) : (s.onLinkA f).still = s.still := rfl
@[simp] theorem State.onLinkB_still (s : State) (f) : (s.onLinkB f).still = s.still := rfl
@[simp] theorem State.onWall_still (s : State) (f) : (s.onWall f).still = s.still := rfl
@[simp] theorem State.onCol_still (s : State) (f) : (s.onCol f).still = s.still := rfl
@[simp] theorem State.onLed_still (s : State) (f) : (s.onLed f).still = s.still := rfl
@[simp] theorem State.onTherm_still (s : State) (f) : (s.onTherm f).still = s.still := rfl
@[simp] theorem State.onAge_still (s : State) (f) : (s.onAge f).still = s.still := rfl
@[simp] theorem State.onCmd_still (s : State) (f) : (s.onCmd f).still = s.still := rfl
@[simp] theorem State.onSel_still (s : State) (f) : (s.onSel f).still = s.still := rfl
@[simp] theorem State.onWard_still (s : State) (f) : (s.onWard f).still = s.still := rfl
@[simp] theorem State.onNvm_still (s : State) (f) : (s.onNvm f).still = s.still := rfl

@[simp] theorem State.onRings_still (s : State) (f : RingUnit → RingUnit) (h : (f s.rings).rings.length = s.rings.rings.length) :
    (s.onRings f).still = s.still := by
  simp [State.still, h]

@[simp] theorem State.onLink_still (s : State) (p : Port) (f) : (s.onLink p f).still = s.still := by cases p <;> rfl
@[simp] theorem State.onPer_still (s : State) (src : Source) (f) : (s.onPer src f).still = s.still := rfl
@[simp] theorem State.onUnit_still (s : State) (u f) : (s.onUnit u f).still = s.still := by simp [State.still, State.onUnit]
@[simp] theorem State.onThread_still (s : State) (t f) : (s.onThread t f).still = s.still := by simp [State.still, State.onThread]
@[simp] theorem State.onCtx_still (s : State) (n f) : (s.onCtx n f).still = s.still := by simp [State.still, State.onCtx]
@[simp] theorem State.onRing_still (s : State) (k f) : (s.onRing k f).still = s.still := by simp [State.still, State.onRing]
@[simp] theorem State.onLayer_still (s : State) (i f) : (s.onLayer i f).still = s.still := by simp [State.still, State.onLayer]
@[simp] theorem State.takeFree_still (s : State) : s.takeFree.still = s.still := rfl
@[simp] theorem State.raise_still (s : State) (a b) : (s.raise a b).still = s.still := by
  unfold State.raise
  split
  · rfl
  · rfl
@[simp] theorem State.raiseAt_still (s : State) (n a b) : (s.raiseAt n a b).still = s.still := by
  unfold State.raiseAt
  split <;> simp
@[simp] theorem State.endCond_still (s : State) (a b) : (s.endCond a b).still = s.still := rfl
@[simp] theorem State.endSrc_still (s : State) (a) : (s.endSrc a).still = s.still := rfl
@[simp] theorem State.flashStore_still (s : State) (a l) : (s.flashStore a l).still = s.still := rfl
@[simp] theorem State.dramStore_still (s : State) (a l) : (s.dramStore a l).still = s.still := rfl
@[simp] theorem State.flashErase_still (s : State) (a n) : (s.flashErase a n).still = s.still := rfl
@[simp] theorem State.when_still (s : State) (b : Bool) (f : State → State) (h : (f s).still = s.still) : (s.when b f).still = s.still := by
  unfold State.when
  split
  · exact h
  · rfl
/-- An operation repeated for the numbers below `n` leaves alone what each of its turns leaves alone. -/
@[simp] theorem State.each_still (s : State) (n : Nat) (f : State → Nat → State) (h : ∀ s k, (f s k).still = s.still) : (s.each n f).still = s.still :=
  State.each_keeps State.still f h s n

@[simp] theorem State.level_still (s : State) (b : Bool) (src detail : Nat) : (s.level b src detail).still = s.still := by
  unfold State.level
  (repeat' split) <;> simp

@[simp] theorem State.answer_still (s : State) (src : Source) (addr : Nat) (data : BitVec 32) (status : Byte) : (s.answer src addr data status).still = s.still := rfl

@[simp] theorem State.onCell_still (s : State) (k c : Nat) (f : Cell → Cell) : (s.onCell k c f).still = s.still := rfl

@[simp] theorem State.fireWith_still (s : State) (loud : Bool) (e : Nat) : (s.fireWith loud e).still = s.still := by
  unfold State.fireWith
  (try dsimp only)
  (repeat' split) <;> simp

@[simp] theorem State.fire_still (s : State) (e : Nat) : (s.fire e).still = s.still := by
  unfold State.fire
  simp

@[simp] theorem State.captureWith_still (s : State) (loud : Bool) (src : Nat) (rising : Bool) : (s.captureWith loud src rising).still = s.still := by
  unfold State.captureWith
  (try dsimp only)
  (repeat' split) <;> simp

@[simp] theorem State.capture_still (s : State) (src : Nat) (rising : Bool) : (s.capture src rising).still = s.still := by
  unfold State.capture
  simp

@[simp] theorem State.haltAll_still (s : State) (cause : Nat) : (s.haltAll cause).still = s.still := by
  unfold State.haltAll
  simp

@[simp] theorem State.deviceDone_still (s : State) (t : Nat) (v : BitVec 32) : (s.deviceDone t v).still = s.still := by
  unfold State.deviceDone
  (try dsimp only)
  simp

@[simp] theorem State.setDmem_still (s : State) (i : Nat) (v : BitVec 32) : (s.setDmem i v).still = s.still := rfl

@[simp] theorem State.reportProg_still (s : State) : (s.reportProg).still = s.still := rfl

@[simp] theorem State.discardResults_still (s : State) (n : Nat) : (s.discardResults n).still = s.still := rfl

@[simp] theorem State.startThread_still (s : State) (n : Nat) : (s.startThread n).still = s.still := by
  unfold State.startThread
  simp

@[simp] theorem State.onMap_still (s : State) (id : Nat) (f : BitVec 128 → BitVec 128) : (s.onMap id f).still = s.still := by
  unfold State.onMap
  (repeat' split) <;> simp

@[simp] theorem State.mapPortLoss_still (s : State) (p : Port) : (s.mapPortLoss p).still = s.still := rfl

@[simp] theorem State.enqueue_still (s : State) (p : Port) (f : QFrame) : (s.enqueue p f).still = s.still := by
  unfold State.enqueue
  (try dsimp only)
  simp

@[simp] theorem State.sendFrame_still (s : State) (p : Port) (f : Frame) (turned departure : Bool) : (s.sendFrame p f turned departure).still = s.still := by
  unfold State.sendFrame
  (try dsimp only)
  (repeat' split) <;> simp

@[simp] theorem State.cutOffAt_still (s : State) (p : Port) (l : List Byte) : (s.cutOffAt p l).still = s.still := by
  unfold State.cutOffAt
  (try dsimp only)
  (repeat' split) <;> simp

@[simp] theorem State.cutOff_still (s : State) (p : Port) : (s.cutOff p).still = s.still := by
  unfold State.cutOff
  split
  · rfl
  · exact State.cutOffAt_still s p _

@[simp] theorem State.leaveActive_still (s : State) (p : Port) : (s.leaveActive p).still = s.still := by
  unfold State.leaveActive
  (repeat' split) <;> simp

@[simp] theorem State.disablePort_still (s : State) (p : Port) : (s.disablePort p).still = s.still := by
  unfold State.disablePort
  simp

@[simp] theorem State.startPort_still (s : State) (p : Port) : (s.startPort p).still = s.still := by
  unfold State.startPort
  (repeat' split) <;> simp

@[simp] theorem State.applyCeilings_still (s : State) : (s.applyCeilings).still = s.still := by
  unfold State.applyCeilings
  (repeat' split) <;> simp

@[simp] theorem State.driveZero_still (s : State) : (s.driveZero).still = s.still := by
  unfold State.driveZero
  simp

@[simp] theorem State.setPoint_still (s : State) (mv : Nat) : (s.setPoint mv).still = s.still := rfl

@[simp] theorem State.railOff_still (s : State) : (s.railOff).still = s.still := rfl

@[simp] theorem State.railStart_still (s : State) : (s.railStart).still = s.still := by
  unfold State.railStart
  (repeat' split) <;> simp

@[simp] theorem State.railStartIfOff_still (s : State) : (s.railStartIfOff).still = s.still := by
  unfold State.railStartIfOff
  (repeat' split) <;> simp

@[simp] theorem State.stopSweep_still (s : State) : (s.stopSweep).still = s.still := by
  unfold State.stopSweep
  (repeat' split) <;> simp

@[simp] theorem State.askZeroFrame_still (s : State) : (s.askZeroFrame).still = s.still := rfl

@[simp] theorem State.cairnEnd_still (s : State) : (s.cairnEnd).still = s.still := by
  unfold State.cairnEnd
  simp

@[simp] theorem State.fenceRing_still (s : State) (k : Nat) : (s.fenceRing k).still = s.still := by
  unfold State.fenceRing
  simp

@[simp] theorem State.writeBoot_still (s : State) (f : BootRecord → BootRecord) : (s.writeBoot f).still = s.still := by
  unfold State.writeBoot
  split <;> simp

@[simp] theorem State.abortStaging_still (s : State) : (s.abortStaging).still = s.still := by
  simp [State.abortStaging]

@[simp] theorem State.performSfd_still (s : State) : (s.performSfd).still = s.still := by
  unfold State.performSfd
  (try dsimp only)
  (repeat' split) <;> simp

@[simp] theorem State.checkSsgFenced_still (s : State) : (s.checkSsgFenced).still = s.still := by
  unfold State.checkSsgFenced
  (repeat' split) <;> simp

@[simp] theorem State.setFence_still (s : State) (i : Nat) : (s.setFence i).still = s.still := rfl

@[simp] theorem State.logEvent_still (s : State) (typ detail : Nat) (data : List Byte) : (s.logEvent typ detail data).still = s.still := rfl

@[simp] theorem State.mergeInto_still (s : State) (i : Nat) (n : NewFault) (sev : Fin 4) (counted : Bool) : (s.mergeInto i n sev counted).still = s.still := by
  unfold State.mergeInto
  (try dsimp only)
  (repeat' split) <;> simp

@[simp] theorem State.createRec_still (s : State) (i : Nat) (n : NewFault) (sev : Fin 4) : (s.createRec i n sev).still = s.still := by
  unfold State.createRec
  (try dsimp only)
  (repeat' split) <;> simp

@[simp] theorem State.pairUpdate_still (s : State) : (s.pairUpdate).still = s.still := by
  unfold State.pairUpdate
  (repeat' split) <;> simp

@[simp] theorem State.setResult_still (s : State) (t : Fin 8) (rd : Fin 16) (v : Word) : (s.setResult t rd v).still = s.still := by
  unfold State.setResult
  simp

@[simp] theorem State.except_still (s : State) (t : Fin 8) (cause : Nat) : (s.except t cause).still = s.still := by
  unfold State.except
  simp

@[simp] theorem State.transfer_still (s : State) (t : Fin 8) (target : Int) (f : Thread → Thread) : (s.transfer t target f).still = s.still := by
  unfold State.transfer
  (repeat' split) <;> simp

@[simp] theorem State.armCompare_still (s : State) (t : Fin 8) (target : Nat) : (s.armCompare t target).still = s.still := by
  unfold State.armCompare
  simp

@[simp] theorem State.tagFailed_still (s : State) : (s.tagFailed).still = s.still := rfl

@[simp] theorem State.checkCmdTag_still (s : State) (dest : Nat) (src : BitVec 12) (cmdId : BitVec 16) (payload : List Byte) : (s.checkCmdTag dest src cmdId payload).2.still = s.still := by
  unfold State.checkCmdTag
  (try dsimp only)
  (repeat' split) <;> simp

@[simp] theorem State.openProof_still (s : State) (flip : Nat) : (s.openProof flip).still = s.still := by
  unfold State.openProof
  (try dsimp only)
  (repeat' split) <;> simp

@[simp] theorem State.countProof_still (s : State) (flip : Nat) : (s.countProof flip).still = s.still := rfl

@[simp] theorem State.proofFlip_still (s : State) (flip : Nat) : (s.proofFlip flip).still = s.still := by
  unfold State.proofFlip
  (try dsimp only)
  (repeat' split) <;> simp

@[simp] theorem State.badMsg_still (s : State) : (s.badMsg).still = s.still := rfl

@[simp] theorem State.enterQuiet_still (s : State) (p : Port) : (s.enterQuiet p).still = s.still := by
  unfold State.enterQuiet
  (try dsimp only)
  (repeat' split) <;> simp

@[simp] theorem State.attemptFails_still (s : State) (p : Port) : (s.attemptFails p).still = s.still := by
  unfold State.attemptFails
  (try dsimp only)
  (repeat' split) <;> simp

@[simp] theorem State.recycle_still (s : State) (p : Port) : (s.recycle p).still = s.still := by
  unfold State.recycle
  (repeat' split) <;> simp

@[simp] theorem State.linkDown_still (s : State) (p : Port) : (s.linkDown p).still = s.still := by
  unfold State.linkDown
  simp

@[simp] theorem State.retrain_still (s : State) (p : Port) : (s.retrain p).still = s.still := by
  unfold State.retrain
  (try dsimp only)
  (repeat' split) <;> simp

@[simp] theorem State.fenceLane_still (s : State) (p : Port) (i : Nat) : (s.fenceLane p i).still = s.still := by
  unfold State.fenceLane
  (try dsimp only)
  (repeat' split) <;> simp

@[simp] theorem State.prbsFail_still (s : State) (p : Port) (lane : Nat) : (s.prbsFail p lane).still = s.still := by
  unfold State.prbsFail
  simp

@[simp] theorem State.linkCtrl_still (s : State) (p : Port) (enable retrain clr : Bool) : (s.linkCtrl p enable retrain clr).still = s.still := by
  unfold State.linkCtrl
  (try dsimp only)
  (repeat' split) <;> simp

@[simp] theorem State.linkInject_still (s : State) (p : Port) (w : Word) : (s.linkInject p w).still = s.still := by
  unfold State.linkInject
  (try dsimp only)
  (repeat' split) <;> simp

@[simp] theorem State.flushLog_still (s : State) : (s.flushLog).still = s.still := rfl

@[simp] theorem State.dropSupplies_still (s : State) : (s.dropSupplies).still = s.still := rfl

@[simp] theorem State.stopStores_still (s : State) : (s.stopStores).still = s.still := rfl

@[simp] theorem State.applySettings_still (s : State) (x : Settings) : (s.applySettings x).still = s.still := rfl

@[simp] theorem State.startSettings_still (s : State) : (s.startSettings).still = s.still := by
  unfold State.startSettings
  (repeat' split) <;> simp

@[simp] theorem State.stage_still (s : State) (offset : Nat) (data : List Byte) : (s.stage offset data).2.still = s.still := by
  unfold State.stage
  (try dsimp only)
  (repeat' split) <;> simp

@[simp] theorem State.confirmTrial_still (s : State) : (s.confirmTrial).still = s.still := by
  unfold State.confirmTrial
  (try dsimp only)
  simp

@[simp] theorem State.cairnStart_still (s : State) : (s.cairnStart).still = s.still := rfl

@[simp] theorem State.cairnData_still (s : State) (w : Word) : (s.cairnData w).still = s.still := rfl

@[simp] theorem State.cairnCommit_still (s : State) : (s.cairnCommit).still = s.still := by
  unfold State.cairnCommit
  (try dsimp only)
  (repeat' split) <;> simp

@[simp] theorem State.loadPlane_still (s : State) : (s.loadPlane).still = s.still := rfl

@[simp] theorem State.fwd_still (s : State) (from_ out : Port) (turned : Bool) (h : BitVec 128) : (s.fwd from_ out turned h).still = s.still := by
  unfold State.fwd
  (try dsimp only)
  (repeat' split) <;> simp

@[simp] theorem State.mapReject_still (s : State) (p : Port) : (s.mapReject p).still = s.still := by
  unfold State.mapReject
  simp

@[simp] theorem State.announceBoth_still (s : State) : (s.announceBoth).still = s.still := rfl

@[simp] theorem State.sendDepart_still (s : State) : (s.sendDepart).still = s.still := rfl

@[simp] theorem State.mapLose_still (s : State) (id seen : Nat) : (s.mapLose id seen).still = s.still := by
  unfold State.mapLose
  (try dsimp only)
  (repeat' split) <;> simp

@[simp] theorem State.landDrop_still (s : State) (n : Nat) : (s.landDrop n).still = s.still := by
  unfold State.landDrop
  simp

@[simp] theorem State.abandonFrame_still (s : State) (n : Nat) : (s.abandonFrame n).still = s.still := by
  unfold State.abandonFrame
  (repeat' split) <;> simp

@[simp] theorem State.startFrame_still (s : State) (n : Nat) (frame : BitVec 32) : (s.startFrame n frame).still = s.still := by
  unfold State.startFrame
  (repeat' split) <;> simp

@[simp] theorem State.frameComplete_still (s : State) (n : Nat) (l : Land) : (s.frameComplete n l).still = s.still := by
  unfold State.frameComplete
  (try dsimp only)
  (repeat' split) <;> simp

@[simp] theorem State.land_still (s : State) (n : Nat) (frame : BitVec 32) (off : Nat) (last : Bool) (data : List Byte) : (s.land n frame off last data).still = s.still := by
  unfold State.land
  (try dsimp only)
  (repeat' split) <;> simp

@[simp] theorem State.zeroPlane_still (s : State) (buf : Bool) : (s.zeroPlane buf).still = s.still := rfl

@[simp] theorem State.rtFencePixel_still (s : State) (p : Nat) : (s.rtFencePixel p).still = s.still := by
  unfold State.rtFencePixel
  (try dsimp only)
  (repeat' split) <;> simp

@[simp] theorem State.fenceEmitter_still (s : State) (k c e : Nat) : (s.fenceEmitter k c e).still = s.still := by
  unfold State.fenceEmitter
  (try dsimp only)
  (repeat' split) <;> simp

@[simp] theorem State.keepCell_still (s : State) (k c : Nat) : (s.keepCell k c).still = s.still := by
  unfold State.keepCell
  simp

@[simp] theorem State.sigDone_still (s : State) : s.sigDone.still = s.still := by
  unfold State.sigDone
  split <;> simp [State.onRings_still]

@[simp] theorem State.formSignature_still (s : State) (n : Nat) (codes : Nat → Bool) : (s.formSignature n codes).still = s.still := by
  unfold State.formSignature
  (try dsimp only)
  simp

@[simp] theorem State.putRec_still (s : State) (p : Nat) (r : BitVec 128) : (s.putRec p r).still = s.still := rfl

@[simp] theorem State.keepCopied_still (s : State) (p : Nat) : (s.keepCopied p).still = s.still := by
  unfold State.keepCopied
  split <;> simp

@[simp] theorem State.rebuildRec_still (s : State) (p : Nat) : (s.rebuildRec p).still = s.still := by
  unfold State.rebuildRec
  simp

/-- A burst of the ledger restored from the flash leaves the engine and the outputs alone. -/
@[simp] theorem State.copyAdvance_still (s : State) : s.copyAdvance.still = s.still := by
  unfold State.copyAdvance
  split <;> simp

@[simp] theorem State.putDose_still (s : State) (e d : Nat) : (s.putDose e d).still = s.still := by
  unfold State.putDose
  (try dsimp only)
  split <;> simp

@[simp] theorem State.ledgerEcc_still (s : State) (b : Nat) : (s.ledgerEcc b).still = s.still := by
  unfold State.ledgerEcc
  simp only [State.raise_still]
  rw [foldl_keeps State.still]
  · simp
  · intro s p
    exact foldl_keeps State.still _ (fun s i => by simp) _ _

@[simp] theorem State.readLedger_still (s : State) : s.readLedger.still = s.still := by
  unfold State.readLedger
  simp only [State.onAge_still]
  exact foldl_keeps State.still _ (fun s b => by simp) _ _

@[simp] theorem State.ok_still (s : State) : (s.ok).2.still = s.still := rfl

@[simp] theorem State.okWith_still (s : State) (r : List Byte) : (s.okWith r).2.still = s.still := rfl

@[simp] theorem State.no_still (s : State) (status : Byte) : (s.no status).2.still = s.still := rfl

@[simp] theorem State.later_still (s : State) : (s.later).2.still = s.still := rfl

@[simp] theorem State.countBadTag_still (s : State) (q : CmdReq) : (s.countBadTag q).still = s.still := by
  unfold State.countBadTag
  (try dsimp only)
  (repeat' split) <;> simp

@[simp] theorem State.accept_still (s : State) (q : CmdReq) (op : Byte) (tagged : Bool) : (s.accept q op tagged).still = s.still := by
  unfold State.accept
  (try dsimp only)
  (repeat' split) <;> simp

@[simp] theorem State.requestMode_still (s : State) (w0 w1 w2 w3 : Word) : (s.requestMode w0 w1 w2 w3).2.still = s.still := by
  unfold State.requestMode
  (repeat' split) <;> simp

@[simp] theorem State.applyTrims_still (s : State) : (s.applyTrims).still = s.still := rfl

@[simp] theorem State.colourTake_still (s : State) : (s.colourTake).still = s.still := by
  unfold State.colourTake
  (try dsimp only)
  (repeat' split) <;> simp

@[simp] theorem State.placeTake_still (s : State) : (s.placeTake).still = s.still := rfl

@[simp] theorem State.putPixel_still (s : State) (x y : Nat) (o : PixelOut) : (s.putPixel x y o).still = s.still := rfl

@[simp] theorem State.envParity_still (s : State) (z : Nat) : (s.envParity z).still = s.still := by
  unfold State.envParity
  (repeat' split) <;> simp

@[simp] theorem State.recEcc_still (s : State) (b : Nat) : (s.recEcc b).still = s.still := by
  unfold State.recEcc
  simp

@[simp] theorem State.tempReturn_still (s : State) (k c t : Nat) : (s.tempReturn k c t).still = s.still := by
  unfold State.tempReturn
  (try dsimp only)
  (repeat' split) <;> simp

@[simp] theorem State.cairnFail_still (s : State) (k : Nat) : (s.cairnFail k).still = s.still := by
  unfold State.cairnFail
  simp

@[simp] theorem State.sendAgain_still (s : State) (k c : Nat) (codes : List Byte) (latchNow : Bool) : (s.sendAgain k c codes latchNow).still = s.still := by
  unfold State.sendAgain
  (repeat' split) <;> simp

@[simp] theorem State.unconfirmed_still (s : State) (k c : Nat) : (s.unconfirmed k c).still = s.still := by
  unfold State.unconfirmed
  (try dsimp only)
  (repeat' split) <;> simp

@[simp] theorem State.slot1_still (s : State) (k : Nat) (o : SlotObs) : (s.slot1 k o).still = s.still := by
  unfold State.slot1
  (try dsimp only)
  (repeat' split) <;> simp

@[simp] theorem State.slot3_still (s : State) (k : Nat) (o : SlotObs) : (s.slot3 k o).still = s.still := by
  unfold State.slot3
  (try dsimp only)
  (repeat' split) <;> simp

@[simp] theorem State.sweepRequest_still (s : State) (kind interval : Nat) : (s.sweepRequest kind interval).2.still = s.still := by
  unfold State.sweepRequest
  (repeat' split) <;> simp

@[simp] theorem State.startShutdown_still (s : State) : (s.startShutdown).still = s.still := by
  unfold State.startShutdown
  simp

@[simp] theorem State.askTrim_still (s : State) : (s.askTrim).still = s.still := rfl

@[simp] theorem State.envData_still (s : State) (a : Nat) (w : Word) : (s.envData a w).still = s.still := rfl

@[simp] theorem State.requestCal_still (s : State) (w0 w1 w2 : Word) : (s.requestCal w0 w1 w2).2.still = s.still := by
  unfold State.requestCal
  (repeat' split) <;> simp

@[simp] theorem State.startUserStore_still (s : State) : s.startUserStore.still = s.still := by
  unfold State.startUserStore
  (repeat' split) <;> simp

@[simp] theorem State.storeResult_still (s : State) (kind : Nat) (code : Byte) : (s.storeResult kind code).still = s.still := rfl

@[simp] theorem State.setCore_still (s : State) (mv : Nat) (written raised : Bool) : (s.setCore mv written raised).still = s.still := by
  unfold State.setCore
  (repeat' split) <;> simp

@[simp] theorem State.laneMargin_still (s : State) (p : Port) (eyes : List (BitVec 8)) : (s.laneMargin p eyes).still = s.still := by
  unfold State.laneMargin
  (try dsimp only)
  (repeat' split) <;> simp

@[simp] theorem State.eraseTarget_still (s : State) (k : NvmJob) : (s.eraseTarget k).still = s.still := rfl

@[simp] theorem State.acceptMaster_still (s : State) (l : List Byte) : (s.acceptMaster l).still = s.still := rfl

@[simp] theorem State.railHolds_still (s : State) : (s.railHolds).still = s.still := rfl

@[simp] theorem State.chkDrain_still (s : State) (u : Nat) : (s.chkDrain u).still = s.still := by
  unfold State.chkDrain
  (try dsimp only)
  (repeat' split) <;> simp

@[simp] theorem State.chkStart_still (s : State) (u : Nat) : (s.chkStart u).still = s.still := by
  unfold State.chkStart
  (try dsimp only)
  simp

@[simp] theorem State.chkData_still (s : State) (u : Nat) (l : List Byte) : (s.chkData u l).still = s.still := by
  unfold State.chkData
  (try dsimp only)
  simp

@[simp] theorem State.chkClose_still (s : State) (u : Nat) : (s.chkClose u).still = s.still := by
  unfold State.chkClose
  simp

@[simp] theorem State.chkAlive_still (s : State) (u : Nat) (w : Word) : (s.chkAlive u w).still = s.still := by
  unfold State.chkAlive
  (try dsimp only)
  (repeat' split) <;> simp

@[simp] theorem State.touchId_still (s : State) (a : Nat) : (s.touchId a).still = s.still := by
  unfold State.touchId
  (repeat' split) <;> simp

@[simp] theorem State.touchClk_still (s : State) (a : Nat) : (s.touchClk a).still = s.still := by
  unfold State.touchClk
  (repeat' split) <;> simp

@[simp] theorem State.touchFlt_still (s : State) (a : Nat) (consume : Bool) : (s.touchFlt a consume).still = s.still := by
  unfold State.touchFlt
  (try dsimp only)
  (repeat' split) <;> simp

@[simp] theorem State.touchChk_still (s : State) (src : Source) (a : Nat) (consume : Bool) : (s.touchChk src a consume).still = s.still := by
  unfold State.touchChk
  (try dsimp only)
  (repeat' split) <;> simp

@[simp] theorem State.startEye_still (s : State) (p : Port) : (s.startEye p).still = s.still := by
  unfold State.startEye
  (repeat' split) <;> simp

@[simp] theorem State.writeLinkCtrl_still (s : State) (p : Port) (w : Word) : (s.writeLinkCtrl p w).still = s.still := by
  unfold State.writeLinkCtrl
  simp

@[simp] theorem State.touchComp_still (s : State) (a : Nat) : (s.touchComp a).still = s.still := by
  unfold State.touchComp
  (repeat' split) <;> simp

@[simp] theorem State.touchCol_still (s : State) (a : Nat) : (s.touchCol a).still = s.still := by
  unfold State.touchCol
  (repeat' split) <;> simp

@[simp] theorem State.onShadow_still (s : State) (f : ColourGroup → ColourGroup) : (s.onShadow f).still = s.still := rfl

@[simp] theorem State.writeEnvData_still (s : State) (src : Source) (w : Word) : (s.writeEnvData src w).still = s.still := rfl

@[simp] theorem State.writeTfData_still (s : State) (src : Source) (w : Word) : (s.writeTfData src w).still = s.still := rfl

@[simp] theorem State.touchRing_still (s : State) (src : Source) (a : Nat) (consume : Bool) : (s.touchRing src a consume).still = s.still := by
  unfold State.touchRing
  (try dsimp only)
  (repeat' split) <;> simp

@[simp] theorem State.touchLed_still (s : State) (src : Source) (a : Nat) : (s.touchLed src a).still = s.still := by
  unfold State.touchLed
  (repeat' split) <;> simp

@[simp] theorem State.writeAdcSel_still (s : State) (src : Source) (w : Word) : (s.writeAdcSel src w).still = s.still := rfl

@[simp] theorem State.touchTherm_still (s : State) (a : Nat) : (s.touchTherm a).still = s.still := by
  unfold State.touchTherm
  (repeat' split) <;> simp

@[simp] theorem State.touchSaf_still (s : State) (a : Nat) : (s.touchSaf a).still = s.still := by
  unfold State.touchSaf
  (repeat' split) <;> simp

@[simp] theorem State.touchAge_still (s : State) (a : Nat) : (s.touchAge a).still = s.still := by
  unfold State.touchAge
  (repeat' split) <;> simp

@[simp] theorem State.clrLaneDerate_still (s : State) : (s.clrLaneDerate).still = s.still := by
  unfold State.clrLaneDerate
  simp

@[simp] theorem State.touchWard_still (s : State) (a : Nat) : (s.touchWard a).still = s.still := by
  unfold State.touchWard
  (repeat' split) <;> simp

@[simp] theorem State.touchNvm_still (s : State) (a : Nat) : (s.touchNvm a).still = s.still := by
  unfold State.touchNvm
  (repeat' split) <;> simp

@[simp] theorem State.stageWord_still (s : State) (w : Word) : (s.stageWord w).still = s.still := by
  unfold State.stageWord
  simp

@[simp] theorem State.touchMem_still (s : State) (a : Nat) : (s.touchMem a).still = s.still := by
  unfold State.touchMem
  (repeat' split) <;> simp

@[simp] theorem State.writeLayer_still (s : State) (i o : Nat) (w : Word) : (s.writeLayer i o w).still = s.still := by
  unfold State.writeLayer
  (repeat' split) <;> simp

@[simp] theorem State.stall_still (s : State) (t : Fin 8) (rd : Fin 16) : (s.stall t rd).still = s.still := by
  unfold State.stall
  (try dsimp only)
  simp

@[simp] theorem State.resetWindows_still (s : State) (slot : Nat) : (s.resetWindows slot).still = s.still := by
  simp [State.still, State.resetWindows]

@[simp] theorem State.keyDone_still (s : State) : s.keyDone.still = s.still := by
  unfold State.keyDone
  (try dsimp only)
  (repeat' split) <;> simp

@[simp] theorem State.enroll_still (s : State) (l : List Byte) (kWall : BitVec 256) : (s.enroll l kWall).still = s.still := by
  unfold State.enroll
  (try dsimp only)
  (repeat' split) <;> simp

@[simp] theorem State.unlockDebug_still (s : State) : (s.unlockDebug).still = s.still := by
  unfold State.unlockDebug
  (try dsimp only)
  simp

@[simp] theorem State.loadDmem_still (s : State) : (s.loadDmem).still = s.still := rfl

@[simp] theorem State.eraseSlot_still (s : State) (k : Bool) : (s.eraseSlot k).still = s.still := by
  unfold State.eraseSlot
  (repeat' split) <;> simp

@[simp] theorem State.runImage_still (s : State) (k trial : Bool) : (s.runImage k trial).still = s.still := rfl

@[simp] theorem State.dropTrial_still (s : State) (k : Bool) : (s.dropTrial k).still = s.still := by
  unfold State.dropTrial
  (try dsimp only)
  simp

@[simp] theorem State.tryTrial_still (s : State) (k : Bool) : (s.tryTrial k).2.still = s.still := by
  unfold State.tryTrial
  (try dsimp only)
  (repeat' split) <;> simp

@[simp] theorem State.bootSettings_still (s : State) (migrates : Bool) : (s.bootSettings migrates).still = s.still := by
  unfold State.bootSettings
  (try dsimp only)
  (repeat' split) <;> simp

@[simp] theorem State.bootProgram_still (s : State) : (s.bootProgram).still = s.still := by
  unfold State.bootProgram
  (try dsimp only)
  (repeat' split) <;> simp

@[simp] theorem State.bootCairn_still (s : State) : (s.bootCairn).still = s.still := rfl

@[simp] theorem State.bootUser_still (s : State) : (s.bootUser).still = s.still := by
  unfold State.bootUser
  (try dsimp only)
  (repeat' split) <;> simp

@[simp] theorem State.memEyes_still (s : State) (eyes : List Nat) : (s.memEyes eyes).still = s.still := by
  unfold State.memEyes State.level
  (try dsimp only)
  split <;> simp

@[simp] theorem State.bootDram_still (s : State) (gib : Nat) (r w : List Nat) : (s.bootDram gib r w).still = s.still := by
  simp [State.bootDram]

@[simp] theorem State.convert_still (s : State) (ch : Nat) : (s.convert ch).still = s.still := rfl


end Sys2Proof.Machine
end

