-- ==== Sys2Proof/Machine/Pins.lean ====
section
/-!
DEFINITION. Sys2Proof/Machine/Pins.lean: the derived clocks (R487), the level of every output group in every state (R492, R501, R502) and the
ball of every signal (R495 to R501).
-/

namespace Sys2Proof.Machine

/-! ### Clocks (R486, R487) -/

/-- The clocks derived from the root PLL (R487). -/
inductive Clock where
  | mem | core | pix | ring | mgmt
  deriving DecidableEq, Repr

/-- The reference in Hz (R486). -/
def refHz : Nat := 25000000

/-- The root clock in Hz: the reference times 256 (R487). -/
def rootHz : Nat := 256 * refHz

/-- By what a derived clock divides the root (R487). -/
def Clock.division : Clock → Nat
  | .mem => 3 | .core => 8 | .pix => 16 | .ring => 16 | .mgmt => 32

/-- A derived clock in Hz, rounded down (R487). -/
def Clock.hz (c : Clock) : Nat := rootHz / c.division

/-- The frequency of a port’s lane PLL in Hz, for each code of RATE: half the bit rate, which RATE 0 has highest (R272, R487). -/
def laneHz (rate : Nat) : Nat := match rate with | 0 => 6400000000 | 1 => 3200000000 | _ => 1600000000

/-! ### The level of every output group (R492, R501, R502) -/

/-- The output groups of R492, and the further outputs of R501: DQ, DQS and DMI; CA, CK and CS; FL_CK; FL_RESET_L; FL_DQ; NTC_REF. -/
inductive PinGroup where
  | hswGate | auxEn0 | auxEn1 | coreEn | ledGates | drvEnA | drvEnB | fltPair | sit | pxo | linkA | linkB
  | dramControl | flashSelect | serviceOut | i2c | pmbus | tdo
  | memData | memCommand | flashClock | flashReset | flashData | ntcRef
  deriving DecidableEq, Repr

/-- What an output group does (R492). `driven` is a push-pull output in use by its function: ring words, blocks, an access, a transaction. -/
inductive PinLevel where
  | undriven | low | high | highImpedance | idle | released | regulated | switching | faultPattern | healthyPattern | pulsing
  | training | driven
  deriving DecidableEq, Repr

/-- The hot-swap gate (R476, R492). -/
def HswState.gate : HswState → PinLevel
  | .gateOff | .tripped => .low
  | .inrush => .regulated
  | .on => .high

/-- A push-pull level. -/
def levelOf (b : Bool) : PinLevel := if b then .high else .low

/-- A wall-link transmitter (R262, R272, R492). -/
def Link.pins (l : Link) : PinLevel :=
  match l.st with
  | .disabled | .quiet | .parked => .idle
  | .detect | .rate | .eq => .training
  | .align | .active | .test => .driven

/-- An output group (R492, R501), a pin of a dropped supply undriven (R502). In OFF the groups that R492 lists follow its column, where R501
has every pin undriven (log entry 88). -/
def State.pin (s : State) (g : PinGroup) : PinLevel :=
  let off := s.eng.st == .off
  let booted := s.running && s.eng.st != .boot
  match g with
  | .hswGate => s.pwr.hsw.gate
  | .auxEn0 => levelOf s.pwr.auxEn0
  | .auxEn1 => levelOf s.pwr.auxEn1
  | .coreEn => levelOf s.pwr.coreEn
  | .ledGates => if s.running && s.led.on then .switching else .low
  | .drvEnA => if off then .undriven else levelOf (!s.saf.drvEnA)
  | .drvEnB => if off then .undriven else levelOf (!s.saf.drvEnB)
  | .fltPair => if off then .undriven else if booted && !s.flt.pairFault then .healthyPattern else .faultPattern
  | .sit => if off then .undriven else if booted && s.saf.params.tpEn then .pulsing else .high
  | .pxo =>
    if off then .undriven
    else if booted || (s.running && s.rings.rings.any fun r => r.found != 0) then .driven else .idle
  | .linkA => if off then .undriven else if booted then (s.link .a).pins else .idle
  | .linkB => if off then .undriven else if booted then (s.link .b).pins else .idle
  | .dramControl => if off then .low else if !s.pwr.auxPg1 then .undriven else if s.running && (booted || s.eng.trained) then .driven else .low
  | .memData => if off || !s.pwr.auxPg1 then .undriven else if s.running && (booted || s.eng.trained) then .driven else .highImpedance
  | .memCommand => if off || !s.pwr.auxPg1 then .undriven else if s.running && (booted || s.eng.trained) then .driven else .low
  | .flashClock => if off || !s.pwr.auxPg0 then .undriven else if s.running then .driven else .low
  | .flashReset => if off || !s.pwr.auxPg0 then .undriven else if s.running then .high else .low
  | .flashData => if off || !s.pwr.auxPg0 then .undriven else if s.running then .driven else .highImpedance
  | .ntcRef => if off then .undriven else .driven
  | .flashSelect => if !s.pwr.auxPg0 then .undriven else if s.running then .driven else .high
  | .serviceOut => if off then .undriven else if s.running && !s.pwr.sealHigh then .driven else .highImpedance
  | .i2c | .pmbus => if s.running then .driven else .released
  | .tdo => if off || !s.pwr.auxPg0 then .undriven else if s.running then .driven else .highImpedance

/-! ### Ball positions (R495 to R501) -/

/-- The rows in order, from A to AV (R496); a row’s index is its place in this list, from 1. -/
def rowNames : List String :=
  ["A", "B", "C", "D", "E", "F", "G", "H", "J", "K", "L", "M", "N", "P", "T", "U", "V", "W", "Y"] ++
  ["AA", "AB", "AC", "AD", "AE", "AF", "AG", "AH", "AJ", "AK", "AL", "AM", "AN", "AP", "AT", "AU", "AV"]

/-- A supply or ground net on balls (R498). -/
inductive Net where
  | gnd | pgnd | vcore | vddl | vddio | vddm | vddq | vhk
  deriving DecidableEq, Repr

/-- What a position of the array holds: no ball, a supply, or a signal (R497, R498). -/
inductive Ball where
  | none
  | supply (n : Net)
  | signal
  deriving DecidableEq, Repr

/-- The high-voltage corner (R497): rows AK to AV (29 to 36), columns 29 to 36. -/
def cornerBall (row col : Nat) : Ball :=
  if (row = 31 || row = 33) && decide (31 ≤ col) then .signal
  else if (row = 35 || row = 36) && decide (33 ≤ col) then .signal
  else .none

/-- The memory balls (R500): rows F to P (6 to 14) and U to AE (16 to 24); row T (15) carries MEM_RESET_L and MEM_ZQ. -/
def memoryBall (row col : Nat) : Ball :=
  if row = 15 then (if col ≤ 34 then .signal else .supply .gnd)
  else
    let k := if row < 15 then row - 6 else row - 16
    if col = 36 && (k = 2 || k = 5) then .supply .gnd else .signal

/-- The low-voltage balls of the power die (R498, R501): rows AK to AP (29 to 33), columns 9 to 28. -/
def powerDieBall (row col : Nat) : Ball :=
  if row = 29 then (if 18 ≤ col && col ≤ 20 then .supply .gnd else .signal)
  else if row = 30 then (if col = 24 then .supply .gnd else .signal)
  else if row ≤ 32 then (if 17 ≤ col then .supply .pgnd else .supply .gnd)
  else if 21 ≤ col then .supply .vhk else .signal

/-- What the ball at a row index and a column carries (R498): the first region that holds the position. -/
def ballAt (row col : Nat) : Ball :=
  if row ≤ 4 then (if 5 ≤ col then .signal else .supply .gnd)
  else if col ≤ 4 then .signal
  else if row = 5 || col = 5 then .supply .gnd
  else if 29 ≤ row && 29 ≤ col then cornerBall row col
  else if row ≤ 24 then
    if 33 ≤ col then memoryBall row col
    else if col = 31 then .supply .vddm
    else if col = 32 then .supply .vddq
    else if row = 6 || col = 6 then .supply .vddl
    else if (row + col) % 2 = 0 then .supply .vcore
    else .supply .gnd
  else if row ≤ 28 then
    if col ≤ 27 then .supply (if row = 25 then .vddio else .gnd)
    else if (row = 25 && col = 36) || (row = 26 && col = 32) || (row = 28 && col = 34) then .supply .gnd
    else .signal
  else if row ≤ 33 then (if col ≤ 8 then .supply .vddl else powerDieBall row col)
  else if row = 34 || col = 28 then .supply .gnd
  else if col = 6 || col = 11 || col = 16 || col = 17 || col = 22 || col = 27 then .supply .gnd
  else .signal

/-- Where a differential pair lies: row index and column of its _P and of its _N ball (R499). -/
structure PairBalls where
  pRow : Nat
  pCol : Nat
  nRow : Nat
  nCol : Nat
  deriving DecidableEq, Repr

/-- PXO pair of ring `k` (R499). -/
def pxoBalls (k : Nat) : PairBalls := if k < 32 then ⟨1, 5 + k, 2, 5 + k⟩ else ⟨k - 27, 1, k - 27, 2⟩

/-- PXI pair of ring `k` (R499). -/
def pxiBalls (k : Nat) : PairBalls := if k < 32 then ⟨3, 5 + k, 4, 5 + k⟩ else ⟨k - 27, 3, k - 27, 4⟩

/-- Transmit pair of lane `n` of a port (R499). -/
def txBalls (p : Port) (n : Nat) : PairBalls := match p with | .a => ⟨35, 7 + n, 36, 7 + n⟩ | .b => ⟨35, 18 + n, 36, 18 + n⟩

/-- Receive pair of lane `n` of a port (R499). -/
def rxBalls (p : Port) (n : Nat) : PairBalls := match p with | .a => ⟨35, 12 + n, 36, 12 + n⟩ | .b => ⟨35, 23 + n, 36, 23 + n⟩

/-- How many of the 36 × 36 positions hold `b` (R495). -/
def ballCount (b : Ball) : Nat :=
  (List.range 36).foldl (fun n r => (List.range 36).foldl (fun n c => if ballAt (r + 1) (c + 1) = b then n + 1 else n) n) 0

end Sys2Proof.Machine
end

