-- ==== Sys2Proof/Tests/Build.lean ====
section
/-!
SUPPORT. Sys2Proof/Tests/Build.lean: small states for tests and witnesses.
-/

namespace Sys2Proof.Machine

/-- Thread 0 is READY at PC 16, where `w` lies; G2 and G3 hold `a` and `b`. -/
def running1 (w a b : Word) : State :=
  { State.reset with
    eng := { st := .lit }
    tum := { threads := { pc := 16, st := .ready, g := 0 :: 0 :: a :: b :: List.replicate 12 0 } :: List.replicate 7 {}, prog := [(16, w)] } }

/-- The logic die runs in a state of the engine state machine. -/
def inState (e : EngState) : State := { State.reset with eng := { st := e } }

/-- SEAL is low: the service port takes commands. -/
def unsealed (s : State) : State := { s with pwr := { s.pwr with sealHigh := false } }

/-- Both wall-link ports are ACTIVE, the engine is in JOIN. -/
def linked : State := { State.reset with eng := { st := .join }, linkA := { st := .active }, linkB := { st := .active } }

/-- A frame to every tile, of a type, with a payload. -/
def frameTo (typ : Nat) (payload : List Byte) : Frame := { hdr := BitVec.ofNat 128 (0xFFF + typ * 2 ^ 24), payload := payload }

/-- A command on the service port. -/
def svcQ (args : List Byte) : CmdReq :=
  { port := .service, dest := 0, src := 0, flags := 0, cmdId := 1, argLen := BitVec.ofNat 16 args.length, zero := 0, session := 0, args := args }

/-- The service port is open in a state of the engine. -/
def svcIn (e : EngState) : State := unsealed (inState e)

/-- A safety PDU of connection `conn` with its CRC. -/
def pduOf (conn kind : Nat) (data : List Byte) : List Byte :=
  let l := leBytes 4 conn ++ [1, 0] ++ leBytes 1 kind ++ [1, 0, 0, 0, 0, 9, 0, 1, 0] ++ data ++ List.replicate (12 - data.length) 0
  l ++ leBytes 4 (crcSafety l)

/-- The black channel is enabled, its master is connection 5, and both input functions are SLO. -/
def onChannel (e : EngState) : State :=
  { State.reset with
    eng := { st := e }
    linkA := { st := .active }
    linkB := { st := .active }
    saf := { straps := 0x10, params := { masterConn := 5, ownConn := 6 }, drvEnA := true, drvEnB := true, vledDis := false, sloOut := false } }

/-- A TIME payload of a kind, all else zero. -/
def timeOf (kind : Byte) : List Byte := kind :: List.replicate 39 0

/-- A state in which session 1 is open. -/
def inSession (s : State) : State := { s with ward := { session := some { no := 1, secret := 0, entries := [] } } }

/-- The complement of a byte. -/
def spoilt (b : Byte) : Byte := ~~~b

/-- A frame with the tag of R352 at an offset of its payload, or, when not `good`, with that tag complemented. -/
def sealed (good : Bool) (key : BitVec 256) (no domain off : Nat) (f : Frame) : Frame :=
  let b := blank8 f.payload off
  let t := tagBytes key domain (hDest f.hdr) (hSrc f.hdr) (hType f.hdr) (hSeq f.hdr) no b
  { f with payload := f.payload.take off ++ (if good then t else t.map spoilt) ++ f.payload.drop (off + 8) }

/-- A frame sealed in session 1. -/
def sealedCmd (domain off : Nat) (f : Frame) : Frame :=
  sealed true ({ no := 1, secret := 0, entries := [] } : Session).kCmd 1 domain off f

/-- A frame sealed under K_ann of the wall in `linked`, or not. -/
def sealedAnn (good : Bool) (domain off : Nat) (f : Frame) : Frame := sealed good linked.ward.kAnn 0 domain off f

theorem tagBytes_length (key : BitVec 256) (domain dest src typ ext no : Nat) (l : List Byte) :
    (tagBytes key domain dest src typ ext no l).length = 8 := by
  simp [tagBytes, bytes256, beBytes]

theorem slice_mid (a b c : List Byte) (n : Nat) (h : b.length = n) : slice (a ++ b ++ c) a.length n = b := by
  subst h
  apply List.ext_getElem
  · simp [slice]
  · intro i h1 h2
    simp only [slice, List.getElem_map, List.getElem_range]
    rw [List.getD_eq_getElem?_getD, List.append_assoc, List.getElem?_append_right (by omega), Nat.add_sub_cancel_left,
      List.getElem?_append_left h2, List.getElem?_eq_getElem h2]
    rfl

/-- A frame sealed well verifies; one sealed otherwise does not. -/
theorem tagMatches_sealed (good : Bool) (key : BitVec 256) (no domain off : Nat) (f : Frame) (h : off + 8 ≤ f.payload.length) :
    tagMatches key no domain (sealed good key no domain off f) off = good := by
  have hb : ∀ t : List Byte, t.length = 8 → blank8 (f.payload.take off ++ t ++ f.payload.drop (off + 8)) off = blank8 f.payload off := by
    intro t ht
    have h1 : (f.payload.take off).length = off := by rw [List.length_take]; omega
    have h2 : (f.payload.take off ++ t ++ f.payload.drop (off + 8)).take off = f.payload.take off := by
      rw [List.append_assoc, List.take_append_of_le_length (by omega), List.take_of_length_le (by omega)]
    have h3 : (f.payload.take off ++ t ++ f.payload.drop (off + 8)).drop (off + 8) = f.payload.drop (off + 8) := by
      have hl : (f.payload.take off ++ t).length = off + 8 := by rw [List.length_append]; omega
      rw [List.drop_append, hl, Nat.sub_self, List.drop_of_length_le (by omega)]
      rfl
    simp only [blank8, h2, h3]
  have hlen : ∀ t : List Byte, t.length = 8 → (f.payload.take off).length = off ∧
      off + 8 ≤ (f.payload.take off ++ t ++ f.payload.drop (off + 8)).length := by
    intro t ht
    refine ⟨by rw [List.length_take]; omega, ?_⟩
    simp only [List.length_append, List.length_take, ht]; omega
  have hne : ∀ l : List Byte, l.length = 8 → (l.map spoilt) ≠ l := by
    intro l hl e
    match l, hl with
    | x :: _, _ =>
      have h0 := congrArg (fun l : List Byte => l.head?) e
      simp only [List.map_cons, List.head?_cons, Option.some.injEq] at h0
      exact absurd h0 (by clear hl e h0; rename_i hl; clear hl; revert x; decide)
  unfold sealed
  generalize ht : tagBytes key domain (hDest f.hdr) (hSrc f.hdr) (hType f.hdr) (hSeq f.hdr) no (blank8 f.payload off) = t
  have h8 : t.length = 8 := by rw [← ht]; exact tagBytes_length ..
  have hm : (t.map spoilt).length = 8 := by rw [List.length_map]; exact h8
  cases good
  · obtain ⟨ho, hl⟩ := hlen (t.map spoilt) hm
    have hs := slice_mid (f.payload.take off) (t.map spoilt) (f.payload.drop (off + 8)) 8 hm
    rw [ho] at hs
    simp only [tagMatches, Bool.false_eq_true, if_false, hs, hb _ hm, ht, hl, decide_true, Bool.true_and]
    exact beq_false_of_ne (hne t h8)
  · obtain ⟨ho, hl⟩ := hlen t h8
    have hs := slice_mid (f.payload.take off) t (f.payload.drop (off + 8)) 8 h8
    rw [ho] at hs
    simp only [tagMatches, if_true, hs, hb _ h8, ht, hl, decide_true, Bool.true_and, beq_self_eq_true]

/-- Frames sealed in session 1 verify while it is open. -/
theorem cmdTagOk_sealed (s : State) (domain off : Nat) (f : Frame) (hs : s.sessions = [{ no := 1, secret := 0, entries := [] }])
    (h : off + 8 ≤ f.payload.length) : s.cmdTagOk domain (sealedCmd domain off f) off = true := by
  simp only [State.cmdTagOk, hs, List.any_cons, List.any_nil, Bool.or_false]
  exact tagMatches_sealed true _ 1 domain off f h

/-- Frames sealed under K_ann of the wall in `linked` verify where it is the same, those sealed otherwise do not. -/
theorem annTagOk_sealed (s : State) (good : Bool) (domain off : Nat) (f : Frame) (hs : s.ward.kAnn = linked.ward.kAnn)
    (h : off + 8 ≤ f.payload.length) : s.annTagOk domain (sealedAnn good domain off f) off = good := by
  simp only [State.annTagOk, hs]
  exact tagMatches_sealed good _ 0 domain off f h

/-- A key slot in GMAC mode and a STREAM frame of four data bytes that verifies under it. -/
def sampleKey : KeySlot := { key := 0, gmac := true, gen := 0 }

@[inherit_doc sampleKey]
def sampleStream : Frame :=
  frameTo 1 (List.replicate 16 0 ++ [1, 2, 3, 4] ++ beBytes 16 5534200000599284830616720623592703464)

set_option Elab.async false in
set_option maxRecDepth 100000 in
theorem streamOpen_sample : streamOpen sampleKey sampleStream = some [1, 2, 3, 4] := by decide +kernel

/-- A plane in SRAM beside its CRC is good. -/
theorem sramGood_of (u : RingUnit) (h : u.sramOk = true) (hc : u.sramCrc = BitVec.ofNat 32 (crc32 u.sramBytes)) : u.sramGood = true := by
  unfold RingUnit.sramGood
  rw [h, hc, toNat_crc32, beq_self_eq_true]
  rfl

/-- A program image of one code word that passes the program check: GENERATION 7, thread 0 starts at word 16. -/
def sampleProg : Sparse Word :=
  [(0, 0x544D424C), (1, 1), (2, 0xFFFF0010), (3, 0xFFFFFFFF), (4, 0xFFFFFFFF), (5, 0xFFFFFFFF), (6, 7), (15, 0xA933B3FA)]

end Sys2Proof.Machine
end

