-- ==== Sys2Proof/Tests/Keys.lean ====
section
/-!
SUPPORT. Sys2Proof/Tests/Keys.lean: commands and states with tags and signatures that verify, for the witnesses of Ward’s commands.
-/

namespace Sys2Proof.Machine

set_option Elab.async false

/-- A ciphertext opens under the tag that its key gives it: the round keys, the hash key and the first counter block written out. -/
theorem gcmOpen_isSome {key : BitVec 256} {iv aad ct tag : List Byte} {keys : List (List Byte)} {h c : List Byte} (hk : aesKeys key = keys)
    (hh : aesBlock keys (List.replicate 16 0) = h) (hc : aesBlock keys (iv ++ beBytes 4 1) = c)
    (ht : tag = List.zipWith (· ^^^ ·)
      (beBytes 16 (ghash (BitVec.ofNat 128 (ofBe h)) (gcmPad aad ++ gcmPad ct ++ beBytes 8 (8 * aad.length) ++ beBytes 8 (8 * ct.length))).toNat) c) :
    (gcmOpen key iv aad ct tag).isSome = true := by
  simp only [gcmOpen, hk, hh, hc, ← ht, beq_self_eq_true, ↓reduceIte, Option.isSome_some]

/-- Where one tag opens a ciphertext, no other does. -/
theorem gcmOpen_other {key : BitVec 256} {iv aad ct tag : List Byte} (h : (gcmOpen key iv aad ct tag).isSome = true) {tag' : List Byte}
    (ht : tag' ≠ tag) : gcmOpen key iv aad ct tag' = none := by
  simp only [gcmOpen, beq_iff_eq, Option.isSome_ite, ite_eq_right_iff] at h ⊢
  intro e
  exact absurd (e.trans h.symm) ht

set_option maxRecDepth 100000

/-- K_swrap of a zero K_wall (R350), and its round keys. -/
def sampleKSwrap : BitVec 256 := 40254352070771983730416288736060068816618069714612505798931192634243328457360

@[inherit_doc sampleKSwrap]
def sampleKeys1 : List (List Byte) :=
  ([118296908638009794656418785643751521220, 218190885051452680439488195004697361040, 278469513286126048363580960494511501750]
      ++ [171147221398966955382810535683828954807, 1967526220128266329536910304068004970, 109586376104665508326145595472123562548]
      ++ [196751519915215438502439032779926638841, 48776150560757695517907633966840903671, 163420382967243379434033688940229350358]
      ++ [241315060587696572286348202983369301094, 339927616578150279430469123872560677424, 196261115733110887822955332906477823411]
      ++ [297107125138563283232128991384953880869, 123000161347409787329514123200576026123, 187124776676958723682546694836063157000]).map (beBytes 16)

theorem kSwrap_zero : (svcIn .dark).ward.kSwrap = sampleKSwrap := by decide +kernel

/-- K_kwrap of a session with a zero secret (R356), and its round keys. -/
def sampleKKwrap : BitVec 256 := 12894545970956063484722216570006689195754693942848892413131615789191953034244

@[inherit_doc sampleKKwrap]
def sampleKeys2 : List (List Byte) :=
  ([37893664863192851993445126399655608228, 256576271705149989876998774228555574276, 58589862970109333899052128311560660905]
      ++ [95498327087657933656277323016668769150, 194036384360560249996875595558391909881, 50160682398187747187310246769064705124]
      ++ [320231329067944781998457812746447149686, 90360562129795460745599354668964443315, 50952699638254300995190100867514470954]
      ++ [106647187047736047810733708708775191521, 310067626295749414162398807015998463968, 60346733185289348587927210802029342879]
      ++ [34892260943762162399651961255483725556, 95219850417253491627714294892069423835, 306048094210108156738494808863759819572]).map (beBytes 16)

theorem kKwrap_zero : Session.kKwrap { no := 1, secret := 0, entries := [] } = sampleKKwrap := by decide +kernel

/-- The arguments of SESSION_OPEN 1 whose wrapped secret opens under that K_swrap. -/
def sampleOpen : List Byte := [1, 0, 0, 0] ++ List.replicate 48 0 ++ beBytes 16 174449645812794706957980739220188035764

theorem gcmOpen_sample :
    (gcmOpen (svcIn .dark).ward.kSwrap (slice (svcQ sampleOpen).args 8 12) (slice (svcQ sampleOpen).args 0 8) (slice (svcQ sampleOpen).args 20 32)
      (slice (svcQ sampleOpen).args 52 16)).isSome = true := by
  rw [kSwrap_zero]
  exact gcmOpen_isSome (keys := sampleKeys1) (h := beBytes 16 135727001280119049118567302431582553148) (c := beBytes 16 186490830808193366497613664777740322186)
    (by decide +kernel) (by decide +kernel) (by decide +kernel) (by decide +kernel)

theorem gcmOpen_wrong :
    gcmOpen (svcIn .dark).ward.kSwrap (slice (svcQ (sampleOpen.set 67 0)).args 8 12) (slice (svcQ (sampleOpen.set 67 0)).args 0 8)
      (slice (svcQ (sampleOpen.set 67 0)).args 20 32) (slice (svcQ (sampleOpen.set 67 0)).args 52 16) = none := by
  rw [show slice (svcQ (sampleOpen.set 67 0)).args 8 12 = slice (svcQ sampleOpen).args 8 12 by decide +kernel,
    show slice (svcQ (sampleOpen.set 67 0)).args 0 8 = slice (svcQ sampleOpen).args 0 8 by decide +kernel,
    show slice (svcQ (sampleOpen.set 67 0)).args 20 32 = slice (svcQ sampleOpen).args 20 32 by decide +kernel]
  exact gcmOpen_other gcmOpen_sample (by decide +kernel)

/-- The public key of the private key 1: the generator of P-384. -/
def samplePub : List Byte :=
  beBytes 96 1034185839481682719866415711672643620493012746459739913350434332196071816455295853885883906658640919608724392493385519105874685464586822693366883678023336623826766272809654714320279193352895428318644929519654808801812273222673632863

/-- An owned engine in SERVICE whose owner’s private key is 1, with a challenge that stands. -/
def sampleOwned : State := { svcIn .service with ward := { owned := true, engineId := 0, ownerPub := samplePub, challenge := some 5 } }

/-- A release, signed by that owner (R347). -/
def sampleRelease : List Byte :=
  3 :: List.replicate 383 0
    ++ beBytes 96 1034185839481682719866415711672643620493012746459739913350434332196071816455295853885883906658640919608724392493385546307200068519241584642663888152868961898386195488972178787381595624491763071395478589738202458569208729776008301742

theorem sha384_release : sha384 (slice (svcQ sampleRelease).args 0 0x180)
    = beBytes 48 9280001248743995478872891549427971912709488986968264730966651317986123212789445969076474254066994942883767369564663 := by
  decide +kernel

theorem ecdsaOk_release :
    ecdsaOk sampleOwned.ward.ownerPub (slice (svcQ sampleRelease).args 0 0x180) (slice (svcQ sampleRelease).args 0x180 96) = true := by
  unfold ecdsaOk
  rw [sha384_release]
  decide +kernel

theorem enrollCheck_sample : sampleOwned.enrollCheck (svcQ sampleRelease).args = 0 := by
  have h := ecdsaOk_release
  simp only [State.enrollCheck]
  rw [show slice (svcQ sampleRelease).args 0 (0x180 : Nat) = slice (svcQ sampleRelease).args 0 0x180 from rfl, h]
  decide +kernel

/-- The answer to the challenge, signed by that owner (R365). -/
def sampleUnlock : List Byte :=
  [1, 0, 0, 0] ++ bytes256 5
    ++ beBytes 96 1034185839481682719866415711672643620493012746459739913350434332196071816455295853885883906658640919608724392493385539811249048844153750395918164138540994267267889131452216444198020567475725504049666301875372070045130609224217304075

theorem sha384_unlock :
    sha384 (ascii "OVX-DEBUG" ++ idBytes sampleOwned.ward.engineId ++ slice (svcQ sampleUnlock).args 4 32 ++ leBytes 2 sampleOwned.ward.enrollCount)
      = beBytes 48 2784050229068907644626145825413643945078370680610744768623467742929107175222100156788611423678470864763215578566996 := by
  decide +kernel

theorem unlockSigned_sample : sampleOwned.unlockSigned (svcQ sampleUnlock).args = true := by
  unfold State.unlockSigned ecdsaOk
  rw [sha384_unlock]
  decide +kernel

theorem unlockSigned_ended : { sampleOwned with ward := { sampleOwned.ward with challenge := none } }.unlockSigned (svcQ sampleUnlock).args = true := by
  have h := unlockSigned_sample
  unfold State.unlockSigned at h ⊢
  exact h

/-- A session with a zero secret, and a wrapped key for slot 5 that opens under it (R356). -/
def sampleKeyed : State :=
  { linked with
    ward := { session := some { no := 1, secret := 0, entries := [] }
              blob := List.replicate 11 0 ++ [1199982699, 722170204, 581698226, 2910583434] } }

/-- With one session, a wrapped key opens where it opens under that session. -/
theorem openBlob_of {s : State} {x : Session} {slot mode : Nat} (hs : s.sessions = [x])
    (h : (gcmOpen x.kKwrap (slice (bytesOf s.ward.blob) 0 12)
      (leBytes 4 x.no.toNat ++ leBytes 1 slot ++ leBytes 1 mode ++ leBytes 4 s.ward.keyGen.toNat)
      (slice (bytesOf s.ward.blob) 12 32) (slice (bytesOf s.ward.blob) 44 16)).isSome = true) : (s.openBlob slot mode).isSome = true := by
  obtain ⟨l, e⟩ := Option.isSome_iff_exists.mp h
  simp only [State.openBlob, hs, List.findSome?, e, Option.isSome_some]

theorem openBlob_sample : (sampleKeyed.openBlob 5 0).isSome = true :=
  openBlob_of (x := { no := 1, secret := 0, entries := [] }) (by decide)
    (gcmOpen_isSome (keys := sampleKeys2) (h := beBytes 16 39854046942272749275138263681684464295) (c := beBytes 16 203304073839916680737734729338325354085)
      ((congrArg aesKeys kKwrap_zero).trans (by decide +kernel)) (by decide +kernel) (by decide +kernel) (by decide +kernel))

theorem keyLoadCode_sample : sampleKeyed.keyLoadCode 5 = 0 := by
  simp only [State.keyLoadCode, show fld (5 : Word) 7 0 = 5 by decide, show fld (5 : Word) 8 8 = 0 by decide, openBlob_sample]
  decide +kernel

end Sys2Proof.Machine
end

