-- ==== Sys2Proof/Tests/Slice0.lean ====
section
/-!
SUPPORT. Sys2Proof/Tests/Slice0.lean: small tests. Every expected value is one that the spec prints, its check values, the figures of its
worked examples and its ball tables, or, for the cryptographic functions, a test vector of the standard that the spec names. First the commands that the well-formedness checks refuse, one for each check.
-/

namespace Sys2Proof.Machine

open Sys2Proof

/-! ### Well-formedness -/

/-- 9,201 argument bytes (R243). -/
theorem test_wf_long_command : (Instr.ping { svcQ [] with args := List.replicate 9201 0 }).wf = false := by decide +kernel

/-- A payload shorter than the LEN of its header (R290, R291). -/
theorem test_wf_frame_length : (Instr.announce .a { hdr := BitVec.ofNat 128 (2 ^ 96), payload := [] }).wf = false := by decide

/-- A payload of 9,217 bytes (R290). -/
theorem test_wf_trailer_length : (Instr.frameTrailer .a (List.replicate 9217 0) 0).wf = false := by decide +kernel

/-- Eleven logic-die sensors (R433). -/
theorem test_wf_sensors : (Instr.thermalEvaluation { sensors := List.replicate 11 0, pdie := 0, ntc := List.replicate 8 0 }).wf = false := by
  decide

/-- Seven NTCs (R435). -/
theorem test_wf_ntc : (Instr.thermalEvaluation { sensors := List.replicate 12 0, pdie := 0, ntc := List.replicate 7 0 }).wf = false := by
  decide

/-- A cell that returns two slots (R135). -/
theorem test_wf_slots : slotsWf [{ cell := 3, words := [] }, { cell := 3, words := [] }] = false := by decide

/-- Five lanes in EQ (R280). -/
theorem test_wf_eq_lanes : eqObsWf (List.replicate 5 { eye := 0, ctle := 0, dfe := [0, 0, 0, 0, 0] }) = false := by
  decide

/-- Four DFE taps (R280). -/
theorem test_wf_eq_taps : eqObsWf [{ eye := 0, ctle := 0, dfe := [0, 0, 0, 0] }] = false := by decide

/-- A stream-context word named twice (R311). -/
theorem test_wf_context_words : (Instr.streamContextWrite .portA 0 [(1, 0), (1, 5)]).wf = false := by decide

/-- A burst that fails twice in one band (R98). -/
theorem test_wf_band : (Instr.bandComplete { badBursts := [4, 4], badZones := [] }).wf = false := by decide

/-- 63 rings brought up (R142). -/
theorem test_wf_rings :
    (Instr.bootComplete 0 (List.replicate 63 { found := 0, answered := true, aLast := none, bFirst := none, rtA := 0, rtB := 0, slots := [] })).wf = false := by
  decide

/-- A ledger burst that fails its ECC twice in one pass, in the plan pass of a store, in the copy of a store, and in a rewrite. -/
theorem test_wf_ledger_found : (Instr.ledgerPassComplete { found := [7, 7] }).wf = false := by decide
theorem test_wf_ledger_later : (Instr.ledgerPassComplete { later := [7, 7] }).wf = false := by decide

/-- The eyes of five byte lanes (R204). -/
theorem test_wf_mem_eyes : (Instr.memEyeCheck (List.replicate 5 0)).wf = false := by decide

/-- Seven path-delay replicas (R202). -/
theorem test_wf_replicas : (Instr.avsEvaluation (List.replicate 7 0) false).wf = false := by decide

/-- Five lanes of a port. -/
theorem test_wf_margins : (Instr.laneMarginCheck (List.replicate 5 0) []).wf = false := by decide

/-- Five skews. -/
theorem test_wf_skews : (Instr.alignDone .a (List.replicate 5 0)).wf = false := by decide

/-- Five eyes. -/
theorem test_wf_eyes : (Instr.eyeMeasureComplete .a (List.replicate 5 0)).wf = false := by decide

/-- A SAFETY payload longer than a frame carries. -/
theorem test_wf_pdu : (Instr.demand .a (List.replicate 9217 0)).wf = false := by decide +kernel

/-- Five trims, where the six blocks have ten (R446). -/
theorem test_wf_trims : (Instr.selfTrimComplete (List.replicate 5 (0, false))).wf = false := by decide

/-- 1,025 cells answer an enumeration (R117). -/
theorem test_wf_reenum : (Instr.cellReenum 0 (List.replicate 1025 0) 0).wf = false := by decide +kernel

/-! ### The check values (R137, R140, R425) -/

/-- "123456789". -/
def nine : List Byte := [0x31, 0x32, 0x33, 0x34, 0x35, 0x36, 0x37, 0x38, 0x39]

theorem test_crc32 : crc32 nine = 0xCBF43926 := by decide +kernel
theorem test_crc32c : crc32c nine = 0xE3069283 := by decide +kernel
theorem test_crc16 : crc16 nine = 0x29B1 := by decide +kernel
theorem test_crc8 : crc8 nine = 0x4B := by decide +kernel
theorem test_crc64 : (nine.foldl (fun c b => crc64Byte c b.toNat) 0xFFFFFFFFFFFFFFFF) ^^^ 0xFFFFFFFFFFFFFFFF = 0x995DC9BBDF1939FA := by decide +kernel

/-! ### The standards of R342 and R343: SHA-256 and SHA-384 of "abc" (FIPS 180-4), one block of AES-256 (FIPS 197) -/

theorem test_sha256 : sha256 [0x61, 0x62, 0x63] = 0xba7816bf8f01cfea414140de5dae2223b00361a396177a9cb410ff61f20015ad := by decide +kernel

theorem test_sha384 : ofBe (sha384 [0x61, 0x62, 0x63]) =
    0xcb00753f45a35e8bb5a03d699ac65007272c32ab0eded1631a8b605a43ff5bed8086072ba1e7cc2358baeca134c825a7 := by decide +kernel

theorem test_aes : ofBe (aesBlock (aesKeys (key256 (beBytes 32 0x000102030405060708090a0b0c0d0e0f101112131415161718191a1b1c1d1e1f)))
    (beBytes 16 0x00112233445566778899aabbccddeeff)) = 0x8ea2b7ca516745bfeafc49904b496089 := by decide +kernel

/-! ### The package (R495, R498, R499) -/

theorem test_balls : [Ball.signal, .none].map ballCount = [459, 44] ∧
    [Net.gnd, .pgnd, .vcore, .vddl, .vddio, .vddm, .vddq, .vhk].map (fun n => ballCount (.supply n)) = [427, 24, 216, 58, 22, 19, 19, 8] := by
  decide +kernel

theorem test_ring_balls : pxoBalls 40 = ⟨13, 1, 13, 2⟩ ∧ pxiBalls 40 = ⟨13, 3, 13, 4⟩ := by decide

/-! ### One pixel of a night sign (the worked example before R116) -/

theorem test_signal : [c12From8 230, c12From8 180, c12From8 40] = [3694, 2891, 642] := by decide
theorem test_linear_red : srgbEntry 3694 4095 = 829974 := by decide +kernel
theorem test_linear_blue : srgbEntry 642 4095 = 22228 := by decide +kernel
theorem test_envelope : envelope [13933, 46871, 4732] 0x2000 [829974, 478733, 22228] = ([209025, 120567, 5598], true) := by decide

/-- The example’s working record: the nine coefficients, then the deltas 3, 0 and −2. -/
def exampleRec : BitVec 128 :=
  BitVec.ofNat 128 ([1890, 22, 0, 35, 1702, 61, 0, 14, 1975].foldr (fun w a => a * 4096 + w) 0 + 3 * 2 ^ 108 + 62 * 2 ^ 120)

theorem test_drives : drives exampleRec [0x7400, 0x7200, 0x7600] [209025, 120567, 5598] = ([177020, 92569, 5715], false) := by decide
theorem test_bayer : bayer 4 12 = 7 := by decide
theorem test_codes : [177020, 92569, 5715].map (fun d => toCode d 4 12 12 2 0) = [0x2B32, 0x1691, 0x0160] := by decide
theorem test_pixel_place : zoneOf 612 300 = 307 ∧ cellOf 612 300 = (20, 358, 0) ∧ codeAt 612 300 = 0x1E8640 := by decide

/-! ### Budgets, derating and ageing (the examples of R66, R173 and R201) -/

theorem test_budget : [limitMbps 60 1, limitMbps 240 1, limitPx 60 1 200] = [11155, 5021, 12864] := by decide
theorem test_cost : mbpsUp ((8522752 + 6291456 / 2) * 360360) 60 1 = 701 := by decide
theorem test_derate : [derateTarget (16 * 65) (16 * 55), derateTarget (16 * 85) (16 * 55), 191 * 24 / 32, 191 * 8 / 32] = [24, 8, 143, 47] := by
  decide
theorem test_dose : doseInc 49152 150 13004 133333 = 16340 := by decide

/-- The example’s model of the red emitters. -/
def exampleKnots : List (Nat × Nat) := [(0, 32768), (20000, 30802), (50000, 27853), (100000, 22938)]

theorem test_eta : [31200, 12000].map (fun h => eta exampleKnots (h * 235929600)) = [29701, 31588] := by decide
theorem test_reserve : resOf 29701 27853 = 0x7809 := by decide

/-! ### Single steps -/

/-- Whether a command answers a next state of which `p` holds. -/
def nextIs (c : Instr) (s : State) (p : State → Bool) : Bool := match exec c s with | .next u => p u | _ => false

/-- A result written to G0 is discarded (R222). -/
theorem test_g0 : nextIs (.add 0 0 2 3) (running1 (encR 0x00 0 2 3) 7 3) (fun u => (u.thread 0).reg 0 == 0 && (u.thread 0).pc == 17) = true := by
  decide

/-- DIVU by zero gives 0xFFFF_FFFF (R224). -/
theorem test_divu_zero : nextIs (.divu 0 1 2 3) (running1 (encR 0x0A 1 2 3) 7 0) (fun u => (u.thread 0).reg 1 == 0xFFFFFFFF) = true := by decide

/-- A misaligned load halts the thread with cause DMEM (R225). -/
theorem test_ld_misaligned : nextIs (.ld 0 1 2 0) (running1 (encI 0x19 1 2 0) 2 0)
    (fun u => (u.thread 0).st == .halted && (u.thread 0).cause == 3 && (u.thread 0).reg 1 == 0) = true := by decide

/-- LIGHT_ON in SAFE is refused (R24): the state and the drive enables stay. -/
theorem test_light_on_safe : nextIs (.lightOn (svcQ [])) { svcIn .safe with saf := { inA := some .slo } }
    (fun u => u.eng.st == .safe && u.cmd.lastStatus == 0x05) = true := by
  decide

/-- A demand for SLO in LIT: SAFE, no light (R378, R379). -/
theorem test_safe_req : nextIs (.safeReq (svcQ [2, 0, 0, 0])) (svcIn .lit)
    (fun u => u.eng.st == .safe && !u.saf.drvEnA && !u.saf.drvEnB && u.saf.vledDis) = true := by decide

/-- A trip while the logic die runs resets it with cause SUPPLY (R477, R489). -/
theorem test_trip : nextIs .breakerTrip { inState .lit with pwr := { hsw := .on, present := true } }
    (fun u => u.eng.st == .standby && u.pwr.cause == .supply && u.pwr.hsw == .tripped) = true := by decide

end Sys2Proof.Machine
end

