-- ==== Sys2Proof/Tests/Witness.lean ====
section
/-!
SUPPORT. Sys2Proof/Tests/Witness.lean: for each statement with hypotheses, states and operands that meet them.
-/

open Sys2Proof Sys2Proof.Machine

set_option maxRecDepth 100000 in
set_option linter.unusedVariables false in
theorem witness_PowerEntryCompletes :
  ((fun (s : State) => (s.Calm) ∧ (s.eng.st = .off)) ({ State.reset with eng := { st := .off } })) ∧
  ((fun (s : State) => (s.Calm) ∧ (s.eng.st ≠ .off)) (State.reset)) ∧
  ((fun (s : State) => (s.Calm) ∧ (s.pwr.hsw = .gateOff) ∧ (s.pwr.cooldownOver = true) ∧ (s.eng.st ≠ .off) ∧ (s.pwr.departing = false)) ({ State.reset with eng := { st := .standby }, pwr := { hsw := .gateOff } })) ∧
  ((fun (s : State) (ms : BitVec 16) => (s.Calm) ∧ (s.pwr.hsw = .inrush) ∧ (s.pwr.holdInrush = false)) ({ State.reset with eng := { st := .standby }, pwr := { hsw := .inrush, auxEn0 := false } }) (40)) ∧
  ((fun (s : State) => (s.Calm) ∧ (s.pwr.hsw = .inrush) ∧ (s.pwr.holdInrush = false)) ({ State.reset with eng := { st := .standby }, pwr := { hsw := .inrush } })) ∧
  ((fun (s : State) => (s.Calm) ∧ (s.pwr.hsw = .on) ∧ (s.running = true)) (State.reset)) ∧
  ((fun (s : State) => (s.Calm) ∧ (s.pwr.hsw = .on) ∧ (s.running = false)) (inState .standby)) ∧
  ((fun (s : State) => (s.Calm) ∧ (s.pwr.hsw = .on) ∧ (s.running = true)) (State.reset)) ∧
  ((fun (s : State) => (s.Calm) ∧ (s.pwr.hsw = .on) ∧ (s.running = false)) (inState .standby)) ∧
  ((fun (s : State) => (s.Calm) ∧ (s.running = true)) (State.reset)) ∧
  ((fun (s : State) => (s.Calm) ∧ (s.eng.st = .standby)) (inState .standby)) ∧
  ((fun (s : State) => (s.Calm) ∧ (s.pwr.cooldownOver = false)) ({ State.reset with eng := { st := .standby }, pwr := { hsw := .tripped, cooldownOver := false } })) ∧
  ((fun (s : State) => (s.Calm) ∧ (s.running = true) ∧ (s.hasCond 0xE1 0 = false) ∧ (s.eng.leaving = false)) (State.reset)) := by
  refine ⟨?_, ?_, ?_, ?_, ?_, ?_, ?_, ?_, ?_, ?_, ?_, ?_, ?_⟩ <;> decide

set_option maxRecDepth 100000 in
set_option linter.unusedVariables false in
theorem witness_SupplySequenceCompletes :
  ((fun (s : State) => (s.Calm) ∧ (s.pwr.auxEn0 = true) ∧ (s.pwr.auxPg0 = false)) ({ State.reset with eng := { st := .standby }, pwr := { auxPg0 := false } })) ∧
  ((fun (s : State) => (s.Calm) ∧ (s.pwr.auxEn1 = true) ∧ (s.pwr.auxPg1 = false)) ({ State.reset with eng := { st := .standby }, pwr := { auxPg1 := false } })) ∧
  ((fun (s : State) => (s.Calm) ∧ (s.pwr.coreEn = true) ∧ (s.pwr.corePg = false)) ({ State.reset with eng := { st := .standby }, pwr := { corePg := false } })) ∧
  ((fun (s : State) => (s.Calm) ∧ (s.eng.st = .standby) ∧ (s.pwr.sequenced = false) ∧ ((s.pwr.auxEn0 && !s.pwr.auxPg0 || s.pwr.auxEn1 && !s.pwr.auxPg1 || s.pwr.coreEn && !s.pwr.corePg) = true)) ({ State.reset with eng := { st := .standby }, pwr := { corePg := false, sequenced := false } })) ∧
  ((fun (s : State) => (s.Calm) ∧ (s.pwr.seqFailed = true) ∧ (s.pwr.hsw = .on)) ({ State.reset with eng := { st := .standby }, pwr := { seqFailed := true, auxEn0 := false } })) ∧
  ((fun (s : State) => (s.Calm) ∧ (s.pwr.shutdownPending = true) ∧ (s.eng.st = .standby)) ({ State.reset with eng := { st := .standby }, pwr := { shutdownPending := true, hsw := .gateOff } })) ∧
  ((fun (s : State) => (s.Calm) ∧ (s.running = true)) (State.reset)) ∧
  ((fun (s : State) => (s.Calm) ∧ (s.running = true) ∧ (s.hasCond 0xE4 0 = false) ∧ (s.eng.leaving = false)) (State.reset)) ∧
  ((fun (s : State) => (s.Calm) ∧ (s.running = true)) (State.reset)) ∧
  ((fun (s : State) => (s.Calm) ∧ (s.running = true) ∧ (s.hasCond 0xE3 0 = false) ∧ (s.eng.leaving = false)) (State.reset)) ∧
  ((fun (s : State) => (s.Calm) ∧ (s.running = true) ∧ (s.hasCond 0x01 0 = false) ∧ (s.eng.leaving = false)) (State.reset)) ∧
  ((fun (s : State) => (s.Calm) ∧ (s.running = true) ∧ (s.hasCond 0x00 0 = false) ∧ (s.eng.leaving = false)) (State.reset)) ∧
  ((fun (s : State) => (s.Calm) ∧ (s.eng.st = .standby) ∧ (s.pwr.clockFault = true)) ({ inState .standby with pwr := { clockFault := true } })) ∧
  ((fun (s : State) => (s.Calm) ∧ (s.running = true) ∧ (s.pwr.clockFault = true)) ({ State.reset with pwr := { clockFault := true } })) ∧
  ((fun (s : State) => (s.Calm) ∧ (s.pwr.holdClock = true)) ({ State.reset with eng := { st := .standby }, pwr := { holdClock := true } })) ∧
  ((fun (s : State) => (s.Calm) ∧ (s.running = true)) (State.reset)) ∧
  ((fun (s : State) => (s.Calm) ∧ (s.eng.st = .standby)) (inState .standby)) ∧
  ((fun (s : State) => (s.Calm) ∧ (s.pwr.holdPin = true)) ({ State.reset with eng := { st := .standby }, pwr := { holdPin := true } })) ∧
  ((fun (s : State) => (s.Calm) ∧ (s.running = true)) (State.reset)) ∧
  ((fun (s : State) => (s.Calm) ∧ (s.running = true) ∧ (s.ward.jtagOpen = true)) ({ State.reset with ward := { jtagOpen := true } })) ∧
  ((fun (s : State) => (s.Calm) ∧ (s.pwr.present = true) ∧ (s.running = true)) (State.reset)) ∧
  ((fun (s : State) => (s.Calm) ∧ (s.pwr.present = true) ∧ (s.eng.st = .standby)) (inState .standby)) ∧
  ((fun (s : State) (p : Port) => (s.Calm) ∧ (s.pwr.departing = true) ∧ ((s.link p).st = .active) ∧ (((s.link p).queue ++ (s.link p).onLine.toList).any (fun q => q.departure && !q.whole) = false) ∧ ((s.link p).queue.any (fun q => q.departure) = false)) ({ State.reset with pwr := { departing := true }, linkA := { st := .active, used := 3 }, linkB := { st := .active } }) (.a)) ∧
  ((fun (s : State) (p : Port) => (s.Calm) ∧ (s.pwr.departing = true) ∧ ((s.link p).st = .quiet)) ({ State.reset with pwr := { departing := true }, linkA := { st := .quiet }, linkB := { st := .quiet } }) (.b)) ∧
  ((fun (s : State) (p : Port) => (s.Calm) ∧ (s.pwr.departing = true) ∧ ((s.link p).st = .active) ∧ ((s.link p).queue = []) ∧ ((s.link p).onLine = none) ∧ ((s.link p).arriving = none)) ({ State.reset with pwr := { departing := true }, linkA := { st := .active, used := 3 }, linkB := { st := .active } }) (.a)) ∧
  ((fun (s : State) (us : BitVec 16) => (s.Calm) ∧ (s.pwr.departing = true) ∧ (s.running = true)) ({ State.reset with pwr := { departing := true, present := false } }) (0xFFFF)) ∧
  ((fun (s : State) (us : BitVec 16) => (s.Calm) ∧ (s.pwr.departing = true) ∧ (s.eng.st = .standby)) ({ inState .standby with pwr := { departing := true, present := false } }) (0xFFFF)) ∧
  ((fun (s : State) => (s.Calm) ∧ (s.pwr.departing = true) ∧ (s.pwr.departHeld = true)) ({ State.reset with eng := { st := .standby }, pwr := { departing := true, departHeld := true } })) ∧
  ((fun (s : State) => (s.Calm) ∧ (s.eng.shutting = true) ∧ (s.running = true)) ({ State.reset with eng := { shutting := true, st := .dark } })) ∧
  ((fun (s : State) (reading : Int) => (s.Calm) ∧ (s.pwr.holdThermal = true) ∧ (s.eng.st = .standby) ∧ (reading ≤ 132 * 16)) ({ State.reset with eng := { st := .standby }, pwr := { holdThermal := true } }) (132 * 16)) := by
  refine ⟨?_, ?_, ?_, ?_, ?_, ?_, ?_, ?_, ?_, ?_, ?_, ?_, ?_, ?_, ?_, ?_, ?_, ?_, ?_, ?_, ?_, ?_, ?_, ?_, ?_, ?_, ?_, ?_, ?_, ?_⟩ <;> decide

set_option maxRecDepth 100000 in
set_option linter.unusedVariables false in
theorem witness_TumblerRegisterResults :
  ((fun (s : State) (t : Fin 8) (rd : Fin 16) (ra : Fin 16) (rb : Fin 16) => (s.Calm) ∧ (s.TumShaped) ∧ (s.issues t (encR 0x00 rd ra rb) = true)) (running1 (encR 0x00 1 2 3) 7 3) (0) (1) (2) (3)) ∧
  ((fun (s : State) (t : Fin 8) (rd : Fin 16) (ra : Fin 16) (rb : Fin 16) => (s.Calm) ∧ (s.TumShaped) ∧ (s.issues t (encR 0x01 rd ra rb) = true)) (running1 (encR 0x01 1 2 3) 7 3) (0) (1) (2) (3)) ∧
  ((fun (s : State) (t : Fin 8) (rd : Fin 16) (ra : Fin 16) (rb : Fin 16) => (s.Calm) ∧ (s.TumShaped) ∧ (s.issues t (encR 0x02 rd ra rb) = true)) (running1 (encR 0x02 1 2 3) 7 3) (0) (1) (2) (3)) ∧
  ((fun (s : State) (t : Fin 8) (rd : Fin 16) (ra : Fin 16) (rb : Fin 16) => (s.Calm) ∧ (s.TumShaped) ∧ (s.issues t (encR 0x03 rd ra rb) = true)) (running1 (encR 0x03 1 2 3) 7 3) (0) (1) (2) (3)) ∧
  ((fun (s : State) (t : Fin 8) (rd : Fin 16) (ra : Fin 16) (rb : Fin 16) => (s.Calm) ∧ (s.TumShaped) ∧ (s.issues t (encR 0x04 rd ra rb) = true)) (running1 (encR 0x04 1 2 3) 7 3) (0) (1) (2) (3)) ∧
  ((fun (s : State) (t : Fin 8) (rd : Fin 16) (ra : Fin 16) (rb : Fin 16) => (s.Calm) ∧ (s.TumShaped) ∧ (s.issues t (encR 0x05 rd ra rb) = true)) (running1 (encR 0x05 1 2 3) 7 3) (0) (1) (2) (3)) ∧
  ((fun (s : State) (t : Fin 8) (rd : Fin 16) (ra : Fin 16) (rb : Fin 16) => (s.Calm) ∧ (s.TumShaped) ∧ (s.issues t (encR 0x06 rd ra rb) = true)) (running1 (encR 0x06 1 2 3) 7 3) (0) (1) (2) (3)) ∧
  ((fun (s : State) (t : Fin 8) (rd : Fin 16) (ra : Fin 16) (rb : Fin 16) => (s.Calm) ∧ (s.TumShaped) ∧ (s.issues t (encR 0x07 rd ra rb) = true)) (running1 (encR 0x07 1 2 3) 7 3) (0) (1) (2) (3)) ∧
  ((fun (s : State) (t : Fin 8) (rd : Fin 16) (ra : Fin 16) (rb : Fin 16) => (s.Calm) ∧ (s.TumShaped) ∧ (s.issues t (encR 0x08 rd ra rb) = true)) (running1 (encR 0x08 1 2 3) 7 3) (0) (1) (2) (3)) ∧
  ((fun (s : State) (t : Fin 8) (rd : Fin 16) (ra : Fin 16) (rb : Fin 16) => (s.Calm) ∧ (s.TumShaped) ∧ (s.issues t (encR 0x09 rd ra rb) = true)) (running1 (encR 0x09 1 2 3) 7 3) (0) (1) (2) (3)) ∧
  ((fun (s : State) (t : Fin 8) (rd : Fin 16) (ra : Fin 16) (rb : Fin 16) => (s.Calm) ∧ (s.TumShaped) ∧ (s.issues t (encR 0x0A rd ra rb) = true)) (running1 (encR 0x0A 1 2 3) 7 3) (0) (1) (2) (3)) ∧
  ((fun (s : State) (t : Fin 8) (rd : Fin 16) (ra : Fin 16) (rb : Fin 16) => (s.Calm) ∧ (s.TumShaped) ∧ (s.issues t (encR 0x0B rd ra rb) = true)) (running1 (encR 0x0B 1 2 3) 7 3) (0) (1) (2) (3)) ∧
  ((fun (s : State) (t : Fin 8) (rd : Fin 16) (ra : Fin 16) (rb : Fin 16) => (s.Calm) ∧ (s.TumShaped) ∧ (s.issues t (encR 0x0C rd ra rb) = true)) (running1 (encR 0x0C 1 2 3) 7 3) (0) (1) (2) (3)) ∧
  ((fun (s : State) (t : Fin 8) (rd : Fin 16) (ra : Fin 16) (rb : Fin 16) => (s.Calm) ∧ (s.TumShaped) ∧ (s.issues t (encR 0x0D rd ra rb) = true)) (running1 (encR 0x0D 1 2 3) 7 3) (0) (1) (2) (3)) ∧
  ((fun (s : State) (t : Fin 8) (rd : Fin 16) (ra : Fin 16) (rb : Fin 16) => (s.Calm) ∧ (s.TumShaped) ∧ (s.issues t (encR 0x0E rd ra rb) = true)) (running1 (encR 0x0E 1 2 3) 7 3) (0) (1) (2) (3)) ∧
  ((fun (s : State) (t : Fin 8) (rd : Fin 16) (ra : Fin 16) (rb : Fin 16) => (s.Calm) ∧ (s.TumShaped) ∧ (s.issues t (encR 0x0F rd ra rb) = true)) (running1 (encR 0x0F 1 2 3) 7 3) (0) (1) (2) (3)) := by
  refine ⟨?_, ?_, ?_, ?_, ?_, ?_, ?_, ?_, ?_, ?_, ?_, ?_, ?_, ?_, ?_, ?_⟩ <;> decide

set_option maxRecDepth 100000 in
set_option linter.unusedVariables false in
theorem witness_TumblerImmediateResults :
  ((fun (s : State) (t : Fin 8) (rd : Fin 16) (ra : Fin 16) (imm : BitVec 18) => (s.Calm) ∧ (s.TumShaped) ∧ (s.issues t (encI 0x10 rd ra imm) = true)) (running1 (encI 0x10 1 2 0x3FFFF) 7 3) (0) (1) (2) (0x3FFFF)) ∧
  ((fun (s : State) (t : Fin 8) (rd : Fin 16) (ra : Fin 16) (imm : BitVec 18) => (s.Calm) ∧ (s.TumShaped) ∧ (s.issues t (encI 0x11 rd ra imm) = true)) (running1 (encI 0x11 1 2 0x3FFFF) 7 3) (0) (1) (2) (0x3FFFF)) ∧
  ((fun (s : State) (t : Fin 8) (rd : Fin 16) (ra : Fin 16) (imm : BitVec 18) => (s.Calm) ∧ (s.TumShaped) ∧ (s.issues t (encI 0x12 rd ra imm) = true)) (running1 (encI 0x12 1 2 0x3FFFF) 7 3) (0) (1) (2) (0x3FFFF)) ∧
  ((fun (s : State) (t : Fin 8) (rd : Fin 16) (ra : Fin 16) (imm : BitVec 18) => (s.Calm) ∧ (s.TumShaped) ∧ (s.issues t (encI 0x13 rd ra imm) = true)) (running1 (encI 0x13 1 2 0x3FFFF) 7 3) (0) (1) (2) (0x3FFFF)) ∧
  ((fun (s : State) (t : Fin 8) (rd : Fin 16) (ra : Fin 16) (imm : BitVec 5) => (s.Calm) ∧ (s.TumShaped) ∧ (s.issues t (encI 0x14 rd ra (imm.zeroExtend 18)) = true)) (running1 (encI 0x14 1 2 31) 7 3) (0) (1) (2) (31)) ∧
  ((fun (s : State) (t : Fin 8) (rd : Fin 16) (ra : Fin 16) (imm : BitVec 5) => (s.Calm) ∧ (s.TumShaped) ∧ (s.issues t (encI 0x15 rd ra (imm.zeroExtend 18)) = true)) (running1 (encI 0x15 1 2 31) 7 3) (0) (1) (2) (31)) ∧
  ((fun (s : State) (t : Fin 8) (rd : Fin 16) (ra : Fin 16) (imm : BitVec 5) => (s.Calm) ∧ (s.TumShaped) ∧ (s.issues t (encI 0x16 rd ra (imm.zeroExtend 18)) = true)) (running1 (encI 0x16 1 2 31) 7 3) (0) (1) (2) (31)) ∧
  ((fun (s : State) (t : Fin 8) (rd : Fin 16) (imm : BitVec 18) => (s.Calm) ∧ (s.TumShaped) ∧ (s.issues t (encI 0x17 rd 0 imm) = true)) (running1 (encI 0x17 1 0 0x3FFFF) 7 3) (0) (1) (0x3FFFF)) ∧
  ((fun (s : State) (t : Fin 8) (rd : Fin 16) (ra : Fin 16) (imm : BitVec 18) => (s.Calm) ∧ (s.TumShaped) ∧ (s.issues t (encI 0x18 rd ra imm) = true)) (running1 (encI 0x18 1 2 0x3FFFF) 7 3) (0) (1) (2) (0x3FFFF)) := by
  refine ⟨?_, ?_, ?_, ?_, ?_, ?_, ?_, ?_, ?_⟩ <;> decide

set_option maxRecDepth 100000 in
set_option linter.unusedVariables false in
theorem witness_TumblerDataMemory :
  ((fun (s : State) (a : Nat) (t : Fin 8) (rd : Fin 16) (ra : Fin 16) (imm : BitVec 18) => (s.Calm) ∧ (s.TumShaped) ∧ (s.issues t (encI 0x19 rd ra imm) = true) ∧ (a = ((s.thread t).reg ra + imm.signExtend 32).toNat) ∧ (a < 16384) ∧ (a % 4 = 0)) (running1 (encI 0x19 1 2 4) 16376 3) (16380) (0) (1) (2) (4)) ∧
  ((fun (s : State) (a : Nat) (t : Fin 8) (rd : Fin 16) (ra : Fin 16) (imm : BitVec 18) => (s.Calm) ∧ (s.TumShaped) ∧ (s.issues t (encI 0x1A rd ra imm) = true) ∧ (a = ((s.thread t).reg ra + imm.signExtend 32).toNat) ∧ (a < 16384)) (running1 (encI 0x1A 1 2 4) 16376 3) (16380) (0) (1) (2) (4)) ∧
  ((fun (s : State) (a : Nat) (t : Fin 8) (rd : Fin 16) (ra : Fin 16) (imm : BitVec 18) => (s.Calm) ∧ (s.TumShaped) ∧ (s.issues t (encI 0x1B rd ra imm) = true) ∧ (a = ((s.thread t).reg ra + imm.signExtend 32).toNat) ∧ (a < 16384) ∧ (a % 4 = 0)) (running1 (encI 0x1B 1 2 4) 16376 3) (16380) (0) (1) (2) (4)) ∧
  ((fun (s : State) (a : Nat) (t : Fin 8) (rd : Fin 16) (ra : Fin 16) (imm : BitVec 18) => (s.Calm) ∧ (s.TumShaped) ∧ (s.issues t (encI 0x1C rd ra imm) = true) ∧ (a = ((s.thread t).reg ra + imm.signExtend 32).toNat) ∧ (a < 16384)) (running1 (encI 0x1C 1 2 4) 16376 3) (16380) (0) (1) (2) (4)) ∧
  ((fun (s : State) (a : Nat) (t : Fin 8) (rd : Fin 16) (ra : Fin 16) (imm : BitVec 18) => (s.Calm) ∧ (s.TumShaped) ∧ (s.issues t (encI 0x1D rd ra imm) = true) ∧ (a = ((s.thread t).reg ra + imm.signExtend 32).toNat) ∧ (a < 16384) ∧ (a % 4 = 0)) (running1 (encI 0x1D 1 2 4) 16376 3) (16380) (0) (1) (2) (4)) := by
  refine ⟨?_, ?_, ?_, ?_, ?_⟩ <;> decide

set_option maxRecDepth 100000 in
set_option linter.unusedVariables false in
theorem witness_TumblerBranches :
  ((fun (s : State) (t : Fin 8) (rd : Fin 16) (ra : Fin 16) (off : BitVec 18) => (s.Calm) ∧ (s.TumShaped) ∧ (s.issues t (encI 0x20 rd ra off) = true) ∧ (16 ≤ ((s.thread t).pc : Int) + off.toInt) ∧ (((s.thread t).pc : Int) + off.toInt ≤ 16383)) (running1 (encI 0x20 2 3 0x3FEF) 7 7) (0) (2) (3) (0x3FEF)) ∧
  ((fun (s : State) (t : Fin 8) (rd : Fin 16) (ra : Fin 16) (off : BitVec 18) => (s.Calm) ∧ (s.TumShaped) ∧ (s.issues t (encI 0x21 rd ra off) = true) ∧ (16 ≤ ((s.thread t).pc : Int) + off.toInt) ∧ (((s.thread t).pc : Int) + off.toInt ≤ 16383)) (running1 (encI 0x21 2 3 0x3FEF) 7 7) (0) (2) (3) (0x3FEF)) ∧
  ((fun (s : State) (t : Fin 8) (rd : Fin 16) (ra : Fin 16) (off : BitVec 18) => (s.Calm) ∧ (s.TumShaped) ∧ (s.issues t (encI 0x22 rd ra off) = true) ∧ (16 ≤ ((s.thread t).pc : Int) + off.toInt) ∧ (((s.thread t).pc : Int) + off.toInt ≤ 16383)) (running1 (encI 0x22 2 3 0x3FEF) 7 7) (0) (2) (3) (0x3FEF)) ∧
  ((fun (s : State) (t : Fin 8) (rd : Fin 16) (ra : Fin 16) (off : BitVec 18) => (s.Calm) ∧ (s.TumShaped) ∧ (s.issues t (encI 0x23 rd ra off) = true) ∧ (16 ≤ ((s.thread t).pc : Int) + off.toInt) ∧ (((s.thread t).pc : Int) + off.toInt ≤ 16383)) (running1 (encI 0x23 2 3 0x3FEF) 7 7) (0) (2) (3) (0x3FEF)) ∧
  ((fun (s : State) (t : Fin 8) (rd : Fin 16) (ra : Fin 16) (off : BitVec 18) => (s.Calm) ∧ (s.TumShaped) ∧ (s.issues t (encI 0x24 rd ra off) = true) ∧ (16 ≤ ((s.thread t).pc : Int) + off.toInt) ∧ (((s.thread t).pc : Int) + off.toInt ≤ 16383)) (running1 (encI 0x24 2 3 0x3FEF) 7 7) (0) (2) (3) (0x3FEF)) ∧
  ((fun (s : State) (t : Fin 8) (rd : Fin 16) (ra : Fin 16) (off : BitVec 18) => (s.Calm) ∧ (s.TumShaped) ∧ (s.issues t (encI 0x25 rd ra off) = true) ∧ (16 ≤ ((s.thread t).pc : Int) + off.toInt) ∧ (((s.thread t).pc : Int) + off.toInt ≤ 16383)) (running1 (encI 0x25 2 3 0x3FEF) 7 7) (0) (2) (3) (0x3FEF)) := by
  refine ⟨?_, ?_, ?_, ?_, ?_, ?_⟩ <;> decide

set_option maxRecDepth 100000 in
set_option linter.unusedVariables false in
theorem witness_TumblerJumps :
  ((fun (s : State) (t : Fin 8) (off : BitVec 18) => (s.Calm) ∧ (s.TumShaped) ∧ (s.issues t (encI 0x26 0 0 off) = true) ∧ (16 ≤ ((s.thread t).pc : Int) + off.toInt) ∧ (((s.thread t).pc : Int) + off.toInt ≤ 16383)) (running1 (encI 0x26 0 0 0) 0 0) (0) (0)) ∧
  ((fun (s : State) (t : Fin 8) (ra : Fin 16) => (s.Calm) ∧ (s.TumShaped) ∧ (s.issues t (encR 0x27 0 ra 0) = true) ∧ (16 ≤ ((s.thread t).reg ra).toNat) ∧ (((s.thread t).reg ra).toNat ≤ 16383)) (running1 (encR 0x27 0 2 0) 16383 0) (0) (2)) ∧
  ((fun (s : State) (t : Fin 8) (off : BitVec 18) => (s.Calm) ∧ (s.TumShaped) ∧ (s.issues t (encI 0x28 0 0 off) = true) ∧ (16 ≤ ((s.thread t).pc : Int) + off.toInt) ∧ (((s.thread t).pc : Int) + off.toInt ≤ 16383) ∧ ((s.thread t).stack.length < 8)) (running1 (encI 0x28 0 0 0) 0 0) (0) (0)) ∧
  ((fun (s : State) (t : Fin 8) (ra : Fin 16) => (s.Calm) ∧ (s.TumShaped) ∧ (s.issues t (encR 0x29 0 ra 0) = true) ∧ (16 ≤ ((s.thread t).reg ra).toNat) ∧ (((s.thread t).reg ra).toNat ≤ 16383) ∧ ((s.thread t).stack.length < 8)) (running1 (encR 0x29 0 2 0) 16 0) (0) (2)) ∧
  ((fun (s : State) (pc : Nat) (rest : List Nat) (t : Fin 8) => (s.Calm) ∧ (s.TumShaped) ∧ (s.issues t (encR 0x2A 0 0 0) = true) ∧ ((s.thread t).stack = pc :: rest)) ((running1 (encR 0x2A 0 0 0) 0 0).onThread 0 (fun x => { x with stack := [20] })) (20) ([]) (0)) ∧
  ((fun (s : State) (t : Fin 8) => (s.Calm) ∧ (s.TumShaped) ∧ (s.issues t (encR 0x2B 0 0 0) = true)) (running1 (encR 0x2B 0 0 0) 0 0) (0)) := by
  refine ⟨?_, ?_, ?_, ?_, ?_, ?_⟩ <;> decide

set_option maxRecDepth 100000 in
set_option linter.unusedVariables false in
theorem witness_TumblerWaits :
  ((fun (s : State) (t : Fin 8) (rd : Fin 16) (imm : BitVec 18) => (s.Calm) ∧ (s.TumShaped) ∧ (s.issues t (encI 0x2C rd 0 imm) = true)) (running1 (encI 0x2C 1 0 0) 0 0) (0) (1) (0)) ∧
  ((fun (s : State) (t : Fin 8) (rd : Fin 16) (ra : Fin 16) (rb : Fin 16) => (s.Calm) ∧ (s.TumShaped) ∧ (s.time.cmps.length = 8) ∧ (s.issues t (encR 0x2D rd ra rb) = true)) (running1 (encR 0x2D 1 2 3) 0xFFFFFFFF 0xFFFF) (0) (1) (2) (3)) ∧
  ((fun (s : State) (t : Fin 8) (rd : Fin 16) (ra : Fin 16) (imm : BitVec 18) => (s.Calm) ∧ (s.TumShaped) ∧ (s.time.cmps.length = 8) ∧ (s.issues t (encI 0x2E rd ra imm) = true)) (running1 (encI 0x2E 1 2 5) 0xFFFFFFFF 0) (0) (1) (2) (5)) ∧
  ((fun (s : State) (t : Fin 8) (rd : Fin 16) (ra : Fin 16) (imm : BitVec 18) => (s.Calm) ∧ (s.TumShaped) ∧ (s.issues t (encI 0x2F rd ra imm) = true) ∧ ((s.thread t).pending &&& (s.thread t).reg ra = 0) ∧ ((s.thread t).reg ra ≠ 0 ∨ imm ≠ 0)) (running1 (encI 0x2F 1 2 5) 0xFF 0) (0) (1) (2) (5)) ∧
  ((fun (s : State) (t : Fin 8) (rd : Fin 16) (ra : Fin 16) (imm : BitVec 18) => (s.Calm) ∧ (s.TumShaped) ∧ (s.issues t (encI 0x2F rd ra imm) = true) ∧ ((s.thread t).pending &&& (s.thread t).reg ra ≠ 0)) ((running1 (encI 0x2F 1 2 0) 0xFF 0).onThread 0 (fun x => { x with pending := 0x180 })) (0) (1) (2) (0)) ∧
  ((fun (s : State) (t : Fin 8) (rd : Fin 16) (sel : Fin 5) => (s.Calm) ∧ (s.TumShaped) ∧ (s.issues t (encI 0x30 rd 0 (BitVec.ofNat 18 sel.val)) = true)) (running1 (encI 0x30 1 0 4) 0 0) (0) (1) (4)) := by
  refine ⟨?_, ?_, ?_, ?_, ?_, ?_⟩ <;> decide

set_option maxRecDepth 100000 in
set_option linter.unusedVariables false in
theorem witness_TumblerExceptions :
  ((fun (s : State) (t : Fin 8) => (s.Calm) ∧ (s.TumShaped) ∧ ((s.thread t).st = .ready) ∧ ((s.thread t).runaway = false) ∧ (legalWord (s.progWord (s.thread t).pc) = false)) (running1 0xFFFFFFFF 0 0) (0)) ∧
  ((fun (s : State) (t : Fin 8) => (s.Calm) ∧ (s.TumShaped) ∧ ((s.thread t).st = .ready) ∧ ((s.thread t).runaway = true)) ((running1 0 0 0).onThread 0 (fun x => { x with runlim := 1, issued := 1024 })) (0)) ∧
  ((fun (s : State) (t : Fin 8) (rd : Fin 16) (ra : Fin 16) (imm : BitVec 18) => (s.Calm) ∧ (s.TumShaped) ∧ (s.issues t (encI 0x19 rd ra imm) = true) ∧ (((s.thread t).reg ra + imm.signExtend 32).toNat % 4 ≠ 0)) (running1 (encI 0x19 1 2 1) 0 0) (0) (1) (2) (1)) ∧
  ((fun (s : State) (t : Fin 8) (rd : Fin 16) (ra : Fin 16) (imm : BitVec 18) => (s.Calm) ∧ (s.TumShaped) ∧ (s.issues t (encI 0x1C rd ra imm) = true) ∧ (16384 ≤ ((s.thread t).reg ra + imm.signExtend 32).toNat)) (running1 (encI 0x1C 1 2 0) 16384 0) (0) (1) (2) (0)) ∧
  ((fun (s : State) (t : Fin 8) (ra : Fin 16) => (s.Calm) ∧ (s.TumShaped) ∧ (s.issues t (encR 0x27 0 ra 0) = true) ∧ (((s.thread t).reg ra).toNat < 16)) (running1 (encR 0x27 0 2 0) 15 0) (0) (2)) ∧
  ((fun (s : State) (t : Fin 8) => (s.Calm) ∧ (s.TumShaped) ∧ (s.issues t (encR 0x2A 0 0 0) = true) ∧ ((s.thread t).stack = [])) (running1 (encR 0x2A 0 0 0) 0 0) (0)) ∧
  ((fun (s : State) (t : Fin 8) (rd : Fin 16) (ra : Fin 16) => (s.Calm) ∧ (s.TumShaped) ∧ (s.issues t (encI 0x2F rd ra 0) = true) ∧ ((s.thread t).reg ra = 0)) (running1 (encI 0x2F 1 2 0) 0 0) (0) (1) (2)) := by
  refine ⟨?_, ?_, ?_, ?_, ?_, ?_, ?_⟩ <;> decide

set_option maxRecDepth 100000 in
set_option linter.unusedVariables false in
theorem witness_TimeFramesComplete :
  ((fun (s : State) (p : Port) (f : Frame) (sinceStart : Nat) (residence : Nat) => (s.Calm) ∧ (hType f.hdr = 0x04) ∧ (tKind f = 1) ∧ (s.gets p f = true) ∧ (f.payload.length = 40) ∧ (leAt f.payload 1 1 ≤ 1) ∧ (leAt f.payload 8 6 < 18446744073) ∧ (leAt f.payload 14 4 < 1000000000) ∧ (s.cmdTagOk 0x03 f 0x20 = true) ∧ ((match sget none (tGm f).toNat (s.time.dom (leAt f.payload 1 1 == 1)).seqs with | none => true | some n => newer16 (tSeq f) n) = true) ∧ ((s.time.dom (leAt f.payload 1 1 == 1)).gm = tGm f ∨ (s.time.dom (leAt f.payload 1 1 == 1)).cond = .idle)) (inSession linked) (.a) (sealedCmd 3 0x20 (frameTo 4 (timeOf 1))) (0) (0)) ∧
  ((fun (s : State) (p : Port) (f : Frame) (sinceStart : Nat) (residence : Nat) => (s.Calm) ∧ (hType f.hdr = 0x04) ∧ (tKind f = 1) ∧ (s.gets p f = true) ∧ (f.payload.length = 40) ∧ (leAt f.payload 1 1 ≤ 1) ∧ (leAt f.payload 8 6 < 18446744073) ∧ (leAt f.payload 14 4 < 1000000000) ∧ (s.cmdTagOk 0x03 f 0x20 = true) ∧ ((match sget none (tGm f).toNat (s.time.dom (leAt f.payload 1 1 == 1)).seqs with | none => true | some n => newer16 (tSeq f) n) = false)) (inSession { linked with time := { d0 := { seqs := [(0, some 5)] } } }) (.a) (sealedCmd 3 0x20 (frameTo 4 (timeOf 1))) (0) (0)) ∧
  ((fun (s : State) (p : Port) (f : Frame) (sinceStart : Nat) (residence : Nat) => (s.Calm) ∧ (hType f.hdr = 0x04) ∧ (tKind f = 1) ∧ (s.gets p f = true) ∧ (f.payload.length = 40) ∧ (leAt f.payload 1 1 ≤ 1) ∧ (leAt f.payload 8 6 < 18446744073) ∧ (leAt f.payload 14 4 < 1000000000) ∧ (s.cmdTagOk 0x03 f 0x20 = false)) (linked) (.a) (frameTo 4 (timeOf 1)) (0) (0)) ∧
  ((fun (s : State) (h : HeldSync) (ld : Int) (p : Port) (f : Frame) => (s.Calm) ∧ (hType f.hdr = 0x04) ∧ (tKind f = 2) ∧ (s.gets p f = true) ∧ (f.payload.length = 40) ∧ (leAt f.payload 1 1 ≤ 1) ∧ (leAt f.payload 8 6 < 18446744073) ∧ (leAt f.payload 14 4 < 1000000000) ∧ (s.annTagOk 0x03 f 0x20 = true) ∧ ((s.link p).syncs.find? (fun h => h.domain == (leAt f.payload 1 1 == 1) && h.gm == tGm f && h.seq == tSeq f && h.ts == leAt f.payload 8 10) = some h) ∧ ((s.link p).delay = some ld) ∧ (s.time.local_ - h.tin ≤ 10000000 * 65536) ∧ (s.active (otherPort p) = true) ∧ ((s.time.dom h.domain).cond = .idle) ∧ (s.hasRoom (otherPort p) 0 60 = true)) ({ linked with linkA := { st := .active, pdSamples := [0, 0, 0, 0], syncs := [{ domain := false, gm := 0, seq := 0, log := 0, tin := 0, residence := 0, ts := 0 }] } }) ({ domain := false, gm := 0, seq := 0, log := 0, tin := 0, residence := 0, ts := 0 }) (0) (.a) (sealedAnn true 3 0x20 (frameTo 4 (timeOf 2)))) ∧
  ((fun (s : State) (h : HeldSync) (ld : Int) (p : Port) (f : Frame) => (s.Calm) ∧ (hType f.hdr = 0x04) ∧ (tKind f = 2) ∧ (s.gets p f = true) ∧ (f.payload.length = 40) ∧ (leAt f.payload 1 1 ≤ 1) ∧ (leAt f.payload 8 6 < 18446744073) ∧ (leAt f.payload 14 4 < 1000000000) ∧ (s.annTagOk 0x03 f 0x20 = true) ∧ ((s.link p).syncs.find? (fun h => h.domain == (leAt f.payload 1 1 == 1) && h.gm == tGm f && h.seq == tSeq f && h.ts == leAt f.payload 8 10) = some h) ∧ ((s.link p).delay = some ld) ∧ (s.time.local_ - h.tin ≤ 10000000 * 65536) ∧ (s.active (otherPort p) = true) ∧ ((s.time.dom h.domain).outRun < 2)) ({ linked with time := { d0 := { cond := .acquired } }, linkA := { st := .active, pdSamples := [0, 0, 0, 0], syncs := [{ domain := false, gm := 0, seq := 0, log := 0, tin := 0, residence := 0, ts := 0 }] } }) ({ domain := false, gm := 0, seq := 0, log := 0, tin := 0, residence := 0, ts := 0 }) (0) (.a) (sealedAnn true 3 0x20 (frameTo 4 (timeOf 2)))) ∧
  ((fun (s : State) (p : Port) (f : Frame) => (s.Calm) ∧ (hType f.hdr = 0x04) ∧ (tKind f = 2) ∧ (s.gets p f = true) ∧ (f.payload.length = 40) ∧ (leAt f.payload 1 1 ≤ 1) ∧ (leAt f.payload 8 6 < 18446744073) ∧ (leAt f.payload 14 4 < 1000000000) ∧ (s.annTagOk 0x03 f 0x20 = false)) (linked) (.a) (sealedAnn false 3 0x20 (frameTo 4 (timeOf 2)))) ∧
  ((fun (s : State) (p : Port) => (s.Calm)) (linked) (.b)) ∧
  ((fun (s : State) (p : Port) (f : Frame) (turnaround : Nat) => (s.Calm) ∧ (hType f.hdr = 0x04) ∧ (tKind f = 3) ∧ (hHops f.hdr = 0) ∧ (s.gets p f = true) ∧ (f.payload.length = 40) ∧ (leAt f.payload 1 1 ≤ 1) ∧ (leAt f.payload 8 6 < 18446744073) ∧ (leAt f.payload 14 4 < 1000000000) ∧ (s.annTagOk 0x03 f 0x20 = true) ∧ (s.hasRoom p 0 60 = true)) (linked) (.a) (sealedAnn true 3 0x20 (frameTo 4 (timeOf 3))) (4096)) ∧
  ((fun (s : State) (p : Port) (f : Frame) (turnaround : Nat) => (s.Calm) ∧ (hType f.hdr = 0x04) ∧ (tKind f = 3) ∧ (s.gets p f = true) ∧ (f.payload.length = 40) ∧ (leAt f.payload 1 1 ≤ 1) ∧ (leAt f.payload 8 6 < 18446744073) ∧ (leAt f.payload 14 4 < 1000000000) ∧ (s.annTagOk 0x03 f 0x20 = false)) (linked) (.a) (sealedAnn false 3 0x20 (frameTo 4 (timeOf 3))) (7)) ∧
  ((fun (s : State) (r : PendReq) (p : Port) (f : Frame) (sinceStart : Nat) => (s.Calm) ∧ (hType f.hdr = 0x04) ∧ (tKind f = 4) ∧ (hHops f.hdr = 0) ∧ (s.gets p f = true) ∧ (f.payload.length = 40) ∧ (leAt f.payload 1 1 ≤ 1) ∧ (leAt f.payload 8 6 < 18446744073) ∧ (leAt f.payload 14 4 < 1000000000) ∧ (s.annTagOk 0x03 f 0x20 = true) ∧ ((s.link p).pdPending = some r) ∧ (r.seq = tSeq f)) ({ linked with linkA := { st := .active, pdPending := some { seq := 0, t1 := 0 } } }) ({ seq := 0, t1 := 0 }) (.a) (sealedAnn true 3 0x20 (frameTo 4 (timeOf 4))) (0)) ∧
  ((fun (s : State) (p : Port) (f : Frame) (sinceStart : Nat) => (s.Calm) ∧ (hType f.hdr = 0x04) ∧ (tKind f = 4) ∧ (s.gets p f = true) ∧ (f.payload.length = 40) ∧ (leAt f.payload 1 1 ≤ 1) ∧ (leAt f.payload 8 6 < 18446744073) ∧ (leAt f.payload 14 4 < 1000000000) ∧ (s.annTagOk 0x03 f 0x20 = false)) (linked) (.a) (sealedAnn false 3 0x20 (frameTo 4 (timeOf 4))) (0)) ∧
  ((fun (s : State) (p : Port) => (s.Calm) ∧ ((s.link p).st = .active) ∧ ((s.link p).partnerId ≠ 0) ∧ (s.hasRoom p 0 60 = true)) ({ linked with linkB := { st := .active, partnerId := 5 } }) (.b)) ∧
  ((fun (s : State) (p : Port) => (s.Calm)) (linked) (.a)) := by
  refine ⟨?_, ?_, ?_, ?_, ?_, ?_, ?_, ?_, ?_, ?_, ?_, ?_, ?_⟩
  · exact ⟨by decide +kernel, by decide +kernel, by decide +kernel, by decide +kernel, by decide +kernel, by decide +kernel, by decide +kernel, by decide +kernel, cmdTagOk_sealed _ _ _ _ rfl (by decide), by decide +kernel, by decide +kernel⟩
  · exact ⟨by decide +kernel, by decide +kernel, by decide +kernel, by decide +kernel, by decide +kernel, by decide +kernel, by decide +kernel, by decide +kernel, cmdTagOk_sealed _ _ _ _ rfl (by decide), by decide +kernel⟩
  · decide
  · exact ⟨by decide +kernel, by decide +kernel, by decide +kernel, by decide +kernel, by decide +kernel, by decide +kernel, by decide +kernel, by decide +kernel, annTagOk_sealed _ _ _ _ _ rfl (by decide), by decide +kernel, by decide +kernel, by decide +kernel, by decide +kernel, by decide +kernel, by decide +kernel⟩
  · exact ⟨by decide +kernel, by decide +kernel, by decide +kernel, by decide +kernel, by decide +kernel, by decide +kernel, by decide +kernel, by decide +kernel, annTagOk_sealed _ _ _ _ _ rfl (by decide), by decide +kernel, by decide +kernel, by decide +kernel, by decide +kernel, by decide +kernel⟩
  · exact ⟨by decide +kernel, by decide +kernel, by decide +kernel, by decide +kernel, by decide +kernel, by decide +kernel, by decide +kernel, by decide +kernel, annTagOk_sealed _ _ _ _ _ rfl (by decide)⟩
  · decide
  · exact ⟨by decide +kernel, by decide +kernel, by decide +kernel, by decide +kernel, by decide +kernel, by decide +kernel, by decide +kernel, by decide +kernel, by decide +kernel, annTagOk_sealed _ _ _ _ _ rfl (by decide), by decide +kernel⟩
  · exact ⟨by decide +kernel, by decide +kernel, by decide +kernel, by decide +kernel, by decide +kernel, by decide +kernel, by decide +kernel, by decide +kernel, annTagOk_sealed _ _ _ _ _ rfl (by decide)⟩
  · exact ⟨by decide +kernel, by decide +kernel, by decide +kernel, by decide +kernel, by decide +kernel, by decide +kernel, by decide +kernel, by decide +kernel, by decide +kernel, annTagOk_sealed _ _ _ _ _ rfl (by decide), by decide +kernel, by decide +kernel⟩
  · exact ⟨by decide +kernel, by decide +kernel, by decide +kernel, by decide +kernel, by decide +kernel, by decide +kernel, by decide +kernel, by decide +kernel, annTagOk_sealed _ _ _ _ _ rfl (by decide)⟩
  · decide
  · decide

set_option maxRecDepth 100000 in
set_option linter.unusedVariables false in
theorem witness_WallTimeCompletes :
  ((fun (s : State) => (s.Calm) ∧ (s.time.d1.cond ≠ .idle) ∧ (s.time.valid = false ∨ s.time.active = false) ∧ (s.time.slewing = false)) ({ State.reset with eng := { st := .join }, time := { d1 := { cond := .acquiring } } })) ∧
  ((fun (s : State) => (s.Calm) ∧ (s.time.d0.cond ≠ .idle)) ({ State.reset with eng := { st := .join }, time := { d0 := { cond := .acquiring } } })) ∧
  ((fun (s : State) => (s.Calm) ∧ (s.time.holdover = true)) ({ State.reset with eng := { st := .lit }, time := { valid := true, holdover := true } })) ∧
  ((fun (s : State) => (s.Calm) ∧ (s.time.slewing = true) ∧ ((s.time.td s.time.slewTo - s.time.w).natAbs ≤ 8 * 65536) ∧ (s.losers 25 = [])) ({ State.reset with eng := { st := .dark }, time := { valid := true, slewing := true, slewTo := true } })) ∧
  ((fun (s : State) => (s.Calm) ∧ (s.time.valid = true) ∧ (s.time.holdover = false) ∧ (s.time.slewing = false) ∧ (s.time.pref ≠ s.time.active) ∧ (s.time.qualified = true)) ({ State.reset with eng := { st := .dark }, time := { valid := true, pref := true, d1 := { cond := .acquired, near := 4 } } })) ∧
  ((fun (s : State) (source : Fin 7) (rising : Bool) => (s.Calm) ∧ (s.time.capEn.getLsbD source = true) ∧ (s.time.caps.length < 16) ∧ (s.losers 26 = []) ∧ (s.time.caps.all (fun c => !(c.stamp == s.nowNs % 2 ^ 48 && c.wValid == s.time.valid && decide (source.val < c.source))) = true) ∧ (source ≠ 0 ∨ rising = true)) (State.reset) (6) (false)) ∧
  ((fun (s : State) (source : Fin 7) (rising : Bool) => (s.Calm) ∧ (s.time.capEn.getLsbD source = true) ∧ (16 ≤ s.time.caps.length) ∧ (source ≠ 0 ∨ rising = true)) ({ State.reset with time := { caps := List.replicate 16 { source := 1, edge := true, wValid := false, stamp := 0 } } }) (6) (false)) ∧
  ((fun (s : State) => (s.Calm) ∧ (s.time.flockEn = true)) ({ State.reset with time := { flockEn := true } })) ∧
  ((fun (s : State) => (s.Calm) ∧ (s.time.flockEn = true)) ({ State.reset with time := { flockEn := true } })) ∧
  ((fun (s : State) (n : Fin 8) => (s.Calm) ∧ (s.time.cmps.length = 8) ∧ (s.TumShaped) ∧ ((s.time.cmps.getD n {}).armed = true) ∧ (s.reached (s.time.cmps.getD n {}).lo (s.time.cmps.getD n {}).hi = true) ∧ (s.losers n = [])) ({ State.reset with time := { cmps := { armed := true } :: List.replicate 7 {} } }) (0)) ∧
  ((fun (s : State) => (s.Calm) ∧ (s.time.adcArmed = true) ∧ (s.reached s.time.adcLo s.time.adcHi = true)) ({ State.reset with time := { adcArmed := true } })) := by
  refine ⟨?_, ?_, ?_, ?_, ?_, ?_, ?_, ?_, ?_, ?_, ?_⟩ <;> decide

set_option maxRecDepth 100000 in
set_option linter.unusedVariables false in
theorem witness_TimeRegistersComplete :
  ((fun (s : State) (src : Source) (w : Word) => (s.Calm) ∧ (s.canAccess src = true) ∧ (s.accessLegal src true 0x1818 = true) ∧ (s.time.holdover = false)) (linked) (.portA) (0)) ∧
  ((fun (s : State) (src : Source) (n : Fin 8) (w : Word) => (s.Calm) ∧ (s.canAccess src = true) ∧ (s.accessLegal src true (0x1884 + 8 * n.val) = true) ∧ (s.time.cmps.length = 8) ∧ (s.waitsOn n = false)) (linked) (.portB) (7) (0xFFFFFFFF)) ∧
  ((fun (s : State) (src : Source) (n : Fin 8) (w : Word) => (s.Calm) ∧ (s.canAccess src = true) ∧ (s.accessLegal src true (0x1884 + 8 * n.val) = true) ∧ (s.waitsOn n = true) ∧ (src ≠ .tumbler)) (linked.onThread 0 (fun x => { x with st := .waiting, wait := .compare 1 })) (.portB) (0) (1)) ∧
  ((fun (s : State) (src : Source) (w : Word) => (s.Calm) ∧ (s.canAccess src = true) ∧ (s.accessLegal src true 0x1878 = true)) (linked) (.portA) (1)) ∧
  ((fun (s : State) (src : Source) (w : Word) => (s.Calm) ∧ (s.canAccess src = true) ∧ (s.accessLegal src true 0x1870 = true) ∧ (s.time.capEn.getLsbD 8 = true) ∧ (s.time.caps.length < 16) ∧ (s.losers 26 = []) ∧ (s.time.caps.all (fun c => !(c.stamp == s.nowNs % 2 ^ 48 && c.wValid == s.time.valid && decide (8 < c.source))) = true)) ({ linked with time := { capEn := 0x1FF } }) (.portA) (0)) ∧
  ((fun (s : State) (src : Source) (c : Capture) (rest : List Capture) => (s.Calm) ∧ (s.canAccess src = true) ∧ (s.accessLegal src false 0x1860 = true) ∧ (s.time.caps = c :: rest)) ({ linked with time := { caps := [{ source := 8, edge := true, wValid := false, stamp := 0xFFFFFFFFFFFF }] } }) (.portA) ({ source := 8, edge := true, wValid := false, stamp := 0xFFFFFFFFFFFF }) ([])) ∧
  ((fun (s : State) (src : Source) => (s.Calm) ∧ (s.canAccess src = true) ∧ (s.accessLegal src false 0x1808 = true)) (linked) (.portA)) ∧
  ((fun (s : State) (src : Source) => (s.Calm) ∧ (s.canAccess src = true) ∧ (s.accessLegal src false 0x1810 = true)) (linked) (.portB)) := by
  refine ⟨?_, ?_, ?_, ?_, ?_, ?_, ?_, ?_⟩ <;> decide

set_option maxRecDepth 100000 in
set_option linter.unusedVariables false in
theorem witness_LinkTrainingCompletes :
  ((fun (s : State) (p : Port) (lane : Fin 4) (payload : BitVec 64) (trains : List (Fin 4 × BitVec 64)) => (s.Calm) ∧ ((s.link p).st = .detect ∨ (s.link p).st = .rate) ∧ ((s.link p).lanes.length = 4) ∧ (trainOk payload = true) ∧ (((s.link p).lanes.getD lane.val {}).fenced = false) ∧ (((s.link p).lanes.getD lane.val {}).waiting = false) ∧ (((s.link p).lanes.getD lane.val {}).swapped = false) ∧ (((s.link p).lanes.getD lane.val {}).blockLock = true) ∧ (bits64 payload 14 13 = lane.val) ∧ (bits64 payload 15 15 ≠ portNo p) ∧ (trains.all (fun t => trainOk t.2 && bits64 t.2 14 13 == t.1.val && bits64 t.2 15 15 != portNo p) = true) ∧ ((s.link p).lanes.all (fun x => !x.swapped) = true)) ({ linked with linkA := { st := .detect, lanes := List.replicate 4 { blockLock := true } } }) (.a) (1) (0x9c0005000001a155) ([(0, 0xde00050000008155)])) ∧
  ((fun (s : State) (p : Port) (lane : Fin 4) (payload : BitVec 64) => (s.Calm) ∧ ((s.link p).st = .detect) ∧ ((s.link p).lanes.length = 4) ∧ (trainOk payload = false) ∧ (trainOk (~~~payload) = true) ∧ (((s.link p).lanes.getD lane.val {}).fenced = false) ∧ (((s.link p).lanes.getD lane.val {}).waiting = false) ∧ (((s.link p).lanes.getD lane.val {}).swapped = false) ∧ (((s.link p).lanes.getD lane.val {}).blockLock = true) ∧ (bits64 (~~~payload) 14 13 = lane.val) ∧ (bits64 (~~~payload) 15 15 ≠ portNo p)) ({ linked with linkA := { st := .detect, lanes := List.replicate 4 { blockLock := true } } }) (.a) (0) (0x21fffaffffff7eaa)) ∧
  ((fun (s : State) (p : Port) (lane : Fin 4) (payload : BitVec 64) (trains : List (Fin 4 × BitVec 64)) => (s.Calm) ∧ ((s.link p).st = .detect) ∧ (trainOk payload = true) ∧ ((s.link p).miswired = false) ∧ (((s.link p).lanes.getD lane.val {}).fenced = false) ∧ (((s.link p).lanes.getD lane.val {}).waiting = false) ∧ (((s.link p).lanes.getD lane.val {}).blockLock = true) ∧ (bits64 payload 15 15 = portNo p)) ({ linked with linkA := { st := .detect, lanes := List.replicate 4 { blockLock := true } } }) (.a) (0) (0x7e00050000000155) ([])) ∧
  ((fun (s : State) (p : Port) (lane : Fin 4) (payload : BitVec 64) => (s.Calm) ∧ ((s.link p).st = .detect) ∧ ((s.link p).lanes.length = 4) ∧ (trainOk payload = true) ∧ ((s.link p).miswired = false) ∧ (((s.link p).lanes.getD lane.val {}).fenced = false) ∧ (((s.link p).lanes.getD lane.val {}).waiting = false) ∧ (((s.link p).lanes.getD lane.val {}).blockLock = true) ∧ (bits64 payload 14 13 ≠ lane.val)) ({ linked with linkA := { st := .detect, lanes := List.replicate 4 { blockLock := true } } }) (.a) (2) (0x9c0005000001a155)) ∧
  ((fun (s : State) (r : Nat) (p : Port) (payload : BitVec 64) => (s.Calm) ∧ ((s.link p).st = .rate) ∧ (trainOk payload = true) ∧ (bits64 payload 10 8 = 2) ∧ (bits64 payload 11 11 = 1) ∧ (bestRate (max (s.startRate p) (bits64 payload 18 17)) (fun k => decide ((s.link p).fails.getD k 0 < 3) && decide (trainFails payload k < 3)) = some r) ∧ (bits64 payload 30 29 = r) ∧ ((widthOf ((s.link p).maskLanes ((s.link p).healthyMask &&& BitVec.ofNat 4 (bits64 payload 28 25)))).length ≠ 0)) ({ linked with linkA := { st := .rate, lanes := List.replicate 4 { healthy := true, blockLock := true } } }) (0) (.a) (0xaf0000001e008a55)) ∧
  ((fun (s : State) (p : Port) (lane : Fin 4) (payload : BitVec 64) => (s.Calm) ∧ ((s.link p).lanes.length = 4) ∧ ((s.link p).st = .eq) ∧ (trainOk payload = true) ∧ (bits64 payload 10 8 = 3)) ({ linked with linkB := { st := .eq } }) (.b) (2) (0xb000000900008355)) ∧
  ((fun (s : State) (p : Port) (payload : BitVec 64) (obs : List EqObs) => (s.Calm) ∧ ((s.link p).st = .eq) ∧ (trainOk payload = true) ∧ (bits64 payload 10 8 = 3) ∧ (bits64 payload 12 11 = 3) ∧ (obs.length = (s.link p).usedLanes.length) ∧ (obs.all (fun o => eyeGood o.eye) = true) ∧ ((s.link p).used ≠ 0)) ({ linked with linkB := { st := .eq, used := 1, width := 1 } }) (.b) (0x2d00000000009b55) ([{ eye := 100, ctle := 3, dfe := [1, 0, 0, 0, 0] }])) ∧
  ((fun (s : State) (p : Port) (payload : BitVec 64) (obs : List EqObs) => (s.Calm) ∧ ((s.link p).st = .eq) ∧ (trainOk payload = true) ∧ (bits64 payload 10 8 = 3) ∧ (bits64 payload 12 11 = 3) ∧ (obs.length = (s.link p).usedLanes.length) ∧ (widthOf ((((s.link p).usedLanes.zip obs).filter fun o => !eyeBad o.2.eye).map (·.1)) ≠ [])) ({ linked with linkB := { st := .eq, used := 3, width := 2 } }) (.b) (0x2d00000000009b55) ([{ eye := 52, ctle := 3, dfe := [1, 0, 0, 0, 0] }, { eye := 40, ctle := 3, dfe := [1, 0, 0, 0, 0] }])) ∧
  ((fun (s : State) (p : Port) (skews : List (BitVec 8)) => (s.Calm) ∧ ((s.link p).st = .align) ∧ ((s.link p).usedLanes.all (fun i => ((s.link p).lanes.getD i {}).markerLock) = true) ∧ (skews.all (fun k => decide (k.toNat ≤ 80)) = true) ∧ (s.announces = true) ∧ (qFits (s.link p).queue 0 60 = true)) ({ linked with linkB := { st := .align, used := 1, lanes := List.replicate 4 { markerLock := true } } }) (.b) ([80])) ∧
  ((fun (s : State) (p : Port) (skews : List (BitVec 8)) => (s.Calm) ∧ ((s.link p).st = .align) ∧ ((s.link p).usedLanes.all (fun i => ((s.link p).lanes.getD i {}).markerLock) = true) ∧ (skews.all (fun k => decide (k.toNat ≤ 80)) = true) ∧ (s.announces = false)) ({ (inState .dark) with linkB := { st := .align, used := 1, lanes := List.replicate 4 { markerLock := true } } }) (.b) ([80])) ∧
  ((fun (s : State) (p : Port) => (s.Calm) ∧ ((s.link p).st = .detect ∨ (s.link p).st = .rate ∨ (s.link p).st = .eq ∨ (s.link p).st = .align) ∧ ((s.link p).retraining = true)) ({ linked with linkB := { st := .eq, agreed := true, rate := 1, retraining := true } }) (.b)) ∧
  ((fun (s : State) (r : Nat) (p : Port) => (s.Calm) ∧ ((s.link p).st = .detect ∨ (s.link p).st = .rate ∨ (s.link p).st = .eq ∨ (s.link p).st = .align) ∧ ((s.link p).retraining = false) ∧ ((s.link p).agreed = true) ∧ ((s.link p).rate = r) ∧ (r < 3) ∧ (s.startRate p ≤ r) ∧ ((s.link p).fails.length = 3) ∧ ((s.link p).fails.getD r 0 < 2)) ({ linked with linkB := { st := .eq, agreed := true, rate := 1, fails := [3, 1, 0] } }) (1) (.b)) ∧
  ((fun (s : State) (p : Port) => (s.Calm) ∧ ((s.link p).st = .detect ∨ (s.link p).st = .rate ∨ (s.link p).st = .eq ∨ (s.link p).st = .align) ∧ ((s.link p).retraining = false) ∧ ((s.link p).agreed = true) ∧ ((s.link p).rate = 2) ∧ ((s.link p).fails = [3, 3, 2]) ∧ ((s.link p).retryCycle = true)) ({ linked with linkB := { st := .eq, agreed := true, rate := 2, fails := [3, 3, 2], retryCycle := true } }) (.b)) ∧
  ((fun (s : State) (p : Port) => (s.Calm) ∧ ((s.link p).st = .detect ∨ (s.link p).st = .rate ∨ (s.link p).st = .eq ∨ (s.link p).st = .align) ∧ ((s.link p).retraining = false) ∧ ((s.link p).agreed = true) ∧ ((s.link p).rate = 2) ∧ ((s.link p).fails = [3, 3, 2]) ∧ ((s.link p).retryCycle = false)) ({ linked with linkB := { st := .eq, agreed := true, rate := 2, fails := [3, 3, 2] } }) (.b)) ∧
  ((fun (s : State) (p : Port) => (s.Calm) ∧ ((s.link p).st = .quiet)) ({ linked with linkA := { st := .quiet, fails := [3, 3, 3] } }) (.a)) ∧
  ((fun (s : State) (p : Port) => (s.Calm) ∧ ((s.link p).st = .quiet)) ({ linked with linkA := { st := .quiet, fails := [3, 3, 3] } }) (.a)) ∧
  ((fun (s : State) (lane : Fin 4) (blocks : List Block) (p : Port) => (s.Calm) ∧ ((s.link p).lanes.length = 4) ∧ (s.receives p = true) ∧ ((s.link p).arriving = none) ∧ (s.active p = false ∨ (s.link p).used.getLsbD lane.val = false) ∧ (((s.link p).lanes.getD lane.val {}).hdrErrs ≤ 65535)) (linked) (3) ([0, 1, 2, 3]) (.a)) ∧
  ((fun (s : State) (lane : Fin 4) (blocks : List Block) (p : Port) => (s.Calm) ∧ ((s.link p).lanes.length = 4) ∧ (s.receives p = true) ∧ ((s.link p).arriving = none) ∧ (((s.link p).lanes.getD lane.val {}).blockLock = false) ∧ (((s.link p).lanes.getD lane.val {}).markerLock = false) ∧ (64 ≤ blocks.length) ∧ (blocks.all (fun b => hdrValid (Block.header b)) = true)) (linked) (3) (List.replicate 64 1) (.a)) := by
  refine ⟨?_, ?_, ?_, ?_, ?_, ?_, ?_, ?_, ?_, ?_, ?_, ?_, ?_, ?_, ?_, ?_, ?_, ?_⟩ <;> decide

set_option maxRecDepth 100000 in
set_option linter.unusedVariables false in
theorem witness_LinkActiveCompletes :
  ((fun (s : State) (lane : Fin 4) (blocks : List Block) (p : Port) => (s.Calm) ∧ ((s.link p).lanes.length = 4) ∧ (s.receives p = true) ∧ ((s.link p).arriving = none) ∧ ((s.link p).used.getLsbD lane.val = false) ∧ (((s.link p).lanes.getD lane.val {}).blockLock = true) ∧ (blocks.length = 16) ∧ (blocks.all (fun b => !hdrValid (Block.header b)) = true) ∧ (((s.link p).lanes.getD lane.val {}).hdrErrs ≤ 65535)) ({ linked with linkB := { st := .active, lanes := List.replicate 4 { blockLock := true } } }) (3) (List.replicate 16 0) (.b)) ∧
  ((fun (s : State) (lane : Fin 4) (blocks : List Block) (p : Port) => (s.Calm) ∧ (s.active p = true) ∧ ((s.link p).used.getLsbD lane.val = true) ∧ (((s.link p).lanes.getD lane.val {}).blockLock = true) ∧ (blocks.length = 16) ∧ (blocks.all (fun b => !hdrValid (Block.header b)) = true)) ({ linked with linkA := { st := .active, used := 15, lanes := List.replicate 4 { blockLock := true } } }) (3) (List.replicate 16 3) (.a)) ∧
  ((fun (s : State) (p : Port) (lane : Fin 4) (blocks : List (BitVec 66)) (payload : BitVec 64) (skew : BitVec 8) => (s.Calm) ∧ ((s.link p).lanes.length = 4) ∧ ((s.link p).st = .align) ∧ ((s.link p).used.getLsbD lane.val = true) ∧ (markerOk lane.val payload = true) ∧ ((s.link p).arriving = none) ∧ (((((s.link p).lanes.getD lane.val {})).receive lane.val s.time.local_ blocks).lane.markerLock = false) ∧ (((((s.link p).lanes.getD lane.val {})).receive lane.val s.time.local_ blocks).lane.markers = 1) ∧ (((((s.link p).lanes.getD lane.val {})).receive lane.val s.time.local_ blocks).lane.rxSince = 16383) ∧ (bits64 payload 55 32 = (((((s.link p).lanes.getD lane.val {})).receive lane.val s.time.local_ blocks).lane.mcount + 1 + ((((s.link p).lanes.getD lane.val {})).receive lane.val s.time.local_ blocks).lane.missed) % 2 ^ 24)) ({ linked with linkA := { st := .align, used := 1, lanes := { markers := 1, rxSince := 16383 } :: List.replicate 3 {} } }) (.a) (0) ([]) (0x00000001005FA04B) (9)) ∧
  ((fun (s : State) (p : Port) (lane : Fin 4) (blocks : List (BitVec 66)) (payload : BitVec 64) (skew : BitVec 8) => (s.Calm) ∧ ((s.link p).lanes.length = 4) ∧ ((s.link p).st = .active) ∧ ((s.link p).used.getLsbD lane.val = true) ∧ (markerOk lane.val payload = true) ∧ (skew.toNat ≤ 80) ∧ ((s.link p).arriving = none) ∧ (((((s.link p).lanes.getD lane.val {})).receive lane.val s.time.local_ blocks).lane.blockLock = ((s.link p).lanes.getD lane.val {}).blockLock) ∧ (((((s.link p).lanes.getD lane.val {})).receive lane.val s.time.local_ blocks).lane.markerLock = true) ∧ (((((s.link p).lanes.getD lane.val {})).receive lane.val s.time.local_ blocks).lane.rxSince = 16383) ∧ (bits64 payload 55 32 = (((((s.link p).lanes.getD lane.val {})).receive lane.val s.time.local_ blocks).lane.mcount + 1 + ((((s.link p).lanes.getD lane.val {})).receive lane.val s.time.local_ blocks).lane.missed) % 2 ^ 24) ∧ (((((s.link p).lanes.getD lane.val {})).receive lane.val s.time.local_ blocks).lane.bipLog = [])) ({ linked with linkA := { st := .active, used := 1, lanes := { markerLock := true, markers := 2, rxSince := 16383 } :: List.replicate 3 {} } }) (.a) (0) ([]) (0x00000001005FA04B) (80)) ∧
  ((fun (s : State) (p : Port) (lane : Fin 4) (blocks : List (BitVec 66)) (payload : BitVec 64) (skew : BitVec 8) => (s.Calm) ∧ (s.active p = true) ∧ ((s.link p).used.getLsbD lane.val = true) ∧ (markerOk lane.val payload = true) ∧ (80 < skew.toNat) ∧ (((((s.link p).lanes.getD lane.val {})).receive lane.val s.time.local_ blocks).lane.markerLock = true) ∧ (((((s.link p).lanes.getD lane.val {})).receive lane.val s.time.local_ blocks).lane.rxSince = 16383) ∧ (bits64 payload 55 32 = (((((s.link p).lanes.getD lane.val {})).receive lane.val s.time.local_ blocks).lane.mcount + 1 + ((((s.link p).lanes.getD lane.val {})).receive lane.val s.time.local_ blocks).lane.missed) % 2 ^ 24)) ({ linked with linkA := { st := .active, used := 15, lanes := List.replicate 4 { markerLock := true, markers := 2, rxSince := 16383 } } }) (.a) (0) ([]) (0x00000001005FA04B) (81)) ∧
  ((fun (s : State) (lane : Fin 4) (b : Block) (p : Port) => (s.Calm) ∧ ((s.link p).lanes.length = 4) ∧ (((s.link p).lanes.getD lane.val {}).markerLock = true) ∧ (((s.link p).lanes.getD lane.val {}).blockLock = true) ∧ (((s.link p).lanes.getD lane.val {}).hdrWindow = 0) ∧ (((s.link p).lanes.getD lane.val {}).inverted = false) ∧ (((s.link p).lanes.getD lane.val {}).missed = 2) ∧ (((s.link p).lanes.getD lane.val {}).rxSince = 16383) ∧ (Block.header b = 1) ∧ (s.active p = false) ∧ ((s.link p).arriving = none)) ({ linked with linkA := { st := .align, lanes := List.replicate 4 { markerLock := true, blockLock := true, missed := 2, rxSince := 16383 } } }) (2) (5) (.a)) ∧
  ((fun (s : State) (lane : Fin 4) (blocks : List Block) (p : Port) => (s.Calm) ∧ ((s.link p).lanes.length = 4) ∧ (((s.link p).lanes.getD lane.val {}).markerLock = true) ∧ (s.active p = true) ∧ ((s.link p).used.getLsbD lane.val = true) ∧ (((((s.link p).lanes.getD lane.val {})).receive lane.val s.time.local_ blocks).lane.markerLock = false)) ({ linked with linkA := { st := .active, used := 15, lanes := List.replicate 4 { markerLock := true, blockLock := true, missed := 2, rxSince := 16383 } } }) (2) ([1]) (.a)) ∧
  ((fun (s : State) (p : Port) (lane : Fin 4) => (s.Calm) ∧ (s.active p = true) ∧ ((s.link p).lanes.all (·.fenced) = false)) ({ linked with linkA := { st := .active, used := 15 } }) (.a) (2)) ∧
  ((fun (s : State) (p : Port) (lane : Fin 4) => (s.Calm) ∧ ((s.link p).lanes.length = 4) ∧ (s.active p = true) ∧ ((s.link p).used.getLsbD lane.val = true) ∧ ((((s.link p).lanes.getD lane.val {}).triggers.filter fun t => decide (s.time.local_ - t < 600000000000 * 65536)).length < 2)) ({ linked with linkA := { st := .active, used := 15 } }) (.a) (2)) ∧
  ((fun (s : State) (p : Port) (lane : Fin 4) => (s.Calm) ∧ ((s.link p).lanes.length = 4) ∧ (s.active p = true) ∧ ((s.link p).used.getLsbD lane.val = true) ∧ (2 ≤ (((s.link p).lanes.getD lane.val {}).triggers.filter fun t => decide (s.time.local_ - t < 600000000000 * 65536)).length)) ({ linked with linkA := { st := .active, used := 15, lanes := { triggers := [0, 0] } :: List.replicate 3 {} } }) (.a) (0)) ∧
  ((fun (s : State) (p : Port) (lane : Fin 4) (payload : BitVec 64) => (s.Calm) ∧ (s.active p = true) ∧ ((s.link p).used.getLsbD lane.val = true) ∧ (trainOk payload = true) ∧ (bits64 payload 10 8 = 3)) ({ linked with linkA := { st := .active, used := 15 } }) (.a) (2) (0x3300000000008355)) ∧
  ((fun (s : State) (p : Port) (lane : Fin 4) => (s.Calm) ∧ ((s.link p).lanes.length = 4) ∧ (s.active p = true) ∧ ((s.link p).used.getLsbD lane.val = true)) ({ linked with linkA := { st := .active, used := 15 } }) (.a) (2)) ∧
  ((fun (s : State) (p : Port) (lane : Fin 4) => (s.Calm) ∧ ((s.link p).lanes.length = 4) ∧ (s.active p = true) ∧ (((s.link p).lanes.getD lane.val {}).frozen = true)) ({ linked with linkA := { st := .active, lanes := List.replicate 4 { frozen := true } } }) (.a) (2)) ∧
  ((fun (s : State) (p : Port) (eyes : List (BitVec 8)) => (s.Calm) ∧ ((s.link p).eyeValid = false) ∧ (eyes.length = (s.link p).usedLanes.length)) ({ linked with linkA := { st := .active, used := 3, eyeValid := false } }) (.a) ([70, 80])) := by
  refine ⟨?_, ?_, ?_, ?_, ?_, ?_, ?_, ?_, ?_, ?_, ?_, ?_, ?_, ?_⟩ <;> decide

set_option maxRecDepth 100000 in
set_option linter.unusedVariables false in
theorem witness_LinkRegistersComplete :
  ((fun (s : State) (src : Source) (p : Port) (w : Word) => (s.Calm) ∧ (s.canAccess src = true) ∧ (s.accessLegal src true (linkBase p) = true) ∧ (s.active p = true) ∧ ((s.link p).enable = true) ∧ (w.getLsbD 0 = true) ∧ (w.getLsbD 2 = false)) (linked) (.portB) (.b) (3)) ∧
  ((fun (s : State) (src : Source) (p : Port) (w : Word) => (s.Calm) ∧ (s.canAccess src = true) ∧ (s.accessLegal src true (linkBase p) = true) ∧ (isService src = true) ∧ ((s.link p).enable = true) ∧ (w.getLsbD 0 = true) ∧ (w.getLsbD 1 = false)) (unsealed ({ linked with linkA := { lanes := List.replicate 4 { fenced := true } } })) (.service) (.a) (1)) ∧
  ((fun (s : State) (src : Source) (p : Port) (w : Word) => (s.Calm) ∧ (s.canAccess src = true) ∧ (s.accessLegal src true (linkBase p) = true) ∧ ((s.link p).enable = false) ∧ (s.eng.st ≠ .boot) ∧ (s.unitFenced (6 + portNo p) = false) ∧ (w.getLsbD 0 = true) ∧ (w.getLsbD 1 = false) ∧ (w.getLsbD 2 = false)) ({ linked with linkA := { enable := false } }) (.portB) (.a) (1)) ∧
  ((fun (s : State) (src : Source) (p : Port) (w : Word) => (s.Calm) ∧ (s.canAccess src = true) ∧ (s.accessLegal src true (linkBase p) = true) ∧ (s.active p = true) ∧ (w.getLsbD 0 = false) ∧ (w.getLsbD 1 = false) ∧ (w.getLsbD 2 = false)) (linked) (.portB) (.a) (0)) ∧
  ((fun (s : State) (src : Source) (p : Port) (w : Word) => (s.Calm) ∧ (s.canAccess src = true) ∧ (s.accessLegal src true (linkBase p + 0x20) = true) ∧ ((s.link p).used ≠ 0)) ({ linked with linkA := { st := .active, used := 1, eyeValid := true } }) (.portB) (.a) (0)) ∧
  ((fun (s : State) (src : Source) (p : Port) (w : Word) => (s.Calm) ∧ (s.canAccess src = true) ∧ (s.accessLegal src true (linkBase p + 0x30) = true) ∧ (isService src = true) ∧ (s.eng.st = .service) ∧ ((s.link p).st ≠ .active) ∧ ((s.link p).st ≠ .test)) (unsealed (inState .service)) (.service) (.a) (0)) ∧
  ((fun (s : State) (src : Source) (p : Port) (w : Word) => (s.Calm) ∧ (s.canAccess src = true) ∧ (s.accessLegal src true (linkBase p + 0x30) = true) ∧ (isService src = true) ∧ (s.eng.st = .service) ∧ ((s.link p).st = .test) ∧ ((s.link p).enable = true) ∧ (s.unitFenced (6 + portNo p) = false) ∧ ((s.link p).lanes.all (·.fenced) = false) ∧ (w.getLsbD 15 = true)) (unsealed ({ (inState .service) with linkA := { st := .test, lanes := List.replicate 4 { fail := true } } })) (.service) (.a) (0x8000)) ∧
  ((fun (s : State) (src : Source) (p : Port) (w : Word) => (s.Calm) ∧ (s.canAccess src = true) ∧ (s.accessLegal src true (linkBase p + 0x30) = true) ∧ ((s.link p).lanes.length = 4) ∧ (isService src = true) ∧ (s.eng.st = .service) ∧ ((s.link p).st = .test) ∧ (w.getLsbD 15 = false)) (unsealed ({ (inState .service) with linkA := { st := .test, lanes := { fail := true } :: List.replicate 3 {} } })) (.service) (.a) (0)) ∧
  ((fun (s : State) (lane : Fin 4) (received : List Bool) (p : Port) => (s.Calm) ∧ ((s.link p).lanes.length = 4) ∧ (s.checks p lane.val = true) ∧ ((s.link p).test.toNat / 8 % 4 ≠ 2) ∧ ((((s.link p).lanes.getD lane.val {}).checkAll ((s.link p).test.toNat / 2 % 4) s.time.local_ received).synced = false)) ({ (inState .service) with linkA := { st := .test, test := 0x7800 } }) (3) ([true, false]) (.a)) ∧
  ((fun (s : State) (lane : Fin 4) (received : List Bool) (p : Port) => (s.Calm) ∧ ((s.link p).lanes.length = 4) ∧ (s.checks p lane.val = true) ∧ ((s.link p).test.toNat / 8 % 4 ≠ 2) ∧ ((((s.link p).lanes.getD lane.val {}).checkAll ((s.link p).test.toNat / 2 % 4) s.time.local_ received).synced = true)) ({ (inState .service) with linkA := { st := .test, test := 0x7800, lanes := List.replicate 4 { synced := true, generator := 1, checker := 1 } } }) (3) ([false, true]) (.a)) ∧
  ((fun (s : State) (lane : Fin 4) (received : List Bool) (p : Port) => (s.Calm) ∧ ((s.link p).lanes.length = 4) ∧ ((s.link p).st = .test) ∧ (s.checks p lane.val = false) ∧ ((s.link p).test.toNat / 8 % 4 = 2) ∧ (received.length = 66)) ({ (inState .service) with linkA := { st := .test, test := 0x10 } }) (3) (true :: List.replicate 65 false) (.a)) ∧
  ((fun (s : State) (lane : Fin 4) (b : Bool) (p : Port) => (s.Calm) ∧ ((s.link p).lanes.length = 4) ∧ (s.checks p lane.val = true) ∧ (((s.link p).lanes.getD lane.val {}).sync = true) ∧ ((s.link p).test.toNat / 8 % 4 ≠ 2) ∧ (b ≠ prbsNext ((s.link p).test.toNat / 2 % 4) ((s.link p).lanes.getD lane.val {}).checker) ∧ (((s.link p).lanes.getD lane.val {}).chkErrs.length < 63)) ({ (inState .service) with linkA := { st := .test, test := 0x7800, lanes := List.replicate 4 { sync := true } } }) (3) (true) (.a)) ∧
  ((fun (s : State) (lane : Fin 4) (b : Bool) (p : Port) => (s.Calm) ∧ ((s.link p).lanes.length = 4) ∧ (s.checks p lane.val = true) ∧ (((s.link p).lanes.getD lane.val {}).sync = true) ∧ ((s.link p).test.toNat / 8 % 4 ≠ 2) ∧ (b ≠ prbsNext ((s.link p).test.toNat / 2 % 4) ((s.link p).lanes.getD lane.val {}).checker) ∧ (63 ≤ (((s.link p).lanes.getD lane.val {}).chkErrs.filter fun t => decide (((s.link p).lanes.getD lane.val {}).chkSeen + 1 < t + 1024)).length)) ({ (inState .service) with linkA := { st := .test, test := 0x7800, lanes := List.replicate 4 { sync := true, chkSeen := 63, chkErrs := List.replicate 63 1, losses := [0, 0, 0, 0] } } }) (3) (true) (.a)) ∧
  ((fun (s : State) (src : Source) (p : Port) (w : Word) => (s.Calm) ∧ (s.canAccess src = true) ∧ (s.accessLegal src true (linkBase p + 0x34) = true) ∧ ((s.link p).lanes.length = 4) ∧ (isService src = true) ∧ (s.eng.st = .service) ∧ ((s.link p).st = .test)) (unsealed ({ (inState .service) with linkA := { st := .test, test := 0x780 } })) (.service) (.a) (0x1F5)) := by
  refine ⟨?_, ?_, ?_, ?_, ?_, ?_, ?_, ?_, ?_, ?_, ?_, ?_, ?_, ?_⟩
  · decide
  · exact ⟨by decide +kernel, by decide +kernel, by decide +kernel, by decide +kernel, by decide +kernel, by decide +kernel, by decide +kernel⟩
  · decide
  · decide
  · decide
  · exact ⟨by decide +kernel, by decide +kernel, by decide +kernel, by decide +kernel, by decide +kernel, by decide +kernel, by decide +kernel⟩
  · exact ⟨by decide +kernel, by decide +kernel, by decide +kernel, by decide +kernel, by decide +kernel, by decide +kernel, by decide +kernel, by decide +kernel, by decide +kernel, by decide +kernel⟩
  · exact ⟨by decide +kernel, by decide +kernel, by decide +kernel, by decide +kernel, by decide +kernel, by decide +kernel, by decide +kernel, by decide +kernel⟩
  · decide
  · decide
  · decide
  · decide
  · decide
  · exact ⟨by decide +kernel, by decide +kernel, by decide +kernel, by decide +kernel, by decide +kernel, by decide +kernel, by decide +kernel⟩

set_option maxRecDepth 100000 in
set_option linter.unusedVariables false in
theorem witness_FramesComplete :
  ((fun (s : State) (p : Port) (hdr : BitVec 128) => (s.Calm) ∧ (s.active p = true) ∧ (s.active (otherPort p) = true) ∧ ((s.link p).arriving = none) ∧ (hdrOk hdr = true) ∧ (hDest hdr = 0xFFF) ∧ (hHops hdr < 4095) ∧ (qFits (s.link (otherPort p)).queue (hClass hdr) (20 + hLen hdr) = true)) (linked) (.a) (mkHdr 0xFFF 3 9 0 0 40)) ∧
  ((fun (s : State) (p : Port) (hdr : BitVec 128) => (s.Calm) ∧ (s.active p = true) ∧ (s.active (otherPort p) = true) ∧ ((s.link p).arriving = none) ∧ (hdrOk hdr = true) ∧ (hDest hdr ≠ 0) ∧ (hDest hdr ≠ 0xFFF) ∧ (hDest hdr ≠ s.wall.id.toNat) ∧ (s.outPort (hDest hdr) = (otherPort p)) ∧ (hHops hdr < 4095) ∧ (qFits (s.link (otherPort p)).queue (hClass hdr) (20 + hLen hdr) = true)) (linked) (.b) (mkHdr 9 3 2 0 0 40)) ∧
  ((fun (s : State) (p : Port) (hdr : BitVec 128) => (s.Calm) ∧ (s.active p = true) ∧ ((s.link p).arriving = none) ∧ (hdrOk hdr = true) ∧ (hDest hdr = s.wall.id.toNat) ∧ (s.wall.id ≠ 0) ∧ (s.wall.id ≠ 0xFFF)) ({ linked with wall := { id := 7 } }) (.b) (mkHdr 7 3 2 0 0 40)) ∧
  ((fun (s : State) (p : Port) (hdr : BitVec 128) => (s.Calm) ∧ (s.active p = true) ∧ (s.active (otherPort p) = false) ∧ ((s.link p).arriving = none) ∧ (hdrOk hdr = true) ∧ (hTurned hdr = true) ∧ (hDest hdr ≠ 0) ∧ (hDest hdr ≠ 0xFFF) ∧ (hDest hdr ≠ s.wall.id.toNat)) ({ State.reset with linkA := { st := .active } }) (.a) (fixHcrc (setBits128 (mkHdr 7 3 9 0 0 40) 35 35 1))) ∧
  ((fun (s : State) (p : Port) (hdr : BitVec 128) => (s.Calm) ∧ (s.active p = true) ∧ ((s.link p).arriving = none) ∧ (hdrOk hdr = false)) (linked) (.b) (0)) ∧
  ((fun (s : State) (a : Arriving) (p : Port) (payload : List Byte) (trailer : Word) => (s.Calm) ∧ ((s.link p).arriving = some a) ∧ (a.deliver = true) ∧ (a.out = none) ∧ (payload.length = hLen a.frame.hdr) ∧ (trailer.toNat = trailerOf { hdr := a.frame.hdr, payload := payload })) ({ linked with linkA := { st := .active, arriving := some { frame := { hdr := 0, payload := [] }, deliver := true, out := none, slot := none } } }) ({ frame := { hdr := 0, payload := [] }, deliver := true, out := none, slot := none }) (.a) ([]) (BitVec.ofNat 32 (trailerOf { hdr := 0, payload := [] }))) ∧
  ((fun (s : State) (a : Arriving) (p : Port) (payload : List Byte) (trailer : Word) => (s.Calm) ∧ ((s.link p).arriving = some a) ∧ (a.out = some (otherPort p)) ∧ (payload.length = hLen a.frame.hdr) ∧ (trailer.toNat = trailerOf { hdr := a.frame.hdr, payload := payload })) ({ linked with linkA := { st := .active, arriving := some { frame := { hdr := 0, payload := [] }, deliver := true, out := some .b, slot := none } } }) ({ frame := { hdr := 0, payload := [] }, deliver := true, out := some .b, slot := none }) (.a) ([]) (BitVec.ofNat 32 (trailerOf { hdr := 0, payload := [] }))) ∧
  ((fun (s : State) (a : Arriving) (p : Port) (payload : List Byte) (trailer : Word) => (s.Calm) ∧ ((s.link p).arriving = some a) ∧ (a.out = none) ∧ (payload.length = hLen a.frame.hdr) ∧ (trailer.toNat ≠ trailerOf { hdr := a.frame.hdr, payload := payload }) ∧ ((~~~trailer).toNat ≠ trailerOf { hdr := a.frame.hdr, payload := payload })) ({ linked with linkA := { st := .active, arriving := some { frame := { hdr := 0, payload := [] }, deliver := true, out := none, slot := none } } }) ({ frame := { hdr := 0, payload := [] }, deliver := true, out := none, slot := none }) (.a) ([]) (0)) ∧
  ((fun (s : State) (i : Nat) (p : Port) => (s.Calm) ∧ (s.active p = true) ∧ ((s.link p).onLine.any (fun q => !q.whole) = false) ∧ (nextFrame s.time.local_ (s.link p).queue = some i)) (linked.sendFrame .b (frameTo 9 []) false false) (0) (.b)) := by
  refine ⟨?_, ?_, ?_, ?_, ?_, ?_, ?_, ?_, ?_⟩ <;> decide

set_option maxRecDepth 100000 in
set_option linter.unusedVariables false in
theorem witness_TileMapCompletes :
  ((fun (s : State) => (s.Calm) ∧ (s.announces = true) ∧ (s.running = true) ∧ (s.hasRoom .a 0 60 = true) ∧ (s.hasRoom .b 0 60 = true)) (linked)) ∧
  ((fun (s : State) (p : Port) => (s.Calm) ∧ (s.announces = true) ∧ (s.running = true) ∧ (s.hasRoom p 0 60 = true) ∧ (s.active (otherPort p) = false)) ({ (inState .join) with linkB := { st := .active } }) (.b)) ∧
  ((fun (s : State) (p : Port) (f : Frame) => (s.Calm) ∧ (s.gets p f = true) ∧ (hType f.hdr = 0x09) ∧ (leAt f.payload 0 1 = 1) ∧ (mapFieldsOk f = true) ∧ (s.annTagOk 0x02 f 0x20 = true) ∧ (frId f ≠ 0) ∧ (frId f ≠ 0xFFF)) (linked) (.a) (sealedAnn true 2 0x20 (frameTo 9 ([1, 0, 0, 0, 0, 0, 0, 0, 0, 0, 0, 0, 5] ++ List.replicate 27 0)))) ∧
  ((fun (s : State) (p : Port) (f : Frame) => (s.Calm) ∧ (s.gets p f = true) ∧ (hType f.hdr = 0x09) ∧ (leAt f.payload 0 1 = 1) ∧ (mapFieldsOk f = true) ∧ (s.annTagOk 0x02 f 0x20 = false)) (linked) (.a) (sealedAnn false 2 0x20 (frameTo 9 ([1, 0, 0, 0, 0, 0, 0, 0, 0, 0, 0, 0, 5] ++ List.replicate 27 0)))) ∧
  ((fun (s : State) (p : Port) (f : Frame) => (s.Calm) ∧ (s.gets p f = true) ∧ (hType f.hdr = 0x09) ∧ (leAt f.payload 0 1 = 2) ∧ (mapFieldsOk f = true) ∧ (s.annTagOk 0x02 f 0x20 = true) ∧ (frId f ≠ 0) ∧ (frId f ≠ 0xFFF)) (linked) (.a) (sealedAnn true 2 0x20 (frameTo 9 ([2, 0, 0, 0, 0, 0, 0, 0, 0, 0, 0, 0, 5] ++ List.replicate 27 0)))) ∧
  ((fun (s : State) (p : Port) (f : Frame) => (s.Calm) ∧ (s.gets p f = true) ∧ (hType f.hdr = 0x09) ∧ (leAt f.payload 0 1 = 2) ∧ (mapFieldsOk f = true) ∧ (s.annTagOk 0x02 f 0x20 = false)) (linked) (.a) (sealedAnn false 2 0x20 (frameTo 9 ([2, 0, 0, 0, 0, 0, 0, 0, 0, 0, 0, 0, 5] ++ List.replicate 27 0)))) ∧
  ((fun (s : State) (p : Port) (f : Frame) => (s.Calm) ∧ (s.gets p f = true) ∧ (hType f.hdr = 0x09) ∧ (leAt f.payload 0 1 = 3) ∧ (mapFieldsOk f = true) ∧ (frUid f = s.col.ident.uid) ∧ (s.cmdTagOk 0x02 f 0x20 = true)) (inSession linked) (.a) (sealedCmd 2 0x20 (frameTo 9 ([3, 0, 0, 0, 1, 0, 0, 0, 0, 0, 0, 0, 5] ++ List.replicate 27 0)))) ∧
  ((fun (s : State) (p : Port) (f : Frame) => (s.Calm) ∧ (s.gets p f = true) ∧ (hType f.hdr = 0x09) ∧ (leAt f.payload 0 1 = 3) ∧ (mapFieldsOk f = true) ∧ (frUid f ≠ s.col.ident.uid) ∧ (s.cmdTagOk 0x02 f 0x20 = true)) (inSession linked) (.a) (sealedCmd 2 0x20 (frameTo 9 ([3, 0, 0, 0, 1, 0, 0, 0, 0, 0, 0, 0, 5] ++ List.replicate 3 0 ++ List.replicate 16 9 ++ List.replicate 8 0)))) ∧
  ((fun (s : State) (p : Port) (f : Frame) => (s.Calm) ∧ (s.gets p f = true) ∧ (hType f.hdr = 0x09) ∧ (leAt f.payload 0 1 = 3) ∧ (mapFieldsOk f = true) ∧ (s.cmdTagOk 0x02 f 0x20 = false)) (linked) (.a) (frameTo 9 ([3, 0, 0, 0, 1, 0, 0, 0, 0, 0, 0, 0, 5] ++ List.replicate 27 0))) ∧
  ((fun (s : State) (p : Port) (f : Frame) => (s.Calm) ∧ (s.gets p f = true) ∧ (hType f.hdr = 0x09) ∧ (leAt f.payload 0 1 = 4) ∧ (mapFieldsOk f = true) ∧ (s.cmdTagOk 0x02 f 0x20 = true)) (inSession linked) (.a) (sealedCmd 2 0x20 (frameTo 9 ([4, 0, 1, 0, 1, 0, 0, 0, 0, 0, 0, 0, 5] ++ List.replicate 27 0 ++ [5, 16] ++ List.replicate 14 0)))) ∧
  ((fun (s : State) (p : Port) (f : Frame) => (s.Calm) ∧ (s.gets p f = true) ∧ (hType f.hdr = 0x09) ∧ (leAt f.payload 0 1 = 4) ∧ (mapFieldsOk f = true) ∧ (s.cmdTagOk 0x02 f 0x20 = false)) (linked) (.a) (frameTo 9 ([4, 0, 1, 0, 1, 0, 0, 0, 0, 0, 0, 0, 5] ++ List.replicate 27 0 ++ [5, 16] ++ List.replicate 14 0))) ∧
  ((fun (s : State) (p : Port) (f : Frame) => (s.Calm) ∧ (s.gets p f = true) ∧ (hType f.hdr = 0x09) ∧ (leAt f.payload 0 1 = 5) ∧ (mapFieldsOk f = true) ∧ (s.cmdTagOk 0x02 f 0x20 = true) ∧ (s.wall.pendGen = some (frGen f)) ∧ ((s.wall.pend.filter fun e => mKind e.2 != 0).length = frCount f) ∧ ((s.wall.pend.all fun e => mKind e.2 != 3) = true)) (inSession (linked.onWall (fun w => { w with pendGen := some 0, pend := [(5, 0x1005)] }))) (.a) (sealedCmd 2 0x20 (frameTo 9 ([5, 0, 1] ++ List.replicate 37 0)))) ∧
  ((fun (s : State) (p : Port) (f : Frame) => (s.Calm) ∧ (s.gets p f = true) ∧ (hType f.hdr = 0x09) ∧ (leAt f.payload 0 1 = 5) ∧ (mapFieldsOk f = true) ∧ (s.cmdTagOk 0x02 f 0x20 = true) ∧ (s.wall.pendGen ≠ some (frGen f))) (inSession linked) (.a) (sealedCmd 2 0x20 (frameTo 9 ([5, 0, 1] ++ List.replicate 37 0)))) ∧
  ((fun (s : State) (p : Port) (f : Frame) => (s.Calm) ∧ (s.gets p f = true) ∧ (hType f.hdr = 0x09) ∧ (leAt f.payload 0 1 = 5) ∧ (mapFieldsOk f = true) ∧ (s.cmdTagOk 0x02 f 0x20 = false)) (linked) (.a) (frameTo 9 ([5, 0, 1] ++ List.replicate 37 0))) ∧
  ((fun (s : State) (id : BitVec 12) => (s.Calm) ∧ (s.running = true) ∧ (mSeen (s.mapEntry id.toNat) = 1)) ({ linked with wall := { map := [(9, 0x4000)] } }) (9)) := by
  refine ⟨?_, ?_, ?_, ?_, ?_, ?_, ?_, ?_, ?_, ?_, ?_, ?_, ?_, ?_, ?_⟩
  · decide
  · decide
  · exact ⟨by decide +kernel, by decide +kernel, by decide +kernel, by decide +kernel, by decide +kernel, annTagOk_sealed _ _ _ _ _ rfl (by decide), by decide +kernel, by decide +kernel⟩
  · exact ⟨by decide +kernel, by decide +kernel, by decide +kernel, by decide +kernel, by decide +kernel, annTagOk_sealed _ _ _ _ _ rfl (by decide)⟩
  · exact ⟨by decide +kernel, by decide +kernel, by decide +kernel, by decide +kernel, by decide +kernel, annTagOk_sealed _ _ _ _ _ rfl (by decide), by decide +kernel, by decide +kernel⟩
  · exact ⟨by decide +kernel, by decide +kernel, by decide +kernel, by decide +kernel, by decide +kernel, annTagOk_sealed _ _ _ _ _ rfl (by decide)⟩
  · exact ⟨by decide +kernel, by decide +kernel, by decide +kernel, by decide +kernel, by decide +kernel, by decide +kernel, cmdTagOk_sealed _ _ _ _ rfl (by decide)⟩
  · exact ⟨by decide +kernel, by decide +kernel, by decide +kernel, by decide +kernel, by decide +kernel, by decide +kernel, cmdTagOk_sealed _ _ _ _ rfl (by decide)⟩
  · decide
  · exact ⟨by decide +kernel, by decide +kernel, by decide +kernel, by decide +kernel, by decide +kernel, cmdTagOk_sealed _ _ _ _ rfl (by decide)⟩
  · decide
  · exact ⟨by decide +kernel, by decide +kernel, by decide +kernel, by decide +kernel, by decide +kernel, cmdTagOk_sealed _ _ _ _ rfl (by decide), by decide +kernel, by decide +kernel, by decide +kernel⟩
  · exact ⟨by decide +kernel, by decide +kernel, by decide +kernel, by decide +kernel, by decide +kernel, cmdTagOk_sealed _ _ _ _ rfl (by decide), by decide +kernel⟩
  · decide
  · decide

set_option maxRecDepth 100000 in
set_option linter.unusedVariables false in
theorem witness_StreamsComplete :
  ((fun (s : State) (w : Word) (src : Source) (n : Fin 256) => (s.Calm) ∧ (s.canAccess src = true) ∧ (s.accessLegal src true (0x40000 + 64 * n.val) = true) ∧ (src ≠ .tumbler) ∧ (s.ctxs.length = 256) ∧ (s.ctxUsed n = false) ∧ (w.getLsbD 0 = false) ∧ (2 ≤ w.toNat / 2 % 8) ∧ (w.toNat / 2 % 8 ≤ 4) ∧ ((s.ctx n).base.toNat % 4096 = 0)) (linked) (0xFFFFFF04) (.portA) (255)) ∧
  ((fun (s : State) (w : Word) (b : Word) (st : Word) (src : Source) (n : Fin 256) => (s.Calm) ∧ (s.canAccess src = true) ∧ (s.accessLegal src true (0x40000 + 64 * n.val) = true) ∧ (src ≠ .tumbler) ∧ (s.ctxs.length = 256) ∧ (s.ctxUsed n = false) ∧ (s.ctxs.all (fun c => !c.w0.getLsbD 0) = true) ∧ (w.getLsbD 0 = true) ∧ (w.getLsbD 4 = false) ∧ (2 ≤ w.toNat / 2 % 8) ∧ (w.toNat / 2 % 8 ≤ 4) ∧ (b.toNat % 4096 = 0) ∧ (strideOk st = true) ∧ (0x83000000 ≤ b.toNat) ∧ (b.toNat + w.toNat / 2 % 8 * st.toNat ≤ s.dramEnd)) ({ linked with eng := { st := .join, dramGib := 4 } }) (7) (0x83000000) (0x4000000) (.portA) (255)) ∧
  ((fun (s : State) (d : Ctx) (src : Source) (n : Fin 256) (words : List (Fin 4 × Word)) => (s.Calm) ∧ (s.canAccess src = true) ∧ (s.accessLegal src true (0x40000 + 64 * n.val) = true) ∧ (src ≠ .tumbler) ∧ (s.ctxs.length = 256) ∧ (words ≠ []) ∧ (d = words.foldl (fun c p => c.setWord p.1.val p.2) (s.ctx n)) ∧ (s.ctxBusy n (s.ctx n) d = false) ∧ (d.badLen (words.any fun p => decide (p.1.val = 2)) = false) ∧ ((d.enable && !d.idle) = true → 0x83000000 ≤ d.range.1 ∧ d.range.2 ≤ s.dramEnd) ∧ ((List.range 256).all (fun m => decide (m = n.val ∨ d.range.2 ≤ d.range.1 ∨ (s.ctx m).range.2 ≤ (s.ctx m).range.1 ∨ d.range.2 ≤ (s.ctx m).range.1 ∨ (s.ctx m).range.2 ≤ d.range.1)) = true)) ({ linked with eng := { st := .join, dramGib := 4 } }) ({ w0 := 7, base := 0x83000000, stride := 0x4000000 }) (.portA) (255) ([(0, 7), (1, 0x83000000), (2, 0x4000000)])) ∧
  ((fun (s : State) (w : Word) (src : Source) (n : Fin 256) => (s.Calm) ∧ (s.canAccess src = true) ∧ (s.accessLegal src true (0x40000 + 64 * n.val) = true) ∧ (src ≠ .tumbler) ∧ (s.ctxs.length = 256) ∧ (s.ctxUsed n = true) ∧ ((s.ctx n).w0.getLsbD 0 = true) ∧ (w.getLsbD 0 = false)) ({ linked with ctxs := { w0 := 7 } :: List.replicate 255 {}, comp := { layers := { active := { w0 := 1 } } :: List.replicate 15 {} } }) (6) (.portA) (0)) ∧
  ((fun (s : State) (k : KeySlot) (data : List Byte) (c : Ctx) (b : Nat) (p : Port) (f : Frame) => (s.Calm) ∧ (s.gets p f = true) ∧ (hType f.hdr = 1) ∧ (s.ctxs.length = 256) ∧ ((s.ctx (hCtx f.hdr)).w0.getLsbD 0 = true) ∧ ((s.ctx (hCtx f.hdr)).w0.getLsbD 4 = false) ∧ (fld (s.ctx (hCtx f.hdr)).w0 27 16 = 0 ∨ fld (s.ctx (hCtx f.hdr)).w0 27 16 = hSrc f.hdr) ∧ (s.unitFenced 3 = false) ∧ ((s.link p).delivered = some (f, some k)) ∧ (streamOpen k f = some data) ∧ ((s.ctx (hCtx f.hdr)).checkReplay k (BitVec.ofNat 32 (hSeq f.hdr)) = some c) ∧ (data ≠ []) ∧ (leAt f.payload 4 4 + data.length ≤ (s.ctx (hCtx f.hdr)).stride.toNat) ∧ ((s.ctx (hCtx f.hdr)).land = none) ∧ (s.chooseBuf (hCtx f.hdr) = some b)) ({ linked with linkA := { st := .active, delivered := some (sampleStream, some sampleKey) }, ctxs := { w0 := 7, base := 0x83000000, stride := 4096 } :: List.replicate 255 {} }) (sampleKey) ([1, 2, 3, 4]) ({ w0 := 7, base := 0x83000000, stride := 4096, any := true }) (0) (.a) (sampleStream)) ∧
  ((fun (s : State) (k : KeySlot) (data : List Byte) (c : Ctx) (l : Land) (p : Port) (f : Frame) => (s.Calm) ∧ (s.gets p f = true) ∧ (hType f.hdr = 1) ∧ (s.ctxs.length = 256) ∧ ((s.ctx (hCtx f.hdr)).w0.getLsbD 0 = true) ∧ ((s.ctx (hCtx f.hdr)).w0.getLsbD 4 = false) ∧ (fld (s.ctx (hCtx f.hdr)).w0 27 16 = 0 ∨ fld (s.ctx (hCtx f.hdr)).w0 27 16 = hSrc f.hdr) ∧ (s.unitFenced 3 = false) ∧ ((s.link p).delivered = some (f, some k)) ∧ (streamOpen k f = some data) ∧ ((s.ctx (hCtx f.hdr)).checkReplay k (BitVec.ofNat 32 (hSeq f.hdr)) = some c) ∧ (data ≠ []) ∧ (leAt f.payload 4 4 + data.length ≤ (s.ctx (hCtx f.hdr)).stride.toNat) ∧ ((s.ctx (hCtx f.hdr)).land = some l) ∧ (l.frame = BitVec.ofNat 32 (leAt f.payload 0 4)) ∧ (l.dropped = false)) ({ linked with linkA := { st := .active, delivered := some (sampleStream, some sampleKey) }, ctxs := { w0 := 7, base := 0x83000000, stride := 4096, land := some { frame := 0, buf := 1, ranges := [], last := none, dropped := false } } :: List.replicate 255 {} }) (sampleKey) ([1, 2, 3, 4]) ({ w0 := 7, base := 0x83000000, stride := 4096, any := true, land := some { frame := 0, buf := 1, ranges := [], last := none, dropped := false } }) ({ frame := 0, buf := 1, ranges := [], last := none, dropped := false }) (.a) (sampleStream)) ∧
  ((fun (s : State) (k : KeySlot) (data : List Byte) (c : Ctx) (p : Port) (f : Frame) => (s.Calm) ∧ (s.gets p f = true) ∧ (hType f.hdr = 1) ∧ (s.ctxs.length = 256) ∧ ((s.ctx (hCtx f.hdr)).w0.getLsbD 0 = true) ∧ ((s.ctx (hCtx f.hdr)).w0.getLsbD 4 = false) ∧ (fld (s.ctx (hCtx f.hdr)).w0 27 16 = 0 ∨ fld (s.ctx (hCtx f.hdr)).w0 27 16 = hSrc f.hdr) ∧ (s.unitFenced 3 = false) ∧ ((s.link p).delivered = some (f, some k)) ∧ (streamOpen k f = some data) ∧ ((s.ctx (hCtx f.hdr)).checkReplay k (BitVec.ofNat 32 (hSeq f.hdr)) = some c) ∧ (data = [] ∨ (s.ctx (hCtx f.hdr)).stride.toNat < leAt f.payload 4 4 + data.length)) ({ linked with linkA := { st := .active, delivered := some (sampleStream, some sampleKey) }, ctxs := { w0 := 7, base := 0x83000000 } :: List.replicate 255 {} }) (sampleKey) ([1, 2, 3, 4]) ({ w0 := 7, base := 0x83000000, any := true }) (.a) (sampleStream)) ∧
  ((fun (s : State) (k : KeySlot) (data : List Byte) (p : Port) (f : Frame) => (s.Calm) ∧ (s.gets p f = true) ∧ (hType f.hdr = 1) ∧ (s.ctxs.length = 256) ∧ ((s.ctx (hCtx f.hdr)).w0.getLsbD 0 = true) ∧ ((s.ctx (hCtx f.hdr)).w0.getLsbD 4 = false) ∧ (fld (s.ctx (hCtx f.hdr)).w0 27 16 = 0 ∨ fld (s.ctx (hCtx f.hdr)).w0 27 16 = hSrc f.hdr) ∧ (s.unitFenced 3 = false) ∧ ((s.link p).delivered = some (f, some k)) ∧ (streamOpen k f = some data) ∧ ((s.ctx (hCtx f.hdr)).checkReplay k (BitVec.ofNat 32 (hSeq f.hdr)) = none)) ({ linked with linkA := { st := .active, delivered := some (sampleStream, some sampleKey) }, ctxs := { w0 := 7, base := 0x83000000, stride := 4096, any := true } :: List.replicate 255 {} }) (sampleKey) ([1, 2, 3, 4]) (.a) (sampleStream)) ∧
  ((fun (s : State) (k : KeySlot) (p : Port) (f : Frame) => (s.Calm) ∧ (s.gets p f = true) ∧ (hType f.hdr = 1) ∧ (s.ctxs.length = 256) ∧ ((s.ctx (hCtx f.hdr)).w0.getLsbD 0 = true) ∧ ((s.ctx (hCtx f.hdr)).w0.getLsbD 4 = false) ∧ (fld (s.ctx (hCtx f.hdr)).w0 27 16 = 0 ∨ fld (s.ctx (hCtx f.hdr)).w0 27 16 = hSrc f.hdr) ∧ (s.unitFenced 3 = false) ∧ ((s.link p).delivered = some (f, some k)) ∧ (streamOpen k f = none)) ({ linked with linkA := { st := .active, delivered := some (frameTo 1 [], some { key := 0, gmac := true, gen := 0 }) }, ctxs := { w0 := 7, base := 0x83000000, stride := 4096 } :: List.replicate 255 {} }) ({ key := 0, gmac := true, gen := 0 }) (.a) (frameTo 1 [])) ∧
  ((fun (s : State) (p : Port) (f : Frame) => (s.Calm) ∧ (s.gets p f = true) ∧ (hType f.hdr = 1) ∧ ((s.ctx (hCtx f.hdr)).w0.getLsbD 0 = false)) (linked) (.a) (frameTo 1 [])) ∧
  ((fun (s : State) (p : Port) (f : Frame) => (s.Calm) ∧ (s.gets p f = true) ∧ (hType f.hdr = 8) ∧ (s.cmdTagOk 0x04 f (f.payload.length - 8) = true) ∧ (s.ward.updSeqOk (hSrc f.hdr) (hSeq f.hdr) = true) ∧ (20 ≤ f.payload.length) ∧ (f.payload.length ≤ 9208) ∧ (f.payload.length % 4 = 0) ∧ (leAt f.payload 4 4 = 0) ∧ (s.nvm.phase = .receiving) ∧ (s.staged < 65536) ∧ (s.pwr.noNewStore = false) ∧ (leAt f.payload 0 4 = s.nvm.nextOffset.toNat) ∧ (s.nvm.nextOffset.toNat + (f.payload.length - 16) ≤ (s.nvm.slot s.nvm.updTarget).bodyLen)) (inSession { linked with nvm := { phase := .receiving, slot0 := { header := List.replicate 14 0 ++ [1] ++ List.replicate 1009 0 } } }) (.a) (sealedCmd 4 12 (frameTo 8 (List.replicate 20 0)))) ∧
  ((fun (s : State) (p : Port) (f : Frame) => (s.Calm) ∧ (s.gets p f = true) ∧ (hType f.hdr = 8) ∧ (s.cmdTagOk 0x04 f (f.payload.length - 8) = true) ∧ (s.ward.updSeqOk (hSrc f.hdr) (hSeq f.hdr) = true) ∧ (20 ≤ f.payload.length) ∧ (f.payload.length ≤ 9208) ∧ (f.payload.length % 4 = 0) ∧ (leAt f.payload 4 4 = 0) ∧ (s.nvm.phase ≠ .receiving ∨ leAt f.payload 0 4 ≠ s.nvm.nextOffset.toNat)) (inSession linked) (.a) (sealedCmd 4 12 (frameTo 8 (List.replicate 20 0)))) ∧
  ((fun (s : State) (p : Port) (f : Frame) => (s.Calm) ∧ (s.gets p f = true) ∧ (hType f.hdr = 8) ∧ (s.cmdTagOk 0x04 f (f.payload.length - 8) = false)) (linked) (.a) (frameTo 8 (List.replicate 20 0))) ∧
  ((fun (s : State) (src : Source) (w : Word) => (s.Calm) ∧ (s.canAccess src = true) ∧ (s.accessLegal src true (0x3C24) = true) ∧ (isService src = true) ∧ (s.nvm.phase = .receiving) ∧ (s.staged < 65536) ∧ (s.pwr.noNewStore = false) ∧ (s.nvm.nextOffset.toNat + 4 ≤ (s.nvm.slot s.nvm.updTarget).bodyLen)) (unsealed { linked with nvm := { phase := .receiving, slot0 := { header := List.replicate 14 0 ++ [1] ++ List.replicate 1009 0 } } }) (.service) (5)) ∧
  ((fun (s : State) (src : Source) (w : Word) => (s.Calm) ∧ (s.canAccess src = true) ∧ (s.accessLegal src true (0x3C24) = true) ∧ (isService src = true) ∧ (s.nvm.phase ≠ .receiving)) (unsealed linked) (.service) (5)) := by
  refine ⟨?_, ?_, ?_, ?_, ?_, ?_, ?_, ?_, ?_, ?_, ?_, ?_, ?_, ?_, ?_⟩
  · decide
  · decide
  · decide
  · decide
  · exact ⟨by decide, by decide, by decide, by decide, by decide, by decide, by decide, by decide, by decide, streamOpen_sample, by decide, by decide, by decide, by decide, by decide⟩
  · exact ⟨by decide, by decide, by decide, by decide, by decide, by decide, by decide, by decide, by decide, streamOpen_sample, by decide, by decide, by decide, by decide, by decide, by decide⟩
  · exact ⟨by decide, by decide, by decide, by decide, by decide, by decide, by decide, by decide, by decide, streamOpen_sample, by decide, by decide⟩
  · exact ⟨by decide, by decide, by decide, by decide, by decide, by decide, by decide, by decide, by decide, streamOpen_sample, by decide⟩
  · decide
  · decide
  · exact ⟨by decide +kernel, by decide +kernel, by decide +kernel, cmdTagOk_sealed _ _ _ _ rfl (by decide), by decide +kernel, by decide +kernel, by decide +kernel, by decide +kernel, by decide +kernel, by decide +kernel, by decide +kernel, by decide +kernel, by decide +kernel, by decide +kernel⟩
  · exact ⟨by decide +kernel, by decide +kernel, by decide +kernel, cmdTagOk_sealed _ _ _ _ rfl (by decide), by decide +kernel, by decide +kernel, by decide +kernel, by decide +kernel, by decide +kernel, by decide +kernel⟩
  · decide
  · exact ⟨by decide +kernel, by decide +kernel, by decide +kernel, by decide +kernel, by decide +kernel, by decide +kernel, by decide +kernel, by decide +kernel⟩
  · exact ⟨by decide +kernel, by decide +kernel, by decide +kernel, by decide +kernel, by decide +kernel⟩

set_option maxRecDepth 100000 in
set_option linter.unusedVariables false in
theorem witness_NvmStoresComplete :
  ((fun (s : State) (x : Settings) => (s.Calm) ∧ (s.pwr.noNewStore = false) ∧ (s.unitFenced 9 = false) ∧ (s.nvm.jobSettings = some x) ∧ (s.targetReady .settings = true) ∧ (s.nvm.shortRuns = false) ∧ (s.cmd.shutdownFrom = none) ∧ (s.losers 22 = [])) ({ linked with nvm := { jobSettings := some { tileId := 5 }, stValid := false } }) ({ tileId := 5 })) ∧
  ((fun (s : State) => (s.Calm) ∧ (s.pwr.noNewStore = false) ∧ (s.unitFenced 9 = false) ∧ (s.nvm.jobSettings.isSome = true) ∧ (s.targetReady .settings = true) ∧ (s.nvm.shortRuns = false) ∧ (s.cmd.shutdownFrom = none)) ({ linked with nvm := { jobSettings := some { tileId := 5 }, stValid := false } })) ∧
  ((fun (s : State) (x : Sparse (BitVec 32)) => (s.Calm) ∧ (s.pwr.noNewStore = false) ∧ (s.unitFenced 9 = false) ∧ (s.nvm.jobRetained = some x) ∧ (s.targetReady .retained = true) ∧ (s.nvm.shortRuns = false) ∧ (s.losers 22 = [])) ({ linked with nvm := { jobRetained := some [(3, 7)] } }) ([(3, 7)])) ∧
  ((fun (s : State) => (s.Calm) ∧ (s.pwr.noNewStore = false) ∧ (s.unitFenced 9 = false) ∧ (s.nvm.jobRetained.isSome = true) ∧ (s.targetReady .retained = true) ∧ (s.nvm.shortRuns = false)) ({ linked with nvm := { jobRetained := some [(3, 7)] } })) ∧
  ((fun (s : State) (x : Sparse (BitVec 32)) => (s.Calm) ∧ (s.pwr.noNewStore = false) ∧ (s.unitFenced 9 = false) ∧ (s.nvm.jobProg = some x) ∧ (s.targetReady .program = true) ∧ (s.nvm.shortRuns = false) ∧ (s.losers 22 = [])) ({ linked with nvm := { jobProg := some [(3, 7)] } }) ([(3, 7)])) ∧
  ((fun (s : State) (kind : NvmJob) => (s.Calm) ∧ (s.pwr.noNewStore = false) ∧ (s.unitFenced 9 = false) ∧ (s.nvm.erasing.contains (jobKind kind) = true) ∧ (s.nvm.settingsAgain = false) ∧ (s.eraseWaits = false)) ({ linked with nvm := { erasing := [.retained] } }) (.retained)) ∧
  ((fun (s : State) (src : Source) (w : Word) => (s.Calm) ∧ (s.canAccess src = true) ∧ (s.accessLegal src true (0x3C30) = true) ∧ (isService src = true) ∧ (s.eng.st = .service) ∧ (w.getLsbD 1 = false)) (unsealed (inState .service)) (.service) (0)) ∧
  ((fun (s : State) (src : Source) (w : Word) => (s.Calm) ∧ (s.canAccess src = true) ∧ (s.accessLegal src true (0x3C38) = true) ∧ (isService src = true) ∧ (s.eng.st = .service) ∧ (s.nvm.cairnOpen = true) ∧ (s.nvm.cairnCount < 65536)) ({ unsealed (inState .service) with nvm := { cairnOpen := true } }) (.service) (7)) ∧
  ((fun (s : State) (src : Source) (w : Word) => (s.Calm) ∧ (s.canAccess src = true) ∧ (s.accessLegal src true (0x3C30) = true) ∧ (isService src = true) ∧ (s.eng.st = .service) ∧ (s.pwr.noNewStore = false) ∧ (s.unitFenced 9 = false) ∧ (s.nvm.journal = none) ∧ (s.nvm.cairnOpen = true) ∧ (s.nvm.cairnCount = 65536) ∧ (w.getLsbD 0 = false) ∧ (s.nvm.cairnCrc.toNat = crc32 (planeBytes s.nvm.cairnBuf))) ({ unsealed (inState .service) with nvm := { cairnOpen := true, cairnCount := 65536, cairnCrc := BitVec.ofNat 32 (crc32 (planeBytes [])) } }) (.service) (2)) ∧
  ((fun (s : State) (src : Source) (w : Word) => (s.Calm) ∧ (s.canAccess src = true) ∧ (s.accessLegal src true (0x3C30) = true) ∧ (isService src = true) ∧ (s.eng.st = .service) ∧ (s.nvm.journal = none) ∧ (s.nvm.cairnOpen = true) ∧ (s.nvm.cairnCount = 65536) ∧ (w.getLsbD 0 = false) ∧ (s.nvm.cairnCrc.toNat ≠ crc32 (planeBytes s.nvm.cairnBuf))) ({ unsealed (inState .service) with nvm := { cairnOpen := true, cairnCount := 65536, cairnCrc := BitVec.ofNat 32 (crc32 (planeBytes [])) + 1 } }) (.service) (2)) ∧
  ((fun (s : State) (src : Source) (w : Word) => (s.Calm) ∧ (s.canAccess src = true) ∧ (s.accessLegal src true (0x3C30) = true) ∧ (isService src = true) ∧ (s.eng.st = .service) ∧ (s.nvm.journal = none) ∧ (s.nvm.cairnCount ≠ 65536) ∧ (w.getLsbD 0 = false)) ({ unsealed (inState .service) with nvm := { cairnOpen := true } }) (.service) (2)) ∧
  ((fun (s : State) (x : Sparse (BitVec 32)) (h : CairnHeader) => (s.Calm) ∧ (s.pwr.noNewStore = false) ∧ (s.unitFenced 9 = false) ∧ (s.nvm.journal = some (x, h)) ∧ (s.nvm.cairnValid = false) ∧ (s.nvm.storeRuns = false)) ({ linked with nvm := { journal := some ([(1, 5)], { palette := [], crc := 0 }), cairnValid := false } }) ([(1, 5)]) ({ palette := [], crc := 0 })) ∧
  ((fun (s : State) => (s.Calm) ∧ (s.pwr.noNewStore = false) ∧ (s.unitFenced 9 = false) ∧ (s.nvm.journal.isSome = true) ∧ (s.nvm.cairnValid = false) ∧ (s.nvm.storeRuns = false)) ({ linked with nvm := { journal := some ([(1, 5)], { palette := [], crc := 0 }), cairnValid := false } })) ∧
  ((fun (s : State) => (s.Calm) ∧ (s.running = true) ∧ (s.nvm.reload = true) ∧ (s.saf.func ≠ some .ssg)) ({ linked with nvm := { reload := true, plane := [(2, 3)] } })) ∧
  ((fun (s : State) (e : LogEntry) (rest : List LogEntry) => (s.Calm) ∧ (s.running = true) ∧ (s.unitFenced 9 = false) ∧ (s.nvm.logQueue = e :: rest) ∧ (s.nvm.working = false) ∧ (s.pwr.noNewStore = false)) ({ linked with nvm := { logQueue := [{ typ := 1, detail := 2, time := 0, data := [] }] } }) ({ typ := 1, detail := 2, time := 0, data := [] }) ([])) := by
  refine ⟨?_, ?_, ?_, ?_, ?_, ?_, ?_, ?_, ?_, ?_, ?_, ?_, ?_, ?_, ?_⟩
  · decide
  · decide
  · decide
  · decide
  · decide
  · decide
  · exact ⟨by decide +kernel, by decide +kernel, by decide +kernel, by decide +kernel, by decide +kernel, by decide +kernel⟩
  · exact ⟨by decide +kernel, by decide +kernel, by decide +kernel, by decide +kernel, by decide +kernel, by decide +kernel, by decide +kernel⟩
  · exact ⟨by decide +kernel, by decide +kernel, by decide +kernel, by decide +kernel, by decide +kernel, by decide +kernel, by decide +kernel, by decide +kernel, by decide +kernel, by decide +kernel, by decide +kernel, toNat_crc32 _⟩
  · exact ⟨by decide +kernel, by decide +kernel, by decide +kernel, by decide +kernel, by decide +kernel, by decide +kernel, by decide +kernel, by decide +kernel, by decide +kernel, toNat_crc32_succ_ne _⟩
  · exact ⟨by decide +kernel, by decide +kernel, by decide +kernel, by decide +kernel, by decide +kernel, by decide +kernel, by decide +kernel, by decide +kernel⟩
  · decide
  · decide
  · decide
  · decide

set_option maxRecDepth 100000 in
set_option linter.unusedVariables false in
theorem witness_UpdateCompletes :
  ((fun (s : State) => (s.Calm) ∧ (s.pwr.noNewStore = false) ∧ (s.nvm.phase = .erasing)) ({ linked with nvm := { phase := .erasing } })) ∧
  ((fun (s : State) => (s.Calm) ∧ (s.pwr.noNewStore = false) ∧ (s.nvm.phase = .verifying) ∧ ((s.nvm.slot s.nvm.updTarget).digestOk = true)) ({ linked with nvm := { phase := .verifying, slot0 := { header := List.replicate 0x30 0 ++ sha384 [] ++ List.replicate 928 0 } } })) ∧
  ((fun (s : State) => (s.Calm) ∧ (s.pwr.noNewStore = false) ∧ (s.nvm.phase = .verifying) ∧ (s.eng.st ≠ .update) ∧ ((s.nvm.slot s.nvm.updTarget).digestOk = false)) ({ linked with nvm := { phase := .verifying } })) ∧
  ((fun (s : State) => (s.Calm) ∧ (s.pwr.noNewStore = false) ∧ (s.nvm.phase = .verifying) ∧ (s.eng.st = .update) ∧ (s.eng.beforeUpdate ≠ .update) ∧ (s.eng.beforeUpdate ≠ .service) ∧ (s.losers 24 = []) ∧ ((s.nvm.slot s.nvm.updTarget).digestOk = false)) ({ State.reset with eng := { st := .update, beforeUpdate := .dark }, nvm := { phase := .verifying } })) ∧
  ((fun (s : State) (src : Source) (w : Word) => (s.Calm) ∧ (s.canAccess src = true) ∧ (s.accessLegal src true (0x3C14) = true) ∧ (s.writable src 0x3C14 = true) ∧ (s.mayConfirm = true)) ({ linked with nvm := { trial := true, migrated := true, darkAt := some 0, holdS := 0 } }) (.portA) (0)) ∧
  ((fun (s : State) (src : Source) (w : Word) => (s.Calm) ∧ (s.canAccess src = true) ∧ (s.accessLegal src true 0x3C14 = true) ∧ (s.writable src 0x3C14 = true) ∧ (s.mayConfirm = false)) (linked) (.portA) (0)) ∧
  ((fun (s : State) => (s.Calm) ∧ (s.mayConfirm = true) ∧ (s.nvm.autoConfirm = true ∨ s.nvm.confirmAsked = true)) ({ linked with nvm := { trial := true, migrated := true, darkAt := some 0, holdS := 0 } })) ∧
  ((fun (s : State) => (s.Calm) ∧ (s.pwr.noNewStore = false) ∧ (s.running = true) ∧ (s.nvm.trial = true) ∧ (s.nvm.fallbackDue = false) ∧ (s.unitFenced 4 = false)) ({ linked with nvm := { trial := true } })) ∧
  ((fun (s : State) => (s.Calm) ∧ (s.running = true) ∧ (s.nvm.trial = true) ∧ (s.nvm.fallbackDue = false) ∧ (s.unitFenced 4 = true)) ({ linked with nvm := { trial := true }, flt := { fences := 0x10 } })) := by
  refine ⟨?_, ?_, ?_, ?_, ?_, ?_, ?_, ?_, ?_⟩
  · decide
  · decide +kernel
  · decide +kernel
  · decide +kernel
  · decide
  · decide
  · decide
  · decide
  · decide

set_option maxRecDepth 100000 in
set_option linter.unusedVariables false in
theorem witness_CompositionCompletes :
  ((fun (s : State) (src : Source) (w : Word) => (s.Calm) ∧ (s.canAccess src = true) ∧ (s.accessLegal src true (0x1C10) = true) ∧ (s.legal 0x04 = true) ∧ (s.comp.queue = [])) ({ linked with eng := { st := .dark } }) (.portA) (0x7F01FFFF)) ∧
  ((fun (s : State) (src : Source) (w : Word) => (s.Calm) ∧ (s.canAccess src = true) ∧ (s.accessLegal src true 0x1C10 = true) ∧ (s.legal 0x04 = true) ∧ (s.comp.queue.length = 5)) ({ linked with eng := { st := .dark }, comp := { queue := List.replicate 5 { mask := 1, globals := false, token := 0, by_ := .register } } }) (.portA) (1)) ∧
  ((fun (s : State) (snap : CommitSnap) (q : CommitReq) => (s.Calm) ∧ (s.comp.admitting = some snap) ∧ (s.comp.queue = [q]) ∧ (q.by_ = .register) ∧ (s.losers 20 = []) ∧ ((s.admission snap q).1 = 0)) ({ linked with comp := { queue := [{ mask := 1, globals := false, token := 9, by_ := .register }], admitting := some { layers := [], bg := 0, conf := 0 } } }) ({ layers := [], bg := 0, conf := 0 }) ({ mask := 1, globals := false, token := 9, by_ := .register })) ∧
  ((fun (s : State) (snap : CommitSnap) (q : CommitReq) => (s.Calm) ∧ (s.comp.admitting = some snap) ∧ (s.comp.queue = [q]) ∧ (q.by_ = .register) ∧ (s.losers 20 = []) ∧ ((s.admission snap q).1 ≠ 0)) ({ linked with comp := { queue := [{ mask := 1, globals := false, token := 9, by_ := .register }], admitting := some { layers := [{ w0 := 1 }], bg := 0, conf := 0 } } }) ({ layers := [{ w0 := 1 }], bg := 0, conf := 0 }) ({ mask := 1, globals := false, token := 9, by_ := .register })) ∧
  ((fun (s : State) (snap : CommitSnap) (q : CommitReq) (rest : List CommitReq) => (s.Calm) ∧ (s.comp.admitting = some snap) ∧ (s.comp.queue = q :: rest)) ({ linked with comp := { queue := [{ mask := 1, globals := false, token := 9, by_ := .register }, { mask := 2, globals := false, token := 3, by_ := .register }], admitting := some { layers := [], bg := 0, conf := 0 } } }) ({ layers := [], bg := 0, conf := 0 }) ({ mask := 1, globals := false, token := 9, by_ := .register }) ([{ mask := 2, globals := false, token := 3, by_ := .register }])) ∧
  ((fun (s : State) (snap : CommitSnap) (q : CommitReq) => (s.Calm) ∧ (s.comp.admitting = some snap) ∧ (s.comp.queue = [q]) ∧ (q.by_ = .register) ∧ (q.globals = false) ∧ (q.mask.getLsbD 0 = true) ∧ ((snap.layers.getD 0 {}).w0.getLsbD 0 = true) ∧ ((snap.layers.getD 0 {}).w3.toNat % 16384 = 0) ∧ (s.unitFenced 0 = false) ∧ (s.losers 20 = [])) ({ linked with comp := { queue := [{ mask := 1, globals := false, token := 9, by_ := .register }], admitting := some { layers := [{ w0 := 1 }], bg := 0, conf := 0 } } }) ({ layers := [{ w0 := 1 }], bg := 0, conf := 0 }) ({ mask := 1, globals := false, token := 9, by_ := .register })) ∧
  ((fun (s : State) (n : Nat) => (s.Calm) ∧ (s.running = true) ∧ (s.eng.st ≠ .boot) ∧ (s.takeDue n = true)) ({ linked with time := { valid := true, refW := 65536000000000 }, comp := { pending := some { layers := [{ w0 := 1 }], mask := 1, globals := none } } }) (7)) ∧
  ((fun (s : State) (m : Mode) (n : Nat) => (s.Calm) ∧ (s.running = true) ∧ (s.eng.st ≠ .boot) ∧ (s.takeDue n = true) ∧ (s.comp.pendingMode = some m) ∧ (m.target = 0)) ({ linked with time := { valid := true, refW := 65536000000000 }, comp := { pendingMode := some { num := 50, den := 1, seg := 0x515, depth := 16, vblankUs := 200, target := 0 } } }) ({ num := 50, den := 1, seg := 0x515, depth := 16, vblankUs := 200, target := 0 }) (7)) ∧
  ((fun (s : State) (i : Nat) (f : Word) (b : Nat) (n : Nat) => (s.Calm) ∧ (s.running = true) ∧ (s.eng.st ≠ .boot) ∧ (s.takeDue n = true) ∧ (s.comp.pending = none) ∧ (s.comp.layers.length = 16) ∧ (i < 16) ∧ ((s.layer i).active.enable = true) ∧ ((s.layer i).active.pinned = false) ∧ ((s.layer i).active.group = 0) ∧ (s.newestOf (s.layer i).active = some (f, b)) ∧ (f ≠ (s.layer i).shownSeq)) ({ linked with time := { valid := true, refW := 65536000000000 }, ctxs := { newest := 4, newestBuf := 2, hasNewest := true } :: List.replicate 255 {}, comp := { layers := { active := { w0 := 1 } } :: List.replicate 15 {} } }) (0) (4) (2) (7)) ∧
  ((fun (s : State) (n : Nat) => (s.Calm) ∧ (s.running = true) ∧ (s.eng.st ≠ .boot) ∧ (s.time.valid = true) ∧ (s.flipDue n = true) ∧ (s.comp.rateStep ≠ 1)) ({ linked with time := { valid := true, refW := 65536000000000 } }) (3)) ∧
  ((fun (s : State) (n : Nat) => (s.Calm) ∧ (s.running = true) ∧ (s.eng.st ≠ .boot) ∧ (s.time.valid = true) ∧ (s.flipDue n = true) ∧ (s.comp.rateStep = 1)) ({ linked with time := { valid := true, refW := 65536000000000 }, comp := { rateStep := 1, rateFlip := 3 } }) (3)) ∧
  ((fun (s : State) (n : Nat) => (s.Calm) ∧ (s.localFlipDue n = true) ∧ (s.time.valid = false)) ({ linked with time := { local_ := 65536000000000 }, rings := { cairnOn := true } }) (3)) ∧
  ((fun (s : State) (obs : BandObs) => (s.Calm) ∧ (s.running = true) ∧ (s.eng.st ≠ .boot) ∧ (s.comp.composing = true) ∧ (s.comp.composed < 256) ∧ (s.comp.rateStep = 0) ∧ (s.comp.bands = s.comp.composed) ∧ (s.col.halted = false)) ({ linked with comp := { composing := true } }) ({ badZones := [5], badBursts := [7] })) ∧
  ((fun (s : State) (obs : BandObs) => (s.Calm) ∧ (s.running = true) ∧ (s.eng.st ≠ .boot) ∧ (s.comp.composing = true) ∧ (s.comp.composed < 256) ∧ (s.comp.rateStep = 0) ∧ (s.comp.bands = s.comp.composed) ∧ (s.col.halted = false) ∧ (obs.badZones = []) ∧ (obs.badBursts = []) ∧ (s.comp.confOn = false) ∧ (s.col.calRunning = false)) ({ linked with comp := { composing := true } }) ({ badZones := [], badBursts := [] })) ∧
  ((fun (s : State) (obs : BandObs) => (s.Calm) ∧ (s.running = true) ∧ (s.eng.st ≠ .boot) ∧ (s.comp.composing = true) ∧ (s.comp.composed < 256) ∧ (s.comp.rateStep = 0) ∧ (s.col.halted = true ∨ s.comp.bands ≠ s.comp.composed)) ({ linked with comp := { composing := true, composed := 2 } }) ({ badZones := [], badBursts := [] })) ∧
  ((fun (s : State) => (s.Calm) ∧ (s.unitFenced 4 = false) ∧ (s.col.rebuild ≠ [])) ({ linked with col := { rebuild := [3] } })) := by
  refine ⟨?_, ?_, ?_, ?_, ?_, ?_, ?_, ?_, ?_, ?_, ?_, ?_, ?_, ?_, ?_, ?_⟩ <;> decide

set_option maxRecDepth 100000 in
set_option linter.unusedVariables false in
theorem witness_ColourCompletes :
  ((fun (s : State) (src : Source) (w : Word) => (s.Calm) ∧ (s.canAccess src = true) ∧ (s.accessLegal src true (0x2058) = true) ∧ (s.col.landings = []) ∧ (w.getLsbD 0 = true ∨ w.getLsbD 1 = true)) (linked) (.portA) (3)) ∧
  ((fun (s : State) (src : Source) (w : Word) => (s.Calm) ∧ (s.canAccess src = true) ∧ (s.accessLegal src true (0x2058) = true) ∧ (w.getLsbD 0 = false) ∧ (w.getLsbD 1 = false) ∧ (s.losers 21 = [])) (linked) (.portA) (0x05000000)) ∧
  ((fun (s : State) (l : Landing) => (s.Calm) ∧ (nextLanding s.col.landings = some l) ∧ (l.by_ = .register) ∧ (s.losers 21 = [])) ({ linked with col := { landings := [{ env := some [(3, 4)], colour := none, token := 9, by_ := .register }] } }) ({ env := some [(3, 4)], colour := none, token := 9, by_ := .register })) ∧
  ((fun (s : State) (src : Source) (w : Word) => (s.Calm) ∧ (s.canAccess src = true) ∧ (s.accessLegal src true (0x2048) = true) ∧ ((s.per src).envAddr < 1024)) (linked) (.portA) (0x12345678)) ∧
  ((fun (s : State) (src : Source) (w : Word) => (s.Calm) ∧ (s.canAccess src = true) ∧ (s.accessLegal src true (0x204C) = true)) ({ linked with col := { fillCap := 5 } }) (.portA) (0x0FC00)) ∧
  ((fun (s : State) (src : Source) (w : Word) => (s.Calm) ∧ (s.canAccess src = true) ∧ (s.accessLegal src true (0x206C) = true) ∧ ((s.per src).tfAddr < 4096)) (linked) (.portA) (0xFFFFFFFF)) ∧
  ((fun (s : State) (q : CalReq) (rest : List CalReq) => (s.Calm) ∧ (s.col.calRunning = true) ∧ (s.col.calQueue = q :: rest)) ({ linked with col := { calRunning := true, calPos := 3, calQueue := [{ x := 4, y := 5, w := 2, h := 2, add := false, fence := true, unfence := false, ug := [1, 2, 3] }] } }) ({ x := 4, y := 5, w := 2, h := 2, add := false, fence := true, unfence := false, ug := [1, 2, 3] }) ([])) ∧
  ((fun (s : State) (q : CalReq) (rest : List CalReq) => (s.Calm) ∧ (s.col.calRunning = true) ∧ (s.col.calQueue = q :: rest) ∧ (s.col.calPos = 0) ∧ (q.x + q.w ≤ 1024) ∧ (q.y + q.h ≤ 1024)) ({ linked with col := { calRunning := true, calQueue := [{ x := 4, y := 5, w := 2, h := 2, add := false, fence := true, unfence := false, ug := [1, 2, 3] }] } }) ({ x := 4, y := 5, w := 2, h := 2, add := false, fence := true, unfence := false, ug := [1, 2, 3] }) ([])) ∧
  ((fun (s : State) => (s.Calm) ∧ (s.col.userStore = true) ∧ (s.unitFenced 4 = false) ∧ (s.pwr.noNewStore = false) ∧ ((s.age.busy && s.age.copying) = false) ∧ (s.cmd.shutdownFrom = none)) ({ linked with col := { userStore := true } })) ∧
  ((fun (s : State) => (s.Calm) ∧ (s.col.userStore = true) ∧ (s.unitFenced 4 = false) ∧ (s.pwr.noNewStore = false) ∧ ((s.age.busy && s.age.copying) = false) ∧ (s.cmd.shutdownFrom = none) ∧ (s.losers 22 = [])) ({ linked with col := { userStore := true } })) := by
  refine ⟨?_, ?_, ?_, ?_, ?_, ?_, ?_, ?_, ?_, ?_⟩ <;> decide

set_option maxRecDepth 100000 in
set_option linter.unusedVariables false in
theorem witness_RingStreamingCompletes :
  ((fun (s : State) (ring : Fin 64) => (s.Calm) ∧ (s.rings.rings.length = 64) ∧ ((s.ring ring.val).up = true) ∧ ((s.ring ring.val).rows < (s.ring ring.val).rowCount) ∧ (s.rings.cairnOn = (s.ring ring.val).cairn) ∧ (s.rowLanded ring.val (s.ring ring.val).rows = true) ∧ ((List.range (min 1024 (s.ring ring.val).n)).all (fun c => !(s.cell ring.val c).due) = true)) ({ linked with rings := { rings := { mode := .ring, allZero := true } :: List.replicate 63 {} } }) (0)) ∧
  ((fun (s : State) (ring : Fin 64) => (s.Calm) ∧ (s.rings.rings.length = 64) ∧ ((s.ring ring.val).up = true) ∧ ((s.ring ring.val).rows < (s.ring ring.val).rowCount) ∧ (s.rings.cairnOn = (s.ring ring.val).cairn) ∧ (s.rowLanded ring.val (s.ring ring.val).rows = true)) ({ linked with rings := { rings := { mode := .ring, allZero := true, rows := 31 } :: List.replicate 63 {}, cells := [(3, { due := true })] } }) (0)) ∧
  ((fun (s : State) (ring : Fin 64) (kind : Fin 4) (slots : List SlotObs) => (s.Calm) ∧ (s.rings.rings.length = 64) ∧ ((s.ring ring.val).up = true)) ({ linked with rings := { rings := { mode := .ring, lockB := { locked := true }, reads := [{ kind := 3, first := 0, count := 32, index := 4 }] } :: List.replicate 63 {} } }) (0) (3) ([{ cell := 3, words := [none] }])) ∧
  ((fun (s : State) (o : SlotObs) (p : SlotObs) (ring : Fin 64) => (s.Calm) ∧ (s.rings.rings.length = 64) ∧ ((s.ring ring.val).up = true) ∧ (((s.ring ring.val).slotsIn s.time.local_ 0 [o]).2 = [p]) ∧ ((s.ring ring.val).reaches p.cell.val = true) ∧ (p.cell.val / 32 < (s.ring ring.val).rows) ∧ ((s.cell ring.val p.cell.val).confirmed = false) ∧ ((s.cell ring.val p.cell.val).keep = false) ∧ ((s.cell ring.val p.cell.val).excluded = false) ∧ ((slotWord p 0).getLsbD 31 = true) ∧ ((slotWord p 0).getLsbD 16 = true) ∧ (fld (slotWord p 0) 27 24 = 0) ∧ (fld (slotWord p 0) 15 0 = (s.cell ring.val p.cell.val).sentCrc.toNat) ∧ ((List.range 48).all (fun e => slotEs p 2 e == 0) = true) ∧ (s.tempOff ring.val p.cell.val (fld (slotWord p 1) 7 0) = false) ∧ (s.rings.cairnShown = false)) ({ linked with rings := { rings := { mode := .ring, rows := 1, lockB := { locked := true }, reads := [{ kind := 0, first := 31, count := 1, index := 0 }] } :: List.replicate 63 {} } }) ({ cell := 31, words := hopReceive (scramblerAt 0) [some 0x80010000, some 20, some 0, some 0, some 0] }) ({ cell := 31, words := [some 0x80010000, some 20, some 0, some 0, some 0] }) (0)) ∧
  ((fun (s : State) (o : SlotObs) (p : SlotObs) (ring : Fin 64) => (s.Calm) ∧ (s.rings.rings.length = 64) ∧ ((s.ring ring.val).up = true) ∧ (((s.ring ring.val).slotsIn s.time.local_ 1 [o]).2 = [p]) ∧ ((s.ring ring.val).reaches p.cell.val = true) ∧ (s.rings.reading = .vf) ∧ ((slotWord p 0).getLsbD 12 = true)) ({ linked with rings := { reading := .vf, rings := { mode := .ring, lockB := { locked := true }, reads := [{ kind := 1, first := 31, count := 1, index := 0 }] } :: List.replicate 63 {} } }) ({ cell := 31, words := hopReceive (scramblerAt 0) [some 0x1123] }) ({ cell := 31, words := [some 0x1123] }) (0)) ∧
  ((fun (s : State) (ring : Fin 64) => (s.Calm) ∧ (s.rings.rings.length = 64) ∧ ((s.ring ring.val).up = true) ∧ ((s.ring ring.val).mode = .ring → ((s.ring ring.val).begin s.time.local_).lockB.locked = true) ∧ ((s.ring ring.val).echoed = false)) ({ linked with rings := { rings := List.replicate 64 { mode := .ring, lockB := { locked := true } } } }) (63)) ∧
  ((fun (s : State) (ring : Fin 64) (index : BitVec 6) (seq : BitVec 16) => (s.Calm) ∧ ((s.ring ring.val).up = true) ∧ ((s.ring ring.val).mode = .ring → ((s.ring ring.val).begin s.time.local_).lockB.locked = true) ∧ ((s.ring ring.val).echoed = false) ∧ (index.toNat ≠ ring.val)) ({ linked with rings := { rings := List.replicate 64 { mode := .ring, lockB := { locked := true } } } }) (63) (0) (0)) ∧
  ((fun (s : State) (ring : Fin 64) (seq : BitVec 16) => (s.Calm) ∧ ((s.ring ring.val).up = true) ∧ (seq ≠ s.rings.seq)) ({ linked with rings := { rings := List.replicate 64 { mode := .ring } } }) (63) (7)) ∧
  ((fun (s : State) (ring : Fin 64) (echo : EchoObs) => (s.Calm) ∧ ((s.ring ring.val).mode = .ring) ∧ (((s.ring ring.val).begin s.time.local_).lockB.locked = false)) ({ linked with rings := { rings := List.replicate 64 { mode := .ring } } }) (63) ({ index := 63, seq := 0 })) ∧
  ((fun (s : State) (codes : Bool) (ring : Fin 64) => (s.Calm) ∧ (s.rings.rings.length = 64) ∧ ((s.ring ring.val).mode = .ring) ∧ ((s.ring ring.val).decided = some codes) ∧ ((s.ring ring.val).outA = false) ∧ (s.signDue = false) ∧ (s.launchDue (s.ring ring.val).wNs = true)) ({ linked with rings := { rings := List.replicate 64 { mode := .ring, decided := some true } }, time := { valid := true } }) (true) (63)) ∧
  ((fun (s : State) (codes : Bool) (ring : Fin 64) => (s.Calm) ∧ (s.rings.rings.length = 64) ∧ ((s.ring ring.val).mode = .hinge) ∧ ((s.ring ring.val).aLast.isSome = true) ∧ ((s.ring ring.val).bFirst.isSome = true) ∧ ((s.ring ring.val).decided = some codes) ∧ ((s.ring ring.val).outA = false) ∧ ((s.ring ring.val).outB = false) ∧ (s.signDue = false) ∧ (s.launchDue (s.ring ring.val).wNs = true) ∧ (s.launchDue (s.ring ring.val).wB = true)) ({ linked with rings := { rings := List.replicate 64 { mode := .hinge, aLast := some 4, bFirst := some 5, decided := some true } }, time := { valid := true } }) (true) (63)) ∧
  ((fun (s : State) (codes : Bool) (ring : Fin 64) => (s.Calm) ∧ (s.rings.rings.length = 64) ∧ ((s.ring ring.val).mode = .hinge) ∧ ((s.ring ring.val).aLast.isSome = true) ∧ ((s.ring ring.val).bFirst.isSome = true) ∧ ((s.ring ring.val).decided = some codes) ∧ ((s.ring ring.val).outA = false) ∧ ((s.ring ring.val).outB = false) ∧ (s.signDue = false) ∧ (s.launchDue (s.ring ring.val).wNs = true) ∧ (s.launchDue (s.ring ring.val).wB = false)) ({ linked with rings := { rings := List.replicate 64 { mode := .hinge, aLast := some 4, bFirst := some 5, wNs := 2000000, wB := 10, decided := some true } }, time := { valid := true }, comp := { takenFlipNs := 1000000 } }) (true) (63)) ∧
  ((fun (s : State) => (s.Calm) ∧ (s.rings.cairnOn = true) ∧ (s.rings.cairnLatched = false) ∧ (s.cairnStreamed = true)) ({ linked with rings := { cairnOn := true, rings := { mode := .ring, cairn := true, rows := 32 } :: List.replicate 63 {} } })) ∧
  ((fun (s : State) (upsets : List (Fin 65536 × BitVec 32)) => (s.Calm) ∧ (s.rings.cairnOn = true) ∧ (s.rings.cairnLatched = true) ∧ (s.led.on = false) ∧ ((s.rings.upset upsets).sramGood = true)) ({ linked with rings := { cairnOn := true, cairnLatched := true, sramOk := true, sramCrc := BitVec.ofNat 32 (crc32 (RingUnit.sramBytes {})), rings := { mode := .ring, cairn := true, rows := 32 } :: List.replicate 63 {} } }) ([])) ∧
  ((fun (s : State) (upsets : List (Fin 65536 × BitVec 32)) => (s.Calm) ∧ (s.rings.cairnOn = true) ∧ (s.rings.cairnLatched = true) ∧ ((s.rings.upset upsets).sramGood = true)) ({ linked with led := { on := true }, rings := { cairnOn := true, cairnLatched := true, sramOk := true, sramCrc := BitVec.ofNat 32 (crc32 (RingUnit.sramBytes {})), rings := { mode := .ring, cairn := true, rows := 32 } :: List.replicate 63 {} } }) ([])) ∧
  ((fun (s : State) (upsets : List (Fin 65536 × BitVec 32)) => (s.Calm) ∧ (s.rings.cairnOn = true) ∧ (s.rings.cairnLatched = true) ∧ ((s.rings.upset upsets).sramGood = false)) ({ linked with rings := { cairnOn := true, cairnLatched := true, rings := { mode := .ring, cairn := true, rows := 32 } :: List.replicate 63 {} } }) ([])) ∧
  ((fun (s : State) (ring : Fin 64) => (s.Calm) ∧ (s.rings.cairnOn = true) ∧ ((s.ring ring.val).up = true) ∧ (s.ringComplete ring.val = false)) ({ linked with rings := { cairnOn := true, rings := { mode := .ring } :: List.replicate 63 {} } }) (0)) ∧
  ((fun (s : State) (src : Source) (w : Word) => (s.Calm) ∧ (s.canAccess src = true) ∧ (s.accessLegal src true (0x2448) = true) ∧ (s.eng.st = .dark ∨ s.eng.st = .lit) ∧ (s.rings.cairnOn = false) ∧ (s.rings.sweep = .none)) ({ linked with eng := { st := .dark } }) (.portA) (8)) ∧
  ((fun (s : State) (src : Source) (w : Word) => (s.Calm) ∧ (s.canAccess src = true) ∧ (s.accessLegal src true (0x2448) = true) ∧ (s.eng.st = .dark ∨ s.eng.st = .lit) ∧ (s.rings.cairnOn = false) ∧ (s.rings.sweep = .none)) ({ linked with eng := { st := .lit } }) (.portA) (8)) ∧
  ((fun (s : State) (src : Source) (w : Word) => (s.Calm) ∧ (s.canAccess src = true) ∧ (s.accessLegal src true 0x2448 = true) ∧ (s.eng.st = .dark ∨ s.eng.st = .lit) ∧ (s.rings.cairnOn = false) ∧ (s.rings.sweep ≠ .none)) ({ linked with eng := { st := .lit }, rings := { sweep := .vf } }) (.portA) (8)) ∧
  ((fun (s : State) (src : Source) (w : Word) => (s.Calm) ∧ (s.canAccess src = true) ∧ (s.accessLegal src true (0x2448) = true) ∧ (s.rings.sweep ≠ .none) ∧ (s.losers 19 = [])) ({ linked with rings := { sweep := .vf } }) (.portA) (8)) ∧
  ((fun (s : State) (src : Source) (w : Word) => (s.Calm) ∧ (s.canAccess src = true) ∧ (s.accessLegal src true (0x2400) = true) ∧ (isService src = true)) (unsealed { linked with col := { rtFence := [7] } }) (.service) (9)) ∧
  ((fun (s : State) (src : Source) => (s.Calm) ∧ (s.canAccess src = true) ∧ (s.accessLegal src false (0x2440) = true)) ({ linked with rings := { sigFresh := true, sig := { conf := 7 } } }) (.portA)) := by
  refine ⟨?_, ?_, ?_, ?_, ?_, ?_, ?_, ?_, ?_, ?_, ?_, ?_, ?_, ?_, ?_, ?_, ?_, ?_, ?_, ?_, ?_, ?_, ?_⟩
  · decide
  · decide
  · decide
  · decide
  · decide
  · decide
  · decide
  · decide
  · decide
  · decide
  · decide
  · decide
  · decide
  · exact ⟨by decide, by decide, by decide, by decide, sramGood_of _ rfl rfl⟩
  · exact ⟨by decide, by decide, by decide, sramGood_of _ rfl rfl⟩
  · decide
  · decide
  · decide
  · decide
  · decide
  · decide
  · exact ⟨by decide +kernel, by decide +kernel, by decide +kernel, by decide +kernel⟩
  · decide

set_option maxRecDepth 100000 in
set_option linter.unusedVariables false in
theorem witness_RingBreaksComplete :
  ((fun (s : State) (ring : Fin 64) => (s.Calm) ∧ (s.rings.rings.length = 64) ∧ ((s.ring ring.val).up = true)) ({ linked with rings := { rings := List.replicate 64 { mode := .ring } } }) (63)) ∧
  ((fun (s : State) (ring : Fin 64) (obs : LocateObs) => (s.Calm) ∧ (s.rings.rings.length = 64) ∧ ((s.ring ring.val).mode = .locating) ∧ (obs.aLast = none) ∧ (obs.bFirst = none)) ({ linked with rings := { rings := List.replicate 64 { mode := .locating } } }) (63) ({ aLast := none, bFirst := none, rtA := 0, rtB := 0 })) ∧
  ((fun (s : State) (a : Fin 1024) (b : Fin 1024) (ring : Fin 64) (obs : LocateObs) => (s.Calm) ∧ (s.rings.rings.length = 64) ∧ ((s.ring ring.val).mode = .locating) ∧ (obs.aLast = some a) ∧ (obs.bFirst = some b) ∧ (b.val = a.val + 1) ∧ (s.losers 17 = [])) ({ linked with rings := { rings := List.replicate 64 { mode := .locating } } }) (5) (6) (63) ({ aLast := some 5, bFirst := some 6, rtA := 9, rtB := 9 })) ∧
  ((fun (s : State) (a : Fin 1024) (b : Fin 1024) (ring : Fin 64) (obs : LocateObs) => (s.Calm) ∧ (s.rings.rings.length = 64) ∧ ((s.ring ring.val).mode = .locating) ∧ (obs.aLast = some a) ∧ (obs.bFirst = some b) ∧ (a.val + 1 < b.val)) ({ linked with rings := { rings := List.replicate 64 { mode := .locating } } }) (5) (8) (63) ({ aLast := some 5, bFirst := some 8, rtA := 9, rtB := 9 })) ∧
  ((fun (s : State) (ring : Fin 64) (reaches : Bool) (echo : Bool) => (s.Calm) ∧ (s.rings.rings.length = 64) ∧ ((s.ring ring.val).mode = .hinge) ∧ (s.rings.ctrl.getLsbD 0 = true)) ({ linked with rings := { rings := List.replicate 64 { mode := .hinge, aLast := some 5, bFirst := some 6 } } }) (63) (true) (true)) ∧
  ((fun (s : State) (ring : Fin 64) (found : BitVec 11) => (s.Calm) ∧ (s.rings.rings.length = 64) ∧ ((s.ring ring.val).mode = .ring) ∧ ((List.range (min 1024 (s.ring ring.val).n)).any (fun c => (s.cell ring.val c).isSilent && (s.cell ring.val c).silent == 1) = true) ∧ (found.toNat = (s.ring ring.val).expect)) ({ linked with rings := { cells := [(2, { silentNow := true, silent := 1 })], rings := { mode := .ring } :: List.replicate 63 {} } }) (0) (1024)) ∧
  ((fun (s : State) (ring : Fin 64) (found : BitVec 11) => (s.Calm) ∧ (s.rings.rings.length = 64) ∧ ((s.ring ring.val).mode = .ring) ∧ ((List.range (min 1024 (s.ring ring.val).n)).any (fun c => (s.cell ring.val c).isSilent && (s.cell ring.val c).silent == 1) = true) ∧ (found.toNat ≠ (s.ring ring.val).expect)) ({ linked with rings := { cells := [(2, { silentNow := true, silent := 1 })], rings := { mode := .ring } :: List.replicate 63 {} } }) (0) (1023)) ∧
  ((fun (s : State) (ring : Fin 64) (answered : List (Fin 1024)) (found : BitVec 11) => (s.Calm) ∧ (s.rings.rings.length = 64) ∧ ((s.ring ring.val).mode = .ring) ∧ ((List.range (min 1024 (s.ring ring.val).n)).any (fun c => (s.cell ring.val c).isSilent && (s.cell ring.val c).silent == 1) = true)) ({ linked with rings := { cells := [(2, { silentNow := true, silent := 1 })], rings := { mode := .ring } :: List.replicate 63 {} } }) (0) ([2]) (1024)) := by
  refine ⟨?_, ?_, ?_, ?_, ?_, ?_, ?_, ?_⟩ <;> decide

set_option maxRecDepth 100000 in
set_option linter.unusedVariables false in
theorem witness_LedSupplyCompletes :
  ((fun (s : State) (vledMv : BitVec 13) => (s.Calm) ∧ (s.led.on = true) ∧ (s.led.starting = true) ∧ (s.refNow = s.led.setMv) ∧ (s.refNow ≤ vledMv.toNat + 50) ∧ (vledMv.toNat ≤ s.refNow + 50) ∧ (s.saf.ssgAsked = false)) ({ linked with led := { on := true, starting := true, setMv := 3300, refMv := 3300 } }) (3350)) ∧
  ((fun (s : State) (vledMv : BitVec 13) => (s.Calm) ∧ (s.led.on = true) ∧ (s.led.starting = true) ∧ (s.refNow = s.led.setMv) ∧ (vledMv.toNat + 50 < s.refNow ∨ s.refNow + 50 < vledMv.toNat)) ({ linked with led := { on := true, starting := true, setMv := 3300, refMv := 3300 } }) (3249)) ∧
  ((fun (s : State) (vledMv : BitVec 13) => (s.Calm) ∧ (s.led.on = true) ∧ (s.led.starting = true) ∧ (s.refNow = s.led.setMv) ∧ (s.refNow ≤ vledMv.toNat + 50) ∧ (vledMv.toNat ≤ s.refNow + 50) ∧ (s.saf.ssgAsked = true) ∧ (s.saf.func = some .ssg) ∧ (s.rings.sramOk = true)) ({ inState .safe with led := { on := true, starting := true, setMv := 3300, refMv := 3300 }, saf := { request := some .ssg, ssgAsked := true }, rings := { sramOk := true } }) (3350)) ∧
  ((fun (s : State) (vledMv : BitVec 13) => (s.Calm) ∧ (s.led.on = true) ∧ (s.led.startWait = true) ∧ (s.led.starting = true ∨ vledMv.toNat + 50 < s.refNow ∨ s.refNow + 50 < vledMv.toNat) ∧ (vledMv.toNat < 1000)) ({ linked with led := { on := true, startWait := true, setMv := 3300, refMv := 3300 } }) (999)) ∧
  ((fun (s : State) (vledMv : BitVec 13) => (s.Calm) ∧ (s.led.on = true) ∧ (s.led.startWait = true) ∧ (s.led.starting = true ∨ vledMv.toNat + 50 < s.refNow ∨ s.refNow + 50 < vledMv.toNat) ∧ (1000 ≤ vledMv.toNat)) ({ linked with led := { on := true, startWait := true, setMv := 3300, refMv := 3300 } }) (1000)) ∧
  ((fun (s : State) (vledMv : BitVec 13) => (s.Calm) ∧ (s.led.on = true) ∧ (s.led.startWait = true) ∧ (s.led.starting = false) ∧ (s.refNow ≤ vledMv.toNat + 50) ∧ (vledMv.toNat ≤ s.refNow + 50) ∧ (s.saf.ssgAsked = false)) ({ linked with led := { on := true, startWait := true, setMv := 3300, refMv := 3300 } }) (3250)) ∧
  ((fun (s : State) (d : Int) => (s.Calm) ∧ (s.running = true) ∧ (s.rings.cairnOn = false) ∧ (s.led.on = true) ∧ (s.led.starting = false) ∧ (s.led.fixed = false) ∧ (s.led.uvHeld = false) ∧ (s.led.adcHeld = false) ∧ (s.led.ocpHeld = false) ∧ (s.led.dMax = some d) ∧ ((s.led.setMv : Int) ≤ d + s.led.marginMv) ∧ ((s.led.vminMv : Int) ≤ d + s.led.marginMv) ∧ (d + s.led.marginMv ≤ (s.led.vmaxMv : Int))) ({ linked with led := { on := true, dMax := some 3000, setMv := 3000 } }) (3000)) ∧
  ((fun (s : State) (d : Int) => (s.Calm) ∧ (s.running = true) ∧ (s.rings.cairnOn = false) ∧ (s.led.on = true) ∧ (s.led.starting = false) ∧ (s.led.shortfall = false) ∧ (s.led.dMax = some d) ∧ ((s.led.vmaxMv : Int) < d + s.led.marginMv)) ({ linked with led := { on := true, dMax := some 5500, setMv := 3000 } }) (5500)) ∧
  ((fun (s : State) (d : Int) (t : Nat) => (s.Calm) ∧ (s.running = true) ∧ (s.rings.cairnOn = false) ∧ (s.led.on = true) ∧ (s.led.starting = false) ∧ (s.led.fixed = false) ∧ (s.led.uvHeld = false) ∧ (s.led.adcHeld = false) ∧ (s.led.ocpHeld = false) ∧ (s.led.dMax = some d) ∧ ((t : Int) = d + s.led.marginMv) ∧ (s.led.vminMv ≤ t) ∧ (t ≤ s.led.vmaxMv) ∧ (t + 20 ≤ s.led.setMv) ∧ (s.allIn = true)) ({ linked with led := { on := true, dMax := some 2900, setMv := 3400 } }) (2900) (3050)) ∧
  ((fun (s : State) => (s.Calm) ∧ (s.running = true) ∧ (s.rings.cairnOn = false) ∧ (s.led.on = true) ∧ (s.led.starting = false) ∧ ((s.led.uvHeld || s.led.adcHeld || s.led.ocpHeld) = true ∨ (s.led.dMax = none ∧ s.led.fixed = false))) ({ linked with led := { on := true, uvHeld := true, dMax := some 3000, setMv := 3000 } })) ∧
  ((fun (s : State) => (s.Calm) ∧ (s.running = true) ∧ (s.rings.cairnOn = false) ∧ (s.led.on = false ∨ s.led.starting = true)) (linked)) ∧
  ((fun (s : State) => (s.Calm) ∧ (s.running = true)) ({ linked with led := { on := true, setMv := 3300 } })) ∧
  ((fun (s : State) (phase : Fin 4) => (s.Calm) ∧ (s.led.uses phase = true)) ({ linked with led := { on := true } }) (3)) ∧
  ((fun (s : State) (phase : Fin 4) => (s.Calm) ∧ (s.led.uses phase = true)) ({ linked with led := { on := true } }) (3)) ∧
  ((fun (s : State) (phase : Fin 4) => (s.Calm) ∧ (s.led.uses phase = true) ∧ (1 < s.led.inUse)) ({ linked with led := { on := true } }) (3)) ∧
  ((fun (s : State) => (s.Calm) ∧ (s.led.on = true)) ({ linked with led := { on := true } })) ∧
  ((fun (s : State) => (s.Calm) ∧ (s.led.on = true) ∧ (s.hasCond 0x75 0 = true)) ({ linked with led := { on := true }, flt := { conds := [{ src := 0x75, detail := 0, injected := false, react := true, sev := 1 }] } })) ∧
  ((fun (s : State) => (s.Calm) ∧ (s.led.on = true)) ({ linked with led := { on := true } })) ∧
  ((fun (s : State) => (s.Calm) ∧ (s.running = true)) ({ linked with led := { on := true } })) ∧
  ((fun (s : State) (p100mw : BitVec 12) => (s.Calm) ∧ (s.running = true) ∧ (s.led.limit100mw < p100mw.toNat) ∧ (8 < s.led.kPower) ∧ (s.led.kPower < 32) ∧ (s.rings.cairnOn = false) ∧ (s.rings.rings.length = 64) ∧ (s.rings.rings.all (fun r => r.launched.isNone) = true) ∧ (s.losers 16 = [])) ({ linked with led := { kPower := 20 } }) (2001)) ∧
  ((fun (s : State) (p100mw : BitVec 12) => (s.Calm) ∧ (s.running = true) ∧ (100 * p100mw.toNat ≤ 95 * s.led.limit100mw) ∧ (1 ≤ s.led.lowDwell) ∧ (s.led.kPower < 32) ∧ (s.losers 16 = [])) ({ linked with led := { kPower := 20, lowDwell := 1 } }) (1900)) ∧
  ((fun (s : State) (p100mw : BitVec 12) => (s.Calm) ∧ (s.running = true) ∧ (s.led.limit100mw < p100mw.toNat) ∧ (s.led.kPower = 32)) ({ linked with led := { kPower := 32 } }) (2001)) ∧
  ((fun (s : State) (p100mw : BitVec 12) => (s.Calm) ∧ (s.running = true) ∧ (s.led.limit100mw < p100mw.toNat) ∧ (s.led.kPower ≤ 8)) ({ linked with led := { kPower := 8 } }) (2001)) ∧
  ((fun (s : State) (p100mw : BitVec 12) => (s.Calm) ∧ (s.running = true) ∧ (100 * p100mw.toNat ≤ 95 * s.led.limit100mw) ∧ (s.led.lowDwell = 0 ∨ 32 ≤ s.led.kPower)) ({ linked with led := { kPower := 20 } }) (1900)) ∧
  ((fun (s : State) (p100mw : BitVec 12) => (s.Calm) ∧ (s.running = true) ∧ (95 * s.led.limit100mw < 100 * p100mw.toNat) ∧ (p100mw.toNat ≤ s.led.limit100mw)) ({ linked with led := { kPower := 20 } }) (1950)) ∧
  ((fun (s : State) => (s.Calm) ∧ (s.running = true)) (linked)) ∧
  ((fun (s : State) => (s.Calm) ∧ (s.running = true) ∧ (s.losers 16 = []) ∧ (s.led.board.all (fun b => decide (8 ≤ b.k ∧ b.k ≤ 32)) = true)) (linked)) := by
  refine ⟨?_, ?_, ?_, ?_, ?_, ?_, ?_, ?_, ?_, ?_, ?_, ?_, ?_, ?_, ?_, ?_, ?_, ?_, ?_, ?_, ?_, ?_, ?_, ?_, ?_, ?_, ?_⟩ <;> decide

set_option maxRecDepth 100000 in
set_option linter.unusedVariables false in
theorem witness_TemperatureCompletes :
  ((fun (s : State) (sensor : Fin 12) (reading : Int) => (s.Calm) ∧ (s.running = true) ∧ (s.therm.failed.getLsbD sensor.val = false) ∧ (s.therm.sensorBad sensor.val reading = true)) (linked) (11) (2561)) ∧
  ((fun (s : State) (obs : ThermObs) => (s.Calm) ∧ (s.running = true) ∧ (obs.sensors.length = 12)) ({ linked with therm := { pdieLimit := true } }) ({ sensors := [2561, 0, 0, 0, 0, 0, 0, 0, 0, 0, 0, 0], pdie := 2250, ntc := [] })) ∧
  ((fun (s : State) (obs : ThermObs) => (s.Calm) ∧ (s.running = true) ∧ (s.allHalted = true) ∧ (8 ≤ s.therm.kThr) ∧ (s.therm.kThr ≤ 32) ∧ (s.therm.skip ≤ 8) ∧ (s.therm.outOfRange obs.sensors = 0) ∧ (s.injects 0x81 = false) ∧ (s.injects 0x84 = false)) ({ linked with therm := { pdieLimit := true } }) ({ sensors := [], pdie := 2250, ntc := [] })) ∧
  ((fun (s : State) (ntc : Fin 8) => (s.Calm) ∧ (s.running = true) ∧ (s.therm.ntcs.length = 8) ∧ (s.therm.ntcUsable ntc.val = true) ∧ ((s.therm.rings.getD (s.therm.ntcRing ntc.val).1 {}).source = 0) ∧ (160 < ((s.therm.ntcs.getD ntc.val {}).t - (s.therm.rings.getD (s.therm.ntcRing ntc.val).1 {}).t).natAbs)) ({ linked with therm := { ntcMap0 := 0x80, ntcs := { t := 161 } :: List.replicate 7 {}, rings := { source := 0 } :: List.replicate 63 {} } }) (0)) ∧
  ((fun (s : State) (q : ThermQty) (value : Int) => (s.Calm) ∧ (s.running = true) ∧ (s.therm.rings.length = 64) ∧ (q ≠ .dieShut) ∧ (q ≠ .pdieShut) ∧ (s.therm.crossed q = false) ∧ (s.crosses q true value = true)) ({ linked with therm := { rings := List.replicate 5 {} ++ { t := 1440 } :: List.replicate 58 {} } }) (.knee 5) (880)) ∧
  ((fun (s : State) (q : ThermQty) (value : Int) => (s.Calm) ∧ (s.running = true) ∧ (s.therm.rings.length = 64) ∧ (q ≠ .dieShut) ∧ (q ≠ .pdieShut) ∧ (s.therm.crossed q = false) ∧ (s.crosses q true value = true)) (linked) (.pdieLimit) (2240)) ∧
  ((fun (s : State) (d : Int) (value : Int) => (s.Calm) ∧ (s.running = true) ∧ (s.therm.dieRise = false) ∧ (s.therm.dieRise4 = some d) ∧ (320 ≤ d)) ({ linked with therm := { hist := (800, []) :: List.replicate 15 (500, []) ++ [(480, [])] } }) (320) (0)) ∧
  ((fun (s : State) (value : Int) => (s.Calm) ∧ (s.therm.dieRise4 = none)) (linked) (900)) ∧
  ((fun (s : State) (q : ThermQty) (value : Int) => (s.Calm) ∧ (s.running = true) ∧ (s.therm.rings.length = 64) ∧ (s.therm.crossed q = true) ∧ (s.crosses q false value = true)) ({ linked with therm := { dieWarn := true } }) (.dieWarn) (1712)) ∧
  ((fun (s : State) (value : Int) => (s.Calm) ∧ (s.running = true) ∧ (s.therm.dieShut = false) ∧ (2160 ≤ value)) (linked) (2160)) ∧
  ((fun (s : State) (src : Source) (w : Word) => (s.Calm) ∧ (s.canAccess src = true) ∧ (s.accessLegal src true (0x2C48) = true)) (linked) (.portA) (0)) ∧
  ((fun (s : State) => (s.Calm) ∧ (s.running = true)) (linked)) ∧
  ((fun (s : State) => (s.Calm) ∧ (s.running = true) ∧ (128 ≤ (s.therm.tDie - s.therm.tAtRun).natAbs)) ({ linked with therm := { tAtRun := 128 } })) ∧
  ((fun (s : State) => (s.Calm) ∧ (s.running = true) ∧ (s.therm.trimAsked = true) ∧ (s.therm.trimBusy = false) ∧ (s.eng.st ≠ .service) ∧ (s.eng.shutting = false)) ({ linked with therm := { trimAsked := true } })) ∧
  ((fun (s : State) (trims : List (Int × Bool)) => (s.Calm) ∧ (s.therm.trimBusy = true) ∧ (s.therm.trimPending = false) ∧ ((List.range 10).all (fun i => !trimRejects (s.therm.trims.getD i 0) (trims.getD i (0, true))) = true)) ({ linked with therm := { trimBusy := true } }) ([(8, false), (-8, false), (0, false), (0, false), (5, false), (-5, false), (1, false), (2, false), (5, false), (-5, false)])) ∧
  ((fun (s : State) (b : Nat) (trims : List (Int × Bool)) => (s.Calm) ∧ (s.therm.trimBusy = true) ∧ (b < 6) ∧ (blockRejects s.therm.trims trims b = true)) ({ linked with therm := { trimBusy := true } }) (0) ([(9, false), (-8, false), (0, false), (0, false), (5, false), (-5, false), (1, false), (2, false), (5, false), (-5, false)])) ∧
  ((fun (s : State) => (s.Calm) ∧ (s.therm.trimBusy = true)) ({ linked with therm := { trimBusy := true } })) ∧
  ((fun (s : State) => (s.Calm) ∧ (s.therm.trimPending = true)) ({ linked with therm := { trimPending := true, trimNew := [1, 2, 3, 4, 5, 6] } })) := by
  refine ⟨?_, ?_, ?_, ?_, ?_, ?_, ?_, ?_, ?_, ?_, ?_, ?_, ?_, ?_, ?_, ?_, ?_, ?_⟩ <;> decide

set_option maxRecDepth 100000 in
set_option linter.unusedVariables false in
theorem witness_LedgerCompletes :
  ((fun (s : State) (x : Sample) (later : List Nat) => (s.Calm) ∧ (s.age.upset = []) ∧ (s.age.sample = some x)) ({ linked with age := { sample := some { emit := [(5, 65535, 1023)], weights := [], dtUs := 100000, atUs := 7 } } }) ({ emit := [(5, 65535, 1023)], weights := [], dtUs := 100000, atUs := 7 }) ([])) ∧
  ((fun (s : State) (x : Sample) (found : List Nat) (later : List Nat) => (s.Calm) ∧ (s.age.sample = some x)) ({ linked with age := { sample := some { emit := [(5, 65535, 1023)], weights := [], dtUs := 100000, atUs := 7 } } }) ({ emit := [(5, 65535, 1023)], weights := [], dtUs := 100000, atUs := 7 }) ([0]) ([3])) ∧
  ((fun (s : State) => (s.Calm) ∧ (s.unitFenced 4 = false) ∧ (s.pwr.noNewStore = false) ∧ (s.running = true) ∧ (s.age.joinAt.isSome = true) ∧ (s.age.busy = false)) ({ linked with age := { joinAt := some 0, upset := [2] } })) ∧
  ((fun (s : State) => (s.Calm) ∧ (s.unitFenced 4 = true) ∧ (s.running = true) ∧ (s.age.joinAt.isSome = true) ∧ (s.age.busy = false)) ({ linked with age := { joinAt := some 0 }, flt := { fences := 0x10 } })) ∧
  ((fun (s : State) => (s.Calm) ∧ (s.unitFenced 4 = false) ∧ (s.running = true) ∧ (s.age.joinAt.isSome = true) ∧ (s.age.busy = true)) ({ linked with age := { joinAt := some 0, busy := true } })) ∧
  ((fun (s : State) => (s.Calm) ∧ (s.unitFenced 4 = false) ∧ (s.pwr.noNewStore = false) ∧ (s.running = true) ∧ (s.age.erased = false)) (linked)) ∧
  ((fun (s : State) => (s.Calm) ∧ (s.age.upset = []) ∧ (s.unitFenced 4 = false) ∧ (s.pwr.noNewStore = false) ∧ (s.age.busy = true) ∧ (s.age.copying = true) ∧ (s.age.forRestart = false) ∧ (s.nvm.fallbackDue = false) ∧ (s.cmd.shutdownFrom = none) ∧ (s.losers 22 = [])) ({ linked with age := { busy := true, copying := true } })) ∧
  ((fun (s : State) => (s.Calm) ∧ (s.unitFenced 4 = false) ∧ (s.pwr.noNewStore = false) ∧ (s.age.busy = true) ∧ (s.age.copying = true) ∧ (s.age.forRestart = false) ∧ (s.nvm.fallbackDue = false) ∧ (s.cmd.shutdownFrom = none)) ({ linked with age := { busy := true, copying := true, upset := [2] } })) ∧
  ((fun (s : State) => (s.Calm) ∧ (s.age.busy = true) ∧ (s.age.copying = true) ∧ (s.age.forRestart = false) ∧ (s.nvm.fallbackDue = false) ∧ (s.cmd.shutdownFrom = none)) ({ linked with age := { busy := true, copying := true } })) ∧
  ((fun (s : State) => (s.Calm) ∧ (s.unitFenced 4 = false) ∧ (s.pwr.noNewStore = false) ∧ (s.running = true) ∧ (s.age.retry = true) ∧ (s.age.busy = false)) ({ linked with age := { retry := true } })) ∧
  ((fun (s : State) (res : List Nat) => (s.Calm) ∧ (s.age.upset = []) ∧ (s.unitFenced 4 = false) ∧ (s.age.resNext = some res)) ({ linked with age := { resNext := some [1, 2, 3] } }) ([1, 2, 3])) ∧
  ((fun (s : State) (res : List Nat) => (s.Calm) ∧ (s.unitFenced 4 = false) ∧ (s.age.resNext = some res)) ({ linked with age := { resNext := some [1, 2, 3], upset := [2] } }) ([1, 2, 3])) ∧
  ((fun (s : State) (src : Source) (w : Word) => (s.Calm) ∧ (s.canAccess src = true) ∧ (s.accessLegal src true (0x3400) = true) ∧ (s.unitFenced 4 = false) ∧ (s.pwr.noNewStore = false) ∧ (isService src = true) ∧ (s.age.busy = false) ∧ (w.getLsbD 4 = false) ∧ (w.getLsbD 5 = false)) (unsealed linked) (.service) (7)) ∧
  ((fun (s : State) (src : Source) (w : Word) => (s.Calm) ∧ (s.canAccess src = true) ∧ (s.accessLegal src true (0x3400) = true) ∧ (isService src = true) ∧ (w.getLsbD 3 = false) ∧ (w.getLsbD 5 = false)) (unsealed linked) (.service) (7)) ∧
  ((fun (s : State) (src : Source) (w : Word) => (s.Calm) ∧ (s.canAccess src = true) ∧ (s.accessLegal src true (0x3400) = true) ∧ (isService src = true) ∧ (w.getLsbD 3 = false) ∧ (w.getLsbD 4 = false)) (unsealed { linked with age := { startA := 2, startB := 1 } }) (.service) (7)) := by
  refine ⟨?_, ?_, ?_, ?_, ?_, ?_, ?_, ?_, ?_, ?_, ?_, ?_, ?_, ?_, ?_⟩
  · decide
  · decide
  · decide
  · decide
  · decide
  · decide
  · decide
  · decide
  · decide
  · decide
  · decide
  · decide
  · exact ⟨by decide +kernel, by decide +kernel, by decide +kernel, by decide +kernel, by decide +kernel, by decide +kernel, by decide +kernel, by decide +kernel, by decide +kernel⟩
  · exact ⟨by decide +kernel, by decide +kernel, by decide +kernel, by decide +kernel, by decide +kernel, by decide +kernel⟩
  · exact ⟨by decide +kernel, by decide +kernel, by decide +kernel, by decide +kernel, by decide +kernel, by decide +kernel⟩

set_option maxRecDepth 100000 in
set_option linter.unusedVariables false in
theorem witness_MarginsComplete :
  ((fun (s : State) (slackPs : List (BitVec 10)) => (s.Calm) ∧ (s.running = true) ∧ (s.age.avsEn = true) ∧ (s.age.avsDead = false) ∧ ((leastSlack slackPs).1 < 60) ∧ (s.age.vcoreMv < s.age.avsVmax)) (linked) ([59, 100, 100, 100, 100, 100, 100, 100])) ∧
  ((fun (s : State) (slackPs : List (BitVec 10)) (written : Bool) => (s.Calm) ∧ (s.running = true) ∧ (s.age.avsEn = true) ∧ (s.age.avsDead = false) ∧ ((leastSlack slackPs).1 < 60) ∧ (s.age.avsVmax ≤ s.age.vcoreMv)) ({ linked with age := { vcoreMv := 850 } }) ([19, 100, 100, 100, 100, 100, 100, 100]) (true)) ∧
  ((fun (s : State) (slackPs : List (BitVec 10)) => (s.Calm) ∧ (s.running = true) ∧ (s.age.avsEn = true) ∧ (s.age.avsDead = false) ∧ ((leastSlack slackPs).1 < 60) ∧ (s.age.vcoreMv < s.age.avsVmax)) (linked) ([59, 100, 100, 100, 100, 100, 100, 100])) ∧
  ((fun (s : State) (slackPs : List (BitVec 10)) => (s.Calm) ∧ (s.running = true) ∧ (s.age.avsEn = false) ∧ (s.age.avsDead = false) ∧ (s.age.vcoreMv ≠ 750)) ({ linked with age := { avsEn := false, vcoreMv := 800 } }) ([59, 100, 100, 100, 100, 100, 100, 100])) ∧
  ((fun (s : State) (t : Nat) (slackPs : List (BitVec 10)) => (s.Calm) ∧ (s.running = true) ∧ (s.age.avsEn = true) ∧ (s.age.avsDead = false) ∧ (100 ≤ (leastSlack slackPs).1) ∧ (s.age.slackSince = some t) ∧ (235929600000000000 ≤ s.time.local_ - t) ∧ (s.therm.trimBusy = false) ∧ (s.therm.trimPending = false) ∧ (s.age.avsVmin < s.age.vcoreMv)) ({ linked with age := { slackSince := some 0 }, time := { local_ := 235929600000000000 } }) (0) ([100, 100, 100, 100, 100, 100, 100, 100])) ∧
  ((fun (s : State) (slackPs : List (BitVec 10)) (written : Bool) => (s.Calm) ∧ (s.running = true) ∧ (s.age.avsDead = true ∨ (s.age.avsEn = true ∧ 60 ≤ (leastSlack slackPs).1 ∧ (leastSlack slackPs).1 < 100))) (linked) ([60, 100, 100, 100, 100, 100, 100, 100]) (false)) ∧
  ((fun (s : State) (ch17Mv : BitVec 12) => (s.Calm) ∧ (s.age.vcoreCmd.isSome = true) ∧ (s.age.avsDead = false) ∧ (ch17Mv.toNat + 25 < s.age.vcoreMv ∨ s.age.vcoreMv + 25 < ch17Mv.toNat)) ({ linked with age := { vcoreCmd := some 384 } }) (776)) ∧
  ((fun (s : State) (ch17Mv : BitVec 12) => (s.Calm) ∧ (s.age.vcoreMv ≤ ch17Mv.toNat + 25) ∧ (ch17Mv.toNat ≤ s.age.vcoreMv + 25)) ({ linked with age := { vcoreCmd := some 384 } }) (775)) ∧
  ((fun (s : State) (eyes : List (BitVec 8)) => (s.Calm) ∧ (s.running = true) ∧ (s.age.memSet = false)) (linked) ([90, 91, 89, 92])) ∧
  ((fun (s : State) => (s.Calm) ∧ (s.running = true)) (linked)) ∧
  ((fun (s : State) (eyes : List (BitVec 8)) => (s.Calm) ∧ (s.running = true) ∧ (s.age.memSet = true) ∧ (eyes.any (fun e => decide (100 * e.toNat < 7680)) = true)) ({ linked with age := { memSet := true } }) ([90, 76, 89, 92])) ∧
  ((fun (s : State) (eyesA : List (BitVec 8)) (eyesB : List (BitVec 8)) => (s.Calm) ∧ (s.running = true) ∧ (s.active .a = true) ∧ (s.active .b = true) ∧ (s.linkA.usedLanes ≠ []) ∧ (s.linkB.usedLanes ≠ []) ∧ ((List.range 4).all (fun i => !s.linkA.used.getLsbD i || decide (7680 ≤ 100 * (eyesA.getD i 255).toNat)) = true) ∧ ((List.range 4).all (fun i => !s.linkB.used.getLsbD i || decide (7680 ≤ 100 * (eyesB.getD i 255).toNat)) = true)) ({ linked with linkA := { st := .active, used := 3, lanes := List.replicate 4 { healthy := true } }, linkB := { st := .active, used := 6, lanes := List.replicate 4 { healthy := true } } }) ([77, 78, 9, 80]) ([])) ∧
  ((fun (s : State) (i : Nat) (eyesA : List (BitVec 8)) (eyesB : List (BitVec 8)) => (s.Calm) ∧ (s.running = true) ∧ (s.active .a = true) ∧ (s.active .b = false) ∧ (i < 4) ∧ (s.linkA.used.getLsbD i = true) ∧ (100 * (eyesA.getD i 255).toNat < 7680)) ({ State.reset with eng := { st := .join }, linkA := { st := .active, used := 1, lanes := List.replicate 4 { healthy := true } } }) (0) ([76]) ([])) ∧
  ((fun (s : State) (i : Nat) (eyesA : List (BitVec 8)) (eyesB : List (BitVec 8)) => (s.Calm) ∧ (s.running = true) ∧ (s.active .b = true) ∧ (i < 4) ∧ (s.linkB.used.getLsbD i = true) ∧ (100 * (eyesB.getD i 255).toNat < 7680)) ({ linked with linkA := { st := .active, used := 1, lanes := List.replicate 4 { healthy := true } }, linkB := { st := .active, used := 1, lanes := List.replicate 4 { healthy := true } } }) (0) ([77]) ([76])) ∧
  ((fun (s : State) (obs : ScrubObs) => (s.Calm) ∧ (s.running = true) ∧ (s.unitFenced 9 = false) ∧ (s.nvm.working = false) ∧ (s.pwr.noNewStore = false)) (linked) ({ refreshed := 2, corrected := 3, bad := none })) ∧
  ((fun (s : State) (obs : ScrubObs) => (s.Calm) ∧ (s.running = true) ∧ (s.unitFenced 9 = false) ∧ (s.nvm.working = false) ∧ (s.pwr.noNewStore = false) ∧ (obs.refreshed = 0) ∧ (obs.bad = none)) (linked) ({ refreshed := 0, corrected := 3, bad := none })) ∧
  ((fun (s : State) (p : Fin 8192) (c : Bool) (o : Nat) (obs : ScrubObs) => (s.Calm) ∧ (s.running = true) ∧ (s.unitFenced 9 = false) ∧ (s.nvm.working = false) ∧ (s.pwr.noNewStore = false) ∧ (obs.bad = some p) ∧ (regionAt (512 * p.val) = some (.settings false c, o)) ∧ ((s.nvm.area0.copy c).uses true (o / 512) = true)) (linked) (4352) (true) (0) ({ refreshed := 1, corrected := 3, bad := some 4352 })) := by
  refine ⟨?_, ?_, ?_, ?_, ?_, ?_, ?_, ?_, ?_, ?_, ?_, ?_, ?_, ?_, ?_, ?_, ?_⟩ <;> decide

set_option maxRecDepth 100000 in
set_option linter.unusedVariables false in
theorem witness_EngineAccessByTumbler :
  ((fun (s : State) (t : Fin 8) (rd : Fin 16) (ra : Fin 16) (imm : BitVec 18) => (s.Calm) ∧ (s.TumShaped) ∧ (s.issues t (encI 0x1E rd ra imm) = true) ∧ ((s.thread t).reg ra + imm.signExtend 32 = 0)) (running1 (encI 0x1E 1 2 0x3FFFC) 4 0) (0) (1) (2) (0x3FFFC)) ∧
  ((fun (s : State) (i : Nat) (t : Fin 8) (rd : Fin 16) (ra : Fin 16) (imm : BitVec 18) => (s.Calm) ∧ (s.TumShaped) ∧ (s.issues t (encI 0x1E rd ra imm) = true) ∧ (i < 4096) ∧ (((s.thread t).reg ra + imm.signExtend 32).toNat = 0x20000 + 4 * i)) ((running1 (encI 0x1E 1 2 4) 0x20000 0).setDmem 1 77) (1) (0) (1) (2) (4)) ∧
  ((fun (s : State) (a : Nat) (t : Fin 8) (rd : Fin 16) (ra : Fin 16) (imm : BitVec 18) => (s.Calm) ∧ (s.TumShaped) ∧ (s.issues t (encI 0x1E rd ra imm) = true) ∧ (a = ((s.thread t).reg ra + imm.signExtend 32).toNat) ∧ (s.readable .tumbler a = true)) (running1 (encI 0x1E 1 2 4) 0 0) (4) (0) (1) (2) (4)) ∧
  ((fun (s : State) (t : Fin 8) (rd : Fin 16) (ra : Fin 16) (imm : BitVec 18) => (s.Calm) ∧ (s.TumShaped) ∧ (s.issues t (encI 0x1E rd ra imm) = true) ∧ (s.readable .tumbler ((s.thread t).reg ra + imm.signExtend 32).toNat = false)) (running1 (encI 0x1E 1 2 0) 0x80000000 0) (0) (1) (2) (0)) ∧
  ((fun (s : State) (i : Nat) (t : Fin 8) (rd : Fin 16) (ra : Fin 16) (imm : BitVec 18) => (s.Calm) ∧ (s.TumShaped) ∧ (s.issues t (encI 0x1F rd ra imm) = true) ∧ (i < 4096) ∧ (((s.thread t).reg ra + imm.signExtend 32).toNat = 0x20000 + 4 * i)) (running1 (encI 0x1F 3 2 4) 0x20000 77) (1) (0) (3) (2) (4)) ∧
  ((fun (s : State) (t : Fin 8) (rd : Fin 16) (ra : Fin 16) (imm : BitVec 18) => (s.Calm) ∧ (s.TumShaped) ∧ (s.issues t (encI 0x1F rd ra imm) = true) ∧ (((s.thread t).reg ra + imm.signExtend 32).toNat = 0x0170)) (running1 (encI 0x1F 3 2 0) 0x0170 0x12345) (0) (3) (2) (0)) ∧
  ((fun (s : State) (t : Fin 8) (rd : Fin 16) (ra : Fin 16) (imm : BitVec 18) => (s.Calm) ∧ (s.TumShaped) ∧ (s.issues t (encI 0x1F rd ra imm) = true) ∧ (s.writable .tumbler ((s.thread t).reg ra + imm.signExtend 32).toNat = false)) (running1 (encI 0x1F 1 2 0) 0x3800 0) (0) (1) (2) (0)) ∧
  ((fun (s : State) (t : Fin 8) (rd : Fin 16) (ra : Fin 16) (imm : BitVec 18) => (s.Calm) ∧ (s.TumShaped) ∧ (s.issues t (encI 0x1F rd ra imm) = true) ∧ (((s.thread t).reg ra + imm.signExtend 32).toNat = 0x0830)) (running1 (encI 0x1F 1 2 0) 0x0830 0) (0) (1) (2) (0)) := by
  refine ⟨?_, ?_, ?_, ?_, ?_, ?_, ?_, ?_⟩ <;> decide

set_option maxRecDepth 100000 in
set_option linter.unusedVariables false in
theorem witness_DeviceOperations :
  ((fun (s : State) (t : Fin 8) (rd : Fin 16) (ra : Fin 16) (rb : Fin 16) => (s.Calm) ∧ (s.TumShaped) ∧ (s.comp.layers.length = 16) ∧ (s.issues t (encR 0x31 rd ra rb) = true) ∧ (s.legal 0x03 = true) ∧ (((s.thread t).reg ra).toNat % 4 = 0) ∧ (((s.thread t).reg ra).toNat + 32 ≤ 16384) ∧ (((s.thread t).reg rb).toNat < 16)) ((running1 (encR 0x31 1 2 3) 8 5).setDmem 2 0xFFFFFFFF) (0) (1) (2) (3)) ∧
  ((fun (s : State) (t : Fin 8) (rd : Fin 16) (ra : Fin 16) (rb : Fin 16) => (s.Calm) ∧ (s.TumShaped) ∧ (s.issues t (encR 0x31 rd ra rb) = true) ∧ (s.legal 0x03 = true) ∧ (((s.thread t).reg ra).toNat % 4 ≠ 0 ∨ 16 ≤ ((s.thread t).reg rb).toNat)) (running1 (encR 0x31 1 2 3) 8 16) (0) (1) (2) (3)) ∧
  ((fun (s : State) (t : Fin 8) (rd : Fin 16) (ra : Fin 16) => (s.Calm) ∧ (s.TumShaped) ∧ (s.issues t (encR 0x32 rd ra 0) = true) ∧ (s.legal 0x04 = true) ∧ (s.comp.queue = [])) (running1 (encR 0x32 1 2 0) 0x7F010003 0) (0) (1) (2)) ∧
  ((fun (s : State) (t : Fin 8) (rd : Fin 16) (ra : Fin 16) => (s.Calm) ∧ (s.TumShaped) ∧ (s.issues t (encR 0x32 rd ra 0) = true) ∧ (s.legal 0x04 = true) ∧ (s.comp.queue.length = 5)) ({ running1 (encR 0x32 1 2 0) 0x7F010003 0 with comp := { queue := List.replicate 5 { mask := 1, globals := false, token := 0, by_ := .register } } }) (0) (1) (2)) ∧
  ((fun (s : State) (a : Nat) (m : Mode) (t : Fin 8) (rd : Fin 16) (ra : Fin 16) => (s.Calm) ∧ (s.TumShaped) ∧ (s.issues t (encR 0x33 rd ra 0) = true) ∧ (s.legal 0x05 = true) ∧ (s.unitFenced 0 = false) ∧ (a = ((s.thread t).reg ra).toNat / 4) ∧ (((s.thread t).reg ra).toNat % 4 = 0) ∧ (((s.thread t).reg ra).toNat + 16 ≤ 16384) ∧ (s.comp.pendingMode = none) ∧ (s.modeOf (s.dmemWord a) (s.dmemWord (a + 1)) (s.dmemWord (a + 2)) (s.dmemWord (a + 3)) = some m) ∧ (s.modeStale m = false) ∧ (s.modeFits m = true)) ((((running1 (encR 0x33 1 2 0) 0 0).setDmem 0 0x0001003C).setDmem 1 0x00000515).setDmem 2 0x00C80010) (0) ({ num := 60, den := 1, seg := 0x515, depth := 16, vblankUs := 200, target := 0 }) (0) (1) (2)) ∧
  ((fun (s : State) (a : Nat) (m : Mode) (t : Fin 8) (rd : Fin 16) (ra : Fin 16) => (s.Calm) ∧ (s.TumShaped) ∧ (s.issues t (encR 0x33 rd ra 0) = true) ∧ (s.legal 0x05 = true) ∧ (s.unitFenced 0 = false) ∧ (a = ((s.thread t).reg ra).toNat / 4) ∧ (((s.thread t).reg ra).toNat % 4 = 0) ∧ (((s.thread t).reg ra).toNat + 16 ≤ 16384) ∧ (s.comp.pendingMode = none) ∧ (s.modeOf (s.dmemWord a) (s.dmemWord (a + 1)) (s.dmemWord (a + 2)) (s.dmemWord (a + 3)) = some m) ∧ (s.modeStale m = true)) ({ (((((running1 (encR 0x33 1 2 0) 0 0).setDmem 0 0x0001003C).setDmem 1 0x00000515).setDmem 2 0x00C80010).setDmem 3 5) with time := { valid := true, refW := 65536000000000 } }) (0) ({ num := 60, den := 1, seg := 0x515, depth := 16, vblankUs := 200, target := 5 }) (0) (1) (2)) ∧
  ((fun (s : State) (a : Nat) (m : Mode) (t : Fin 8) (rd : Fin 16) (ra : Fin 16) => (s.Calm) ∧ (s.TumShaped) ∧ (s.issues t (encR 0x33 rd ra 0) = true) ∧ (s.legal 0x05 = true) ∧ (s.unitFenced 0 = false) ∧ (a = ((s.thread t).reg ra).toNat / 4) ∧ (((s.thread t).reg ra).toNat % 4 = 0) ∧ (((s.thread t).reg ra).toNat + 16 ≤ 16384) ∧ (s.comp.pendingMode = none) ∧ (s.modeOf (s.dmemWord a) (s.dmemWord (a + 1)) (s.dmemWord (a + 2)) (s.dmemWord (a + 3)) = some m) ∧ (s.modeStale m = false) ∧ (s.modeFits m = false)) ({ ((((running1 (encR 0x33 1 2 0) 0 0).setDmem 0 0x0001003C).setDmem 1 0x00000515).setDmem 2 0x00C80010) with ctxs := { w0 := 7, base := 0x83000000, stride := 0xFFFFF000 } :: List.replicate 255 {}, comp := { layers := { active := { w0 := 0x101 } } :: List.replicate 15 {} } }) (0) ({ num := 60, den := 1, seg := 0x515, depth := 16, vblankUs := 200, target := 0 }) (0) (1) (2)) ∧
  ((fun (s : State) (a : Nat) (t : Fin 8) (rd : Fin 16) (ra : Fin 16) => (s.Calm) ∧ (s.TumShaped) ∧ (s.issues t (encR 0x33 rd ra 0) = true) ∧ (s.legal 0x05 = true) ∧ (s.unitFenced 0 = false) ∧ (a = ((s.thread t).reg ra).toNat / 4) ∧ (((s.thread t).reg ra).toNat % 4 = 0) ∧ (((s.thread t).reg ra).toNat + 16 ≤ 16384) ∧ (s.comp.pendingMode = none) ∧ (s.modeOf (s.dmemWord a) (s.dmemWord (a + 1)) (s.dmemWord (a + 2)) (s.dmemWord (a + 3)) = none)) (running1 (encR 0x33 1 2 0) 0 0) (0) (0) (1) (2)) ∧
  ((fun (s : State) (t : Fin 8) (rd : Fin 16) (ra : Fin 16) => (s.Calm) ∧ (s.TumShaped) ∧ (s.issues t (encR 0x34 rd ra 0) = true) ∧ (s.legal 0x06 = true) ∧ (s.unitFenced 1 = false) ∧ (s.col.landings = [])) (running1 (encR 0x34 1 2 0) 9 0) (0) (1) (2)) ∧
  ((fun (s : State) (a : Nat) (q : CalReq) (t : Fin 8) (rd : Fin 16) (ra : Fin 16) => (s.Calm) ∧ (s.TumShaped) ∧ (s.issues t (encR 0x35 rd ra 0) = true) ∧ (s.legal 0x07 = true) ∧ (s.unitFenced 1 = false) ∧ (a = ((s.thread t).reg ra).toNat / 4) ∧ (((s.thread t).reg ra).toNat % 4 = 0) ∧ (((s.thread t).reg ra).toNat + 12 ≤ 16384) ∧ (calReq (s.dmemWord a) (s.dmemWord (a + 1)) (s.dmemWord (a + 2)) = some q) ∧ (q.unfence = false) ∧ (s.col.calQueue = [])) (running1 (encR 0x35 1 2 0) 0 0) (0) ({ x := 0, y := 0, w := 1, h := 1, add := false, fence := false, unfence := false, ug := [0, 0, 0] }) (0) (1) (2)) ∧
  ((fun (s : State) (a : Nat) (t : Fin 8) (rd : Fin 16) (ra : Fin 16) => (s.Calm) ∧ (s.TumShaped) ∧ (s.issues t (encR 0x35 rd ra 0) = true) ∧ (a = ((s.thread t).reg ra).toNat / 4) ∧ (((s.thread t).reg ra).toNat % 4 = 0) ∧ (((s.thread t).reg ra).toNat + 12 ≤ 16384) ∧ ((s.dmemWord (a + 2)).getLsbD 20 = true)) ((running1 (encR 0x35 1 2 0) 0 0).setDmem 2 0x100000) (0) (0) (1) (2)) ∧
  ((fun (s : State) (t : Fin 8) (rd : Fin 16) (ra : Fin 16) => (s.Calm) ∧ (s.TumShaped) ∧ (s.issues t (encR 0x36 rd ra 0) = true) ∧ (s.eng.st = .dark ∨ s.eng.st = .lit) ∧ (s.rings.cairnOn = false) ∧ (s.rings.sweep = .none) ∧ (((s.thread t).reg ra).toNat % 4 = 1 ∨ ((s.thread t).reg ra).toNat % 4 = 2)) (running1 (encR 0x36 1 2 0) 0x11 0) (0) (1) (2)) ∧
  ((fun (s : State) (t : Fin 8) (rd : Fin 16) (ra : Fin 16) => (s.Calm) ∧ (s.TumShaped) ∧ (s.issues t (encR 0x36 rd ra 0) = true) ∧ (((s.thread t).reg ra).toNat % 4 = 0) ∧ (s.losers 19 = [])) ({ running1 (encR 0x36 1 2 0) 0x10 0 with rings := { sweep := .vf } }) (0) (1) (2)) ∧
  ((fun (s : State) (t : Fin 8) (rd : Fin 16) (ra : Fin 16) => (s.Calm) ∧ (s.TumShaped) ∧ (s.issues t (encR 0x36 rd ra 0) = true) ∧ (((s.thread t).reg ra).toNat % 4 = 3)) (running1 (encR 0x36 1 2 0) 3 0) (0) (1) (2)) ∧
  ((fun (s : State) (t : Fin 8) (rd : Fin 16) (ra : Fin 16) => (s.Calm) ∧ (s.TumShaped) ∧ (s.issues t (encR 0x37 rd ra 0) = true) ∧ (s.legal 0x09 = true) ∧ ((s.thread t).reg ra = 1) ∧ (s.unitFenced 9 = false) ∧ (s.pwr.noNewStore = false) ∧ (s.nvm.storing .retained = false)) (running1 (encR 0x37 1 2 0) 1 0) (0) (1) (2)) ∧
  ((fun (s : State) (t : Fin 8) (rd : Fin 16) (ra : Fin 16) => (s.Calm) ∧ (s.TumShaped) ∧ (s.issues t (encR 0x37 rd ra 0) = true) ∧ (s.legal 0x09 = true) ∧ (4 ≤ ((s.thread t).reg ra).toNat)) (running1 (encR 0x37 1 2 0) 4 0) (0) (1) (2)) ∧
  ((fun (s : State) (t : Fin 8) (rd : Fin 16) (ra : Fin 16) => (s.Calm) ∧ (s.TumShaped) ∧ (s.issues t (encR 0x38 rd ra 0) = true) ∧ (s.losers 28 = []) ∧ (s.losers 29 = []) ∧ (s.losers 30 = []) ∧ (s.losers 31 = [])) (running1 (encR 0x38 1 2 0) 0xF5 0) (0) (1) (2)) ∧
  ((fun (s : State) (t : Fin 8) (rd : Fin 16) (ra : Fin 16) (rb : Fin 16) => (s.Calm) ∧ (s.TumShaped) ∧ (s.issues t (encR 0x39 rd ra rb) = true) ∧ (1 ≤ ((s.thread t).reg rb).toNat) ∧ (((s.thread t).reg rb).toNat ≤ 256) ∧ (((s.thread t).reg ra).toNat + ((s.thread t).reg rb).toNat ≤ 16384) ∧ (s.wall.id ≠ 0) ∧ (s.tum.posts.length < 4)) ({ running1 (encR 0x39 1 2 3) 4 3 with wall := { id := 5 } }) (0) (1) (2) (3)) ∧
  ((fun (s : State) (t : Fin 8) (rd : Fin 16) (ra : Fin 16) (rb : Fin 16) => (s.Calm) ∧ (s.TumShaped) ∧ (s.issues t (encR 0x39 rd ra rb) = true) ∧ ((s.thread t).reg rb = 0 ∨ s.wall.id = 0)) (running1 (encR 0x39 1 2 3) 4 3) (0) (1) (2) (3)) ∧
  ((fun (s : State) (t : Fin 8) (rd : Fin 16) (imm : BitVec 18) => (s.Calm) ∧ (s.TumShaped) ∧ (s.issues t (encI 0x3A rd 0 imm) = true) ∧ (s.legal 0x12 = true) ∧ (imm = 2) ∧ (s.saf.func ≠ some .slo) ∧ (s.losers 23 = []) ∧ (s.losers 24 = []) ∧ (s.eng.leaving = false)) (running1 (encI 0x3A 1 0 2) 0 0) (0) (1) (2)) ∧
  ((fun (s : State) (t : Fin 8) (rd : Fin 16) (imm : BitVec 18) => (s.Calm) ∧ (s.TumShaped) ∧ (s.issues t (encI 0x3A rd 0 imm) = true) ∧ (s.legal 0x12 = true) ∧ (imm = 0 ∨ 4 ≤ imm.toNat)) (running1 (encI 0x3A 1 0 0) 0 0) (0) (1) (0)) ∧
  ((fun (s : State) (rd : Fin 16) (m : Word) (us : Nat) (t : Fin 8) => (s.Calm) ∧ (s.TumShaped) ∧ ((s.thread t).st = .waiting) ∧ ((s.thread t).wait = .events rd m us) ∧ (us ≠ 0)) ((running1 0 7 8).onThread 0 (fun x => { x with st := .waiting, wait := .events 2 5 100 })) (2) (5) (100) (0)) := by
  refine ⟨?_, ?_, ?_, ?_, ?_, ?_, ?_, ?_, ?_, ?_, ?_, ?_, ?_, ?_, ?_, ?_, ?_, ?_, ?_, ?_, ?_, ?_⟩
  · decide
  · decide
  · decide
  · decide
  · decide +kernel
  · decide +kernel
  · decide +kernel
  · decide +kernel
  · decide
  · decide
  · decide
  · decide
  · decide
  · decide
  · decide
  · decide
  · decide
  · decide
  · decide
  · decide
  · decide
  · decide

set_option maxRecDepth 100000 in
set_option linter.unusedVariables false in
theorem witness_TumblerRegisters :
  ((fun (s : State) (src : Source) (w : Word) => (s.Calm) ∧ (s.canAccess src = true) ∧ (s.accessLegal src true (0x0100) = true) ∧ (s.TumShaped) ∧ (w.toNat < 256) ∧ (s.eng.st = .join ∨ s.eng.st = .dark ∨ s.eng.st = .lit ∨ s.eng.st = .safe ∨ s.eng.st = .update) ∧ (s.unitFenced 5 = false) ∧ (s.allHalted = false ∨ progCheck s = stOk)) ({ linked with tum := { threads := List.replicate 7 {} ++ [{ st := .waiting }], prog := [(2, 20)] } }) (.portA) (3)) ∧
  ((fun (s : State) (src : Source) (w : Word) => (s.Calm) ∧ (s.canAccess src = true) ∧ (s.accessLegal src true (0x0100) = true) ∧ (w.toNat < 256) ∧ (w ≠ 0) ∧ (s.eng.st = .join ∨ s.eng.st = .dark ∨ s.eng.st = .lit ∨ s.eng.st = .safe ∨ s.eng.st = .update) ∧ (s.unitFenced 5 = false) ∧ (s.allHalted = true) ∧ (progCheck s ≠ stOk)) (linked) (.portA) (3)) ∧
  ((fun (s : State) (src : Source) (w : Word) => (s.Calm) ∧ (s.canAccess src = true) ∧ (s.accessLegal src true (0x0100) = true) ∧ (s.TumShaped) ∧ (w.toNat < 65536) ∧ (w.toNat % 256 = 0)) ({ linked with tum := { threads := List.replicate 7 {} ++ [{ st := .waiting }] } }) (.portA) (0xFF00)) ∧
  ((fun (s : State) (src : Source) (w : Word) => (s.Calm) ∧ (s.canAccess src = true) ∧ (s.accessLegal src true (0x0100) = true) ∧ (w.toNat % 65536 = 0) ∧ (s.pwr.noNewStore = false) ∧ (progCheck s = stOk) ∧ (s.unitFenced 9 = false) ∧ (s.nvm.storing .program = false)) ({ linked with tum := { prog := sampleProg } }) (.portA) (0)) ∧
  ((fun (s : State) (src : Source) (w : Word) => (s.Calm) ∧ (s.canAccess src = true) ∧ (s.accessLegal src true (0x0100) = true) ∧ (w.toNat % 65536 = 0) ∧ (s.pwr.noNewStore = false) ∧ (progCheck s ≠ stOk)) (linked) (.portA) (0)) ∧
  ((fun (s : State) (src : Source) (w : Word) => (s.Calm) ∧ (s.canAccess src = true) ∧ (s.accessLegal src true (0x0100) = true) ∧ (w.toNat % 65536 = 0) ∧ (s.pwr.noNewStore = false) ∧ (progCheck s = stOk) ∧ (s.unitFenced 9 = true ∨ s.nvm.storing .program = true)) ({ linked with tum := { prog := sampleProg }, nvm := { jobProg := some [] } }) (.portA) (0)) ∧
  ((fun (s : State) (src : Source) (consume : Bool) => (s.Calm) ∧ (s.canAccess src = true) ∧ (s.accessLegal src false (0x0174) = true)) ({ linked with tum := { doorbell := [5, 6] } }) (.portA) (true)) ∧
  ((fun (s : State) => (s.Calm) ∧ (s.running = true) ∧ (s.hasCond 0xA4 0 = false) ∧ (s.flt.sevOf 0xA4 = 2) ∧ (s.flt.slots ≠ [])) (linked)) := by
  refine ⟨?_, ?_, ?_, ?_, ?_, ?_, ?_, ?_⟩ <;> decide

set_option maxRecDepth 100000 in
set_option linter.unusedVariables false in
theorem witness_AccessCommandsComplete :
  ((fun (s : State) (q : CmdReq) => (s.Calm) ∧ (SvcTakes s q 0x01) ∧ (q.args = [])) (svcIn .dark) (svcQ [])) ∧
  ((fun (s : State) (q : CmdReq) => (s.Calm) ∧ (q.port = .a) ∧ (s.active .a = true) ∧ (q.dest = s.wall.id) ∧ (q.dest ≠ 0xFFF) ∧ (q.src ≠ 0xFFF) ∧ (s.copyOf q = none) ∧ (q.flags = 0) ∧ (q.zero = 0) ∧ (q.argLen = 0) ∧ (q.args = []) ∧ (s.recovery = false) ∧ (s.legal 0x01 = true) ∧ ((s.cmd.outstanding.filter fun o => o.port == .a) = []) ∧ (s.active (s.outPort q.src.toNat) = true) ∧ ((s.link (s.outPort q.src.toNat)).queue = [])) (linked) ({ svcQ [] with port := .a, src := 5 })) ∧
  ((fun (s : State) (i : Nat) (n : Nat) (q : CmdReq) => (s.Calm) ∧ (SvcTakes s q 0x02) ∧ (q.args.length = 6) ∧ (leAt q.args 0 4 = 0x20000 + 4 * i) ∧ (leAt q.args 4 2 = n) ∧ (1 ≤ n) ∧ (n ≤ 2048) ∧ (i + n ≤ 4096)) (svcIn .dark) (1) (2) (svcQ [4, 0, 2, 0, 2, 0])) ∧
  ((fun (s : State) (q : CmdReq) => (s.Calm) ∧ (SvcTakes s q 0x02) ∧ (q.args = [0, 0, 0, 0, 2, 0])) ({ svcIn .dark with eng := { st := .dark, transCount := 9 } }) (svcQ [0, 0, 0, 0, 2, 0])) ∧
  ((fun (s : State) (q : CmdReq) => (s.Calm) ∧ (SvcTakes s q 0x02) ∧ (q.args.length = 6) ∧ (leAt q.args 0 4 % 4 ≠ 0) ∧ (1 ≤ leAt q.args 4 2) ∧ (leAt q.args 4 2 ≤ 2048)) (svcIn .dark) (svcQ [1, 0, 2, 0, 2, 0])) ∧
  ((fun (s : State) (i : Nat) (n : Nat) (q : CmdReq) => (s.Calm) ∧ (SvcTakes s q 0x03) ∧ (q.args.length = 4 + 4 * n) ∧ (leAt q.args 0 4 = 0x20000 + 4 * i) ∧ (1 ≤ n) ∧ (n ≤ 2048) ∧ (i + n ≤ 4096)) (svcIn .dark) (1) (2) (svcQ [4, 0, 2, 0, 1, 2, 3, 4, 5, 6, 7, 8])) ∧
  ((fun (s : State) (q : CmdReq) => (s.Calm) ∧ (SvcTakes s q 0x03) ∧ (q.args.length % 4 = 0) ∧ (8 ≤ q.args.length) ∧ (q.args.length ≤ 8196) ∧ (leAt q.args 0 4 = 0x30000)) (svcIn .dark) (svcQ [0, 0, 3, 0, 1, 2, 3, 4])) ∧
  ((fun (s : State) (q : CmdReq) => (s.Calm) ∧ (SvcTakes s q 0x03) ∧ (q.args.length % 4 = 0) ∧ (8 ≤ q.args.length) ∧ (q.args.length ≤ 8196) ∧ (leAt q.args 0 4 = 0x10000) ∧ (s.allHalted = false)) ({ svcIn .dark with tum := { threads := List.replicate 7 {} ++ [{ st := .waiting }] } }) (svcQ [0, 0, 1, 0, 1, 2, 3, 4])) := by
  refine ⟨?_, ?_, ?_, ?_, ?_, ?_, ?_, ?_⟩ <;> decide

set_option maxRecDepth 100000 in
set_option linter.unusedVariables false in
theorem witness_CommandChecksRefuse :
  ((fun (s : State) (opcode : Byte) (q : CmdReq) => (s.Calm) ∧ (q.port = .service) ∧ (s.running = true) ∧ (s.pwr.sealHigh = false) ∧ (s.svcBusy = false) ∧ (opRule opcode.toNat = none) ∧ (s.copyOf q = none)) (svcIn .dark) (0xFF) (svcQ [])) ∧
  ((fun (s : State) (q : CmdReq) => (s.Calm) ∧ (q.port = .a) ∧ (s.active .a = true) ∧ (q.dest = s.wall.id) ∧ (s.copyOf q = none)) (linked) ({ svcQ [] with port := .a, src := 5 })) ∧
  ((fun (s : State) (q : CmdReq) => (s.Calm) ∧ (q.port = .a) ∧ (s.active .a = true) ∧ (q.dest = 0xFFF) ∧ (s.copyOf q = none)) (linked) ({ svcQ [] with port := .a, src := 5, dest := 0xFFF })) ∧
  ((fun (s : State) (q : CmdReq) => (s.Calm) ∧ (SvcTakes s q 0x01) ∧ (q.args ≠ [])) (svcIn .dark) (svcQ [1])) ∧
  ((fun (s : State) (q : CmdReq) => (s.Calm) ∧ (q.port = .b) ∧ (s.active .b = true) ∧ (q.dest = s.wall.id) ∧ (q.dest ≠ 0xFFF) ∧ (s.copyOf q = none) ∧ (q.flags = 0) ∧ (q.zero = 0) ∧ (q.argLen = 8) ∧ (q.args.length = 8) ∧ (leAt q.args 0 4 = 0x20000) ∧ (s.unitFenced 3 = true)) ({ linked with flt := { fences := 8 } }) ({ svcQ [0, 0, 2, 0, 1, 2, 3, 4] with port := .b, src := 5 })) ∧
  ((fun (s : State) (q : CmdReq) => (s.Calm) ∧ (q.port = .b) ∧ (s.active .b = true) ∧ (q.dest = s.wall.id) ∧ (q.dest ≠ 0xFFF) ∧ (s.copyOf q = none) ∧ (q.flags = 0) ∧ (q.zero = 0) ∧ (q.argLen = 8) ∧ (q.args.length = 8) ∧ (leAt q.args 0 4 = 0x20000) ∧ (s.unitFenced 3 = false) ∧ (s.ward.session = none) ∧ (s.ward.previous = none) ∧ (s.cmd.tagWindowB = [])) (linked) ({ svcQ [0, 0, 2, 0, 1, 2, 3, 4] with port := .b, src := 5 })) ∧
  ((fun (s : State) (q : CmdReq) => (s.Calm) ∧ (q.port = .service) ∧ (s.running = true) ∧ (s.pwr.sealHigh = false) ∧ (s.svcBusy = false) ∧ (s.copyOf q = none) ∧ (q.flags.toNat / 2 = 0) ∧ (q.zero = 0) ∧ (q.argLen = 0) ∧ (q.args = []) ∧ (s.eng.st ≠ .dark)) (svcIn .join) (svcQ [])) ∧
  ((fun (s : State) (e : Recent) (b : List Byte) (q : CmdReq) => (s.Calm) ∧ (q.port = .service) ∧ (s.running = true) ∧ (s.pwr.sealHigh = false) ∧ (s.svcBusy = false) ∧ (s.copyOf q = some e) ∧ (e.reply = some b) ∧ (b ≠ [])) ({ svcIn .dark with cmd := { recent := [{ port := .service, src := 0, cmdId := 1, at_ := 0, session := 0, reply := some [9] }] } }) ({ port := .service, src := 0, cmdId := 1, at_ := 0, session := 0, reply := some [9] }) ([9]) (svcQ [])) ∧
  ((fun (s : State) (q : CmdReq) => (s.Calm) ∧ (q.port = .service) ∧ (s.running = true) ∧ (s.pwr.sealHigh = false) ∧ (s.svcBusy = true)) ({ svcIn .dark with cmd := { outstanding := [{ port := .service, src := 0, cmdId := 1, opcode := 4, quiet := false, session := 0 }] } }) (svcQ [2, 0, 0, 0])) := by
  refine ⟨?_, ?_, ?_, ?_, ?_, ?_, ?_, ?_, ?_⟩ <;> decide

set_option maxRecDepth 100000 in
set_option linter.unusedVariables false in
theorem witness_ServicePortEvents :
  ((fun (s : State) (b : List Byte) => (s.Calm) ∧ (s.running = true) ∧ (s.pwr.sealHigh = false) ∧ (s.svcBusy = false) ∧ (s.cmd.svcReply = some b)) ({ svcIn .dark with cmd := { svcReply := some [1, 2, 3] } }) ([1, 2, 3])) ∧
  ((fun (s : State) => (s.Calm) ∧ (s.running = true) ∧ (s.pwr.sealHigh = false) ∧ (s.svcBusy = true ∨ s.cmd.svcReply = none)) (svcIn .dark)) ∧
  ((fun (s : State) (bits : List Bool) => (s.Calm) ∧ (s.running = true) ∧ (s.pwr.sealHigh = false) ∧ ((lsbBytes bits).head? ≠ some 0x5D) ∧ (writeValid (lsbBytes bits) = false)) (svcIn .dark) (lsbBits [0x5C, 1, 0])) ∧
  ((fun (s : State) (bits : List Bool) => (s.Calm) ∧ (s.pwr.sealHigh = true)) (inState .dark) (lsbBits [0x5C, 1, 0])) ∧
  ((fun (s : State) => (s.Calm) ∧ (s.running = true) ∧ (s.pwr.sealHigh = true)) (inState .dark)) ∧
  ((fun (s : State) => (s.Calm) ∧ (s.running = true) ∧ (s.pwr.sealHigh = false)) (svcIn .dark)) := by
  refine ⟨?_, ?_, ?_, ?_, ?_, ?_⟩ <;> decide

set_option maxRecDepth 100000 in
set_option linter.unusedVariables false in
theorem witness_PictureCommandsComplete :
  ((fun (s : State) (q : CmdReq) => (s.Calm) ∧ (SvcTakes s q 0x04) ∧ (q.args.length = 4) ∧ (s.unitFenced 0 = false) ∧ (s.comp.queue = [])) (svcIn .dark) (svcQ [3, 0, 1, 9])) ∧
  ((fun (s : State) (q : CmdReq) => (s.Calm) ∧ (SvcTakes s q 0x04) ∧ (q.args.length = 4) ∧ (s.unitFenced 0 = false) ∧ (s.comp.queue.length = 5)) ({ svcIn .dark with comp := { queue := List.replicate 5 { mask := 1, globals := false, token := 0, by_ := .register } } }) (svcQ [3, 0, 1, 9])) ∧
  ((fun (s : State) (m : Mode) (q : CmdReq) => (s.Calm) ∧ (SvcTakes s q 0x05) ∧ (q.args.length = 16) ∧ (s.unitFenced 0 = false) ∧ (s.comp.pendingMode = none) ∧ (s.modeOf (BitVec.ofNat 32 (leAt q.args 0 4)) (BitVec.ofNat 32 (leAt q.args 4 4)) (BitVec.ofNat 32 (leAt q.args 8 4)) (BitVec.ofNat 32 (leAt q.args 12 4)) = some m) ∧ (s.modeStale m = false) ∧ (s.modeFits m = true)) (svcIn .dark) ({ num := 60, den := 1, seg := 0x515, depth := 16, vblankUs := 200, target := 0 }) (svcQ [60, 0, 1, 0, 0x15, 5, 0, 0, 16, 0, 0xC8, 0, 0, 0, 0, 0])) ∧
  ((fun (s : State) (q : CmdReq) => (s.Calm) ∧ (SvcTakes s q 0x06) ∧ (q.args.length = 4) ∧ (s.unitFenced 1 = false) ∧ (s.col.landings = []) ∧ (leAt q.args 0 1 % 4 ≠ 0)) (svcIn .dark) (svcQ [3, 0, 0, 9])) ∧
  ((fun (s : State) (q : CmdReq) => (s.Calm) ∧ (SvcTakes s q 0x06) ∧ (q.args.length = 4) ∧ (s.unitFenced 1 = false) ∧ (leAt q.args 0 1 % 4 = 0) ∧ (s.losers 21 = [])) (svcIn .dark) (svcQ [0, 0, 0, 9])) ∧
  ((fun (s : State) (x : CalReq) (q : CmdReq) => (s.Calm) ∧ (SvcTakes s q 0x07) ∧ (q.args.length = 12) ∧ (s.unitFenced 1 = false) ∧ (calReq (BitVec.ofNat 32 (leAt q.args 0 4)) (BitVec.ofNat 32 (leAt q.args 4 4)) (BitVec.ofNat 32 (leAt q.args 8 4)) = some x) ∧ (s.col.calQueue = [])) (svcIn .dark) ({ x := 0, y := 0, w := 1, h := 1, add := false, fence := false, unfence := true, ug := [0, 0, 0] }) (svcQ [0, 0, 0, 0, 0, 0, 0, 0, 0, 0, 16, 0])) ∧
  ((fun (s : State) (q : CmdReq) => (s.Calm) ∧ (SvcTakes s q 0x08) ∧ (q.args.length = 4) ∧ (s.rings.cairnOn = false) ∧ (s.rings.sweep = .none) ∧ (leAt q.args 0 1 % 4 = 1 ∨ leAt q.args 0 1 % 4 = 2)) (svcIn .dark) (svcQ [5, 0, 0, 0])) ∧
  ((fun (s : State) (q : CmdReq) => (s.Calm) ∧ (SvcTakes s q 0x09) ∧ (q.args = [0, 0, 0, 0]) ∧ (s.pwr.noNewStore = false) ∧ (s.unitFenced 9 = false) ∧ (s.nvm.storing .settings = false)) (svcIn .dark) (svcQ [0, 0, 0, 0])) ∧
  ((fun (s : State) (q : CmdReq) => (s.Calm) ∧ (SvcTakes s q 0x09) ∧ (q.args = [0, 0, 0, 0]) ∧ (s.unitFenced 9 = false) ∧ (s.nvm.storing .settings = true)) ({ svcIn .dark with nvm := { jobSettings := some {} } }) (svcQ [0, 0, 0, 0])) ∧
  ((fun (s : State) (q : CmdReq) => (s.Calm) ∧ (SvcTakes s q 0x0A) ∧ (q.args.length = 4) ∧ (s.unitFenced 5 = false) ∧ (s.tum.doorbell.length < 4) ∧ (s.losers 11 = [])) ({ svcIn .dark with tum := { threads := List.replicate 7 {} ++ [{ st := .ready }] } }) (svcQ [1, 2, 3, 4])) ∧
  ((fun (s : State) (q : CmdReq) => (s.Calm) ∧ (SvcTakes s q 0x0A) ∧ (q.args.length = 4) ∧ (s.unitFenced 5 = false) ∧ (s.tum.doorbell.length = 4)) ({ svcIn .dark with tum := { doorbell := [1, 2, 3, 4] } }) (svcQ [1, 2, 3, 4])) ∧
  ((fun (s : State) (i : Nat) (n : Nat) (q : CmdReq) => (s.Calm) ∧ (SvcTakes s q 0x0B) ∧ (q.args.length = 4 + 4 * n) ∧ (leAt q.args 0 4 = i) ∧ (1 ≤ n) ∧ (n ≤ 2048) ∧ (i + n ≤ 16384) ∧ (s.allHalted = true) ∧ (s.unitFenced 5 = false)) (svcIn .dark) (16) (2) (svcQ [16, 0, 0, 0, 1, 2, 3, 4, 5, 6, 7, 8])) := by
  refine ⟨?_, ?_, ?_, ?_, ?_, ?_, ?_, ?_, ?_, ?_, ?_, ?_⟩ <;> decide

set_option maxRecDepth 100000 in
set_option linter.unusedVariables false in
theorem witness_LightAndSafetyCommandsComplete :
  ((fun (s : State) (q : CmdReq) => (s.Calm) ∧ (SvcTakes s q 0x10) ∧ (q.args = []) ∧ (s.eng.stale = false) ∧ (s.safeDemand = false) ∧ (s.criticalOpen = false) ∧ (s.losers 24 = [])) (svcIn .dark) (svcQ [])) ∧
  ((fun (s : State) (q : CmdReq) => (s.Calm) ∧ (SvcTakes s q 0x10) ∧ (q.args = []) ∧ (s.eng.stale = true ∨ s.safeDemand = true ∨ s.criticalOpen = true)) ({ svcIn .dark with eng := { st := .dark, stale := true } }) (svcQ [])) ∧
  ((fun (s : State) (q : CmdReq) => (s.Calm) ∧ (SvcTakes s q 0x11) ∧ (q.args = []) ∧ (s.losers 24 = [])) (svcIn .lit) (svcQ [])) ∧
  ((fun (s : State) (q : CmdReq) => (s.Calm) ∧ (SvcTakes s q 0x12) ∧ (q.args = [2, 0, 0, 0]) ∧ (s.saf.func ≠ some .slo) ∧ (s.losers 23 = []) ∧ (s.losers 24 = []) ∧ (s.eng.leaving = false)) ({ svcIn .lit with saf := { drvEnA := true, drvEnB := true, vledDis := false, sloOut := false } }) (svcQ [2, 0, 0, 0])) ∧
  ((fun (s : State) (q : CmdReq) => (s.Calm) ∧ (SvcTakes s q 0x12) ∧ (q.args.length = 4) ∧ (leAt q.args 0 4 = 0 ∨ 4 ≤ leAt q.args 0 4)) (svcIn .lit) (svcQ [0, 0, 0, 0])) ∧
  ((fun (s : State) (r : FaultRecord) (q : CmdReq) => (s.Calm) ∧ (SvcTakes s q 0x13) ∧ (q.args.length = 4) ∧ (leAt q.args 0 4 ≠ 0xFFFFFFFF) ∧ (s.flt.records.find? (fun r => r.number == BitVec.ofNat 32 (leAt q.args 0 4)) = some r) ∧ (r.members.all (fun m => decide (m.sev.val < 2)) = true)) ({ svcIn .lit with flt := { slots := some { number := 5, src := 0x20, severity := 1, origSev := 1, injected := false, wValid := false, acked := false, mergeCount := 0, lastMerged := 0, mergedBlocks := 0, detail := 0, timeUs := 0, members := [{ src := 0x20, detail := 0, sev := 1, react := true, unit := .none }], handling := false } :: List.replicate 63 none } }) ({ number := 5, src := 0x20, severity := 1, origSev := 1, injected := false, wValid := false, acked := false, mergeCount := 0, lastMerged := 0, mergedBlocks := 0, detail := 0, timeUs := 0, members := [{ src := 0x20, detail := 0, sev := 1, react := true, unit := .none }], handling := false }) (svcQ [5, 0, 0, 0])) ∧
  ((fun (s : State) (r : FaultRecord) (q : CmdReq) => (s.Calm) ∧ (SvcTakes s q 0x13) ∧ (q.args.length = 4) ∧ (leAt q.args 0 4 = r.number.toNat) ∧ (r.number ≠ 0xFFFFFFFF) ∧ (s.flt.slots = some r :: List.replicate 63 none) ∧ (r.members = [{ src := 0x43, detail := 0, sev := 2, react := true, unit := .unit 0 }]) ∧ (s.flt.conds = [])) ({ svcIn .lit with flt := { fences := 1, slots := some { number := 5, src := 0x43, severity := 2, origSev := 2, injected := false, wValid := false, acked := false, mergeCount := 0, lastMerged := 0, mergedBlocks := 0, detail := 0, timeUs := 0, members := [{ src := 0x43, detail := 0, sev := 2, react := true, unit := .unit 0 }], handling := false } :: List.replicate 63 none } }) ({ number := 5, src := 0x43, severity := 2, origSev := 2, injected := false, wValid := false, acked := false, mergeCount := 0, lastMerged := 0, mergedBlocks := 0, detail := 0, timeUs := 0, members := [{ src := 0x43, detail := 0, sev := 2, react := true, unit := .unit 0 }], handling := false }) (svcQ [5, 0, 0, 0])) ∧
  ((fun (s : State) (q : CmdReq) => (s.Calm) ∧ (SvcTakes s q 0x13) ∧ (q.args.length = 4) ∧ (leAt q.args 0 4 ≠ 0xFFFFFFFF) ∧ ((match s.flt.records.find? (fun r => r.number == BitVec.ofNat 32 (leAt q.args 0 4)) with | none => true | some r => s.ackBlocked r) = true)) (svcIn .lit) (svcQ [5, 0, 0, 0])) ∧
  ((fun (s : State) (q : CmdReq) => (s.Calm) ∧ (SvcTakes s q 0x14) ∧ (q.args.length = 8) ∧ (s.pwr.noNewStore = false) ∧ (s.unitFenced 9 = false) ∧ (s.nvm.storing .settings = false)) ({ svcIn .dark with eng := { st := .dark, stale := true } }) (svcQ [1, 0, 0, 0, 2, 0, 0, 0])) ∧
  ((fun (s : State) (q : CmdReq) => (s.Calm) ∧ (SvcTakes s q 0x15) ∧ (q.args = []) ∧ (s.pwr.noNewStore = false) ∧ (s.unitFenced 9 = false) ∧ (s.nvm.storing .settings = false) ∧ (s.cmd.shutdownFrom = none)) (svcIn .lit) (svcQ [])) ∧
  ((fun (s : State) (q : CmdReq) => (s.Calm) ∧ (SvcTakes s q 0x15) ∧ (q.args = []) ∧ (s.cmd.shutdownFrom.isSome = true)) ({ svcIn .dark with cmd := { shutdownFrom := some { port := .a, src := 0, cmdId := 1, opcode := 0x15, quiet := false, session := 0 } } }) (svcQ [])) := by
  refine ⟨?_, ?_, ?_, ?_, ?_, ?_, ?_, ?_, ?_, ?_, ?_⟩ <;> decide

set_option maxRecDepth 100000 in
set_option linter.unusedVariables false in
theorem witness_UpdateAndServiceCommandsComplete :
  ((fun (s : State) (q : CmdReq) => (s.Calm) ∧ (SvcTakes s q 0x18) ∧ (q.args.length = 1024) ∧ (s.unitFenced 9 = false) ∧ (s.pwr.noNewStore = false) ∧ (s.unitFenced 3 = false) ∧ (s.losers 24 = []) ∧ (s.losers 19 = [])) (svcIn .dark) (svcQ (List.replicate 1024 0))) ∧
  ((fun (s : State) (q : CmdReq) => (s.Calm) ∧ (SvcTakes s q 0x19) ∧ (q.args = []) ∧ (s.eng.beforeUpdate = .dark ∨ s.eng.beforeUpdate = .lit) ∧ (s.losers 24 = [])) ({ svcIn .update with nvm := { phase := .receiving, updTarget := true } }) (svcQ [])) ∧
  ((fun (s : State) (q : CmdReq) => (s.Calm) ∧ (SvcTakes s q 0x1A) ∧ (q.args = []) ∧ (s.nvm.phase = .staged) ∧ (s.unitFenced 9 = false) ∧ (s.pwr.noNewStore = false) ∧ (s.unitFenced 4 = false) ∧ (s.eng.noImage = false) ∧ (s.age.busy = false)) ({ svcIn .update with nvm := { phase := .staged, updTarget := true } }) (svcQ [])) ∧
  ((fun (s : State) (q : CmdReq) => (s.Calm) ∧ (SvcTakes s q 0x1A) ∧ (q.args = []) ∧ (s.nvm.phase = .staged) ∧ (s.unitFenced 9 = false) ∧ (s.pwr.noNewStore = false) ∧ (s.eng.noImage = true) ∧ (s.age.busy = false) ∧ (s.age.forRestart = false)) ({ svcIn .update with eng := { st := .update, noImage := true }, nvm := { phase := .staged, updTarget := true } }) (svcQ [])) ∧
  ((fun (s : State) (q : CmdReq) => (s.Calm) ∧ (q.port = .service) ∧ (s.running = true) ∧ (s.pwr.sealHigh = false) ∧ (s.svcBusy = false) ∧ (s.copyOf q = none) ∧ (q.flags.toNat / 2 = 0) ∧ (q.zero = 0) ∧ (q.argLen = 0) ∧ (q.args = []) ∧ (s.unitFenced 9 = false) ∧ (s.pwr.noNewStore = false) ∧ (s.eng.st = .service) ∧ (s.eng.noImage = true) ∧ (s.bootRec.slot s.stageSlot = .staged) ∧ (s.age.busy = false) ∧ (s.age.forRestart = false)) ({ svcIn .service with eng := { st := .service, noImage := true } }.writeBoot (fun b => b.setSlot { svcIn .service with eng := { st := .service, noImage := true } }.stageSlot .staged)) (svcQ [])) ∧
  ((fun (s : State) (q : CmdReq) => (s.Calm) ∧ (SvcTakes s q 0x1A) ∧ (q.args = []) ∧ (s.mayRestart = false) ∧ (s.unitFenced 9 = false)) (svcIn .update) (svcQ [])) ∧
  ((fun (s : State) (q : CmdReq) => (s.Calm) ∧ (SvcTakes s q 0x30) ∧ (q.args = []) ∧ (s.losers 24 = []) ∧ (s.losers 19 = [])) ({ svcIn .dark with tum := { threads := { st := .ready } :: List.replicate 7 {} } }) (svcQ [])) ∧
  ((fun (s : State) (q : CmdReq) => (s.Calm) ∧ (s.TumShaped) ∧ (SvcTakes s q 0x31) ∧ (q.args = []) ∧ (s.eng.joined = true) ∧ (s.safeDemand = false) ∧ (s.criticalOpen = false) ∧ (s.led.on = true) ∧ (s.unitFenced 5 = false) ∧ (s.losers 24 = [])) ({ svcIn .service with eng := { st := .service, joined := true }, led := { on := true } }) (svcQ [])) ∧
  ((fun (s : State) (p : SafetyParams) (q : CmdReq) => (s.Calm) ∧ (SvcTakes s q 0x33) ∧ (q.args.length = 32) ∧ (s.unitFenced 9 = false) ∧ (s.pwr.noNewStore = false) ∧ (paramsOf s.saf.straps q.args = some p)) (svcIn .service) ({ tpEn := false, ownConn := 1, pcrc := 0x9c3e24a6 }) (svcQ [1, 0, 2, 47, 100, 0, 0xE8, 3, 100, 0, 10, 2, 0, 0, 0, 0, 1, 0, 0, 0, 0, 0, 0, 0, 0, 0, 0, 0, 166, 36, 62, 156])) ∧
  ((fun (s : State) (q : CmdReq) => (s.Calm) ∧ (SvcTakes s q 0x33) ∧ (q.args.length = 32) ∧ (s.unitFenced 9 = false) ∧ (paramsOf s.saf.straps q.args = none)) (svcIn .service) (svcQ (List.replicate 32 0))) ∧
  ((fun (s : State) (q : CmdReq) => (s.Calm) ∧ (SvcTakes s q 0x34) ∧ (q.args = [3, 0, 0, 0]) ∧ (s.unitFenced 9 = false) ∧ (s.pwr.noNewStore = false)) ({ svcIn .service with nvm := { log := [{ typ := 1, detail := 0, time := 0, data := [] }] } }) (svcQ [3, 0, 0, 0])) ∧
  ((fun (s : State) (q : CmdReq) => (s.Calm) ∧ (SvcTakes s q 0x34) ∧ (q.args = [5, 0, 0, 0]) ∧ (s.unitFenced 9 = false) ∧ (s.pwr.noNewStore = false) ∧ (s.bootRec.slot0 = .confirmed) ∧ (s.bootRec.slot1 ≠ .confirmed)) (svcIn .service) (svcQ [5, 0, 0, 0])) ∧
  ((fun (s : State) (q : CmdReq) => (s.Calm) ∧ (SvcTakes s q 0x34) ∧ (q.args.length = 4) ∧ (s.unitFenced 9 = false) ∧ (leAt q.args 0 4 = 0 ∨ 7 ≤ leAt q.args 0 4)) (svcIn .service) (svcQ [7, 0, 0, 0])) := by
  refine ⟨?_, ?_, ?_, ?_, ?_, ?_, ?_, ?_, ?_, ?_, ?_, ?_, ?_⟩ <;> decide

set_option maxRecDepth 100000 in
set_option linter.unusedVariables false in
theorem witness_WardCommandsComplete :
  ((fun (s : State) (q : CmdReq) => (s.Calm) ∧ (SvcTakes s q 0x20) ∧ (q.args.length = 16) ∧ (s.unitFenced 3 = false)) (svcIn .dark) (svcQ (List.replicate 16 7))) ∧
  ((fun (s : State) (q : CmdReq) => (s.Calm) ∧ (SvcTakes s q 0x20) ∧ (q.args.length = 16) ∧ (s.unitFenced 3 = true)) ({ svcIn .dark with flt := { fences := 8 } }) (svcQ (List.replicate 16 7))) ∧
  ((fun (s : State) (q : CmdReq) => (s.Calm) ∧ (SvcTakes s q 0x21) ∧ (q.args.length = 8) ∧ (leAt q.args 6 2 = 0) ∧ (1 ≤ leAt q.args 4 2) ∧ (leAt q.args 4 2 ≤ 16)) (svcIn .dark) (svcQ [0, 0, 0, 0, 16, 0, 0, 0])) ∧
  ((fun (s : State) (q : CmdReq) => (s.Calm) ∧ (SvcTakes s q 0x21) ∧ (q.args.length = 8) ∧ (leAt q.args 6 2 = 0) ∧ (leAt q.args 4 2 = 0 ∨ 16 < leAt q.args 4 2)) (svcIn .dark) (svcQ [0, 0, 0, 0, 17, 0, 0, 0])) ∧
  ((fun (s : State) (q : CmdReq) => (s.Calm) ∧ (SvcTakes s q 0x22) ∧ (q.args.length = 68) ∧ (leAt q.args 4 4 = 0) ∧ (s.unitFenced 3 = false) ∧ (leAt q.args 0 4 < s.ward.highWater.toNat)) ({ svcIn .dark with ward := { highWater := 5 } }) (svcQ (List.replicate 68 0))) ∧
  ((fun (s : State) (q : CmdReq) => (s.Calm) ∧ (SvcTakes s q 0x22) ∧ (q.args.length = 68) ∧ (leAt q.args 4 4 = 0) ∧ (s.unitFenced 3 = false) ∧ (s.ward.highWater.toNat ≤ leAt q.args 0 4) ∧ ((gcmOpen s.ward.kSwrap (slice q.args 8 12) (slice q.args 0 8) (slice q.args 20 32) (slice q.args 52 16)).isSome = true)) (svcIn .dark) (svcQ sampleOpen)) ∧
  ((fun (s : State) (q : CmdReq) => (s.Calm) ∧ (SvcTakes s q 0x22) ∧ (q.args.length = 68) ∧ (leAt q.args 4 4 = 0) ∧ (s.unitFenced 3 = false) ∧ (s.ward.highWater.toNat ≤ leAt q.args 0 4) ∧ (gcmOpen s.ward.kSwrap (slice q.args 8 12) (slice q.args 0 8) (slice q.args 20 32) (slice q.args 52 16) = none)) (svcIn .dark) (svcQ (sampleOpen.set 67 0))) ∧
  ((fun (s : State) (k : BitVec 256) (q : CmdReq) => (s.Calm) ∧ (SvcTakes s q 0x32) ∧ (enrollOk q.args = true) ∧ (s.unitFenced 3 = false) ∧ (s.enrollCheck q.args = 0) ∧ ((if leAt q.args 0 1 = 3 then some 0 else s.unwrapWall q.args) = some k)) (sampleOwned) (0) (svcQ sampleRelease)) ∧
  ((fun (s : State) (q : CmdReq) => (s.Calm) ∧ (SvcTakes s q 0x32) ∧ (enrollOk q.args = true) ∧ (s.unitFenced 3 = false) ∧ (s.enrollCheck q.args ≠ 0)) ({ svcIn .service with ward := { owned := true, engineId := 0, enrollCount := 1 } }) (svcQ (3 :: List.replicate 479 0))) ∧
  ((fun (s : State) (q : CmdReq) => (s.Calm) ∧ (SvcTakes s q 0x35) ∧ (q.args = [0, 0, 0, 0]) ∧ (s.ward.owned = true) ∧ (s.unitFenced 3 = false)) ({ svcIn .service with ward := { owned := true } }) (svcQ [0, 0, 0, 0])) ∧
  ((fun (s : State) (q : CmdReq) => (s.Calm) ∧ (SvcTakes s q 0x35) ∧ (q.args.length = 132) ∧ (leAt q.args 0 4 = 1) ∧ (s.ward.owned = true) ∧ (s.unitFenced 3 = false) ∧ (s.unlockSigned q.args = true) ∧ (s.ward.challenge.map bytes256 = some (slice q.args 4 32))) (sampleOwned) (svcQ sampleUnlock)) ∧
  ((fun (s : State) (q : CmdReq) => (s.Calm) ∧ (SvcTakes s q 0x35) ∧ (q.args.length = 132) ∧ (leAt q.args 0 4 = 1) ∧ (s.ward.owned = true) ∧ (s.unitFenced 3 = false) ∧ (s.unlockSigned q.args = true) ∧ (s.ward.challenge.map bytes256 ≠ some (slice q.args 4 32))) ({ sampleOwned with ward := { sampleOwned.ward with challenge := none } }) (svcQ sampleUnlock)) ∧
  ((fun (s : State) (q : CmdReq) => (s.Calm) ∧ (SvcTakes s q 0x35) ∧ (q.args.length = 132) ∧ (leAt q.args 0 4 = 1) ∧ (s.ward.owned = true) ∧ (s.unitFenced 3 = false) ∧ (s.unlockSigned q.args = false)) ({ svcIn .service with ward := { owned := true } }) (svcQ (1 :: List.replicate 131 0))) := by
  refine ⟨?_, ?_, ?_, ?_, ?_, ?_, ?_, ?_, ?_, ?_, ?_, ?_, ?_⟩
  · decide
  · decide
  · decide
  · decide
  · decide
  · exact ⟨by decide, by decide, by decide, by decide, by decide, by decide, gcmOpen_sample⟩
  · exact ⟨by decide, by decide, by decide, by decide, by decide, by decide, gcmOpen_wrong⟩
  · exact ⟨by decide, by decide, by decide, by decide, enrollCheck_sample, rfl⟩
  · decide
  · decide
  · exact ⟨by decide, by decide, by decide, by decide, by decide, by decide, unlockSigned_sample, by decide⟩
  · exact ⟨by decide, by decide, by decide, by decide, by decide, by decide, unlockSigned_ended, by decide⟩
  · decide

set_option maxRecDepth 100000 in
set_option linter.unusedVariables false in
theorem witness_WardKeysAndRecords :
  ((fun (s : State) (src : Source) (w : Word) => (s.Calm) ∧ (s.canAccess src = true) ∧ (s.accessLegal src true (0x3880) = true) ∧ (src ≠ .tumbler) ∧ (s.unitFenced 3 = false) ∧ (s.ward.keyBusy = false) ∧ (w.getLsbD 9 = false) ∧ (s.keyLoadCode w = 0)) (sampleKeyed) (.portA) (5)) ∧
  ((fun (s : State) (src : Source) (w : Word) => (s.Calm) ∧ (s.canAccess src = true) ∧ (s.accessLegal src true (0x3880) = true) ∧ (src ≠ .tumbler) ∧ (s.unitFenced 3 = false) ∧ (s.ward.keyBusy = false) ∧ (s.keyLoadCode w ≠ 0)) (linked) (.portA) (5)) ∧
  ((fun (s : State) (src : Source) (w : Word) => (s.Calm) ∧ (s.canAccess src = true) ∧ (s.accessLegal src true (0x3880) = true) ∧ (src ≠ .tumbler) ∧ (s.unitFenced 3 = false) ∧ (s.ward.keyBusy = false) ∧ (w.getLsbD 9 = false) ∧ (s.ward.session = none) ∧ (s.ward.previous = none)) (linked) (.portA) (5)) ∧
  ((fun (s : State) (src : Source) (w : Word) => (s.Calm) ∧ (s.canAccess src = true) ∧ (s.accessLegal src true 0x3880 = true) ∧ (src ≠ .tumbler) ∧ (s.unitFenced 3 = true)) ({ linked with flt := { fences := 8 } }) (.portA) (5)) ∧
  ((fun (s : State) (src : Source) (w : Word) => (s.Calm) ∧ (s.canAccess src = true) ∧ (s.accessLegal src true (0x3880) = true) ∧ (src ≠ .tumbler) ∧ (s.unitFenced 3 = false) ∧ (s.ward.keyBusy = false)) ({ linked with ward := { slots := [(5, { key := 1, gmac := false, gen := 2 })] }, ctxs := { w0 := 0x500, any := true } :: List.replicate 255 {} }) (.portA) (5)) ∧
  ((fun (s : State) => (s.Calm) ∧ (s.ward.previous.isSome = true)) ({ linked with ward := { previous := some { no := 1, secret := 0, entries := [] } } })) ∧
  ((fun (s : State) (r : ProofRec) (l : List ProofRec) => (s.Calm) ∧ (s.running = true) ∧ (s.unitFenced 3 = false) ∧ (s.ward.unsigned = r :: l)) ({ linked with ward := { unsigned := [{ no := 1, tile := 0, flags := 1, flips := 3, firstW := 0, firstFlip := 0, full := 0, lit := 0, lastSig := 0, sigs := [], first := false, prevHash := 9, layers := [], signature := [] }] } }) ({ no := 1, tile := 0, flags := 1, flips := 3, firstW := 0, firstFlip := 0, full := 0, lit := 0, lastSig := 0, sigs := [], first := false, prevHash := 9, layers := [], signature := [] }) ([])) ∧
  ((fun (s : State) => (s.Calm) ∧ (s.ward.challenge.isSome = true)) ({ linked with ward := { challenge := some 5 } })) ∧
  ((fun (s : State) => (s.Calm) ∧ (s.running = true) ∧ (s.hasCond 0xB0 0 = false) ∧ (s.flt.sevOf 0xB0 = 2)) ({ linked with ward := { session := some { no := 1, secret := 0, entries := [] } } })) ∧
  ((fun (s : State) => (s.Calm) ∧ (s.running = true) ∧ (s.hasCond 0xB1 0 = false) ∧ (s.flt.sevOf 0xB1 = 2)) ({ linked with ward := { session := some { no := 1, secret := 0, entries := [] } } })) := by
  refine ⟨?_, ?_, ?_, ?_, ?_, ?_, ?_, ?_, ?_, ?_⟩
  · exact ⟨by decide, by decide, by decide, by decide, by decide, by decide, by decide, keyLoadCode_sample⟩
  · decide
  · decide
  · decide
  · decide
  · decide
  · decide
  · decide
  · decide
  · decide

set_option maxRecDepth 100000 in
set_option linter.unusedVariables false in
theorem witness_SafetyInputsComplete :
  ((fun (s : State) (input : InputAB) (ch : Bool) => (s.Calm) ∧ (s.saf.inputFunc input = some .slo) ∧ ((if ch then (s.saf.input input).filt1 else (s.saf.input input).filt0) = true) ∧ (s.saf.straps.getLsbD 4 = false) ∧ (s.saf.func ≠ some .slo) ∧ (s.eng.st = .join ∨ s.eng.st = .dark ∨ s.eng.st = .lit ∨ s.eng.st = .safe) ∧ (s.losers 23 = []) ∧ (s.losers 24 = []) ∧ (s.eng.leaving = false)) ({ inState .lit with saf := { inputA := { filt0 := true, filt1 := true }, drvEnA := true, drvEnB := true, vledDis := false, sloOut := false } }) (.a) (true)) ∧
  ((fun (s : State) (input : InputAB) (ch : Bool) => (s.Calm) ∧ (s.saf.inputFunc input = none) ∧ (s.eng.st ≠ .off) ∧ ((if ch then (s.saf.input input).filt1 else (s.saf.input input).filt0) = true)) ({ inState .lit with saf := { straps := 0xC, inputB := { filt0 := true, filt1 := true } } }) (.b) (false)) ∧
  ((fun (s : State) (input : InputAB) (ch : Bool) (pressMs : Nat) => (s.Calm) ∧ (s.eng.st ≠ .off) ∧ ((if ch then (s.saf.input input).filt1 else (s.saf.input input).filt0) = false) ∧ ((if ch then (s.saf.input input).filt0 else (s.saf.input input).filt1) = false)) (inState .lit) (.a) (false) (500)) ∧
  ((fun (s : State) (input : InputAB) (ch : Bool) (pressMs : Nat) => (s.Calm) ∧ (s.eng.st ≠ .off) ∧ (input = .b) ∧ (s.saf.inputFunc .b = none) ∧ ((if ch then (s.saf.input input).filt1 else (s.saf.input input).filt0) = false) ∧ ((if ch then (s.saf.input input).filt0 else (s.saf.input input).filt1) = true) ∧ ((s.saf.input input).faulted = false)) ({ inState .lit with saf := { straps := 0xC, inputB := { filt0 := true } } }) (.b) (true) (100)) ∧
  ((fun (s : State) (output : Bool) (failA : Bool) (failB : Bool) => (s.Calm) ∧ (s.running = true) ∧ (s.eng.st ≠ .boot) ∧ (s.saf.params.tpEn = true) ∧ (failA = false) ∧ (failB = false) ∧ (s.saf.inputA.faulted = false) ∧ (s.saf.inputB.faulted = false)) (inState .lit) (true) (false) (false)) ∧
  ((fun (s : State) (output : Bool) (failA : Bool) (failB : Bool) => (s.Calm) ∧ (s.running = true) ∧ (s.eng.st ≠ .boot) ∧ (s.saf.params.tpEn = true) ∧ (failA = true) ∧ (failB = false) ∧ (s.saf.inputA.tpFails = 1) ∧ (s.saf.inputFunc .a = some .slo)) ({ inState .lit with saf := { inputA := { tpFails := 1 } } }) (true) (true) (false)) ∧
  ((fun (s : State) (input : InputAB) => (s.Calm) ∧ (s.running = true) ∧ (s.saf.params.discMs ≤ (s.saf.input input).discCount) ∧ ((s.saf.input input).byDisc = false) ∧ (s.saf.inputFunc input = some .slo)) ({ inState .lit with saf := { inputB := { discCount := 100, filt0 := true } } }) (.b)) ∧
  ((fun (s : State) (input : InputAB) => (s.Calm) ∧ (s.eng.st = .standby) ∧ (s.saf.params.discMs ≤ (s.saf.input input).discCount) ∧ ((s.saf.input input).byDisc = false) ∧ (s.saf.inputFunc input = some .slo)) ({ inState .standby with saf := { inputB := { discCount := 100, filt0 := true } } }) (.b)) ∧
  ((fun (s : State) => (s.Calm) ∧ (s.saf.ackReady = true) ∧ (s.saf.inA = none) ∧ (s.saf.inB = none) ∧ (s.saf.bcDemand = none) ∧ (s.saf.watchdog = none) ∧ (s.saf.request.isSome = true) ∧ (s.eng.st = .safe) ∧ (s.eng.noImage = false) ∧ (s.eng.joined = true) ∧ (s.saf.selftestOk = true) ∧ (s.saf.paramsOk = true) ∧ (s.losers 23 = []) ∧ (s.losers 24 = [])) ({ inState .safe with eng := { st := .safe, joined := true }, saf := { ackReady := true, request := some .slo, selftestOk := true, paramsOk := true } })) ∧
  ((fun (s : State) => (s.Calm) ∧ (s.running = true) ∧ (s.saf.ackReady = true) ∧ (s.saf.inA.isSome = true) ∧ (s.saf.inB = none) ∧ (s.saf.bcDemand = none) ∧ (s.saf.watchdog = none) ∧ (s.saf.request = none) ∧ (s.saf.inputA.filt0 = false)) ({ inState .safe with saf := { ackReady := true, inA := some .slo } })) := by
  refine ⟨?_, ?_, ?_, ?_, ?_, ?_, ?_, ?_, ?_, ?_⟩ <;> decide

set_option maxRecDepth 100000 in
set_option linter.unusedVariables false in
theorem witness_SafetyMonitorComplete :
  ((fun (s : State) (obs : TickObs) => (s.Calm) ∧ (s.running = true) ∧ (s.saf.fading = false) ∧ (obs.mismatch = false) ∧ (obs.pinFail = false)) ({ inState .lit with saf := { inputA := { filt0 := true } } }) ({ raw := 0, mismatch := false, pinFail := false, phaseMa := 0, maxEcho := 0 })) ∧
  ((fun (s : State) (obs : TickObs) => (s.Calm) ∧ (s.running = true) ∧ (s.saf.fading = false) ∧ (obs.mismatch = true) ∧ (obs.pinFail = false)) ({ inState .lit with saf := { xMism := 1 } }) ({ raw := 0, mismatch := true, pinFail := false, phaseMa := 0, maxEcho := 0 })) ∧
  ((fun (s : State) (obs : TickObs) => (s.Calm) ∧ (s.eng.st = .standby)) ({ inState .standby with saf := { inputA := { filt0 := true } } }) ({ raw := 1, mismatch := true, pinFail := false, phaseMa := 0, maxEcho := 0 })) ∧
  ((fun (s : State) (obs : TickObs) => (s.Calm) ∧ (s.running = true) ∧ (s.saf.fading = true) ∧ (obs.mismatch = false) ∧ (obs.pinFail = false) ∧ (0 < s.saf.fadeL0) ∧ (20 * obs.phaseMa * s.saf.fadeL0 ≤ 20 * s.saf.fadeI0 * s.saf.ceil1 + s.saf.fadeI0 * s.saf.fadeL0 + 10000 * s.saf.fadeL0) ∧ (obs.maxEcho ≤ s.saf.ceiling)) ({ inState .safe with saf := { fading := true, inA := some .sfd, fadeL0 := 100, fadeI0 := 1000, ceil1 := 100, ceiling := 100, fadeTick := 99 } }) ({ raw := 0, mismatch := false, pinFail := false, phaseMa := 1550, maxEcho := 100 })) ∧
  ((fun (s : State) (obs : TickObs) => (s.Calm) ∧ (s.eng.st = .join ∨ s.eng.st = .dark ∨ s.eng.st = .lit ∨ s.eng.st = .safe) ∧ (s.saf.fading = true) ∧ (obs.mismatch = false) ∧ (obs.pinFail = false) ∧ (0 < s.saf.fadeL0) ∧ (20 * s.saf.fadeI0 * s.saf.ceil1 + s.saf.fadeI0 * s.saf.fadeL0 + 10000 * s.saf.fadeL0 < 20 * obs.phaseMa * s.saf.fadeL0) ∧ (s.hasCond 0xC5 0 = false)) ({ inState .safe with saf := { fading := true, inA := some .sfd, fadeL0 := 100, fadeI0 := 1000, ceil1 := 100, ceiling := 100, fadeTick := 99 } }) ({ raw := 0, mismatch := false, pinFail := false, phaseMa := 1551, maxEcho := 100 })) ∧
  ((fun (s : State) (obs : TickObs) => (s.Calm) ∧ (s.eng.st = .join ∨ s.eng.st = .dark ∨ s.eng.st = .lit ∨ s.eng.st = .safe) ∧ (s.saf.fading = true) ∧ (obs.mismatch = false) ∧ (obs.pinFail = false) ∧ (s.saf.ceiling < obs.maxEcho) ∧ (s.hasCond 0xC5 0 = false)) ({ inState .safe with saf := { fading := true, inA := some .sfd, fadeL0 := 100, ceiling := 50, fadeTick := 99 } }) ({ raw := 0, mismatch := false, pinFail := false, phaseMa := 0, maxEcho := 51 })) ∧
  ((fun (s : State) (obs : TickObs) => (s.Calm) ∧ (s.eng.st = .join ∨ s.eng.st = .dark ∨ s.eng.st = .lit ∨ s.eng.st = .safe) ∧ (s.saf.fading = false) ∧ (obs.pinFail = true) ∧ (s.hasCond 0xC2 4 = false) ∧ (s.saf.func ≠ some .slo)) (inState .lit) ({ raw := 0, mismatch := false, pinFail := true, phaseMa := 0, maxEcho := 0 })) ∧
  ((fun (s : State) => (s.Calm) ∧ (s.eng.st = .join ∨ s.eng.st = .dark ∨ s.eng.st = .lit ∨ s.eng.st = .safe) ∧ (s.eng.shutting = false) ∧ (2 ≤ s.saf.xMism) ∧ (s.hasCond 0xC1 0 = false)) ({ inState .lit with saf := { xMism := 2, drvEnA := true } })) ∧
  ((fun (s : State) => (s.Calm) ∧ (s.eng.st = .join ∨ s.eng.st = .dark ∨ s.eng.st = .lit ∨ s.eng.st = .safe) ∧ (s.eng.shutting = false) ∧ (s.hasCond 0xC1 1 = false)) ({ inState .lit with saf := { drvEnA := true } })) ∧
  ((fun (s : State) => (s.Calm) ∧ (s.saf.fading = true) ∧ (s.saf.params.fadeMs ≤ s.saf.fadeTick)) ({ inState .safe with saf := { fading := true, inA := some .sfd, fadeTick := 1000 } })) ∧
  ((fun (s : State) (stage : Fin 3) (obs : SloObs) => (s.Calm) ∧ ((if stage = 0 then obs.pinFail else if stage = 1 then decide (500 ≤ obs.phaseMa) else obs.cellOn) = false)) ({ inState .safe with saf := { inA := some .slo } }) (1) ({ pinFail := false, phaseMa := 499, cellOn := false })) ∧
  ((fun (s : State) (stage : Fin 3) (obs : SloObs) => (s.Calm) ∧ (s.eng.st = .join ∨ s.eng.st = .dark ∨ s.eng.st = .lit ∨ s.eng.st = .safe) ∧ (s.saf.sloOut = true) ∧ ((if stage = 0 then obs.pinFail else if stage = 1 then decide (500 ≤ obs.phaseMa) else obs.cellOn) = true) ∧ (s.hasCond 0xC2 (stage.val + 1) = false) ∧ (s.eng.leaving = false)) ({ inState .safe with saf := { inA := some .slo } }) (1) ({ pinFail := false, phaseMa := 500, cellOn := false })) ∧
  ((fun (s : State) => (s.Calm) ∧ (s.saf.ssgAsked = true) ∧ (s.saf.func = some .ssg) ∧ (s.rings.cairnShown = true) ∧ (s.eng.st = .safe) ∧ (s.saf.selftestOk = true) ∧ (s.saf.paramsOk = true)) ({ inState .safe with saf := { ssgAsked := true, request := some .ssg, selftestOk := true, paramsOk := true }, rings := { cairnShown := true } })) ∧
  ((fun (s : State) (straps : BitVec 6) => (s.Calm) ∧ (s.eng.st = .join ∨ s.eng.st = .dark ∨ s.eng.st = .lit ∨ s.eng.st = .safe) ∧ (straps ≠ s.saf.straps) ∧ (s.hasCond 0xC4 0 = false) ∧ (s.eng.leaving = false)) (inState .lit) (3)) := by
  refine ⟨?_, ?_, ?_, ?_, ?_, ?_, ?_, ?_, ?_, ?_, ?_, ?_, ?_, ?_⟩ <;> decide

set_option maxRecDepth 100000 in
set_option linter.unusedVariables false in
theorem witness_BlackChannelComplete :
  ((fun (s : State) (p : Port) (pdu : List Byte) => (s.Calm) ∧ (s.active p = true) ∧ (s.saf.straps.getLsbD 4 = true) ∧ (pConn pdu = s.saf.params.masterConn) ∧ (pKind pdu = 1) ∧ (pduOk pdu = true) ∧ (s.saf.targeted pdu = true) ∧ (s.masterCheck pdu = 0)) (onChannel .lit) (.a) (pduOf 5 1 [])) ∧
  ((fun (s : State) (p : Port) (pdu : List Byte) => (s.Calm) ∧ (s.active p = true) ∧ (s.saf.straps.getLsbD 4 = true) ∧ (pConn pdu = s.saf.params.masterConn) ∧ (pKind pdu = 1) ∧ (pduOk pdu = true) ∧ (s.saf.targeted pdu = true) ∧ (s.masterCheck pdu ≠ 0)) ({ onChannel .lit with saf := { straps := 0x10, params := { masterConn := 5, ownConn := 6 }, masterSeen := true, masterSeq := 1 } }) (.a) (pduOf 5 1 [])) ∧
  ((fun (s : State) (p : Port) (pdu : List Byte) => (s.Calm) ∧ (s.active p = true) ∧ (s.saf.straps.getLsbD 4 = true) ∧ (pKind pdu = 1) ∧ (pduOk pdu = false)) (onChannel .lit) (.a) ((pduOf 5 1 []).set 4 9)) ∧
  ((fun (s : State) (p : Port) (pdu : List Byte) => (s.Calm) ∧ (s.active p = true) ∧ (s.saf.straps.getLsbD 4 = true) ∧ (pConn pdu = s.saf.params.masterConn) ∧ (pKind pdu = 2) ∧ (pduOk pdu = true) ∧ (s.saf.targeted pdu = true) ∧ (s.masterCheck pdu = 0) ∧ (leAt pdu 0x10 1 = 2) ∧ (s.eng.st = .join ∨ s.eng.st = .dark ∨ s.eng.st = .lit ∨ s.eng.st = .safe) ∧ (s.losers 23 = []) ∧ (s.losers 24 = []) ∧ (s.eng.leaving = false)) (onChannel .lit) (.a) (pduOf 5 2 [2, 1])) ∧
  ((fun (s : State) (p : Port) (pdu : List Byte) => (s.Calm) ∧ (s.active p = true) ∧ (s.saf.straps.getLsbD 4 = true) ∧ (pKind pdu = 2) ∧ (pduOk pdu = true) ∧ (s.saf.targeted pdu = true) ∧ (pConn pdu ≠ s.saf.params.masterConn) ∧ (pConn pdu ≠ s.saf.params.ownConn) ∧ (leAt pdu 0x10 1 = 2) ∧ (s.eng.st = .join ∨ s.eng.st = .dark ∨ s.eng.st = .lit ∨ s.eng.st = .safe) ∧ (s.losers 23 = []) ∧ (s.losers 24 = []) ∧ (s.eng.leaving = false)) (onChannel .lit) (.a) (pduOf 7 2 [2, 1])) ∧
  ((fun (s : State) (p : Port) (pdu : List Byte) => (s.Calm) ∧ (s.active p = true) ∧ (s.saf.straps.getLsbD 4 = true) ∧ (pKind pdu = 2) ∧ (pduOk pdu = true) ∧ (s.saf.targeted pdu = true) ∧ (pConn pdu ≠ s.saf.params.masterConn) ∧ (pConn pdu = s.saf.params.ownConn)) (onChannel .lit) (.a) (pduOf 6 2 [2, 1])) ∧
  ((fun (s : State) (p : Port) (pdu : List Byte) => (s.Calm) ∧ (s.active p = true) ∧ (s.saf.straps.getLsbD 4 = true) ∧ (pConn pdu = s.saf.params.masterConn) ∧ (pKind pdu = 3) ∧ (pduOk pdu = true) ∧ (s.saf.targeted pdu = true) ∧ (s.masterCheck pdu = 0) ∧ (leAt pdu 0x10 1 = 0x10) ∧ (s.saf.request.isSome = true) ∧ (s.saf.inA.isSome = true) ∧ (s.saf.inB = none) ∧ (s.saf.bcDemand = none) ∧ (s.saf.watchdog = none) ∧ (s.saf.internal = none)) ({ onChannel .safe with saf := { straps := 0x10, params := { masterConn := 5, ownConn := 6 }, request := some .slo, inA := some .slo } }) (.a) (pduOf 5 3 [0x10])) ∧
  ((fun (s : State) (p : Port) (pdu : List Byte) => (s.Calm) ∧ (s.active p = true) ∧ (s.saf.straps.getLsbD 4 = true) ∧ (pKind pdu = 4) ∧ (pduOk pdu = true) ∧ (s.saf.targeted pdu = true) ∧ (pConn pdu ≠ s.saf.params.masterConn)) (onChannel .lit) (.a) (pduOf 7 4 [])) ∧
  ((fun (s : State) (p : Port) (pdu : List Byte) => (s.Calm) ∧ (s.active p = true) ∧ (s.saf.straps.getLsbD 4 = true) ∧ (pConn pdu = s.saf.params.masterConn) ∧ (pKind pdu = 4) ∧ (pduOk pdu = true) ∧ (s.saf.targeted pdu = true) ∧ (s.masterCheck pdu = 0)) (onChannel .lit) (.a) (pduOf 5 4 [])) ∧
  ((fun (s : State) => (s.Calm) ∧ (s.saf.straps.getLsbD 4 = true) ∧ (s.eng.st = .join ∨ s.eng.st = .dark ∨ s.eng.st = .lit ∨ s.eng.st = .safe) ∧ (s.saf.wdgArmed = true) ∧ (s.saf.wdgExpired = false) ∧ (s.saf.watchdog = none) ∧ (s.saf.params.wdgFunc = .slo) ∧ (s.eng.leaving = false)) ({ onChannel .lit with saf := { straps := 0x10, wdgArmed := true } })) ∧
  ((fun (s : State) => (s.Calm) ∧ (s.saf.bcDemand.isSome = true) ∧ (s.saf.bcQuiet = false)) ({ onChannel .safe with saf := { bcDemand := some .slo, bcQuiet := false } })) ∧
  ((fun (s : State) (p : Port) => (s.Calm) ∧ (s.saf.straps.getLsbD 4 = true) ∧ (s.running = true) ∧ (s.saf.inA.isSome = true) ∧ (s.saf.inputFunc .a = some .slo) ∧ (s.saf.inputA.filt0 = false) ∧ (s.saf.inB = none) ∧ (s.active p = true) ∧ ((s.link p).queue = [])) ({ onChannel .safe with saf := { straps := 0x10, inA := some .slo } }) (.b)) ∧
  ((fun (s : State) => (s.Calm) ∧ (s.saf.straps.getLsbD 4 = true) ∧ (s.running = true) ∧ (s.saf.masterSeen = true) ∧ (s.saf.masterId ≠ 0xFFF) ∧ (s.active (s.outPort s.saf.masterId.toNat) = true) ∧ ((s.link (s.outPort s.saf.masterId.toNat)).queue = [])) ({ onChannel .safe with saf := { straps := 0x10, masterSeen := true, masterId := 9, inA := some .slo } })) := by
  refine ⟨?_, ?_, ?_, ?_, ?_, ?_, ?_, ?_, ?_, ?_, ?_, ?_, ?_⟩ <;> decide

set_option maxRecDepth 100000 in
set_option linter.unusedVariables false in
theorem witness_FaultCollectorComplete :
  ((fun (s : State) (source : BitVec 8) (detail : BitVec 16) => (s.Calm) ∧ (s.running = true) ∧ (isLevel source.toNat = false)) ({ inState .dark with flt := { conds := [{ src := 0x22, detail := 1, injected := false, react := true, sev := 0 }] } }) (0x22) (1)) ∧
  ((fun (s : State) (source : BitVec 8) (detail : BitVec 16) => (s.Calm) ∧ (s.running = true) ∧ (source = 0x43)) ({ inState .dark with flt := { conds := [{ src := 0x43, detail := 0, injected := false, react := true, sev := 2 }] } }) (0x43) (0)) ∧
  ((fun (s : State) (number : Word) => (s.Calm)) (inState .dark) (1)) ∧
  ((fun (s : State) => (s.Calm) ∧ (s.pairDemand = false)) (inState .dark)) ∧
  ((fun (s : State) => (s.Calm) ∧ (s.pairDemand = true)) (inState .boot)) ∧
  ((fun (s : State) => (s.Calm) ∧ (s.running = true) ∧ (s.eng.st = .join ∨ s.eng.st = .dark ∨ s.eng.st = .lit ∨ s.eng.st = .safe) ∧ (s.hasCond 0x1A 0 = false) ∧ (s.eng.leaving = false)) (inState .lit)) ∧
  ((fun (s : State) (sv : Fin 4) (src : Source) (w : Word) => (s.Calm) ∧ (s.canAccess src = true) ∧ (s.accessLegal src true (0x0830) = true) ∧ (isService src = true) ∧ (w.toNat / 256 % 2 = 1) ∧ (srcInfo (w.toNat % 256) = some (sv, true)) ∧ (s.flt.injHeld.contains (w.toNat % 256) = false) ∧ (s.flt.injHeld.length < 4)) (svcIn .dark) (2) (.service) (0x143)) ∧
  ((fun (s : State) (src : Source) (w : Word) => (s.Calm) ∧ (s.canAccess src = true) ∧ (s.accessLegal src true (0x0830) = true) ∧ (isService src = true) ∧ (w = 0x43) ∧ (s.flt.sevOf 0x43 = 2) ∧ (s.flt.injHeld = [])) (svcIn .dark) (.service) (0x43)) ∧
  ((fun (s : State) (sv : Fin 4) (src : Source) (w : Word) => (s.Calm) ∧ (s.canAccess src = true) ∧ (s.accessLegal src true 0x0830 = true) ∧ (isService src = true) ∧ (srcInfo (w.toNat % 256) = some (sv, true)) ∧ (s.flt.injHeld.contains (w.toNat % 256) = false) ∧ (s.flt.injHeld.length = 4)) ({ svcIn .dark with flt := { injHeld := [0x20, 0x21, 0x30, 0x40] } }) (2) (.service) (0x43)) ∧
  ((fun (s : State) (src : Source) (w : Word) => (s.Calm) ∧ (s.canAccess src = true) ∧ (s.accessLegal src true 0x0830 = true) ∧ (isService src = true) ∧ (srcInfo (w.toNat % 256) = none)) (svcIn .dark) (.service) (0x0F)) ∧
  ((fun (s : State) (src : Source) (w : Word) => (s.Calm) ∧ (s.canAccess src = true) ∧ (isService src = false)) (linked) (.portA) (0x43)) ∧
  ((fun (s : State) (i : Fin 4 × Bool) (src : Source) (w : Word) => (s.Calm) ∧ (s.canAccess src = true) ∧ (s.accessLegal src true (0x0830) = true) ∧ (isService src = true) ∧ (srcInfo (w.toNat % 256) = some i)) ({ svcIn .dark with flt := { injHeld := [0x43], conds := [{ src := 0x43, detail := 0, injected := true, react := true, sev := 2 }] } }) ((2, true)) (.service) (0x43)) ∧
  ((fun (s : State) (src : Source) (w : Word) => (s.Calm) ∧ (s.canAccess src = true) ∧ (s.accessLegal src true (0x080C) = true)) ({ linked with flt := { first := 4, firstInfo := 9 } }) (.portA) (0)) := by
  refine ⟨?_, ?_, ?_, ?_, ?_, ?_, ?_, ?_, ?_, ?_, ?_, ?_, ?_⟩ <;> decide

set_option maxRecDepth 100000 in
set_option linter.unusedVariables false in
theorem witness_UnitFaultsFence :
  ((fun (s : State) => (s.Calm) ∧ (s.running = true) ∧ (s.hasCond 0xD5 0 = false) ∧ (s.flt.sevOf 0xD5 = 2)) (inState .lit)) ∧
  ((fun (s : State) => (s.Calm) ∧ (s.running = true) ∧ (s.hasCond 0x43 0 = false) ∧ (s.flt.sevOf 0x43 = 2)) (inState .lit)) ∧
  ((fun (s : State) => (s.Calm) ∧ (s.running = true) ∧ (s.hasCond 0x55 0 = false) ∧ (s.flt.sevOf 0x55 = 2) ∧ (s.unitFenced 1 = false)) (inState .lit)) := by
  refine ⟨?_, ?_, ?_⟩ <;> decide

set_option maxRecDepth 100000 in
set_option linter.unusedVariables false in
theorem witness_CheckUnitsComplete :
  ((fun (s : State) (k : Fin 4) (src : Source) (w : Word) => (s.Calm) ∧ (s.canAccess src = true) ∧ (s.accessLegal src true (0x0C10 + 64 * k.val) = true) ∧ (s.chk.length = 4) ∧ ((s.unit k.val).cfg.toNat % 8 = 1) ∧ ((s.unit k.val).queue = []) ∧ ((s.unit k.val).draining = false)) (linked) (2) (.portA) (0)) ∧
  ((fun (s : State) (k : Fin 4) (src : Source) (w : Word) => (s.Calm) ∧ (s.canAccess src = true) ∧ (s.accessLegal src true (0x0C10 + 64 * k.val) = true) ∧ (s.chk.length = 4) ∧ ((s.unit k.val).cfg.toNat % 8 = 0) ∧ ((s.unit k.val).queue = []) ∧ ((s.unit k.val).draining = false)) ({ linked with chk := { cfg := 0x30138, poly := 0x1D, init := 0x3FF } :: List.replicate 3 {} }) (0) (.portA) (0)) ∧
  ((fun (s : State) (k : Fin 4) (src : Source) (w : Word) => (s.Calm) ∧ (s.canAccess src = true) ∧ (s.accessLegal src true (0x0C14 + 64 * k.val) = true) ∧ (s.chk.length = 4) ∧ ((s.unit k.val).started = true) ∧ ((s.unit k.val).closed = false) ∧ (s.unitFenced 8 = false) ∧ ((s.unit k.val).queue.length < 8)) ({ linked with chk := List.replicate 4 { started := true } }) (2) (.portA) (0x12345678)) ∧
  ((fun (s : State) (k : Fin 4) (src : Source) (w : Word) => (s.Calm) ∧ (s.canAccess src = true) ∧ (s.accessLegal src true (0x0C18 + 64 * k.val) = true) ∧ (s.chk.length = 4) ∧ ((s.unit k.val).started = true) ∧ ((s.unit k.val).closed = false) ∧ (s.unitFenced 8 = false) ∧ ((s.unit k.val).queue.length < 8)) ({ linked with chk := List.replicate 4 { started := true } }) (2) (.portA) (0x12345678)) ∧
  ((fun (s : State) (k : Fin 4) (src : Source) (w : Word) => (s.Calm) ∧ (s.canAccess src = true) ∧ (s.accessLegal src true (0x0C1C + 64 * k.val) = true) ∧ (s.chk.length = 4) ∧ ((s.unit k.val).started = true) ∧ ((s.unit k.val).closed = false) ∧ (s.unitFenced 8 = false) ∧ ((s.unit k.val).queue.length < 8)) ({ linked with chk := List.replicate 4 { started := true } }) (2) (.portA) (0x12345678)) ∧
  ((fun (s : State) (k : Fin 4) (src : Source) (w : Word) => (s.Calm) ∧ (s.canAccess src = true) ∧ (s.accessLegal src true (0x0C1C + 64 * k.val) = true) ∧ (s.chk.length = 4) ∧ ((s.unit k.val).started = false ∨ (s.unit k.val).closed = true ∨ s.unitFenced 8 = true)) (linked) (2) (.portA) (0x12345678)) ∧
  ((fun (s : State) (k : Fin 4) (src : Source) (w : Word) => (s.Calm) ∧ (s.canAccess src = true) ∧ (s.accessLegal src true (0x0C20 + 64 * k.val) = true) ∧ (s.chk.length = 4) ∧ ((s.unit k.val).started = true) ∧ ((s.unit k.val).closed = false)) ({ linked with chk := List.replicate 4 { started := true } }) (2) (.portA) (0)) ∧
  ((fun (s : State) (k : Fin 4) => (s.Calm) ∧ (s.chk.length = 4) ∧ ((s.unit k.val).draining = true) ∧ ((s.unit k.val).width = 32) ∧ ((s.unit k.val).curPoly = 0x04C11DB7) ∧ ((s.unit k.val).refin = true) ∧ ((s.unit k.val).refout = true) ∧ ((s.unit k.val).curXor = 0xFFFFFFFF) ∧ ((s.unit k.val).crc = 0xFFFFFFFF) ∧ ((s.unit k.val).compare = false)) ({ linked with chk := List.replicate 4 { started := true, closed := true, draining := true, crc := 0xFFFFFFFF, queue := [[0x31, 0x32], [0x33]] } }) (2)) ∧
  ((fun (s : State) (k : Fin 4) => (s.Calm) ∧ (s.chk.length = 4) ∧ ((s.unit k.val).draining = true) ∧ ((s.unit k.val).queue = []) ∧ ((s.unit k.val).compare = true) ∧ ((s.unit k.val).formed ≠ (s.unit k.val).expect)) ({ linked with chk := List.replicate 4 { cfg := 0x000F04F9, compare := true, started := true, closed := true, draining := true, crc := 0xFFFFFFFF, expect := 5 } }) (2)) ∧
  ((fun (s : State) (k : Fin 4) => (s.Calm) ∧ (s.chk.length = 4) ∧ ((s.unit k.val).draining = true) ∧ ((s.unit k.val).queue = []) ∧ ((s.unit k.val).compare = true) ∧ ((s.unit k.val).formed = (s.unit k.val).expect)) ({ linked with chk := List.replicate 4 { cfg := 0x000F04F9, compare := true, started := true, closed := true, draining := true, crc := 0xFFFFFFFF, expect := 0 } }) (2)) ∧
  ((fun (s : State) (k : Fin 4) (src : Source) (w : Word) => (s.Calm) ∧ (s.canAccess src = true) ∧ (s.accessLegal src true (0x0C30 + 64 * k.val) = true) ∧ (s.chk.length = 4) ∧ ((s.unit k.val).aliveFirst = true ∨ w.toNat % (if (s.unit k.val).cfg.getLsbD 11 then 256 else 16) = ((s.unit k.val).alivePrev + 1) % (if (s.unit k.val).cfg.getLsbD 11 then 256 else 16))) ({ linked with chk := List.replicate 4 { aliveFirst := false, alivePrev := 15 } }) (2) (.portA) (0xF0)) ∧
  ((fun (s : State) (k : Fin 4) (src : Source) (w : Word) => (s.Calm) ∧ (s.canAccess src = true) ∧ (s.accessLegal src true (0x0C30 + 64 * k.val) = true) ∧ (s.chk.length = 4) ∧ ((s.unit k.val).aliveFirst = false) ∧ (w.toNat % (if (s.unit k.val).cfg.getLsbD 11 then 256 else 16) ≠ ((s.unit k.val).alivePrev + 1) % (if (s.unit k.val).cfg.getLsbD 11 then 256 else 16))) ({ linked with chk := List.replicate 4 { aliveFirst := false, alivePrev := 15 } }) (2) (.portA) (0xF1)) ∧
  ((fun (s : State) (k : Fin 4) => (s.Calm) ∧ (s.chk.length = 4) ∧ (s.running = true) ∧ ((s.unit k.val).deadlineUs ≠ 0) ∧ ((s.unit k.val).aliveFirst = false) ∧ ((s.unit k.val).aliveArmed = true) ∧ ((s.unit k.val).aliveAt + (s.unit k.val).deadlineUs * 65536000 < s.time.local_)) ({ linked with time := { local_ := 327680001 }, chk := List.replicate 4 { aliveFirst := false, aliveArmed := true, deadlineUs := 5 } }) (2)) ∧
  ((fun (s : State) (k : Fin 4) (src : Source) (consume : Bool) => (s.Calm) ∧ (s.canAccess src = true) ∧ (s.accessLegal src false (0x0C2C + 64 * k.val) = true) ∧ (s.chk.length = 4) ∧ (s.unitFenced 8 = false)) ({ linked with chk := List.replicate 4 { result := 77, matched := true, fresh := true } }) (2) (.portA) (true)) := by
  refine ⟨?_, ?_, ?_, ?_, ?_, ?_, ?_, ?_, ?_, ?_, ?_, ?_, ?_, ?_⟩ <;> decide

set_option maxRecDepth 100000 in
set_option linter.unusedVariables false in
theorem witness_BootAndJoinComplete :
  ((fun (s : State) (obs : BootObs) => (s.Calm) ∧ (s.released = true ∨ (s.eng.st = .boot ∧ s.eng.begun = false)) ∧ (s.eng.loaded = false)) (State.reset) ({ clksel := true, straps := 3, safetyOk := false, checksOk := true, katOk := true, dramOk := true, pmbusOk := true, dramGib := 2, readEyes := [200], writeEyes := [200], nvmBad := [], migrates := true })) ∧
  ((fun (s : State) (ms : BitVec 16) (rings : List RingBring) => (s.Calm) ∧ (s.eng.st = .boot) ∧ (s.eng.loaded = true) ∧ (s.eng.noImage = true) ∧ (s.losers 24 = [])) ({ State.reset with eng := { st := .boot, begun := true, loaded := true, noImage := true } }) (300) ([])) ∧
  ((fun (s : State) (ms : BitVec 16) (rings : List RingBring) => (s.Calm) ∧ (s.eng.st = .boot) ∧ (s.eng.loaded = true) ∧ (s.eng.noImage = false) ∧ (s.therm.trimAsked = false) ∧ (s.therm.trimBusy = false) ∧ (s.saf.inputA.filt0 = true) ∧ (s.saf.inputA.filt1 = true) ∧ (s.saf.inputA.faulted = false) ∧ (s.saf.inputB.filt0 = true) ∧ (s.saf.inputB.filt1 = true) ∧ (s.saf.inputB.faulted = false) ∧ (s.safeDemand = false) ∧ (s.criticalOpen = false) ∧ (s.pwr.heldTrips = []) ∧ (s.pwr.coreFaultHeld = false) ∧ (s.rings.rings.length = 64) ∧ (∀ k, k < 64 → (rings.getD k { found := 0, answered := false, aLast := none, bFirst := none, rtA := 0, rtB := 0, slots := [] }).answered = true ∧ (rings.getD k { found := 0, answered := false, aLast := none, bFirst := none, rtA := 0, rtB := 0, slots := [] }).slots = [] ∧ (rings.getD k { found := 0, answered := false, aLast := none, bFirst := none, rtA := 0, rtB := 0, slots := [] }).found.toNat = (s.ring k).expect) ∧ (s.losers 24 = [])) ({ State.reset with eng := { st := .boot, begun := true, loaded := true }, saf := { inputA := { filt0 := true, filt1 := true }, inputB := { filt0 := true, filt1 := true }, selftestOk := true, paramsOk := true } }) (900) (List.replicate 64 { found := 1024, answered := true, aLast := none, bFirst := none, rtA := 0, rtB := 0, slots := [] })) ∧
  ((fun (s : State) (ms : BitVec 16) (rings : List RingBring) => (s.Calm) ∧ (s.eng.st = .boot) ∧ (s.eng.loaded = true) ∧ (s.eng.noImage = false) ∧ (s.therm.trimAsked = false) ∧ (s.therm.trimBusy = false) ∧ (s.saf.inputFunc .a = some .slo) ∧ (s.saf.inputA.filt0 = false) ∧ (s.saf.inputFunc .b = none) ∧ (s.saf.straps.getLsbD 4 = false) ∧ (s.eng.leaving = false)) ({ State.reset with eng := { st := .boot, begun := true, loaded := true }, saf := { straps := 0xC } }) (900) ([])) ∧
  ((fun (s : State) (ms : BitVec 16) => (s.Calm) ∧ (s.eng.st = .join) ∧ (s.wall.id ≠ 0) ∧ (s.wall.assigned.isSome = true) ∧ (s.wall.doneEpoch = s.wall.assigned) ∧ (s.time.valid = true) ∧ (s.losers 24 = [])) ({ inState .join with wall := { id := 5, assigned := some 1, doneEpoch := some 1 }, time := { valid := true } }) (40)) ∧
  ((fun (s : State) (ms : BitVec 16) => (s.Calm) ∧ (s.eng.st ≠ .join ∨ s.wall.id = 0 ∨ s.wall.assigned.isSome = false ∨ s.wall.doneEpoch ≠ s.wall.assigned ∨ s.time.valid = false)) (inState .join) (40)) := by
  refine ⟨?_, ?_, ?_, ?_, ?_, ?_⟩ <;> decide

set_option maxRecDepth 100000 in
set_option linter.unusedVariables false in
theorem witness_AddressMapComplete :
  ((fun (s : State) (src : Source) (addr : Word) (consume : Bool) => (s.Calm) ∧ (s.canAccess src = true) ∧ (s.accessLegal src false (addr.toNat) = true) ∧ (addr = 0)) (linked) (.portA) (0) (false)) ∧
  ((fun (s : State) (src : Source) (addr : Word) (consume : Bool) => (s.Calm) ∧ (s.canAccess src = true) ∧ (s.accessLegal src false (addr.toNat) = true) ∧ (addr = 4) ∧ (s.eng.st ≠ .boot)) ({ linked with eng := { st := .dark, transCount := 3 } }) (.portA) (4) (true)) ∧
  ((fun (s : State) (i : Nat) (src : Source) (addr : Word) (consume : Bool) => (s.Calm) ∧ (s.canAccess src = true) ∧ (s.accessLegal src false (addr.toNat) = true) ∧ (i < 4096) ∧ (addr.toNat = 0x20000 + 4 * i)) (linked.setDmem 3 9) (3) (.portB) (0x2000C) (false)) ∧
  ((fun (s : State) (src : Source) (addr : Word) (consume : Bool) => (s.Calm) ∧ (s.canAccess src = true) ∧ (s.accessLegal src false (addr.toNat) = true) ∧ (s.readable src addr.toNat = false)) (linked) (.portA) (0x80000000) (true)) ∧
  ((fun (s : State) (src : Source) (addr : Word) (consume : Bool) => (s.Calm) ∧ (s.canAccess src = false)) (inState .dark) (.service) (0) (true)) ∧
  ((fun (s : State) (i : Nat) (src : Source) (addr : Word) (w : Word) => (s.Calm) ∧ (s.canAccess src = true) ∧ (s.accessLegal src true (addr.toNat) = true) ∧ (i < 4096) ∧ (addr.toNat = 0x20000 + 4 * i)) (linked) (3) (.portB) (0x2000C) (9)) ∧
  ((fun (s : State) (i : Nat) (src : Source) (addr : Word) (w : Word) => (s.Calm) ∧ (s.canAccess src = true) ∧ (s.accessLegal src true addr.toNat = true) ∧ (src ≠ .tumbler) ∧ (i < 16384) ∧ (addr.toNat = 0x10000 + 4 * i)) (linked) (3) (.portB) (0x1000C) (9)) ∧
  ((fun (s : State) (src : Source) (addr : Word) (w : Word) => (s.Calm) ∧ (s.canAccess src = true) ∧ (s.accessLegal src true (addr.toNat) = true) ∧ (addr = 0x0810)) (linked) (.portB) (0x0810) (3)) ∧
  ((fun (s : State) (src : Source) (addr : Word) (w : Word) => (s.Calm) ∧ (s.canAccess src = true) ∧ (s.accessLegal src true addr.toNat = true) ∧ (s.writable src addr.toNat = false)) (linked) (.portA) (0x30000) (9)) ∧
  ((fun (s : State) (src : Source) (addr : Word) (w : Word) => (s.Calm) ∧ (s.canAccess src = true) ∧ (isService src = false) ∧ (addr = 0x0880)) (linked) (.portA) (0x0880) (9)) ∧
  ((fun (s : State) (src : Source) (addr : Word) (w : Word) => (s.Calm) ∧ (s.canAccess src = false)) (inState .dark) (.service) (0) (0)) := by
  refine ⟨?_, ?_, ?_, ?_, ?_, ?_, ?_, ?_, ?_, ?_, ?_⟩ <;> decide

theorem wit_StepRunsCommand :
    ({ State.reset with pending := [.housekeepingLost] } : State).pending = .housekeepingLost :: [] ∧ State.reset.pending = [] := by decide +kernel

theorem wit_EveryCommandCompletes : State.reset.FaultsHandled := by decide +kernel

theorem wit_StateStaysWellFormed : step State.reset = .next State.reset.idle ∧ State.reset.Shaped ∧ State.reset.MemoryOk :=
  ⟨rfl, by decide +kernel, by decide +kernel⟩

theorem wit_OnlyListedMoves : State.reset.MovesListed ∧ step State.reset = .next State.reset.idle := ⟨by decide +kernel, rfl⟩

theorem wit_LightOnlyByLightOn :
    (match exec (.lightOn (svcQ [])) (svcIn .dark) with | .next u => u.eng.st == .lit | _ => false) = true := by decide +kernel

theorem wit_DriveOnlyWhenAllowed : State.reset.DriveAllowed ∧ step State.reset = .next State.reset.idle := ⟨by decide +kernel, rfl⟩

theorem wit_SafetyCrcParameters : fld ({ cfg := 5 } : Chk).cfg 2 0 = 5 := by decide +kernel

theorem wit_LocalCounterFreeRuns : (inState .dark).running = true ∧ (inState .dark).pwr.logicHeld = false ∧
    (inState .standby).running = false := by decide +kernel

theorem wit_StoreTakesOlderCopy : (∀ k, (cairnLayout.region k).kind.isSome = true ∧ nvmPage + (cairnLayout.bytes { palette := [], crc := 5 }).length ≤ (cairnLayout.region k).span.2) ∧
    (((blankPair { palette := [], crc := 0 }).store cairnLayout { palette := [], crc := 5 } 1).newest cairnLayout).isSome = true := by decide +kernel

theorem wit_DemandTakesEffect :
    ({ request := some .sfd, bcDemand := some .ssg } : Saf).func = some .ssg ∧ ({ request := some .sfd } : Saf).cause .request = some .sfd ∧
      EngState.lit ∈ [EngState.join, .dark, .lit, .service, .update] ∧ EngState.boot ∉ [EngState.join, .dark, .lit, .service, .update] ∧ (inState .lit).eng.leaving = false ∧
      (inState .lit).saf.func ≠ some .slo ∧ ((inState .lit).addCause .request .slo).saf.func = some .slo := by decide +kernel

theorem wit_ZonesOfPixels : (1023 < 1024 ∧ 63 < 64) ∧ zoneOf 1023 1023 = 1023 := by decide +kernel

theorem wit_SealedServicePort : ({ State.reset with pwr := { sealHigh := true } } : State).pwr.sealHigh = true ∧ (svcQ []).port = .service := by decide +kernel
end

section
/-!
Single accesses to the address map (R7, R218, R219, R240, R251, R511 to R515): how a read and a write of one word can end, each way once,
and what REGISTER_READ and REGISTER_WRITE do at the registers and memories that O47 names.
-/

namespace Sys2Proof.Machine

theorem exec_registerRead (s : State) (src : Source) (addr : Word) (consume : Bool) :
    exec (.registerRead src addr consume) s = s.accessRead src addr.toNat consume := rfl

theorem exec_registerWrite (s : State) (src : Source) (addr w : Word) :
    exec (.registerWrite src addr w) s = s.access src addr.toNat w := rfl

/-! ### The ways in which a read can end -/

theorem State.accessRead_unreachable {s : State} {src : Source} (a : Nat) (consume : Bool) (hc : s.canAccess src = false) :
    s.accessRead src a consume = .next s := by
  simp [State.accessRead, hc]

section
variable {s : State} {src : Source} {a : Nat} (consume : Bool) (hc : s.canAccess src = true) (hl : s.accessLegal src false a = true)
include hc hl

theorem State.accessRead_unreadable (hr : s.readable src a = false) :
    s.accessRead src a consume = done (s.answer src a 0 stBadAddr) := by
  simp [State.accessRead, hc, hl, hr]

theorem State.accessRead_readable (hr : s.readable src a = true) :
    s.accessRead src a consume =
      done ((s.touchAt src a (consume || (src != .portA && src != .portB))).answer src a (s.readAt src a) stOk) := by
  simp [State.accessRead, hc, hl, hr]

end

/-! ### The ways in which a write can end -/

theorem State.access_unreachable {s : State} {src : Source} (a : Nat) (w : Word) (hc : s.canAccess src = false) :
    s.access src a w = .next s := by
  simp [State.access, hc]

/-- The refusal by class comes before the engine’s state is looked at. -/
theorem State.access_denied {s : State} {src : Source} {a : Nat} {w : Word} (hc : s.canAccess src = true) (hd : s.deniedAt src a w = true) :
    s.access src a w = done (s.answer src a 0 stDeniedPort) := by
  simp [State.access, hc, hd]

/-- A WRITE of one word outside the stream context table is that word’s own write. -/
theorem State.writeWords_singleton {s : State} {src : Source} {a : Nat} (w : Word) (hw : s.writable src a = true) (hm : s.mapRow a ≠ .ctx) :
    s.writeWords src a [w] =
      if (s.writeAt src a w).1 = stOk then s.writeAt src a w else ((s.writeAt src a w).1, s) := by
  by_cases h : (s.writeAt src a w).1 = stOk
  · have he : s.writeAt src a w = (stOk, (s.writeAt src a w).2) := by rw [← h]
    simp [State.writeWords, State.oneRow, wordAddrs, State.writeEach, took, hw, hm, h, ← he]
  · simp [State.writeWords, State.oneRow, wordAddrs, State.writeEach, hw, hm, h]

section
variable {s : State} {src : Source} {a : Nat} {w : Word} (hc : s.canAccess src = true) (hl : s.accessLegal src true a = true)
include hc hl

theorem State.access_unwritable (hw : s.writable src a = false) : s.access src a w = done (s.answer src a 0 stBadAddr) := by
  have hd : s.deniedAt src a w = false := by simp [State.deniedAt, hw]
  have hr : s.writeWords src a [w] = (stBadAddr, s) := by simp [State.writeWords, wordAddrs, hw]
  simp [State.access, hc, hl, hd, hr, stBadAddr, stOk, State.onFlt]

variable (hd : s.deniedAt src a w = false) (hw : s.writable src a = true) (hm : s.mapRow a ≠ .ctx)
include hd hw hm

theorem State.access_took {u : State} (h : s.writeAt src a w = took u) : s.access src a w = done (u.answer src a 0 stOk) := by
  simp [State.access, hc, hl, hd, State.writeWords_singleton w hw hm, h, took]

theorem State.access_refused {c : Byte} (hne : c ≠ stOk) (h : s.writeAt src a w = (c, s)) : s.access src a w = done (s.answer src a 0 c) := by
  simp [State.access, hc, hl, hd, State.writeWords_singleton w hw hm, h, hne, State.onFlt]

end

/-! ### The answer recorded -/

/-- From `s` to `u` the one thing that happened is that the access was answered: no register, no memory and no fault record changed. -/
def OnlyAnswered (s u : State) (src : Source) (a : Nat) (data : Word) (status : Byte) : Prop :=
  u.acc = some { source := src, addr := a, data := data, status := status } ∧ u = { s with acc := u.acc, flt := u.flt } ∧ NoNewFault s u

theorem State.done_answer {s : State} (h : s.Calm) (src : Source) (a : Nat) (data : Word) (status : Byte) :
    ∃ u, done (s.answer src a data status) = .next u ∧ OnlyAnswered s u src a data status := by
  obtain ⟨u, hu, hn, he⟩ := done_calm (s.answer src a data status) h
  have hacc : u.acc = some { source := src, addr := a, data := data, status := status } := by rw [he]; rfl
  exact ⟨u, hu, hacc, by rw [hacc]; exact he, hn⟩

/-! ### Rows of the address map -/

theorem State.mapRow_prog (s : State) {a i : Nat} (hi : i < 16384) (ha : a = 0x10000 + 4 * i) : s.mapRow a = .prog := by
  have h1 : ¬ a < 0x4000 := by omega
  have h2 : 0x10000 ≤ a := by omega
  have h3 : a < 0x20000 := by omega
  simp [State.mapRow, h1, h2, h3]

theorem State.mapRow_dmem (s : State) {a i : Nat} (hi : i < 4096) (ha : a = 0x20000 + 4 * i) : s.mapRow a = .dmem := by
  have h1 : ¬ a < 0x4000 := by omega
  have h2 : ¬ a < 0x20000 := by omega
  have h3 : 0x20000 ≤ a := by omega
  have h4 : a < 0x24000 := by omega
  simp [State.mapRow, h1, h2, h3, h4]

/-- Outside the registers no write is denied to a class: what a source may not write there is a BAD_ADDR. -/
theorem State.deniedAt_of_le (s : State) (src : Source) {a : Nat} (w : Word) (h : 0x4000 ≤ a) : s.deniedAt src a w = false := by
  simp [State.deniedAt, h]

/-! ### Data memory (R219) -/

section
variable (s : State) (src : Source) {a i : Nat} (hi : i < 4096) (ha : a = 0x20000 + 4 * i)
include hi ha

theorem State.readable_dmem : s.readable src a = true := by
  have h1 : ¬ a < 0x4000 := by omega
  have h2 : a % 4 = 0 := by omega
  simp [State.readable, h1, h2, State.memReadable, s.mapRow_dmem hi ha]

theorem State.readAt_dmem : s.readAt src a = s.dmemWord i := by
  have h1 : ¬ a < 0x4000 := by omega
  have h2 : (a - 0x20000) / 4 = i := by omega
  simp [State.readAt, h1, State.readMem, s.mapRow_dmem hi ha, h2]

theorem State.touchAt_dmem (consume : Bool) : s.touchAt src a consume = s := by
  have h1 : ¬ a < 0x4000 := by omega
  simp [State.touchAt, h1, State.touchMem, s.mapRow_dmem hi ha]

theorem State.writable_dmem : s.writable src a = true := by
  have h1 : ¬ a < 0x4000 := by omega
  have h2 : a % 4 = 0 := by omega
  simp [State.writable, h1, h2, State.memWritable, s.mapRow_dmem hi ha]

theorem State.writeAt_dmem (w : Word) : s.writeAt src a w = took (s.setDmem i w) := by
  have h1 : ¬ a < 0x4000 := by omega
  have h2 : (a - 0x20000) / 4 = i := by omega
  simp [State.writeAt, h1, State.writeMem, s.mapRow_dmem hi ha, h2]

end

theorem State.setDmem_dmemWord (s : State) (i j : Nat) (v : Word) : (s.setDmem i v).dmemWord j = if j = i then v else s.dmemWord j := by
  by_cases h : j = i
  · rw [h, State.setDmem_word_same, if_pos rfl]
  · rw [State.setDmem_word_other s i j v h, if_neg h]

/-! ### Program memory (R218) -/

/-- The state with a word of program memory written. -/
def State.setProg (s : State) (i : Nat) (w : Word) : State := s.onTum fun m => { m with prog := sset 0 i w m.prog }

theorem State.setProg_progWord (s : State) (i j : Nat) (w : Word) : (s.setProg i w).progWord j = if j = i then w else s.progWord j := by
  by_cases h : j = i
  · rw [h, if_pos rfl]; exact sget_sset_same 0 i w s.tum.prog
  · rw [if_neg h]; exact sget_sset_other 0 i j w s.tum.prog h

section
variable (s : State) (src : Source) {a i : Nat} (hi : i < 16384) (ha : a = 0x10000 + 4 * i)
include hi ha

theorem State.writable_prog (hsrc : src ≠ .tumbler) : s.writable src a = true := by
  have h1 : ¬ a < 0x4000 := by omega
  have h2 : a % 4 = 0 := by omega
  simp [State.writable, h1, h2, State.memWritable, s.mapRow_prog hi ha, hsrc]

/-- A word of program memory is written while every thread is HALTED, and refused otherwise. -/
theorem State.writeAt_prog (w : Word) : s.writeAt src a w = if s.allHalted then took (s.setProg i w) else (stRefusedState, s) := by
  have h1 : ¬ a < 0x4000 := by omega
  have h2 : (a - 0x10000) / 4 = i := by omega
  simp [State.writeAt, h1, State.writeMem, s.mapRow_prog hi ha, h2, State.setProg]

end

/-! ### DEV_ID and ID_STATE (R29, R517) -/

theorem State.readable_devId (s : State) (src : Source) : s.readable src 0 = true := rfl

/-- DEV_ID holds in BOOT too: no bit of it is loaded there. -/
theorem State.readAt_devId (s : State) (src : Source) : s.readAt src 0 = 0x0B0E1024 := by
  have hr : s.readReg src 0 = some devId := rfl
  have hb : bootBits 0 = 0 := rfl
  simp [State.readAt, hr, hb, devId]

theorem State.touchAt_devId (s : State) (src : Source) (consume : Bool) : s.touchAt src 0 consume = s := by
  simp [State.touchAt, State.touchReg, State.touchId]

theorem State.readable_idState (s : State) (src : Source) : s.readable src 4 = true := rfl

theorem State.readAt_idState (s : State) (src : Source) (h : s.eng.st ≠ .boot) : s.readAt src 4 = s.idState := by
  have hr : s.readReg src 4 = some s.idState := rfl
  simp [State.readAt, hr, h]

/-- The count of transitions clears on a consuming read alone. -/
theorem State.touchAt_idState (s : State) (src : Source) (consume : Bool) :
    s.touchAt src 4 consume = s.onEng fun e => if consume then { e with transCount := 0 } else e := by
  cases consume <;> rfl

/-! ### HANDLE_US and the severities (R408, R431) -/

theorem State.writable_handleUs (s : State) (src : Source) : s.writable src 0x0810 = true := by
  have hr : s.readReg src 0x0810 = some (BitVec.ofNat 32 (sat 14 s.flt.handleUs)) := rfl
  simp [State.writable, hr]

theorem State.deniedAt_handleUs (s : State) (src : Source) (w : Word) : s.deniedAt src 0x0810 w = false := by
  simp [State.deniedAt, State.deniedReg, deniedFlt, inArr]

theorem State.writeAt_handleUs (s : State) (src : Source) (w : Word) :
    s.writeAt src 0x0810 w = took (s.onFlt fun f => { f with handleUs := max 10 (min 10000 (w.toNat % 16384)) }) := by
  simp [State.writeAt, State.writeReg, State.writeFlt, clampN, fld]

theorem State.deniedAt_severity (s : State) (src : Source) (w : Word) (h : isService src = false) : s.deniedAt src 0x0880 w = true := by
  have hr : s.readReg src 0x0880 = some (s.flt.sevWord 0) := rfl
  simp [State.deniedAt, State.deniedReg, deniedFlt, inArr, State.writable, hr, h]

/-! ### What the two commands do, by the way in which the access ends -/

section
variable {s t : State} {src : Source} {addr : Word} {a : Nat} {data : Word} {status : Byte} (ht : t.Calm)
include ht

/-- A read whose own effect leads from `s` to a calm `t`. -/
theorem registerRead_completes {consume : Bool} (h : s.accessRead src addr.toNat consume = done (t.answer src a data status)) :
    Completes (.registerRead src addr consume) s fun u => OnlyAnswered t u src a data status := by
  obtain ⟨u, hu, ho⟩ := t.done_answer ht src a data status
  exact ⟨u, (exec_registerRead s src addr consume).trans (h.trans hu), ho⟩

/-- A write whose own effect leads from `s` to a calm `t`. -/
theorem registerWrite_completes {w : Word} (h : s.access src addr.toNat w = done (t.answer src a data status)) :
    Completes (.registerWrite src addr w) s fun u => OnlyAnswered t u src a data status := by
  obtain ⟨u, hu, ho⟩ := t.done_answer ht src a data status
  exact ⟨u, (exec_registerWrite s src addr w).trans (h.trans hu), ho⟩

end

section
variable {s : State} {src : Source} {addr : Word} (hs : s.Calm) (hc : s.canAccess src = true)
include hs hc

/-- A read with no side effect. -/
theorem registerRead_still {consume : Bool} (hl : s.accessLegal src false addr.toNat = true) (hr : s.readable src addr.toNat = true)
    (ht : ∀ k, s.touchAt src addr.toNat k = s) :
    Completes (.registerRead src addr consume) s fun u => OnlyAnswered s u src addr.toNat (s.readAt src addr.toNat) stOk := by
  have h := State.accessRead_readable consume hc hl hr
  rw [ht] at h
  exact registerRead_completes hs h

theorem registerRead_idState {consume : Bool} (hl : s.accessLegal src false addr.toNat = true) (ha : addr = 4) (hb : s.eng.st ≠ .boot) :
    Completes (.registerRead src addr consume) s fun u =>
      (u.acc = some { source := src, addr := 4, data := s.idState, status := 0 } ∧
        u.eng = (if consume = true ∨ (src ≠ .portA ∧ src ≠ .portB) then { s.eng with transCount := 0 } else s.eng)) ∧
      u = { s with eng := u.eng, acc := u.acc, flt := u.flt } ∧ NoNewFault s u := by
  subst ha
  have h := State.accessRead_readable (a := 4) consume hc hl (s.readable_idState src)
  rw [s.touchAt_idState, s.readAt_idState src hb] at h
  generalize hk : (consume || (src != .portA && src != .portB)) = k at h
  have hk' : (consume = true ∨ (src ≠ .portA ∧ src ≠ .portB)) ↔ k = true := by simp [← hk]
  have ht : (s.onEng fun e => if k then { e with transCount := 0 } else e).Calm := by cases k <;> exact hs
  obtain ⟨u, hu, hacc, he, hn⟩ := registerRead_completes (addr := 4) ht h
  have heng : u.eng = if k then { s.eng with transCount := 0 } else s.eng := by rw [he]; rfl
  refine ⟨u, hu, ⟨hacc, by rw [heng]; simp only [hk']⟩, ?_, hn⟩
  rw [heng]; exact he

theorem registerWrite_dmem {i : Nat} (w : Word) (hl : s.accessLegal src true addr.toNat = true) (hi : i < 4096)
    (ha : addr.toNat = 0x20000 + 4 * i) :
    Completes (.registerWrite src addr w) s fun u => OnlyAnswered (s.setDmem i w) u src addr.toNat 0 stOk := by
  have hm : s.mapRow addr.toNat ≠ .ctx := by simp [s.mapRow_dmem hi ha]
  exact registerWrite_completes (t := s.setDmem i w) hs (State.access_took hc hl (s.deniedAt_of_le src w (by omega)) (s.writable_dmem src hi ha) hm
    (s.writeAt_dmem src hi ha w))

theorem registerWrite_prog {i : Nat} (w : Word) (hl : s.accessLegal src true addr.toNat = true) (hsrc : src ≠ .tumbler) (hi : i < 16384)
    (ha : addr.toNat = 0x10000 + 4 * i) :
    Completes (.registerWrite src addr w) s fun u =>
      OnlyAnswered (if s.allHalted then s.setProg i w else s) u src addr.toNat 0 (if s.allHalted then stOk else stRefusedState) := by
  have hm : s.mapRow addr.toNat ≠ .ctx := by simp [s.mapRow_prog hi ha]
  have hd := s.deniedAt_of_le src (a := addr.toNat) w (by omega)
  have hw := s.writable_prog src hi ha hsrc
  have hput := s.writeAt_prog src hi ha w
  cases hh : s.allHalted
  · rw [hh] at hput
    exact registerWrite_completes hs (State.access_refused hc hl hd hw hm (by decide) hput)
  · rw [hh] at hput
    exact registerWrite_completes (t := s.setProg i w) hs (State.access_took hc hl hd hw hm hput)

theorem registerWrite_handleUs (w : Word) (hl : s.accessLegal src true addr.toNat = true) (ha : addr = 0x0810) :
    Completes (.registerWrite src addr w) s fun u =>
      OnlyAnswered (s.onFlt fun f => { f with handleUs := max 10 (min 10000 (w.toNat % 16384)) }) u src addr.toNat 0 stOk := by
  subst ha
  have hm : s.mapRow 0x0810 ≠ .ctx := by simp [State.mapRow]
  exact registerWrite_completes (t := s.onFlt fun f => { f with handleUs := max 10 (min 10000 (w.toNat % 16384)) }) hs
    (State.access_took hc hl (s.deniedAt_handleUs src w) (s.writable_handleUs src) hm (s.writeAt_handleUs src w))

end

end Sys2Proof.Machine

open Sys2Proof Sys2Proof.Machine

/-- Settles O47: each access ends in one of the ways above, and the fault collector adds nothing to a calm state. -/
theorem addressMapComplete : Obligations.AddressMapComplete := by
  unfold Obligations.AddressMapComplete
  refine ⟨?_, ?_, ?_, ?_, ?_, ?_, ?_, ?_, ?_, ?_, ?_⟩
  · rintro s src _ consume hs hc hl rfl
    have h := registerRead_still (consume := consume) hs hc hl (s.readable_devId src) (s.touchAt_devId src)
    rwa [show s.readAt src (0 : Word).toNat = 0x0B0E1024 from s.readAt_devId src] at h
  · intro s src addr consume hs hc hl ha hb
    exact registerRead_idState hs hc hl ha hb
  · intro s i src addr consume hs hc hl hi ha
    have h := registerRead_still (consume := consume) hs hc hl (s.readable_dmem src hi ha) (s.touchAt_dmem src hi ha)
    rwa [s.readAt_dmem src hi ha] at h
  · intro s src addr consume hs hc hl hr
    exact registerRead_completes hs (State.accessRead_unreadable consume hc hl hr)
  · intro s src addr consume _ hc
    exact ⟨s, State.accessRead_unreachable addr.toNat consume hc, rfl⟩
  · intro s i src addr w hs hc hl hi ha
    obtain ⟨u, hu, hacc, he, hn⟩ := registerWrite_dmem hs hc w hl hi ha
    have htum : u.tum = (s.setDmem i w).tum := by rw [he]
    refine ⟨u, hu, hacc, fun j => ?_, by rw [htum]; rfl, by rw [htum]; rfl, by rw [htum]; exact he, hn⟩
    rw [← s.setDmem_dmemWord]; simp only [State.dmemWord, htum]
  · intro s i src addr w hs hc hl hsrc hi ha
    obtain ⟨u, hu, hacc, he, hn⟩ := registerWrite_prog hs hc w hl hsrc hi ha
    refine ⟨u, hu, ?_⟩
    cases hh : s.allHalted
    · simp only [hh, Bool.false_eq_true, if_false] at hacc he hn
      have htum : u.tum = s.tum := by rw [he]
      refine ⟨⟨hacc, fun j => by simp [State.progWord, htum], by rw [htum]⟩, by rw [htum]; exact he, hn⟩
    · simp only [hh, if_true] at hacc he hn
      have htum : u.tum = (s.setProg i w).tum := by rw [he]
      refine ⟨⟨hacc, fun j => ?_, by rw [htum]; rfl⟩, by rw [htum]; exact he, hn⟩
      simp only [and_true]; rw [← s.setProg_progWord]; simp only [State.progWord, htum]
  · intro s src addr w hs hc hl ha
    obtain ⟨u, hu, hacc, he, hn, _⟩ := registerWrite_handleUs hs hc w hl ha
    exact ⟨u, hu, hacc, hn, he⟩
  · intro s src addr w hs hc hl hw
    exact registerWrite_completes hs (State.access_unwritable hc hl hw)
  · rintro s src _ w hs hc hsrc rfl
    exact registerWrite_completes hs (State.access_denied hc (s.deniedAt_severity src w hsrc))
  · intro s src addr w _ hc
    exact ⟨s, State.access_unreachable addr.toNat w hc, rfl⟩

end

section
/-!
The tile and its place in the wall: what refutes O2, O37, O52 and O54. Each counterexample is a state with the one command that takes it
where the statement does not allow.
-/

namespace Sys2Proof.Machine

/-- A state and the command that runs in it. -/
structure Scene where
  /-- the state, with nothing waiting -/
  start : State
  /-- the command -/
  command : Instr

/-- The state that the command leads to, or the start where it leads to none. -/
def Scene.after (x : Scene) : State :=
  match exec x.command x.start with
  | .next u => u
  | _ => x.start

/-- The start with the command waiting. -/
def Scene.waiting (x : Scene) : State := x.start.withPending [x.command]

/-! ### A frame that a departing port cuts off (R278, R480) -/

/-- The bytes that a cut-off frame has sent are free values (log entry 91), and taking them advances the counter of free values. -/
theorem State.free_lt_cutOff {s : State} {p : Port} (h : (s.link p).arriving.isNone = false) : s.free < (s.cutOff p).free := by
  simp only [State.cutOff, h, Bool.false_eq_true, if_false]; omega

/-- A departing tile whose port A is ACTIVE and sends nothing, while a frame still arrives on it. -/
def parkWhileArriving : Scene where
  start := { State.reset with
    pwr := { departing := true }
    linkA := { st := .active, arriving := some { frame := { hdr := 0, payload := [] }, deliver := false, out := none, slot := none } } }
  command := .portPark .a

/-- PORT_PARK of port A takes free values there, and nothing waits for the fault collector. -/
theorem exec_parkWhileArriving :
    ∃ t : State, exec (.portPark .a) parkWhileArriving.start = done t ∧ t.Calm ∧ parkWhileArriving.start.free < t.free :=
  ⟨_, rfl, by decide +kernel, State.free_lt_cutOff (s := parkWhileArriving.start) (p := .a) (by decide)⟩

/-! ### Staging aborted while no store may start (R456, R463) -/

/-- A command block of the service port without arguments. -/
def bareCommand : CmdReq :=
  { port := .service, dest := 0, src := 0, cmdId := 1, flags := 0, argLen := 0, zero := 0, session := 0, args := [] }

/-- UPDATE_ABORT in an UPDATE entered from DARK, while R456 bars new stores. -/
def abortWhileBarred : Scene where
  start := { State.reset with pwr := { sealHigh := false, noNewStore := true }, eng := { st := .update, prev := .dark, beforeUpdate := .dark } }
  command := .updateAbort bareCommand

theorem exec_abortWhileBarred : exec (.updateAbort bareCommand) abortWhileBarred.start = .next abortWhileBarred.after := rfl

/-! ### A reset that is due when BOOT_COMPLETE arrives -/

/-- BOOT_COMPLETE in a BOOT without a valid image, with a reset of cause SUPPLY still due. -/
def bootWithResetDue : Scene where
  start := { State.reset with eng := { st := .boot, prev := .standby, loaded := true, noImage := true, resetDue := some .supply } }
  command := .bootComplete 0 []

theorem step_bootWithResetDue : step bootWithResetDue.waiting = .next bootWithResetDue.after := rfl

/-! ### An UPDATE that returns to BOOT -/

/-- UPDATE_ABORT in an UPDATE that returns to BOOT, with the drive enables asserted as R375 allows. -/
def abortIntoBoot : Scene where
  start := { State.reset with
    eng := { st := .update, prev := .dark, beforeUpdate := .boot }
    pwr := { sealHigh := false }
    saf := { drvEnA := true, drvEnB := true, vledDis := false, sloOut := false, selftestOk := true, paramsOk := true } }
  command := .updateAbort bareCommand

theorem step_abortIntoBoot : step abortIntoBoot.waiting = .next abortIntoBoot.after := rfl

end Sys2Proof.Machine

open Sys2Proof Sys2Proof.Machine

/-- Refutes O52: BOOT_COMPLETE records its faults before it leaves BOOT, and a reset that is due then takes the engine to STANDBY first; the
command goes on to SAFE from there, which R22’s table does not list. -/
theorem not_onlyListedMoves : ¬ Obligations.OnlyListedMoves := by
  unfold Obligations.OnlyListedMoves
  intro h
  exact absurd (h _ _ (by decide +kernel) step_bootWithResetDue) (by decide +kernel)

/-- Refutes O54: UPDATE_ABORT returns to whatever state the engine recorded when it entered UPDATE. Where that is BOOT the drive enables stay
asserted in a state in which R375 does not allow them. -/
theorem not_driveOnlyWhenAllowed : ¬ Obligations.DriveOnlyWhenAllowed := by
  unfold Obligations.DriveOnlyWhenAllowed
  intro h
  exact absurd (h _ _ (by decide +kernel) step_abortIntoBoot) (by decide +kernel)

/-- Refutes O2: where a frame still arrives on a port that parks, PORT_PARK cuts it off and takes free values, so that more than the link
state, the tile map and the fault collector changes. -/
theorem not_supplySequenceCompletes : ¬ Obligations.SupplySequenceCompletes := by
  unfold Obligations.SupplySequenceCompletes
  rintro ⟨-, -, -, -, -, -, -, -, -, -, -, -, -, -, -, -, -, -, -, -, -, -, hpark, -⟩
  obtain ⟨u, hu, -, -, -, -, hframe, -⟩ := hpark parkWhileArriving.start .a (by decide +kernel) rfl rfl (by decide) (by decide)
  obtain ⟨t, ht, hcalm, hlt⟩ := exec_parkWhileArriving
  have hsettle : t.settle = u := by injection (ht.symm.trans hu)
  have hfree : u.free = t.free := by rw [← hsettle, t.settle_calm hcalm]
  rw [hframe] at hfree
  exact absurd hfree.symm (Nat.ne_of_gt hlt)

/-- Refutes O37: while R456 bars new stores, UPDATE_ABORT writes no boot control record, and the slot is not INVALID. -/
theorem not_updateAndServiceCommandsComplete : ¬ Obligations.UpdateAndServiceCommandsComplete := by
  unfold Obligations.UpdateAndServiceCommandsComplete
  rintro ⟨-, habort, -⟩
  obtain ⟨u, hu, -, -, -, hslot, -⟩ := habort abortWhileBarred.start bareCommand (by decide +kernel) (by decide +kernel) rfl (.inl rfl) (by decide)
  rw [← show abortWhileBarred.after = u by injection (exec_abortWhileBarred.symm.trans hu)] at hslot
  exact absurd hslot (by decide +kernel)

/-- Settles O49: every part of it is a value of the reset state; the invariants and the registers are computed. -/
theorem resetState : Obligations.ResetState := by
  unfold Obligations.ResetState
  refine ⟨rfl, rfl, rfl, ⟨rfl, rfl, rfl⟩, rfl, ⟨rfl, rfl⟩, ?shaped, ?moves, ?drive, rfl, rfl, rfl, rfl, rfl, rfl, ?registers⟩
  case shaped => decide +kernel
  case moves => decide +kernel
  case drive => exact .inl ⟨rfl, rfl, rfl⟩
  case registers => decide +kernel

end

section
/-!
The engine’s state machine and the safety monitor (R22 to R29, R372 to R381): which operations leave both alone, and what the others
do to them.
-/

namespace Sys2Proof.Machine

/-- The engine’s state machine together with the safety monitor. -/
def State.posture (s : State) : Eng × Saf := (s.eng, s.saf)

theorem State.eng_of_posture {s u : State} (h : u.posture = s.posture) : u.eng = s.eng := congrArg Prod.fst h
theorem State.saf_of_posture {s u : State} (h : u.posture = s.posture) : u.saf = s.saf := congrArg Prod.snd h

/-! ### Operations that leave both alone -/

@[simp] theorem State.onFlt_posture (s : State) (f) : (s.onFlt f).posture = s.posture := rfl
@[simp] theorem State.onPwr_posture (s : State) (f) : (s.onPwr f).posture = s.posture := rfl
@[simp] theorem State.onLinkA_posture (s : State) (f) : (s.onLinkA f).posture = s.posture := rfl
@[simp] theorem State.onLinkB_posture (s : State) (f) : (s.onLinkB f).posture = s.posture := rfl
@[simp] theorem State.onWall_posture (s : State) (f) : (s.onWall f).posture = s.posture := rfl
@[simp] theorem State.onTime_posture (s : State) (f) : (s.onTime f).posture = s.posture := rfl
@[simp] theorem State.onTum_posture (s : State) (f) : (s.onTum f).posture = s.posture := rfl
@[simp] theorem State.onComp_posture (s : State) (f) : (s.onComp f).posture = s.posture := rfl
@[simp] theorem State.onRings_posture (s : State) (f) : (s.onRings f).posture = s.posture := rfl
@[simp] theorem State.onLed_posture (s : State) (f) : (s.onLed f).posture = s.posture := rfl
@[simp] theorem State.onAge_posture (s : State) (f) : (s.onAge f).posture = s.posture := rfl
@[simp] theorem State.onWard_posture (s : State) (f) : (s.onWard f).posture = s.posture := rfl
@[simp] theorem State.onNvm_posture (s : State) (f) : (s.onNvm f).posture = s.posture := rfl
@[simp] theorem State.onRing_posture (s : State) (k f) : (s.onRing k f).posture = s.posture := rfl
@[simp] theorem State.onThread_posture (s : State) (t f) : (s.onThread t f).posture = s.posture := rfl
@[simp] theorem State.onLink_posture (s : State) (p f) : (s.onLink p f).posture = s.posture := by cases p <;> rfl
@[simp] theorem State.takeFree_posture (s : State) : s.takeFree.posture = s.posture := rfl
@[simp] theorem State.endCond_posture (s : State) (a b) : (s.endCond a b).posture = s.posture := rfl
@[simp] theorem State.endSrc_posture (s : State) (a) : (s.endSrc a).posture = s.posture := rfl

@[simp] theorem State.raise_posture (s : State) (a b) : (s.raise a b).posture = s.posture := by
  unfold State.raise; split <;> rfl

@[simp] theorem State.raiseAt_posture (s : State) (n a b) : (s.raiseAt n a b).posture = s.posture := by
  unfold State.raiseAt; split <;> simp

@[simp] theorem State.fireWith_posture (s : State) (n e) : (s.fireWith n e).posture = s.posture := by
  unfold State.fireWith; dsimp only; split <;> simp

@[simp] theorem State.fire_posture (s : State) (e) : (s.fire e).posture = s.posture := s.fireWith_posture true e

@[simp] theorem State.captureWith_posture (s : State) (n src r) : (s.captureWith n src r).posture = s.posture := by
  unfold State.captureWith; split
  · rfl
  · split <;> simp

@[simp] theorem State.haltAll_posture (s : State) (c) : (s.haltAll c).posture = s.posture := rfl

@[simp] theorem State.reportProg_posture (s : State) : s.reportProg.posture = s.posture := rfl

@[simp] theorem State.startThread_posture (s : State) (n) : (s.startThread n).posture = s.posture := rfl

@[simp] theorem State.startThreads_posture (s : State) : s.startThreads.posture = s.posture := by
  unfold State.startThreads; split
  · rfl
  · exact State.each_keeps State.posture _ (fun t n => by split <;> simp) s 8

@[simp] theorem State.applyCeilings_posture (s : State) : s.applyCeilings.posture = s.posture := by
  unfold State.applyCeilings; split
  · rfl
  · exact State.each_keeps State.posture _ (fun t n => by simp) s 64

@[simp] theorem State.railOff_posture (s : State) : s.railOff.posture = s.posture := rfl

@[simp] theorem State.railStart_posture (s : State) : s.railStart.posture = s.posture := by
  unfold State.railStart; split <;> rfl

@[simp] theorem State.railStartIfOff_posture (s : State) : s.railStartIfOff.posture = s.posture := by
  unfold State.railStartIfOff; split <;> simp

@[simp] theorem State.stopSweep_posture (s : State) : s.stopSweep.posture = s.posture := by
  unfold State.stopSweep; split <;> simp

@[simp] theorem State.askZeroFrame_posture (s : State) : s.askZeroFrame.posture = s.posture := rfl

@[simp] theorem State.cairnStream_posture (s : State) : s.cairnStream.posture = s.posture := rfl

@[simp] theorem State.cairnRequest_posture (s : State) : s.cairnRequest.posture = s.posture := by
  unfold State.cairnRequest; dsimp only; split <;> simp

@[simp] theorem State.cairnEnd_posture (s : State) : s.cairnEnd.posture = s.posture := rfl

@[simp] theorem State.fenceRing_posture (s : State) (k) : (s.fenceRing k).posture = s.posture := rfl

@[simp] theorem State.writeBoot_posture (s : State) (f) : (s.writeBoot f).posture = s.posture := by
  unfold State.writeBoot; split <;> rfl

@[simp] theorem State.abortStaging_posture (s : State) : s.abortStaging.posture = s.posture := by
  simp [State.abortStaging]

@[simp] theorem State.logEvent_posture (s : State) (a b c) : (s.logEvent a b c).posture = s.posture := rfl

@[simp] theorem State.setFence_posture (s : State) (i) : (s.setFence i).posture = s.posture := rfl

@[simp] theorem State.fenceColour_posture (s : State) : s.fenceColour.posture = s.posture := rfl

@[simp] theorem State.mergeInto_posture (s : State) (i n v c) : (s.mergeInto i n v c).posture = s.posture := by
  unfold State.mergeInto; split
  · rfl
  · dsimp only; split <;> simp

@[simp] theorem State.createRec_posture (s : State) (i n v) : (s.createRec i n v).posture = s.posture := by
  unfold State.createRec; dsimp only; repeat' split
  all_goals simp

@[simp] theorem State.cutOffAt_posture (s : State) (p l) : (s.cutOffAt p l).posture = s.posture := by
  unfold State.cutOffAt; split
  · rfl
  · dsimp only; split <;> simp

@[simp] theorem State.cutOff_posture (s : State) (p) : (s.cutOff p).posture = s.posture := by
  unfold State.cutOff; split
  · rfl
  · exact s.cutOffAt_posture p _

@[simp] theorem State.leaveActive_posture (s : State) (p) : (s.leaveActive p).posture = s.posture := by
  unfold State.leaveActive; split
  · simp [State.mapPortLoss]
  · rfl

@[simp] theorem State.disablePort_posture (s : State) (p) : (s.disablePort p).posture = s.posture := by
  simp [State.disablePort]

@[simp] theorem State.checkSsgFenced_posture (s : State) : s.checkSsgFenced.posture = s.posture := by
  unfold State.checkSsgFenced; split <;> rfl

@[simp] theorem State.pairUpdate_posture (s : State) : s.pairUpdate.posture = s.posture := by
  unfold State.pairUpdate; split <;> rfl

/-! Each of the two by itself, for the operations that the transitions and demands below are made of. -/

@[simp] theorem State.fire_eng (s : State) (e) : (s.fire e).eng = s.eng := State.eng_of_posture (s.fire_posture e)
@[simp] theorem State.fire_saf (s : State) (e) : (s.fire e).saf = s.saf := State.saf_of_posture (s.fire_posture e)
@[simp] theorem State.applyCeilings_eng (s : State) : s.applyCeilings.eng = s.eng := State.eng_of_posture (s.applyCeilings_posture)
@[simp] theorem State.applyCeilings_saf (s : State) : s.applyCeilings.saf = s.saf := State.saf_of_posture (s.applyCeilings_posture)
@[simp] theorem State.railOff_eng (s : State) : s.railOff.eng = s.eng := State.eng_of_posture (s.railOff_posture)
@[simp] theorem State.railOff_saf (s : State) : s.railOff.saf = s.saf := State.saf_of_posture (s.railOff_posture)
@[simp] theorem State.railStart_eng (s : State) : s.railStart.eng = s.eng := State.eng_of_posture (s.railStart_posture)
@[simp] theorem State.railStart_saf (s : State) : s.railStart.saf = s.saf := State.saf_of_posture (s.railStart_posture)
@[simp] theorem State.railStartIfOff_eng (s : State) : s.railStartIfOff.eng = s.eng := State.eng_of_posture (s.railStartIfOff_posture)
@[simp] theorem State.railStartIfOff_saf (s : State) : s.railStartIfOff.saf = s.saf := State.saf_of_posture (s.railStartIfOff_posture)
@[simp] theorem State.stopSweep_eng (s : State) : s.stopSweep.eng = s.eng := State.eng_of_posture (s.stopSweep_posture)
@[simp] theorem State.stopSweep_saf (s : State) : s.stopSweep.saf = s.saf := State.saf_of_posture (s.stopSweep_posture)
@[simp] theorem State.cairnRequest_eng (s : State) : s.cairnRequest.eng = s.eng := State.eng_of_posture (s.cairnRequest_posture)
@[simp] theorem State.cairnRequest_saf (s : State) : s.cairnRequest.saf = s.saf := State.saf_of_posture (s.cairnRequest_posture)
@[simp] theorem State.cairnEnd_eng (s : State) : s.cairnEnd.eng = s.eng := State.eng_of_posture (s.cairnEnd_posture)
@[simp] theorem State.cairnEnd_saf (s : State) : s.cairnEnd.saf = s.saf := State.saf_of_posture (s.cairnEnd_posture)
@[simp] theorem State.abortStaging_eng (s : State) : s.abortStaging.eng = s.eng := State.eng_of_posture (s.abortStaging_posture)
@[simp] theorem State.abortStaging_saf (s : State) : s.abortStaging.saf = s.saf := State.saf_of_posture (s.abortStaging_posture)
@[simp] theorem State.startThreads_eng (s : State) : s.startThreads.eng = s.eng := State.eng_of_posture (s.startThreads_posture)
@[simp] theorem State.startThreads_saf (s : State) : s.startThreads.saf = s.saf := State.saf_of_posture (s.startThreads_posture)

/-! ### Transitions -/

theorem State.setEng_eng (s : State) (n : EngState) :
    (s.setEng n).eng = if s.eng.st = n then s.eng else { s.eng with st := n, prev := s.eng.st, transCount := inc 16 s.eng.transCount } := by
  unfold State.setEng; dsimp only
  by_cases h : s.eng.st = n
  · simp [h]
  · simp only [beq_iff_eq, h, if_false]; repeat' split
    all_goals simp [State.haltAll]

@[simp] theorem State.setEng_saf (s : State) (n : EngState) : (s.setEng n).saf = s.saf := by
  unfold State.setEng; dsimp only; repeat' split
  all_goals simp [State.haltAll]

@[simp] theorem State.setEng_st (s : State) (n : EngState) : (s.setEng n).eng.st = n := by
  rw [s.setEng_eng]; split <;> simp [*]

@[simp] theorem State.setEng_beforeUpdate (s : State) (n : EngState) : (s.setEng n).eng.beforeUpdate = s.eng.beforeUpdate := by
  rw [s.setEng_eng]; split <;> rfl

@[simp] theorem State.setEng_leaving (s : State) (n : EngState) : (s.setEng n).eng.leaving = s.eng.leaving := by
  rw [s.setEng_eng]; split <;> rfl

@[simp] theorem State.enterDark_eng (s : State) : s.enterDark.eng = (s.setEng .dark).eng := by
  simp [State.enterDark, State.askZeroFrame]
@[simp] theorem State.enterDark_saf (s : State) : s.enterDark.saf = s.saf := by
  simp [State.enterDark, State.askZeroFrame]

/-! ### Causes and the function in force (R376, R377) -/

theorem higher_eq_none {a b : Option SafeFunc} : higher a b = none ↔ a = none ∧ b = none := by
  cases a <;> cases b <;> simp [higher]
  split <;> simp

/-- The higher-ranked of two demands is one of them. -/
theorem eq_or_eq_of_higher {a b : Option SafeFunc} {x : SafeFunc} (h : higher a b = some x) : a = some x ∨ b = some x := by
  match a, b with
  | none, b => exact .inr h
  | some a, none => exact .inl h
  | some a, some b =>
    simp only [higher] at h
    split at h
    · exact .inr h
    · exact .inl h

/-- The rank of a demand, 0 where there is none (R377). -/
def demandRank : Option SafeFunc → Nat
  | none => 0
  | some f => f.rank

theorem demandRank_higher (a b : Option SafeFunc) : demandRank (higher a b) = max (demandRank a) (demandRank b) := by
  match a, b with
  | none, b => simp [higher, demandRank]
  | some a, none => simp [higher, demandRank]
  | some a, some b => by_cases h : a.rank < b.rank <;> simp [higher, demandRank, h] <;> omega

/-- SLO outranks every other function (R377). -/
@[simp] theorem higher_slo (a : Option SafeFunc) : higher a (some .slo) = some .slo := by
  rcases a with _ | _ | _ | _ <;> rfl

@[simp] theorem slo_higher (b : Option SafeFunc) : higher (some .slo) b = some .slo := by
  rcases b with _ | _ | _ | _ <;> rfl

/-- Only the causes decide the function in force. -/
theorem Saf.func_congr {f g : Saf} (h : f.cause = g.cause) : f.func = g.func := by
  have hc : ∀ c, f.cause c = g.cause c := congrFun h
  have hA := hc .inA; have hB := hc .inB; have hD := hc .bcDemand; have hW := hc .watchdog; have hR := hc .request; have hI := hc .internal
  simp only [Saf.cause] at hA hB hD hW hR hI
  simp only [Saf.func, hA, hB, hD, hW, hR, hI]

theorem Saf.func_eq_none {f : Saf} : f.func = none ↔ ∀ c, f.cause c = none := by
  simp only [Saf.func, higher_eq_none]
  exact ⟨fun ⟨hA, hB, hD, hW, hR, hI⟩ c => by cases c <;> assumption, fun h => ⟨h .inA, h .inB, h .bcDemand, h .watchdog, h .request, h .internal⟩⟩

/-- The function in force is demanded. -/
theorem Saf.exists_cause_of_func {f : Saf} {x : SafeFunc} (h : f.func = some x) : ∃ c, f.cause c = some x := by
  rcases eq_or_eq_of_higher h with h | h
  · exact ⟨.inA, h⟩
  rcases eq_or_eq_of_higher h with h | h
  · exact ⟨.inB, h⟩
  rcases eq_or_eq_of_higher h with h | h
  · exact ⟨.bcDemand, h⟩
  rcases eq_or_eq_of_higher h with h | h
  · exact ⟨.watchdog, h⟩
  rcases eq_or_eq_of_higher h with h | h
  · exact ⟨.request, h⟩
  · exact ⟨.internal, h⟩

/-- No cause demands a function that outranks the one in force. -/
theorem Saf.demandRank_cause_le (f : Saf) (c : Cause) : demandRank (f.cause c) ≤ demandRank f.func := by
  simp only [Saf.func, demandRank_higher]
  cases c <;> simp [Saf.cause]

/-- An INTERNAL cause, which is always SLO, puts SLO in force. -/
theorem Saf.func_of_internal {f : Saf} (h : f.internal = some .slo) : f.func = some .slo := by
  simp [Saf.func, h]

/-! ### Performing a function (R379 to R381) -/

@[simp] theorem State.performSlo_eng (s : State) : s.performSlo.eng = s.eng := rfl
@[simp] theorem State.performSlo_cause (s : State) : s.performSlo.saf.cause = s.saf.cause := by funext c; cases c <;> rfl
theorem State.performSlo_outputsOff (s : State) : s.performSlo.OutputsOff := ⟨rfl, rfl, rfl⟩

@[simp] theorem State.performSfd_eng (s : State) : s.performSfd.eng = s.eng := by
  unfold State.performSfd; split <;> simp

@[simp] theorem State.performSfd_cause (s : State) : s.performSfd.saf.cause = s.saf.cause := by
  unfold State.performSfd; split <;> (funext c; cases c <;> simp [Saf.cause])

@[simp] theorem State.performSsg_eng (s : State) : s.performSsg.eng = s.eng := by
  unfold State.performSsg; repeat' split
  all_goals simp

@[simp] theorem State.performSsg_cause (s : State) : s.performSsg.saf.cause = s.saf.cause := by
  unfold State.performSsg; repeat' split
  · simp
  all_goals funext c; cases c <;> simp [Saf.cause]

@[simp] theorem State.applyFunc_eng (s : State) (o) : (s.applyFunc o).eng = s.eng := by
  unfold State.applyFunc; repeat' split
  all_goals simp

@[simp] theorem State.applyFunc_cause (s : State) (o) : (s.applyFunc o).saf.cause = s.saf.cause := by
  unfold State.applyFunc; repeat' split
  all_goals simp

/-- When SLO comes into force, the outputs are those of SLO (R379). -/
theorem State.applyFunc_outputsOff {s : State} {o} (ho : o ≠ some .slo) (h : s.saf.func = some .slo) : (s.applyFunc o).OutputsOff := by
  have hne : ¬ s.saf.func = o := fun he => ho (he.symm.trans h)
  rw [State.applyFunc, if_neg hne, h]
  exact s.performSlo_outputsOff

/-! ### SAFE (R22, R378) -/

/-- The states that a demand takes to SAFE (R22). -/
def EngState.demandable (e : EngState) : Prop := e ∈ [EngState.join, .dark, .lit, .service, .update]

@[simp] theorem State.enterSafe_saf (s : State) : s.enterSafe.saf = s.saf := by
  unfold State.enterSafe; repeat' split
  all_goals simp

theorem State.enterSafe_of_demandable {s : State} (hl : s.eng.leaving = false) (hs : s.eng.st.demandable) : s.enterSafe.eng.st = .safe := by
  unfold State.enterSafe; rw [hl]
  simp only [EngState.demandable, List.mem_cons, List.not_mem_nil, or_false] at hs
  rcases hs with h | h | h | h | h <;> simp [h]

theorem State.enterSafe_still {s : State} (h : s.eng.leaving = true ∨ ¬ s.eng.st.demandable) : s.enterSafe = s := by
  unfold State.enterSafe; repeat' split
  · rfl
  all_goals simp_all [EngState.demandable]

/-! ### A demand (R376, R378) -/

theorem Saf.arise_cause (f : Saf) (c : Cause) (fn : SafeFunc) (d : Cause) :
    (f.arise c fn).cause d = if d = c then higher (f.cause c) (some fn) else f.cause d := by
  cases c <;> cases d <;> rfl

/-- A demand, once its fault is raised and its event fired: its cause has arisen, and the engine has not moved yet. -/
def State.demanded (s : State) (c : Cause) (fn : SafeFunc) : State :=
  let s1 := s.onSaf fun f => f.arise c fn
  if (s.saf.cause c).isNone then (if s.eng.shutting then s1 else s1.raise 0xC9 (demandDetail c fn)).fire 23 else s1

theorem State.addCause_eq (s : State) (c : Cause) (fn : SafeFunc) :
    s.addCause c fn = ((s.demanded c fn).applyFunc s.saf.func).enterSafe := rfl

@[simp] theorem State.demanded_eng (s : State) (c : Cause) (fn : SafeFunc) : (s.demanded c fn).eng = s.eng := by
  unfold State.demanded; dsimp only; repeat' split
  all_goals simp

@[simp] theorem State.demanded_saf (s : State) (c : Cause) (fn : SafeFunc) : (s.demanded c fn).saf = s.saf.arise c fn := by
  unfold State.demanded; dsimp only; repeat' split
  all_goals simp

theorem State.addCause_cause (s : State) (c : Cause) (fn : SafeFunc) : (s.addCause c fn).saf.cause = (s.saf.arise c fn).cause := by
  simp [State.addCause_eq]

theorem State.addCause_safe {s : State} (c : Cause) (fn : SafeFunc) (hl : s.eng.leaving = false) (hs : s.eng.st.demandable) :
    (s.addCause c fn).eng.st = .safe :=
  State.enterSafe_of_demandable (s := (s.demanded c fn).applyFunc s.saf.func) (by simpa using hl) (by simpa using hs)

theorem State.addCause_stays {s : State} (c : Cause) (fn : SafeFunc) (h : s.eng.leaving = true ∨ ¬ s.eng.st.demandable) :
    (s.addCause c fn).eng = s.eng := by
  rw [State.addCause_eq, State.enterSafe_still (by simpa using h)]; simp

theorem State.addCause_outputsOff {s : State} {c : Cause} {fn : SafeFunc} (ho : s.saf.func ≠ some .slo)
    (h : (s.addCause c fn).saf.func = some .slo) : (s.addCause c fn).OutputsOff := by
  have hf : (s.demanded c fn).saf.func = some .slo := by
    rw [← h]; exact Saf.func_congr (by simp [s.addCause_cause])
  have hoff := State.applyFunc_outputsOff ho hf
  rw [State.addCause_eq]; simpa [State.OutputsOff] using hoff

end Sys2Proof.Machine

open Sys2Proof Sys2Proof.Machine

/-- Settles O58: the ranks of the causes add up by maximum, and a demand is its cause arising, the function in force applied, and entry to SAFE. -/
theorem demandTakesEffect : Obligations.DemandTakesEffect := by
  unfold Obligations.DemandTakesEffect
  refine ⟨fun f => ⟨Saf.func_eq_none, fun x hx => ⟨Saf.exists_cause_of_func hx, fun c y hy => ?_⟩⟩, fun s c fn => ⟨?_, fun d hd => ?_, ?_, ?_, ?_⟩⟩
  · have h := f.demandRank_cause_le c
    rwa [hx, hy] at h
  · simp [s.addCause_cause, Saf.arise_cause]
  · simp [s.addCause_cause, Saf.arise_cause, hd]
  · exact State.addCause_safe c fn
  · exact fun h => congrArg Eng.st (State.addCause_stays c fn h)
  · exact State.addCause_outputsOff

end

section
/-!
The fault collector at work (R407 to R417): what is kept while it records faults and reacts to them, and what a fault of severity S3 leads to.
-/

namespace Sys2Proof.Machine

/-! ### Keeping a property while faults are recorded -/

/-- FLT_FIFO_FULL counted, its condition present (R410). -/
def State.fifoCounted (s : State) (injected react : Bool) : State :=
  s.onFlt fun f =>
    { f with
      full := inc 16 f.full
      conds := { src := 0x19, detail := 0, injected := injected, react := react, sev := s.flt.sevOf 0x19 } ::
        f.conds.filter fun c => !(c.src == 0x19 && c.detail == 0 && c.injected == injected) }

theorem State.fifoFull_eq (s : State) (i : Nat) (injected react : Bool) :
    s.fifoFull i injected react =
      ((s.fifoCounted injected react).mergeInto i { src := 0x19, detail := 0, injected := injected, react := react } (s.flt.sevOf 0x19) false).react
        { src := 0x19, detail := 0, injected := injected, react := react } (s.flt.sevOf 0x19) := rfl

/-- Every step of recording a fault and of reacting to it keeps the property. -/
structure KeptBySettling (P : State → Prop) : Prop where
  /-- the waiting faults are taken up -/
  taken : ∀ s : State, P s → P (s.onFlt fun f => { f with newFaults := [] })
  /-- a fault merges into a record -/
  merged : ∀ (s : State) i n v c, P s → P (s.mergeInto i n v c)
  /-- a fault has a record of its own -/
  created : ∀ (s : State) i n v, P s → P (s.createRec i n v)
  /-- an injected fault without a record is counted -/
  counted : ∀ s : State, P s → P (s.onFlt fun f => { f with full := inc 16 f.full })
  /-- the FIFO is full -/
  full : ∀ (s : State) j r, P s → P (s.fifoCounted j r)
  /-- a unit is fenced -/
  fenced : ∀ (s : State) u, P s → P (s.fenceUnit u)
  /-- a fault of severity S3 demands SLO -/
  demanded : ∀ s : State, P s → P (s.addCause .internal .slo)

section
variable {P : State → Prop} (h : KeptBySettling P)
include h

theorem KeptBySettling.react {s : State} (n : NewFault) (v : Fin 4) (hs : P s) : P (s.react n v) := by
  have hf : P (if fencing n.src v then s.fenceUnit (s.fenceOf n.src n.detail) else s) := by
    split
    · exact h.fenced _ _ hs
    · exact hs
  unfold State.react; split
  · exact hs
  · dsimp only; split
    · exact h.demanded _ hf
    · exact hf

theorem KeptBySettling.fifoFull {s : State} (i : Nat) (j r : Bool) (hs : P s) : P (s.fifoFull i j r) := by
  rw [s.fifoFull_eq]
  exact h.react _ _ (h.merged _ _ _ _ _ (h.full _ _ _ hs))

theorem KeptBySettling.record {s : State} (old : List (BitVec 32)) (n : NewFault) (v : Fin 4) (hs : P s) : P (s.record old n v) := by
  unfold State.record; repeat' split
  · exact h.merged _ _ _ _ _ hs
  · exact h.created _ _ _ _ hs
  · exact h.created _ _ _ _ hs
  · exact h.fifoFull _ _ _ (h.merged _ _ _ _ _ hs)
  · exact h.counted _ hs
  · exact h.created _ _ _ _ hs
  · exact hs

theorem KeptBySettling.settleN (k : Nat) (old : List (BitVec 32)) {s : State} (hs : P s) : P (s.settleN k old) := by
  induction k generalizing s with
  | zero => exact h.taken _ hs
  | succ k ih =>
    unfold State.settleN; split
    · exact hs
    · refine ih ?_
      have hfold : ∀ (l : List NewFault) (t : State), P t →
          P (l.foldl (fun s n => (s.record old n (s.flt.sevOf n.src)).react n (s.flt.sevOf n.src)) t) := by
        intro l
        induction l with
        | nil => exact fun _ ht => ht
        | cons n l ihl => exact fun t ht => ihl _ (h.react _ _ (h.record _ _ _ ht))
      exact hfold _ _ (h.taken _ hs)

end

/-! ### Fencing, and properties of the engine and the monitor alone -/

@[simp] theorem State.fenceUnit_eng (s : State) (u : FenceUnit) : (s.fenceUnit u).eng = s.eng := by
  unfold State.fenceUnit; split
  · rfl
  · exact State.eng_of_posture (s.fenceRing_posture _)
  · dsimp only; repeat' split
    all_goals simp [State.eng_of_posture (State.haltAll_posture _ _), State.eng_of_posture (State.disablePort_posture _ _), State.setFence,
      State.eng_of_posture (State.fenceColour_posture _)]

@[simp] theorem State.fenceUnit_cause (s : State) (u : FenceUnit) : (s.fenceUnit u).saf.cause = s.saf.cause := by
  unfold State.fenceUnit; split
  · rfl
  · rw [State.saf_of_posture (s.fenceRing_posture _)]
  · dsimp only; repeat' split
    all_goals simp [State.saf_of_posture (State.haltAll_posture _ _), State.saf_of_posture (State.disablePort_posture _ _), State.setFence,
      State.saf_of_posture (State.fenceColour_posture _)]

/-- Where only the engine and the monitor count, only fences and demands do. -/
theorem KeptBySettling.of_posture {Q : Eng × Saf → Prop} (hf : ∀ (s : State) u, Q s.posture → Q (s.fenceUnit u).posture)
    (hd : ∀ s : State, Q s.posture → Q (s.addCause .internal .slo).posture) : KeptBySettling fun s => Q s.posture where
  taken s h := by simpa using h
  merged s i n v c h := by simpa using h
  created s i n v h := by simpa using h
  counted s h := by simpa using h
  full s j r h := by simpa [State.fifoCounted] using h
  fenced := hf
  demanded := hd

/-! ### SAFE, the INTERNAL cause and the outputs of SLO stay -/

theorem internal_kept : KeptBySettling fun s => s.saf.internal = some .slo := by
  refine .of_posture (Q := fun p => p.2.internal = some .slo) (fun s u h => ?_) (fun s h => ?_)
  · exact (congrFun (s.fenceUnit_cause u) .internal).trans h
  · exact (congrFun (s.addCause_cause .internal .slo) .internal).trans (by simp [Saf.arise_cause])

theorem State.addCause_internal (s : State) : (s.addCause .internal .slo).saf.internal = some .slo :=
  (congrFun (s.addCause_cause .internal .slo) .internal).trans (by simp [Saf.arise_cause])

/-- A demand leads to SAFE, or the engine stays where it is (R22). -/
theorem State.addCause_st (s : State) (c : Cause) (fn : SafeFunc) :
    (s.addCause c fn).eng.st = .safe ∨ (s.addCause c fn).eng = s.eng := by
  by_cases h : s.eng.leaving = true ∨ ¬ s.eng.st.demandable
  · exact .inr (State.addCause_stays c fn h)
  · simp only [not_or, not_not, Bool.not_eq_true] at h
    exact .inl (State.addCause_safe c fn h.1 h.2)

theorem safe_kept : KeptBySettling fun s => s.eng.st = .safe := by
  refine .of_posture (Q := fun p => p.1.st = .safe) (fun s u h => ?_) (fun s h => ?_)
  · exact (congrArg Eng.st (s.fenceUnit_eng u)).trans h
  · rcases s.addCause_st .internal .slo with hs | hs
    · exact hs
    · exact (congrArg Eng.st hs).trans h

/-- The engine is not about to leave, and it is in SAFE or where a demand takes it there. -/
def State.safeAhead (s : State) : Prop := s.eng.st = .safe ∨ (s.eng.leaving = false ∧ s.eng.st.demandable)

theorem State.addCause_of_safeAhead {s : State} (c : Cause) (fn : SafeFunc) (h : s.safeAhead) : (s.addCause c fn).eng.st = .safe := by
  rcases h with h | ⟨hl, hd⟩
  · rcases s.addCause_st c fn with hs | hs
    · exact hs
    · exact (congrArg Eng.st hs).trans h
  · exact State.addCause_safe c fn hl hd

theorem safeAhead_kept : KeptBySettling State.safeAhead := by
  refine .of_posture (Q := fun p => p.1.st = .safe ∨ (p.1.leaving = false ∧ p.1.st.demandable)) (fun s u h => ?_) (fun s h => ?_)
  · simpa [State.posture] using h
  · exact .inl (State.addCause_of_safeAhead .internal .slo h)

/-- Where SLO is in force, the outputs are those of SLO (R379). -/
def State.sloShown (s : State) : Prop := s.saf.func = some .slo → s.OutputsOff

theorem State.addCause_sloShown {s : State} (c : Cause) (fn : SafeFunc) (h : s.sloShown) : (s.addCause c fn).sloShown := by
  intro hn
  by_cases ho : s.saf.func = some .slo
  · have hf : (s.demanded c fn).saf.func = s.saf.func := by
      rw [ho, ← hn]; exact Saf.func_congr (by simp [s.addCause_cause])
    have hoff : (s.demanded c fn).OutputsOff := by
      simp only [State.OutputsOff, State.demanded_saf]; cases c <;> exact h ho
    rw [State.addCause_eq, State.applyFunc, if_pos hf]
    simpa [State.OutputsOff] using hoff
  · exact State.addCause_outputsOff ho hn

theorem State.fenceUnit_saf (s : State) (u : FenceUnit) : (s.fenceUnit u).saf = s.saf ∨ (s.fenceUnit u).OutputsOff := by
  unfold State.fenceUnit; split
  · exact .inl rfl
  · exact .inl (State.saf_of_posture (s.fenceRing_posture _))
  · dsimp only
    split
    · exact .inl rfl
    split
    · left; split <;> simp [State.setFence, State.saf_of_posture (State.fenceColour_posture _)]
    split
    · split
      · right
        have hs : ∀ t : State, (t.raise 0xC2 0).saf = t.saf := fun t => State.saf_of_posture (t.raise_posture _ _)
        simpa only [State.OutputsOff, hs] using State.performSlo_outputsOff _
      · left; simp [State.setFence]
    · left; repeat' split
      all_goals simp [State.setFence, State.saf_of_posture (State.haltAll_posture _ _), State.saf_of_posture (State.disablePort_posture _ _)]

theorem State.fenceUnit_sloShown {s : State} (u : FenceUnit) (h : s.sloShown) : (s.fenceUnit u).sloShown := by
  rcases s.fenceUnit_saf u with hs | hs
  · simpa only [State.sloShown, State.OutputsOff, hs] using h
  · exact fun _ => hs

theorem sloShown_kept : KeptBySettling State.sloShown :=
  .of_posture (Q := fun p => p.2.func = some .slo → p.2.drvEnA = false ∧ p.2.drvEnB = false ∧ p.2.vledDis = true)
    (fun s u h => s.fenceUnit_sloShown u h) (fun s h => s.addCause_sloShown .internal .slo h)

end Sys2Proof.Machine

end

section
/-!
Power entry and the supplies (R475 to R478): what the commands of the hot-swap controller and of the housekeeping supply lead to.
-/

namespace Sys2Proof.Machine

/-! ### The condition of BUS_OV stays while faults are recorded -/

/-- The conditions of BUS_OV that are present. -/
def State.overvoltages (s : State) : List Cond := s.flt.conds.filter fun c => c.src == 0xE1

theorem State.raise_overvoltages (s : State) {n : Nat} (d : Nat) (hn : n ≠ 0xE1) : (s.raise n d).overvoltages = s.overvoltages := by
  unfold State.raise; split
  · rfl
  · simp only [State.overvoltages, List.filter_cons, List.filter_filter, State.onFlt, beq_iff_eq, hn, if_false]
    exact List.filter_congr fun c _ => by by_cases h : c.src = 0xE1 <;> simp [h, Ne.symm hn]

theorem State.endCond_overvoltages (s : State) {n : Nat} (d : Nat) (hn : n ≠ 0xE1) : (s.endCond n d).overvoltages = s.overvoltages := by
  simp only [State.overvoltages, State.endCond, List.filter_filter, State.onFlt]
  exact List.filter_congr fun c _ => by by_cases h : c.src = 0xE1 <;> simp [h, Ne.symm hn]

theorem State.endSrc_overvoltages (s : State) {n : Nat} (hn : n ≠ 0xE1) : (s.endSrc n).overvoltages = s.overvoltages := by
  simp only [State.overvoltages, State.endSrc, List.filter_filter, State.onFlt]
  exact List.filter_congr fun c _ => by by_cases h : c.src = 0xE1 <;> simp [h, Ne.symm hn]

theorem State.raiseAt_overvoltages (s : State) (now : Bool) {n : Nat} (d : Nat) (hn : n ≠ 0xE1) :
    (s.raiseAt now n d).overvoltages = s.overvoltages := by
  unfold State.raiseAt; split
  · exact s.raise_overvoltages d hn
  · rfl

/-- Operations that do not touch the fault collector leave the condition alone. -/
theorem State.overvoltages_of_flt {s u : State} (h : u.flt = s.flt) : u.overvoltages = s.overvoltages := by
  simp only [State.overvoltages, h]

@[simp] theorem State.fireWith_overvoltages (s : State) (n e) : (s.fireWith n e).overvoltages = s.overvoltages := by
  unfold State.fireWith; dsimp only; split
  · rfl
  · exact State.raiseAt_overvoltages _ _ _ (by decide)

@[simp] theorem State.fire_overvoltages (s : State) (e) : (s.fire e).overvoltages = s.overvoltages := s.fireWith_overvoltages true e

@[simp] theorem State.captureWith_overvoltages (s : State) (n src r) : (s.captureWith n src r).overvoltages = s.overvoltages := by
  unfold State.captureWith; split
  · rfl
  · split
    · exact State.raiseAt_overvoltages _ _ _ (by decide)
    · exact State.fireWith_overvoltages _ _ _

@[simp] theorem State.onLink_overvoltages (s : State) (p f) : (s.onLink p f).overvoltages = s.overvoltages := by cases p <;> rfl

@[simp] theorem State.onRing_overvoltages (s : State) (k f) : (s.onRing k f).overvoltages = s.overvoltages :=
  State.overvoltages_of_flt rfl

@[simp] theorem State.cairnEnd_overvoltages (s : State) : s.cairnEnd.overvoltages = s.overvoltages :=
  State.endSrc_overvoltages _ (by decide)

@[simp] theorem State.performSlo_overvoltages (s : State) : s.performSlo.overvoltages = s.overvoltages := State.cairnEnd_overvoltages _

@[simp] theorem State.applyCeilings_overvoltages (s : State) : s.applyCeilings.overvoltages = s.overvoltages := by
  unfold State.applyCeilings; split
  · rfl
  · exact State.each_keeps State.overvoltages _ (fun t n => by simp) s 64

@[simp] theorem State.performSfd_overvoltages (s : State) : s.performSfd.overvoltages = s.overvoltages := by
  unfold State.performSfd; split
  · rfl
  · exact State.applyCeilings_overvoltages _

@[simp] theorem State.railStart_overvoltages (s : State) : s.railStart.overvoltages = s.overvoltages := by
  unfold State.railStart; split <;> rfl

@[simp] theorem State.stopSweep_overvoltages (s : State) : s.stopSweep.overvoltages = s.overvoltages := by
  unfold State.stopSweep; split
  · rfl
  · exact State.fire_overvoltages _ _

@[simp] theorem State.cairnRequest_overvoltages (s : State) : s.cairnRequest.overvoltages = s.overvoltages := by
  have hs : ∀ f, ((s.stopSweep.onRings f).cairnStream).overvoltages = s.overvoltages := fun f => s.stopSweep_overvoltages
  unfold State.cairnRequest; dsimp only; split
  · exact hs _
  · exact (State.raise_overvoltages _ _ (by decide)).trans (hs _)

@[simp] theorem State.performSsg_overvoltages (s : State) : s.performSsg.overvoltages = s.overvoltages := by
  unfold State.performSsg; repeat' split
  · exact (State.raise_overvoltages _ _ (by decide)).trans s.performSlo_overvoltages
  · exact State.railStart_overvoltages _
  · rfl
  · exact State.cairnRequest_overvoltages _

@[simp] theorem State.applyFunc_overvoltages (s : State) (o) : (s.applyFunc o).overvoltages = s.overvoltages := by
  unfold State.applyFunc; repeat' split
  all_goals simp

@[simp] theorem State.setEng_overvoltages (s : State) (n) : (s.setEng n).overvoltages = s.overvoltages := by
  have hf : ∀ g, ((s.onEng g).fire 24).overvoltages = s.overvoltages := fun g => State.fire_overvoltages _ _
  unfold State.setEng; dsimp only; repeat' split
  · rfl
  all_goals exact hf _

@[simp] theorem State.writeBoot_overvoltages (s : State) (f) : (s.writeBoot f).overvoltages = s.overvoltages := by
  unfold State.writeBoot; split <;> rfl

@[simp] theorem State.enterSafe_overvoltages (s : State) : s.enterSafe.overvoltages = s.overvoltages := by
  have ha : s.abortStaging.overvoltages = s.overvoltages :=
    (State.overvoltages_of_flt rfl).trans (s.writeBoot_overvoltages fun b => b.setSlot s.nvm.updTarget .invalid)
  unfold State.enterSafe; repeat' split
  all_goals simp [ha]

@[simp] theorem State.addCause_overvoltages (s : State) (c : Cause) (fn : SafeFunc) : (s.addCause c fn).overvoltages = s.overvoltages := by
  have hd : (s.demanded c fn).overvoltages = s.overvoltages := by
    unfold State.demanded; dsimp only; repeat' split
    · exact State.fire_overvoltages _ _
    · exact (State.fire_overvoltages _ _).trans (State.raise_overvoltages _ _ (by decide))
    · rfl
  simp [State.addCause_eq, hd]

@[simp] theorem State.mergeInto_overvoltages (s : State) (i n v c) : (s.mergeInto i n v c).overvoltages = s.overvoltages := by
  have hm : ∀ (f : Flt) r, (f.mirrorFirst r).conds = f.conds := fun f r => by unfold Flt.mirrorFirst; split <;> rfl
  unfold State.mergeInto; split
  · rfl
  · dsimp only; split
    · rw [State.fire_overvoltages]; simp [State.overvoltages, State.onFlt, hm]
    · simp [State.overvoltages, State.onFlt, hm]

@[simp] theorem State.cutOff_overvoltages (s : State) (p) : (s.cutOff p).overvoltages = s.overvoltages := by
  have hat : ∀ l, (s.cutOffAt p l).overvoltages = s.overvoltages := fun l => by
    unfold State.cutOffAt; split
    · rfl
    · dsimp only; split <;> simp
  unfold State.cutOff; split
  · rfl
  · exact hat _

@[simp] theorem State.disablePort_overvoltages (s : State) (p) : (s.disablePort p).overvoltages = s.overvoltages := by
  have hl : (s.leaveActive p).overvoltages = s.overvoltages := by
    unfold State.leaveActive; split
    · refine (State.raise_overvoltages _ _ (by decide)).trans ?_
      exact (State.onLink_overvoltages _ _ _).trans (s.cutOff_overvoltages p)
    · rfl
  simp [State.disablePort, hl]

theorem State.fenceUnit_overvoltages (s : State) (u : FenceUnit) : (s.fenceUnit u).overvoltages = s.overvoltages := by
  have hc : ∀ t : State, t.fenceColour.overvoltages = t.overvoltages := fun t => rfl
  have hr : ∀ t : State, (t.raise 0xC2 0).overvoltages = t.overvoltages := fun t => t.raise_overvoltages 0 (by decide)
  have hi : ∀ i, (s.setFence i).overvoltages = s.overvoltages := fun i => rfl
  unfold State.fenceUnit; split
  · rfl
  · rfl
  · dsimp only; repeat' split
    · rfl
    · rfl
    · exact hc _
    · rw [hr, State.performSlo_overvoltages]; rfl
    · rfl
    · rfl
    · rfl
    · rw [State.disablePort_overvoltages, hi]
    · rw [State.disablePort_overvoltages, hi]
    · rfl

theorem State.createRec_overvoltages (s : State) (i n v) : (s.createRec i n v).overvoltages = s.overvoltages := by
  have hm : ∀ (f : Flt) r, (f.mirrorFirst r).conds = f.conds := fun f r => by unfold Flt.mirrorFirst; split <;> rfl
  have h0 : ∀ (f : Flt) (o : Option FaultRecord), ((o.map f.mirrorFirst).getD f).conds = f.conds := fun f o => by
    cases o <;> simp [hm]
  have hs : ∀ (t : State) f, (f t.flt).conds = t.flt.conds → (t.onFlt f).overvoltages = t.overvoltages := fun t f hf => by
    simp only [State.overvoltages, State.onFlt, hf]
  have hn : ∀ (t : State) f, (t.onNvm f).overvoltages = t.overvoltages := fun t f => rfl
  have he : ∀ (t : State) a b c, (t.logEvent a b c).overvoltages = t.overvoltages := fun t a b c => rfl
  unfold State.createRec
  extract_lets no r hour logged s1 s2 s3 s4
  have h1 : s1.overvoltages = s.overvoltages := hs _ _ (by dsimp only; split <;> exact h0 _ _)
  have h2 : s2.overvoltages = s.overvoltages := by
    rw [← h1]; exact (State.fireWith_overvoltages _ _ _).trans (State.captureWith_overvoltages _ _ _ _)
  have h3 : s3.overvoltages = s.overvoltages := by
    rw [← h2]; unfold s3; split
    · exact he _ _ _ _
    · rfl
  have h4 : s4.overvoltages = s.overvoltages := by
    rw [← h3]; unfold s4; split
    · exact hs _ _ rfl
    · rfl
  split
  · exact (hn _ _).trans h4
  · exact h4

theorem mem_overvoltages_kept (c : Cond) : KeptBySettling fun s => c ∈ s.overvoltages where
  taken s h := h
  merged s i n v b h := by rwa [s.mergeInto_overvoltages]
  created s i n v h := by rwa [s.createRec_overvoltages]
  counted s h := h
  full s j r h := by
    have he : (s.fifoCounted j r).overvoltages = s.overvoltages := by
      simp only [State.overvoltages, State.fifoCounted, State.onFlt, List.filter_cons, List.filter_filter]
      exact List.filter_congr fun c _ => by by_cases hc : c.src = 0xE1 <;> simp [hc]
    rwa [he]
  fenced s u h := by rwa [s.fenceUnit_overvoltages]
  demanded s h := by rwa [s.addCause_overvoltages]

/-! ### A fault of severity S3 -/

theorem KeptBySettling.and {P Q : State → Prop} (hP : KeptBySettling P) (hQ : KeptBySettling Q) : KeptBySettling fun s => P s ∧ Q s where
  taken s h := ⟨hP.taken s h.1, hQ.taken s h.2⟩
  merged s i n v c h := ⟨hP.merged s i n v c h.1, hQ.merged s i n v c h.2⟩
  created s i n v h := ⟨hP.created s i n v h.1, hQ.created s i n v h.2⟩
  counted s h := ⟨hP.counted s h.1, hQ.counted s h.2⟩
  full s j r h := ⟨hP.full s j r h.1, hQ.full s j r h.2⟩
  fenced s u h := ⟨hP.fenced s u h.1, hQ.fenced s u h.2⟩
  demanded s h := ⟨hP.demanded s h.1, hQ.demanded s h.2⟩

/-- No setting lowers a severity of S3 (R413). -/
theorem Flt.sevOf_critical (f : Flt) {n : Nat} (h : defSev n = 3) : f.sevOf n = 3 := by
  unfold Flt.sevOf; simp only [h]; repeat' split
  · next hv hd => exact Fin.ext (by simp only at *; omega)
  · rfl
  · rfl

/-- One fault waits: it is recorded and reacted to. -/
theorem State.settleN_one {s : State} {n : NewFault} (h : s.flt.newFaults = [n]) (k : Nat) (old : List (BitVec 32)) :
    s.settleN (k + 1) old =
      (((s.onFlt fun f => { f with newFaults := [] }).record old n (s.flt.sevOf n.src)).react n (s.flt.sevOf n.src)).settleN k old := by
  conv_lhs => unfold State.settleN
  rw [h]; rfl

theorem State.react_critical (s : State) {n : NewFault} (h : n.react = true) :
    s.react n 3 = (if fencing n.src 3 then s.fenceUnit (s.fenceOf n.src n.detail) else s).addCause .internal .slo := by
  simp [State.react, h]


theorem KeptBySettling.imp {P : State → Prop} (b : Prop) (hP : KeptBySettling P) : KeptBySettling fun s => b → P s where
  taken s h := fun hb => hP.taken s (h hb)
  merged s i n v c h := fun hb => hP.merged s i n v c (h hb)
  created s i n v h := fun hb => hP.created s i n v (h hb)
  counted s h := fun hb => hP.counted s (h hb)
  full s j r h := fun hb => hP.full s j r (h hb)
  fenced s u h := fun hb => hP.fenced s u (h hb)
  demanded s h := fun hb => hP.demanded s (h hb)

/-- The condition of BUS_OV at severity S3, as the collector keeps it. -/
def busOvCond : Cond := { src := 0xE1, detail := 0, injected := false, react := true, sev := 3 }

theorem State.hasCond_of_overvoltages {s : State} (h : busOvCond ∈ s.overvoltages) : s.hasCond 0xE1 0 = true :=
  List.any_eq_true.mpr ⟨busOvCond, (List.mem_filter.mp h).1, rfl⟩

/-- BUS_OV is present and has demanded SLO; the engine is in SAFE if it was to go there, and the outputs show
SLO if they were to. -/
def State.sloHeld (toSafe toDark : Prop) (s : State) : Prop :=
  busOvCond ∈ s.overvoltages ∧ s.saf.internal = some .slo ∧ (toDark → s.sloShown) ∧ (toSafe → s.eng.st = .safe)

theorem sloHeld_kept (b d : Prop) : KeptBySettling (State.sloHeld b d) :=
  (mem_overvoltages_kept _).and (internal_kept.and ((sloShown_kept.imp d).and (safe_kept.imp b)))

/-- Beyond the condition only the engine and the monitor count. -/
theorem State.sloHeld_congr {b d : Prop} {s u : State} (ho : u.overvoltages = s.overvoltages) (hp : u.posture = s.posture)
    (h : s.sloHeld b d) : u.sloHeld b d := by
  obtain ⟨hc, hi, hs, hb⟩ := h
  refine ⟨by rwa [ho], ?_, ?_, ?_⟩
  · rwa [State.saf_of_posture hp]
  · simpa only [State.sloShown, State.OutputsOff, State.saf_of_posture hp] using hs
  · rwa [State.eng_of_posture hp]

theorem State.checkSsgFenced_overvoltages (s : State) : s.checkSsgFenced.overvoltages = s.overvoltages := by
  unfold State.checkSsgFenced; split
  · rfl
  · exact s.endCond_overvoltages 0 (by decide)

theorem State.pairUpdate_overvoltages (s : State) : s.pairUpdate.overvoltages = s.overvoltages := by
  unfold State.pairUpdate; split <;> rfl

/-- While its condition is present, the INTERNAL cause does not clear (R376). -/
theorem State.checkInternal_of_sloHeld {b d : Prop} {s : State} (h : s.sloHeld b d) : s.checkInternal = s := by
  obtain ⟨hc, hi, -, -⟩ := h
  have hg : s.internalGone = false := by
    have : s.flt.conds.any (fun c => c.sev.val == 3 && c.react) = true :=
      List.any_eq_true.mpr ⟨busOvCond, (List.mem_filter.mp hc).1, rfl⟩
    simp [State.internalGone, this]
  have hd : s.safeDemand = true := by simp [State.safeDemand, Saf.func_of_internal hi]
  simp [State.checkInternal, hg, hd]

theorem State.resetDue_of_outside {s u : State} (h : u.outside = s.outside) : u.eng.resetDue = s.eng.resetDue :=
  congrArg (·.2.2.2.2.2.2.2.2.2) h

/-- What follows a command keeps it, when no reset is due. -/
theorem State.settle_sloHeld {b d : Prop} {s : State} (h : ∀ old, (s.settleN 6 old).sloHeld b d) (hr : s.eng.resetDue = none) :
    s.settle.sloHeld b d := by
  unfold State.settle
  extract_lets old
  have h1 := State.sloHeld_congr (State.checkSsgFenced_overvoltages _) (State.checkSsgFenced_posture _) (h old)
  have h2 := State.sloHeld_congr (State.pairUpdate_overvoltages _) (State.pairUpdate_posture _) ((sloHeld_kept b d).settleN 6 old h1)
  rw [State.checkInternal_of_sloHeld h1, State.resetIfDue_none]
  · exact h2
  · refine (State.resetDue_of_outside ?_).trans hr
    simp

/-- BUS_OV is recorded and reacted to: SLO is demanded, and shown by the outputs. -/
theorem State.settleN_busOv {s : State} (h : s.FaultsHandled) (hc : s.hasCond 0xE1 0 = false) (hl : s.eng.leaving = false)
    (old : List (BitVec 32)) : ((s.raise 0xE1 0).settleN 6 old).sloHeld s.eng.st.demandable (s.saf.func ≠ some .slo) := by
  have hsev : s.flt.sevOf 0xE1 = 3 := s.flt.sevOf_critical (by decide)
  have hr : s.raise 0xE1 0 = s.onFlt fun f =>
      { f with newFaults := f.newFaults ++ [{ src := 0xE1, detail := 0, injected := false, react := true }]
               conds := { src := 0xE1, detail := 0, injected := false, react := true, sev := f.sevOf 0xE1 } ::
                 f.conds.filter fun c => !(c.src == 0xE1 && c.detail == 0 && !c.injected) } := by
    simp [State.raise, hc]
  have hn : (s.raise 0xE1 0).flt.newFaults = [{ src := 0xE1, detail := 0, injected := false, react := true }] := by
    rw [hr]; simp [State.onFlt, h]
  rw [State.settleN_one hn]
  refine (sloHeld_kept _ _).settleN 5 old ?_
  have hv : (s.raise 0xE1 0).flt.sevOf 0xE1 = 3 := Flt.sevOf_critical _ (by decide)
  simp only [hv]
  have hk : KeptBySettling fun t => busOvCond ∈ t.overvoltages ∧ (s.saf.func ≠ some .slo → t.sloShown) ∧ (s.eng.st.demandable → t.safeAhead) :=
    (mem_overvoltages_kept _).and ((sloShown_kept.imp _).and (safeAhead_kept.imp _))
  have hp : ((s.raise 0xE1 0).onFlt fun f => { f with newFaults := [] }).posture = s.posture := by simp
  obtain ⟨hm, ho, ha⟩ := hk.record (s := (s.raise 0xE1 0).onFlt fun f => { f with newFaults := [] }) old
    { src := 0xE1, detail := 0, injected := false, react := true } 3 ⟨by
      rw [hr]; simp [State.overvoltages, State.onFlt, busOvCond, hsev],
      fun hne hf => absurd ((congrArg Saf.func (State.saf_of_posture hp)).symm.trans hf) hne,
      fun hd => .inr (by rw [State.eng_of_posture hp]; exact ⟨hl, hd⟩)⟩
  rw [State.react_critical _ rfl, if_neg (by decide)]
  exact ⟨by rwa [State.addCause_overvoltages], State.addCause_internal _, fun hne => State.addCause_sloShown _ _ (ho hne),
    fun hd => State.addCause_of_safeAhead _ _ (ha hd)⟩

/-! ### The logic die runs on until a reset that is due -/

theorem State.running_of_st {s u : State} (h : u.eng.st = s.eng.st) : u.running = s.running := by simp only [State.running, h]

theorem running_kept : KeptBySettling fun s => s.running = true := by
  refine .of_posture (Q := fun p => (p.1.st != .off && p.1.st != .standby) = true) (fun s u h => ?_) (fun s h => ?_)
  · simpa [State.posture] using h
  · rcases s.addCause_st .internal .slo with hs | hs
    · simp [State.posture, hs]
    · simpa only [State.posture, hs] using h

@[simp] theorem State.releaseOutputs_eng (s : State) : s.releaseOutputs.eng = s.eng := by
  unfold State.releaseOutputs; split <;> simp

@[simp] theorem State.reportProg_eng (s : State) : s.reportProg.eng = s.eng := State.eng_of_posture s.reportProg_posture

@[simp] theorem State.enterJoin_st (s : State) : s.enterJoin.eng.st = .join := by
  unfold State.enterJoin; dsimp only; repeat' split
  all_goals simp [State.onEng]

theorem State.exitSafe_st (s : State) : s.exitSafe.eng.st ∈ [s.eng.st, .service, .dark, .join] := by
  unfold State.exitSafe; dsimp only; repeat' split
  all_goals simp [State.askZeroFrame]

theorem State.exitSafe_running {s : State} (h : s.running = true) : s.exitSafe.running = true := by
  have := s.exitSafe_st
  simp only [List.mem_cons, List.not_mem_nil, or_false] at this
  rcases this with hs | hs | hs | hs <;> simp_all [State.running]

theorem State.clearCauses_running {s : State} (p) (h : s.running = true) : (s.clearCauses p).running = true := by
  unfold State.clearCauses; dsimp only; repeat' split
  · exact h
  · exact h
  · exact (State.running_of_st (by simp)).trans h
  · exact State.exitSafe_running ((State.running_of_st (by simp)).trans h)

theorem State.checkInternal_running {s : State} (h : s.running = true) : s.checkInternal.running = true := by
  have h1 : (if s.saf.internal.isSome && s.internalGone then s.clearCauses (· == .internal) else s).running = true := by
    split
    · exact State.clearCauses_running _ h
    · exact h
  rw [State.checkInternal]
  generalize (if s.saf.internal.isSome && s.internalGone then s.clearCauses (· == .internal) else s) = s1 at h1 ⊢
  split
  · exact State.exitSafe_running h1
  · exact h1

/-- The supply’s reset, as the power die performs it on a running logic die (R489). -/
theorem State.holdReset_running {s : State} (h : s.running = true) (c : RstCause) :
    s.holdReset c = s.logicReset.onPwr fun p => { p with cause := c, others := 0, resets := inc 16 p.resets, sameCycle := true } :=
  if_pos h

@[simp] theorem State.logicReset_eng (s : State) : s.logicReset.eng = { st := .standby } := rfl
@[simp] theorem State.logicReset_flt (s : State) : s.logicReset.flt = State.reset.flt := rfl
@[simp] theorem State.logicReset_saf (s : State) : s.logicReset.saf = s.saf.keep := rfl
@[simp] theorem State.logicReset_flash (s : State) : s.logicReset.flash = s.flash := rfl
@[simp] theorem State.logicReset_dram (s : State) : s.logicReset.dram = s.dram := rfl
@[simp] theorem State.logicReset_pending (s : State) : s.logicReset.pending = s.pending := rfl
@[simp] theorem State.logicReset_pwr (s : State) : s.logicReset.pwr =
    { s.pwr with logicHeld := true, bootMs := 0, joinMs := 0, rootLock := false, refOk := false, hkOk := true, noNewStore := false,
                 holdThermal := true } := rfl

/-- A reset of cause SUPPLY that is due holds the logic die in STANDBY; the power die keeps the rest of its state, and the flash stays. -/
theorem State.settle_supply {s : State} (hd : s.eng.resetDue = some .supply) (hr : s.running = true) :
    s.settle.eng.st = .standby ∧ s.settle.pwr.hsw = s.pwr.hsw ∧ s.settle.pwr.cause = .supply ∧ s.settle.pwr.logicHeld = true ∧
      s.settle.flash = s.flash := by
  unfold State.settle
  extract_lets old
  set u := (((s.settleN 6 old).checkSsgFenced.checkInternal.settleN 6 old).pairUpdate) with hu
  have ho : u.outside = s.outside := by simp [hu]
  have hur : u.running = true := by
    refine (State.running_of_st (congrArg (·.1.st) (State.pairUpdate_posture _))).trans (running_kept.settleN 6 old ?_)
    refine State.checkInternal_running ((State.running_of_st (congrArg (·.1.st) (State.checkSsgFenced_posture _))).trans ?_)
    exact running_kept.settleN 6 old hr
  have hpwr : u.pwr = s.pwr := congrArg (·.2.1) ho
  have hflash : u.flash = s.flash := congrArg (·.2.2.2.2.2.2.2.1) ho
  have hdue : u.eng.resetDue = some .supply := (State.resetDue_of_outside ho).trans hd
  have hrun : (u.onEng fun e => { e with resetDue := none }).running = true := hur
  rw [State.resetIfDue]; simp only [hdue]
  rw [State.holdReset_running hrun]
  simp [State.dropSupplies, State.onPwr, State.onEng, hpwr, hflash]

/-! ### Commands that change the power die alone, or hold the logic die in reset -/

theorem done_onPwr {s : State} (h : s.Calm) (f : Pwr → Pwr) :
    ∃ u, done (s.onPwr f) = .next u ∧ u.pwr = f s.pwr ∧ u = { s with pwr := u.pwr, flt := u.flt } ∧ NoNewFault s u := by
  obtain ⟨u, hu, hn, he⟩ := done_calm (s.onPwr f) h
  exact ⟨u, hu, by rw [he]; rfl, by rw [he]; rfl, hn⟩

/-- The tile without its housekeeping supply (R475). -/
def State.unpowered (s : State) : State :=
  { s.logicReset with
    eng := { st := .off }
    saf := { ({} : Saf) with strapsNow := s.saf.strapsNow }
    pwr := { ({} : Pwr) with
      present := s.pwr.present, hsw := .gateOff, auxEn0 := false, auxEn1 := false, coreEn := false, auxPg0 := false, auxPg1 := false
      corePg := false, sequenced := false, hkOk := false, logicHeld := true, cause := .none, resets := 0, attempts := 0
      sealHigh := s.pwr.sealHigh } }

/-- The hot-swap controller has tripped from ON; its supplies have not followed yet. -/
def State.tripping (s : State) (d : Nat) : State := s.onPwr fun p => { p.trip d with trips := inc 8 p.trips }

theorem State.tripOn_eq (s : State) (d : Nat) : s.tripOn d = ((s.tripping d).holdReset .supply).dropSupplies := rfl

theorem State.tripping_running (s : State) (d : Nat) : (s.tripping d).running = s.running := rfl

/-- Up to eight trips are held for the next BOOT. -/
theorem heldTrips_trip {p : Pwr} (h : p.heldTrips.length < 8) (d : Nat) : (p.trip d).heldTrips = p.heldTrips ++ [d] :=
  List.take_of_length_le (by simp; omega)

/-- A command that leads to the result of `done` completes as `done` does. -/
theorem Completes.of_done {c : Instr} {s t : State} {p : State → Prop} (he : exec c s = done t) (h : ∃ u, done t = .next u ∧ p u) :
    Completes c s p := by
  obtain ⟨u, hu, hp⟩ := h
  exact ⟨u, he.trans hu, hp⟩

/-- A trip from ON while the logic die runs. -/
theorem State.tripOn_running {s : State} (hr : s.running = true) (d : Nat) : ∃ u, done (s.tripOn d) = .next u ∧
    u.pwr.hsw = .tripped ∧ u.pwr.cooldownOver = false ∧ u.pwr.trips = min 255 (s.pwr.trips + 1) ∧ u.pwr.cause = .supply ∧
      u.eng.st = .standby ∧ u.flash = s.flash ∧ u.dram = s.dram ∧
      (s.pwr.heldTrips.length < 8 → u.pwr.heldTrips = s.pwr.heldTrips ++ [d]) := by
  have he : s.tripOn d = ((s.tripping d).logicReset.onPwr fun p =>
      { p with cause := .supply, others := 0, resets := inc 16 p.resets, sameCycle := true }).dropSupplies := by
    rw [State.tripOn_eq, State.holdReset_running ((s.tripping_running d).trans hr)]
  have hc : (s.tripOn d).Calm := by
    rw [he]
    exact ⟨rfl, rfl, rfl, fun h => absurd h (by simp [State.dropSupplies, State.onPwr])⟩
  obtain ⟨u, hu, -, hs⟩ := done_calm (s.tripOn d) hc
  rw [he] at hs
  have hp : u.pwr.trips = min (s.pwr.trips + 1) 255 := by rw [hs]; rfl
  have hh : u.pwr.heldTrips = (s.pwr.trip d).heldTrips := by rw [hs]; rfl
  exact ⟨u, hu, by rw [hs]; rfl, by rw [hs]; rfl, hp.trans (Nat.min_comm _ _), by rw [hs]; rfl, by rw [hs]; rfl, by rw [hs]; rfl,
    by rw [hs]; rfl, fun h => hh.trans (heldTrips_trip h d)⟩

/-- A trip from ON in STANDBY: no second reset. -/
theorem State.tripOn_held {s : State} (h : s.Calm) (hr : s.running = false) (d : Nat) : ∃ u, done (s.tripOn d) = .next u ∧
    u.pwr.hsw = .tripped ∧ u.pwr.cooldownOver = false ∧ u.pwr.trips = min 255 (s.pwr.trips + 1) ∧ u.pwr.sequenced = false ∧
      u.pwr.resets = s.pwr.resets ∧ u = { s with pwr := u.pwr, flt := u.flt } ∧ NoNewFault s u := by
  have hal : ∀ p : Pwr, (p.alsoReset .supply).hsw = p.hsw ∧ (p.alsoReset .supply).cooldownOver = p.cooldownOver ∧
      (p.alsoReset .supply).trips = p.trips ∧ (p.alsoReset .supply).resets = p.resets := fun p => by
    unfold Pwr.alsoReset; repeat' split
    all_goals exact ⟨rfl, rfl, rfl, rfl⟩
  have hrun : ¬ (s.tripping d).running = true := by rw [s.tripping_running, hr]; decide
  obtain ⟨f, hf, hw, hcd, ht, hq, hrs⟩ : ∃ f : Pwr → Pwr, s.tripOn d = s.onPwr f ∧ (f s.pwr).hsw = .tripped ∧
      (f s.pwr).cooldownOver = false ∧ (f s.pwr).trips = min 255 (s.pwr.trips + 1) ∧ (f s.pwr).sequenced = false ∧
      (f s.pwr).resets = s.pwr.resets := by
    rw [State.tripOn_eq, State.holdReset, if_neg hrun]
    split
    · obtain ⟨hw, hcd, ht, hrs⟩ := hal (s.tripping d).pwr
      exact ⟨fun _ => (((s.tripping d).onPwr (·.alsoReset .supply)).dropSupplies).pwr, rfl, hw, hcd, ht.trans (Nat.min_comm _ _), rfl, hrs⟩
    · exact ⟨fun _ => (s.tripping d).dropSupplies.pwr, rfl, rfl, rfl, Nat.min_comm _ _, rfl, rfl⟩
  obtain ⟨u, hu, hp, hs, hn⟩ := done_onPwr h f
  rw [hf]
  exact ⟨u, hu, hp ▸ hw, hp ▸ hcd, hp ▸ ht, hp ▸ hq, hp ▸ hrs, hs, hn⟩

end Sys2Proof.Machine

open Sys2Proof Sys2Proof.Machine

/-- Settles O1: most commands change the power die alone or leave a state in which nothing follows; BUS_UV waits for its reset until its
fault has been reacted to, and BUS_OV is followed to its demand for SLO. -/
theorem powerEntryCompletes : Obligations.PowerEntryCompletes := by
  unfold Obligations.PowerEntryCompletes
  refine ⟨fun s h hoff => ?_, fun s h hon => ?_, fun s h hg hc ho hd => ?_, fun s ms h hi hh => ?_, fun s h hi hh => ?_, fun s h hon hr => ?_,
    fun s h hon hr => ?_, fun s h hon hr => ?_, fun s h hon hr => ?_, fun s h hr => ?_, fun s h hst => ?_, fun s h hc => ?_,
    fun s h hr hc hl => ?_⟩
  · refine .of_done (if_neg (by simp [hoff])) ?_
    obtain ⟨u, hu, hn, hs⟩ := done_calm ((s.onEng fun e => { e with st := .standby }).onPwr fun p =>
      { p with hkOk := true, cause := .powerOn, others := 0, resets := 1, logicHeld := true, holdThermal := true, sameCycle := true })
      ⟨h.1, h.2.1, h.2.2.1, fun he => absurd he (by simp [State.onEng, State.onPwr])⟩
    exact ⟨u, hu, by rw [hs]; rfl, by rw [hs]; rfl, by rw [hs]; rfl, hn⟩
  · refine .of_done (if_neg (by simp [hon])) ?_
    obtain ⟨u, hu, -, hs⟩ := done_calm s.unpowered ⟨rfl, rfl, rfl, fun he => absurd he (by simp [State.unpowered])⟩
    refine ⟨u, hu, ?_⟩
    rw [hs]; exact ⟨rfl, rfl, rfl, rfl, rfl, rfl, ⟨rfl, rfl, rfl, rfl⟩, rfl, rfl, rfl⟩
  · refine .of_done (if_pos (by simp [hg, hc, ho, hd])) ?_
    obtain ⟨u, hu, hp, hs, hn⟩ := done_onPwr h fun p => { p with hsw := .inrush, present := true, attempts := inc 16 p.attempts }
    refine ⟨u, hu, ?_, hs, hn⟩
    rw [hp]; simp [inc, sat, Nat.min_comm]
  · refine .of_done (if_pos (by simp [hi, hh])) ?_
    obtain ⟨u, hu, hp, hs, hn⟩ := done_onPwr h fun p => { p with hsw := .on, inrushMs := ms.toNat, auxEn0 := p.auxEn0 || !p.shutdownPending }
    exact ⟨u, hu, hp, hs, hn⟩
  · refine .of_done (if_pos (by simp [hi, hh])) ?_
    obtain ⟨u, hu, hp, hs, hn⟩ := done_onPwr h fun p => { p.trip 0 with inrushFails := inc 8 p.inrushFails }
    refine ⟨u, hu, by rw [hp]; rfl, by rw [hp]; rfl, ?_, fun hl => ?_, hs, hn⟩
    · rw [hp]; exact Nat.min_comm _ _
    · rw [hp]; exact heldTrips_trip hl 0
  · exact .of_done (if_pos (by simp [hon])) (State.tripOn_running hr 1)
  · obtain ⟨u, hu, hw, hcd, ht, hq, hrs, hs, hn⟩ := State.tripOn_held h hr 1
    exact .of_done (if_pos (by simp [hon])) ⟨u, hu, hw, hcd, ht, hq, hrs, hs, hn⟩
  · exact .of_done (if_pos (by simp [hon])) (State.tripOn_running hr 2)
  · exact .of_done (if_pos (by simp [hon])) (State.tripOn_held h hr 2)
  · have hst : ¬ (s.eng.st == .off) = true := fun he => by simp_all [State.running]
    refine .of_done ((if_neg hst).trans (congrArg done (if_pos hr))) ⟨_, rfl, ?_⟩
    obtain ⟨h1, h2, h3, h4, h5⟩ := State.settle_supply (s := ((s.onPwr fun p => { p with hsw := .gateOff }).resetWith .supply).raise 0xE0 0)
      (congrArg Eng.resetDue (State.eng_of_posture (State.raise_posture _ _ _)))
      ((State.running_of_st (congrArg Eng.st (State.eng_of_posture (State.raise_posture _ _ _)))).trans hr)
    have ho := State.raise_outside ((s.onPwr fun p => { p with hsw := .gateOff }).resetWith .supply) 0xE0 0
    exact ⟨h1, h2.trans (congrArg (·.2.1.hsw) ho), h3, h4, h5.trans (congrArg (·.2.2.2.2.2.2.2.1) ho)⟩
  · have hr : ¬ s.running = true := by simp [State.running, hst]
    refine .of_done ((if_neg (by simp [hst])).trans (congrArg done (if_neg hr))) ?_
    obtain ⟨u, hu, hp, hs, hn⟩ := done_onPwr h fun p =>
      { p with hsw := .gateOff, shutdownPending := p.auxEn0 || p.auxEn1 || p.coreEn, sequenced := false }
    exact ⟨u, hu, hp, hs, hn⟩
  · refine .of_done (if_neg (by simp [hc])) ?_
    obtain ⟨u, hu, hp, hs, hn⟩ := done_onPwr h fun p => { p with cooldownOver := true, hsw := if p.hsw == .tripped then .gateOff else p.hsw }
    exact ⟨u, hu, hp.trans (by simp), hs, hn⟩
  · refine .of_done (if_pos hr) ⟨_, rfl, ?_⟩
    have hdue : (s.raise 0xE1 0).eng.resetDue = none := (congrArg Eng.resetDue (State.eng_of_posture (s.raise_posture _ _))).trans h.2.1
    obtain ⟨hcond, hint, hout, hsafe⟩ := State.settle_sloHeld (State.settleN_busOv h.1 hc hl) hdue
    refine ⟨?_, hint, ?_, fun hin => hsafe ?_, fun hne => hout hne (Saf.func_of_internal hint)⟩
    · exact State.hasCond_of_overvoltages hcond
    · exact (State.settle_pwr (s.raise 0xE1 0) hdue).trans (s.raise_pwr 0xE1 0)
    · simp only [List.mem_cons, List.not_mem_nil, or_false] at hin
      rcases hin with h | h | h | h <;> simp [EngState.demandable, h]

end

section
/-!
The accesses that commands make (R241 to R258): what becomes of a command that the service port takes, and what PING, READ and WRITE then do.
-/

namespace Sys2Proof.Machine

/-! ### A command that the service port takes -/

/-- The service port once it has taken a command: the reply before it is gone (R241). -/
def State.svcOpened (s : State) : State := s.onCmd fun c => { c with svcReply := none, svcRead := false }

/-- The checks of R253 that a command’s own fields decide all pass. -/
def OpBody.Sound (b : OpBody) : Prop := b.lenOk = true ∧ b.restricted = stOk ∧ b.ready = true ∧ b.signed = false ∧ b.sigOk = true ∧ b.fenced = false

section
variable {s : State} {q : CmdReq} {op : Byte} {r : OpRule} {b : OpBody}

/-- All checks pass on the service port (R253). -/
theorem State.checks2to8_service (h : SvcTakes s q op.toNat) (hr : opRule op.toNat = some r) (hb : b.Sound) :
    s.svcOpened.checks2to8 r q b = (stOk, s.svcOpened) := by
  obtain ⟨hport, -, -, -, -, hflags, hzero, hlen, hmax, hrec, hlegal⟩ := h
  obtain ⟨hlen', hrestr, hready, hsigned, hsig, hfenced⟩ := hb
  have hst : s.svcOpened.eng.st ∈ r.legal := by
    have : r.legal.contains s.eng.st = true := by rwa [State.legal, hr] at hlegal
    exact List.contains_iff_mem.mp this
  have hrc : s.svcOpened.recovery = false := hrec
  simp [State.checks2to8, hport, hrestr, hflags, hzero, hlen, Nat.not_lt.mpr hmax, hlen', hsigned, hsig, hrc, hst, hready, hfenced]

/-- The command goes to its unit. -/
theorem State.runCmd_service (h : SvcTakes s q op.toNat) (hr : opRule op.toNat = some r) (hb : b.Sound) (unit : State → UnitAnswer) :
    s.runCmd op q b unit = match unit (s.svcOpened.accept q op false) with
      | (none, t) => done t
      | (some (st, res), t) =>
        if st = stOk then done (t.reply (cmdOut q op) st res false)
        else done ((s.svcOpened.onFlt fun _ => t.flt).answerTo (cmdOut q op) st res true) := by
  have hc := State.checks2to8_service h hr hb
  obtain ⟨hport, hrun, hseal, hbusy, hcopy, -⟩ := h
  have hcp : s.svcOpened.copyOf q = none := hcopy
  have ho : (s.svcOpened.cmd.outstanding.filter fun o => o.port == .service) = [] := by
    simpa [State.svcBusy, State.svcOpened, State.onCmd] using hbusy
  have ha : s.arrives q = true := by simp [State.arrives, hport, hrun, hseal]
  rw [State.runCmd, hr]
  have hok : stOk ≠ stBadTag := by decide
  simp only [ha, hport, hbusy, ← State.svcOpened.eq_1, Bool.not_true, Bool.false_eq_true, if_false, Bool.and_false, BEq.rfl, if_true]
  simp only [hcp, hc, ho]
  simp [hok] <;> rfl

@[simp] theorem State.accept_flt (t : State) (b : Bool) : (t.accept q op b).flt = t.flt := by
  unfold State.accept; dsimp only; split <;> rfl

/-- A reply on the service port touches the command registers alone. -/
theorem State.reply_service (t : State) {o : OutCmd} (h : o.port = .service) (st : Byte) (res : List Byte) (keep : Bool) :
    t.reply o st res keep = { t with cmd := (t.reply o st res keep).cmd } := by
  simp [State.reply, State.sendReply, h, State.onCmd]

/-- So does an answer. -/
theorem State.answerTo_service (t : State) {o : OutCmd} (h : o.port = .service) (st : Byte) (res : List Byte) (keep : Bool) :
    t.answerTo o st res keep = { t with cmd := (t.answerTo o st res keep).cmd } := by
  simp [State.answerTo, State.sendReply, h, State.onCmd]

theorem State.replyOf_parts (t : State) {o : OutCmd} (st : Byte) (res : List Byte) (keep : Bool) :
    ((t.replyOf o st res keep).map fun b => (b.take 6, b.drop 7)) = if o.quiet = true ∧ st = stOk then none
      else some ([o.opcode, st] ++ leBytes 2 o.cmdId.toNat ++ leBytes 2 (if st = stOk || keep then res else []).length,
        0 :: (if st = stOk || keep then res else [])) := by
  unfold State.replyOf; split
  · next h =>
    have hc : o.quiet = true ∧ st = stOk := by simpa using h
    rw [if_pos hc]; rfl
  · next h =>
    have hc : ¬ (o.quiet = true ∧ st = stOk) := by simpa using h
    rw [if_neg hc]; rfl

/-- From `c` to `d` the command registers record that a command was replied to on the service port (R244, R256, R258). -/
structure Closed (c d : Cmd) (o : OutCmd) (st : Byte) (res : List Byte) : Prop where
  /-- CMD_LAST -/
  last : (d.lastOp, d.lastStatus, d.lastPort) =
    if o.quiet = true ∧ st = 0 then (c.lastOp, c.lastStatus, c.lastPort) else (o.opcode, st, cmdPortNo o.port)
  /-- nothing of the reply has been read -/
  read : d.svcRead = false
  /-- CMD_ACCEPTED -/
  accepted : d.accepted = if st = 0 then min 65535 (c.accepted + 1) else c.accepted
  /-- CMD_REFUSED -/
  refused : d.refused = if st = 0 then c.refused else min 65535 (c.refused + 1)
  /-- the reply, its STATE left open -/
  reply : (d.svcReply.map fun b => (b.take 6, b.drop 7)) = if o.quiet = true ∧ st = 0 then none
    else some ([o.opcode, st] ++ leBytes 2 o.cmdId.toNat ++ leBytes 2 res.length, 0 :: res)

/-- The counters and CMD_LAST, as every reply records them. -/
theorem Closed.of_count {c d : Cmd} {o : OutCmd} {st : Byte} {res : List Byte} {t : State} {keep : Bool}
    (hr : d.svcReply = t.replyOf o st res keep) (hread : d.svcRead = false) (hacc : d.accepted = (c.count o st).accepted)
    (href : d.refused = (c.count o st).refused) (hop : d.lastOp = (c.count o st).lastOp) (hst : d.lastStatus = (c.count o st).lastStatus)
    (hport : d.lastPort = (c.count o st).lastPort) : Closed c d o st (if st = stOk || keep then res else []) where
  last := by
    rw [hop, hst, hport]; by_cases hq : o.quiet = true <;> by_cases hs : st = 0#8 <;> simp [Cmd.count, stOk, hq, hs]
  read := hread
  accepted := by rw [hacc]; by_cases h : st = 0#8 <;> simp [h, Cmd.count, stOk, inc, sat, Nat.min_comm]
  refused := by rw [href]; by_cases h : st = 0#8 <;> simp [h, Cmd.count, stOk, inc, sat, Nat.min_comm]
  reply := by rw [hr, t.replyOf_parts]; rfl

theorem State.reply_closed (t : State) {o : OutCmd} (h : o.port = .service) (st : Byte) (res : List Byte) (keep : Bool) :
    Closed t.cmd (t.reply o st res keep).cmd o st (if st = stOk || keep then res else []) ∧
      (t.reply o st res keep).cmd.outstanding = t.cmd.outstanding.erase o := by
  unfold State.reply State.sendReply; rw [h]
  exact ⟨.of_count rfl rfl rfl rfl rfl rfl rfl, rfl⟩

theorem State.answerTo_closed (t : State) {o : OutCmd} (h : o.port = .service) (st : Byte) (res : List Byte) (keep : Bool) :
    Closed t.cmd (t.answerTo o st res keep).cmd o st (if st = stOk || keep then res else []) ∧
      (t.answerTo o st res keep).cmd.outstanding = t.cmd.outstanding := by
  unfold State.answerTo State.sendReply; rw [h]
  exact ⟨.of_count rfl rfl rfl rfl rfl rfl rfl, rfl⟩

/-- What `Answered` asks of the command registers. -/
theorem answered_of_closed {u : State} {st : Byte} {res : List Byte} {c : Cmd} (hp : q.port = .service)
    (hc : (c.lastOp, c.lastStatus, c.lastPort, c.accepted, c.refused) =
      (s.cmd.lastOp, s.cmd.lastStatus, s.cmd.lastPort, s.cmd.accepted, s.cmd.refused))
    (h : Closed c u.cmd (cmdOut q op) st res) (ho : u.cmd.outstanding = s.cmd.outstanding) : Answered s u q op st res := by
  obtain ⟨h1, h2, h3, h4, h5⟩ := h
  simp only [Prod.mk.injEq] at hc
  obtain ⟨e1, e2, e3, e4, e5⟩ := hc
  simp only [e1, e2, e3, e4, e5] at h1 h3 h4
  have hport : cmdPortNo (cmdOut q op).port = 2 := by rw [show (cmdOut q op).port = .service from hp]; rfl
  rw [hport] at h1
  exact ⟨h1, ho, h2, h3, h4, h5⟩

/-- A calm state stays calm when the command registers change. -/
theorem State.Calm.of_cmd {t u : State} (h : t.Calm) (he : u = { t with cmd := u.cmd }) : u.Calm := by
  rw [he]; exact h

theorem not_mem_outstanding (hp : q.port = .service) (hb : s.svcBusy = false) : cmdOut q op ∉ s.cmd.outstanding := by
  intro hm
  have : s.svcBusy = true := List.any_eq_true.mpr ⟨_, hm, by simp [cmdOut, hp]⟩
  simp [this] at hb

/-- A command whose unit answers OK is replied to with its result. -/
theorem State.runCmd_ok (h : SvcTakes s q op.toNat) (hr : opRule op.toNat = some r) (hb : b.Sound) {unit : State → UnitAnswer} {t : State}
    {res : List Byte} (hu : unit (s.svcOpened.accept q op false) = (some (stOk, res), t)) (ht : t.cmd = (s.svcOpened.accept q op false).cmd)
    (hc : t.Calm) : ∃ u, s.runCmd op q b unit = .next u ∧ Answered s u q op 0 res ∧ u = { t with cmd := u.cmd, flt := u.flt } ∧ NoNewFault t u := by
  have hrun := State.runCmd_service h hr hb unit
  rw [hu] at hrun
  obtain ⟨hport, -, -, hbusy, -⟩ := h
  have hs := t.reply_service (o := cmdOut q op) hport stOk res false
  obtain ⟨u, hdone, hn, he⟩ := done_calm (t.reply (cmdOut q op) stOk res false) (hc.of_cmd hs)
  have hcmd : u.cmd = (t.reply (cmdOut q op) stOk res false).cmd := by rw [he]
  have hout : (s.cmd.outstanding ++ [cmdOut q op]).erase (cmdOut q op) = s.cmd.outstanding := by
    rw [List.erase_append_right _ (not_mem_outstanding hport hbusy)]; simp
  refine ⟨u, hrun.trans hdone, ?_, ?_, ?_⟩
  · obtain ⟨hcl, ho⟩ := t.reply_closed (o := cmdOut q op) hport stOk res false
    rw [← hcmd] at hcl ho
    refine answered_of_closed hport (by rw [ht]; rfl) hcl (ho.trans ?_)
    rw [ht]; exact hout
  · rw [he, hs]
  · rw [hs] at hn; exact hn

/-- A command that its unit refuses is replied to with the status, and nothing else happens. -/
theorem State.runCmd_no (h : SvcTakes s q op.toNat) (hr : opRule op.toNat = some r) (hb : b.Sound) {unit : State → UnitAnswer} {t : State}
    {st : Byte} (hst : st ≠ stOk) (hu : unit (s.svcOpened.accept q op false) = (some (st, []), t)) (ht : t.flt = s.flt)
    (hc : s.Calm) : ∃ u, s.runCmd op q b unit = .next u ∧ Answered s u q op st [] ∧ u = { s with cmd := u.cmd, flt := u.flt } ∧ NoNewFault s u := by
  have hrun := State.runCmd_service h hr hb unit
  rw [hu] at hrun
  obtain ⟨hport, -⟩ := h
  have hsf : (s.svcOpened.onFlt fun _ => t.flt) = s.svcOpened := by rw [ht]; rfl
  have hrun : s.runCmd op q b unit = done (s.svcOpened.answerTo (cmdOut q op) st [] true) :=
    hrun.trans ((if_neg hst).trans (by rw [hsf]))
  have hs := s.svcOpened.answerTo_service (o := cmdOut q op) hport st [] true
  obtain ⟨u, hdone, hn, he⟩ := done_calm (s.svcOpened.answerTo (cmdOut q op) st [] true) (State.Calm.of_cmd (t := s.svcOpened) hc hs)
  have hcmd : u.cmd = (s.svcOpened.answerTo (cmdOut q op) st [] true).cmd := by rw [he]
  refine ⟨u, hrun.trans hdone, ?_, ?_, ?_⟩
  · obtain ⟨hcl, ho⟩ := s.svcOpened.answerTo_closed (o := cmdOut q op) hport st [] true
    rw [← hcmd] at hcl ho
    rw [ite_self] at hcl
    exact answered_of_closed (s := s) (c := s.svcOpened.cmd) hport rfl hcl ho
  · rw [he, hs]; rfl
  · rw [hs] at hn; exact hn

end

/-! ### Frames that the tile originates (R291 to R298) -/

/-- HCRC takes the last two bytes of a header alone. -/
theorem fixHcrc_mod (h : BitVec 128) : (fixHcrc h).toNat % 2 ^ 112 = h.toNat % 2 ^ 112 := by
  have hv := h.isLt
  simp only [fixHcrc, setBits128, bits128, BitVec.toNat_ofNat, Nat.shiftRight_eq_div_pow]
  generalize hcrcOf h = x
  omega

/-- The header before its HCRC. -/
def plainWord (dest src typ ctx seq len : Nat) : Nat :=
  dest % 4096 + src % 4096 * 2 ^ 12 + typ % 256 * 2 ^ 24 + (classOf typ).getD 0 * 2 ^ 32 + ctx % 256 * 2 ^ 48 + seq % 2 ^ 32 * 2 ^ 64
    + len % 2 ^ 14 * 2 ^ 96

theorem mkHdr_mod (dest src typ ctx seq len : Nat) : (mkHdr dest src typ ctx seq len).toNat % 2 ^ 112 = plainWord dest src typ ctx seq len % 2 ^ 112 := by
  rw [mkHdr, fixHcrc_mod, BitVec.toNat_ofNat, Nat.mod_mod_of_dvd _ (by decide)]; rfl

theorem hDest_mkHdr (dest src typ ctx seq len : Nat) : hDest (mkHdr dest src typ ctx seq len) = dest % 4096 := by
  have h := mkHdr_mod dest src typ ctx seq len
  simp only [hDest, bits128, Nat.shiftRight_eq_div_pow]
  unfold plainWord at h; omega

theorem hType_mkHdr (dest src typ ctx seq len : Nat) : hType (mkHdr dest src typ ctx seq len) = typ % 256 := by
  have h := mkHdr_mod dest src typ ctx seq len
  simp only [hType, bits128, Nat.shiftRight_eq_div_pow]
  unfold plainWord at h; omega

@[simp] theorem State.ownFrame_link (s : State) (dest typ : Nat) (payload : List Byte) (p : Port) :
    (s.ownFrame dest typ payload).2.link p = s.link p := by cases p <;> rfl

/-- A unicast leaves on the port that the tile map names, when that port is ACTIVE. -/
theorem State.originate_active {s : State} {dest : Nat} (hd : dest ≠ 0xFFF) (ha : s.active (s.outPort dest) = true) (typ : Nat)
    (payload : List Byte) : s.originate dest typ payload =
      (s.ownFrame dest typ payload).2.sendFrame (s.outPort dest) (s.ownFrame dest typ payload).1 false false := by
  have hp : (s.ownFrame dest typ payload).2.outPort dest = s.outPort dest := rfl
  have ha' : (s.ownFrame dest typ payload).2.active (s.outPort dest) = true := by rwa [State.active, State.ownFrame_link]
  simp only [State.originate, hd, if_false, hp, ha', if_true]

/-- A frame of class 2 that finds an empty egress buffer is the one frame in it; the other port is not concerned. -/
theorem State.sendFrame_empty {s : State} {p : Port} (ha : s.active p = true) (hq : (s.link p).queue = []) {f : Frame}
    (hc : classOf (hType f.hdr) = some 2) (hl : f.payload.length ≤ 9216) :
    ((s.sendFrame p f false false).link p).queue.map (·.frame) = [f] ∧
      (s.sendFrame p f false false).link (otherPort p) = s.link (otherPort p) := by
  have hst : (s.link p).st = .active := by simpa [State.active] using ha
  have hfit : qFits [] 2 (20 + f.payload.length) = true := by
    have h1 : 20 + f.payload.length ≤ 262144 := by omega
    have h2 : 20 + f.payload.length + 16384 + 16384 ≤ 524288 := by omega
    simp [qFits, queueBytes, h1, h2]
  simp [State.sendFrame, State.enqueue, hst, hq, hc, hfit, queueIn]

/-- Sending touches nothing but the port. -/
theorem State.sendFrame_frame (s : State) (p : Port) (f : Frame) (a b : Bool) :
    s.sendFrame p f a b = { s with linkA := (s.sendFrame p f a b).linkA, linkB := (s.sendFrame p f a b).linkB } := by
  cases p <;> rfl

/-- A reply to a command of wall port A whose sender can be reached (R244): one frame to it. -/
theorem State.sendReply_portA {s : State} {o : OutCmd} (ho : o.port = .a) (hd : o.src ≠ 0xFFF) (ha : s.active (s.outPort o.src.toNat) = true)
    (hq : (s.link (s.outPort o.src.toNat)).queue = []) {b : List Byte} (hl : b.length ≤ 9216) :
    (((s.sendReply o (some b)).link (s.outPort o.src.toNat)).queue.map fun f => (hType f.frame.hdr, hDest f.frame.hdr, f.frame.payload)) =
        [(0x03, o.src.toNat, b)] ∧
      (s.sendReply o (some b)).link (otherPort (s.outPort o.src.toNat)) = s.link (otherPort (s.outPort o.src.toNat)) ∧
      s.sendReply o (some b) = { s with wall := (s.sendReply o (some b)).wall, linkA := (s.sendReply o (some b)).linkA, linkB := (s.sendReply o (some b)).linkB } := by
  have hne : o.src.toNat ≠ 0xFFF := fun h => hd (BitVec.eq_of_toNat_eq h)
  have hs : s.sendReply o (some b) = (s.ownFrame o.src.toNat 0x03 b).2.sendFrame (s.outPort o.src.toNat) (s.ownFrame o.src.toNat 0x03 b).1 false false := by
    rw [State.sendReply, ho]; exact State.originate_active hne ha 0x03 b
  have hty : hType (s.ownFrame o.src.toNat 0x03 b).1.hdr = 0x03 := hType_mkHdr _ _ _ _ _ _
  have hde : hDest (s.ownFrame o.src.toNat 0x03 b).1.hdr = o.src.toNat := (hDest_mkHdr _ _ _ _ _ _).trans (Nat.mod_eq_of_lt o.src.isLt)
  obtain ⟨h1, h2⟩ := State.sendFrame_empty (s := (s.ownFrame o.src.toNat 0x03 b).2) (p := s.outPort o.src.toNat)
    (f := (s.ownFrame o.src.toNat 0x03 b).1) (by rwa [State.active, State.ownFrame_link]) (by rwa [State.ownFrame_link]) (by rw [hty]; rfl) hl
  rw [hs]
  refine ⟨?_, by rw [h2, State.ownFrame_link], ?_⟩
  · have hm : (fun f : QFrame => (hType f.frame.hdr, hDest f.frame.hdr, f.frame.payload)) =
        (fun f : Frame => (hType f.hdr, hDest f.hdr, f.payload)) ∘ QFrame.frame := rfl
    rw [hm, ← List.map_map, h1, List.map_singleton, hty, hde]; rfl
  · have hf := (s.ownFrame o.src.toNat 0x03 b).2.sendFrame_frame (s.outPort o.src.toNat) (s.ownFrame o.src.toNat 0x03 b).1 false false
    generalize (s.ownFrame o.src.toNat 0x03 b).2.sendFrame (s.outPort o.src.toNat) (s.ownFrame o.src.toNat 0x03 b).1 false false = u at hf
    rw [hf]; rfl

/-- A command that was accepted and is replied to, before the reply goes out: it is counted, and no longer outstanding (R249, R258). -/
def State.closing (t : State) (o : OutCmd) (st : Byte) (res : List Byte) (keep : Bool) : State :=
  t.onCmd fun c =>
    { c.count o st with
      outstanding := c.outstanding.erase o
      recent := c.recent.map fun r =>
        if r.port == o.port && r.src == o.src && r.cmdId == o.cmdId && r.session == o.session && r.reply.isNone then
          { r with reply := some ((t.replyOf o st res keep).getD []) }
        else r }

theorem State.reply_eq (t : State) (o : OutCmd) (st : Byte) (res : List Byte) (keep : Bool) :
    t.reply o st res keep = (t.closing o st res keep).sendReply o (t.replyOf o st res keep) := rfl

section
variable {s : State} {q : CmdReq} {op : Byte} {r : OpRule} {b : OpBody} (hp : q.port = .a) (hr : opRule op.toNat = some r)
include hp hr

/-- All checks pass for an untagged unicast command of wall port A (R253). -/
theorem State.checks2to8_portA (hv : r.svcOnly = false) (htag : r.tagged = false) (hop : r.op ≠ 2) (hb : b.Sound) (hd : q.dest ≠ 0xFFF)
    (hflags : q.flags.toNat / 2 = 0) (hzero : q.zero = 0) (hlen : q.argLen.toNat = q.args.length) (hmax : q.args.length ≤ 9200)
    (hrec : s.recovery = false) (hlegal : s.legal op.toNat = true) : s.checks2to8 r q b = (stOk, s) := by
  obtain ⟨hlen', hrestr, hready, hsigned, hsig, hfenced⟩ := hb
  have hst : s.eng.st ∈ r.legal := by
    have : r.legal.contains s.eng.st = true := by rwa [State.legal, hr] at hlegal
    exact List.contains_iff_mem.mp this
  have hd' : ¬ q.dest = 4095#12 := hd
  simp [State.checks2to8, hp, hd', hv, htag, hop, hrestr, hflags, hzero, hlen, Nat.not_lt.mpr hmax, hlen', hsigned, hsig, hrec, hst, hready, hfenced]

/-- An untagged command of wall port A that passes its checks goes to its unit; here the unit answers OK. -/
theorem State.runCmd_portA {unit : State → UnitAnswer} {t : State} {res : List Byte} (htag : r.tagged = false) (hop : r.op ≠ 2)
    (ha : s.arrives q = true) (hcopy : s.copyOf q = none) (hout : (s.cmd.outstanding.filter fun o => o.port == .a) = [])
    (hc : s.checks2to8 r q b = (stOk, s)) (hu : unit (s.accept q op false) = (some (stOk, res), t)) :
    s.runCmd op q b unit = done (t.reply (cmdOut q op) stOk res false) := by
  have hok : stOk ≠ stBadTag := by decide
  rw [State.runCmd, hr]
  simp [ha, hp, hcopy, hc, hout, hok, htag, hop, hu]

end

/-! ### Reading words -/

theorem wordAddrs_succ (a n : Nat) : wordAddrs a (n + 1) = a :: wordAddrs (a + 4) n := by
  simp only [wordAddrs, List.range_succ_eq_map, List.map_cons, List.map_map, Nat.mul_zero, Nat.add_zero]
  congr 1
  exact List.map_congr_left fun k _ => by simp; omega

theorem mem_wordAddrs {a n x : Nat} : x ∈ wordAddrs a n ↔ ∃ k < n, x = a + 4 * k := by
  simp [wordAddrs, eq_comm]

/-- Addresses of one row are read or written together (R219). -/
theorem State.oneRow_of {s : State} {a n : Nat} {r : MapRow} (ha : s.mapRow a = r) (h : ∀ k < n, s.mapRow (a + 4 * k) = r) :
    s.oneRow a n = true := by
  simp only [State.oneRow, List.all_eq_true, mem_wordAddrs, ha]
  rintro x ⟨k, hk, rfl⟩
  simp [h k hk]

/-- Reading words that no read changes gives the words. -/
theorem State.readWords_untouched (s : State) (src : Source) (consume : Bool) (l : List Nat) (h : ∀ x ∈ l, s.touchAt src x consume = s) :
    s.readWords src consume l = (l.map (s.readAt src), s) := by
  induction l with
  | nil => rfl
  | cons a l ih =>
    have ha := h a List.mem_cons_self
    simp [State.readWords, ha, ih fun x hx => h x (List.mem_cons_of_mem a hx)]

section
variable {s : State} {src : Source} {i n : Nat} (h : i + n ≤ 4096)
include h

theorem State.readable_dmems : ((wordAddrs (0x20000 + 4 * i) n).all fun x => s.readable src x) = true := by
  simp only [List.all_eq_true, mem_wordAddrs]
  rintro x ⟨k, hk, rfl⟩
  exact s.readable_dmem src (i := i + k) (by omega) (by omega)

theorem State.oneRow_dmems (hn : 1 ≤ n) : s.oneRow (0x20000 + 4 * i) n = true :=
  State.oneRow_of (s.mapRow_dmem (i := i) (by omega) rfl) fun k hk => s.mapRow_dmem (i := i + k) (by omega) (by omega)

theorem State.readWords_dmems (consume : Bool) :
    s.readWords src consume (wordAddrs (0x20000 + 4 * i) n) = ((List.range n).map fun k => s.dmemWord (i + k), s) := by
  rw [State.readWords_untouched]
  · simp only [wordAddrs, List.map_map, Prod.mk.injEq, and_true]
    exact List.map_congr_left fun k hk => s.readAt_dmem src (i := i + k) (by have := List.mem_range.mp hk; omega) (by simp; omega)
  · intro x hx
    obtain ⟨k, hk, rfl⟩ := mem_wordAddrs.mp hx
    exact s.touchAt_dmem src (i := i + k) (by omega) (by omega) consume

end

/-! ### Writing words -/

/-- The state with consecutive words of data memory written. -/
def State.setDmems (s : State) (i : Nat) : List Word → State
  | [] => s
  | w :: ws => (s.setDmem i w).setDmems (i + 1) ws

theorem State.setDmems_dmemWord (s : State) (i j : Nat) (ws : List Word) :
    (s.setDmems i ws).dmemWord j = if i ≤ j ∧ j < i + ws.length then ws.getD (j - i) 0 else s.dmemWord j := by
  induction ws generalizing s i with
  | nil => rw [State.setDmems, if_neg (by simp)]
  | cons w ws ih =>
    rw [State.setDmems, ih, State.setDmem_dmemWord]
    by_cases hj : j = i
    · subst hj; simp
    · by_cases hr : i ≤ j ∧ j < i + (w :: ws).length
      · have hr' : i + 1 ≤ j ∧ j < i + 1 + ws.length := by simp at hr; omega
        rw [if_pos hr, if_pos hr', show j - i = (j - (i + 1)) + 1 by omega]; rfl
      · have hr' : ¬ (i + 1 ≤ j ∧ j < i + 1 + ws.length) := by simp at hr; omega
        rw [if_neg hr, if_neg hr', if_neg hj]

/-- Only data memory changes. -/
theorem State.setDmems_frame (s : State) (i : Nat) (ws : List Word) :
    s.setDmems i ws = { s with tum := { s.tum with dmem := (s.setDmems i ws).tum.dmem } } := by
  induction ws generalizing s i with
  | nil => rfl
  | cons w ws ih => rw [State.setDmems, ih]; rfl

theorem State.writeEach_dmems (s : State) (src : Source) {i : Nat} (ws : List Word) (h : i + ws.length ≤ 4096) :
    s.writeEach src ((wordAddrs (0x20000 + 4 * i) ws.length).zip ws) = took (s.setDmems i ws) := by
  induction ws generalizing s i with
  | nil => rfl
  | cons w ws ih =>
    simp only [List.length_cons] at h
    simp only [List.length_cons, wordAddrs_succ, List.zip_cons_cons, State.writeEach, s.writeAt_dmem src (i := i) (by omega) rfl, took, BEq.rfl,
      if_true, State.setDmems]
    exact ih (s.setDmem i w) (i := i + 1) (by omega)

/-- No word outside the registers is denied to a class. -/
theorem State.denied_any (s : State) (src : Source) {a : Nat} (ws : List Word) (h : 0x4000 ≤ a) :
    (((wordAddrs a ws.length).zip ws).any fun p => s.deniedAt src p.1 p.2) = false := by
  rw [List.any_eq_false]
  intro p hp
  obtain ⟨k, -, hk⟩ := mem_wordAddrs.mp (List.of_mem_zip (a := p.1) (b := p.2) hp).1
  simp [s.deniedAt_of_le src p.2 (show 0x4000 ≤ p.1 by omega)]

theorem State.writeWords_dmems (s : State) (src : Source) {i : Nat} (ws : List Word) (h1 : 1 ≤ ws.length) (h : i + ws.length ≤ 4096) :
    s.writeWords src (0x20000 + 4 * i) ws = took (s.setDmems i ws) := by
  have hw : (((wordAddrs (0x20000 + 4 * i) ws.length).zip ws).all fun p => s.writable src p.1) = true := by
    rw [List.all_eq_true]
    intro p hp
    obtain ⟨k, hk, he⟩ := mem_wordAddrs.mp (List.of_mem_zip (a := p.1) (b := p.2) hp).1
    exact s.writable_dmem src (i := i + k) (by omega) (by omega)
  have hc : (s.mapRow (0x20000 + 4 * i) == .ctx) = false := by rw [s.mapRow_dmem (i := i) (by omega) rfl]; rfl
  have ho : s.oneRow (0x20000 + 4 * i) ws.length = true := State.oneRow_dmems h h1
  simp only [State.writeWords, ho, hw, hc, s.writeEach_dmems src ws h, took]
  rfl

/-- A WRITE that meets a word that may not be written writes nothing (R251). -/
theorem State.writeWords_unwritable (s : State) (src : Source) {a : Nat} {ws : List Word} (h1 : 1 ≤ ws.length) (h : s.writable src a = false) :
    s.writeWords src a ws = (stBadAddr, s) := by
  obtain ⟨w, ws, rfl⟩ := List.exists_cons_of_length_pos (Nat.lt_of_lt_of_le Nat.zero_lt_one h1)
  simp [State.writeWords, wordAddrs_succ, h]

/-- Program memory is not written while a thread is not HALTED (R218). -/
theorem State.writeWords_prog_refused (s : State) {src : Source} (hsrc : src ≠ .tumbler) {ws : List Word} (h1 : 1 ≤ ws.length)
    (h : ws.length ≤ 16384) (hh : s.allHalted = false) : s.writeWords src 0x10000 ws = (stRefusedState, s) := by
  have hw : (((wordAddrs 0x10000 ws.length).zip ws).all fun p => s.writable src p.1) = true := by
    rw [List.all_eq_true]
    intro p hp
    obtain ⟨k, hk, he⟩ := mem_wordAddrs.mp (List.of_mem_zip (a := p.1) (b := p.2) hp).1
    exact s.writable_prog src (i := k) (by omega) he hsrc
  have hc : (s.mapRow 0x10000 == .ctx) = false := by rw [s.mapRow_prog (i := 0) (by omega) rfl]; rfl
  have ho : s.oneRow 0x10000 ws.length = true :=
    State.oneRow_of (s.mapRow_prog (i := 0) (by omega) rfl) fun k hk => s.mapRow_prog (i := k) (by omega) rfl
  obtain ⟨w, ws, rfl⟩ := List.exists_cons_of_length_pos (Nat.lt_of_lt_of_le Nat.zero_lt_one h1)
  have he : s.writeEach src ((wordAddrs 0x10000 (ws.length + 1)).zip (w :: ws)) = (stRefusedState, s) := by
    rw [wordAddrs_succ, List.zip_cons_cons, State.writeEach, s.writeAt_prog src (i := 0) (by omega) rfl, hh]; rfl
  simp only [List.length_cons] at hw ho
  simp only [State.writeWords, List.length_cons, ho, hw, hc, he]
  rfl

/-! ### The bodies of READ and WRITE -/

/-- What READ checks of itself (R245). -/
def readBody (q : CmdReq) : OpBody :=
  { lenOk := q.args.length == 6
    recovery := decide (leAt q.args 0 4 + 4 * leAt q.args 4 2 ≤ 0x400) ||
      decide (0x3C00 ≤ leAt q.args 0 4 ∧ leAt q.args 0 4 + 4 * leAt q.args 4 2 ≤ 0x4000) }

/-- What READ does once accepted. -/
def readUnit (q : CmdReq) (s : State) : UnitAnswer :=
  if leAt q.args 4 2 < 1 ∨ 2048 < leAt q.args 4 2 then s.no stBadLen
  else if !(s.oneRow (leAt q.args 0 4) (leAt q.args 4 2) &&
      (wordAddrs (leAt q.args 0 4) (leAt q.args 4 2)).all fun x => s.readable (cmdSource q.port) x) then s.no stBadAddr
  else
    let r := s.readWords (cmdSource q.port) (q.port == .service || q.session != 0) (wordAddrs (leAt q.args 0 4) (leAt q.args 4 2))
    r.2.okWith (bytesOf r.1)

theorem execRead_eq (q : CmdReq) (s : State) : execRead q s = s.runCmd 0x02 q (readBody q) (readUnit q) := rfl

theorem readBody_sound {q : CmdReq} (h : q.args.length = 6) : (readBody q).Sound := ⟨by simp [readBody, h], rfl, rfl, rfl, rfl, rfl⟩

/-- READ of words that may be read answers with them. -/
theorem readUnit_ok {q : CmdReq} {s t : State} {ws : List Word} (hp : q.port = .service) (h1 : 1 ≤ leAt q.args 4 2) (h2 : leAt q.args 4 2 ≤ 2048)
    (ho : s.oneRow (leAt q.args 0 4) (leAt q.args 4 2) = true)
    (hr : ((wordAddrs (leAt q.args 0 4) (leAt q.args 4 2)).all fun x => s.readable .service x) = true)
    (hw : s.readWords .service true (wordAddrs (leAt q.args 0 4) (leAt q.args 4 2)) = (ws, t)) :
    readUnit q s = (some (stOk, bytesOf ws), t) := by
  have hn : ¬ (leAt q.args 4 2 < 1 ∨ 2048 < leAt q.args 4 2) := by omega
  rw [readUnit, if_neg hn]
  simp [hp, cmdSource, ho, hr, hw, State.okWith]

/-- READ of a word that may not be read is refused. -/
theorem readUnit_no {q : CmdReq} {s : State} (hp : q.port = .service) (h1 : 1 ≤ leAt q.args 4 2) (h2 : leAt q.args 4 2 ≤ 2048)
    (hr : s.readable .service (leAt q.args 0 4) = false) : readUnit q s = (some (stBadAddr, []), s) := by
  have hn : ¬ (leAt q.args 4 2 < 1 ∨ 2048 < leAt q.args 4 2) := by omega
  obtain ⟨n, he⟩ : ∃ n, leAt q.args 4 2 = n + 1 := ⟨leAt q.args 4 2 - 1, by omega⟩
  rw [readUnit, if_neg hn]
  simp [hp, cmdSource, he, wordAddrs_succ, hr, State.no]

/-- What WRITE checks of itself (R245, R251). -/
def writeBody (q : CmdReq) (s : State) : OpBody :=
  { lenOk := decide (8 ≤ q.args.length ∧ q.args.length ≤ 8196) && q.args.length % 4 == 0
    restricted := if ((wordAddrs (leAt q.args 0 4) (wordsOf (q.args.drop 4)).length).zip (wordsOf (q.args.drop 4))).any fun p =>
      s.deniedAt (cmdSource q.port) p.1 p.2 then stDeniedPort else stOk
    recovery := decide (0x3C00 ≤ leAt q.args 0 4 ∧ leAt q.args 0 4 + 4 * (wordsOf (q.args.drop 4)).length ≤ 0x4000)
    fenced := s.unitFenced 3 && decide (leAt q.args 0 4 < 0x3C00 ∧ 0x3800 < leAt q.args 0 4 + 4 * (wordsOf (q.args.drop 4)).length) }

/-- What WRITE does once accepted. -/
def writeUnit (q : CmdReq) (s : State) : UnitAnswer :=
  answerOf (s.writeWords (cmdSource q.port) (leAt q.args 0 4) (wordsOf (q.args.drop 4)))

theorem execWrite_eq (q : CmdReq) (s : State) : execWrite q s = s.runCmd 0x03 q (writeBody q s) (writeUnit q) := rfl

/-- Outside the registers a WRITE is neither denied to a class nor fenced. -/
theorem writeBody_sound {q : CmdReq} {s : State} (hl : q.args.length % 4 = 0) (h1 : 8 ≤ q.args.length) (h2 : q.args.length ≤ 8196)
    (ha : 0x4000 ≤ leAt q.args 0 4) : (writeBody q s).Sound := by
  have hf : ¬ leAt q.args 0 4 < 0x3C00 := by omega
  exact ⟨by simp [writeBody, hl, h1, h2], by rw [writeBody, s.denied_any _ _ ha]; rfl, rfl, rfl, rfl, by simp [writeBody, hf]⟩

theorem writeUnit_eq {q : CmdReq} (hp : q.port = .service) (s : State) :
    writeUnit q s = answerOf (s.writeWords .service (leAt q.args 0 4) (wordsOf (q.args.drop 4))) := by
  rw [writeUnit, hp]; rfl

/-- Reading DEV_ID and ID_STATE clears the count of transitions (R29). -/
theorem State.readWords_id {s : State} (h : s.eng.st ≠ .boot) : s.readWords .service true (wordAddrs 0 2) =
    ([0x0B0E1024, s.idState], s.onEng fun e => { e with transCount := 0 }) := by
  have hw : wordAddrs 0 2 = [0, 4] := rfl
  rw [hw]
  simp only [State.readWords, State.touchAt_devId, State.readAt_devId, s.readAt_idState .service h, State.touchAt_idState, if_true]

/-- No command is legal in BOOT (R252). -/
theorem State.st_ne_boot_of_legal {s : State} {op : Nat} {r : OpRule} (hr : opRule op = some r) (hb : r.legal.contains .boot = false)
    (h : s.legal op = true) : s.eng.st ≠ .boot := by
  intro he
  rw [State.legal, hr] at h
  simp only [he, hb] at h
  exact absurd h (by decide)

/-! ### PING -/

/-- The result of PING (R245): DEV_ID and ID_STATE. -/
def State.pingResult (s : State) : List Byte := leBytes 4 0x0B0E1024 ++ leBytes 4 s.idState.toNat

def pingUnit (q : CmdReq) (s : State) : UnitAnswer :=
  s.okWith (leBytes 4 (s.readAt (cmdSource q.port) 0x0000).toNat ++ leBytes 4 (s.readAt (cmdSource q.port) 0x0004).toNat)

theorem execPing_eq (q : CmdReq) (s : State) : execPing q s = s.runCmd 0x01 q { lenOk := q.args.isEmpty, recovery := true } (pingUnit q) := rfl

theorem pingUnit_eq (q : CmdReq) {s : State} (h : s.eng.st ≠ .boot) : pingUnit q s = (some (stOk, s.pingResult), s) := by
  rw [pingUnit, s.readAt_devId, s.readAt_idState _ h]; rfl

theorem execPing_portA {s : State} {q : CmdReq} (hport : q.port = .a) (harr : s.arrives q = true) (hcopy : s.copyOf q = none)
    (hout : (s.cmd.outstanding.filter fun o => o.port == .a) = []) (hd : q.dest ≠ 0xFFF) (hf : q.flags = 0) (hz : q.zero = 0)
    (hl : q.argLen = 0) (ha : q.args = []) (hrec : s.recovery = false) (hlegal : s.legal 0x01 = true) (hb : s.eng.st ≠ .boot) :
    execPing q s = done ((s.accept q 0x01 false).reply (cmdOut q 0x01) stOk s.pingResult false) := by
  have hr : opRule (0x01 : Byte).toNat = some ⟨0x01, false, false, false, allStates⟩ := rfl
  have hc := State.checks2to8_portA (b := { lenOk := q.args.isEmpty, recovery := true }) hport hr rfl rfl (by decide)
    ⟨by simp [ha], rfl, rfl, rfl, rfl, rfl⟩ hd (by rw [hf]; rfl) hz (by rw [hl, ha]; rfl) (by simp [ha]) hrec hlegal
  exact State.runCmd_portA (op := 0x01) hport hr rfl (by decide) harr hcopy hout hc (pingUnit_eq q (s := s.accept q 0x01 false) hb)

/-! ### The words of a command’s arguments -/

theorem wordsOf_length (l : List Byte) : (wordsOf l).length = l.length / 4 := by simp [wordsOf]

theorem leAt_drop (l : List Byte) (k i n : Nat) : leAt (l.drop k) i n = leAt l (k + i) n := by
  simp [leAt, slice, Nat.add_assoc]

theorem wordsOf_drop_getD (l : List Byte) {n j : Nat} (hl : l.length = 4 + 4 * n) (hj : j < n) :
    (wordsOf (l.drop 4)).getD j 0 = BitVec.ofNat 32 (leAt l (4 + 4 * j) 4) := by
  have : j < (l.length - 4) / 4 := by omega
  simp [wordsOf, this, leAt_drop]

end Sys2Proof.Machine

open Sys2Proof Sys2Proof.Machine

/-- Settles O32: a command that its port takes goes to its unit and is answered on the service port, or by a frame on port A; the units of
PING, READ and WRITE are followed on the words that each clause names. -/
theorem accessCommandsComplete : Obligations.AccessCommandsComplete := by
  unfold Obligations.AccessCommandsComplete
  refine ⟨fun s q h hq ha => ?_, fun s q h hport hact hdest hdb hsrc hcopy hf hz hl ha hrec hlegal hout hact' hqueue => ?_,
    fun s i n q h hq hl ha hn h1 h2 h3 => ?_, fun s q h hq ha => ?_, fun s q h hq hl ha h1 h2 => ?_, fun s i n q h hq hl ha h1 h2 h3 => ?_,
    fun s q h hq hl h1 h2 ha => ?_, fun s q h hq hl h1 h2 ha hh => ?_⟩
  · obtain ⟨hp, -, -, -, -, -, -, -, -, -, hlegal⟩ := id hq
    have hid := (s.svcOpened.accept q 0x01 false).readAt_idState .service (State.st_ne_boot_of_legal (op := 0x01) rfl rfl hlegal)
    obtain ⟨u, hu, hans, he, hn⟩ := State.runCmd_ok (op := 0x01) (b := { lenOk := q.args.isEmpty, recovery := true }) hq rfl
      ⟨by simp [ha], rfl, rfl, rfl, rfl, rfl⟩ (t := s.svcOpened.accept q 0x01 false) (res := leBytes 4 0x0B0E1024 ++ leBytes 4 s.idState.toNat)
      (unit := fun s => s.okWith (leBytes 4 (s.readAt (cmdSource q.port) 0x0000).toNat ++ leBytes 4 (s.readAt (cmdSource q.port) 0x0004).toNat))
      (by simp only [hp, cmdSource, State.readAt_devId, hid]; rfl) rfl h
    exact ⟨u, hu, hans, he, hn⟩
  · have hb : s.eng.st ≠ .boot := State.st_ne_boot_of_legal (op := 0x01) rfl rfl hlegal
    have hrun := execPing_portA hport (by simp [State.arrives, hport, hact, hdest]) hcopy hout hdb hf hz hl ha hrec hlegal hb
    have hs : (cmdOut q 0x01).src = q.src := by simp [cmdOut, cmdSrc, hport]
    obtain ⟨hq, ho, hfr⟩ := State.sendReply_portA (s := (s.accept q 0x01 false).closing (cmdOut q 0x01) stOk s.pingResult false)
      (o := cmdOut q 0x01) hport (by rwa [hs]) (by rw [hs]; exact hact') (by rw [hs]; exact hqueue)
      (b := s.replyBlock 0x01 stOk q.cmdId s.pingResult) (show 16 ≤ 9216 by decide)
    rw [hs] at hq ho
    rw [State.reply_eq, show (s.accept q 0x01 false).replyOf (cmdOut q 0x01) stOk s.pingResult false =
      some (s.replyBlock 0x01 stOk q.cmdId s.pingResult) by simp [State.replyOf, cmdOut, hf]; rfl] at hrun
    generalize hw : ((s.accept q 0x01 false).closing (cmdOut q 0x01) stOk s.pingResult false).sendReply (cmdOut q 0x01)
      (some (s.replyBlock 0x01 stOk q.cmdId s.pingResult)) = w at hq ho hfr hrun
    have hcalm : w.Calm := by rw [hfr]; exact h
    obtain ⟨u, hdone, hn, he⟩ := done_calm w hcalm
    have hcmd : u.cmd = ((s.accept q 0x01 false).closing (cmdOut q 0x01) stOk s.pingResult false).cmd := by rw [he, hfr]
    refine ⟨u, hrun.trans hdone, ?_, ?_, ?_, ?_, ?_, ?_, ?_, ?_⟩
    · rw [hcmd]; simp [State.closing, State.onCmd, Cmd.count, cmdOut, hf]
    · rw [hcmd]; simp [State.closing, State.onCmd, Cmd.count, cmdOut, hf]; rfl
    · rw [hcmd]; simp [State.closing, State.onCmd, Cmd.count, cmdOut, hf, hport, cmdPortNo]
    · rw [hcmd]; simp [State.closing, State.onCmd, Cmd.count, State.accept, inc, sat, Nat.min_comm]
    · have hm := congrArg (List.map fun x => (x.1, x.2.1, x.2.2.take 6, x.2.2.drop 8)) hq
      rw [List.map_map] at hm
      have hlink : u.link = w.link := by rw [he]; rfl
      have hpl : (s.replyBlock 0x01 stOk q.cmdId s.pingResult).take 6 = [1, 0] ++ leBytes 2 q.cmdId.toNat ++ [8, 0] := by
        have hl : s.pingResult.length = 8 := rfl
        simp [State.replyBlock, hl, leBytes, stOk]
      rw [hlink]
      refine Eq.trans hm ?_
      simp only [List.map_cons, List.map_nil, hpl]
      rfl
    · have hlink : u.link = w.link := by rw [he]; rfl
      rw [hlink]; exact ho
    · rw [he, hfr]; rfl
    · rw [hfr] at hn; exact hn
  · obtain ⟨hp, -⟩ := id hq
    obtain ⟨u, hu, hans, he, hn⟩ := State.runCmd_ok (op := 0x02) hq rfl (readBody_sound hl) (unit := readUnit q)
      (readUnit_ok (s := s.svcOpened.accept q 0x02 false) hp (by omega) (by omega) (by rw [ha, hn]; exact State.oneRow_dmems h3 h1)
        (by rw [ha, hn]; exact State.readable_dmems h3) (by rw [ha, hn]; exact State.readWords_dmems h3 true)) rfl h
    exact ⟨u, hu, hans, he, hn⟩
  · obtain ⟨hp, -, -, -, -, -, -, -, -, -, hlegal⟩ := id hq
    have h0 : leAt q.args 0 4 = 0 := by rw [ha]; rfl
    have h2 : leAt q.args 4 2 = 2 := by rw [ha]; rfl
    have hb : (s.svcOpened.accept q 0x02 false).eng.st ≠ .boot := State.st_ne_boot_of_legal (op := 0x02) (s := s) rfl rfl hlegal
    obtain ⟨u, hu, hans, he, hn⟩ := State.runCmd_ok (op := 0x02) hq rfl (readBody_sound (by rw [ha]; rfl)) (unit := readUnit q)
      (t := (s.svcOpened.accept q 0x02 false).onEng fun e => { e with transCount := 0 })
      (readUnit_ok (s := s.svcOpened.accept q 0x02 false) hp (by omega) (by omega) (by rw [h0, h2]; rfl) (by rw [h0, h2]; rfl)
        (by rw [h0, h2]; exact State.readWords_id hb)) rfl h
    exact ⟨u, hu, hans, by rw [he]; rfl, by rw [he]; rfl, hn⟩
  · obtain ⟨hp, -⟩ := id hq
    have hr : (s.svcOpened.accept q 0x02 false).readable .service (leAt q.args 0 4) = false := by simp [State.readable, ha]
    exact State.runCmd_no (op := 0x02) hq rfl (readBody_sound hl) (unit := readUnit q) (st := stBadAddr) (by decide)
      (readUnit_no hp h1 h2 hr) rfl h
  · obtain ⟨hp, -⟩ := id hq
    have hlen : (wordsOf (q.args.drop 4)).length = n := by rw [wordsOf_length, List.length_drop]; omega
    have hw := (s.svcOpened.accept q 0x03 false).writeWords_dmems .service (i := i) (wordsOf (q.args.drop 4)) (by omega) (by omega)
    have hf := (s.svcOpened.accept q 0x03 false).setDmems_frame i (wordsOf (q.args.drop 4))
    obtain ⟨u, hu, hans, he, hn⟩ := State.runCmd_ok (op := 0x03) hq rfl (writeBody_sound (q := q) (s := s) (by omega) (by omega) (by omega) (by omega))
      (unit := writeUnit q) (t := (s.svcOpened.accept q 0x03 false).setDmems i (wordsOf (q.args.drop 4))) (res := [])
      (by rw [writeUnit_eq hp, ha, hw]; rfl) (by rw [hf]) (by rw [hf]; exact h)
    rw [hf] at hn
    have htum : u.tum = ((s.svcOpened.accept q 0x03 false).setDmems i (wordsOf (q.args.drop 4))).tum := by rw [he]
    have hs : (s.svcOpened.accept q 0x03 false).dmemWord = s.dmemWord := rfl
    refine ⟨u, hu, fun j => ?_, by rw [htum, hf]; rfl, by rw [htum, hf]; rfl, hans, by rw [he, hf]; rfl, hn⟩
    rw [show u.dmemWord j = ((s.svcOpened.accept q 0x03 false).setDmems i (wordsOf (q.args.drop 4))).dmemWord j by
      simp only [State.dmemWord, htum], State.setDmems_dmemWord, hlen, hs]
    split
    · next hj => exact wordsOf_drop_getD q.args hl (by omega)
    · rfl
  · obtain ⟨hp, -⟩ := id hq
    have hlen : (wordsOf (q.args.drop 4)).length = (q.args.length - 4) / 4 := by rw [wordsOf_length, List.length_drop]
    have hw := (s.svcOpened.accept q 0x03 false).writeWords_unwritable .service (a := 0x30000) (ws := wordsOf (q.args.drop 4)) (by omega) rfl
    exact State.runCmd_no (op := 0x03) hq rfl (writeBody_sound hl h1 h2 (by omega)) (unit := writeUnit q)
      (t := s.svcOpened.accept q 0x03 false) (st := stBadAddr) (by decide)
      (by rw [writeUnit_eq hp, ha, hw]; rfl) rfl h
  · obtain ⟨hp, -⟩ := id hq
    have hlen : (wordsOf (q.args.drop 4)).length = (q.args.length - 4) / 4 := by rw [wordsOf_length, List.length_drop]
    have hw := (s.svcOpened.accept q 0x03 false).writeWords_prog_refused (src := .service) (by decide) (ws := wordsOf (q.args.drop 4))
      (by omega) (by omega) hh
    exact State.runCmd_no (op := 0x03) hq rfl (writeBody_sound hl h1 h2 (by omega)) (unit := writeUnit q)
      (t := s.svcOpened.accept q 0x03 false) (st := stRefusedState) (by decide)
      (by rw [writeUnit_eq hp, ha, hw]; rfl) rfl h

end

section
/-!
Where the engine’s state LIT can come from (R22, R24): no operation but a light-on command brings it, or an update that was entered from it.
-/

namespace Sys2Proof.Machine

/-! ### Light owed -/

/-- Of what `State.still` holds: the engine is in LIT, or in an UPDATE that ends in it. -/
def owesLight {α β : Type} (v : α × EngState × EngState × EngState × β) : Prop := v.2.1 = .lit ∨ (v.2.1 = .update ∧ v.2.2.2.1 = .lit)

/-- No light is owed at `b` that was not owed at `a`. -/
def Dims {α β : Type} (a b : α × EngState × EngState × EngState × β) : Prop := owesLight b → owesLight a

@[simp] theorem Dims.refl {α β : Type} (a : α × EngState × EngState × EngState × β) : Dims a a := id

section
variable {α β : Type} {v : α × EngState × EngState × EngState × β}

/-- Only the state and what UPDATE was entered from count. -/
theorem Dims.congr {a b : α × EngState × EngState × EngState × β} (h : b.2.1 = a.2.1) (h2 : b.2.2.2.1 = a.2.2.2.1) : Dims v b ↔ Dims v a := by
  simp only [Dims, owesLight, h, h2]

end

/-- A bound on what `State.still` holds. -/
abbrev Still := List Instr × EngState × EngState × EngState × Bool × Nat ×
  (Option SafeFunc × Option SafeFunc × Option SafeFunc × Option SafeFunc × Option SafeFunc × Option SafeFunc) ×
  (Bool × Bool × Bool × Bool × Bool) × Nat × Nat × Nat × Nat × Nat × Nat

section
variable {v : Still} (s : State)

theorem State.dims_of_eng {t : State} (h : t.eng.st = s.eng.st) (h2 : t.eng.beforeUpdate = s.eng.beforeUpdate) : Dims v t.still ↔ Dims v s.still :=
  Dims.congr h h2

theorem State.dims_of_posture {t : State} (h : t.posture = s.posture) : Dims v t.still ↔ Dims v s.still :=
  s.dims_of_eng (congrArg (·.1.st) h) (congrArg (·.1.beforeUpdate) h)

@[simp] theorem State.onSaf_dims (f) : Dims v (s.onSaf f).still ↔ Dims v s.still := s.dims_of_eng rfl rfl
@[simp] theorem State.onTime_dims (f) : Dims v (s.onTime f).still ↔ Dims v s.still := s.dims_of_eng rfl rfl
@[simp] theorem State.onTum_dims (f) : Dims v (s.onTum f).still ↔ Dims v s.still := s.dims_of_eng rfl rfl
@[simp] theorem State.onComp_dims (f) : Dims v (s.onComp f).still ↔ Dims v s.still := s.dims_of_eng rfl rfl
@[simp] theorem State.onRings_dims (f) : Dims v (s.onRings f).still ↔ Dims v s.still := s.dims_of_eng rfl rfl

/-- Neither LIT nor UPDATE: nothing is owed. -/
theorem State.dims_of_st {t : State} (h : t.eng.st ≠ .lit) (h2 : t.eng.st ≠ .update) : Dims v t.still :=
  fun ho => ho.elim (fun h' => absurd h' h) fun h' => absurd h'.1 h2

/-! ### Transitions and demands -/

@[simp] theorem State.setEng_dims {n : EngState} (h : n ≠ .lit) (h2 : n ≠ .update) : Dims v (s.setEng n).still :=
  State.dims_of_st (by rwa [s.setEng_st]) (by rwa [s.setEng_st])

@[simp] theorem State.enterDark_dims : Dims v s.enterDark.still :=
  State.dims_of_st (by simp) (by simp)

@[simp] theorem State.enterJoin_dims : Dims v s.enterJoin.still :=
  State.dims_of_st (by simp) (by simp)

@[simp] theorem State.startThreads_dims : Dims v s.startThreads.still ↔ Dims v s.still := s.dims_of_posture s.startThreads_posture

@[simp] theorem State.releaseOutputs_dims : Dims v s.releaseOutputs.still ↔ Dims v s.still :=
  s.dims_of_eng (by simp) (by simp)

@[simp] theorem State.performSlo_dims : Dims v s.performSlo.still ↔ Dims v s.still := s.dims_of_eng (by simp) (by simp)

@[simp] theorem State.performSsg_dims : Dims v s.performSsg.still ↔ Dims v s.still := s.dims_of_eng (by simp) (by simp)

@[simp] theorem State.applyFunc_dims (o) : Dims v (s.applyFunc o).still ↔ Dims v s.still := s.dims_of_eng (by simp) (by simp)

@[simp] theorem State.cairnRequest_dims : Dims v s.cairnRequest.still ↔ Dims v s.still := s.dims_of_posture s.cairnRequest_posture

@[simp] theorem State.fenceUnit_dims (u) : Dims v (s.fenceUnit u).still ↔ Dims v s.still := s.dims_of_eng (by simp) (by simp)

@[simp] theorem State.addCause_dims (c : Cause) (fn : SafeFunc) (h : Dims v s.still) : Dims v (s.addCause c fn).still := by
  rcases s.addCause_st c fn with hs | hs
  · exact State.dims_of_st (by simp [hs]) (by simp [hs])
  · exact (s.dims_of_eng (congrArg Eng.st hs) (congrArg Eng.beforeUpdate hs)).mpr h

@[simp] theorem State.exitSafe_dims (h : Dims v s.still) : Dims v s.exitSafe.still := by
  unfold State.exitSafe; dsimp only; repeat' split
  all_goals simp [h]

@[simp] theorem State.clearCauses_dims (p) (h : Dims v s.still) : Dims v (s.clearCauses p).still := by
  unfold State.clearCauses; dsimp only; repeat' split
  all_goals simp [h]

@[simp] theorem State.checkInternal_dims (h : Dims v s.still) : Dims v s.checkInternal.still := by
  have h1 : Dims v (if s.saf.internal.isSome && s.internalGone then s.clearCauses (· == .internal) else s).still := by
    split <;> simp [h]
  rw [State.checkInternal]
  generalize (if s.saf.internal.isSome && s.internalGone then s.clearCauses (· == .internal) else s) = s1 at h1 ⊢
  split <;> simp [h1]

/-! ### Resets -/

@[simp] theorem State.logicReset_dims : Dims v s.logicReset.still := State.dims_of_st (by simp) (by simp)

@[simp] theorem State.holdReset_dims (c) (h : Dims v s.still) : Dims v (s.holdReset c).still := by
  unfold State.holdReset; repeat' split
  all_goals simp [h]

@[simp] theorem State.resetWith_dims (c) : Dims v (s.resetWith c).still ↔ Dims v s.still := s.dims_of_eng rfl rfl

@[simp] theorem State.resetIfDue_dims (h : Dims v s.still) : Dims v s.resetIfDue.still := by
  unfold State.resetIfDue; dsimp only; split
  all_goals simp [h]

/-! ### Cases and operations repeated -/

@[simp] theorem State.onEng_dims (f : Eng → Eng) (h : (f s.eng).st = s.eng.st) (h2 : (f s.eng).beforeUpdate = s.eng.beforeUpdate) :
    Dims v (s.onEng f).still ↔ Dims v s.still := s.dims_of_eng h h2

@[simp] theorem ite_dims {c : Prop} [Decidable c] (a b : State) :
    Dims v (if c then a else b).still ↔ (c → Dims v a.still) ∧ (¬ c → Dims v b.still) := by
  split <;> simp_all

@[simp] theorem ite_snd_dims {γ : Type} {c : Prop} [Decidable c] (a b : γ × State) :
    Dims v (if c then a else b).2.still ↔ (c → Dims v a.2.still) ∧ (¬ c → Dims v b.2.still) := by
  split <;> simp_all

@[simp] theorem State.each_dims (n : Nat) {f : State → Nat → State} (hf : ∀ t k, Dims v t.still → Dims v (f t k).still) (h : Dims v s.still) :
    Dims v (s.each n f).still := by
  unfold State.each
  induction n with
  | zero => exact h
  | succ n ih => rw [List.range_succ, List.foldl_append]; exact hf _ _ ih

theorem foldl_dims {γ : Type} (l : List γ) {f : State → γ → State} (hf : ∀ t x, Dims v t.still → Dims v (f t x).still) {t : State}
    (h : Dims v t.still) : Dims v (l.foldl f t).still := by
  induction l generalizing t with
  | nil => exact h
  | cons x l ih => exact ih (hf t x h)

@[simp] theorem took_snd (s : State) : (took s).2 = s := rfl

/-! ### What follows a command -/

theorem dims_kept (v : Still) : KeptBySettling fun s => Dims v s.still := by
  refine .of_posture (Q := fun p => p.1.st = .lit ∨ (p.1.st = .update ∧ p.1.beforeUpdate = .lit) → owesLight v) (fun s u h => ?_) (fun s h => ?_)
  · exact (s.fenceUnit_dims u).mpr h
  · exact s.addCause_dims .internal .slo h

theorem State.settle_dims (h : Dims v s.still) : Dims v s.settle.still := by
  unfold State.settle
  extract_lets old
  have h1 : Dims v ((s.settleN 6 old).checkSsgFenced).still := by simpa using (dims_kept v).settleN 6 old h
  have h2 := (dims_kept v).settleN 6 old (State.checkInternal_dims _ h1)
  exact State.resetIfDue_dims _ (by simpa using h2)

/-- A command with this outcome brings no light that was not owed. -/
def AddsNoLight (s : State) (o : Host.Outcome State Fault Refusal) : Prop := ∀ u, o = .next u → Dims s.still u.still

@[simp] theorem addsNoLight_ite (s : State) {c : Prop} [Decidable c] (a b : Host.Outcome State Fault Refusal) :
    AddsNoLight s (if c then a else b) ↔ (c → AddsNoLight s a) ∧ (¬ c → AddsNoLight s b) := by
  split <;> simp_all

@[simp] theorem addsNoLight_next (s u : State) : AddsNoLight s (.next u) ↔ Dims s.still u.still :=
  ⟨fun h => h u rfl, fun h x hx => by cases hx; exact h⟩

@[simp] theorem addsNoLight_refused (s : State) (r : Refusal) : AddsNoLight s (.refused r) := fun _ h => nomatch h

theorem addsNoLight_done (s : State) {t : State} (h : Dims s.still t.still) : AddsNoLight s (done t) :=
  (addsNoLight_next s _).mpr (t.settle_dims h)

/-- `addsNoLight_done` for `simp`, which can discharge an equivalence by definitional rules too. -/
@[simp] theorem addsNoLight_done_of_iff (s : State) {t : State} (h : Dims s.still t.still ↔ True) : AddsNoLight s (done t) :=
  addsNoLight_done s (h.mpr trivial)

end

end Sys2Proof.Machine
end

section
/-!
What the operations of the state do to the light that is owed (`Dims`): none brings any.
-/

namespace Sys2Proof.Machine

@[simp] theorem State.ownFrame_still (s : State) (dest typ : Nat) (payload : List Byte) : (s.ownFrame dest typ payload).2.still = s.still := rfl

@[simp] theorem State.originate_still (s : State) (dest typ : Nat) (payload : List Byte) : (s.originate dest typ payload).still = s.still := by
  unfold State.originate; dsimp only; repeat' split
  all_goals simp

@[simp] theorem State.endArriving_still (s : State) (p : Port) : (s.endArriving p).still = s.still := by
  unfold State.endArriving; split <;> simp

@[simp] theorem State.beginRing_still (s : State) (k : Nat) : (s.beginRing k).still = s.still := by
  simp [State.beginRing]

@[simp] theorem State.beginRings_still (s : State) : (s.beginRings).still = s.still := by
  simp [State.beginRings]

@[simp] theorem State.cairnStream_dims {v : Still} (s : State) (h : Dims v s.still) : Dims v (s.cairnStream).still := by simp [State.cairnStream, h]

@[simp] theorem State.writeParams_still (s : State) (x : SafetyParams) : (s.writeParams x).still = s.still := rfl

@[simp] theorem State.enterSafe_dims {v : Still} (s : State) (h : Dims v s.still) : Dims v (s.enterSafe).still := by
  by_cases hs : s.eng.leaving = true ∨ ¬ s.eng.st.demandable
  · rw [State.enterSafe_still hs]; exact h
  · simp only [not_or, not_not, Bool.not_eq_true] at hs
    have := State.enterSafe_of_demandable hs.1 hs.2
    exact State.dims_of_st (by simp [this]) (by simp [this])

@[simp] theorem State.bcDemand_dims {v : Still} (l : List Byte) (s : State) (h : Dims v s.still) : Dims v (s.bcDemand l).still := by
  unfold State.bcDemand; split <;> simp [h]

@[simp] theorem State.resetWith_still (s : State) (c : RstCause) : (s.resetWith c).still = s.still := rfl

@[simp] theorem State.keyLoad_still (s : State) (w : Word) : (s.keyLoad w).still = s.still := by
  simp [State.keyLoad]

@[simp] theorem State.validateW_dims {v : Still} (s : State) (d : Bool) (h : Dims v s.still) :
    Dims v (s.validateW d).still := by simp [State.validateW, h]

@[simp] theorem State.loseWall_dims {v : Still} (s : State) (h : Dims v s.still) : Dims v (s.loseWall).still := by simp [State.loseWall, h]

@[simp] theorem State.rejoin_dims {v : Still} (s : State) (d : Bool) (h : Dims v s.still) : Dims v (s.rejoin d).still := by simp [State.rejoin, h]

@[simp] theorem State.switchTo_dims {v : Still} (s : State) (d : Bool) (h : Dims v s.still) :
    Dims v (s.switchTo d).still := by simp [State.switchTo, h]

@[simp] theorem State.switchOver_dims {v : Still} (s : State) (d : Bool) (h : Dims v s.still) :
    Dims v (s.switchOver d).still := by simp [State.switchOver, h]

@[simp] theorem State.bothLost_dims {v : Still} (s : State) (u : WUndo) (h : Dims v s.still) :
    Dims v (s.bothLost u).still := by simp [State.bothLost, h]

@[simp] theorem State.preferW_dims {v : Still} (s : State) (d : Bool) (h : Dims v s.still) : Dims v (s.preferW d).still := by simp [State.preferW, h]

@[simp] theorem State.acquired_dims {v : Still} (s : State) (d : Bool) (h : Dims v s.still) :
    Dims v (s.acquired d).still := by simp [State.acquired, h]

@[simp] theorem State.enterHoldover_dims {v : Still} (s : State) (h : Dims v s.still) :
    Dims v (s.enterHoldover).still := by simp [State.enterHoldover, h]

@[simp] theorem State.resumeHoldover_dims {v : Still} (s : State) (h : Dims v s.still) :
    Dims v (s.resumeHoldover).still := by simp [State.resumeHoldover, h]

@[simp] theorem State.loseDomains_dims {v : Still} (s : State) (l0 l1 : Bool) (h : Dims v s.still) : Dims v (s.loseDomains l0 l1).still := by
  unfold State.loseDomains; dsimp only; repeat' split
  all_goals simp [h]

@[simp] theorem State.sample_dims {v : Still} (s : State) (d : Bool) (gm : Int) (tin : Nat) (log : Int) (h : Dims v s.still) :
    Dims v (s.sample d gm tin log).still := by simp [State.sample, h]

@[simp] theorem State.sendAnn_still (s : State) (p : Port) (dest typ domain : Nat) (payload : List Byte) : (s.sendAnn p dest typ domain payload).still = s.still := by
  simp [State.sendAnn]

@[simp] theorem State.announceOn_still (s : State) (p : Port) : (s.announceOn p).still = s.still := by
  simp [State.announceOn]

@[simp] theorem State.takeBlocks_still (s : State) (p : Port) (lane : Nat) (blocks : List Block) : (s.takeBlocks p lane blocks).still = s.still := by
  unfold State.takeBlocks; dsimp only; repeat' split
  all_goals simp

@[simp] theorem State.laneTrigger_still (s : State) (p : Port) (lane : Nat) : (s.laneTrigger p lane).still = s.still := by
  unfold State.laneTrigger; dsimp only; split <;> simp

@[simp] theorem State.takeBits_still (s : State) (p : Port) (lane : Nat) (bits : List Bool) : (s.takeBits p lane bits).still = s.still := by
  simp [State.takeBits]

@[simp] theorem State.linkTest_dims {v : Still} (s : State) (p : Port) (w : Word) (h : Dims v s.still) : Dims v (s.linkTest p w).still := by
  have hl : ∀ (l : List Nat) (t : State), Dims v t.still → Dims v (l.foldl (fun s i => s.fenceLane p i) t).still :=
    fun l t ht => foldl_dims _ (fun t i ht => by simpa using ht) ht
  unfold State.linkTest
  extract_lets was loop stored s1 failed s2
  have h1 : Dims v s1.still := by simpa [s1] using h
  have h2 : Dims v s2.still := by
    unfold s2; split
    · exact h1
    · exact hl _ _ h1
  simp [h1, h2]

@[simp] theorem State.sendReply_still (s : State) (o : OutCmd) (block : Option (List Byte)) : (s.sendReply o block).still = s.still := by
  unfold State.sendReply; repeat' split
  all_goals simp

@[simp] theorem State.answerTo_still (s : State) (o : OutCmd) (status : Byte) (result : List Byte) (keep : Bool) : (s.answerTo o status result keep).still = s.still := by
  simp [State.answerTo]

@[simp] theorem State.reply_still (s : State) (o : OutCmd) (status : Byte) (result : List Byte) (keep : Bool) : (s.reply o status result keep).still = s.still := by
  simp [State.reply]

@[simp] theorem State.issuerReply_still (s : State) (by_ : Issuer) (status : Byte) (w : Word) : (s.issuerReply by_ status w).still = s.still := by
  unfold State.issuerReply; repeat' split
  all_goals simp

@[simp] theorem State.refuse_still (s : State) (q : CmdReq) (op status : Byte) : (s.refuse q op status).still = s.still := by
  simp [State.refuse]

@[simp] theorem State.checks2to8_dims {v : Still} (s : State) (r : OpRule) (q : CmdReq) (b : OpBody) (h : Dims v s.still) :
    Dims v (s.checks2to8 r q b).2.still := by simp [State.checks2to8, h]

@[simp] theorem State.startRetained_dims {v : Still} (s : State) (h : Dims v s.still) :
    Dims v (s.startRetained).still := by simp [State.startRetained, h]

@[simp] theorem State.startProgStore_dims {v : Still} (s : State) (h : Dims v s.still) :
    Dims v (s.startProgStore).still := by simp [State.startProgStore, h]

@[simp] theorem State.checkShutdown_still (s : State) : (s.checkShutdown).still = s.still := by
  unfold State.checkShutdown; repeat' split
  all_goals simp

@[simp] theorem State.settingsDone_still (s : State) (ok : Bool) : (s.settingsDone ok).still = s.still := by
  unfold State.settingsDone; repeat' split
  all_goals simp

@[simp] theorem State.retainedDone_dims {v : Still} (s : State) (ok : Bool) (h : Dims v s.still) : Dims v (s.retainedDone ok).still := by
  unfold State.retainedDone; split <;> simp [h]

@[simp] theorem State.programDone_dims {v : Still} (s : State) (ok : Bool) (h : Dims v s.still) : Dims v (s.programDone ok).still := by
  unfold State.programDone; split <;> simp [h]

@[simp] theorem State.leaveUpdate_dims {v : Still} (s : State) (h : Dims v s.still) : Dims v (s.leaveUpdate).still := by
  unfold State.leaveUpdate
  by_cases hu : s.eng.st = .update
  · simp only [hu, bne_self_eq_false, Bool.false_eq_true, if_false]
    split
    · simp
    · intro ho
      rcases ho with ho | ⟨ho, hb⟩
      · exact h (.inr ⟨hu, (s.setEng_st s.eng.beforeUpdate).symm.trans ho⟩)
      · refine absurd ((s.setEng_beforeUpdate s.eng.beforeUpdate).symm.trans hb) ?_
        have : s.eng.beforeUpdate = .update := (s.setEng_st s.eng.beforeUpdate).symm.trans ho
        simp [this]
  · simpa [hu] using h

@[simp] theorem State.fallback_still (s : State) : (s.fallback).still = s.still := by
  simp [State.fallback]

@[simp] theorem State.cairnDone_still (s : State) (ok : Bool) : (s.cairnDone ok).still = s.still := by
  unfold State.cairnDone; repeat' split
  all_goals simp

@[simp] theorem State.ledEvaluate_dims {v : Still} (s : State) (atTake : Bool) (h : Dims v s.still) :
    Dims v (s.ledEvaluate atTake).still := by simp [State.ledEvaluate, h]

@[simp] theorem State.restoreRing_still (s : State) (k : Nat) : (s.restoreRing k).still = s.still := by
  unfold State.restoreRing; split <;> simp

@[simp] theorem State.streamFrame_dims {v : Still} (s : State) (n : Nat) (h : Dims v s.still) :
    Dims v (s.streamFrame n).still := by simp [State.streamFrame, h]

@[simp] theorem State.resendCells_dims {v : Still} (s : State) (k : Nat) (h : Dims v s.still) : Dims v (s.resendCells k).still := by
  unfold State.resendCells; dsimp only; split
  · exact h
  · rw [State.onRing_still]
    exact foldl_dims _ (fun t c ht => by simpa using ht) h

@[simp] theorem State.keepPending_dims {v : Still} (s : State) (k : Nat) (h : Dims v s.still) :
    Dims v (s.keepPending k).still := foldl_dims _ (fun t c ht => by simpa using ht) h

@[simp] theorem State.decideLatch_dims {v : Still} (s : State) (rate : Bool) (h : Dims v s.still) : Dims v (s.decideLatch rate).still := by
  have h0 : Dims v (s.each 64 fun s k => if (s.ring k).up then s.keepPending k else s).still :=
    s.each_dims 64 (fun t k ht => by split <;> simp [ht]) h
  unfold State.decideLatch; dsimp only; repeat' split
  all_goals simp [h, h0]

@[simp] theorem State.latchRing_dims {v : Still} (s : State) (k : Nat) (h : Dims v s.still) : Dims v (s.latchRing k).still := by
  unfold State.latchRing; dsimp only; split <;> simp [h]

@[simp] theorem State.addDoses_dims {v : Still} (s : State) (x : Sample) (l : List (Nat × Nat × Nat)) (h : Dims v s.still) :
    Dims v (s.addDoses x l).still := foldl_dims _ (fun t q ht => by simpa using ht) (by simpa using h)

@[simp] theorem State.abandonPass_dims {v : Still} (s : State) (h : Dims v s.still) : Dims v (s.abandonPass).still := by
  unfold State.abandonPass; split <;> simp [h]

@[simp] theorem State.takeSample_dims {v : Still} (s0 : State) (n : Nat) (h : Dims v s0.still) : Dims v (s0.takeSample n).still := by
  unfold State.takeSample; split
  · exact h
  · dsimp only
    rw [State.onAge_still]
    exact s0.abandonPass_dims h

@[simp] theorem State.applySample_dims {v : Still} (s : State) (x : Sample) (h : Dims v s.still) :
    Dims v (s.applySample x).still := by simp [State.applySample, h]

@[simp] theorem State.planPass_dims {v : Still} (s0 : State) (boot : Bool) (h : Dims v s0.still) : Dims v (s0.planPass boot).still := by
  have h1 : ∀ f, Dims v ((s0.readLedger).onAge f).still := fun f => by simpa using h
  unfold State.planPass
  extract_lets s floors a applied res hist hor ex low s1 s2
  have h2 : Dims v s2.still := foldl_dims _ (fun t i ht => by simpa using ht) (h1 _)
  split
  · simpa using h2
  · exact h2

@[simp] theorem State.rewriteRec_dims {v : Still} (s : State) (p : Nat) (h : Dims v s.still) : Dims v (s.rewriteRec p).still := by
  rw [State.rewriteRec, State.putRec_still]; exact h

@[simp] theorem State.storeAdvance_still (s : State) : (s.storeAdvance).still = s.still := by
  unfold State.storeAdvance; split <;> simp

@[simp] theorem State.calPixel_dims {v : Still} (s0 : State) (q : CalReq) (p : Nat) (h : Dims v s0.still) : Dims v (s0.calPixel q p).still := by
  rw [State.calPixel]
  rw [State.onCol_still, State.putRec_still, State.keepCopied_still]; exact h

@[simp] theorem State.calUpTo_dims {v : Still} (s : State) (q : CalReq) (n : Nat) (h : Dims v s.still) : Dims v (s.calUpTo q n).still := by
  rw [State.calUpTo, State.onCol_still]
  exact foldl_dims _ (fun t p ht => t.calPixel_dims q p ht) (by simpa using h)

@[simp] theorem State.calAdvance_dims {v : Still} (s : State) (h : Dims v s.still) : Dims v (s.calAdvance).still := by
  unfold State.calAdvance; split
  · exact State.calUpTo_dims _ _ _ h
  · exact h

@[simp] theorem State.planComp_still (s : State) (p : Nat) : (s.planComp p).still = s.still := rfl

@[simp] theorem State.rewriteTo_dims {v : Still} (s : State) (n : Nat) (h : Dims v s.still) : Dims v (s.rewriteTo n).still := by
  rw [State.rewriteTo, State.onAge_still]
  exact foldl_dims _ (fun t p ht => State.rewriteRec_dims _ p (by simpa using ht)) h

@[simp] theorem State.rewriteAdvance_dims {v : Still} (s : State) (h : Dims v s.still) : Dims v (s.rewriteAdvance).still := by
  unfold State.rewriteAdvance; dsimp only; split
  · exact h
  · exact State.rewriteTo_dims _ _ h

@[simp] theorem State.rewriteAll_dims {v : Still} (s : State) (h : Dims v s.still) : Dims v (s.rewriteAll).still := by simp [State.rewriteAll, h]

@[simp] theorem State.startAdmission_dims {v : Still} (s : State) (h : Dims v s.still) :
    Dims v (s.startAdmission).still := by simp [State.startAdmission, h]

@[simp] theorem State.requestCommit_dims {v : Still} (s : State) (w : Word) (by_ : Issuer) (h : Dims v s.still) :
    Dims v (s.requestCommit w by_).2.still := by simp [State.requestCommit, h]

@[simp] theorem State.applyMode_dims {v : Still} (s : State) (n : Nat) (h : Dims v s.still) : Dims v (s.applyMode n).1.still := by
  unfold State.applyMode; split
  · exact h
  · next m hm =>
    split
    · extract_lets rate c l c2 s1 s2
      have h2 : Dims v s2.still := State.each_dims _ 64 (fun t k ht => by simp [ht]) ((s.dims_of_eng rfl rfl).mpr h)
      dsimp only; split
      · simpa using h2
      · exact h2
    · exact h

@[simp] theorem State.layersTake_dims {v : Still} (s : State) (h : Dims v s.still) : Dims v (s.layersTake).still := by
  refine foldl_dims _ (fun t i ht => ?_) h
  dsimp only; repeat' split
  all_goals simp [ht]

@[simp] theorem State.recost_dims {v : Still} (s : State) (h : Dims v s.still) : Dims v (s.recost).still := by simp [State.recost, h]

@[simp] theorem State.commitTake_dims {v : Still} (s : State) (h : Dims v s.still) : Dims v (s.commitTake).still := by
  unfold State.commitTake; split <;> simp [h]

@[simp] theorem State.recheck_dims {v : Still} (s : State) (h : Dims v s.still) : Dims v (s.recheck).still := by simp [State.recheck, h]

@[simp] theorem State.confidence_still (s : State) : (s.confidence).still = s.still := by
  unfold State.confidence; repeat' split
  all_goals simp

@[simp] theorem State.measRound_dims {v : Still} (s : State) (h : Dims v s.still) : Dims v (s.measRound).still := by
  have hs : ∀ (t : State) (f : State → Nat → Ring → Ring), Dims v t.still →
      Dims v (t.each 64 fun s k => if (s.ring k).up then s.onRing k (f s k) else s).still :=
    fun t f ht => t.each_dims 64 (fun t k ht => by simp [ht]) ht
  unfold State.measRound
  extract_lets u kind rounds read s1 s2
  have h1 : Dims v s1.still := by
    unfold s1 read; split
    · exact h
    · exact hs s (fun s k r => r.put (r.readAll k s.rings.seq.toNat kind)) h
  have h2 : Dims v s2.still := by simpa [s2] using h1
  have h3 := hs s2 (fun s k => Ring.sendMeas kind u.rounds) h2
  repeat' split
  · simpa using h
  · simpa using h2
  · simpa using h3
  · simpa using h2

@[simp] theorem State.localSample_dims {v : Still} (s : State) (n : Nat) (h : Dims v s.still) :
    Dims v (s.localSample n).still := by simp [State.localSample, h]

@[simp] theorem State.confBand_still (s : State) (band : Nat) : (s.confBand band).still = s.still := by
  unfold State.confBand; dsimp only; repeat' split
  all_goals simp

@[simp] theorem State.writeBand_dims {v : Still} (s : State) (obs : BandObs) (band : Nat) (h : Dims v s.still) :
    Dims v (s.writeBand obs band).still := by
  have hp : ∀ (t : State) (x y : Nat) (o : PixelOut), Dims v t.still → Dims v (t.putPixel x y o).still := fun t x y o ht => by
    rw [State.putPixel_still]; exact ht
  unfold State.writeBand; dsimp only
  rw [State.onComp_dims]
  refine foldl_dims _ (fun t (p : Nat × Nat) ht => hp t p.1 p.2 _ ht) (foldl_dims _ (fun t p ht => by simpa using ht) ?_)
  exact State.rewriteAdvance_dims _ (State.calAdvance_dims _ (foldl_dims _ (fun t p ht => by simpa using ht) h))

@[simp] theorem State.esReturn_dims {v : Still} (s : State) (k c : Nat) (counts os : Bool) (es : Nat → Nat) (h : Dims v s.still) :
    Dims v (s.esReturn k c counts os es).still := by
  unfold State.esReturn
  exact foldl_dims _ (fun t q ht => by simpa using ht) (by simpa using h)

@[simp] theorem State.retryLater_still (s : State) (k c : Nat) : (s.retryLater k c).still = s.still := by
  unfold State.retryLater; split <;> simp

@[simp] theorem State.sendDue_dims {v : Still} (s : State) (k : Nat) (h : Dims v s.still) : Dims v (s.sendDue k).still := by
  unfold State.sendDue; split
  · exact foldl_dims _ (fun t c ht => by simpa using ht) h
  · exact h

@[simp] theorem State.silentReturn_dims {v : Still} (s : State) (k c : Nat) (h : Dims v s.still) : Dims v (s.silentReturn k c).still := by
  unfold State.silentReturn; dsimp only; repeat' split
  · exact h
  · simpa using h
  · rw [State.fire_still, State.raise_still]
    exact foldl_dims _ (fun t p ht => by simpa using ht) (by simpa using h)

@[simp] theorem State.slot0_dims {v : Still} (s : State) (k : Nat) (o : SlotObs) (h : Dims v s.still) :
    Dims v (s.slot0 k o).still := by simp [State.slot0, h]

@[simp] theorem State.slot2_dims {v : Still} (s : State) (k : Nat) (o : SlotObs) (h : Dims v s.still) :
    Dims v (s.slot2 k o).still := by simp [State.slot2, h]

@[simp] theorem State.breakFound_still (s : State) (k : Nat) : (s.breakFound k).still = s.still := by
  unfold State.breakFound; split <;> simp

@[simp] theorem State.restartFrame_dims {v : Still} (s : State) (k : Nat) (dir : List (Bool × RingWord)) (h : Dims v s.still) :
    Dims v (s.restartFrame k dir).still := by simp [State.restartFrame, h]

@[simp] theorem State.clearRtFences_dims {v : Still} (s : State) (h : Dims v s.still) : Dims v (s.clearRtFences).still := by
  unfold State.clearRtFences
  extract_lets s1 fenced
  have h1 : Dims v s1.still := foldl_dims _ (fun t p ht => by dsimp only; split <;> simp [ht]) h
  simpa using h1

@[simp] theorem State.fenceGap_dims {v : Still} (s : State) (k a b : Nat) (h : Dims v s.still) : Dims v (s.fenceGap k a b).still := by
  rw [State.fenceGap, State.raise_still]
  exact foldl_dims _ (fun t i ht => foldl_dims _ (fun t p ht => by simpa using ht) ht) h

@[simp] theorem State.bringSlots_dims {v : Still} (s : State) (k : Nat) (slots : List SlotObs) (h : Dims v s.still) :
    Dims v (s.bringSlots k slots).still := by
  unfold State.bringSlots; split
  · exact h
  · exact foldl_dims _ (fun t o ht => t.slot0_dims k o ht) (by simpa using h)

@[simp] theorem State.bringRing_dims {v : Still} (s : State) (k : Nat) (o : RingBring) (h : Dims v s.still) :
    Dims v (s.bringRing k o).still := by simp [State.bringRing, h]

@[simp] theorem State.requestTake_still (s : State) (env colour : Bool) (token : BitVec 8) (by_ : Issuer) : (s.requestTake env colour token by_).2.2.still = s.still := by
  unfold State.requestTake; repeat' split
  all_goals simp

@[simp] theorem State.envFill_dims {v : Still} (s : State) (w : Word) (h : Dims v s.still) : Dims v (s.envFill w).still := by
  unfold State.envFill
  exact foldl_dims _ (fun t z ht => by split <;> simp [ht]) h

@[simp] theorem State.startLedger_dims {v : Still} (s0 : State) (h : Dims v s0.still) : Dims v (s0.startLedger).still := by
  unfold State.startLedger
  extract_lets s s1
  have h0 : Dims v s.still := by unfold s; split <;> simp [h]
  have h1 : Dims v s1.still := State.planPass_dims _ false (by simpa using h0)
  simpa using h1

@[simp] theorem State.storeLedger_dims {v : Still} (s : State) (h : Dims v s.still) : Dims v (s.storeLedger).still := by simp [State.storeLedger, h]

@[simp] theorem State.afterLedger_still (s : State) : (s.afterLedger).still = s.still := by
  unfold State.afterLedger; repeat' split
  all_goals simp

@[simp] theorem State.sendPdu_still (s : State) (dest kind : Nat) (data : List Byte) (target : BitVec 32) : (s.sendPdu dest kind data target).still = s.still := by
  unfold State.sendPdu; split <;> simp

@[simp] theorem State.sendDemand_still (s : State) (i : InputAB) : (s.sendDemand i).still = s.still := by
  unfold State.sendDemand; split <;> simp

@[simp] theorem State.demand_dims {v : Still} (s : State) (c : Cause) (fn : SafeFunc) (h : Dims v s.still) :
    Dims v (s.demand c fn).still := by simp [State.demand, h]

@[simp] theorem State.inputDemand_dims {v : Still} (s : State) (i : InputAB) (h : Dims v s.still) : Dims v (s.inputDemand i).still := by
  unfold State.inputDemand; split <;> simp [h]

@[simp] theorem State.latchInput_dims {v : Still} (s : State) (i : InputAB) (src : Nat) (h : Dims v s.still) :
    Dims v (s.latchInput i src).still := by simp [State.latchInput, h]

@[simp] theorem State.unlatch_dims {v : Still} (s : State) (i : InputAB) (h : Dims v s.still) :
    Dims v (s.unlatch i).still := by simp [State.unlatch, h]

@[simp] theorem State.pulse_dims {v : Still} (s : State) (i : InputAB) (output fail : Bool) (h : Dims v s.still) :
    Dims v (s.pulse i output fail).still := by simp [State.pulse, h]

@[simp] theorem State.acknowledge_dims {v : Still} (s : State) (named : Cause → Bool) (h : Dims v s.still) :
    Dims v (s.acknowledge named).still := by simp [State.acknowledge, h]

@[simp] theorem State.fadeStep_dims {v : Still} (s : State) (maxEcho phaseMa : Nat) (h : Dims v s.still) :
    Dims v (s.fadeStep maxEcho phaseMa).still := by simp [State.fadeStep, h]

@[simp] theorem State.bringUpAgain_dims {v : Still} (s : State) (k : Nat) (h : Dims v s.still) : Dims v (s.bringUpAgain k).still := by
  unfold State.bringUpAgain
  rw [State.onRing_still, State.takeFree_still, State.takeFree_still]
  exact State.bringRing_dims _ k _ (by simpa using h)

@[simp] theorem State.liftFence_dims {v : Still} (s : State) (u : FenceUnit) (h : Dims v s.still) : Dims v (s.liftFence u).still := by
  have hb : ∀ f k, Dims v ((s.onFlt f).bringUpAgain k).still := fun f k => State.bringUpAgain_dims _ k (by simpa using h)
  unfold State.liftFence; dsimp only; repeat' split
  all_goals simp [h, hb]

@[simp] theorem State.ackRecord_dims {v : Still} (s : State) (r : FaultRecord) (h : Dims v s.still) : Dims v (s.ackRecord r).still := by
  unfold State.ackRecord
  exact foldl_dims _ (fun t m ht => by split <;> simp [ht]) (by simpa using h)

@[simp] theorem State.faultAck_dims {v : Still} (s : State) (n : BitVec 32) (h : Dims v s.still) : Dims v (s.faultAck n).2.still := by
  unfold State.faultAck; split
  · exact foldl_dims _ (fun t r ht => t.ackRecord_dims r ht) h
  · split
    · exact h
    · split <;> simp [h]

@[simp] theorem State.injectReacts_dims {v : Still} (s : State) (n : Nat) (h : Dims v s.still) :
    Dims v (s.injectReacts n).still := by simp [State.injectReacts, h]

@[simp] theorem State.inject_dims {v : Still} (s : State) (w : Word) (h : Dims v s.still) : Dims v (s.inject w).2.still := by
  have hr : ∀ f, Dims v ((s.onFlt f).injectReacts (fld w 7 0)).still := fun f => State.injectReacts_dims _ _ (by simpa using h)
  unfold State.inject; dsimp only; split
  · exact h
  · simp only [ite_snd_dims, ite_dims]
    simp [h, hr]

@[simp] theorem State.requestStore_dims {v : Still} (s : State) (w : Word) (h : Dims v s.still) :
    Dims v (s.requestStore w).2.still := by simp [State.requestStore, h]

@[simp] theorem State.tumStart_dims {v : Still} (s : State) (m : Nat) (h : Dims v s.still) : Dims v (s.tumStart m).still := by
  have h1 : ∀ t : State, Dims v t.still → Dims v (t.each 8 fun s n => if m.testBit n && progEntry s n != 0xFFFF then s.startThread n else s).still :=
    fun t => t.each_dims 8 fun t n ht => by simp [ht]
  have h2 : Dims v (if s.allHalted then s.reportProg else s).still := by simp [h]
  unfold State.tumStart; dsimp only
  generalize (if s.allHalted then s.reportProg else s) = t at h2 ⊢
  repeat' split
  · exact h
  · exact h2
  · exact h1 t h2

@[simp] theorem State.tumHalt_dims {v : Still} (s : State) (m : Nat) (h : Dims v s.still) :
    Dims v (s.tumHalt m).still := s.each_dims 8 (fun t n ht => by split <;> simp [ht]) h

@[simp] theorem State.tumCtrl_dims {v : Still} (s : State) (w : Word) (h : Dims v s.still) : Dims v (s.tumCtrl w).still := by
  have h1 := State.tumStart_dims _ (fld w 7 0) (s.tumHalt_dims (fld w 15 8) h)
  unfold State.tumCtrl; dsimp only; split <;> simp [h1]

@[simp] theorem State.writeId_dims {v : Still} (s : State) (a : Nat) (w : Word) (h : Dims v s.still) :
    Dims v (s.writeId a w).2.still := by simp [State.writeId, h]

@[simp] theorem State.writeFlt_dims {v : Still} (s : State) (a : Nat) (w : Word) (h : Dims v s.still) :
    Dims v (s.writeFlt a w).2.still := by simp [State.writeFlt, h]

@[simp] theorem State.writeChk_dims {v : Still} (s : State) (a : Nat) (w : Word) (h : Dims v s.still) : Dims v (s.writeChk a w).2.still := by
  unfold State.writeChk; split <;> simp [h]

@[simp] theorem State.touchLink_dims {v : Still} (s : State) (src : Source) (p : Port) (o : Nat) (h : Dims v s.still) :
    Dims v (s.touchLink src p o).still := by simp [State.touchLink, h]

@[simp] theorem State.writeLink_dims {v : Still} (s : State) (src : Source) (p : Port) (o : Nat) (w : Word) (h : Dims v s.still) :
    Dims v (s.writeLink src p o w).2.still := by simp [State.writeLink, h]

@[simp] theorem State.touchTime_dims {v : Still} (s : State) (src : Source) (a : Nat) (consume : Bool) (h : Dims v s.still) :
    Dims v (s.touchTime src a consume).still := by
  simp only [State.touchTime, ite_dims]
  cases s.time.caps <;> simp [h]

@[simp] theorem State.writeCompare_still (s : State) (src : Source) (n : Nat) (hi : Bool) (w : Word) : (s.writeCompare src n hi w).2.still = s.still := by
  unfold State.writeCompare; split <;> simp

@[simp] theorem State.writeHoldMax_dims {v : Still} (s : State) (w : Word) (h : Dims v s.still) :
    Dims v (s.writeHoldMax w).still := by simp [State.writeHoldMax, h]

@[simp] theorem State.writeTime_dims {v : Still} (s : State) (src : Source) (a : Nat) (w : Word) (h : Dims v s.still) :
    Dims v (s.writeTime src a w).2.still := by simp [State.writeTime, h]

@[simp] theorem State.writeCommit_dims {v : Still} (s : State) (w : Word) (h : Dims v s.still) :
    Dims v (s.writeCommit w).2.still := by simp [State.writeCommit, h]

@[simp] theorem State.writeComp_dims {v : Still} (s : State) (a : Nat) (w : Word) (h : Dims v s.still) :
    Dims v (s.writeComp a w).2.still := by simp [State.writeComp, h]

@[simp] theorem State.writeTake_still (s : State) (w : Word) : (s.writeTake w).2.still = s.still := by
  unfold State.writeTake; dsimp only; split <;> simp

@[simp] theorem State.writeCol_dims {v : Still} (s : State) (src : Source) (a : Nat) (w : Word) (h : Dims v s.still) :
    Dims v (s.writeCol src a w).2.still := by simp [State.writeCol, h]

@[simp] theorem State.writeRingCtrl_dims {v : Still} (s : State) (w : Word) (h : Dims v s.still) :
    Dims v (s.writeRingCtrl w).still := by simp [State.writeRingCtrl, h]

@[simp] theorem State.writeRing_dims {v : Still} (s : State) (src : Source) (a : Nat) (w : Word) (h : Dims v s.still) :
    Dims v (s.writeRing src a w).2.still := by simp [State.writeRing, h]

@[simp] theorem State.writeLed_still (s : State) (src : Source) (a : Nat) (w : Word) : (s.writeLed src a w).2.still = s.still := by
  unfold State.writeLed; repeat' split
  all_goals simp

@[simp] theorem State.writeTherm_still (s : State) (src : Source) (a : Nat) (w : Word) : (s.writeTherm src a w).2.still = s.still := by
  unfold State.writeTherm; repeat' split
  all_goals simp

@[simp] theorem State.writeAgeCtrl_dims {v : Still} (s : State) (w : Word) (h : Dims v s.still) : Dims v (s.writeAgeCtrl w).still := by
  have h1 : ∀ f, Dims v ((s.onAge f).storeLedger).still := fun f => State.storeLedger_dims _ (by simpa using h)
  have h2 : ∀ t : State, Dims v t.still → Dims v (if fld w 4 4 = 1 then t.planPass false else t).still := fun t ht => by simp [ht]
  have h3 : ∀ t : State, Dims v t.still → Dims v (if fld w 5 5 = 1 then t.clrLaneDerate else t).still := fun t ht => by simp [ht]
  unfold State.writeAgeCtrl
  exact h3 _ (h2 _ (by simp [h, h1]))

@[simp] theorem State.writeAge_dims {v : Still} (s : State) (a : Nat) (w : Word) (h : Dims v s.still) :
    Dims v (s.writeAge a w).2.still := by simp [State.writeAge, h]

@[simp] theorem State.writeWard_still (s : State) (src : Source) (a : Nat) (w : Word) : (s.writeWard src a w).2.still = s.still := by
  unfold State.writeWard; repeat' split
  all_goals simp

@[simp] theorem State.writeUpdCtrl_still (s : State) (w : Word) : (s.writeUpdCtrl w).2.still = s.still := by
  unfold State.writeUpdCtrl; dsimp only; repeat' split
  all_goals simp

@[simp] theorem State.writeCairnCtrl_still (s : State) (w : Word) : (s.writeCairnCtrl w).2.still = s.still := by
  unfold State.writeCairnCtrl; repeat' split
  all_goals simp

@[simp] theorem State.writeNvm_still (s : State) (src : Source) (a : Nat) (w : Word) : (s.writeNvm src a w).2.still = s.still := by
  unfold State.writeNvm; repeat' split
  all_goals simp

@[simp] theorem State.writeCtx_dims {v : Still} (s : State) (l : List (Nat × Word)) (h : Dims v s.still) : Dims v (s.writeCtx l).2.still := by
  unfold State.writeCtx; dsimp only; repeat' split
  · exact h
  · exact h
  · exact h
  · exact foldl_dims _ (fun t n ht => by simpa using ht) (foldl_dims _ (fun t n ht => by simpa using ht) h)

@[simp] theorem State.writeMem_dims {v : Still} (s : State) (a : Nat) (w : Word) (h : Dims v s.still) : Dims v (s.writeMem a w).2.still := by
  unfold State.writeMem; split <;> simp [h]

@[simp] theorem State.touchReg_dims {v : Still} (s : State) (src : Source) (a : Nat) (consume : Bool) (h : Dims v s.still) :
    Dims v (s.touchReg src a consume).still := by
  unfold State.touchReg; split <;> simp [h]

@[simp] theorem State.writeReg_dims {v : Still} (s : State) (src : Source) (a : Nat) (w : Word) (h : Dims v s.still) :
    Dims v (s.writeReg src a w).2.still := by
  unfold State.writeReg; split <;> simp [h]

@[simp] theorem State.touchAt_dims {v : Still} (s : State) (src : Source) (a : Nat) (consume : Bool) (h : Dims v s.still) :
    Dims v (s.touchAt src a consume).still := by simp [State.touchAt, h]

@[simp] theorem State.writeAt_dims {v : Still} (s : State) (src : Source) (a : Nat) (w : Word) (h : Dims v s.still) :
    Dims v (s.writeAt src a w).2.still := by simp [State.writeAt, h]

@[simp] theorem State.readWords_dims {v : Still} (s : State) (src : Source) (consume : Bool) (l : List Nat) (h : Dims v s.still) :
    Dims v (s.readWords src consume l).2.still := by
  induction l generalizing s with
  | nil => exact h
  | cons a l ih => exact ih _ (s.touchAt_dims src a consume h)

@[simp] theorem State.writeEach_dims {v : Still} (s : State) (src : Source) (l : List (Nat × Word)) (h : Dims v s.still) :
    Dims v (s.writeEach src l).2.still := by
  induction l generalizing s with
  | nil => exact h
  | cons p l ih =>
    have hw := s.writeAt_dims src p.1 p.2 h
    simp [State.writeEach, hw, ih]

@[simp] theorem State.writeWords_dims {v : Still} (s : State) (src : Source) (a : Nat) (ws : List Word) (h : Dims v s.still) :
    Dims v (s.writeWords src a ws).2.still := by
  have he := s.writeEach_dims src ((wordAddrs a ws.length).zip ws) h
  simp only [State.writeWords, ite_snd_dims]
  simp [h, he]

@[simp] theorem State.deviceOp_dims {v : Still} (s : State) (t : Fin 8) (rd : Fin 16) (op : Nat) (fenced : Bool) (f : State → Byte × State)
    (hf : Dims v (f s).2.still) (h : Dims v s.still) : Dims v (s.deviceOp t rd op fenced f).still := by
  simp [State.deviceOp, h, hf]

@[simp] theorem State.startUpdate_dims {v : Still} (s : State) (h : List Byte) (hv : Dims v s.still) : Dims v (s.startUpdate h).still := by
  unfold State.startUpdate
  extract_lets k s1
  intro ho
  refine hv ?_
  rcases ho with ho | ⟨-, ho⟩
  · exact absurd ((State.setEng_st _ _).symm.trans ho) (by decide)
  · have hb := (State.setEng_beforeUpdate _ _).symm.trans ho
    have hs : s.eng.st = .lit := by simpa using hb
    exact .inl hs

@[simp] theorem State.startRestart_dims {v : Still} (s : State) (h : Dims v s.still) :
    Dims v (s.startRestart).still := by simp [State.startRestart, h]

@[simp] theorem State.leaveService_dims {v : Still} (s : State) :
    Dims v (s.leaveService).still := by simp [State.leaveService]

theorem State.eraseRegion_dims {v : Still} (s : State) {code : Nat} {u : State} (hu : s.eraseRegion code = some u) (h : Dims v s.still) :
    Dims v u.still := by
  unfold State.eraseRegion at hu; dsimp only at hu; repeat' split at hu
  case isFalse => cases hu
  all_goals (cases hu; simp [h])

@[simp] theorem State.bootSafety_dims {v : Still} (s : State) (straps : BitVec 6) (testOk : Bool) (h : Dims v s.still) :
    Dims v (s.bootSafety straps testOk).still := by
  unfold State.bootSafety; dsimp only; split <;> simp [h]

@[simp] theorem State.bootConfirmed_dims {v : Still} (s : State) (h : Dims v s.still) :
    Dims v (s.bootConfirmed).still := by simp [State.bootConfirmed, h]

@[simp] theorem State.bootSlot_dims {v : Still} (s : State) (h : Dims v s.still) : Dims v (s.bootSlot).still := by simp [State.bootSlot, h]

@[simp] theorem State.bootCalibration_dims {v : Still} (s : State) (h : Dims v s.still) : Dims v (s.bootCalibration).still := by
  unfold State.bootCalibration
  extract_lets id fac s1 s2 s3
  have h2 : Dims v s2.still := by unfold s2; split <;> simpa [s1] using h
  have h3 : Dims v s3.still := by
    unfold s3; rw [State.onCol_still]
    exact State.each_dims _ _ (fun t n ht => by simpa using ht) h2
  split
  · rw [State.onCol_still, State.dramStore_still]; exact h3
  · rw [State.raise_still]; exact h3

@[simp] theorem State.bootColour_dims {v : Still} (s : State) (h : Dims v s.still) : Dims v (s.bootColour).still := by simp [State.bootColour, h]

@[simp] theorem State.loadLedger_dims {v : Still} (s : State) (h : Bool) (hv : Dims v s.still) : Dims v (s.loadLedger h).still := by
  rw [State.loadLedger]
  rw [State.onAge_still, State.dramStore_still]; exact hv

@[simp] theorem State.bootLedger_dims {v : Still} (s : State) (h : Dims v s.still) : Dims v (s.bootLedger).still := by
  unfold State.bootLedger
  extract_lets gen first
  split
  · refine (s.dims_of_posture (t := State.raise _ 0x91 0) ?_).mpr h
    exact State.raise_posture _ 0x91 0
  · split
    · exact s.loadLedger_dims _ h
    · rw [State.raise_still]; exact s.loadLedger_dims _ h

@[simp] theorem State.bootAgeing_dims {v : Still} (s : State) (h : Dims v s.still) : Dims v (s.bootAgeing).still := by
  unfold State.bootAgeing
  extract_lets s1 s2 c a
  have h1 : Dims v s1.still := by unfold s1; split <;> simp [h]
  have h2 : Dims v s2.still := State.rewriteAll_dims _ (State.planPass_dims _ true (State.bootLedger_dims _ h1))
  clear_value s2
  exact (s2.dims_of_posture rfl).mpr h2

@[simp] theorem State.bootFirst_dims {v : Still} (s : State) (obs : BootObs) : Dims v (s.bootFirst obs).still := by
  unfold State.bootFirst
  extract_lets e p n w s1 s2 s3 s4
  have h1 : Dims v s1.still := State.dims_of_st (show EngState.boot ≠ .lit by decide) (show EngState.boot ≠ .update by decide)
  have h2 : Dims v s2.still := foldl_dims _ (fun t i ht => by simpa using ht) h1
  have h3 : Dims v s3.still := by unfold s3; split <;> simp [h2]
  have h4 : Dims v s4.still := by unfold s4; split <;> simp [h3]
  rw [State.bootCairn_still]
  exact State.bootSlot_dims _ (State.bootSafety_dims _ _ _ (by rw [State.onNvm_still]; exact h4))

@[simp] theorem State.bringRings_dims {v : Still} (s : State) (rings : List RingBring) (h : Dims v s.still) : Dims v (s.bringRings rings).still := by
  unfold State.bringRings
  rw [State.onLed_still]
  exact s.each_dims 64 (fun t k ht => State.bringRing_dims t k _ ht) h

@[simp] theorem State.heldFaults_dims {v : Still} (s : State) (h : Dims v s.still) : Dims v (s.heldFaults).still := by
  have h1 : Dims v (s.pwr.heldTrips.foldl (fun s d => s.raise 0xE2 d) s).still := foldl_dims _ (fun t d ht => by simpa using ht) h
  unfold State.heldFaults; dsimp only; split <;> simp [h1]

@[simp] theorem State.checkInput_dims {v : Still} (s : State) (i : InputAB) (h : Dims v s.still) :
    Dims v (s.checkInput i).still := by simp [State.checkInput, h]

@[simp] theorem State.leaveBoot_dims {v : Still} (s : State) : Dims v (s.leaveBoot).still := by simp [State.leaveBoot]

@[simp] theorem State.tripOn_dims {v : Still} (s : State) (detail : Nat) (h : Dims v s.still) : Dims v (s.tripOn detail).still := by
  rw [State.tripOn_eq, State.dropSupplies_still]
  exact State.holdReset_dims _ _ h

@[simp] theorem State.parkPort_still (s : State) (p : Port) : (s.parkPort p).still = s.still := by
  simp [State.parkPort]

@[simp] theorem State.parkIdle_still (s : State) (p : Port) : (s.parkIdle p).still = s.still := by
  unfold State.parkIdle; split <;> simp

end Sys2Proof.Machine
end

section
/-!
What a command brings in, by the way in which it ends: an instruction, a frame, a PDU, an access or a tagged command (R253).
-/

namespace Sys2Proof.Machine

/-! ### The ways in which commands end -/

@[simp] theorem State.issue_addsNoLight (s : State) (t : Fin 8) (w : Word) (f : Thread → State) (h : ∀ x, Dims s.still (f x).still) :
    AddsNoLight s (s.issue t w f) := by
  simp [State.issue, h]

@[simp] theorem State.alu_addsNoLight (s : State) (op : Nat) (t : Fin 8) (rd ra rb : Fin 16) (f : Word → Word → Word) :
    AddsNoLight s (s.alu op t rd ra rb f) := by
  simp [State.alu]

@[simp] theorem State.aluImm_addsNoLight (s : State) (op : Nat) (t : Fin 8) (rd ra : Fin 16) (imm : BitVec 18) (f : Word → Word) :
    AddsNoLight s (s.aluImm op t rd ra imm f) := by
  simp [State.aluImm]

@[simp] theorem State.branch_addsNoLight (s : State) (op : Nat) (t : Fin 8) (rd ra : Fin 16) (off : BitVec 18) (p : Word → Word → Bool) :
    AddsNoLight s (s.branch op t rd ra off p) := by
  simp [State.branch]

@[simp] theorem State.timeFrame_addsNoLight (s : State) (p : Port) (f : Frame) (kind : Nat) (g : State → State) (h : Dims s.still (g s).still) :
    AddsNoLight s (s.timeFrame p f kind g) := by
  simp [State.timeFrame, h]

@[simp] theorem State.resend_addsNoLight (s t : State) (q : CmdReq) (op : Byte) (e : Recent) (h : Dims s.still t.still) :
    AddsNoLight s (t.resend q op e) := by
  unfold State.resend; split <;> simp [h]

@[simp] theorem State.mapFrame_addsNoLight (s : State) (p : Port) (f : Frame) (kind : Nat) (g : State → State) (h : Dims s.still (g s).still) :
    AddsNoLight s (s.mapFrame p f kind g) := by
  simp [State.mapFrame, h]

@[simp] theorem State.pdu_addsNoLight (s : State) (p : Port) (kind : Nat) (l : List Byte) (act other : State → State)
    (ha : ∀ t, Dims s.still t.still → Dims s.still (act t).still) (ho : Dims s.still (other s).still) :
    AddsNoLight s (s.pdu p kind l act other) := by
  have h1 := ha (s.acceptMaster l) (by simp)
  unfold State.pdu; repeat' split
  all_goals simp [h1, ho]

@[simp] theorem State.access_addsNoLight (s : State) (src : Source) (a : Nat) (w : Word) : AddsNoLight s (s.access src a w) := by
  have h1 : Dims s.still (s.writeWords src a [w]).2.still := by simp
  simp [State.access, h1]

@[simp] theorem State.accessRead_addsNoLight (s : State) (src : Source) (a : Nat) (consume : Bool) :
    AddsNoLight s (s.accessRead src a consume) := by
  simp [State.accessRead]

/-- What checks 4 to 7 of R252 let through, outside the recovery subset (R468): the state is legal for the opcode and the unit ready. -/
theorem State.checks2to8_ok {s : State} {r : OpRule} {q : CmdReq} {b : OpBody} (h : (s.checks2to8 r q b).1 = stOk) (hb : b.recovery = false) :
    r.legal.contains s.eng.st = true ∧ b.ready = true := by
  by_contra hn
  have hc : (!r.legal.contains s.eng.st || !b.ready) = true := by
    cases hl : r.legal.contains s.eng.st <;> cases hr : b.ready <;> simp_all
  unfold State.checks2to8 at h
  simp only [hb, hc, Bool.not_false, Bool.or_true, if_true, apply_ite Prod.fst] at h
  repeat' split at h
  case isFalse.isTrue hbr => exact absurd h (bne_iff_ne.mp hbr)
  all_goals exact absurd h (by decide)

/-- A command received, whose unit brings no light where the opcode is admitted (R252, R253). -/
theorem State.runCmd_addsNoLight_of_legal (s : State) (op : Byte) (q : CmdReq) (b : OpBody) (unit : State → UnitAnswer)
    (h : (b.recovery = false → s.legal op.toNat = true ∧ b.ready = true) → ∀ t, Dims s.still t.still → Dims s.still (unit t).2.still) :
    AddsNoLight s (s.runCmd op q b unit) := by
  unfold State.runCmd; split
  · simp
  · next r hr =>
    extract_lets s0 tagged
    have hd : Dims s.still s0.still := by simp [s0]
    have hs : s0.eng.st = s.eng.st := by unfold s0; split <;> rfl
    clear_value s0 tagged
    have h1 := s0.checks2to8_dims r q b hd
    have hb : ∀ n, Dims s.still (s0.raise n 0).still := fun n => by simpa using hd
    rw [addsNoLight_ite, addsNoLight_ite]
    refine ⟨fun _ => by simp, fun _ => ⟨fun _ => by simp, fun _ => ?_⟩⟩
    split
    · exact State.resend_addsNoLight _ _ _ _ _ hd
    · generalize hc : s0.checks2to8 r q b = c at h1 ⊢
      obtain ⟨st, s1⟩ := c
      dsimp only
      rw [addsNoLight_ite, addsNoLight_ite, addsNoLight_ite]
      refine ⟨fun _ => ?_, fun _ => ⟨fun _ => ?_, fun hok => ⟨fun _ => ?_, fun _ => ?_⟩⟩⟩
      · simp [h1]
      · refine addsNoLight_done s ?_
        rw [State.refuse_still]; split
        · split
          · exact hb _
          · exact hd
        · exact hd
      · simp [hd]
      · have ha := h (fun hr' => by
          have := State.checks2to8_ok (by rw [hc]; exact not_not.mp hok) hr'
          simpa [State.legal, hr, ← hs] using this)
        have hu := ha (s1.accept q op tagged) (by simp [h1])
        split
        · next s2 he => rw [he] at hu; exact addsNoLight_done s hu
        · next st' res s2 he =>
          rw [he] at hu
          simp [hu, hd]

@[simp] theorem State.runCmd_addsNoLight (s : State) (op : Byte) (q : CmdReq) (b : OpBody) (unit : State → UnitAnswer)
    (h : ∀ t, Dims s.still t.still → Dims s.still (unit t).2.still) : AddsNoLight s (s.runCmd op q b unit) :=
  s.runCmd_addsNoLight_of_legal op q b unit fun _ => h

@[simp] theorem State.ok_snd (s : State) : s.ok.2 = s := rfl
@[simp] theorem State.okWith_snd (s : State) (r : List Byte) : (s.okWith r).2 = s := rfl
@[simp] theorem State.no_snd (s : State) (status : Byte) : (s.no status).2 = s := rfl
@[simp] theorem State.later_snd (s : State) : s.later.2 = s := rfl
@[simp] theorem answerOf_snd (r : Byte × State) : (answerOf r).2 = r.2 := rfl

theorem Dims.ite {v : Still} {c : Prop} [Decidable c] {a b : State} (ha : Dims v a.still) (hb : Dims v b.still) :
    Dims v (if c then a else b).still := by
  split <;> assumption

end Sys2Proof.Machine
end

section
/-!
No command but LIGHT_ON brings light that was not owed (R22, R24); LIGHT_ON brings it from DARK alone.
-/

namespace Sys2Proof.Machine

/-! ### TIME frames (R320 to R325) -/

theorem execSync_addsNoLight (p : Port) (f : Frame) (sinceStart residence : Nat) (s : State) :
    AddsNoLight s (execSync p f sinceStart residence s) := by
  simp [execSync]

theorem execFollowUp_addsNoLight (p : Port) (f : Frame) (s : State) : AddsNoLight s (execFollowUp p f s) := by
  refine State.timeFrame_addsNoLight _ _ _ _ _ ?_
  dsimp only; split
  · simp
  · split
    · simp
    · split <;> simp

theorem execFollowUpTimeout_addsNoLight (p : Port) (s : State) : AddsNoLight s (execFollowUpTimeout p s) := by
  simp [execFollowUpTimeout]

theorem execPdelayReq_addsNoLight (p : Port) (f : Frame) (turnaround : Nat) (s : State) : AddsNoLight s (execPdelayReq p f turnaround s) := by
  simp [execPdelayReq]

theorem execPdelayResp_addsNoLight (p : Port) (f : Frame) (sinceStart : Nat) (s : State) : AddsNoLight s (execPdelayResp p f sinceStart s) := by
  refine State.timeFrame_addsNoLight _ _ _ _ _ ?_
  dsimp only; split
  · simp
  · split <;> simp

theorem execPdelaySend_addsNoLight (p : Port) (s : State) : AddsNoLight s (execPdelaySend p s) := by
  simp [execPdelaySend]

theorem execPdelayTimeout_addsNoLight (p : Port) (s : State) : AddsNoLight s (execPdelayTimeout p s) := by
  simp [execPdelayTimeout]

theorem execDomainLossTimeout_addsNoLight (d0 d1 : Bool) (s : State) : AddsNoLight s (execDomainLossTimeout d0 d1 s) := by
  simp [execDomainLossTimeout]

theorem execHoldoverExpiry_addsNoLight (s : State) : AddsNoLight s (execHoldoverExpiry s) := by
  simp [execHoldoverExpiry]

theorem execSlewComplete_addsNoLight (s : State) : AddsNoLight s (execSlewComplete s) := by
  simp [execSlewComplete]

theorem execSwitchBack_addsNoLight (s : State) : AddsNoLight s (execSwitchBack s) := by
  simp [execSwitchBack]

/-! ### Triggers and captures (R335 to R339) -/

theorem execTimeCompareFire_addsNoLight (n : Fin 8) (s : State) : AddsNoLight s (execTimeCompareFire n s) := by
  simp [execTimeCompareFire]

theorem execAdcSnapshot_addsNoLight (s : State) : AddsNoLight s (execAdcSnapshot s) := by
  simp [execAdcSnapshot]

theorem execCaptureEdge_addsNoLight (source : Fin 7) (rising : Bool) (s : State) : AddsNoLight s (execCaptureEdge source rising s) := by
  simp [execCaptureEdge]

theorem execFrameLockEdge_addsNoLight (s : State) : AddsNoLight s (execFrameLockEdge s) := by
  simp [execFrameLockEdge]

theorem execFlockLost_addsNoLight (s : State) : AddsNoLight s (execFlockLost s) := by
  simp [execFlockLost]

/-! ### Rows -/

theorem execTrainDetected_addsNoLight (p : Port) (lane : Fin 4) (payload : BitVec 64) (trains : List (Fin 4 × BitVec 64)) (s : State) :
    AddsNoLight s (execTrainDetected p lane payload trains s) := by
  simp [execTrainDetected]

theorem execRateAgreed_addsNoLight (p : Port) (payload : BitVec 64) (s : State) : AddsNoLight s (execRateAgreed p payload s) := by
  unfold execRateAgreed; dsimp only; repeat' split
  all_goals simp

theorem execEqRequest_addsNoLight (p : Port) (lane : Fin 4) (payload : BitVec 64) (s : State) : AddsNoLight s (execEqRequest p lane payload s) := by
  simp [execEqRequest]

theorem execEqDone_addsNoLight (p : Port) (payload : BitVec 64) (timeout : Bool) (obs : List EqObs) (s : State) :
    AddsNoLight s (execEqDone p payload timeout obs s) := by
  simp [execEqDone]

theorem execAlignDone_addsNoLight (p : Port) (skews : List (BitVec 8)) (s : State) : AddsNoLight s (execAlignDone p skews s) := by
  simp [execAlignDone]

theorem execTrainingTimeout_addsNoLight (p : Port) (s : State) : AddsNoLight s (execTrainingTimeout p s) := by
  unfold execTrainingTimeout; repeat' split
  all_goals simp

theorem execQuietRetry_addsNoLight (p : Port) (s : State) : AddsNoLight s (execQuietRetry p s) := by
  simp [execQuietRetry]

theorem execSignalDetect_addsNoLight (p : Port) (s : State) : AddsNoLight s (execSignalDetect p s) := by
  simp [execSignalDetect]

theorem execBlockLock_addsNoLight (p : Port) (obs : LaneBlocks) (s : State) : AddsNoLight s (execBlockLock p obs s) := by
  simp [execBlockLock]

theorem execBlockLockLoss_addsNoLight (p : Port) (obs : LaneBlocks) (s : State) : AddsNoLight s (execBlockLockLoss p obs s) := by
  simp [execBlockLockLoss]

theorem execAmReceived_addsNoLight (p : Port) (lane : Fin 4) (blocks : List Block) (payload : BitVec 64) (skew : BitVec 8) (s : State) :
    AddsNoLight s (execAmReceived p lane blocks payload skew s) := by
  simp [execAmReceived]

theorem execMarkerLockLoss_addsNoLight (p : Port) (obs : LaneBlocks) (s : State) : AddsNoLight s (execMarkerLockLoss p obs s) := by
  simp [execMarkerLockLoss]

theorem execParkReceived_addsNoLight (p : Port) (_lane : Fin 4) (s : State) : AddsNoLight s (execParkReceived p _lane s) := by
  simp [execParkReceived]

theorem execRetrainTrigger_addsNoLight (p : Port) (lane : Fin 4) (s : State) : AddsNoLight s (execRetrainTrigger p lane s) := by
  simp [execRetrainTrigger]

theorem execRetrainFollow_addsNoLight (p : Port) (lane : Fin 4) (payload : BitVec 64) (s : State) :
    AddsNoLight s (execRetrainFollow p lane payload s) := by
  simp [execRetrainFollow]

theorem execAdaptFreeze_addsNoLight (p : Port) (lane : Fin 4) (s : State) : AddsNoLight s (execAdaptFreeze p lane s) := by
  simp [execAdaptFreeze]

theorem execAdaptResume_addsNoLight (p : Port) (lane : Fin 4) (s : State) : AddsNoLight s (execAdaptResume p lane s) := by
  simp [execAdaptResume]

theorem execEyeMeasureComplete_addsNoLight (p : Port) (eyes : List (BitVec 8)) (s : State) : AddsNoLight s (execEyeMeasureComplete p eyes s) := by
  simp [execEyeMeasureComplete]

theorem execPrbsSyncTimeout_addsNoLight (p : Port) (obs : LaneBits) (s : State) : AddsNoLight s (execPrbsSyncTimeout p obs s) := by
  simp [execPrbsSyncTimeout]

theorem execPrbsSyncLoss_addsNoLight (p : Port) (obs : LaneBits) (s : State) : AddsNoLight s (execPrbsSyncLoss p obs s) := by
  simp [execPrbsSyncLoss]

/-! ### Forwarding (R294) -/

theorem execForwardingDecision_addsNoLight (p : Port) (hdr : BitVec 128) (s : State) : AddsNoLight s (execForwardingDecision p hdr s) := by
  unfold execForwardingDecision; dsimp only; repeat' split
  all_goals simp

theorem execFrameTrailer_addsNoLight (p : Port) (payload : List Byte) (trailer : Word) (s : State) :
    AddsNoLight s (execFrameTrailer p payload trailer s) := by
  unfold execFrameTrailer; dsimp only; repeat' split
  all_goals simp

/-! ### Egress (R298) -/

theorem execEgressSend_addsNoLight (p : Port) (s : State) : AddsNoLight s (execEgressSend p s) := by
  unfold execEgressSend; dsimp only; repeat' split
  all_goals simp

/-! ### The tile map (R301 to R308) -/

theorem execAnnounceSend_addsNoLight (s : State) : AddsNoLight s (execAnnounceSend s) := by
  simp [execAnnounceSend]

theorem execAnnounce_addsNoLight (p : Port) (f : Frame) (s : State) : AddsNoLight s (execAnnounce p f s) := by
  refine State.mapFrame_addsNoLight _ _ _ _ _ ?_
  dsimp only; split
  · rw [State.raise_still]; split <;> simp
  · split <;> simp

theorem execDepart_addsNoLight (p : Port) (f : Frame) (s : State) : AddsNoLight s (execDepart p f s) := by
  simp [execDepart]

theorem execEntryStale_addsNoLight (id : BitVec 12) (s : State) : AddsNoLight s (execEntryStale id s) := by
  simp [execEntryStale]

theorem execAssign_addsNoLight (p : Port) (f : Frame) (s : State) : AddsNoLight s (execAssign p f s) := by
  simp [execAssign]

theorem execLoad_addsNoLight (p : Port) (f : Frame) (s : State) : AddsNoLight s (execLoad p f s) := by
  exact State.mapFrame_addsNoLight _ _ _ _ _ (by simp)

theorem execDone_addsNoLight (p : Port) (f : Frame) (s : State) : AddsNoLight s (execDone p f s) := by
  simp [execDone]

/-! ### Stream landing (R45 to R48, R312) -/

theorem execStream_addsNoLight (p : Port) (f : Frame) (s : State) : AddsNoLight s (execStream p f s) := by
  unfold execStream; dsimp only; repeat' split
  all_goals simp

/-! ### UPDATE frames (R355, R462) -/

theorem execUpdate_addsNoLight (p : Port) (f : Frame) (s : State) : AddsNoLight s (execUpdate p f s) := by
  simp [execUpdate]

/-! ### COMMIT (R54 to R59) -/

theorem execCommitAdmission_addsNoLight (s : State) : AddsNoLight s (execCommitAdmission s) := by
  unfold execCommitAdmission; dsimp only; repeat' split
  all_goals simp

/-! ### The take point (R49 to R52, R57, R68) -/

theorem execTakePoint_addsNoLight (n : Nat) (s : State) : AddsNoLight s (execTakePoint n s) := by
  unfold execTakePoint
  extract_lets commit s1
  split
  · simp
  · split
    next s2 rate hm =>
    extract_lets s3 s4 s5 keep s6 s7 s8
    have h2 : Dims s.still s2.still := by
      have := State.applyMode_dims s1.beginRings n (v := s.still) (by simp [s1])
      rwa [hm] at this
    have h3 : Dims s.still s3.still := by unfold s3; split <;> simp [h2]
    have h5 : Dims s.still s5.still := State.recheck_dims _ (State.layersTake_dims _ (by simp [s4, h3]))
    have h7 : Dims s.still s7.still := by unfold s7; split <;> simp [s6, h5]
    exact addsNoLight_done _ (by simp [s8, h7])

/-! ### The flip (R63, R69, R127, R139, R144, R181, R366) -/

theorem execFlip_addsNoLight (n : Nat) (s0 : State) : AddsNoLight s0 (execFlip n s0) := by
  unfold execFlip
  extract_lets s codes t0 s1 missed s2 s3 lag s4 s5 s6 s7 a s8 s9
  have h : Dims s0.still s.still := .ite (s0.localSample_dims n (.refl _)) (.refl _)
  have h1 : Dims s0.still s1.still :=
    .ite ((State.onRings_dims _ _).mpr (by simpa [t0] using h))
      (State.each_dims _ 64 (fun t k ht => t.latchRing_dims k ht) (by simpa [t0] using h))
  have h2 : Dims s0.still s2.still := by
    unfold s2; rw [State.formSignature_still]; exact .ite (by simpa using h1) h1
  have h3 : Dims s0.still s3.still := .ite h2 (State.takeSample_dims _ _ h2)
  have h5 : Dims s0.still s5.still := .ite (by simpa [s4] using h3) (by simpa [s4] using h3)
  have h6 : Dims s0.still s6.still := by simpa [s6] using h5
  have h7 : Dims s0.still s7.still := .ite h6 (State.each_dims _ 64 (fun t k ht => t.resendCells_dims k ht) h6)
  have ha : Dims s0.still a.still :=
    .ite h7 (State.measRound_dims _ (State.streamFrame_dims _ _ (State.each_dims _ 64 (fun t k ht => by simpa using ht) h7)))
  have h8 : Dims s0.still s8.still := .ite (by simpa using h7) (by simpa using ha)
  have h9 : Dims s0.still s9.still := .ite h8 (by simpa using h8)
  clear_value s9 s
  split
  · split
    · exact addsNoLight_done _ h
    · simp
  · exact addsNoLight_done _ (by simpa using h9)

/-! ### The pipeline (R74, R98) -/

theorem execBandComplete_addsNoLight (obs : BandObs) (s : State) : AddsNoLight s (execBandComplete obs s) := by
  simp [execBandComplete]

theorem execCalRecordRebuild_addsNoLight (s : State) : AddsNoLight s (execCalRecordRebuild s) := by
  have h1 : Dims s.still (s.col.rebuild.foldl (fun s b => s.each 4 fun s i => s.rebuildRec (4 * b + i)) s).still :=
    foldl_dims _ (fun t b ht => t.each_dims 4 (fun u i hu => by simpa using hu) ht) (.refl _)
  unfold execCalRecordRebuild; split
  · simp
  · exact addsNoLight_done _ (by simpa using h1)

/-! ### Read-back (R135 to R137, R146, R147, R163, R436) -/

theorem execRingRowSend_addsNoLight (ring : Fin 64) (s : State) : AddsNoLight s (execRingRowSend ring s) := by
  have h1 (k : Nat) (l : List Nat) : Dims s.still (l.foldl (fun t c =>
      t.onCell k c fun x => { x with sentCrc := BitVec.ofNat 16 (crc16 (s.frameBytes k c)) }) s).still :=
    foldl_dims _ (fun t c ht => by simpa using ht) (.refl _)
  unfold execRingRowSend; extract_lets k r words s1
  split
  · simp
  · exact addsNoLight_done _ (State.sendDue_dims _ _ (by simpa [s1] using h1 k _))

/-! ### Reception (R119, R121) -/

theorem execReadReturn_addsNoLight (ring : Fin 64) (kind : Fin 4) (slots : List SlotObs) (s : State) :
    AddsNoLight s (execReadReturn ring kind slots s) := by
  unfold execReadReturn; extract_lets k f
  split
  · simp
  · split
    next r1 got hg =>
    extract_lets s1 s2
    have hf (t : State) (o : SlotObs) (ht : Dims s.still t.still) : Dims s.still (f t k o).still := by
      unfold f; repeat' split
      all_goals simp [ht]
    have h2 : Dims s.still s2.still := foldl_dims _ hf (by simp [s1])
    exact addsNoLight_done _ (by split <;> simp [h2])

theorem execCellReenum_addsNoLight (ring : Fin 64) (answered : List (Fin 1024)) (found : BitVec 11) (s : State) :
    AddsNoLight s (execCellReenum ring answered found s) := by
  unfold execCellReenum; extract_lets k r back s1 s2 bad s3
  have h1 : Dims s.still s1.still := foldl_dims _ (fun t c ht => by simpa using ht) (.refl _)
  have h3 : Dims s.still s3.still := by simpa [s3, s2] using h1
  split
  · simp
  · simp [h3]

/-! ### Echoes, breaks and Hinge mode (R128, R149 to R154) -/

theorem execSyncEcho_addsNoLight (ring : Fin 64) (echo : EchoObs) (s : State) : AddsNoLight s (execSyncEcho ring echo s) := by
  simp [execSyncEcho]

theorem execBreakDetect_addsNoLight (ring : Fin 64) (s : State) : AddsNoLight s (execBreakDetect ring s) := by
  simp [execBreakDetect]

theorem execLocateComplete_addsNoLight (ring : Fin 64) (obs : LocateObs) (s : State) : AddsNoLight s (execLocateComplete ring obs s) := by
  unfold execLocateComplete; extract_lets k r a b s1 gap s2
  have h1 : Dims s.still s1.still := by simp [s1]
  have h2 : Dims s.still s2.still := by
    unfold s2; split
    · simpa using h1
    · rw [State.raise_still]
      exact foldl_dims _ (fun t c ht => foldl_dims _ (fun u p hu => by simpa using hu) ht) h1
  split
  · simp
  · split
    · simp
    · simp [h2]

theorem execRestoreProbe_addsNoLight (ring : Fin 64) (probe : ProbeObs) (s : State) : AddsNoLight s (execRestoreProbe ring probe s) := by
  simp [execRestoreProbe]

/-! ### LATCH (R129, R131, R153) -/

theorem execLatchLaunch_addsNoLight (ring : Fin 64) (s : State) : AddsNoLight s (execLatchLaunch ring s) := by
  unfold execLatchLaunch; dsimp only; repeat' split
  all_goals simp

/-! ### The Cairn path (R156, R157) -/

theorem execCairnLatch_addsNoLight (s : State) : AddsNoLight s (execCairnLatch s) := by
  simp [execCairnLatch]

theorem execCairnRestream_addsNoLight (upsets : List (Fin 65536 × BitVec 32)) (s : State) : AddsNoLight s (execCairnRestream upsets s) := by
  have h0 (f) : Dims s.still ((s.onRings f).ledEvaluate false).still := State.ledEvaluate_dims _ _ (by simp)
  unfold execCairnRestream; extract_lets s0 s1
  have h1 : Dims s.still s1.still := (State.onRings_dims _ _).mpr (h0 _)
  repeat' split
  · simp
  · simp [s0]
  · exact addsNoLight_done _ (State.cairnStream_dims _ h1)

theorem execCairnCompletionDeadline_addsNoLight (ring : Fin 64) (s : State) : AddsNoLight s (execCairnCompletionDeadline ring s) := by
  simp [execCairnCompletionDeadline]

/-! ### The LED rail: evaluation (chapter 5) -/

theorem execLedEvalTimeout_addsNoLight (s : State) : AddsNoLight s (execLedEvalTimeout s) := by
  simp [execLedEvalTimeout]

/-! ### Start (R167) -/

theorem execRailRampEnd_addsNoLight (vledMv : BitVec 13) (s : State) : AddsNoLight s (execRailRampEnd vledMv s) := by
  simp [execRailRampEnd]

theorem execRailStartTimeout_addsNoLight (vledMv : BitVec 13) (s : State) : AddsNoLight s (execRailStartTimeout vledMv s) := by
  simp [execRailStartTimeout]

/-! ### Protection (R169, R177) -/

theorem execRailOv_addsNoLight (s : State) : AddsNoLight s (execRailOv s) := by
  simp [execRailOv]

theorem execRailOcp_addsNoLight (phase : Fin 4) (s : State) : AddsNoLight s (execRailOcp phase s) := by
  simp [execRailOcp]

theorem execRailOcpSustained_addsNoLight (phase : Fin 4) (s : State) : AddsNoLight s (execRailOcpSustained phase s) := by
  simp [execRailOcpSustained]

theorem execPhaseImbalance_addsNoLight (phase : Fin 4) (s : State) : AddsNoLight s (execPhaseImbalance phase s) := by
  simp [execPhaseImbalance]

theorem execRailUv_addsNoLight (s : State) : AddsNoLight s (execRailUv s) := by
  simp [execRailUv]

theorem execRailUvHold_addsNoLight (s : State) : AddsNoLight s (execRailUvHold s) := by
  simp [execRailUvHold]

theorem execRailSense_addsNoLight (s : State) : AddsNoLight s (execRailSense s) := by
  simp [execRailSense]

theorem execAdcSelfcheck_addsNoLight (s : State) : AddsNoLight s (execAdcSelfcheck s) := by
  simp [execAdcSelfcheck]

/-! ### Limits (R171 to R173) -/

theorem execPowerLimitStep_addsNoLight (p100mw : BitVec 12) (s : State) : AddsNoLight s (execPowerLimitStep p100mw s) := by
  simp [execPowerLimitStep]

theorem execBoardDerateStep_addsNoLight (s : State) : AddsNoLight s (execBoardDerateStep s) := by
  simp [execBoardDerateStep]

/-! ### The die (R434) -/

theorem execDieSensorFail_addsNoLight (sensor : Fin 12) (reading : Int) (s : State) : AddsNoLight s (execDieSensorFail sensor reading s) := by
  simp [execDieSensorFail]

/-! ### Board temperatures (R437, R440) -/

theorem execThermalEvaluation_addsNoLight (obs : ThermObs) (s : State) : AddsNoLight s (execThermalEvaluation obs s) := by
  unfold execThermalEvaluation
  extract_lets s1 temps s2 s3 s4 s5 new s6
  have h3 : Dims s.still s3.still := by simp [s3, s2, s1]
  have h4 : Dims s.still s4.still := by unfold s4; split <;> simp [h3]
  have h5 : Dims s.still s5.still := by unfold s5; split <;> simp [h4]
  have h6 : Dims s.still s6.still := foldl_dims _ (fun t i ht => by split <;> simp [ht]) h5
  split
  · simp
  · exact addsNoLight_done _ (by split <;> simp [h6])

theorem execNtcCrosscheckFail_addsNoLight (ntc : Fin 8) (s : State) : AddsNoLight s (execNtcCrosscheckFail ntc s) := by
  simp [execNtcCrosscheckFail]

/-! ### Thresholds (R438, R439) -/

theorem execThresholdCrossing_addsNoLight (q : ThermQty) (up : Bool) (value : Int) (s : State) :
    AddsNoLight s (execThresholdCrossing q up value s) := by
  unfold execThresholdCrossing; dsimp only; repeat' split
  all_goals simp

/-! ### Self-trim (R445 to R448) -/

theorem execTDieMove_addsNoLight (s : State) : AddsNoLight s (execTDieMove s) := by
  simp [execTDieMove]

theorem execTrimDaily_addsNoLight (s : State) : AddsNoLight s (execTrimDaily s) := by
  simp [execTrimDaily]

theorem execSelfTrimStart_addsNoLight (s : State) : AddsNoLight s (execSelfTrimStart s) := by
  simp [execSelfTrimStart]

theorem execSelfTrimComplete_addsNoLight (trims : List (Int × Bool)) (s : State) : AddsNoLight s (execSelfTrimComplete trims s) := by
  unfold execSelfTrimComplete
  extract_lets t old bad s1
  have h1 : Dims s.still s1.still := by simp [s1]
  split
  · simp
  · exact addsNoLight_done _ (foldl_dims _ (fun t b ht => by split <;> simp [ht]) h1)

theorem execTrimTimeout_addsNoLight (s : State) : AddsNoLight s (execTrimTimeout s) := by
  simp [execTrimTimeout]

theorem execTrimApplyTimeout_addsNoLight (s : State) : AddsNoLight s (execTrimApplyTimeout s) := by
  simp [execTrimApplyTimeout]

/-! ### Takes (R75 to R77) -/

theorem execTakeLanding_addsNoLight (s : State) : AddsNoLight s (execTakeLanding s) := by
  unfold execTakeLanding; dsimp only; repeat' split
  all_goals simp

/-! ### Calibration updates (R96, R97) -/

theorem execCalUpdateComplete_addsNoLight (s : State) : AddsNoLight s (execCalUpdateComplete s) := by
  unfold execCalUpdateComplete; repeat' split
  all_goals simp

/-! ### Stores of user calibration (R110 to R112) -/

theorem execUserCalStoreComplete_addsNoLight (ok : Bool) (s : State) : AddsNoLight s (execUserCalStoreComplete ok s) := by
  have ho (t : State) (code : Byte) (f) (ht : Dims s.still t.still) : Dims s.still (((t.storeResult 3 code).onCol f).checkShutdown).still := by
    simpa using ht
  unfold execUserCalStoreComplete; split
  · simp
  · extract_lets half ended body gen s1 s2
    have h2 : Dims s.still s2.still := by
      unfold s2 s1; rw [State.onCol_still, State.flashStore_still, State.flashStore_still]; exact .refl _
    clear_value s2 body
    split
    · exact addsNoLight_done _ (ho _ _ _ (by simp))
    · refine addsNoLight_done _ ?_
      rw [State.fire_still]
      exact ho _ _ _ h2

/-! ### The ledger pass (R181 to R185) -/

theorem execLedgerPassComplete_addsNoLight (bad : LedgerErrs) (s : State) : AddsNoLight s (execLedgerPassComplete bad s) := by
  unfold execLedgerPassComplete; split
  · simp
  · exact addsNoLight_done _ (by simp)

/-! ### Ledger stores (R186 to R189, R207) -/

theorem execLedgerStoreStart_addsNoLight (s : State) : AddsNoLight s (execLedgerStoreStart s) := by
  unfold execLedgerStoreStart; split
  · simp
  · exact addsNoLight_done _ (s.storeLedger_dims (.refl _))

theorem execLedgerEraseComplete_addsNoLight (s : State) : AddsNoLight s (execLedgerEraseComplete s) := by
  unfold execLedgerEraseComplete; split <;> simp

theorem execLedgerStoreComplete_addsNoLight (s0 : State) : AddsNoLight s0 (execLedgerStoreComplete s0) := by
  unfold execLedgerStoreComplete; dsimp only; repeat' split
  all_goals simp

theorem execLedgerStoreFail_addsNoLight (s : State) : AddsNoLight s (execLedgerStoreFail s) := by
  unfold execLedgerStoreFail; dsimp only; repeat' split
  all_goals simp

theorem execLedgerStoreRetry_addsNoLight (s : State) : AddsNoLight s (execLedgerStoreRetry s) := by
  simp [execLedgerStoreRetry]

theorem execPlanRewriteComplete_addsNoLight (s : State) : AddsNoLight s (execPlanRewriteComplete s) := by
  unfold execPlanRewriteComplete; split
  · simp
  · split
    · simp
    · exact addsNoLight_done _ (by simp)

/-! ### The engine’s own margins (R202 to R206) -/

theorem execAvsEvaluation_addsNoLight (slackPs : List (BitVec 10)) (written : Bool) (s : State) :
    AddsNoLight s (execAvsEvaluation slackPs written s) := by
  simp [execAvsEvaluation]

theorem execAvsCheck_addsNoLight (ch17Mv : BitVec 12) (s : State) : AddsNoLight s (execAvsCheck ch17Mv s) := by
  simp [execAvsCheck]

theorem execMemEyeCheck_addsNoLight (eyes : List (BitVec 8)) (s : State) : AddsNoLight s (execMemEyeCheck eyes s) := by
  simp [execMemEyeCheck]

theorem execDqsTracking_addsNoLight (s : State) : AddsNoLight s (execDqsTracking s) := by
  simp [execDqsTracking]

theorem execLaneMarginCheck_addsNoLight (eyesA eyesB : List (BitVec 8)) (s : State) : AddsNoLight s (execLaneMarginCheck eyesA eyesB s) := by
  simp [execLaneMarginCheck]

theorem execNvmScrub_addsNoLight (obs : ScrubObs) (s : State) : AddsNoLight s (execNvmScrub obs s) := by
  unfold execNvmScrub; dsimp only; repeat' split
  all_goals simp

/-! ### Inputs (R382 to R385) -/

theorem execInputSafe_addsNoLight (input : InputAB) (ch : Bool) (s : State) : AddsNoLight s (execInputSafe input ch s) := by
  simp [execInputSafe]

theorem execInputHealthy_addsNoLight (input : InputAB) (ch : Bool) (pressMs : Nat) (s : State) :
    AddsNoLight s (execInputHealthy input ch pressMs s) := by
  simp [execInputHealthy]

theorem execTestPulse_addsNoLight (output failA failB : Bool) (s : State) : AddsNoLight s (execTestPulse output failA failB s) := by
  unfold execTestPulse; split
  · exact addsNoLight_done _ (by simp)
  · simp

theorem execInputDiscrepancy_addsNoLight (input : InputAB) (s : State) : AddsNoLight s (execInputDiscrepancy input s) := by
  simp [execInputDiscrepancy]

/-! ### Acknowledgement (R376, R397) -/

theorem execAckPress_addsNoLight (s : State) : AddsNoLight s (execAckPress s) := by
  simp [execAckPress]

/-! ### Ticks and checks (R374, R379, R380, R400) -/

theorem execSafetyTick_addsNoLight (obs : TickObs) (s : State) : AddsNoLight s (execSafetyTick obs s) := by
  simp [execSafetyTick]

theorem execFadeDone_addsNoLight (s : State) : AddsNoLight s (execFadeDone s) := by
  simp [execFadeDone]

theorem execSafetyXcompare_addsNoLight (s : State) : AddsNoLight s (execSafetyXcompare s) := by
  simp [execSafetyXcompare]

theorem execAliveTimeout_addsNoLight (s : State) : AddsNoLight s (execAliveTimeout s) := by
  simp [execAliveTimeout]

theorem execSloCheck_addsNoLight (stage : Fin 3) (obs : SloObs) (s : State) : AddsNoLight s (execSloCheck stage obs s) := by
  simp [execSloCheck]

theorem execSsgDriveEnable_addsNoLight (s : State) : AddsNoLight s (execSsgDriveEnable s) := by
  simp [execSsgDriveEnable]

/-! ### The black channel (R389 to R396) -/

theorem execHeartbeat_addsNoLight (p : Port) (pdu : List Byte) (s : State) : AddsNoLight s (execHeartbeat p pdu s) := by
  simp [execHeartbeat]

theorem execDemand_addsNoLight (p : Port) (pdu : List Byte) (s : State) : AddsNoLight s (execDemand p pdu s) := by
  refine State.pdu_addsNoLight _ _ _ _ _ _ (fun t ht => t.bcDemand_dims pdu ht) ?_
  split <;> simp

theorem execAck_addsNoLight (p : Port) (pdu : List Byte) (s : State) : AddsNoLight s (execAck p pdu s) := by
  exact State.pdu_addsNoLight _ _ _ _ _ _ (fun t ht => by simp [ht]) (.refl _)

theorem execStatusPdu_addsNoLight (p : Port) (pdu : List Byte) (s : State) : AddsNoLight s (execStatusPdu p pdu s) := by
  simp [execStatusPdu]

theorem execBcWatchdog_addsNoLight (s : State) : AddsNoLight s (execBcWatchdog s) := by
  simp [execBcWatchdog]

theorem execBcDemandTimeout_addsNoLight (s : State) : AddsNoLight s (execBcDemandTimeout s) := by
  simp [execBcDemandTimeout]

theorem execDemandRepeat_addsNoLight (s : State) : AddsNoLight s (execDemandRepeat s) := by
  simp [execDemandRepeat]

theorem execStatusPduSend_addsNoLight (s : State) : AddsNoLight s (execStatusPduSend s) := by
  simp [execStatusPduSend]

theorem execSafetyStrapChanged_addsNoLight (straps : BitVec 6) (s : State) : AddsNoLight s (execSafetyStrapChanged straps s) := by
  simp [execSafetyStrapChanged]

/-! ### Conditions that end -/

theorem execFaultEventExpiry_addsNoLight (source : BitVec 8) (detail : BitVec 16) (s : State) :
    AddsNoLight s (execFaultEventExpiry source detail s) := by
  simp [execFaultEventExpiry]

theorem execHandlingEnd_addsNoLight (number : Word) (s : State) : AddsNoLight s (execHandlingEnd number s) := by
  simp [execHandlingEnd]

theorem execFaultPairHealthy_addsNoLight (s : State) : AddsNoLight s (execFaultPairHealthy s) := by
  simp [execFaultPairHealthy]

theorem execFltPairReadback_addsNoLight (s : State) : AddsNoLight s (execFltPairReadback s) := by
  simp [execFltPairReadback]

/-! ### Faults that the outside world reports -/

theorem execFlashFail_addsNoLight (s : State) : AddsNoLight s (execFlashFail s) := by
  simp [execFlashFail]

theorem execCompInternal_addsNoLight (s : State) : AddsNoLight s (execCompInternal s) := by
  simp [execCompInternal]

theorem execColourInternal_addsNoLight (s : State) : AddsNoLight s (execColourInternal s) := by
  simp [execColourInternal]

theorem execTumblerParity_addsNoLight (s : State) : AddsNoLight s (execTumblerParity s) := by
  simp [execTumblerParity]

theorem execWardEntropy_addsNoLight (s : State) : AddsNoLight s (execWardEntropy s) := by
  simp [execWardEntropy]

theorem execWardSealedEcc_addsNoLight (s : State) : AddsNoLight s (execWardSealedEcc s) := by
  simp [execWardSealedEcc]

/-! ### Check units (R425 to R430) -/

theorem execChkDrainComplete_addsNoLight (u : Fin 4) (s : State) : AddsNoLight s (execChkDrainComplete u s) := by
  simp [execChkDrainComplete]

theorem execAliveDeadline_addsNoLight (u : Fin 4) (s : State) : AddsNoLight s (execAliveDeadline u s) := by
  simp [execAliveDeadline]

/-! ### Stores (R453, R454, R457) -/

theorem execNvmStoreComplete_addsNoLight (kind : NvmJob) (ok : Bool) (s : State) : AddsNoLight s (execNvmStoreComplete kind ok s) := by
  unfold execNvmStoreComplete; repeat' split
  all_goals simp

theorem execBackgroundEraseDone_addsNoLight (kind : NvmJob) (s : State) : AddsNoLight s (execBackgroundEraseDone kind s) := by
  simp [execBackgroundEraseDone]

/-! ### Staging (R461 to R463) -/

theorem execSlotEraseComplete_addsNoLight (s : State) : AddsNoLight s (execSlotEraseComplete s) := by
  simp [execSlotEraseComplete]

theorem execStagingComplete_addsNoLight (s : State) : AddsNoLight s (execStagingComplete s) := by
  simp [execStagingComplete]

/-! ### Trials (R466, R467) -/

theorem execTrialConfirm_addsNoLight (s : State) : AddsNoLight s (execTrialConfirm s) := by
  simp [execTrialConfirm]

theorem execTrialTimerExpiry_addsNoLight (s : State) : AddsNoLight s (execTrialTimerExpiry s) := by
  unfold execTrialTimerExpiry; extract_lets s1
  have h1 : Dims s.still s1.still := by simp [s1]
  repeat' split
  · simp
  · simp
  · exact addsNoLight_done _ h1
  · exact addsNoLight_done _ (State.startLedger_dims _ h1)

/-! ### The Cairn plane (R455, R469, R470) -/

theorem execCairnStoreComplete_addsNoLight (ok : Bool) (s : State) : AddsNoLight s (execCairnStoreComplete ok s) := by
  simp [execCairnStoreComplete]

theorem execCairnReload_addsNoLight (s : State) : AddsNoLight s (execCairnReload s) := by
  simp [execCairnReload]

/-! ### The log (R454, R472) -/

theorem execLogAppend_addsNoLight (s : State) : AddsNoLight s (execLogAppend s) := by
  unfold execLogAppend; dsimp only; repeat' split
  all_goals simp

/-! ### Single accesses -/

theorem execRegisterWrite_addsNoLight (src : Source) (addr : Word) (w : Word) (s : State) : AddsNoLight s (execRegisterWrite src addr w s) := by
  simp [execRegisterWrite]

theorem execRegisterRead_addsNoLight (src : Source) (addr : Word) (consume : Bool) (s : State) :
    AddsNoLight s (execRegisterRead src addr consume s) := by
  simp [execRegisterRead]

theorem execHoldMaxS_addsNoLight (src : Source) (w : Word) (s : State) : AddsNoLight s (execHoldMaxS src w s) := by
  simp [execHoldMaxS]

theorem execCompareArm_addsNoLight (src : Source) (n : Fin 8) (w : Word) (s : State) : AddsNoLight s (execCompareArm src n w s) := by
  simp [execCompareArm]

theorem execAdcSnapshotArm_addsNoLight (src : Source) (w : Word) (s : State) : AddsNoLight s (execAdcSnapshotArm src w s) := by
  simp [execAdcSnapshotArm]

theorem execTimeCapSw_addsNoLight (src : Source) (w : Word) (s : State) : AddsNoLight s (execTimeCapSw src w s) := by
  simp [execTimeCapSw]

theorem execTimeCapData0Read_addsNoLight (src : Source) (consume : Bool) (s : State) : AddsNoLight s (execTimeCapData0Read src consume s) := by
  simp [execTimeCapData0Read]

theorem execTimeNowRead_addsNoLight (src : Source) (s : State) : AddsNoLight s (execTimeNowRead src s) := by
  simp [execTimeNowRead]

theorem execTimeLocalRead_addsNoLight (src : Source) (s : State) : AddsNoLight s (execTimeLocalRead src s) := by
  simp [execTimeLocalRead]

theorem execCompCommit_addsNoLight (src : Source) (w : Word) (s : State) : AddsNoLight s (execCompCommit src w s) := by
  simp [execCompCommit]

theorem execColTake_addsNoLight (src : Source) (w : Word) (s : State) : AddsNoLight s (execColTake src w s) := by
  simp [execColTake]

theorem execColEnvData_addsNoLight (src : Source) (w : Word) (s : State) : AddsNoLight s (execColEnvData src w s) := by
  simp [execColEnvData]

theorem execColEnvFill_addsNoLight (src : Source) (w : Word) (s : State) : AddsNoLight s (execColEnvFill src w s) := by
  simp [execColEnvFill]

theorem execColTfData_addsNoLight (src : Source) (w : Word) (s : State) : AddsNoLight s (execColTfData src w s) := by
  simp [execColTfData]

theorem execVfSweepStart_addsNoLight (src : Source) (w : Word) (s : State) : AddsNoLight s (execVfSweepStart src w s) := by
  simp [execVfSweepStart]

theorem execOsSweepStart_addsNoLight (src : Source) (w : Word) (s : State) : AddsNoLight s (execOsSweepStart src w s) := by
  simp [execOsSweepStart]

theorem execSweepStop_addsNoLight (src : Source) (w : Word) (s : State) : AddsNoLight s (execSweepStop src w s) := by
  simp [execSweepStop]

theorem execClrRtFence_addsNoLight (src : Source) (w : Word) (s : State) : AddsNoLight s (execClrRtFence src w s) := by
  simp [execClrRtFence]

theorem execStoreNow_addsNoLight (src : Source) (w : Word) (s : State) : AddsNoLight s (execStoreNow src w s) := by
  simp [execStoreNow]

theorem execPlanNow_addsNoLight (src : Source) (w : Word) (s : State) : AddsNoLight s (execPlanNow src w s) := by
  simp [execPlanNow]

theorem execClrLaneDerate_addsNoLight (src : Source) (w : Word) (s : State) : AddsNoLight s (execClrLaneDerate src w s) := by
  simp [execClrLaneDerate]

theorem execTumStart_addsNoLight (src : Source) (w : Word) (s : State) : AddsNoLight s (execTumStart src w s) := by
  simp [execTumStart]

theorem execTumHalt_addsNoLight (src : Source) (w : Word) (s : State) : AddsNoLight s (execTumHalt src w s) := by
  simp [execTumHalt]

theorem execProgStore_addsNoLight (src : Source) (w : Word) (s : State) : AddsNoLight s (execProgStore src w s) := by
  simp [execProgStore]

theorem execTumDbData_addsNoLight (src : Source) (consume : Bool) (s : State) : AddsNoLight s (execTumDbData src consume s) := by
  simp [execTumDbData]

theorem execRetrain_addsNoLight (src : Source) (p : Port) (w : Word) (s : State) : AddsNoLight s (execRetrain src p w s) := by
  simp [execRetrain]

theorem execClrFence_addsNoLight (src : Source) (p : Port) (w : Word) (s : State) : AddsNoLight s (execClrFence src p w s) := by
  simp [execClrFence]

theorem execPortEnable_addsNoLight (src : Source) (p : Port) (w : Word) (s : State) : AddsNoLight s (execPortEnable src p w s) := by
  simp [execPortEnable]

theorem execLnkEye_addsNoLight (src : Source) (p : Port) (w : Word) (s : State) : AddsNoLight s (execLnkEye src p w s) := by
  simp [execLnkEye]

theorem execTestEn_addsNoLight (src : Source) (p : Port) (w : Word) (s : State) : AddsNoLight s (execTestEn src p w s) := by
  simp [execTestEn]

theorem execTestExit_addsNoLight (src : Source) (p : Port) (w : Word) (s : State) : AddsNoLight s (execTestExit src p w s) := by
  simp [execTestExit]

theorem execLnkInject_addsNoLight (src : Source) (p : Port) (w : Word) (s : State) : AddsNoLight s (execLnkInject src p w s) := by
  simp [execLnkInject]

theorem execNvmUpdData_addsNoLight (src : Source) (w : Word) (s : State) : AddsNoLight s (execNvmUpdData src w s) := by
  simp [execNvmUpdData]

theorem execKeyLoad_addsNoLight (src : Source) (w : Word) (s : State) : AddsNoLight s (execKeyLoad src w s) := by
  simp [execKeyLoad]

theorem execKeyClear_addsNoLight (src : Source) (w : Word) (s : State) : AddsNoLight s (execKeyClear src w s) := by
  simp [execKeyClear]

theorem execFltInject_addsNoLight (src : Source) (w : Word) (s : State) : AddsNoLight s (execFltInject src w s) := by
  simp [execFltInject]

theorem execFltInjectClear_addsNoLight (src : Source) (w : Word) (s : State) : AddsNoLight s (execFltInjectClear src w s) := by
  simp [execFltInjectClear]

theorem execClrFirst_addsNoLight (src : Source) (w : Word) (s : State) : AddsNoLight s (execClrFirst src w s) := by
  simp [execClrFirst]

theorem execChkStart_addsNoLight (src : Source) (u : Fin 4) (w : Word) (s : State) : AddsNoLight s (execChkStart src u w s) := by
  simp [execChkStart]

theorem execChkDataB_addsNoLight (src : Source) (u : Fin 4) (w : Word) (s : State) : AddsNoLight s (execChkDataB src u w s) := by
  simp [execChkDataB]

theorem execChkDataH_addsNoLight (src : Source) (u : Fin 4) (w : Word) (s : State) : AddsNoLight s (execChkDataH src u w s) := by
  simp [execChkDataH]

theorem execChkDataW_addsNoLight (src : Source) (u : Fin 4) (w : Word) (s : State) : AddsNoLight s (execChkDataW src u w s) := by
  simp [execChkDataW]

theorem execChkClose_addsNoLight (src : Source) (u : Fin 4) (w : Word) (s : State) : AddsNoLight s (execChkClose src u w s) := by
  simp [execChkClose]

theorem execChkAliveFeed_addsNoLight (src : Source) (u : Fin 4) (w : Word) (s : State) : AddsNoLight s (execChkAliveFeed src u w s) := by
  simp [execChkAliveFeed]

theorem execChkRstatus_addsNoLight (src : Source) (u : Fin 4) (consume : Bool) (s : State) : AddsNoLight s (execChkRstatus src u consume s) := by
  simp [execChkRstatus]

theorem execRingSigCnt_addsNoLight (src : Source) (consume : Bool) (s : State) : AddsNoLight s (execRingSigCnt src consume s) := by
  simp [execRingSigCnt]

theorem execThermTrimCtrl_addsNoLight (src : Source) (w : Word) (s : State) : AddsNoLight s (execThermTrimCtrl src w s) := by
  simp [execThermTrimCtrl]

theorem execConfirm_addsNoLight (src : Source) (w : Word) (s : State) : AddsNoLight s (execConfirm src w s) := by
  simp [execConfirm]

theorem execCairnStart_addsNoLight (src : Source) (w : Word) (s : State) : AddsNoLight s (execCairnStart src w s) := by
  simp [execCairnStart]

theorem execNvmCairnData_addsNoLight (src : Source) (w : Word) (s : State) : AddsNoLight s (execNvmCairnData src w s) := by
  simp [execNvmCairnData]

theorem execCairnCommit_addsNoLight (src : Source) (w : Word) (s : State) : AddsNoLight s (execCairnCommit src w s) := by
  simp [execCairnCommit]

theorem execStreamContextWrite_addsNoLight (src : Source) (n : Fin 256) (words : List (Fin 4 × Word)) (s : State) :
    AddsNoLight s (execStreamContextWrite src n words s) := by
  simp [execStreamContextWrite]

/-! ### LDX and STX (R226) -/

theorem execLdx_addsNoLight (t : Fin 8) (rd ra : Fin 16) (imm : BitVec 18) (s : State) : AddsNoLight s (execLdx t rd ra imm s) := by
  simp [execLdx]

theorem execStx_addsNoLight (t : Fin 8) (rd ra : Fin 16) (imm : BitVec 18) (s : State) : AddsNoLight s (execStx t rd ra imm s) := by
  simp [execStx]

/-! ### Device operations (R234, R235) -/

theorem execLayer_addsNoLight (t : Fin 8) (rd ra rb : Fin 16) (s : State) : AddsNoLight s (execLayer t rd ra rb s) := by
  simp [execLayer]

theorem execTumblerCommit_addsNoLight (t : Fin 8) (rd ra : Fin 16) (s : State) : AddsNoLight s (execTumblerCommit t rd ra s) := by
  simp [execTumblerCommit]

theorem execTumblerMode_addsNoLight (t : Fin 8) (rd ra : Fin 16) (s : State) : AddsNoLight s (execTumblerMode t rd ra s) := by
  simp [execTumblerMode]

theorem execEnv_addsNoLight (t : Fin 8) (rd ra : Fin 16) (s : State) : AddsNoLight s (execEnv t rd ra s) := by
  simp [execEnv]

theorem execTumblerCal_addsNoLight (t : Fin 8) (rd ra : Fin 16) (s : State) : AddsNoLight s (execTumblerCal t rd ra s) := by
  simp [execTumblerCal]

theorem execTumblerMeas_addsNoLight (t : Fin 8) (rd ra : Fin 16) (s : State) : AddsNoLight s (execTumblerMeas t rd ra s) := by
  simp [execTumblerMeas]

theorem execTumblerStore_addsNoLight (t : Fin 8) (rd ra : Fin 16) (s : State) : AddsNoLight s (execTumblerStore t rd ra s) := by
  exact State.issue_addsNoLight _ _ _ _ fun x => State.deviceOp_dims _ _ _ _ _ _ (by simp) (.refl _)

theorem execSig_addsNoLight (t : Fin 8) (rd ra : Fin 16) (s : State) : AddsNoLight s (execSig t rd ra s) := by
  refine State.issue_addsNoLight _ _ _ _ fun x => ?_
  have h1 := s.each_dims 4 (f := fun s j => if (x.reg ra).getLsbD j then s.fire (28 + j) else s) (fun t j ht => by split <;> simp [ht]) (.refl s.still)
  simpa using h1

theorem execPost_addsNoLight (t : Fin 8) (rd ra rb : Fin 16) (s : State) : AddsNoLight s (execPost t rd ra rb s) := by
  simp [execPost]

theorem execSreq_addsNoLight (t : Fin 8) (rd : Fin 16) (imm : BitVec 18) (s : State) : AddsNoLight s (execSreq t rd imm s) := by
  refine State.issue_addsNoLight _ _ _ _ fun x => State.deviceOp_dims _ _ _ _ _ _ ?_ (.refl _)
  split <;> simp

/-! ### Registers and memory (R251) -/

theorem execPing_addsNoLight (q : CmdReq) (s : State) : AddsNoLight s (execPing q s) := by
  refine State.runCmd_addsNoLight _ _ _ _ _ fun t ht => ?_
  simp [ht]

theorem execRead_addsNoLight (q : CmdReq) (s : State) : AddsNoLight s (execRead q s) := by
  unfold execRead; extract_lets a n last
  refine State.runCmd_addsNoLight _ _ _ _ _ fun t ht => ?_
  dsimp only; repeat' split
  · simpa using ht
  · simpa using ht
  · exact State.readWords_dims _ _ _ _ ht

theorem execWrite_addsNoLight (q : CmdReq) (s : State) : AddsNoLight s (execWrite q s) := by
  unfold execWrite; extract_lets a ws src
  refine State.runCmd_addsNoLight _ _ _ _ _ fun t ht => ?_
  simp [ht]

/-! ### Composition, colour and measurement -/

theorem execCommit_addsNoLight (q : CmdReq) (s : State) : AddsNoLight s (execCommit q s) := by
  refine State.runCmd_addsNoLight _ _ _ _ _ fun t ht => ?_
  simp [ht]

theorem execMode_addsNoLight (q : CmdReq) (s : State) : AddsNoLight s (execMode q s) := by
  refine State.runCmd_addsNoLight _ _ _ _ _ fun t ht => ?_
  simp [ht]

theorem execColourTake_addsNoLight (q : CmdReq) (s : State) : AddsNoLight s (execColourTake q s) := by
  refine State.runCmd_addsNoLight _ _ _ _ _ fun t ht => ?_
  simp [ht]

theorem execCal_addsNoLight (q : CmdReq) (s : State) : AddsNoLight s (execCal q s) := by
  refine State.runCmd_addsNoLight _ _ _ _ _ fun t ht => ?_
  simp [ht]

theorem execMeas_addsNoLight (q : CmdReq) (s : State) : AddsNoLight s (execMeas q s) := by
  refine State.runCmd_addsNoLight _ _ _ _ _ fun t ht => ?_
  simp [ht]

theorem execStore_addsNoLight (q : CmdReq) (s : State) : AddsNoLight s (execStore q s) := by
  refine State.runCmd_addsNoLight _ _ _ _ _ fun t ht => ?_
  simp [ht]

theorem execDoorbell_addsNoLight (q : CmdReq) (s : State) : AddsNoLight s (execDoorbell q s) := by
  refine State.runCmd_addsNoLight _ _ _ _ _ fun t ht => ?_
  simp [ht]

theorem execProgLoad_addsNoLight (q : CmdReq) (s : State) : AddsNoLight s (execProgLoad q s) := by
  refine State.runCmd_addsNoLight _ _ _ _ _ fun t ht => ?_
  simp [ht]

/-! ### Light and safety -/

theorem execLightOff_addsNoLight (q : CmdReq) (s : State) : AddsNoLight s (execLightOff q s) := by
  refine State.runCmd_addsNoLight _ _ _ _ _ fun t ht => ?_
  simp

theorem execSafeReq_addsNoLight (q : CmdReq) (s : State) : AddsNoLight s (execSafeReq q s) := by
  refine State.runCmd_addsNoLight _ _ _ _ _ fun t ht => ?_
  split <;> simp [ht]

theorem execFaultAck_addsNoLight (q : CmdReq) (s : State) : AddsNoLight s (execFaultAck q s) := by
  refine State.runCmd_addsNoLight _ _ _ _ _ fun t ht => ?_
  simp [ht]

theorem execConfigRefresh_addsNoLight (q : CmdReq) (s : State) : AddsNoLight s (execConfigRefresh q s) := by
  refine State.runCmd_addsNoLight _ _ _ _ _ fun t ht => ?_
  have h1 (f g h) (hh : ∀ e, (h e).st = e.st ∧ (h e).beforeUpdate = e.beforeUpdate) :
      Dims s.still ((((t.onCmd f).onNvm g).onEng h).startSettings.startUserStore).still := by
    have := (State.onEng_dims (v := s.still) ((t.onCmd f).onNvm g) h (hh _).1 (hh _).2).mpr (by simpa using ht)
    simpa using this
  exact h1 _ _ _ fun e => ⟨rfl, rfl⟩

theorem execShutdown_addsNoLight (q : CmdReq) (s : State) : AddsNoLight s (execShutdown q s) := by
  refine State.runCmd_addsNoLight _ _ _ _ _ fun t ht => ?_
  have h1 : Dims s.still (if t.eng.st == .lit then t.enterDark else t).still := by split <;> simp [ht]
  dsimp only; split
  · exact ht
  · generalize (if t.eng.st == .lit then t.enterDark else t) = u at h1 ⊢
    have h2 : Dims s.still (((u.onWard fun w => w.closeProof 0).storeLedger.startSettings).startUserStore).still := by
      have := State.storeLedger_dims (v := s.still) (u.onWard fun w => w.closeProof 0) (by simpa using h1)
      simpa using this
    simpa using h2

/-! ### Firmware update (R461 to R464) -/

theorem execUpdateStart_addsNoLight (q : CmdReq) (s : State) : AddsNoLight s (execUpdateStart q s) := by
  unfold execUpdateStart; extract_lets lenOk
  refine State.runCmd_addsNoLight _ _ _ _ _ fun t ht => ?_
  dsimp only; repeat' split
  all_goals simp [ht]

theorem execUpdateAbort_addsNoLight (q : CmdReq) (s : State) : AddsNoLight s (execUpdateAbort q s) := by
  refine State.runCmd_addsNoLight _ _ _ _ _ fun t ht => ?_
  simp [ht]

theorem execRestart_addsNoLight (q : CmdReq) (s : State) : AddsNoLight s (execRestart q s) := by
  refine State.runCmd_addsNoLight _ _ _ _ _ fun t ht => ?_
  simp [ht]

/-! ### Ward (chapter 12) -/

theorem execAttest_addsNoLight (q : CmdReq) (s : State) : AddsNoLight s (execAttest q s) := by
  refine State.runCmd_addsNoLight _ _ _ _ _ fun t ht => ?_
  simp [ht]

theorem execProofRead_addsNoLight (q : CmdReq) (s : State) : AddsNoLight s (execProofRead q s) := by
  refine State.runCmd_addsNoLight _ _ _ _ _ fun t ht => ?_
  simp [ht]

theorem execSessionOpen_addsNoLight (q : CmdReq) (s : State) : AddsNoLight s (execSessionOpen q s) := by
  refine State.runCmd_addsNoLight _ _ _ _ _ fun t ht => ?_
  dsimp only; repeat' split
  all_goals simp [ht]

theorem execOwnerEnroll_addsNoLight (q : CmdReq) (s : State) : AddsNoLight s (execOwnerEnroll q s) := by
  refine State.runCmd_addsNoLight _ _ _ _ _ fun t ht => ?_
  dsimp only; repeat' split
  all_goals simp [ht]

theorem execDebugUnlock_addsNoLight (q : CmdReq) (s : State) : AddsNoLight s (execDebugUnlock q s) := by
  unfold execDebugUnlock; extract_lets mode lenOk
  refine State.runCmd_addsNoLight _ _ _ _ _ fun t ht => ?_
  dsimp only; repeat' split
  all_goals simp [ht]

/-! ### Service (R22, R387, R471) -/

theorem execEnterService_addsNoLight (q : CmdReq) (s : State) : AddsNoLight s (execEnterService q s) := by
  refine State.runCmd_addsNoLight _ _ _ _ _ fun t ht => ?_
  simp

theorem execLeaveService_addsNoLight (q : CmdReq) (s : State) : AddsNoLight s (execLeaveService q s) := by
  refine State.runCmd_addsNoLight _ _ _ _ _ fun t ht => ?_
  simp

theorem execSafetyParam_addsNoLight (q : CmdReq) (s : State) : AddsNoLight s (execSafetyParam q s) := by
  refine State.runCmd_addsNoLight _ _ _ _ _ fun t ht => ?_
  dsimp only; repeat' split
  all_goals simp [ht]

theorem execNvmErase_addsNoLight (q : CmdReq) (s : State) : AddsNoLight s (execNvmErase q s) := by
  refine State.runCmd_addsNoLight _ _ _ _ _ fun t ht => ?_
  split
  · next u hu => split <;> simp [ht, t.eraseRegion_dims hu ht]
  · exact ht

/-! ### Other arrivals -/

theorem execBadOpcode_addsNoLight (opcode : Byte) (q : CmdReq) (s : State) : AddsNoLight s (execBadOpcode opcode q s) := by
  unfold execBadOpcode; extract_lets s0
  have h0 : Dims s.still s0.still := by unfold s0; split <;> simp
  repeat' split
  · simp
  · simp
  · exact State.resend_addsNoLight _ _ _ _ _ h0
  · exact addsNoLight_done _ (by simpa using h0)

theorem execServiceReply_addsNoLight (s : State) : AddsNoLight s (execServiceReply s) := by
  simp [execServiceReply]

theorem execServiceWrite_addsNoLight (bits : List Bool) (s : State) : AddsNoLight s (execServiceWrite bits s) := by
  simp [execServiceWrite]

theorem execSealChange_addsNoLight (high : Bool) (s : State) : AddsNoLight s (execSealChange high s) := by
  simp [execSealChange]

theorem execPreviousSessionEnd_addsNoLight (s : State) : AddsNoLight s (execPreviousSessionEnd s) := by
  simp [execPreviousSessionEnd]

theorem execProofRecordSigned_addsNoLight (s : State) : AddsNoLight s (execProofRecordSigned s) := by
  simp [execProofRecordSigned]

theorem execDebugChallengeExpiry_addsNoLight (s : State) : AddsNoLight s (execDebugChallengeExpiry s) := by
  simp [execDebugChallengeExpiry]

/-! ### BOOT -/

theorem execBootStart_addsNoLight (obs : BootObs) (s : State) : AddsNoLight s (execBootStart obs s) := by
  unfold execBootStart; extract_lets s1 s2 s3
  have h1 : Dims s.still s1.still := s.bootFirst_dims obs
  have h2 : Dims s.still s2.still := by simpa [s2] using h1
  have h3 : Dims s.still s3.still := State.bootAgeing_dims _ (State.bootColour_dims _ (State.bootCalibration_dims _ h2))
  clear_value s3 s2 s1
  repeat' split
  · simp
  · exact addsNoLight_done _ ((s1.dims_of_eng rfl rfl).mpr h1)
  · exact addsNoLight_done _ (by simpa using h1)
  · exact addsNoLight_done _ ((s3.dims_of_eng rfl rfl).mpr h3)

/-! ### The end of BOOT -/

theorem execBootComplete_addsNoLight (ms : BitVec 16) (rings : List RingBring) (s : State) : AddsNoLight s (execBootComplete ms rings s) := by
  simp [execBootComplete]

/-! ### Power entry, supplies, clocks, resets and departure (chapter 17) -/

theorem execHousekeepingUp_addsNoLight (s : State) : AddsNoLight s (execHousekeepingUp s) := by
  unfold execHousekeepingUp; split
  · simp
  · exact addsNoLight_done _ (State.dims_of_st (by simp) (by simp))

theorem execHousekeepingLost_addsNoLight (s : State) : AddsNoLight s (execHousekeepingLost s) := by
  unfold execHousekeepingLost; split
  · simp
  · exact addsNoLight_done _ (State.dims_of_st (by simp) (by simp))

theorem execInrushStart_addsNoLight (s : State) : AddsNoLight s (execInrushStart s) := by
  simp [execInrushStart]

theorem execInrushComplete_addsNoLight (ms : BitVec 16) (s : State) : AddsNoLight s (execInrushComplete ms s) := by
  simp [execInrushComplete]

theorem execInrushTimeout_addsNoLight (s : State) : AddsNoLight s (execInrushTimeout s) := by
  simp [execInrushTimeout]

theorem execBreakerTrip_addsNoLight (s : State) : AddsNoLight s (execBreakerTrip s) := by
  simp [execBreakerTrip]

theorem execBreakerOverload_addsNoLight (s : State) : AddsNoLight s (execBreakerOverload s) := by
  simp [execBreakerOverload]

theorem execBusUv_addsNoLight (s : State) : AddsNoLight s (execBusUv s) := by
  simp [execBusUv]

theorem execTripCooldownEnd_addsNoLight (s : State) : AddsNoLight s (execTripCooldownEnd s) := by
  simp [execTripCooldownEnd]

theorem execBusOv_addsNoLight (s : State) : AddsNoLight s (execBusOv s) := by
  simp [execBusOv]

theorem execPowerGoodRise_addsNoLight (which : PowerGood) (s : State) : AddsNoLight s (execPowerGoodRise which s) := by
  unfold execPowerGoodRise; dsimp only; repeat' split
  all_goals simp

theorem execSequenceTimeout_addsNoLight (s : State) : AddsNoLight s (execSequenceTimeout s) := by
  simp [execSequenceTimeout]

theorem execSequenceRetry_addsNoLight (s : State) : AddsNoLight s (execSequenceRetry s) := by
  simp [execSequenceRetry]

theorem execSupplyShutdown_addsNoLight (s : State) : AddsNoLight s (execSupplyShutdown s) := by
  simp [execSupplyShutdown]

theorem execCoreSupplyFault_addsNoLight (supply : Supply) (s : State) : AddsNoLight s (execCoreSupplyFault supply s) := by
  unfold execCoreSupplyFault; repeat' split
  all_goals simp

theorem execHousekeepingUv_addsNoLight (s : State) : AddsNoLight s (execHousekeepingUv s) := by
  simp [execHousekeepingUv]

theorem execRefclkLoss_addsNoLight (s : State) : AddsNoLight s (execRefclkLoss s) := by
  simp [execRefclkLoss]

theorem execPllUnlock_addsNoLight (s : State) : AddsNoLight s (execPllUnlock s) := by
  simp [execPllUnlock]

theorem execClockReset_addsNoLight (s : State) : AddsNoLight s (execClockReset s) := by
  simp [execClockReset]

theorem execClockRecovered_addsNoLight (s : State) : AddsNoLight s (execClockRecovered s) := by
  simp [execClockRecovered]

theorem execPinReset_addsNoLight (edge : PinEdge) (s : State) : AddsNoLight s (execPinReset edge s) := by
  unfold execPinReset; repeat' split
  all_goals simp

theorem execMgmtWatchdog_addsNoLight (s : State) : AddsNoLight s (execMgmtWatchdog s) := by
  simp [execMgmtWatchdog]

theorem execJtagSystemReset_addsNoLight (s : State) : AddsNoLight s (execJtagSystemReset s) := by
  simp [execJtagSystemReset]

theorem execDeparture_addsNoLight (s : State) : AddsNoLight s (execDeparture s) := by
  unfold execDeparture; extract_lets s1
  have h1 : Dims s.still s1.still := by
    unfold s1; rw [State.stopStores_still]
    exact (State.dims_of_eng s rfl rfl).mpr (.refl _)
  clear_value s1
  repeat' split
  · simp
  · simp
  · exact addsNoLight_done _ (by simp [h1])

theorem execPortPark_addsNoLight (p : Port) (s : State) : AddsNoLight s (execPortPark p s) := by
  simp [execPortPark]

theorem execDepartureReset_addsNoLight (us : BitVec 16) (s : State) : AddsNoLight s (execDepartureReset us s) := by
  simp [execDepartureReset]

theorem execDepartureGateOff_addsNoLight (s : State) : AddsNoLight s (execDepartureGateOff s) := by
  simp [execDepartureGateOff]

theorem execJoinComplete_addsNoLight (ms : BitVec 16) (s : State) : AddsNoLight s (execJoinComplete ms s) := by
  simp [execJoinComplete]

theorem execShutdownReset_addsNoLight (s : State) : AddsNoLight s (execShutdownReset s) := by
  simp [execShutdownReset]

theorem execThermalRelease_addsNoLight (reading : Int) (s : State) : AddsNoLight s (execThermalRelease reading s) := by
  simp [execThermalRelease]

/-! ### The arithmetic, memory, control-flow and wait instructions of Tumbler (R224 to R233) -/

theorem execAdd_addsNoLight (t : Fin 8) (rd ra rb : Fin 16) (s : State) : AddsNoLight s (execAdd t rd ra rb s) := by
  simp [execAdd]

theorem execSub_addsNoLight (t : Fin 8) (rd ra rb : Fin 16) (s : State) : AddsNoLight s (execSub t rd ra rb s) := by
  simp [execSub]

theorem execAnd_addsNoLight (t : Fin 8) (rd ra rb : Fin 16) (s : State) : AddsNoLight s (execAnd t rd ra rb s) := by
  simp [execAnd]

theorem execOr_addsNoLight (t : Fin 8) (rd ra rb : Fin 16) (s : State) : AddsNoLight s (execOr t rd ra rb s) := by
  simp [execOr]

theorem execXor_addsNoLight (t : Fin 8) (rd ra rb : Fin 16) (s : State) : AddsNoLight s (execXor t rd ra rb s) := by
  simp [execXor]

theorem execShl_addsNoLight (t : Fin 8) (rd ra rb : Fin 16) (s : State) : AddsNoLight s (execShl t rd ra rb s) := by
  simp [execShl]

theorem execShr_addsNoLight (t : Fin 8) (rd ra rb : Fin 16) (s : State) : AddsNoLight s (execShr t rd ra rb s) := by
  simp [execShr]

theorem execSar_addsNoLight (t : Fin 8) (rd ra rb : Fin 16) (s : State) : AddsNoLight s (execSar t rd ra rb s) := by
  simp [execSar]

theorem execMul_addsNoLight (t : Fin 8) (rd ra rb : Fin 16) (s : State) : AddsNoLight s (execMul t rd ra rb s) := by
  simp [execMul]

theorem execMulhu_addsNoLight (t : Fin 8) (rd ra rb : Fin 16) (s : State) : AddsNoLight s (execMulhu t rd ra rb s) := by
  simp [execMulhu]

theorem execDivu_addsNoLight (t : Fin 8) (rd ra rb : Fin 16) (s : State) : AddsNoLight s (execDivu t rd ra rb s) := by
  simp [execDivu]

theorem execRemu_addsNoLight (t : Fin 8) (rd ra rb : Fin 16) (s : State) : AddsNoLight s (execRemu t rd ra rb s) := by
  simp [execRemu]

theorem execMin_addsNoLight (t : Fin 8) (rd ra rb : Fin 16) (s : State) : AddsNoLight s (execMin t rd ra rb s) := by
  simp [execMin]

theorem execMax_addsNoLight (t : Fin 8) (rd ra rb : Fin 16) (s : State) : AddsNoLight s (execMax t rd ra rb s) := by
  simp [execMax]

theorem execSlt_addsNoLight (t : Fin 8) (rd ra rb : Fin 16) (s : State) : AddsNoLight s (execSlt t rd ra rb s) := by
  simp [execSlt]

theorem execSltu_addsNoLight (t : Fin 8) (rd ra rb : Fin 16) (s : State) : AddsNoLight s (execSltu t rd ra rb s) := by
  simp [execSltu]

theorem execAddi_addsNoLight (t : Fin 8) (rd ra : Fin 16) (imm : BitVec 18) (s : State) : AddsNoLight s (execAddi t rd ra imm s) := by
  simp [execAddi]

theorem execAndi_addsNoLight (t : Fin 8) (rd ra : Fin 16) (imm : BitVec 18) (s : State) : AddsNoLight s (execAndi t rd ra imm s) := by
  simp [execAndi]

theorem execOri_addsNoLight (t : Fin 8) (rd ra : Fin 16) (imm : BitVec 18) (s : State) : AddsNoLight s (execOri t rd ra imm s) := by
  simp [execOri]

theorem execXori_addsNoLight (t : Fin 8) (rd ra : Fin 16) (imm : BitVec 18) (s : State) : AddsNoLight s (execXori t rd ra imm s) := by
  simp [execXori]

theorem execShli_addsNoLight (t : Fin 8) (rd ra : Fin 16) (imm : BitVec 5) (s : State) : AddsNoLight s (execShli t rd ra imm s) := by
  simp [execShli]

theorem execShri_addsNoLight (t : Fin 8) (rd ra : Fin 16) (imm : BitVec 5) (s : State) : AddsNoLight s (execShri t rd ra imm s) := by
  simp [execShri]

theorem execSari_addsNoLight (t : Fin 8) (rd ra : Fin 16) (imm : BitVec 5) (s : State) : AddsNoLight s (execSari t rd ra imm s) := by
  simp [execSari]

theorem execLui_addsNoLight (t : Fin 8) (rd : Fin 16) (imm : BitVec 18) (s : State) : AddsNoLight s (execLui t rd imm s) := by
  simp [execLui]

theorem execSlti_addsNoLight (t : Fin 8) (rd ra : Fin 16) (imm : BitVec 18) (s : State) : AddsNoLight s (execSlti t rd ra imm s) := by
  simp [execSlti]

theorem execLd_addsNoLight (t : Fin 8) (rd ra : Fin 16) (imm : BitVec 18) (s : State) : AddsNoLight s (execLd t rd ra imm s) := by
  simp [execLd]

theorem execLdb_addsNoLight (t : Fin 8) (rd ra : Fin 16) (imm : BitVec 18) (s : State) : AddsNoLight s (execLdb t rd ra imm s) := by
  simp [execLdb]

theorem execSt_addsNoLight (t : Fin 8) (rd ra : Fin 16) (imm : BitVec 18) (s : State) : AddsNoLight s (execSt t rd ra imm s) := by
  simp [execSt]

theorem execStb_addsNoLight (t : Fin 8) (rd ra : Fin 16) (imm : BitVec 18) (s : State) : AddsNoLight s (execStb t rd ra imm s) := by
  simp [execStb]

theorem execSwap_addsNoLight (t : Fin 8) (rd ra : Fin 16) (imm : BitVec 18) (s : State) : AddsNoLight s (execSwap t rd ra imm s) := by
  simp [execSwap]

theorem execBeq_addsNoLight (t : Fin 8) (rd ra : Fin 16) (off : BitVec 18) (s : State) : AddsNoLight s (execBeq t rd ra off s) := by
  simp [execBeq]

theorem execBne_addsNoLight (t : Fin 8) (rd ra : Fin 16) (off : BitVec 18) (s : State) : AddsNoLight s (execBne t rd ra off s) := by
  simp [execBne]

theorem execBlt_addsNoLight (t : Fin 8) (rd ra : Fin 16) (off : BitVec 18) (s : State) : AddsNoLight s (execBlt t rd ra off s) := by
  simp [execBlt]

theorem execBge_addsNoLight (t : Fin 8) (rd ra : Fin 16) (off : BitVec 18) (s : State) : AddsNoLight s (execBge t rd ra off s) := by
  simp [execBge]

theorem execBltu_addsNoLight (t : Fin 8) (rd ra : Fin 16) (off : BitVec 18) (s : State) : AddsNoLight s (execBltu t rd ra off s) := by
  simp [execBltu]

theorem execBgeu_addsNoLight (t : Fin 8) (rd ra : Fin 16) (off : BitVec 18) (s : State) : AddsNoLight s (execBgeu t rd ra off s) := by
  simp [execBgeu]

theorem execJmp_addsNoLight (t : Fin 8) (off : BitVec 18) (s : State) : AddsNoLight s (execJmp t off s) := by
  simp [execJmp]

theorem execJr_addsNoLight (t : Fin 8) (ra : Fin 16) (s : State) : AddsNoLight s (execJr t ra s) := by
  simp [execJr]

theorem execCall_addsNoLight (t : Fin 8) (off : BitVec 18) (s : State) : AddsNoLight s (execCall t off s) := by
  simp [execCall]

theorem execCallr_addsNoLight (t : Fin 8) (ra : Fin 16) (s : State) : AddsNoLight s (execCallr t ra s) := by
  simp [execCallr]

theorem execRet_addsNoLight (t : Fin 8) (s : State) : AddsNoLight s (execRet t s) := by
  refine State.issue_addsNoLight _ _ _ _ fun x => ?_
  split <;> simp

theorem execHalt_addsNoLight (t : Fin 8) (s : State) : AddsNoLight s (execHalt t s) := by
  simp [execHalt]

theorem execWaitf_addsNoLight (t : Fin 8) (rd : Fin 16) (imm : BitVec 18) (s : State) : AddsNoLight s (execWaitf t rd imm s) := by
  simp [execWaitf]

theorem execWaitt_addsNoLight (t : Fin 8) (rd ra rb : Fin 16) (s : State) : AddsNoLight s (execWaitt t rd ra rb s) := by
  simp [execWaitt]

theorem execWaitd_addsNoLight (t : Fin 8) (rd ra : Fin 16) (imm : BitVec 18) (s : State) : AddsNoLight s (execWaitd t rd ra imm s) := by
  simp [execWaitd]

theorem execWaite_addsNoLight (t : Fin 8) (rd ra : Fin 16) (imm : BitVec 18) (s : State) : AddsNoLight s (execWaite t rd ra imm s) := by
  simp [execWaite]

theorem execTime_addsNoLight (t : Fin 8) (rd : Fin 16) (sel : Fin 5) (s : State) : AddsNoLight s (execTime t rd sel s) := by
  simp [execTime]

theorem execIllegalInstruction_addsNoLight (t : Fin 8) (s : State) : AddsNoLight s (execIllegalInstruction t s) := by
  simp [execIllegalInstruction]

theorem execRunaway_addsNoLight (t : Fin 8) (s : State) : AddsNoLight s (execRunaway t s) := by
  simp [execRunaway]

theorem execWaiteTimeout_addsNoLight (t : Fin 8) (s : State) : AddsNoLight s (execWaiteTimeout t s) := by
  unfold execWaiteTimeout; repeat' split
  all_goals simp

/-! ### LIGHT_ON (R24) -/

theorem State.lightRefused_eq_false {s : State} : s.lightRefused = false ↔ s.eng.stale = false ∧ s.safeDemand = false ∧ s.criticalOpen = false := by
  simp [State.lightRefused, and_assoc]

theorem execLightOn_addsNoLight (q : CmdReq) (s : State) (h : s.eng.st ≠ .dark ∨ s.lightRefused = true) : AddsNoLight s (execLightOn q s) := by
  refine s.runCmd_addsNoLight_of_legal _ _ _ _ fun hr => ?_
  obtain ⟨hl, hb⟩ := hr rfl
  have hop : ∃ r, opRule 0x10 = some r ∧ r.legal = [.dark] := ⟨_, rfl, rfl⟩
  obtain ⟨r, hop, hleg⟩ := hop
  have hd : s.eng.st = .dark := by simpa [State.legal, hop, hleg] using hl
  simp_all

/-! ### The obligation -/

theorem exec_addsNoLight : (c : Instr) → (s : State) → (h : ∀ q, c ≠ .lightOn q) → AddsNoLight s (exec c s)
  | .housekeepingUp, s, _ => execHousekeepingUp_addsNoLight s
  | .housekeepingLost, s, _ => execHousekeepingLost_addsNoLight s
  | .inrushStart, s, _ => execInrushStart_addsNoLight s
  | .inrushComplete ms, s, _ => execInrushComplete_addsNoLight ms s
  | .inrushTimeout, s, _ => execInrushTimeout_addsNoLight s
  | .breakerTrip, s, _ => execBreakerTrip_addsNoLight s
  | .breakerOverload, s, _ => execBreakerOverload_addsNoLight s
  | .busUv, s, _ => execBusUv_addsNoLight s
  | .tripCooldownEnd, s, _ => execTripCooldownEnd_addsNoLight s
  | .busOv, s, _ => execBusOv_addsNoLight s
  | .powerGoodRise which, s, _ => execPowerGoodRise_addsNoLight which s
  | .sequenceTimeout, s, _ => execSequenceTimeout_addsNoLight s
  | .sequenceRetry, s, _ => execSequenceRetry_addsNoLight s
  | .supplyShutdown, s, _ => execSupplyShutdown_addsNoLight s
  | .coreSupplyFault supply, s, _ => execCoreSupplyFault_addsNoLight supply s
  | .housekeepingUv, s, _ => execHousekeepingUv_addsNoLight s
  | .refclkLoss, s, _ => execRefclkLoss_addsNoLight s
  | .pllUnlock, s, _ => execPllUnlock_addsNoLight s
  | .clockReset, s, _ => execClockReset_addsNoLight s
  | .clockRecovered, s, _ => execClockRecovered_addsNoLight s
  | .pinReset edge, s, _ => execPinReset_addsNoLight edge s
  | .mgmtWatchdog, s, _ => execMgmtWatchdog_addsNoLight s
  | .jtagSystemReset, s, _ => execJtagSystemReset_addsNoLight s
  | .departure, s, _ => execDeparture_addsNoLight s
  | .portPark p, s, _ => execPortPark_addsNoLight p s
  | .departureReset us, s, _ => execDepartureReset_addsNoLight us s
  | .departureGateOff, s, _ => execDepartureGateOff_addsNoLight s
  | .bootStart obs, s, _ => execBootStart_addsNoLight obs s
  | .bootComplete ms rings, s, _ => execBootComplete_addsNoLight ms rings s
  | .joinComplete ms, s, _ => execJoinComplete_addsNoLight ms s
  | .flip n, s, _ => execFlip_addsNoLight n s
  | .takePoint n, s, _ => execTakePoint_addsNoLight n s
  | .latchLaunch ring, s, _ => execLatchLaunch_addsNoLight ring s
  | .timeCompareFire n, s, _ => execTimeCompareFire_addsNoLight n s
  | .adcSnapshot, s, _ => execAdcSnapshot_addsNoLight s
  | .sync p f sinceStart residence, s, _ => execSync_addsNoLight p f sinceStart residence s
  | .followUp p f, s, _ => execFollowUp_addsNoLight p f s
  | .followUpTimeout p, s, _ => execFollowUpTimeout_addsNoLight p s
  | .pdelayReq p f turnaround, s, _ => execPdelayReq_addsNoLight p f turnaround s
  | .pdelayResp p f sinceStart, s, _ => execPdelayResp_addsNoLight p f sinceStart s
  | .pdelaySend p, s, _ => execPdelaySend_addsNoLight p s
  | .pdelayTimeout p, s, _ => execPdelayTimeout_addsNoLight p s
  | .domainLossTimeout d0 d1, s, _ => execDomainLossTimeout_addsNoLight d0 d1 s
  | .holdoverExpiry, s, _ => execHoldoverExpiry_addsNoLight s
  | .slewComplete, s, _ => execSlewComplete_addsNoLight s
  | .switchBack, s, _ => execSwitchBack_addsNoLight s
  | .captureEdge source rising, s, _ => execCaptureEdge_addsNoLight source rising s
  | .frameLockEdge, s, _ => execFrameLockEdge_addsNoLight s
  | .flockLost, s, _ => execFlockLost_addsNoLight s
  | .holdMaxS src w, s, _ => execHoldMaxS_addsNoLight src w s
  | .compareArm src n w, s, _ => execCompareArm_addsNoLight src n w s
  | .adcSnapshotArm src w, s, _ => execAdcSnapshotArm_addsNoLight src w s
  | .timeCapSw src w, s, _ => execTimeCapSw_addsNoLight src w s
  | .timeCapData0Read src consume, s, _ => execTimeCapData0Read_addsNoLight src consume s
  | .timeNowRead src, s, _ => execTimeNowRead_addsNoLight src s
  | .timeLocalRead src, s, _ => execTimeLocalRead_addsNoLight src s
  | .commitAdmission, s, _ => execCommitAdmission_addsNoLight s
  | .compCommit src w, s, _ => execCompCommit_addsNoLight src w s
  | .stream p f, s, _ => execStream_addsNoLight p f s
  | .takeLanding, s, _ => execTakeLanding_addsNoLight s
  | .colTake src w, s, _ => execColTake_addsNoLight src w s
  | .colEnvData src w, s, _ => execColEnvData_addsNoLight src w s
  | .colEnvFill src w, s, _ => execColEnvFill_addsNoLight src w s
  | .colTfData src w, s, _ => execColTfData_addsNoLight src w s
  | .bandComplete obs, s, _ => execBandComplete_addsNoLight obs s
  | .calRecordRebuild, s, _ => execCalRecordRebuild_addsNoLight s
  | .calUpdateComplete, s, _ => execCalUpdateComplete_addsNoLight s
  | .ringRowSend ring, s, _ => execRingRowSend_addsNoLight ring s
  | .readReturn ring kind slots, s, _ => execReadReturn_addsNoLight ring kind slots s
  | .syncEcho ring echo, s, _ => execSyncEcho_addsNoLight ring echo s
  | .breakDetect ring, s, _ => execBreakDetect_addsNoLight ring s
  | .locateComplete ring obs, s, _ => execLocateComplete_addsNoLight ring obs s
  | .restoreProbe ring probe, s, _ => execRestoreProbe_addsNoLight ring probe s
  | .cellReenum ring answered found, s, _ => execCellReenum_addsNoLight ring answered found s
  | .cairnLatch, s, _ => execCairnLatch_addsNoLight s
  | .cairnRestream upsets, s, _ => execCairnRestream_addsNoLight upsets s
  | .vfSweepStart src w, s, _ => execVfSweepStart_addsNoLight src w s
  | .osSweepStart src w, s, _ => execOsSweepStart_addsNoLight src w s
  | .sweepStop src w, s, _ => execSweepStop_addsNoLight src w s
  | .clrRtFence src w, s, _ => execClrRtFence_addsNoLight src w s
  | .ledEvalTimeout, s, _ => execLedEvalTimeout_addsNoLight s
  | .railRampEnd vledMv, s, _ => execRailRampEnd_addsNoLight vledMv s
  | .railStartTimeout vledMv, s, _ => execRailStartTimeout_addsNoLight vledMv s
  | .railOv, s, _ => execRailOv_addsNoLight s
  | .railOcp phase, s, _ => execRailOcp_addsNoLight phase s
  | .railOcpSustained phase, s, _ => execRailOcpSustained_addsNoLight phase s
  | .phaseImbalance phase, s, _ => execPhaseImbalance_addsNoLight phase s
  | .railUv, s, _ => execRailUv_addsNoLight s
  | .railUvHold, s, _ => execRailUvHold_addsNoLight s
  | .railSense, s, _ => execRailSense_addsNoLight s
  | .adcSelfcheck, s, _ => execAdcSelfcheck_addsNoLight s
  | .powerLimitStep p100mw, s, _ => execPowerLimitStep_addsNoLight p100mw s
  | .boardDerateStep, s, _ => execBoardDerateStep_addsNoLight s
  | .ledgerPassComplete bad, s, _ => execLedgerPassComplete_addsNoLight bad s
  | .ledgerStoreStart, s, _ => execLedgerStoreStart_addsNoLight s
  | .ledgerEraseComplete, s, _ => execLedgerEraseComplete_addsNoLight s
  | .ledgerStoreComplete, s, _ => execLedgerStoreComplete_addsNoLight s
  | .ledgerStoreFail, s, _ => execLedgerStoreFail_addsNoLight s
  | .ledgerStoreRetry, s, _ => execLedgerStoreRetry_addsNoLight s
  | .planRewriteComplete, s, _ => execPlanRewriteComplete_addsNoLight s
  | .storeNow src w, s, _ => execStoreNow_addsNoLight src w s
  | .planNow src w, s, _ => execPlanNow_addsNoLight src w s
  | .clrLaneDerate src w, s, _ => execClrLaneDerate_addsNoLight src w s
  | .avsEvaluation slackPs written, s, _ => execAvsEvaluation_addsNoLight slackPs written s
  | .avsCheck ch17Mv, s, _ => execAvsCheck_addsNoLight ch17Mv s
  | .memEyeCheck eyes, s, _ => execMemEyeCheck_addsNoLight eyes s
  | .dqsTracking, s, _ => execDqsTracking_addsNoLight s
  | .laneMarginCheck eyesA eyesB, s, _ => execLaneMarginCheck_addsNoLight eyesA eyesB s
  | .nvmScrub obs, s, _ => execNvmScrub_addsNoLight obs s
  | .add t rd ra rb, s, _ => execAdd_addsNoLight t rd ra rb s
  | .sub t rd ra rb, s, _ => execSub_addsNoLight t rd ra rb s
  | .and t rd ra rb, s, _ => execAnd_addsNoLight t rd ra rb s
  | .or t rd ra rb, s, _ => execOr_addsNoLight t rd ra rb s
  | .xor t rd ra rb, s, _ => execXor_addsNoLight t rd ra rb s
  | .shl t rd ra rb, s, _ => execShl_addsNoLight t rd ra rb s
  | .shr t rd ra rb, s, _ => execShr_addsNoLight t rd ra rb s
  | .sar t rd ra rb, s, _ => execSar_addsNoLight t rd ra rb s
  | .mul t rd ra rb, s, _ => execMul_addsNoLight t rd ra rb s
  | .mulhu t rd ra rb, s, _ => execMulhu_addsNoLight t rd ra rb s
  | .divu t rd ra rb, s, _ => execDivu_addsNoLight t rd ra rb s
  | .remu t rd ra rb, s, _ => execRemu_addsNoLight t rd ra rb s
  | .min t rd ra rb, s, _ => execMin_addsNoLight t rd ra rb s
  | .max t rd ra rb, s, _ => execMax_addsNoLight t rd ra rb s
  | .slt t rd ra rb, s, _ => execSlt_addsNoLight t rd ra rb s
  | .sltu t rd ra rb, s, _ => execSltu_addsNoLight t rd ra rb s
  | .addi t rd ra imm, s, _ => execAddi_addsNoLight t rd ra imm s
  | .andi t rd ra imm, s, _ => execAndi_addsNoLight t rd ra imm s
  | .ori t rd ra imm, s, _ => execOri_addsNoLight t rd ra imm s
  | .xori t rd ra imm, s, _ => execXori_addsNoLight t rd ra imm s
  | .shli t rd ra imm, s, _ => execShli_addsNoLight t rd ra imm s
  | .shri t rd ra imm, s, _ => execShri_addsNoLight t rd ra imm s
  | .sari t rd ra imm, s, _ => execSari_addsNoLight t rd ra imm s
  | .lui t rd imm, s, _ => execLui_addsNoLight t rd imm s
  | .slti t rd ra imm, s, _ => execSlti_addsNoLight t rd ra imm s
  | .ld t rd ra imm, s, _ => execLd_addsNoLight t rd ra imm s
  | .ldb t rd ra imm, s, _ => execLdb_addsNoLight t rd ra imm s
  | .st t rd ra imm, s, _ => execSt_addsNoLight t rd ra imm s
  | .stb t rd ra imm, s, _ => execStb_addsNoLight t rd ra imm s
  | .swap t rd ra imm, s, _ => execSwap_addsNoLight t rd ra imm s
  | .ldx t rd ra imm, s, _ => execLdx_addsNoLight t rd ra imm s
  | .stx t rd ra imm, s, _ => execStx_addsNoLight t rd ra imm s
  | .beq t rd ra off, s, _ => execBeq_addsNoLight t rd ra off s
  | .bne t rd ra off, s, _ => execBne_addsNoLight t rd ra off s
  | .blt t rd ra off, s, _ => execBlt_addsNoLight t rd ra off s
  | .bge t rd ra off, s, _ => execBge_addsNoLight t rd ra off s
  | .bltu t rd ra off, s, _ => execBltu_addsNoLight t rd ra off s
  | .bgeu t rd ra off, s, _ => execBgeu_addsNoLight t rd ra off s
  | .jmp t off, s, _ => execJmp_addsNoLight t off s
  | .jr t ra, s, _ => execJr_addsNoLight t ra s
  | .call t off, s, _ => execCall_addsNoLight t off s
  | .callr t ra, s, _ => execCallr_addsNoLight t ra s
  | .ret t, s, _ => execRet_addsNoLight t s
  | .halt t, s, _ => execHalt_addsNoLight t s
  | .waitf t rd imm, s, _ => execWaitf_addsNoLight t rd imm s
  | .waitt t rd ra rb, s, _ => execWaitt_addsNoLight t rd ra rb s
  | .waitd t rd ra imm, s, _ => execWaitd_addsNoLight t rd ra imm s
  | .waite t rd ra imm, s, _ => execWaite_addsNoLight t rd ra imm s
  | .time t rd sel, s, _ => execTime_addsNoLight t rd sel s
  | .layer t rd ra rb, s, _ => execLayer_addsNoLight t rd ra rb s
  | .tumblerCommit t rd ra, s, _ => execTumblerCommit_addsNoLight t rd ra s
  | .tumblerMode t rd ra, s, _ => execTumblerMode_addsNoLight t rd ra s
  | .env t rd ra, s, _ => execEnv_addsNoLight t rd ra s
  | .tumblerCal t rd ra, s, _ => execTumblerCal_addsNoLight t rd ra s
  | .tumblerMeas t rd ra, s, _ => execTumblerMeas_addsNoLight t rd ra s
  | .tumblerStore t rd ra, s, _ => execTumblerStore_addsNoLight t rd ra s
  | .sig t rd ra, s, _ => execSig_addsNoLight t rd ra s
  | .post t rd ra rb, s, _ => execPost_addsNoLight t rd ra rb s
  | .sreq t rd imm, s, _ => execSreq_addsNoLight t rd imm s
  | .illegalInstruction t, s, _ => execIllegalInstruction_addsNoLight t s
  | .runaway t, s, _ => execRunaway_addsNoLight t s
  | .waiteTimeout t, s, _ => execWaiteTimeout_addsNoLight t s
  | .tumStart src w, s, _ => execTumStart_addsNoLight src w s
  | .tumHalt src w, s, _ => execTumHalt_addsNoLight src w s
  | .progStore src w, s, _ => execProgStore_addsNoLight src w s
  | .tumDbData src consume, s, _ => execTumDbData_addsNoLight src consume s
  | .ping q, s, _ => execPing_addsNoLight q s
  | .read q, s, _ => execRead_addsNoLight q s
  | .write q, s, _ => execWrite_addsNoLight q s
  | .commit q, s, _ => execCommit_addsNoLight q s
  | .mode q, s, _ => execMode_addsNoLight q s
  | .colourTake q, s, _ => execColourTake_addsNoLight q s
  | .cal q, s, _ => execCal_addsNoLight q s
  | .meas q, s, _ => execMeas_addsNoLight q s
  | .store q, s, _ => execStore_addsNoLight q s
  | .doorbell q, s, _ => execDoorbell_addsNoLight q s
  | .progLoad q, s, _ => execProgLoad_addsNoLight q s
  | .lightOn q, _, h => absurd rfl (h q)
  | .lightOff q, s, _ => execLightOff_addsNoLight q s
  | .safeReq q, s, _ => execSafeReq_addsNoLight q s
  | .faultAck q, s, _ => execFaultAck_addsNoLight q s
  | .configRefresh q, s, _ => execConfigRefresh_addsNoLight q s
  | .shutdown q, s, _ => execShutdown_addsNoLight q s
  | .updateStart q, s, _ => execUpdateStart_addsNoLight q s
  | .updateAbort q, s, _ => execUpdateAbort_addsNoLight q s
  | .restart q, s, _ => execRestart_addsNoLight q s
  | .attest q, s, _ => execAttest_addsNoLight q s
  | .proofRead q, s, _ => execProofRead_addsNoLight q s
  | .sessionOpen q, s, _ => execSessionOpen_addsNoLight q s
  | .enterService q, s, _ => execEnterService_addsNoLight q s
  | .leaveService q, s, _ => execLeaveService_addsNoLight q s
  | .ownerEnroll q, s, _ => execOwnerEnroll_addsNoLight q s
  | .safetyParam q, s, _ => execSafetyParam_addsNoLight q s
  | .nvmErase q, s, _ => execNvmErase_addsNoLight q s
  | .debugUnlock q, s, _ => execDebugUnlock_addsNoLight q s
  | .serviceReply, s, _ => execServiceReply_addsNoLight s
  | .sealChange high, s, _ => execSealChange_addsNoLight high s
  | .trainDetected p lane payload trains, s, _ => execTrainDetected_addsNoLight p lane payload trains s
  | .rateAgreed p payload, s, _ => execRateAgreed_addsNoLight p payload s
  | .eqRequest p lane payload, s, _ => execEqRequest_addsNoLight p lane payload s
  | .eqDone p payload timeout obs, s, _ => execEqDone_addsNoLight p payload timeout obs s
  | .alignDone p skews, s, _ => execAlignDone_addsNoLight p skews s
  | .trainingTimeout p, s, _ => execTrainingTimeout_addsNoLight p s
  | .quietRetry p, s, _ => execQuietRetry_addsNoLight p s
  | .signalDetect p, s, _ => execSignalDetect_addsNoLight p s
  | .blockLock p obs, s, _ => execBlockLock_addsNoLight p obs s
  | .blockLockLoss p obs, s, _ => execBlockLockLoss_addsNoLight p obs s
  | .amReceived p lane blocks payload skew, s, _ => execAmReceived_addsNoLight p lane blocks payload skew s
  | .markerLockLoss p obs, s, _ => execMarkerLockLoss_addsNoLight p obs s
  | .parkReceived p lane, s, _ => execParkReceived_addsNoLight p lane s
  | .retrainTrigger p lane, s, _ => execRetrainTrigger_addsNoLight p lane s
  | .retrainFollow p lane payload, s, _ => execRetrainFollow_addsNoLight p lane payload s
  | .adaptFreeze p lane, s, _ => execAdaptFreeze_addsNoLight p lane s
  | .adaptResume p lane, s, _ => execAdaptResume_addsNoLight p lane s
  | .retrain src p w, s, _ => execRetrain_addsNoLight src p w s
  | .clrFence src p w, s, _ => execClrFence_addsNoLight src p w s
  | .portEnable src p w, s, _ => execPortEnable_addsNoLight src p w s
  | .lnkEye src p w, s, _ => execLnkEye_addsNoLight src p w s
  | .eyeMeasureComplete p eyes, s, _ => execEyeMeasureComplete_addsNoLight p eyes s
  | .testEn src p w, s, _ => execTestEn_addsNoLight src p w s
  | .testExit src p w, s, _ => execTestExit_addsNoLight src p w s
  | .prbsSyncTimeout p obs, s, _ => execPrbsSyncTimeout_addsNoLight p obs s
  | .prbsSyncLoss p obs, s, _ => execPrbsSyncLoss_addsNoLight p obs s
  | .lnkInject src p w, s, _ => execLnkInject_addsNoLight src p w s
  | .forwardingDecision p hdr, s, _ => execForwardingDecision_addsNoLight p hdr s
  | .frameTrailer p payload trailer, s, _ => execFrameTrailer_addsNoLight p payload trailer s
  | .egressSend p, s, _ => execEgressSend_addsNoLight p s
  | .announceSend, s, _ => execAnnounceSend_addsNoLight s
  | .announce p f, s, _ => execAnnounce_addsNoLight p f s
  | .depart p f, s, _ => execDepart_addsNoLight p f s
  | .assign p f, s, _ => execAssign_addsNoLight p f s
  | .load p f, s, _ => execLoad_addsNoLight p f s
  | .done p f, s, _ => execDone_addsNoLight p f s
  | .entryStale id, s, _ => execEntryStale_addsNoLight id s
  | .streamContextWrite src n words, s, _ => execStreamContextWrite_addsNoLight src n words s
  | .update p f, s, _ => execUpdate_addsNoLight p f s
  | .nvmUpdData src w, s, _ => execNvmUpdData_addsNoLight src w s
  | .keyLoad src w, s, _ => execKeyLoad_addsNoLight src w s
  | .keyClear src w, s, _ => execKeyClear_addsNoLight src w s
  | .previousSessionEnd, s, _ => execPreviousSessionEnd_addsNoLight s
  | .proofRecordSigned, s, _ => execProofRecordSigned_addsNoLight s
  | .debugChallengeExpiry, s, _ => execDebugChallengeExpiry_addsNoLight s
  | .wardEntropy, s, _ => execWardEntropy_addsNoLight s
  | .wardSealedEcc, s, _ => execWardSealedEcc_addsNoLight s
  | .inputSafe input ch, s, _ => execInputSafe_addsNoLight input ch s
  | .inputHealthy input ch pressMs, s, _ => execInputHealthy_addsNoLight input ch pressMs s
  | .testPulse output failA failB, s, _ => execTestPulse_addsNoLight output failA failB s
  | .inputDiscrepancy input, s, _ => execInputDiscrepancy_addsNoLight input s
  | .ackPress, s, _ => execAckPress_addsNoLight s
  | .safetyTick obs, s, _ => execSafetyTick_addsNoLight obs s
  | .safetyXcompare, s, _ => execSafetyXcompare_addsNoLight s
  | .aliveTimeout, s, _ => execAliveTimeout_addsNoLight s
  | .fadeDone, s, _ => execFadeDone_addsNoLight s
  | .sloCheck stage obs, s, _ => execSloCheck_addsNoLight stage obs s
  | .ssgDriveEnable, s, _ => execSsgDriveEnable_addsNoLight s
  | .heartbeat p pdu, s, _ => execHeartbeat_addsNoLight p pdu s
  | .demand p pdu, s, _ => execDemand_addsNoLight p pdu s
  | .ack p pdu, s, _ => execAck_addsNoLight p pdu s
  | .statusPdu p pdu, s, _ => execStatusPdu_addsNoLight p pdu s
  | .bcWatchdog, s, _ => execBcWatchdog_addsNoLight s
  | .bcDemandTimeout, s, _ => execBcDemandTimeout_addsNoLight s
  | .demandRepeat, s, _ => execDemandRepeat_addsNoLight s
  | .statusPduSend, s, _ => execStatusPduSend_addsNoLight s
  | .safetyStrapChanged straps, s, _ => execSafetyStrapChanged_addsNoLight straps s
  | .faultEventExpiry source detail, s, _ => execFaultEventExpiry_addsNoLight source detail s
  | .handlingEnd number, s, _ => execHandlingEnd_addsNoLight number s
  | .faultPairHealthy, s, _ => execFaultPairHealthy_addsNoLight s
  | .fltPairReadback, s, _ => execFltPairReadback_addsNoLight s
  | .fltInject src w, s, _ => execFltInject_addsNoLight src w s
  | .fltInjectClear src w, s, _ => execFltInjectClear_addsNoLight src w s
  | .clrFirst src w, s, _ => execClrFirst_addsNoLight src w s
  | .flashFail, s, _ => execFlashFail_addsNoLight s
  | .chkStart src u w, s, _ => execChkStart_addsNoLight src u w s
  | .chkDataB src u w, s, _ => execChkDataB_addsNoLight src u w s
  | .chkDataH src u w, s, _ => execChkDataH_addsNoLight src u w s
  | .chkDataW src u w, s, _ => execChkDataW_addsNoLight src u w s
  | .chkClose src u w, s, _ => execChkClose_addsNoLight src u w s
  | .chkDrainComplete u, s, _ => execChkDrainComplete_addsNoLight u s
  | .chkAliveFeed src u w, s, _ => execChkAliveFeed_addsNoLight src u w s
  | .aliveDeadline u, s, _ => execAliveDeadline_addsNoLight u s
  | .chkRstatus src u consume, s, _ => execChkRstatus_addsNoLight src u consume s
  | .ringSigCnt src consume, s, _ => execRingSigCnt_addsNoLight src consume s
  | .dieSensorFail sensor reading, s, _ => execDieSensorFail_addsNoLight sensor reading s
  | .thermalEvaluation obs, s, _ => execThermalEvaluation_addsNoLight obs s
  | .ntcCrosscheckFail ntc, s, _ => execNtcCrosscheckFail_addsNoLight ntc s
  | .thresholdCrossing q up value, s, _ => execThresholdCrossing_addsNoLight q up value s
  | .shutdownReset, s, _ => execShutdownReset_addsNoLight s
  | .thermalRelease reading, s, _ => execThermalRelease_addsNoLight reading s
  | .thermTrimCtrl src w, s, _ => execThermTrimCtrl_addsNoLight src w s
  | .trimDaily, s, _ => execTrimDaily_addsNoLight s
  | .selfTrimStart, s, _ => execSelfTrimStart_addsNoLight s
  | .selfTrimComplete trims, s, _ => execSelfTrimComplete_addsNoLight trims s
  | .trimTimeout, s, _ => execTrimTimeout_addsNoLight s
  | .trimApplyTimeout, s, _ => execTrimApplyTimeout_addsNoLight s
  | .nvmStoreComplete kind ok, s, _ => execNvmStoreComplete_addsNoLight kind ok s
  | .backgroundEraseDone kind, s, _ => execBackgroundEraseDone_addsNoLight kind s
  | .userCalStoreComplete ok, s, _ => execUserCalStoreComplete_addsNoLight ok s
  | .slotEraseComplete, s, _ => execSlotEraseComplete_addsNoLight s
  | .stagingComplete, s, _ => execStagingComplete_addsNoLight s
  | .confirm src w, s, _ => execConfirm_addsNoLight src w s
  | .trialConfirm, s, _ => execTrialConfirm_addsNoLight s
  | .trialTimerExpiry, s, _ => execTrialTimerExpiry_addsNoLight s
  | .cairnStart src w, s, _ => execCairnStart_addsNoLight src w s
  | .nvmCairnData src w, s, _ => execNvmCairnData_addsNoLight src w s
  | .cairnCommit src w, s, _ => execCairnCommit_addsNoLight src w s
  | .cairnStoreComplete ok, s, _ => execCairnStoreComplete_addsNoLight ok s
  | .cairnReload, s, _ => execCairnReload_addsNoLight s
  | .logAppend, s, _ => execLogAppend_addsNoLight s
  | .registerWrite src addr w, s, _ => execRegisterWrite_addsNoLight src addr w s
  | .registerRead src addr consume, s, _ => execRegisterRead_addsNoLight src addr consume s
  | .badOpcode opcode q, s, _ => execBadOpcode_addsNoLight opcode q s
  | .serviceWrite bits, s, _ => execServiceWrite_addsNoLight bits s
  | .tDieMove, s, _ => execTDieMove_addsNoLight s
  | .cairnCompletionDeadline ring, s, _ => execCairnCompletionDeadline_addsNoLight ring s
  | .compInternal, s, _ => execCompInternal_addsNoLight s
  | .colourInternal, s, _ => execColourInternal_addsNoLight s
  | .tumblerParity, s, _ => execTumblerParity_addsNoLight s

end Sys2Proof.Machine
open Sys2Proof Sys2Proof.Machine

/-- Settles O53: every other command leaves no more light owed than it found (`Dims`), and LIGHT_ON passes the checks of R252 in DARK alone. -/
theorem lightOnlyByLightOn : Obligations.LightOnlyByLightOn := by
  unfold Obligations.LightOnlyByLightOn
  intro c s u hu hlit
  by_cases hc : ∃ q, c = .lightOn q
  · obtain ⟨q, rfl⟩ := hc
    by_cases h : s.eng.st ≠ .dark ∨ s.lightRefused = true
    · have := execLightOn_addsNoLight q s h u hu (.inl hlit)
      exact this.imp_right .inr
    · simp only [not_or, not_not, Bool.not_eq_true, State.lightRefused_eq_false] at h
      exact .inr (.inl ⟨⟨q, rfl⟩, h⟩)
  · have := exec_addsNoLight c s (fun q hq => hc ⟨q, hq⟩) u hu (.inl hlit)
    exact this.imp_right .inr

end

section
/-!
LEMMAS. What keeps the form of the state, for O51: the sizes of the register files and the canonical form of both memories depend on few
parts of the state, and every operation leaves those parts alone, changes entries of the register files one by one, or stores and clears
bytes. A lemma is an equivalence where the operation leaves the form alone.
-/

-- One declaration after another: the whole text compiles close to the memory it may have.
set_option Elab.async false

namespace Sys2Proof.Machine

/-- `s` is as well formed as `v`: its register files have their sizes if those of `v` have, and its memories are in canonical form if those of `v` are. -/
def KeepsForm (v s : State) : Prop := (v.Shaped → s.Shaped) ∧ (v.MemoryOk → s.MemoryOk)

@[simp] theorem KeepsForm.refl (s : State) : KeepsForm s s := ⟨id, id⟩

/-- The parts of the state that its form depends on. -/
def State.formed (s : State) :=
  (s.tum.threads.map (·.g.length), s.time.cmps.length, s.comp.layers.length, s.ctxs.length, s.rings.rings.length, s.chk.length, s.flash, s.dram)

theorem State.tumShaped_iff (s : State) : s.TumShaped ↔ s.tum.threads.map (·.g.length) = List.replicate 8 16 := by
  rw [List.eq_replicate_iff]; simp [State.TumShaped]

theorem keepsForm_congr {v s t : State} (h : t.formed = s.formed) : KeepsForm v t ↔ KeepsForm v s := by
  simp only [State.formed, Prod.mk.injEq] at h
  obtain ⟨h1, h2, h3, h4, h5, h6, h7, h8⟩ := h
  simp only [KeepsForm, State.Shaped, State.tumShaped_iff, State.MemoryOk, h1, h2, h3, h4, h5, h6, h7, h8]

section
variable {v : State} (s : State)

@[simp] theorem State.onEng_keepsForm (f) : KeepsForm v (s.onEng f) ↔ KeepsForm v s := Iff.rfl
@[simp] theorem State.onPwr_keepsForm (f) : KeepsForm v (s.onPwr f) ↔ KeepsForm v s := Iff.rfl
@[simp] theorem State.onFlt_keepsForm (f) : KeepsForm v (s.onFlt f) ↔ KeepsForm v s := Iff.rfl
@[simp] theorem State.onWall_keepsForm (f) : KeepsForm v (s.onWall f) ↔ KeepsForm v s := Iff.rfl
@[simp] theorem State.onCol_keepsForm (f) : KeepsForm v (s.onCol f) ↔ KeepsForm v s := Iff.rfl
@[simp] theorem State.onLed_keepsForm (f) : KeepsForm v (s.onLed f) ↔ KeepsForm v s := Iff.rfl
@[simp] theorem State.onTherm_keepsForm (f) : KeepsForm v (s.onTherm f) ↔ KeepsForm v s := Iff.rfl
@[simp] theorem State.onSaf_keepsForm (f) : KeepsForm v (s.onSaf f) ↔ KeepsForm v s := Iff.rfl
@[simp] theorem State.onAge_keepsForm (f) : KeepsForm v (s.onAge f) ↔ KeepsForm v s := Iff.rfl
@[simp] theorem State.onCmd_keepsForm (f) : KeepsForm v (s.onCmd f) ↔ KeepsForm v s := Iff.rfl
@[simp] theorem State.onWard_keepsForm (f) : KeepsForm v (s.onWard f) ↔ KeepsForm v s := Iff.rfl
@[simp] theorem State.onNvm_keepsForm (f) : KeepsForm v (s.onNvm f) ↔ KeepsForm v s := Iff.rfl
@[simp] theorem State.takeFree_keepsForm : KeepsForm v s.takeFree ↔ KeepsForm v s := Iff.rfl
@[simp] theorem State.withPending_keepsForm (q) : KeepsForm v (s.withPending q) ↔ KeepsForm v s := Iff.rfl
@[simp] theorem State.answer_keepsForm (src a d b) : KeepsForm v (s.answer src a d b) ↔ KeepsForm v s := Iff.rfl
@[simp] theorem State.onPer_keepsForm (src f) : KeepsForm v (s.onPer src f) ↔ KeepsForm v s := Iff.rfl

@[simp] theorem State.onLink_keepsForm (p f) : KeepsForm v (s.onLink p f) ↔ KeepsForm v s := by
  cases p <;> rfl

@[simp] theorem State.onTime_keepsForm (f : WTime → WTime) (h : ∀ x, (f x).cmps.length = x.cmps.length) :
    KeepsForm v (s.onTime f) ↔ KeepsForm v s := keepsForm_congr (by simp [State.formed, h])

@[simp] theorem State.onTum_keepsForm (f : Tum → Tum) (h : ∀ x, (f x).threads.map (·.g.length) = x.threads.map (·.g.length)) :
    KeepsForm v (s.onTum f) ↔ KeepsForm v s := keepsForm_congr (by simp [State.formed, h])

@[simp] theorem State.onComp_keepsForm (f : Comp → Comp) (h : ∀ x, (f x).layers.length = x.layers.length) :
    KeepsForm v (s.onComp f) ↔ KeepsForm v s := keepsForm_congr (by simp [State.formed, h])

@[simp] theorem State.onRings_keepsForm (f : RingUnit → RingUnit) (h : ∀ x, (f x).rings.length = x.rings.length) :
    KeepsForm v (s.onRings f) ↔ KeepsForm v s := keepsForm_congr (by simp [State.formed, h])

@[simp] theorem State.onUnit_keepsForm (u f) : KeepsForm v (s.onUnit u f) ↔ KeepsForm v s :=
  keepsForm_congr (by simp [State.formed, State.onUnit])

@[simp] theorem State.onCtx_keepsForm (n f) : KeepsForm v (s.onCtx n f) ↔ KeepsForm v s :=
  keepsForm_congr (by simp [State.formed, State.onCtx])

@[simp] theorem State.onRing_keepsForm (k f) : KeepsForm v (s.onRing k f) ↔ KeepsForm v s :=
  keepsForm_congr (by simp [State.formed, State.onRing])

@[simp] theorem State.onLayer_keepsForm (i f) : KeepsForm v (s.onLayer i f) ↔ KeepsForm v s :=
  keepsForm_congr (by simp [State.formed, State.onLayer])

theorem upd_map {α β : Type} (l : List α) (i : Nat) (f : α → α) (g : α → β) (h : ∀ x, g (f x) = g x) : (upd l i f).map g = l.map g := by
  induction l generalizing i with
  | nil => rfl
  | cons a l ih => cases i <;> simp [upd, ih, h]

@[simp] theorem State.onThread_keepsForm (t : Nat) (f : Thread → Thread) (h : ∀ x, (f x).g.length = x.g.length) :
    KeepsForm v (s.onThread t f) ↔ KeepsForm v s :=
  State.onTum_keepsForm _ _ fun _ => upd_map _ _ _ _ h

/-! ### Sizes given anew -/

@[simp] theorem State.onRings_keepsForm_of_length (f : RingUnit → RingUnit) (hf : ∀ x, (f x).rings.length = 64) (h : KeepsForm v s) :
    KeepsForm v (s.onRings f) := by
  refine ⟨fun hv => ?_, h.2⟩
  obtain ⟨h1, h2, h3, h4, -, h6⟩ := h.1 hv
  exact ⟨h1, h2, h3, h4, hf _, h6⟩

@[simp] theorem State.onComp_keepsForm_of_length (f : Comp → Comp) (hf : ∀ x, (f x).layers.length = 16) (h : KeepsForm v s) :
    KeepsForm v (s.onComp f) := by
  refine ⟨fun hv => ?_, h.2⟩
  obtain ⟨h1, h2, -, h4, h5, h6⟩ := h.1 hv
  exact ⟨h1, h2, hf _, h4, h5, h6⟩

/-- A thread that takes a whole new register file of sixteen. -/
@[simp] theorem State.onThread_keepsForm_of_length (t : Nat) (f : Thread → Thread) (hf : ∀ x, (f x).g.length = 16) (h : KeepsForm v s) :
    KeepsForm v (s.onThread t f) := by
  refine ⟨fun hv => ?_, h.2⟩
  obtain ⟨⟨ht, hg⟩, hs⟩ := h.1 hv
  refine ⟨⟨(upd_length _ _ _).trans ht, fun x hx => ?_⟩, hs⟩
  rcases upd_mem _ _ _ _ hx with hx | ⟨y, -, rfl⟩
  · exact hg x hx
  · exact hf y

/-! ### Registers of a thread -/

@[simp] theorem Thread.setReg_g_length (x : Thread) (r : Fin 16) (w : Word) : (x.setReg r w).g.length = x.g.length := by
  unfold Thread.setReg; split <;> simp

@[simp] theorem Thread.wake_g_length (x : Thread) (r : Fin 16) (w : Word) : (x.wake r w).g.length = x.g.length := by
  simp [Thread.wake]

@[simp] theorem Thread.checkEvents_g_length (x : Thread) : x.checkEvents.g.length = x.g.length := by
  unfold Thread.checkEvents; repeat' split
  all_goals simp

@[simp] theorem Thread.post_g_length (x : Thread) (e : Nat) : (x.post e).g.length = x.g.length := by
  unfold Thread.post; split <;> simp

@[simp] theorem Thread.halt_g_length (x : Thread) (c : Nat) : (x.halt c).g.length = x.g.length := by simp [Thread.halt]

@[simp] theorem Thread.advance_g_length (x : Thread) : x.advance.g.length = x.g.length := by simp [Thread.advance]
@[simp] theorem Thread.jump_g_length (x : Thread) (pc : Nat) : (x.jump pc).g.length = x.g.length := by simp [Thread.jump]
@[simp] theorem Thread.sleep_g_length (x : Thread) (w : Wait) : (x.sleep w).g.length = x.g.length := by simp [Thread.sleep]

/-! ### Compares of wall time -/

@[simp] theorem WTime.setW_cmps_length (x : WTime) (w rate : Int) : (x.setW w rate).cmps.length = x.cmps.length := by simp [WTime.setW]
@[simp] theorem WTime.moveTargets_cmps_length (x : WTime) (d : Int) : (x.moveTargets d).cmps.length = x.cmps.length := by simp [WTime.moveTargets]
@[simp] theorem WTime.validate_cmps_length (x : WTime) (d : Bool) : (x.validate d).cmps.length = x.cmps.length := by simp [WTime.validate]
@[simp] theorem WTime.invalidate_cmps_length (x : WTime) : x.invalidate.cmps.length = x.cmps.length := by simp [WTime.invalidate]
@[simp] theorem WTime.follow_cmps_length (x : WTime) (d : Bool) : (x.follow d).cmps.length = x.cmps.length := by simp [WTime.follow]

@[simp] theorem WTime.onDom_cmps_length (x : WTime) (d : Bool) (f : Domain → Domain) : (x.onDom d f).cmps.length = x.cmps.length := by
  unfold WTime.onDom; split <;> simp

@[simp] theorem WTime.keepUp_cmps_length (x : WTime) (d : Bool) : (x.keepUp d).cmps.length = x.cmps.length := by
  unfold WTime.keepUp; repeat' split
  all_goals simp

/-! ### The rings of a unit -/

@[simp] theorem RingUnit.mapCells_rings_length (u : RingUnit) (f : Nat → Cell → Cell) : (u.mapCells f).rings.length = u.rings.length := by
  simp [RingUnit.mapCells]

/-! ### Memories -/

@[simp] theorem State.dramStore_keepsForm (a l) (h : KeepsForm v s) : KeepsForm v (s.dramStore a l) :=
  ⟨h.1, fun hv => ⟨(h.2 hv).1, s.dramStore_wf a l (h.2 hv).2⟩⟩

@[simp] theorem State.flashStore_keepsForm (a l) (h : KeepsForm v s) : KeepsForm v (s.flashStore a l) :=
  ⟨h.1, fun hv => ⟨s.flashStore_wf a l (h.2 hv).1, (h.2 hv).2⟩⟩

@[simp] theorem State.flashErase_keepsForm (a n) (h : KeepsForm v s) : KeepsForm v (s.flashErase a n) :=
  ⟨h.1, fun hv => ⟨s.flashErase_wf a n (h.2 hv).1, (h.2 hv).2⟩⟩

/-- The DRAM with some bytes cleared. -/
theorem keepsForm_clearDram {s t : State} (f : Nat × Byte → Bool) (h : KeepsForm v s)
    (ht : t.formed = { s with dram := s.dram.filter f }.formed) : KeepsForm v t :=
  (keepsForm_congr ht).mpr ⟨h.1, fun hv => ⟨(h.2 hv).1, filter_wf dramFill f s.dram (h.2 hv).2⟩⟩

end

/-! ### Cases and operations repeated -/

section
variable {v : State}

@[simp] theorem ite_keepsForm {c : Prop} [Decidable c] (a b : State) :
    KeepsForm v (if c then a else b) ↔ if c then KeepsForm v a else KeepsForm v b := by
  split <;> rfl

@[simp] theorem ite_snd_keepsForm {γ : Type} {c : Prop} [Decidable c] (a b : γ × State) :
    KeepsForm v (if c then a else b).2 ↔ if c then KeepsForm v a.2 else KeepsForm v b.2 := by
  split <;> rfl

@[simp] theorem foldl_keepsForm_iff {γ : Type} (l : List γ) {f : State → γ → State} (hf : ∀ t x, KeepsForm v (f t x) ↔ KeepsForm v t) (t : State) :
    KeepsForm v (l.foldl f t) ↔ KeepsForm v t := by
  induction l generalizing t with
  | nil => rfl
  | cons x l ih => exact (ih (f t x)).trans (hf t x)

@[simp] theorem foldl_keepsForm {γ : Type} (l : List γ) {f : State → γ → State} (hf : ∀ t x, KeepsForm v t → KeepsForm v (f t x)) {t : State}
    (h : KeepsForm v t) : KeepsForm v (l.foldl f t) := by
  induction l generalizing t with
  | nil => exact h
  | cons x l ih => exact ih (hf t x h)

@[simp] theorem State.each_keepsForm_iff (s : State) (n : Nat) {f : State → Nat → State} (hf : ∀ t k, KeepsForm v (f t k) ↔ KeepsForm v t) :
    KeepsForm v (s.each n f) ↔ KeepsForm v s :=
  foldl_keepsForm_iff _ hf s

@[simp] theorem State.each_keepsForm (s : State) (n : Nat) {f : State → Nat → State} (hf : ∀ t k, KeepsForm v t → KeepsForm v (f t k))
    (h : KeepsForm v s) : KeepsForm v (s.each n f) :=
  foldl_keepsForm _ hf h

@[simp] theorem State.when_keepsForm (s : State) (b : Bool) (f : State → State) :
    KeepsForm v (s.when b f) ↔ if b then KeepsForm v (f s) else KeepsForm v s := by
  unfold State.when; split <;> rfl

end

end Sys2Proof.Machine
end

section
/-!
LEMMAS. What keeps the form of the state, for O51: the operations of the model from its common parts to the units, in the order of the model.
-/

-- One declaration after another: the whole text compiles close to the memory it may have.
set_option Elab.async false

namespace Sys2Proof.Machine

/-! ### Ops.lean -/

@[simp] theorem State.raise_keepsForm {orig : State} (s : State) (src detail : Nat) :
    KeepsForm orig (State.raise s src detail) ↔ KeepsForm orig s := by
  simp [State.raise]

@[simp] theorem State.raiseAt_keepsForm {orig : State} (s : State) (now : Bool) (src detail : Nat) :
    KeepsForm orig (State.raiseAt s now src detail) ↔ KeepsForm orig s := by
  simp [State.raiseAt]

@[simp] theorem State.endCond_keepsForm {orig : State} (s : State) (src detail : Nat) :
    KeepsForm orig (State.endCond s src detail) ↔ KeepsForm orig s := by
  simp [State.endCond]

@[simp] theorem State.endSrc_keepsForm {orig : State} (s : State) (src : Nat) : KeepsForm orig (State.endSrc s src) ↔ KeepsForm orig s := by
  simp [State.endSrc]

@[simp] theorem State.level_keepsForm {orig : State} (s : State) (b : Bool) (src detail : Nat) :
    KeepsForm orig (State.level s b src detail) ↔ KeepsForm orig s := by
  simp [State.level]

/-! ### Flags.lean -/

@[simp] theorem State.onCell_keepsForm {orig : State} (s : State) (k c : Nat) (f : Cell → Cell) :
    KeepsForm orig (State.onCell s k c f) ↔ KeepsForm orig s := by
  simp [State.onCell]

/-! ### TimeOps.lean -/

@[simp] theorem State.fireWith_keepsForm {orig : State} (s : State) (now : Bool) (e : Nat) : KeepsForm orig (s.fireWith now e) ↔ KeepsForm orig s := by
  have hp : ∀ l : List Thread, (l.map fun t => t.post e).map (·.g.length) = l.map (·.g.length) := fun l => by simp [Function.comp_def]
  unfold State.fireWith; dsimp only; split
  · exact State.onTum_keepsForm _ _ fun m => hp _
  · rw [State.raiseAt_keepsForm]; exact State.onTum_keepsForm _ _ fun m => hp _

@[simp] theorem State.fire_keepsForm {orig : State} (s : State) (e : Nat) : KeepsForm orig (State.fire s e) ↔ KeepsForm orig s := by
  simp [State.fire]

@[simp] theorem State.captureWith_keepsForm {orig : State} (s : State) (now : Bool) (src : Nat) (rising : Bool) :
    KeepsForm orig (State.captureWith s now src rising) ↔ KeepsForm orig s := by
  simp [State.captureWith]

@[simp] theorem State.capture_keepsForm {orig : State} (s : State) (src : Nat) (rising : Bool) :
    KeepsForm orig (State.capture s src rising) ↔ KeepsForm orig s := by
  simp [State.capture]

@[simp] theorem State.haltAll_keepsForm {orig : State} (s : State) (cause : Nat) : KeepsForm orig (s.haltAll cause) ↔ KeepsForm orig s := by
  refine State.onTum_keepsForm _ _ fun m => ?_
  simp only [List.map_map]
  exact List.map_congr_left fun t _ => by dsimp only [Function.comp]; split <;> simp

@[simp] theorem State.deviceDone_keepsForm {orig : State} (s : State) (t : Nat) (v : Word) : KeepsForm orig (s.deviceDone t v) ↔ KeepsForm orig s :=
  State.onThread_keepsForm _ _ _ fun x => by split <;> simp

@[simp] theorem State.setDmem_keepsForm {orig : State} (s : State) (i : Nat) (v : BitVec 32) :
    KeepsForm orig (State.setDmem s i v) ↔ KeepsForm orig s := by
  simp [State.setDmem]

@[simp] theorem State.reportProg_keepsForm {orig : State} (s : State) : KeepsForm orig (State.reportProg s) ↔ KeepsForm orig s := by
  simp [State.reportProg]

@[simp] theorem State.discardResults_keepsForm {orig : State} (s : State) (n : Nat) :
    KeepsForm orig (State.discardResults s n) ↔ KeepsForm orig s := by
  simp [State.discardResults]

@[simp] theorem State.startThread_keepsForm {orig : State} (s : State) (n : Nat) (h : KeepsForm orig s) : KeepsForm orig (State.startThread s n) := by
  simp [State.startThread, h]

@[simp] theorem State.startThreads_keepsForm {orig : State} (s : State) (h : KeepsForm orig s) : KeepsForm orig s.startThreads := by
  unfold State.startThreads; split
  · exact h
  · exact State.each_keepsForm s 8 (fun t n ht => by simp [ht]) h

/-! ### LinkOps.lean -/

@[simp] theorem State.onMap_keepsForm {orig : State} (s : State) (id : Nat) (f : BitVec 128 → BitVec 128) :
    KeepsForm orig (State.onMap s id f) ↔ KeepsForm orig s := by
  simp [State.onMap]

@[simp] theorem State.mapPortLoss_keepsForm {orig : State} (s : State) (p : Port) : KeepsForm orig (State.mapPortLoss s p) ↔ KeepsForm orig s := by
  simp [State.mapPortLoss]

@[simp] theorem State.enqueue_keepsForm {orig : State} (s : State) (p : Port) (f : QFrame) :
    KeepsForm orig (State.enqueue s p f) ↔ KeepsForm orig s := by
  simp [State.enqueue]

@[simp] theorem State.ownFrame_keepsForm {orig : State} (s : State) (dest typ : Nat) (payload : List Byte) :
    KeepsForm orig (State.ownFrame s dest typ payload).2 ↔ KeepsForm orig s := by
  simp [State.ownFrame]

@[simp] theorem State.sendFrame_keepsForm {orig : State} (s : State) (p : Port) (f : Frame) (turned departure : Bool) :
    KeepsForm orig (State.sendFrame s p f turned departure) ↔ KeepsForm orig s := by
  simp [State.sendFrame]

@[simp] theorem State.originate_keepsForm {orig : State} (s : State) (dest typ : Nat) (payload : List Byte) :
    KeepsForm orig (State.originate s dest typ payload) ↔ KeepsForm orig s := by
  simp [State.originate]

@[simp] theorem State.cutOffAt_keepsForm {orig : State} (s : State) (p : Port) (payload : List Byte) :
    KeepsForm orig (State.cutOffAt s p payload) ↔ KeepsForm orig s := by
  unfold State.cutOffAt; repeat' split
  all_goals simp

@[simp] theorem State.cutOff_keepsForm {orig : State} (s : State) (p : Port) : KeepsForm orig (s.cutOff p) ↔ KeepsForm orig s := by
  unfold State.cutOff; split
  · rfl
  · exact State.cutOffAt_keepsForm s p _

@[simp] theorem State.endArriving_keepsForm {orig : State} (s : State) (p : Port) : KeepsForm orig (State.endArriving s p) ↔ KeepsForm orig s := by
  simp [State.endArriving]

@[simp] theorem State.leaveActive_keepsForm {orig : State} (s : State) (p : Port) : KeepsForm orig (State.leaveActive s p) ↔ KeepsForm orig s := by
  simp [State.leaveActive]

@[simp] theorem State.disablePort_keepsForm {orig : State} (s : State) (p : Port) : KeepsForm orig (State.disablePort s p) ↔ KeepsForm orig s := by
  simp [State.disablePort]

@[simp] theorem State.startPort_keepsForm {orig : State} (s : State) (p : Port) : KeepsForm orig (State.startPort s p) ↔ KeepsForm orig s := by
  simp [State.startPort]

/-! ### DriveOps.lean -/

@[simp] theorem State.beginRing_keepsForm {orig : State} (s : State) (k : Nat) : KeepsForm orig (State.beginRing s k) ↔ KeepsForm orig s := by
  simp [State.beginRing]

@[simp] theorem State.beginRings_keepsForm {orig : State} (s : State) : KeepsForm orig (State.beginRings s) ↔ KeepsForm orig s := by
  simp [State.beginRings]

@[simp] theorem State.applyCeilings_keepsForm {orig : State} (s : State) : KeepsForm orig (State.applyCeilings s) ↔ KeepsForm orig s := by
  simp [State.applyCeilings]

@[simp] theorem State.driveZero_keepsForm {orig : State} (s : State) : KeepsForm orig s.driveZero ↔ KeepsForm orig s :=
  State.each_keepsForm_iff s 64 fun t k => State.onRing_keepsForm t k _

@[simp] theorem State.setPoint_keepsForm {orig : State} (s : State) (mv : Nat) : KeepsForm orig (State.setPoint s mv) ↔ KeepsForm orig s := by
  simp [State.setPoint]

@[simp] theorem State.railOff_keepsForm {orig : State} (s : State) : KeepsForm orig (State.railOff s) ↔ KeepsForm orig s := by
  simp [State.railOff]

@[simp] theorem State.railStart_keepsForm {orig : State} (s : State) : KeepsForm orig (State.railStart s) ↔ KeepsForm orig s := by
  simp [State.railStart]

@[simp] theorem State.railStartIfOff_keepsForm {orig : State} (s : State) : KeepsForm orig (State.railStartIfOff s) ↔ KeepsForm orig s := by
  simp [State.railStartIfOff]

@[simp] theorem State.stopSweep_keepsForm {orig : State} (s : State) : KeepsForm orig (State.stopSweep s) ↔ KeepsForm orig s := by
  simp [State.stopSweep]

@[simp] theorem State.askZeroFrame_keepsForm {orig : State} (s : State) : KeepsForm orig (State.askZeroFrame s) ↔ KeepsForm orig s := by
  simp [State.askZeroFrame]

@[simp] theorem State.cairnStream_keepsForm {orig : State} (s : State) (h : KeepsForm orig s) : KeepsForm orig (State.cairnStream s) := by
  simp [State.cairnStream, h]

@[simp] theorem State.cairnRequest_keepsForm {orig : State} (s : State) (h : KeepsForm orig s) : KeepsForm orig (State.cairnRequest s) := by
  simp [State.cairnRequest, h]

@[simp] theorem State.cairnEnd_keepsForm {orig : State} (s : State) : KeepsForm orig (State.cairnEnd s) ↔ KeepsForm orig s := by
  simp [State.cairnEnd]

@[simp] theorem State.fenceRing_keepsForm {orig : State} (s : State) (k : Nat) : KeepsForm orig (State.fenceRing s k) ↔ KeepsForm orig s := by
  simp [State.fenceRing]

/-! ### SafetyOps.lean -/

@[simp] theorem State.setEng_keepsForm {orig : State} (s : State) (n : EngState) : KeepsForm orig (State.setEng s n) ↔ KeepsForm orig s := by
  simp [State.setEng]

@[simp] theorem State.enterDark_keepsForm {orig : State} (s : State) : KeepsForm orig (State.enterDark s) ↔ KeepsForm orig s := by
  simp [State.enterDark]

@[simp] theorem State.writeBoot_keepsForm {orig : State} (s : State) (f : BootRecord → BootRecord) :
    KeepsForm orig (State.writeBoot s f) ↔ KeepsForm orig s := by
  simp [State.writeBoot]

@[simp] theorem State.writeParams_keepsForm {orig : State} (s : State) (x : SafetyParams) :
    KeepsForm orig (State.writeParams s x) ↔ KeepsForm orig s := by
  simp [State.writeParams]

@[simp] theorem State.abortStaging_keepsForm {orig : State} (s : State) : KeepsForm orig (State.abortStaging s) ↔ KeepsForm orig s := by
  simp [State.abortStaging]

@[simp] theorem State.performSlo_keepsForm {orig : State} (s : State) : KeepsForm orig (State.performSlo s) ↔ KeepsForm orig s := by
  simp [State.performSlo]

@[simp] theorem State.performSfd_keepsForm {orig : State} (s : State) : KeepsForm orig (State.performSfd s) ↔ KeepsForm orig s := by
  simp [State.performSfd]

@[simp] theorem State.performSsg_keepsForm {orig : State} (s : State) (h : KeepsForm orig s) : KeepsForm orig (State.performSsg s) := by
  simp [State.performSsg, h]

@[simp] theorem State.applyFunc_keepsForm {orig : State} (s : State) (old : Option SafeFunc) (h : KeepsForm orig s) :
    KeepsForm orig (State.applyFunc s old) := by
  unfold State.applyFunc; repeat' split
  all_goals simp [h]

@[simp] theorem State.enterSafe_keepsForm {orig : State} (s : State) : KeepsForm orig (State.enterSafe s) ↔ KeepsForm orig s := by
  unfold State.enterSafe; repeat' split
  all_goals simp

@[simp] theorem State.addCause_keepsForm {orig : State} (s : State) (c : Cause) (fn : SafeFunc) (h : KeepsForm orig s) :
    KeepsForm orig (State.addCause s c fn) := by
  simp [State.addCause, h]

@[simp] theorem State.releaseOutputs_keepsForm {orig : State} (s : State) : KeepsForm orig (State.releaseOutputs s) ↔ KeepsForm orig s := by
  simp [State.releaseOutputs]

@[simp] theorem State.enterJoin_keepsForm {orig : State} (s : State) (h : KeepsForm orig s) : KeepsForm orig (State.enterJoin s) := by
  simp [State.enterJoin, h]

@[simp] theorem State.exitSafe_keepsForm {orig : State} (s : State) (h : KeepsForm orig s) : KeepsForm orig (State.exitSafe s) := by
  simp [State.exitSafe, h]

@[simp] theorem State.clearCauses_keepsForm {orig : State} (s : State) (p : Cause → Bool) (h : KeepsForm orig s) :
    KeepsForm orig (State.clearCauses s p) := by
  simp [State.clearCauses, h]

@[simp] theorem State.checkInternal_keepsForm {orig : State} (s : State) (h : KeepsForm orig s) : KeepsForm orig (State.checkInternal s) := by
  simp [State.checkInternal, h]

@[simp] theorem State.checkSsgFenced_keepsForm {orig : State} (s : State) : KeepsForm orig (State.checkSsgFenced s) ↔ KeepsForm orig s := by
  simp [State.checkSsgFenced]

/-! ### PowerOps.lean -/

@[simp] theorem State.flushLog_keepsForm {orig : State} (s : State) : KeepsForm orig (State.flushLog s) ↔ KeepsForm orig s := by
  simp [State.flushLog]

/-- Every register file is back at its size; the memories stay. -/
@[simp] theorem State.logicReset_keepsForm {orig : State} (s : State) (h : KeepsForm orig s) : KeepsForm orig s.logicReset := by
  obtain ⟨-, -, -, -, -, -, hr, -⟩ := resetState
  exact ⟨fun _ => hr, h.2⟩

@[simp] theorem State.holdReset_keepsForm {orig : State} (s : State) (c : RstCause) (h : KeepsForm orig s) :
    KeepsForm orig (State.holdReset s c) := by
  simp [State.holdReset, h]

@[simp] theorem State.dropSupplies_keepsForm {orig : State} (s : State) : KeepsForm orig (State.dropSupplies s) ↔ KeepsForm orig s := by
  simp [State.dropSupplies]

@[simp] theorem State.stopStores_keepsForm {orig : State} (s : State) : KeepsForm orig (State.stopStores s) ↔ KeepsForm orig s := by
  simp [State.stopStores]

@[simp] theorem State.startShutdown_keepsForm {orig : State} (s : State) : KeepsForm orig (State.startShutdown s) ↔ KeepsForm orig s := by
  simp [State.startShutdown]

/-! ### Settle.lean -/

@[simp] theorem State.setFence_keepsForm {orig : State} (s : State) (i : Nat) : KeepsForm orig (State.setFence s i) ↔ KeepsForm orig s := by
  simp [State.setFence]

@[simp] theorem State.fenceColour_keepsForm {orig : State} (s : State) (h : KeepsForm orig s) : KeepsForm orig s.fenceColour :=
  keepsForm_clearDram _ h (by simp [State.formed, State.fenceColour]; rfl)

@[simp] theorem State.fenceUnit_keepsForm {orig : State} (s : State) (u : FenceUnit) (h : KeepsForm orig s) :
    KeepsForm orig (State.fenceUnit s u) := by
  unfold State.fenceUnit; split <;> simp [h]

@[simp] theorem State.logEvent_keepsForm {orig : State} (s : State) (typ detail : Nat) (data : List Byte) :
    KeepsForm orig (State.logEvent s typ detail data) ↔ KeepsForm orig s := by
  simp [State.logEvent]

@[simp] theorem State.mergeInto_keepsForm {orig : State} (s : State) (i : Nat) (n : NewFault) (sev : Fin 4) (counted : Bool) :
    KeepsForm orig (State.mergeInto s i n sev counted) ↔ KeepsForm orig s := by
  unfold State.mergeInto; split <;> simp

@[simp] theorem State.createRec_keepsForm {orig : State} (s : State) (i : Nat) (n : NewFault) (sev : Fin 4) :
    KeepsForm orig (State.createRec s i n sev) ↔ KeepsForm orig s := by
  simp [State.createRec]

@[simp] theorem State.resetWith_keepsForm {orig : State} (s : State) (c : RstCause) : KeepsForm orig (State.resetWith s c) ↔ KeepsForm orig s := by
  simp [State.resetWith]

@[simp] theorem State.pairUpdate_keepsForm {orig : State} (s : State) : KeepsForm orig (State.pairUpdate s) ↔ KeepsForm orig s := by
  simp [State.pairUpdate]

@[simp] theorem State.resetIfDue_keepsForm {orig : State} (s : State) (h : KeepsForm orig s) : KeepsForm orig (State.resetIfDue s) := by
  unfold State.resetIfDue; split <;> simp [h]

theorem keepsForm_kept (orig : State) : KeptBySettling (KeepsForm orig) where
  taken s h := by simpa using h
  merged s i n v c h := by simpa using h
  created s i n v h := by simpa using h
  counted s h := by simpa using h
  full s j r h := by simpa [State.fifoCounted] using h
  fenced s u h := State.fenceUnit_keepsForm s u h
  demanded s h := State.addCause_keepsForm s _ _ h

@[simp] theorem State.settle_keepsForm {orig : State} (s : State) (h : KeepsForm orig s) : KeepsForm orig s.settle := by
  unfold State.settle
  extract_lets old
  have h1 : KeepsForm orig (s.settleN 6 old).checkSsgFenced := by
    rw [State.checkSsgFenced_keepsForm]; exact (keepsForm_kept orig).settleN 6 old h
  have h2 := (keepsForm_kept orig).settleN 6 old (State.checkInternal_keepsForm _ h1)
  exact State.resetIfDue_keepsForm _ (by rwa [State.pairUpdate_keepsForm])

/-- The state that a command leads to is as well formed as `orig`. -/
def FormKept (orig : State) (r : Host.Outcome State Fault Refusal) : Prop := ∀ u, r = .next u → KeepsForm orig u

section
variable {orig : State}

@[simp] theorem formKept_next (s : State) : FormKept orig (.next s) ↔ KeepsForm orig s :=
  ⟨fun h => h s rfl, fun h u hu => by cases hu; exact h⟩

@[simp] theorem formKept_done {s : State} (h : KeepsForm orig s) : FormKept orig (done s) := (formKept_next _).mpr (State.settle_keepsForm s h)

@[simp] theorem ite_formKept {c : Prop} [Decidable c] (a b : Host.Outcome State Fault Refusal) :
    FormKept orig (if c then a else b) ↔ if c then FormKept orig a else FormKept orig b := by
  split <;> rfl

end

/-! ### Operands.lean -/

@[simp] theorem State.setResult_keepsForm {orig : State} (s : State) (t : Fin 8) (rd : Fin 16) (v : Word) :
    KeepsForm orig (State.setResult s t rd v) ↔ KeepsForm orig s := by
  simp [State.setResult]

@[simp] theorem State.except_keepsForm {orig : State} (s : State) (t : Fin 8) (cause : Nat) :
    KeepsForm orig (State.except s t cause) ↔ KeepsForm orig s := by
  simp [State.except]

@[simp] theorem State.issue_formKept (s : State) (t : Fin 8) (w : Word) (f : Thread → State) (h : ∀ x, KeepsForm s (f x)) :
    FormKept s (s.issue t w f) := by
  simp [State.issue, h]

@[simp] theorem State.alu_formKept (s : State) (op : Nat) (t : Fin 8) (rd ra rb : Fin 16) (f : Word → Word → Word) :
    FormKept s (s.alu op t rd ra rb f) := by
  simp [State.alu]

@[simp] theorem State.aluImm_formKept (s : State) (op : Nat) (t : Fin 8) (rd ra : Fin 16) (imm : BitVec 18) (f : Word → Word) :
    FormKept s (s.aluImm op t rd ra imm f) := by
  simp [State.aluImm]

@[simp] theorem State.transfer_keepsForm {orig : State} (s : State) (t : Fin 8) (target : Int) (f : Thread → Thread)
    (hf : ∀ x, (f x).g.length = x.g.length) : KeepsForm orig (s.transfer t target f) ↔ KeepsForm orig s := by
  unfold State.transfer; split <;> simp [hf]

@[simp] theorem State.branch_formKept (s : State) (op : Nat) (t : Fin 8) (rd ra : Fin 16) (off : BitVec 18) (p : Word → Word → Bool) :
    FormKept s (s.branch op t rd ra off p) := by
  have hj : ∀ target, KeepsForm s (s.transfer t target id) := fun target => (State.transfer_keepsForm s t target id fun _ => rfl).mpr (.refl s)
  simp [State.branch, hj]

@[simp] theorem State.armCompare_keepsForm {orig : State} (s : State) (t : Fin 8) (target : Nat) :
    KeepsForm orig (State.armCompare s t target) ↔ KeepsForm orig s := by
  simp [State.armCompare]

/-! ### WardOps.lean -/

@[simp] theorem State.tagFailed_keepsForm {orig : State} (s : State) : KeepsForm orig (State.tagFailed s) ↔ KeepsForm orig s := by
  simp [State.tagFailed]

@[simp] theorem State.checkCmdTag_keepsForm {orig : State} (s : State) (dest : Nat) (src : BitVec 12) (cmdId : BitVec 16) (payload : List Byte) :
    KeepsForm orig (State.checkCmdTag s dest src cmdId payload).2 ↔ KeepsForm orig s := by
  unfold State.checkCmdTag; dsimp only; repeat' split
  all_goals simp

@[simp] theorem State.resetWindows_keepsForm {orig : State} (s : State) (slot : Nat) : KeepsForm orig (s.resetWindows slot) ↔ KeepsForm orig s :=
  keepsForm_congr (by simp [State.formed, State.resetWindows])

@[simp] theorem State.keyDone_keepsForm {orig : State} (s : State) : KeepsForm orig (State.keyDone s) ↔ KeepsForm orig s := by
  simp [State.keyDone]

@[simp] theorem State.keyLoad_keepsForm {orig : State} (s : State) (w : Word) : KeepsForm orig (State.keyLoad s w) ↔ KeepsForm orig s := by
  simp [State.keyLoad]

@[simp] theorem State.openProof_keepsForm {orig : State} (s : State) (flip : Nat) : KeepsForm orig (State.openProof s flip) ↔ KeepsForm orig s := by
  simp [State.openProof]

@[simp] theorem State.countProof_keepsForm {orig : State} (s : State) (flip : Nat) : KeepsForm orig (State.countProof s flip) ↔ KeepsForm orig s := by
  simp [State.countProof]

@[simp] theorem State.proofFlip_keepsForm {orig : State} (s : State) (flip : Nat) : KeepsForm orig (State.proofFlip s flip) ↔ KeepsForm orig s := by
  simp [State.proofFlip]

/-! ### Time.lean -/

@[simp] theorem State.validateW_keepsForm {orig : State} (s : State) (d : Bool) : KeepsForm orig (State.validateW s d) ↔ KeepsForm orig s := by
  simp [State.validateW]

@[simp] theorem State.loseWall_keepsForm {orig : State} (s : State) : KeepsForm orig (State.loseWall s) ↔ KeepsForm orig s := by
  simp [State.loseWall]

@[simp] theorem State.rejoin_keepsForm {orig : State} (s : State) (d : Bool) : KeepsForm orig (State.rejoin s d) ↔ KeepsForm orig s := by
  simp [State.rejoin]

@[simp] theorem State.switchTo_keepsForm {orig : State} (s : State) (d : Bool) : KeepsForm orig (State.switchTo s d) ↔ KeepsForm orig s := by
  simp [State.switchTo]

@[simp] theorem State.switchOver_keepsForm {orig : State} (s : State) (d : Bool) : KeepsForm orig (State.switchOver s d) ↔ KeepsForm orig s := by
  simp [State.switchOver]

@[simp] theorem State.bothLost_keepsForm {orig : State} (s : State) (u : WUndo) : KeepsForm orig (State.bothLost s u) ↔ KeepsForm orig s := by
  simp [State.bothLost]

@[simp] theorem State.enterHoldover_keepsForm {orig : State} (s : State) : KeepsForm orig (State.enterHoldover s) ↔ KeepsForm orig s := by
  simp [State.enterHoldover]

@[simp] theorem State.resumeHoldover_keepsForm {orig : State} (s : State) : KeepsForm orig (State.resumeHoldover s) ↔ KeepsForm orig s := by
  simp [State.resumeHoldover]

@[simp] theorem State.loseDomains_keepsForm {orig : State} (s : State) (l0 l1 : Bool) : KeepsForm orig (s.loseDomains l0 l1) ↔ KeepsForm orig s := by
  unfold State.loseDomains
  extract_lets m0 m1 wasQ s1 s2 x s3
  have h2 : KeepsForm orig s2 ↔ KeepsForm orig s := by simp [s2, s1]
  have h3 : KeepsForm orig s3 ↔ KeepsForm orig s := by simp [s3, h2]
  clear_value s3 s2
  repeat' split
  all_goals simp [h2, h3]

@[simp] theorem State.preferW_keepsForm {orig : State} (s : State) (d : Bool) : KeepsForm orig (State.preferW s d) ↔ KeepsForm orig s := by
  simp [State.preferW]

@[simp] theorem State.acquired_keepsForm {orig : State} (s : State) (d : Bool) : KeepsForm orig (State.acquired s d) ↔ KeepsForm orig s := by
  simp [State.acquired]

@[simp] theorem State.sample_keepsForm {orig : State} (s : State) (d : Bool) (gm : Int) (tin : Nat) (log : Int) :
    KeepsForm orig (State.sample s d gm tin log) ↔ KeepsForm orig s := by
  simp [State.sample]

@[simp] theorem State.badMsg_keepsForm {orig : State} (s : State) : KeepsForm orig (State.badMsg s) ↔ KeepsForm orig s := by
  simp [State.badMsg]

@[simp] theorem State.sendAnn_keepsForm {orig : State} (s : State) (p : Port) (dest typ domain : Nat) (payload : List Byte) :
    KeepsForm orig (State.sendAnn s p dest typ domain payload) ↔ KeepsForm orig s := by
  simp [State.sendAnn]

/-! ### Links.lean -/

@[simp] theorem State.enterQuiet_keepsForm {orig : State} (s : State) (p : Port) : KeepsForm orig (State.enterQuiet s p) ↔ KeepsForm orig s := by
  simp [State.enterQuiet]

@[simp] theorem State.attemptFails_keepsForm {orig : State} (s : State) (p : Port) : KeepsForm orig (State.attemptFails s p) ↔ KeepsForm orig s := by
  simp [State.attemptFails]

@[simp] theorem State.recycle_keepsForm {orig : State} (s : State) (p : Port) : KeepsForm orig (State.recycle s p) ↔ KeepsForm orig s := by
  simp [State.recycle]

@[simp] theorem State.linkDown_keepsForm {orig : State} (s : State) (p : Port) : KeepsForm orig (State.linkDown s p) ↔ KeepsForm orig s := by
  simp [State.linkDown]

@[simp] theorem State.retrain_keepsForm {orig : State} (s : State) (p : Port) : KeepsForm orig (State.retrain s p) ↔ KeepsForm orig s := by
  simp [State.retrain]

@[simp] theorem State.fenceLane_keepsForm {orig : State} (s : State) (p : Port) (i : Nat) :
    KeepsForm orig (State.fenceLane s p i) ↔ KeepsForm orig s := by
  simp [State.fenceLane]

@[simp] theorem State.announceOn_keepsForm {orig : State} (s : State) (p : Port) : KeepsForm orig (State.announceOn s p) ↔ KeepsForm orig s := by
  simp [State.announceOn]

@[simp] theorem State.takeBlocks_keepsForm {orig : State} (s : State) (p : Port) (lane : Nat) (blocks : List Block) :
    KeepsForm orig (State.takeBlocks s p lane blocks) ↔ KeepsForm orig s := by
  simp [State.takeBlocks]

@[simp] theorem State.laneTrigger_keepsForm {orig : State} (s : State) (p : Port) (lane : Nat) :
    KeepsForm orig (State.laneTrigger s p lane) ↔ KeepsForm orig s := by
  simp [State.laneTrigger]

@[simp] theorem State.prbsFail_keepsForm {orig : State} (s : State) (p : Port) (lane : Nat) :
    KeepsForm orig (State.prbsFail s p lane) ↔ KeepsForm orig s := by
  simp [State.prbsFail]

@[simp] theorem State.takeBits_keepsForm {orig : State} (s : State) (p : Port) (lane : Nat) (bits : List Bool) :
    KeepsForm orig (State.takeBits s p lane bits) ↔ KeepsForm orig s := by
  simp [State.takeBits]

@[simp] theorem State.linkCtrl_keepsForm {orig : State} (s : State) (p : Port) (enable retrain clr : Bool) :
    KeepsForm orig (State.linkCtrl s p enable retrain clr) ↔ KeepsForm orig s := by
  simp [State.linkCtrl]

@[simp] theorem State.linkTest_keepsForm {orig : State} (s : State) (p : Port) (w : Word) :
    KeepsForm orig (State.linkTest s p w) ↔ KeepsForm orig s := by
  simp [State.linkTest]

@[simp] theorem State.linkInject_keepsForm {orig : State} (s : State) (p : Port) (w : Word) :
    KeepsForm orig (State.linkInject s p w) ↔ KeepsForm orig s := by
  simp [State.linkInject]

/-! ### CmdOps.lean -/

@[simp] theorem State.sendReply_keepsForm {orig : State} (s : State) (o : OutCmd) (block : Option (List Byte)) :
    KeepsForm orig (State.sendReply s o block) ↔ KeepsForm orig s := by
  unfold State.sendReply; repeat' split
  all_goals simp

@[simp] theorem State.answerTo_keepsForm {orig : State} (s : State) (o : OutCmd) (status : Byte) (result : List Byte) (keep : Bool) :
    KeepsForm orig (State.answerTo s o status result keep) ↔ KeepsForm orig s := by
  simp [State.answerTo]

@[simp] theorem State.reply_keepsForm {orig : State} (s : State) (o : OutCmd) (status : Byte) (result : List Byte) (keep : Bool) :
    KeepsForm orig (State.reply s o status result keep) ↔ KeepsForm orig s := by
  simp [State.reply]

@[simp] theorem State.issuerReply_keepsForm {orig : State} (s : State) (by_ : Issuer) (status : Byte) (w : Word) :
    KeepsForm orig (State.issuerReply s by_ status w) ↔ KeepsForm orig s := by
  unfold State.issuerReply; repeat' split
  all_goals simp

@[simp] theorem State.countBadTag_keepsForm {orig : State} (s : State) (q : CmdReq) : KeepsForm orig (State.countBadTag s q) ↔ KeepsForm orig s := by
  unfold State.countBadTag; split <;> simp

@[simp] theorem State.refuse_keepsForm {orig : State} (s : State) (q : CmdReq) (op status : Byte) :
    KeepsForm orig (State.refuse s q op status) ↔ KeepsForm orig s := by
  simp [State.refuse]

@[simp] theorem State.checks2to8_keepsForm {orig : State} (s : State) (r : OpRule) (q : CmdReq) (b : OpBody) :
    KeepsForm orig (State.checks2to8 s r q b).2 ↔ KeepsForm orig s := by
  simp [State.checks2to8]

@[simp] theorem State.accept_keepsForm {orig : State} (s : State) (q : CmdReq) (op : Byte) (tagged : Bool) :
    KeepsForm orig (State.accept s q op tagged) ↔ KeepsForm orig s := by
  simp [State.accept]

/-! ### NvmOps.lean -/

@[simp] theorem State.applySettings_keepsForm {orig : State} (s : State) (x : Settings) :
    KeepsForm orig (State.applySettings s x) ↔ KeepsForm orig s := by
  rfl

@[simp] theorem State.startSettings_keepsForm {orig : State} (s : State) : KeepsForm orig (State.startSettings s) ↔ KeepsForm orig s := by
  simp [State.startSettings]

@[simp] theorem State.startRetained_keepsForm {orig : State} (s : State) : KeepsForm orig (State.startRetained s) ↔ KeepsForm orig s := by
  simp [State.startRetained]

@[simp] theorem State.startProgStore_keepsForm {orig : State} (s : State) : KeepsForm orig (State.startProgStore s) ↔ KeepsForm orig s := by
  simp [State.startProgStore]

@[simp] theorem State.checkShutdown_keepsForm {orig : State} (s : State) : KeepsForm orig (State.checkShutdown s) ↔ KeepsForm orig s := by
  unfold State.checkShutdown; split <;> simp

@[simp] theorem State.storeResult_keepsForm {orig : State} (s : State) (kind : Nat) (code : Byte) :
    KeepsForm orig (State.storeResult s kind code) ↔ KeepsForm orig s := by
  simp [State.storeResult]

@[simp] theorem State.settingsDone_keepsForm {orig : State} (s : State) (ok : Bool) :
    KeepsForm orig (State.settingsDone s ok) ↔ KeepsForm orig s := by
  unfold State.settingsDone; split <;> simp

@[simp] theorem State.retainedDone_keepsForm {orig : State} (s : State) (ok : Bool) :
    KeepsForm orig (State.retainedDone s ok) ↔ KeepsForm orig s := by
  unfold State.retainedDone; split <;> simp

@[simp] theorem State.programDone_keepsForm {orig : State} (s : State) (ok : Bool) : KeepsForm orig (State.programDone s ok) ↔ KeepsForm orig s := by
  unfold State.programDone; split <;> simp

@[simp] theorem State.leaveUpdate_keepsForm {orig : State} (s : State) : KeepsForm orig (State.leaveUpdate s) ↔ KeepsForm orig s := by
  simp [State.leaveUpdate]

@[simp] theorem State.stage_keepsForm {orig : State} (s : State) (offset : Nat) (data : List Byte) :
    KeepsForm orig (State.stage s offset data).2 ↔ KeepsForm orig s := by
  simp [State.stage]

@[simp] theorem State.confirmTrial_keepsForm {orig : State} (s : State) : KeepsForm orig (State.confirmTrial s) ↔ KeepsForm orig s := by
  simp [State.confirmTrial]

@[simp] theorem State.fallback_keepsForm {orig : State} (s : State) : KeepsForm orig (State.fallback s) ↔ KeepsForm orig s := by
  simp [State.fallback]

@[simp] theorem State.cairnStart_keepsForm {orig : State} (s : State) : KeepsForm orig (State.cairnStart s) ↔ KeepsForm orig s := by
  simp [State.cairnStart]

@[simp] theorem State.cairnData_keepsForm {orig : State} (s : State) (w : Word) : KeepsForm orig (State.cairnData s w) ↔ KeepsForm orig s := by
  simp [State.cairnData]

@[simp] theorem State.cairnCommit_keepsForm {orig : State} (s : State) : KeepsForm orig (State.cairnCommit s) ↔ KeepsForm orig s := by
  simp [State.cairnCommit]

@[simp] theorem State.cairnDone_keepsForm {orig : State} (s : State) (ok : Bool) : KeepsForm orig (State.cairnDone s ok) ↔ KeepsForm orig s := by
  simp [State.cairnDone]

@[simp] theorem State.loadPlane_keepsForm {orig : State} (s : State) : KeepsForm orig (State.loadPlane s) ↔ KeepsForm orig s := by
  simp [State.loadPlane]

/-! ### Blocks.lean -/

@[simp] theorem State.portSlot_keepsForm {orig : State} (s : State) (p : Port) : KeepsForm orig (State.portSlot s p) ↔ KeepsForm orig s := by
  unfold State.portSlot; dsimp only; repeat' split
  all_goals simp

@[simp] theorem State.portCycle_keepsForm {orig : State} (s : State) (p : Port) (was now : Nat) :
    KeepsForm orig (State.portCycle s p was now) ↔ KeepsForm orig s := by
  simp [State.portCycle]

/-! ### Frames.lean -/

@[simp] theorem State.fwd_keepsForm {orig : State} (s : State) (from_ out : Port) (turned : Bool) (h : BitVec 128) :
    KeepsForm orig (State.fwd s from_ out turned h) ↔ KeepsForm orig s := by
  simp [State.fwd]

@[simp] theorem State.mapReject_keepsForm {orig : State} (s : State) (p : Port) : KeepsForm orig (State.mapReject s p) ↔ KeepsForm orig s := by
  simp [State.mapReject]

@[simp] theorem State.announceBoth_keepsForm {orig : State} (s : State) : KeepsForm orig (State.announceBoth s) ↔ KeepsForm orig s := by
  simp [State.announceBoth]

@[simp] theorem State.sendDepart_keepsForm {orig : State} (s : State) : KeepsForm orig (State.sendDepart s) ↔ KeepsForm orig s := by
  simp [State.sendDepart]

@[simp] theorem State.mapLose_keepsForm {orig : State} (s : State) (id seen : Nat) : KeepsForm orig (State.mapLose s id seen) ↔ KeepsForm orig s := by
  simp [State.mapLose]

@[simp] theorem State.landDrop_keepsForm {orig : State} (s : State) (n : Nat) : KeepsForm orig (State.landDrop s n) ↔ KeepsForm orig s := by
  simp [State.landDrop]

@[simp] theorem State.abandonFrame_keepsForm {orig : State} (s : State) (n : Nat) : KeepsForm orig (State.abandonFrame s n) ↔ KeepsForm orig s := by
  unfold State.abandonFrame; split <;> simp

@[simp] theorem State.startFrame_keepsForm {orig : State} (s : State) (n : Nat) (frame : BitVec 32) :
    KeepsForm orig (State.startFrame s n frame) ↔ KeepsForm orig s := by
  unfold State.startFrame; split <;> simp

@[simp] theorem State.frameComplete_keepsForm {orig : State} (s : State) (n : Nat) (l : Land) :
    KeepsForm orig (State.frameComplete s n l) ↔ KeepsForm orig s := by
  simp [State.frameComplete]

@[simp] theorem State.land_keepsForm {orig : State} (s : State) (n : Nat) (frame : BitVec 32) (off : Nat) (last : Bool) (data : List Byte) (h : KeepsForm orig s) :
    KeepsForm orig (State.land s n frame off last data) := by
  unfold State.land; dsimp only; repeat' split
  all_goals simp [h]

/-! ### LedOps.lean -/

@[simp] theorem State.rtFencePixel_keepsForm {orig : State} (s : State) (p : Nat) (h : KeepsForm orig s) :
    KeepsForm orig (State.rtFencePixel s p) := by
  simp [State.rtFencePixel, h]

@[simp] theorem State.fenceEmitter_keepsForm {orig : State} (s : State) (k c e : Nat) (h : KeepsForm orig s) :
    KeepsForm orig (State.fenceEmitter s k c e) := by
  simp [State.fenceEmitter, h]

@[simp] theorem State.ledEvaluate_keepsForm {orig : State} (s : State) (atTake : Bool) :
    KeepsForm orig (State.ledEvaluate s atTake) ↔ KeepsForm orig s := by
  simp [State.ledEvaluate]

@[simp] theorem State.restoreRing_keepsForm {orig : State} (s : State) (k : Nat) : KeepsForm orig (State.restoreRing s k) ↔ KeepsForm orig s := by
  simp [State.restoreRing]

@[simp] theorem State.streamFrame_keepsForm {orig : State} (s : State) (n : Nat) (h : KeepsForm orig s) : KeepsForm orig (State.streamFrame s n) := by
  simp [State.streamFrame, h]

@[simp] theorem State.resendCells_keepsForm {orig : State} (s : State) (k : Nat) : KeepsForm orig (State.resendCells s k) ↔ KeepsForm orig s := by
  simp [State.resendCells]

@[simp] theorem State.keepCell_keepsForm {orig : State} (s : State) (k c : Nat) : KeepsForm orig (State.keepCell s k c) ↔ KeepsForm orig s := by
  simp [State.keepCell]

@[simp] theorem State.keepPending_keepsForm {orig : State} (s : State) (k : Nat) : KeepsForm orig (State.keepPending s k) ↔ KeepsForm orig s := by
  simp [State.keepPending]

@[simp] theorem State.decideLatch_keepsForm {orig : State} (s : State) (rate : Bool) (h : KeepsForm orig s) :
    KeepsForm orig (State.decideLatch s rate) := by
  simp [State.decideLatch, h]

@[simp] theorem State.latchRing_keepsForm {orig : State} (s : State) (k : Nat) : KeepsForm orig (State.latchRing s k) ↔ KeepsForm orig s := by
  unfold State.latchRing; dsimp only; repeat' split
  all_goals simp

@[simp] theorem State.sigDone_keepsForm {orig : State} (s : State) : KeepsForm orig (State.sigDone s) ↔ KeepsForm orig s := by
  simp [State.sigDone]

@[simp] theorem State.formSignature_keepsForm {orig : State} (s : State) (n : Nat) (codes : Nat → Bool) :
    KeepsForm orig (State.formSignature s n codes) ↔ KeepsForm orig s := by
  simp [State.formSignature]

/-! ### AgeOps.lean -/

@[simp] theorem State.putDose_keepsForm {orig : State} (s : State) (e d : Nat) (h : KeepsForm orig s) : KeepsForm orig (State.putDose s e d) := by
  simp [State.putDose, h]

@[simp] theorem State.copyAdvance_keepsForm {orig : State} (s : State) : KeepsForm orig (State.copyAdvance s) ↔ KeepsForm orig s := by
  simp [State.copyAdvance]

@[simp] theorem State.addDoses_keepsForm {orig : State} (s : State) (x : Sample) (l : List (Nat × Nat × Nat)) (h : KeepsForm orig s) :
    KeepsForm orig (s.addDoses x l) :=
  foldl_keepsForm _ (fun t q ht => State.putDose_keepsForm t _ _ ht) (by simpa using h)

@[simp] theorem State.abandonPass_keepsForm {orig : State} (s : State) (h : KeepsForm orig s) : KeepsForm orig (State.abandonPass s) := by
  unfold State.abandonPass; split <;> simp [h]

@[simp] theorem State.takeSample_keepsForm {orig : State} (s0 : State) (n : Nat) (h : KeepsForm orig s0) :
    KeepsForm orig (State.takeSample s0 n) := by
  simp [State.takeSample, h]

@[simp] theorem State.applySample_keepsForm {orig : State} (s : State) (x : Sample) (h : KeepsForm orig s) :
    KeepsForm orig (State.applySample s x) := by
  simp [State.applySample, h]

@[simp] theorem State.ledgerEcc_keepsForm {orig : State} (s : State) (b : Nat) (h : KeepsForm orig s) : KeepsForm orig (s.ledgerEcc b) := by
  rw [State.ledgerEcc, State.raise_keepsForm]
  exact foldl_keepsForm _ (fun t p ht => foldl_keepsForm _ (fun t i ht => State.putDose_keepsForm t _ _ ht) ht) (by simpa using h)

@[simp] theorem State.readLedger_keepsForm {orig : State} (s : State) (h : KeepsForm orig s) : KeepsForm orig s.readLedger := by
  rw [State.readLedger, State.onAge_keepsForm]
  exact foldl_keepsForm _ (fun t b ht => State.ledgerEcc_keepsForm t b ht) h

@[simp] theorem State.planPass_keepsForm {orig : State} (s0 : State) (boot : Bool) (h : KeepsForm orig s0) :
    KeepsForm orig (State.planPass s0 boot) := by
  simp [State.planPass, h]

@[simp] theorem State.putRec_keepsForm {orig : State} (s : State) (p : Nat) (r : BitVec 128) (h : KeepsForm orig s) :
    KeepsForm orig (State.putRec s p r) := by
  simp [State.putRec, h]

@[simp] theorem State.rewriteRec_keepsForm {orig : State} (s : State) (p : Nat) (h : KeepsForm orig s) : KeepsForm orig (State.rewriteRec s p) := by
  simp [State.rewriteRec, h]

@[simp] theorem State.keepCopied_keepsForm {orig : State} (s : State) (p : Nat) : KeepsForm orig (State.keepCopied s p) ↔ KeepsForm orig s := by
  simp [State.keepCopied]

@[simp] theorem State.storeAdvance_keepsForm {orig : State} (s : State) : KeepsForm orig (State.storeAdvance s) ↔ KeepsForm orig s := by
  simp [State.storeAdvance]

@[simp] theorem State.calPixel_keepsForm {orig : State} (s0 : State) (q : CalReq) (p : Nat) (h : KeepsForm orig s0) :
    KeepsForm orig (State.calPixel s0 q p) := by
  simp [State.calPixel, h]

@[simp] theorem State.calUpTo_keepsForm {orig : State} (s : State) (q : CalReq) (n : Nat) (h : KeepsForm orig s) : KeepsForm orig (s.calUpTo q n) := by
  rw [State.calUpTo, State.onCol_keepsForm]
  exact foldl_keepsForm _ (fun t p ht => State.calPixel_keepsForm t q p ht) (by simpa using h)

@[simp] theorem State.calAdvance_keepsForm {orig : State} (s : State) (h : KeepsForm orig s) : KeepsForm orig (State.calAdvance s) := by
  unfold State.calAdvance; split <;> simp [h]

@[simp] theorem State.rebuildRec_keepsForm {orig : State} (s0 : State) (p : Nat) (h : KeepsForm orig s0) :
    KeepsForm orig (State.rebuildRec s0 p) := by
  simp [State.rebuildRec, h]

@[simp] theorem State.planComp_keepsForm {orig : State} (s : State) (p : Nat) : KeepsForm orig (State.planComp s p) ↔ KeepsForm orig s := by
  simp [State.planComp]

@[simp] theorem State.rewriteTo_keepsForm {orig : State} (s : State) (n : Nat) (h : KeepsForm orig s) : KeepsForm orig (s.rewriteTo n) := by
  rw [State.rewriteTo, State.onAge_keepsForm]
  exact foldl_keepsForm _ (fun t p ht => State.rewriteRec_keepsForm _ p (by simpa using ht)) h

@[simp] theorem State.rewriteAdvance_keepsForm {orig : State} (s : State) (h : KeepsForm orig s) : KeepsForm orig (State.rewriteAdvance s) := by
  simp [State.rewriteAdvance, h]

@[simp] theorem State.rewriteAll_keepsForm {orig : State} (s : State) (h : KeepsForm orig s) : KeepsForm orig (State.rewriteAll s) := by
  simp [State.rewriteAll, h]

/-! ### Composer.lean -/

@[simp] theorem State.startAdmission_keepsForm {orig : State} (s : State) : KeepsForm orig s.startAdmission ↔ KeepsForm orig s :=
  State.onComp_keepsForm _ _ fun c => by split <;> rfl

@[simp] theorem State.requestCommit_keepsForm {orig : State} (s : State) (w : Word) (by_ : Issuer) :
    KeepsForm orig (State.requestCommit s w by_).2 ↔ KeepsForm orig s := by
  simp [State.requestCommit]

@[simp] theorem State.requestMode_keepsForm {orig : State} (s : State) (w0 w1 w2 w3 : Word) :
    KeepsForm orig (State.requestMode s w0 w1 w2 w3).2 ↔ KeepsForm orig s := by
  unfold State.requestMode; repeat' split
  all_goals simp

@[simp] theorem State.applyMode_keepsForm {orig : State} (s : State) (n : Nat) : KeepsForm orig (s.applyMode n).1 ↔ KeepsForm orig s := by
  unfold State.applyMode; split
  · rfl
  · next m hm =>
    split
    · extract_lets rate c l c2 s1 s2
      have h2 : KeepsForm orig s2 ↔ KeepsForm orig s :=
        (State.each_keepsForm_iff s1 64 fun t k => by simp).trans (keepsForm_congr rfl)
      clear_value s2
      dsimp only; split <;> simp [h2]
    · rfl

@[simp] theorem State.layersTake_keepsForm {orig : State} (s : State) : KeepsForm orig (State.layersTake s) ↔ KeepsForm orig s := by
  simp [State.layersTake]

@[simp] theorem State.recost_keepsForm {orig : State} (s : State) (h : KeepsForm orig s) : KeepsForm orig (State.recost s) := by
  simp [State.recost, h]

@[simp] theorem State.commitTake_keepsForm {orig : State} (s : State) (h : KeepsForm orig s) : KeepsForm orig (State.commitTake s) := by
  unfold State.commitTake; split <;> simp [h]

@[simp] theorem State.recheck_keepsForm {orig : State} (s : State) (h : KeepsForm orig s) : KeepsForm orig (State.recheck s) := by
  simp [State.recheck, h]

@[simp] theorem State.applyTrims_keepsForm {orig : State} (s : State) : KeepsForm orig (State.applyTrims s) ↔ KeepsForm orig s := by
  simp [State.applyTrims]

@[simp] theorem State.colourTake_keepsForm {orig : State} (s : State) : KeepsForm orig (State.colourTake s) ↔ KeepsForm orig s := by
  simp [State.colourTake]

@[simp] theorem State.placeTake_keepsForm {orig : State} (s : State) : KeepsForm orig (State.placeTake s) ↔ KeepsForm orig s := by
  simp [State.placeTake]

@[simp] theorem State.confidence_keepsForm {orig : State} (s : State) : KeepsForm orig (State.confidence s) ↔ KeepsForm orig s := by
  simp [State.confidence]

@[simp] theorem State.measRound_keepsForm {orig : State} (s : State) : KeepsForm orig (State.measRound s) ↔ KeepsForm orig s := by
  unfold State.measRound; dsimp only; repeat' split
  all_goals simp

@[simp] theorem State.localSample_keepsForm {orig : State} (s : State) (n : Nat) (h : KeepsForm orig s) : KeepsForm orig (State.localSample s n) := by
  simp [State.localSample, h]

@[simp] theorem State.putPixel_keepsForm {orig : State} (s : State) (x y : Nat) (o : PixelOut) (h : KeepsForm orig s) :
    KeepsForm orig (State.putPixel s x y o) := by
  simp [State.putPixel, h]

@[simp] theorem State.envParity_keepsForm {orig : State} (s : State) (z : Nat) : KeepsForm orig (State.envParity s z) ↔ KeepsForm orig s := by
  simp [State.envParity]

@[simp] theorem State.recEcc_keepsForm {orig : State} (s : State) (b : Nat) : KeepsForm orig (State.recEcc s b) ↔ KeepsForm orig s := by
  simp [State.recEcc]

@[simp] theorem State.confBand_keepsForm {orig : State} (s : State) (band : Nat) : KeepsForm orig (State.confBand s band) ↔ KeepsForm orig s := by
  simp [State.confBand]

@[simp] theorem State.writeBand_keepsForm {orig : State} (s : State) (obs : BandObs) (band : Nat) (h : KeepsForm orig s) :
    KeepsForm orig (s.writeBand obs band) := by
  unfold State.writeBand
  extract_lets inBand zone s1 s2 s3
  have h1 : KeepsForm orig s1 := foldl_keepsForm _ (fun t z ht => by simpa using ht) h
  have h2 : KeepsForm orig s2 :=
    foldl_keepsForm _ (fun t b ht => by simpa using ht) (State.rewriteAdvance_keepsForm _ (State.calAdvance_keepsForm _ h1))
  have h3 : KeepsForm orig s3 := foldl_keepsForm _ (fun t p ht => State.putPixel_keepsForm t _ _ _ ht) h2
  simpa using h3

end Sys2Proof.Machine
end

section
/-!
LEMMAS. What keeps the form of the state, for O51: rings, safety, non-volatile memory, the registers, boot and power.
-/

-- One declaration after another: the whole text compiles close to the memory it may have.
set_option Elab.async false

namespace Sys2Proof.Machine

/-! ### Rings.lean -/

@[simp] theorem State.tempReturn_keepsForm {orig : State} (s : State) (k c t : Nat) :
    KeepsForm orig (State.tempReturn s k c t) ↔ KeepsForm orig s := by
  simp [State.tempReturn]

@[simp] theorem State.esReturn_keepsForm {orig : State} (s : State) (k c : Nat) (counts os : Bool) (es : Nat → Nat) (h : KeepsForm orig s) :
    KeepsForm orig (s.esReturn k c counts os es) :=
  foldl_keepsForm _ (fun t q ht => State.fenceEmitter_keepsForm t k c _ ht) (by simpa using h)

@[simp] theorem State.cairnFail_keepsForm {orig : State} (s : State) (k : Nat) : KeepsForm orig (State.cairnFail s k) ↔ KeepsForm orig s := by
  simp [State.cairnFail]

@[simp] theorem State.sendAgain_keepsForm {orig : State} (s : State) (k c : Nat) (codes : List Byte) (latchNow : Bool) :
    KeepsForm orig (State.sendAgain s k c codes latchNow) ↔ KeepsForm orig s := by
  simp [State.sendAgain]

@[simp] theorem State.unconfirmed_keepsForm {orig : State} (s : State) (k c : Nat) : KeepsForm orig (State.unconfirmed s k c) ↔ KeepsForm orig s := by
  simp [State.unconfirmed]

@[simp] theorem State.retryLater_keepsForm {orig : State} (s : State) (k c : Nat) : KeepsForm orig (State.retryLater s k c) ↔ KeepsForm orig s := by
  simp [State.retryLater]

@[simp] theorem State.sendDue_keepsForm {orig : State} (s : State) (k : Nat) : KeepsForm orig (State.sendDue s k) ↔ KeepsForm orig s := by
  simp [State.sendDue]

@[simp] theorem State.silentReturn_keepsForm {orig : State} (s : State) (k c : Nat) (h : KeepsForm orig s) : KeepsForm orig (s.silentReturn k c) := by
  have hf : ∀ t, KeepsForm orig t → KeepsForm orig ((cellPixels k c).foldl State.rtFencePixel t) := fun t ht =>
    foldl_keepsForm _ (fun t p ht => State.rtFencePixel_keepsForm t p ht) ht
  unfold State.silentReturn; dsimp only; repeat' split
  · exact h
  · simpa using h
  · simpa using hf _ (by simpa using h)

@[simp] theorem State.slot0_keepsForm {orig : State} (s : State) (k : Nat) (o : SlotObs) (h : KeepsForm orig s) :
    KeepsForm orig (State.slot0 s k o) := by
  simp [State.slot0, h]

@[simp] theorem State.slot1_keepsForm {orig : State} (s : State) (k : Nat) (o : SlotObs) : KeepsForm orig (State.slot1 s k o) ↔ KeepsForm orig s := by
  simp [State.slot1]

@[simp] theorem State.slot2_keepsForm {orig : State} (s : State) (k : Nat) (o : SlotObs) (h : KeepsForm orig s) :
    KeepsForm orig (State.slot2 s k o) := by
  simp [State.slot2, h]

@[simp] theorem State.slot3_keepsForm {orig : State} (s : State) (k : Nat) (o : SlotObs) : KeepsForm orig (State.slot3 s k o) ↔ KeepsForm orig s := by
  simp [State.slot3]

@[simp] theorem State.breakFound_keepsForm {orig : State} (s : State) (k : Nat) : KeepsForm orig (State.breakFound s k) ↔ KeepsForm orig s := by
  simp [State.breakFound]

@[simp] theorem State.restartFrame_keepsForm {orig : State} (s : State) (k : Nat) (dir : List (Bool × RingWord)) :
    KeepsForm orig (State.restartFrame s k dir) ↔ KeepsForm orig s := by
  simp [State.restartFrame]

@[simp] theorem State.sweepRequest_keepsForm {orig : State} (s : State) (kind interval : Nat) :
    KeepsForm orig (State.sweepRequest s kind interval).2 ↔ KeepsForm orig s := by
  simp [State.sweepRequest]

@[simp] theorem State.clearRtFences_keepsForm {orig : State} (s : State) (h : KeepsForm orig s) : KeepsForm orig s.clearRtFences := by
  unfold State.clearRtFences
  extract_lets s1 fenced
  have h1 : KeepsForm orig s1 := foldl_keepsForm _ (fun t p ht => by dsimp only; split <;> simp [ht]) h
  exact State.onRings_keepsForm_of_length _ _ (fun x => by simp) (by simpa using h1)

@[simp] theorem State.fenceGap_keepsForm {orig : State} (s : State) (k a b : Nat) (h : KeepsForm orig s) : KeepsForm orig (s.fenceGap k a b) := by
  rw [State.fenceGap, State.raise_keepsForm]
  exact foldl_keepsForm _ (fun t i ht => foldl_keepsForm _ (fun t p ht => State.rtFencePixel_keepsForm t p ht) ht) h

@[simp] theorem State.bringSlots_keepsForm {orig : State} (s : State) (k : Nat) (slots : List SlotObs) (h : KeepsForm orig s) :
    KeepsForm orig (s.bringSlots k slots) := by
  unfold State.bringSlots; split
  · exact h
  · exact foldl_keepsForm _ (fun t o ht => State.slot0_keepsForm t k o ht) (by simpa using h)

@[simp] theorem State.bringRing_keepsForm {orig : State} (s : State) (k : Nat) (o : RingBring) (h : KeepsForm orig s) :
    KeepsForm orig (State.bringRing s k o) := by
  simp [State.bringRing, h]

/-! ### Thermal.lean -/

@[simp] theorem State.askTrim_keepsForm {orig : State} (s : State) : KeepsForm orig (State.askTrim s) ↔ KeepsForm orig s := by
  simp [State.askTrim]

/-! ### Colour.lean -/

@[simp] theorem State.requestTake_keepsForm {orig : State} (s : State) (env colour : Bool) (token : BitVec 8) (by_ : Issuer) :
    KeepsForm orig (State.requestTake s env colour token by_).2.2 ↔ KeepsForm orig s := by
  unfold State.requestTake; repeat' split
  all_goals simp

@[simp] theorem State.envData_keepsForm {orig : State} (s : State) (a : Nat) (w : Word) :
    KeepsForm orig (State.envData s a w) ↔ KeepsForm orig s := by
  simp [State.envData]

@[simp] theorem State.envFill_keepsForm {orig : State} (s : State) (w : Word) : KeepsForm orig (State.envFill s w) ↔ KeepsForm orig s := by
  simp [State.envFill]

@[simp] theorem State.requestCal_keepsForm {orig : State} (s : State) (w0 w1 w2 : Word) :
    KeepsForm orig (State.requestCal s w0 w1 w2).2 ↔ KeepsForm orig s := by
  unfold State.requestCal; split <;> simp

@[simp] theorem State.startUserStore_keepsForm {orig : State} (s : State) (h : KeepsForm orig s) : KeepsForm orig (State.startUserStore s) := by
  simp [State.startUserStore, h]

/-! ### Age.lean -/

@[simp] theorem State.startLedger_keepsForm {orig : State} (s0 : State) (h : KeepsForm orig s0) : KeepsForm orig (State.startLedger s0) := by
  simp [State.startLedger, h]

@[simp] theorem State.storeLedger_keepsForm {orig : State} (s : State) (h : KeepsForm orig s) : KeepsForm orig (State.storeLedger s) := by
  simp [State.storeLedger, h]

@[simp] theorem State.afterLedger_keepsForm {orig : State} (s : State) : KeepsForm orig (State.afterLedger s) ↔ KeepsForm orig s := by
  simp [State.afterLedger]

@[simp] theorem State.setCore_keepsForm {orig : State} (s : State) (mv : Nat) (written raised : Bool) :
    KeepsForm orig (State.setCore s mv written raised) ↔ KeepsForm orig s := by
  simp [State.setCore]

@[simp] theorem State.memEyes_keepsForm {orig : State} (s : State) (eyes : List Nat) : KeepsForm orig (State.memEyes s eyes) ↔ KeepsForm orig s := by
  simp [State.memEyes]

@[simp] theorem State.laneMargin_keepsForm {orig : State} (s : State) (p : Port) (eyes : List (BitVec 8)) :
    KeepsForm orig (State.laneMargin s p eyes) ↔ KeepsForm orig s := by
  simp [State.laneMargin]

/-! ### Safety.lean -/

@[simp] theorem State.sendPdu_keepsForm {orig : State} (s : State) (dest kind : Nat) (data : List Byte) (target : BitVec 32) :
    KeepsForm orig (State.sendPdu s dest kind data target) ↔ KeepsForm orig s := by
  simp [State.sendPdu]

@[simp] theorem State.sendDemand_keepsForm {orig : State} (s : State) (i : InputAB) : KeepsForm orig (State.sendDemand s i) ↔ KeepsForm orig s := by
  unfold State.sendDemand; split <;> simp

@[simp] theorem State.demand_keepsForm {orig : State} (s : State) (c : Cause) (fn : SafeFunc) (h : KeepsForm orig s) :
    KeepsForm orig (State.demand s c fn) := by
  simp [State.demand, h]

@[simp] theorem State.inputDemand_keepsForm {orig : State} (s : State) (i : InputAB) (h : KeepsForm orig s) :
    KeepsForm orig (State.inputDemand s i) := by
  unfold State.inputDemand; split <;> simp [h]

@[simp] theorem State.latchInput_keepsForm {orig : State} (s : State) (i : InputAB) (src : Nat) (h : KeepsForm orig s) :
    KeepsForm orig (State.latchInput s i src) := by
  simp [State.latchInput, h]

@[simp] theorem State.unlatch_keepsForm {orig : State} (s : State) (i : InputAB) : KeepsForm orig (State.unlatch s i) ↔ KeepsForm orig s := by
  simp [State.unlatch]

@[simp] theorem State.pulse_keepsForm {orig : State} (s : State) (i : InputAB) (output fail : Bool) (h : KeepsForm orig s) :
    KeepsForm orig (State.pulse s i output fail) := by
  simp [State.pulse, h]

@[simp] theorem State.acknowledge_keepsForm {orig : State} (s : State) (named : Cause → Bool) (h : KeepsForm orig s) :
    KeepsForm orig (State.acknowledge s named) := by
  simp [State.acknowledge, h]

@[simp] theorem State.fadeStep_keepsForm {orig : State} (s : State) (maxEcho phaseMa : Nat) :
    KeepsForm orig (State.fadeStep s maxEcho phaseMa) ↔ KeepsForm orig s := by
  simp [State.fadeStep]

@[simp] theorem State.acceptMaster_keepsForm {orig : State} (s : State) (l : List Byte) :
    KeepsForm orig (State.acceptMaster s l) ↔ KeepsForm orig s := by
  simp [State.acceptMaster]

@[simp] theorem State.bcDemand_keepsForm {orig : State} (l : List Byte) (s : State) (h : KeepsForm orig s) : KeepsForm orig (State.bcDemand l s) := by
  unfold State.bcDemand; split <;> simp [h]

/-! ### Faults.lean -/

@[simp] theorem State.railHolds_keepsForm {orig : State} (s : State) : KeepsForm orig (State.railHolds s) ↔ KeepsForm orig s := by
  simp [State.railHolds]

@[simp] theorem State.bringUpAgain_keepsForm {orig : State} (s : State) (k : Nat) (h : KeepsForm orig s) :
    KeepsForm orig (State.bringUpAgain s k) := by
  simp [State.bringUpAgain, h]

@[simp] theorem State.liftFence_keepsForm {orig : State} (s : State) (u : FenceUnit) (h : KeepsForm orig s) :
    KeepsForm orig (State.liftFence s u) := by
  unfold State.liftFence; split <;> simp [h]

@[simp] theorem State.ackRecord_keepsForm {orig : State} (s : State) (r : FaultRecord) (h : KeepsForm orig s) : KeepsForm orig (s.ackRecord r) :=
  foldl_keepsForm _ (fun t m ht => by split <;> simp [ht]) (by simpa using h)

@[simp] theorem State.faultAck_keepsForm {orig : State} (s : State) (n : BitVec 32) (h : KeepsForm orig s) : KeepsForm orig (s.faultAck n).2 := by
  unfold State.faultAck; split
  · exact foldl_keepsForm _ (fun t r ht => State.ackRecord_keepsForm t r ht) h
  · repeat' split
    all_goals simp [h]

@[simp] theorem State.injectReacts_keepsForm {orig : State} (s : State) (n : Nat) (h : KeepsForm orig s) :
    KeepsForm orig (State.injectReacts s n) := by
  simp [State.injectReacts, h]

@[simp] theorem State.inject_keepsForm {orig : State} (s : State) (w : Word) (h : KeepsForm orig s) : KeepsForm orig (State.inject s w).2 := by
  unfold State.inject; dsimp only; repeat' split
  all_goals simp [h]

@[simp] theorem State.chkDrain_keepsForm {orig : State} (s : State) (u : Nat) : KeepsForm orig (State.chkDrain s u) ↔ KeepsForm orig s := by
  simp [State.chkDrain]

@[simp] theorem State.chkTick_keepsForm {orig : State} (s : State) (u : Nat) : KeepsForm orig (State.chkTick s u) ↔ KeepsForm orig s := by
  simp [State.chkTick]

@[simp] theorem State.chkStart_keepsForm {orig : State} (s : State) (u : Nat) : KeepsForm orig (State.chkStart s u) ↔ KeepsForm orig s := by
  simp [State.chkStart]

@[simp] theorem State.chkData_keepsForm {orig : State} (s : State) (u : Nat) (l : List Byte) :
    KeepsForm orig (State.chkData s u l) ↔ KeepsForm orig s := by
  simp [State.chkData]

@[simp] theorem State.chkClose_keepsForm {orig : State} (s : State) (u : Nat) : KeepsForm orig (State.chkClose s u) ↔ KeepsForm orig s := by
  simp [State.chkClose]

@[simp] theorem State.chkAlive_keepsForm {orig : State} (s : State) (u : Nat) (w : Word) :
    KeepsForm orig (State.chkAlive s u w) ↔ KeepsForm orig s := by
  simp [State.chkAlive]

/-! ### NvmRows.lean -/

@[simp] theorem State.eraseTarget_keepsForm {orig : State} (s : State) (k : NvmJob) : KeepsForm orig (State.eraseTarget s k) ↔ KeepsForm orig s := by
  simp [State.eraseTarget]

@[simp] theorem State.requestStore_keepsForm {orig : State} (s : State) (w : Word) (h : KeepsForm orig s) :
    KeepsForm orig (State.requestStore s w).2 := by
  simp [State.requestStore, h]

/-! ### RegsSys.lean -/

@[simp] theorem State.tumStart_keepsForm {orig : State} (s : State) (m : Nat) (h : KeepsForm orig s) : KeepsForm orig (s.tumStart m) := by
  unfold State.tumStart; split
  · exact h
  · have h1 : KeepsForm orig (if s.allHalted then s.reportProg else s) := by split <;> simp [h]
    dsimp only; split
    · exact h1
    · exact State.each_keepsForm _ _ (fun t k ht => by split <;> simp [ht]) h1

@[simp] theorem State.tumHalt_keepsForm {orig : State} (s : State) (m : Nat) : KeepsForm orig (s.tumHalt m) ↔ KeepsForm orig s := by
  refine State.each_keepsForm_iff _ _ fun t k => ?_
  split
  · exact State.onThread_keepsForm _ _ _ fun x => by split <;> simp
  · rfl

@[simp] theorem State.tumCtrl_keepsForm {orig : State} (s : State) (w : Word) (h : KeepsForm orig s) : KeepsForm orig (State.tumCtrl s w) := by
  simp [State.tumCtrl, h]

@[simp] theorem State.touchId_keepsForm {orig : State} (s : State) (a : Nat) : KeepsForm orig (State.touchId s a) ↔ KeepsForm orig s := by
  simp [State.touchId]

@[simp] theorem State.writeId_keepsForm {orig : State} (s : State) (a : Nat) (w : Word) (h : KeepsForm orig s) :
    KeepsForm orig (State.writeId s a w).2 := by
  simp [State.writeId, h]

@[simp] theorem State.touchClk_keepsForm {orig : State} (s : State) (a : Nat) : KeepsForm orig (State.touchClk s a) ↔ KeepsForm orig s := by
  simp [State.touchClk]

@[simp] theorem State.touchFlt_keepsForm {orig : State} (s : State) (a : Nat) (consume : Bool) :
    KeepsForm orig (State.touchFlt s a consume) ↔ KeepsForm orig s := by
  simp [State.touchFlt]

@[simp] theorem State.writeFlt_keepsForm {orig : State} (s : State) (a : Nat) (w : Word) (h : KeepsForm orig s) :
    KeepsForm orig (State.writeFlt s a w).2 := by
  simp [State.writeFlt, h]

@[simp] theorem State.touchChk_keepsForm {orig : State} (s : State) (src : Source) (a : Nat) (consume : Bool) :
    KeepsForm orig (State.touchChk s src a consume) ↔ KeepsForm orig s := by
  unfold State.touchChk; split <;> simp

@[simp] theorem State.writeChk_keepsForm {orig : State} (s : State) (a : Nat) (w : Word) :
    KeepsForm orig (State.writeChk s a w).2 ↔ KeepsForm orig s := by
  unfold State.writeChk; split <;> simp

/-! ### RegsLink.lean -/

@[simp] theorem State.touchLink_keepsForm {orig : State} (s : State) (src : Source) (p : Port) (o : Nat) :
    KeepsForm orig (State.touchLink s src p o) ↔ KeepsForm orig s := by
  simp [State.touchLink]

@[simp] theorem State.startEye_keepsForm {orig : State} (s : State) (p : Port) : KeepsForm orig (State.startEye s p) ↔ KeepsForm orig s := by
  simp [State.startEye]

@[simp] theorem State.writeLinkCtrl_keepsForm {orig : State} (s : State) (p : Port) (w : Word) :
    KeepsForm orig (State.writeLinkCtrl s p w) ↔ KeepsForm orig s := by
  simp [State.writeLinkCtrl]

@[simp] theorem State.writeLink_keepsForm {orig : State} (s : State) (src : Source) (p : Port) (o : Nat) (w : Word) :
    KeepsForm orig (State.writeLink s src p o w).2 ↔ KeepsForm orig s := by
  simp [State.writeLink]

@[simp] theorem State.touchTime_keepsForm {orig : State} (s : State) (src : Source) (a : Nat) (consume : Bool) :
    KeepsForm orig (s.touchTime src a consume) ↔ KeepsForm orig s := by
  unfold State.touchTime; dsimp only
  cases s.time.caps with
  | nil => simp
  | cons c rest => simp

@[simp] theorem State.writeCompare_keepsForm {orig : State} (s : State) (src : Source) (n : Nat) (hi : Bool) (w : Word) :
    KeepsForm orig (State.writeCompare s src n hi w).2 ↔ KeepsForm orig s := by
  simp [State.writeCompare]

@[simp] theorem State.writeHoldMax_keepsForm {orig : State} (s : State) (w : Word) : KeepsForm orig (State.writeHoldMax s w) ↔ KeepsForm orig s := by
  simp [State.writeHoldMax]

@[simp] theorem State.writeTime_keepsForm {orig : State} (s : State) (src : Source) (a : Nat) (w : Word) :
    KeepsForm orig (State.writeTime s src a w).2 ↔ KeepsForm orig s := by
  simp [State.writeTime]

/-! ### RegsComp.lean -/

@[simp] theorem State.touchComp_keepsForm {orig : State} (s : State) (a : Nat) : KeepsForm orig (State.touchComp s a) ↔ KeepsForm orig s := by
  simp [State.touchComp]

@[simp] theorem State.writeCommit_keepsForm {orig : State} (s : State) (w : Word) : KeepsForm orig (State.writeCommit s w).2 ↔ KeepsForm orig s := by
  simp [State.writeCommit]

@[simp] theorem State.writeComp_keepsForm {orig : State} (s : State) (a : Nat) (w : Word) :
    KeepsForm orig (State.writeComp s a w).2 ↔ KeepsForm orig s := by
  simp [State.writeComp]

@[simp] theorem State.touchCol_keepsForm {orig : State} (s : State) (a : Nat) : KeepsForm orig (State.touchCol s a) ↔ KeepsForm orig s := by
  simp [State.touchCol]

@[simp] theorem State.onShadow_keepsForm {orig : State} (s : State) (f : ColourGroup → ColourGroup) :
    KeepsForm orig (State.onShadow s f) ↔ KeepsForm orig s := by
  simp [State.onShadow]

@[simp] theorem State.writeTake_keepsForm {orig : State} (s : State) (w : Word) : KeepsForm orig (State.writeTake s w).2 ↔ KeepsForm orig s := by
  simp [State.writeTake]

@[simp] theorem State.writeEnvData_keepsForm {orig : State} (s : State) (src : Source) (w : Word) :
    KeepsForm orig (State.writeEnvData s src w) ↔ KeepsForm orig s := by
  simp [State.writeEnvData]

@[simp] theorem State.writeTfData_keepsForm {orig : State} (s : State) (src : Source) (w : Word) :
    KeepsForm orig (State.writeTfData s src w) ↔ KeepsForm orig s := by
  simp [State.writeTfData]

@[simp] theorem State.writeCol_keepsForm {orig : State} (s : State) (src : Source) (a : Nat) (w : Word) :
    KeepsForm orig (State.writeCol s src a w).2 ↔ KeepsForm orig s := by
  simp [State.writeCol]

@[simp] theorem State.touchRing_keepsForm {orig : State} (s : State) (src : Source) (a : Nat) (consume : Bool) :
    KeepsForm orig (State.touchRing s src a consume) ↔ KeepsForm orig s := by
  simp [State.touchRing]

@[simp] theorem State.writeRingCtrl_keepsForm {orig : State} (s : State) (w : Word) (h : KeepsForm orig s) :
    KeepsForm orig (State.writeRingCtrl s w) := by
  simp [State.writeRingCtrl, h]

@[simp] theorem State.writeRing_keepsForm {orig : State} (s : State) (src : Source) (a : Nat) (w : Word) (h : KeepsForm orig s) :
    KeepsForm orig (State.writeRing s src a w).2 := by
  simp [State.writeRing, h]

/-! ### RegsLed.lean -/

@[simp] theorem State.touchLed_keepsForm {orig : State} (s : State) (src : Source) (a : Nat) :
    KeepsForm orig (State.touchLed s src a) ↔ KeepsForm orig s := by
  simp [State.touchLed]

@[simp] theorem State.writeAdcSel_keepsForm {orig : State} (s : State) (src : Source) (w : Word) :
    KeepsForm orig (State.writeAdcSel s src w) ↔ KeepsForm orig s := by
  simp [State.writeAdcSel]

@[simp] theorem State.writeLed_keepsForm {orig : State} (s : State) (src : Source) (a : Nat) (w : Word) :
    KeepsForm orig (State.writeLed s src a w).2 ↔ KeepsForm orig s := by
  simp [State.writeLed]

@[simp] theorem State.touchTherm_keepsForm {orig : State} (s : State) (a : Nat) : KeepsForm orig (State.touchTherm s a) ↔ KeepsForm orig s := by
  simp [State.touchTherm]

@[simp] theorem State.writeTherm_keepsForm {orig : State} (s : State) (src : Source) (a : Nat) (w : Word) :
    KeepsForm orig (State.writeTherm s src a w).2 ↔ KeepsForm orig s := by
  simp [State.writeTherm]

@[simp] theorem State.touchSaf_keepsForm {orig : State} (s : State) (a : Nat) : KeepsForm orig (State.touchSaf s a) ↔ KeepsForm orig s := by
  simp [State.touchSaf]

@[simp] theorem State.touchAge_keepsForm {orig : State} (s : State) (a : Nat) : KeepsForm orig (State.touchAge s a) ↔ KeepsForm orig s := by
  simp [State.touchAge]

@[simp] theorem State.clrLaneDerate_keepsForm {orig : State} (s : State) : KeepsForm orig (State.clrLaneDerate s) ↔ KeepsForm orig s := by
  simp [State.clrLaneDerate]

@[simp] theorem State.writeAgeCtrl_keepsForm {orig : State} (s : State) (w : Word) (h : KeepsForm orig s) :
    KeepsForm orig (State.writeAgeCtrl s w) := by
  simp [State.writeAgeCtrl, h]

@[simp] theorem State.writeAge_keepsForm {orig : State} (s : State) (a : Nat) (w : Word) (h : KeepsForm orig s) :
    KeepsForm orig (State.writeAge s a w).2 := by
  simp [State.writeAge, h]

/-! ### RegsNvm.lean -/

@[simp] theorem State.touchWard_keepsForm {orig : State} (s : State) (a : Nat) : KeepsForm orig (State.touchWard s a) ↔ KeepsForm orig s := by
  simp [State.touchWard]

@[simp] theorem State.writeWard_keepsForm {orig : State} (s : State) (src : Source) (a : Nat) (w : Word) :
    KeepsForm orig (State.writeWard s src a w).2 ↔ KeepsForm orig s := by
  simp [State.writeWard]

@[simp] theorem State.touchNvm_keepsForm {orig : State} (s : State) (a : Nat) : KeepsForm orig (State.touchNvm s a) ↔ KeepsForm orig s := by
  simp [State.touchNvm]

@[simp] theorem State.writeUpdCtrl_keepsForm {orig : State} (s : State) (w : Word) :
    KeepsForm orig (State.writeUpdCtrl s w).2 ↔ KeepsForm orig s := by
  simp [State.writeUpdCtrl]

@[simp] theorem State.stageWord_keepsForm {orig : State} (s : State) (w : Word) : KeepsForm orig (State.stageWord s w) ↔ KeepsForm orig s := by
  simp [State.stageWord]

@[simp] theorem State.writeCairnCtrl_keepsForm {orig : State} (s : State) (w : Word) :
    KeepsForm orig (State.writeCairnCtrl s w).2 ↔ KeepsForm orig s := by
  simp [State.writeCairnCtrl]

@[simp] theorem State.writeNvm_keepsForm {orig : State} (s : State) (src : Source) (a : Nat) (w : Word) :
    KeepsForm orig (State.writeNvm s src a w).2 ↔ KeepsForm orig s := by
  simp [State.writeNvm]

/-! ### RegsMem.lean -/

@[simp] theorem State.writeCtx_keepsForm {orig : State} (s : State) (l : List (Nat × Word)) :
    KeepsForm orig (State.writeCtx s l).2 ↔ KeepsForm orig s := by
  simp [State.writeCtx]

@[simp] theorem State.touchMem_keepsForm {orig : State} (s : State) (a : Nat) : KeepsForm orig (State.touchMem s a) ↔ KeepsForm orig s := by
  unfold State.touchMem; split <;> simp

@[simp] theorem State.writeLayer_keepsForm {orig : State} (s : State) (i o : Nat) (w : Word) :
    KeepsForm orig (State.writeLayer s i o w) ↔ KeepsForm orig s := by
  simp [State.writeLayer]

@[simp] theorem State.writeMem_keepsForm {orig : State} (s : State) (a : Nat) (w : Word) :
    KeepsForm orig (State.writeMem s a w).2 ↔ KeepsForm orig s := by
  unfold State.writeMem; split <;> simp

/-! ### Registers.lean -/

@[simp] theorem State.touchReg_keepsForm {orig : State} (s : State) (src : Source) (a : Nat) (consume : Bool) :
    KeepsForm orig (State.touchReg s src a consume) ↔ KeepsForm orig s := by
  unfold State.touchReg; split <;> simp

@[simp] theorem State.writeReg_keepsForm {orig : State} (s : State) (src : Source) (a : Nat) (w : Word) (h : KeepsForm orig s) :
    KeepsForm orig (State.writeReg s src a w).2 := by
  unfold State.writeReg; split <;> simp [h]

@[simp] theorem State.touchAt_keepsForm {orig : State} (s : State) (src : Source) (a : Nat) (consume : Bool) :
    KeepsForm orig (State.touchAt s src a consume) ↔ KeepsForm orig s := by
  simp [State.touchAt]

@[simp] theorem State.writeAt_keepsForm {orig : State} (s : State) (src : Source) (a : Nat) (w : Word) (h : KeepsForm orig s) :
    KeepsForm orig (State.writeAt s src a w).2 := by
  simp [State.writeAt, h]

@[simp] theorem State.readWords_keepsForm {orig : State} (s : State) (src : Source) (consume : Bool) (l : List Nat) :
    KeepsForm orig (s.readWords src consume l).2 ↔ KeepsForm orig s := by
  induction l generalizing s with
  | nil => rfl
  | cons a l ih => exact (ih _).trans (State.touchAt_keepsForm s src a consume)

@[simp] theorem State.writeEach_keepsForm {orig : State} (s : State) (src : Source) (l : List (Nat × Word)) (h : KeepsForm orig s) :
    KeepsForm orig (s.writeEach src l).2 := by
  induction l generalizing s with
  | nil => exact h
  | cons p l ih =>
    have h1 := State.writeAt_keepsForm s src p.1 p.2 h
    unfold State.writeEach; dsimp only; split
    · exact ih _ h1
    · exact h1

@[simp] theorem State.writeWords_keepsForm {orig : State} (s : State) (src : Source) (a : Nat) (ws : List Word) (h : KeepsForm orig s) :
    KeepsForm orig (State.writeWords s src a ws).2 := by
  simp [State.writeWords, h]

/-! ### Device.lean -/

@[simp] theorem State.stall_keepsForm {orig : State} (s : State) (t : Fin 8) (rd : Fin 16) :
    KeepsForm orig (State.stall s t rd) ↔ KeepsForm orig s := by
  simp [State.stall]

@[simp] theorem State.sendPost_keepsForm {orig : State} (s : State) : KeepsForm orig (State.sendPost s) ↔ KeepsForm orig s := by
  unfold State.sendPost; split <;> simp

/-! ### Commands.lean -/

@[simp] theorem State.lightOn_keepsForm {orig : State} (s : State) : KeepsForm orig (State.lightOn s) ↔ KeepsForm orig s := by
  simp [State.lightOn]

@[simp] theorem State.startUpdate_keepsForm {orig : State} (s : State) (h : List Byte) :
    KeepsForm orig (State.startUpdate s h) ↔ KeepsForm orig s := by
  simp [State.startUpdate]

@[simp] theorem State.startRestart_keepsForm {orig : State} (s : State) (h : KeepsForm orig s) : KeepsForm orig (State.startRestart s) := by
  simp [State.startRestart, h]

@[simp] theorem State.enroll_keepsForm {orig : State} (s : State) (l : List Byte) (kWall : BitVec 256) :
    KeepsForm orig (State.enroll s l kWall) ↔ KeepsForm orig s := by
  simp [State.enroll]

@[simp] theorem State.unlockDebug_keepsForm {orig : State} (s : State) : KeepsForm orig (State.unlockDebug s) ↔ KeepsForm orig s := by
  simp [State.unlockDebug]

@[simp] theorem State.loadDmem_keepsForm {orig : State} (s : State) : KeepsForm orig (State.loadDmem s) ↔ KeepsForm orig s := by
  simp [State.loadDmem]

@[simp] theorem State.leaveService_keepsForm {orig : State} (s : State) (h : KeepsForm orig s) : KeepsForm orig (State.leaveService s) := by
  simp [State.leaveService, h]

@[simp] theorem State.eraseSlot_keepsForm {orig : State} (s : State) (k : Bool) : KeepsForm orig (State.eraseSlot s k) ↔ KeepsForm orig s := by
  simp [State.eraseSlot]

/-! ### Boot.lean -/

@[simp] theorem State.bootSafety_keepsForm {orig : State} (s : State) (straps : BitVec 6) (testOk : Bool) :
    KeepsForm orig (State.bootSafety s straps testOk) ↔ KeepsForm orig s := by
  unfold State.bootSafety; repeat' split
  all_goals simp

@[simp] theorem State.runImage_keepsForm {orig : State} (s : State) (k trial : Bool) :
    KeepsForm orig (State.runImage s k trial) ↔ KeepsForm orig s := by
  simp [State.runImage]

@[simp] theorem State.dropTrial_keepsForm {orig : State} (s : State) (k : Bool) : KeepsForm orig (State.dropTrial s k) ↔ KeepsForm orig s := by
  simp [State.dropTrial]

@[simp] theorem State.tryTrial_keepsForm {orig : State} (s : State) (k : Bool) : KeepsForm orig (State.tryTrial s k).2 ↔ KeepsForm orig s := by
  simp [State.tryTrial]

@[simp] theorem State.bootConfirmed_keepsForm {orig : State} (s : State) : KeepsForm orig (State.bootConfirmed s) ↔ KeepsForm orig s := by
  simp [State.bootConfirmed]

@[simp] theorem State.bootSlot_keepsForm {orig : State} (s : State) : KeepsForm orig (State.bootSlot s) ↔ KeepsForm orig s := by
  simp [State.bootSlot]

@[simp] theorem State.bootSettings_keepsForm {orig : State} (s : State) (migrates : Bool) :
    KeepsForm orig (State.bootSettings s migrates) ↔ KeepsForm orig s := by
  unfold State.bootSettings; dsimp only; repeat' split
  all_goals simp

@[simp] theorem State.bootProgram_keepsForm {orig : State} (s : State) : KeepsForm orig (State.bootProgram s) ↔ KeepsForm orig s := by
  unfold State.bootProgram; split <;> simp

@[simp] theorem State.bootCairn_keepsForm {orig : State} (s : State) : KeepsForm orig (State.bootCairn s) ↔ KeepsForm orig s := by
  simp [State.bootCairn]

@[simp] theorem State.bootUser_keepsForm {orig : State} (s : State) : KeepsForm orig (State.bootUser s) ↔ KeepsForm orig s := by
  unfold State.bootUser; dsimp only; repeat' split
  all_goals simp

@[simp] theorem State.bootCalibration_keepsForm {orig : State} (s : State) (h : KeepsForm orig s) : KeepsForm orig s.bootCalibration := by
  unfold State.bootCalibration
  extract_lets id fac s1 s2 s3
  have h1 : KeepsForm orig s1 := by simpa [s1] using h
  have h2 : KeepsForm orig s2 := by simp only [s2, State.bootUser_keepsForm]; split <;> simp [h1]
  have h3 : KeepsForm orig s3 :=
    (State.onCol_keepsForm _ _).mpr (State.each_keepsForm _ _ (fun t p ht => State.rebuildRec_keepsForm t p ht) h2)
  clear_value s3
  split <;> simp [h3]

@[simp] theorem State.bootColour_keepsForm {orig : State} (s : State) : KeepsForm orig (State.bootColour s) ↔ KeepsForm orig s := by
  simp [State.bootColour]

@[simp] theorem State.loadLedger_keepsForm {orig : State} (s : State) (h : Bool) (hv : KeepsForm orig s) : KeepsForm orig (State.loadLedger s h) := by
  simp [State.loadLedger, hv]

@[simp] theorem State.bootLedger_keepsForm {orig : State} (s : State) (h : KeepsForm orig s) : KeepsForm orig s.bootLedger := by
  unfold State.bootLedger; dsimp only; split
  · exact (State.raise_keepsForm _ _ _).mpr (keepsForm_clearDram _ h rfl)
  · split <;> simp [h]

@[simp] theorem State.bootAgeing_keepsForm {orig : State} (s : State) (h : KeepsForm orig s) : KeepsForm orig s.bootAgeing := by
  unfold State.bootAgeing
  extract_lets s1 s2
  have h1 : KeepsForm orig s1 := by simp only [s1]; split <;> simp [h]
  have h2 : KeepsForm orig s2 := State.rewriteAll_keepsForm _ (by simp [h1])
  clear_value s2
  exact (keepsForm_congr rfl).mpr h2

@[simp] theorem State.bootDram_keepsForm {orig : State} (s : State) (gib : Nat) (readEyes writeEyes : List Nat) :
    KeepsForm orig (State.bootDram s gib readEyes writeEyes) ↔ KeepsForm orig s := by
  simp [State.bootDram]

@[simp] theorem State.bootFirst_keepsForm {orig : State} (s : State) (obs : BootObs) (h : KeepsForm orig s) : KeepsForm orig (s.bootFirst obs) := by
  unfold State.bootFirst
  extract_lets e p n w s1 s2 s3 s4
  have h1 : KeepsForm orig s1 := (keepsForm_congr rfl).mpr h
  have h2 : KeepsForm orig s2 := foldl_keepsForm _ (fun t i ht => by simpa using ht) h1
  have h4 : KeepsForm orig s4 := by simp only [s4, s3]; split_ifs <;> simp [h2]
  simp [h4]

@[simp] theorem State.bringRings_keepsForm {orig : State} (s : State) (rings : List RingBring) (h : KeepsForm orig s) :
    KeepsForm orig (s.bringRings rings) :=
  (State.onLed_keepsForm _ _).mpr (State.each_keepsForm _ _ (fun t k ht => State.bringRing_keepsForm t k _ ht) h)

@[simp] theorem State.heldFaults_keepsForm {orig : State} (s : State) : KeepsForm orig (State.heldFaults s) ↔ KeepsForm orig s := by
  simp [State.heldFaults]

@[simp] theorem State.checkInput_keepsForm {orig : State} (s : State) (i : InputAB) (h : KeepsForm orig s) :
    KeepsForm orig (State.checkInput s i) := by
  simp [State.checkInput, h]

@[simp] theorem State.leaveBoot_keepsForm {orig : State} (s : State) (h : KeepsForm orig s) : KeepsForm orig (State.leaveBoot s) := by
  simp [State.leaveBoot, h]

/-! ### Power.lean -/

@[simp] theorem State.tripOn_keepsForm {orig : State} (s : State) (detail : Nat) (h : KeepsForm orig s) : KeepsForm orig (State.tripOn s detail) := by
  simp [State.tripOn, h]

@[simp] theorem State.parkPort_keepsForm {orig : State} (s : State) (p : Port) : KeepsForm orig (State.parkPort s p) ↔ KeepsForm orig s := by
  simp [State.parkPort]

@[simp] theorem State.parkIdle_keepsForm {orig : State} (s : State) (p : Port) : KeepsForm orig (State.parkIdle s p) ↔ KeepsForm orig s := by
  simp [State.parkIdle]

/-! ### Tick.lean -/

@[simp] theorem State.convert_keepsForm {orig : State} (s : State) (ch : Nat) : KeepsForm orig (State.convert s ch) ↔ KeepsForm orig s := by
  simp [State.convert]

@[simp] theorem State.sigTick_keepsForm {orig : State} (s : State) : KeepsForm orig (State.sigTick s) ↔ KeepsForm orig s := by
  simp [State.sigTick]

@[simp] theorem State.keyTick_keepsForm {orig : State} (s : State) : KeepsForm orig (State.keyTick s) ↔ KeepsForm orig s := by
  simp [State.keyTick]

@[simp] theorem State.alsTick_keepsForm {orig : State} (s : State) : KeepsForm orig (State.alsTick s) ↔ KeepsForm orig s := by
  simp [State.alsTick]

@[simp] theorem State.laterTick_keepsForm {orig : State} (s : State) : KeepsForm orig (State.laterTick s) ↔ KeepsForm orig s := by
  simp [State.laterTick]

@[simp] theorem State.pairTick_keepsForm {orig : State} (s : State) : KeepsForm orig (State.pairTick s) ↔ KeepsForm orig s := by
  simp [State.pairTick]

@[simp] theorem State.memoryTick_keepsForm {orig : State} (s : State) : KeepsForm orig (State.memoryTick s) ↔ KeepsForm orig s := by
  simp [State.memoryTick]

@[simp] theorem State.otherTicks_keepsForm {orig : State} (s : State) (h : KeepsForm orig s) : KeepsForm orig (State.otherTicks s) := by
  simp [State.otherTicks, h]

@[simp] theorem State.tick_keepsForm {orig : State} (s : State) (h : KeepsForm orig s) : KeepsForm orig (State.tick s) := by
  simp [State.tick, h]

@[simp] theorem State.idle_keepsForm {orig : State} (s : State) (h : KeepsForm orig s) : KeepsForm orig (State.idle s) := by
  simp [State.idle, h]

end Sys2Proof.Machine
end

section
/-!
LEMMAS. What keeps the form of the state, for O51: the ways a command ends.
-/

-- One declaration after another: the whole text compiles close to the memory it may have.
set_option Elab.async false

namespace Sys2Proof.Machine

@[simp] theorem answerOf_keepsForm {orig : State} (r : Byte × State) : KeepsForm orig (answerOf r).2 ↔ KeepsForm orig r.2 := Iff.rfl
@[simp] theorem State.ok_keepsForm {orig : State} (s : State) : KeepsForm orig s.ok.2 ↔ KeepsForm orig s := Iff.rfl
@[simp] theorem State.okWith_keepsForm {orig : State} (s : State) (l : List Byte) : KeepsForm orig (s.okWith l).2 ↔ KeepsForm orig s := Iff.rfl
@[simp] theorem State.no_keepsForm {orig : State} (s : State) (st : Byte) : KeepsForm orig (s.no st).2 ↔ KeepsForm orig s := Iff.rfl
@[simp] theorem State.later_keepsForm {orig : State} (s : State) : KeepsForm orig s.later.2 ↔ KeepsForm orig s := Iff.rfl

/-! ### The ways a command ends -/

section
variable {orig : State} {s : State} (h : KeepsForm orig s)
include h

@[simp] theorem State.timeFrame_formKept (p : Port) (f : Frame) (kind : Nat) {g : State → State} (hg : KeepsForm orig (g s)) :
    FormKept orig (s.timeFrame p f kind g) := by
  unfold State.timeFrame; dsimp only; split
  · simp [h]
  · generalize s.timeFrameOk f = x
    obtain ⟨ok, bad⟩ := x
    dsimp only; split
    · simp [hg]
    · exact formKept_done (by split <;> simp [h])

@[simp] theorem State.mapFrame_formKept (p : Port) (f : Frame) (kind : Nat) {g : State → State} (hg : KeepsForm orig (g s)) :
    FormKept orig (s.mapFrame p f kind g) := by
  unfold State.mapFrame; dsimp only; split_ifs <;> simp [h, hg]

@[simp] theorem State.pdu_formKept (p : Port) (kind : Nat) (l : List Byte) {act other : State → State}
    (ha : ∀ t, KeepsForm orig t → KeepsForm orig (act t)) (ho : KeepsForm orig (other s)) :
    FormKept orig (s.pdu p kind l act other) := by
  unfold State.pdu
  split_ifs
  · simp [h]
  · simp [h]
  · simp [h]
  · simp [h]
  · split
    · exact formKept_done (ha _ (by simpa using h))
    all_goals simp [h]
  · simp [ho]

@[simp] theorem State.access_formKept (src : Source) (a : Nat) (w : Word) : FormKept orig (s.access src a w) := by
  unfold State.access; dsimp only; split_ifs <;> simp [h]

@[simp] theorem State.accessRead_formKept (src : Source) (a : Nat) (consume : Bool) : FormKept orig (s.accessRead src a consume) := by
  unfold State.accessRead; split_ifs <;> simp [h]

@[simp] theorem State.resend_formKept (q : CmdReq) (op : Byte) (e : Recent) : FormKept orig (s.resend q op e) := by
  unfold State.resend; split <;> simp [h]

/-- A command: its checks keep the form, and so does the unit it asks, on the state in which the command is accepted. -/
@[simp] theorem State.runCmd_formKept (op : Byte) (q : CmdReq) (b : OpBody) {unit : State → UnitAnswer}
    (hu : ∀ t, KeepsForm orig t → KeepsForm orig (unit t).2) : FormKept orig (s.runCmd op q b unit) := by
  unfold State.runCmd
  split
  · simp [h]
  · next r hr =>
    extract_lets s0 tagged
    have h0 : KeepsForm orig s0 := by simp only [s0]; split <;> simp [h]
    clear_value s0 tagged
    split
    · simp [h]
    split
    · simp [h]
    split
    · simp [h0]
    · have h1 : KeepsForm orig (s0.checks2to8 r q b).2 := by simpa using h0
      generalize s0.checks2to8 r q b = x at h1
      obtain ⟨st, s1⟩ := x
      dsimp only at h1 ⊢
      split
      · simp [h1]
      split
      · refine formKept_done ((State.refuse_keepsForm _ _ _ _).mpr ?_)
        repeat' split
        all_goals simp [h0]
      split
      · simp [h0]
      have h2 := hu _ ((State.accept_keepsForm s1 q op tagged).mpr h1)
      split
      · next heq => rw [heq] at h2; exact formKept_done h2
      · next heq =>
        rw [heq] at h2
        split
        · exact formKept_done (by simpa using h2)
        · simp [h0]

end

/-- A region erased (R471). -/
theorem State.eraseRegion_keepsForm {orig : State} (s : State) (code : Nat) (h : KeepsForm orig s) {t : State} (ht : s.eraseRegion code = some t) :
    KeepsForm orig t := by
  unfold State.eraseRegion at ht
  dsimp only at ht
  split_ifs at ht
  all_goals
    cases ht
    simp [h]

@[simp] theorem State.deviceOp_keepsForm {orig : State} (s : State) (t : Fin 8) (rd : Fin 16) (op : Nat) (fenced : Bool) {f : State → Byte × State}
    (h : KeepsForm orig s) (hf : KeepsForm orig (f s).2) : KeepsForm orig (s.deviceOp t rd op fenced f) := by
  unfold State.deviceOp; dsimp only; split_ifs <;> simp [h, hf]

end Sys2Proof.Machine
end

section
/-!
PROOFS. O51 (R30, R117, R210, R310, R336, R425): every step keeps the register files at their sizes and both memories in canonical form.
-/

-- One declaration after another: the whole text compiles close to the memory it may have.
set_option Elab.async false

namespace Sys2Proof.Machine

/-! ### Time.lean -/

theorem execSync_formKept (p : Port) (f : Frame) (sinceStart residence : Nat) (s : State) : FormKept s (execSync p f sinceStart residence s) := by
  simp [execSync]

theorem execFollowUp_formKept (p : Port) (f : Frame) (s : State) : FormKept s (execFollowUp p f s) := by
  refine State.timeFrame_formKept (.refl s) _ _ _ ?_
  dsimp only
  split
  · simp
  · split
    · simp
    · split <;> simp

theorem execFollowUpTimeout_formKept (p : Port) (s : State) : FormKept s (execFollowUpTimeout p s) := by
  simp [execFollowUpTimeout]

theorem execPdelayReq_formKept (p : Port) (f : Frame) (turnaround : Nat) (s : State) : FormKept s (execPdelayReq p f turnaround s) := by
  simp [execPdelayReq]

theorem execPdelayResp_formKept (p : Port) (f : Frame) (sinceStart : Nat) (s : State) : FormKept s (execPdelayResp p f sinceStart s) := by
  refine State.timeFrame_formKept (.refl s) _ _ _ ?_
  dsimp only
  split
  · simp
  · split <;> simp

theorem execPdelaySend_formKept (p : Port) (s : State) : FormKept s (execPdelaySend p s) := by
  simp [execPdelaySend]

theorem execPdelayTimeout_formKept (p : Port) (s : State) : FormKept s (execPdelayTimeout p s) := by
  simp [execPdelayTimeout]

theorem execDomainLossTimeout_formKept (d0 d1 : Bool) (s : State) : FormKept s (execDomainLossTimeout d0 d1 s) := by
  simp [execDomainLossTimeout]

theorem execHoldoverExpiry_formKept (s : State) : FormKept s (execHoldoverExpiry s) := by
  simp [execHoldoverExpiry]

theorem execSlewComplete_formKept (s : State) : FormKept s (execSlewComplete s) := by
  simp [execSlewComplete]

theorem execSwitchBack_formKept (s : State) : FormKept s (execSwitchBack s) := by
  simp [execSwitchBack]

theorem execTimeCompareFire_formKept (n : Fin 8) (s : State) : FormKept s (execTimeCompareFire n s) := by
  unfold execTimeCompareFire; dsimp only; split
  · refine formKept_done ((State.fire_keepsForm _ _).mpr ((State.onThread_keepsForm _ _ _ fun x => ?_).mpr (by simp)))
    split <;> simp
  · simp

theorem execAdcSnapshot_formKept (s : State) : FormKept s (execAdcSnapshot s) := by
  simp [execAdcSnapshot]

theorem execCaptureEdge_formKept (source : Fin 7) (rising : Bool) (s : State) : FormKept s (execCaptureEdge source rising s) := by
  simp [execCaptureEdge]

theorem execFrameLockEdge_formKept (s : State) : FormKept s (execFrameLockEdge s) := by
  simp [execFrameLockEdge]

theorem execFlockLost_formKept (s : State) : FormKept s (execFlockLost s) := by
  simp [execFlockLost]

/-! ### Links.lean -/

theorem execTrainDetected_formKept (p : Port) (lane : Fin 4) (payload : BitVec 64) (trains : List (Fin 4 × BitVec 64)) (s : State) :
    FormKept s (execTrainDetected p lane payload trains s) := by
  simp [execTrainDetected]

theorem execRateAgreed_formKept (p : Port) (payload : BitVec 64) (s : State) : FormKept s (execRateAgreed p payload s) := by
  unfold execRateAgreed; dsimp only; repeat' split
  all_goals simp

theorem execEqRequest_formKept (p : Port) (lane : Fin 4) (payload : BitVec 64) (s : State) : FormKept s (execEqRequest p lane payload s) := by
  simp [execEqRequest]

theorem execEqDone_formKept (p : Port) (payload : BitVec 64) (timeout : Bool) (obs : List EqObs) (s : State) :
    FormKept s (execEqDone p payload timeout obs s) := by
  simp [execEqDone]

theorem execAlignDone_formKept (p : Port) (skews : List (BitVec 8)) (s : State) : FormKept s (execAlignDone p skews s) := by
  simp [execAlignDone]

theorem execTrainingTimeout_formKept (p : Port) (s : State) : FormKept s (execTrainingTimeout p s) := by
  unfold execTrainingTimeout; split <;> simp

theorem execQuietRetry_formKept (p : Port) (s : State) : FormKept s (execQuietRetry p s) := by
  simp [execQuietRetry]

theorem execSignalDetect_formKept (p : Port) (s : State) : FormKept s (execSignalDetect p s) := by
  simp [execSignalDetect]

theorem execBlockLock_formKept (p : Port) (obs : LaneBlocks) (s : State) : FormKept s (execBlockLock p obs s) := by
  simp [execBlockLock]

theorem execBlockLockLoss_formKept (p : Port) (obs : LaneBlocks) (s : State) : FormKept s (execBlockLockLoss p obs s) := by
  simp [execBlockLockLoss]

theorem execAmReceived_formKept (p : Port) (lane : Fin 4) (blocks : List Block) (payload : BitVec 64) (skew : BitVec 8) (s : State) :
    FormKept s (execAmReceived p lane blocks payload skew s) := by
  simp [execAmReceived]

theorem execMarkerLockLoss_formKept (p : Port) (obs : LaneBlocks) (s : State) : FormKept s (execMarkerLockLoss p obs s) := by
  simp [execMarkerLockLoss]

theorem execParkReceived_formKept (p : Port) (_lane : Fin 4) (s : State) : FormKept s (execParkReceived p _lane s) := by
  simp [execParkReceived]

theorem execRetrainTrigger_formKept (p : Port) (lane : Fin 4) (s : State) : FormKept s (execRetrainTrigger p lane s) := by
  simp [execRetrainTrigger]

theorem execRetrainFollow_formKept (p : Port) (lane : Fin 4) (payload : BitVec 64) (s : State) : FormKept s (execRetrainFollow p lane payload s) := by
  simp [execRetrainFollow]

theorem execAdaptFreeze_formKept (p : Port) (lane : Fin 4) (s : State) : FormKept s (execAdaptFreeze p lane s) := by
  simp [execAdaptFreeze]

theorem execAdaptResume_formKept (p : Port) (lane : Fin 4) (s : State) : FormKept s (execAdaptResume p lane s) := by
  simp [execAdaptResume]

theorem execEyeMeasureComplete_formKept (p : Port) (eyes : List (BitVec 8)) (s : State) : FormKept s (execEyeMeasureComplete p eyes s) := by
  simp [execEyeMeasureComplete]

theorem execPrbsSyncTimeout_formKept (p : Port) (obs : LaneBits) (s : State) : FormKept s (execPrbsSyncTimeout p obs s) := by
  simp [execPrbsSyncTimeout]

theorem execPrbsSyncLoss_formKept (p : Port) (obs : LaneBits) (s : State) : FormKept s (execPrbsSyncLoss p obs s) := by
  simp [execPrbsSyncLoss]

/-! ### Frames.lean -/

theorem execForwardingDecision_formKept (p : Port) (hdr : BitVec 128) (s : State) : FormKept s (execForwardingDecision p hdr s) := by
  unfold execForwardingDecision; dsimp only; repeat' split
  all_goals simp

theorem execFrameTrailer_formKept (p : Port) (payload : List Byte) (trailer : Word) (s : State) :
    FormKept s (execFrameTrailer p payload trailer s) := by
  unfold execFrameTrailer; repeat' split
  all_goals simp

theorem execEgressSend_formKept (p : Port) (s : State) : FormKept s (execEgressSend p s) := by
  unfold execEgressSend; dsimp only; repeat' split
  all_goals simp

theorem execAnnounceSend_formKept (s : State) : FormKept s (execAnnounceSend s) := by
  simp [execAnnounceSend]

theorem execAnnounce_formKept (p : Port) (f : Frame) (s : State) : FormKept s (execAnnounce p f s) := by
  refine State.mapFrame_formKept (.refl s) _ _ _ ?_
  dsimp only
  repeat' split
  all_goals simp

theorem execDepart_formKept (p : Port) (f : Frame) (s : State) : FormKept s (execDepart p f s) := by
  simp [execDepart]

theorem execEntryStale_formKept (id : BitVec 12) (s : State) : FormKept s (execEntryStale id s) := by
  simp [execEntryStale]

theorem execAssign_formKept (p : Port) (f : Frame) (s : State) : FormKept s (execAssign p f s) := by
  simp [execAssign]

theorem execLoad_formKept (p : Port) (f : Frame) (s : State) : FormKept s (execLoad p f s) := by
  simp [execLoad]

theorem execDone_formKept (p : Port) (f : Frame) (s : State) : FormKept s (execDone p f s) := by
  simp [execDone]

theorem execStream_formKept (p : Port) (f : Frame) (s : State) : FormKept s (execStream p f s) := by
  unfold execStream; dsimp only; repeat' split
  all_goals simp

theorem execUpdate_formKept (p : Port) (f : Frame) (s : State) : FormKept s (execUpdate p f s) := by
  simp [execUpdate]

/-! ### Composer.lean -/

theorem execCommitAdmission_formKept (s : State) : FormKept s (execCommitAdmission s) := by
  unfold execCommitAdmission; split <;> simp

@[simp] theorem Thread.takePoint_g_length (x : Thread) (n : Nat) : (x.takePoint n).g.length = x.g.length := by
  unfold Thread.takePoint; repeat' split
  all_goals simp

theorem execTakePoint_formKept (n : Nat) (s : State) : FormKept s (execTakePoint n s) := by
  unfold execTakePoint; split
  · simp
  · extract_lets commit s1
    have h2 : KeepsForm s (s1.beginRings.applyMode n).1 := by simp [s1]
    generalize s1.beginRings.applyMode n = x at h2
    obtain ⟨s2, rate⟩ := x
    dsimp -zeta only at h2 ⊢
    extract_lets s3 s4 s5 keep s6 s7 s8
    have h3 : KeepsForm s s3 := by simp only [s3]; split <;> simp [h2]
    have h5 : KeepsForm s s5 := State.recheck_keepsForm _ (by simp [s4, h3])
    have h7 : KeepsForm s s7 := by
      simp only [s7]; split <;> simp [s6, h5]
    have h8 : KeepsForm s s8 := by simp [s8, h7]
    exact formKept_done ((State.fire_keepsForm _ _).mpr h8)

theorem execFlip_formKept (n : Nat) (s : State) : FormKept s (execFlip n s) := by
  unfold execFlip
  extract_lets s0 codes r1 s1 missed s2 s3 lag s4 s5 s6 s7 a s8 s9 
  have h0 : KeepsForm s s0 := by simp only [s0]; split <;> simp
  clear_value s0
  split
  · split <;> simp [h0]
  have h1 : KeepsForm s s1 := by simp only [s1, r1]; split <;> simp [h0]
  clear_value s1 r1
  have h2 : KeepsForm s s2 := by simp only [s2]; split <;> simp [h1]
  clear_value s2
  have h3 : KeepsForm s s3 := by simp only [s3]; split <;> simp [h2]
  have h5 : KeepsForm s s5 := by simp only [s5]; split <;> simp [s4, h3]
  have h6 : KeepsForm s s6 := by simp [s6, h5]
  clear_value s6
  have h7 : KeepsForm s s7 := by simp only [s7]; split <;> simp [h6]
  have ha : KeepsForm s a := by simp only [a]; split <;> simp [h7]
  clear_value a s7
  have h8 : KeepsForm s s8 := by simp only [s8]; split <;> simp [h7, ha]
  have h9 : KeepsForm s s9 := by simp only [s9]; split <;> simp [h8]
  simp [h9]

theorem execBandComplete_formKept (obs : BandObs) (s : State) : FormKept s (execBandComplete obs s) := by
  simp [execBandComplete]

theorem execCalRecordRebuild_formKept (s : State) : FormKept s (execCalRecordRebuild s) := by
  unfold execCalRecordRebuild; split
  · simp
  · exact formKept_done ((State.onCol_keepsForm _ _).mpr
      (foldl_keepsForm _ (fun t b ht => State.each_keepsForm _ _ (fun t i ht => State.rebuildRec_keepsForm t _ ht) ht) (.refl s)))

/-! ### Rings.lean -/

theorem execRingRowSend_formKept (ring : Fin 64) (s : State) : FormKept s (execRingRowSend ring s) := by
  simp [execRingRowSend]

theorem execReadReturn_formKept (ring : Fin 64) (kind : Fin 4) (slots : List SlotObs) (s : State) :
    FormKept s (execReadReturn ring kind slots s) := by
  unfold execReadReturn; extract_lets k f; split
  · simp
  · generalize (s.ring k).slotsIn s.time.local_ kind.val slots = x
    obtain ⟨r1, got⟩ := x
    dsimp -zeta only
    extract_lets s1 s2
    have hf : ∀ t o, KeepsForm s t → KeepsForm s (f t k o) := by
      intro t o ht
      simp only [f]
      split_ifs <;> simp [ht]
    have h2 : KeepsForm s s2 := foldl_keepsForm _ (fun t o ht => hf t o ht) (by simp [s1])
    exact formKept_done (by split <;> simp [h2])

theorem execCellReenum_formKept (ring : Fin 64) (answered : List (Fin 1024)) (found : BitVec 11) (s : State) :
    FormKept s (execCellReenum ring answered found s) := by
  simp [execCellReenum]

theorem execSyncEcho_formKept (ring : Fin 64) (echo : EchoObs) (s : State) : FormKept s (execSyncEcho ring echo s) := by
  simp [execSyncEcho]

theorem execBreakDetect_formKept (ring : Fin 64) (s : State) : FormKept s (execBreakDetect ring s) := by
  simp [execBreakDetect]

theorem execLocateComplete_formKept (ring : Fin 64) (obs : LocateObs) (s : State) : FormKept s (execLocateComplete ring obs s) := by
  unfold execLocateComplete
  extract_lets k r a b s1 gap s2
  clear_value a b
  split
  · simp
  split
  · simp
  have h1 : KeepsForm s s1 := by simp [s1]
  have h2 : KeepsForm s s2 := by
    simp only [s2]; split
    · simp [h1]
    · exact (State.raise_keepsForm _ _ _).mpr
        (foldl_keepsForm _ (fun t c ht => foldl_keepsForm _ (fun t p ht => State.rtFencePixel_keepsForm t p ht) ht) h1)
  simp [h2]

theorem execRestoreProbe_formKept (ring : Fin 64) (probe : ProbeObs) (s : State) : FormKept s (execRestoreProbe ring probe s) := by
  simp [execRestoreProbe]

theorem execLatchLaunch_formKept (ring : Fin 64) (s : State) : FormKept s (execLatchLaunch ring s) := by
  unfold execLatchLaunch; dsimp only; repeat' split
  all_goals simp

theorem execCairnLatch_formKept (s : State) : FormKept s (execCairnLatch s) := by
  simp [execCairnLatch]

@[simp] theorem RingUnit.upset_rings_length (u : RingUnit) (l : List (Fin 65536 × BitVec 32)) : (u.upset l).rings.length = u.rings.length := by
  simp [RingUnit.upset]

theorem execCairnRestream_formKept (upsets : List (Fin 65536 × BitVec 32)) (s : State) : FormKept s (execCairnRestream upsets s) := by
  unfold execCairnRestream; dsimp only; split
  · simp
  split
  · simp
  · exact formKept_done (State.cairnStream_keepsForm _ (by simp))

theorem execCairnCompletionDeadline_formKept (ring : Fin 64) (s : State) : FormKept s (execCairnCompletionDeadline ring s) := by
  simp [execCairnCompletionDeadline]

/-! ### Led.lean -/

theorem execLedEvalTimeout_formKept (s : State) : FormKept s (execLedEvalTimeout s) := by
  simp [execLedEvalTimeout]

theorem execRailRampEnd_formKept (vledMv : BitVec 13) (s : State) : FormKept s (execRailRampEnd vledMv s) := by
  simp [execRailRampEnd]

theorem execRailStartTimeout_formKept (vledMv : BitVec 13) (s : State) : FormKept s (execRailStartTimeout vledMv s) := by
  simp [execRailStartTimeout]

theorem execRailOv_formKept (s : State) : FormKept s (execRailOv s) := by
  simp [execRailOv]

theorem execRailOcp_formKept (phase : Fin 4) (s : State) : FormKept s (execRailOcp phase s) := by
  simp [execRailOcp]

theorem execRailOcpSustained_formKept (phase : Fin 4) (s : State) : FormKept s (execRailOcpSustained phase s) := by
  simp [execRailOcpSustained]

theorem execPhaseImbalance_formKept (phase : Fin 4) (s : State) : FormKept s (execPhaseImbalance phase s) := by
  simp [execPhaseImbalance]

theorem execRailUv_formKept (s : State) : FormKept s (execRailUv s) := by
  simp [execRailUv]

theorem execRailUvHold_formKept (s : State) : FormKept s (execRailUvHold s) := by
  simp [execRailUvHold]

theorem execRailSense_formKept (s : State) : FormKept s (execRailSense s) := by
  simp [execRailSense]

theorem execAdcSelfcheck_formKept (s : State) : FormKept s (execAdcSelfcheck s) := by
  simp [execAdcSelfcheck]

theorem execPowerLimitStep_formKept (p100mw : BitVec 12) (s : State) : FormKept s (execPowerLimitStep p100mw s) := by
  simp [execPowerLimitStep]

theorem execBoardDerateStep_formKept (s : State) : FormKept s (execBoardDerateStep s) := by
  simp [execBoardDerateStep]

/-! ### Thermal.lean -/

theorem execDieSensorFail_formKept (sensor : Fin 12) (reading : Int) (s : State) : FormKept s (execDieSensorFail sensor reading s) := by
  simp [execDieSensorFail]

theorem execThermalEvaluation_formKept (obs : ThermObs) (s : State) : FormKept s (execThermalEvaluation obs s) := by
  simp [execThermalEvaluation]

theorem execNtcCrosscheckFail_formKept (ntc : Fin 8) (s : State) : FormKept s (execNtcCrosscheckFail ntc s) := by
  simp [execNtcCrosscheckFail]

theorem execThresholdCrossing_formKept (q : ThermQty) (up : Bool) (value : Int) (s : State) : FormKept s (execThresholdCrossing q up value s) := by
  unfold execThresholdCrossing; repeat' split
  all_goals simp

theorem execTDieMove_formKept (s : State) : FormKept s (execTDieMove s) := by
  simp [execTDieMove]

theorem execTrimDaily_formKept (s : State) : FormKept s (execTrimDaily s) := by
  simp [execTrimDaily]

theorem execSelfTrimStart_formKept (s : State) : FormKept s (execSelfTrimStart s) := by
  simp [execSelfTrimStart]

theorem execSelfTrimComplete_formKept (trims : List (Int × Bool)) (s : State) : FormKept s (execSelfTrimComplete trims s) := by
  simp [execSelfTrimComplete]

theorem execTrimTimeout_formKept (s : State) : FormKept s (execTrimTimeout s) := by
  simp [execTrimTimeout]

theorem execTrimApplyTimeout_formKept (s : State) : FormKept s (execTrimApplyTimeout s) := by
  simp [execTrimApplyTimeout]

/-! ### Colour.lean -/

theorem execTakeLanding_formKept (s : State) : FormKept s (execTakeLanding s) := by
  unfold execTakeLanding; split <;> simp

theorem execCalUpdateComplete_formKept (s : State) : FormKept s (execCalUpdateComplete s) := by
  unfold execCalUpdateComplete; split <;> simp

theorem execUserCalStoreComplete_formKept (ok : Bool) (s : State) : FormKept s (execUserCalStoreComplete ok s) := by
  unfold execUserCalStoreComplete
  extract_lets half over_ body gen s1 s2
  have ho : ∀ t code, KeepsForm s t → KeepsForm s (over_ t code) := fun t code ht => by simp [over_, ht]
  have h2 : KeepsForm s s2 := by simp [s2, s1]
  clear_value over_ s2
  split
  · simp
  · split <;> simp [ho, h2]

/-! ### Age.lean -/

theorem execLedgerPassComplete_formKept (bad : LedgerErrs) (s : State) : FormKept s (execLedgerPassComplete bad s) := by
  unfold execLedgerPassComplete
  cases s.age.sample with
  | none => simp
  | some x => exact formKept_done ((State.onAge_keepsForm _ _).mpr (State.applySample_keepsForm _ _ (by simp)))

theorem execLedgerStoreStart_formKept (s : State) : FormKept s (execLedgerStoreStart s) := by
  simp [execLedgerStoreStart]

theorem execLedgerEraseComplete_formKept (s : State) : FormKept s (execLedgerEraseComplete s) := by
  simp [execLedgerEraseComplete]

theorem execLedgerStoreComplete_formKept (s : State) : FormKept s (execLedgerStoreComplete s) := by
  unfold execLedgerStoreComplete; split
  · simp
  · extract_lets s0 half gen body s1 s2
    have h1 : KeepsForm s s1 := State.flashStore_keepsForm _ _ _ (by simp [s0])
    simp [s2, h1]

theorem execLedgerStoreFail_formKept (s : State) : FormKept s (execLedgerStoreFail s) := by
  simp [execLedgerStoreFail]

theorem execLedgerStoreRetry_formKept (s : State) : FormKept s (execLedgerStoreRetry s) := by
  simp [execLedgerStoreRetry]

theorem execPlanRewriteComplete_formKept (s : State) : FormKept s (execPlanRewriteComplete s) := by
  unfold execPlanRewriteComplete
  cases s.age.resNext with
  | none => simp
  | some res =>
    dsimp only; split
    · simp
    · exact formKept_done ((State.onAge_keepsForm _ _).mpr (State.rewriteAll_keepsForm _ (by simp)))

theorem execAvsEvaluation_formKept (slackPs : List (BitVec 10)) (written : Bool) (s : State) : FormKept s (execAvsEvaluation slackPs written s) := by
  simp [execAvsEvaluation]

theorem execAvsCheck_formKept (ch17Mv : BitVec 12) (s : State) : FormKept s (execAvsCheck ch17Mv s) := by
  simp [execAvsCheck]

theorem execMemEyeCheck_formKept (eyes : List (BitVec 8)) (s : State) : FormKept s (execMemEyeCheck eyes s) := by
  simp [execMemEyeCheck]

theorem execDqsTracking_formKept (s : State) : FormKept s (execDqsTracking s) := by
  simp [execDqsTracking]

theorem execLaneMarginCheck_formKept (eyesA eyesB : List (BitVec 8)) (s : State) : FormKept s (execLaneMarginCheck eyesA eyesB s) := by
  simp [execLaneMarginCheck]

theorem execNvmScrub_formKept (obs : ScrubObs) (s : State) : FormKept s (execNvmScrub obs s) := by
  unfold execNvmScrub; repeat' split
  all_goals simp

/-! ### Safety.lean -/

theorem execInputSafe_formKept (input : InputAB) (ch : Bool) (s : State) : FormKept s (execInputSafe input ch s) := by
  simp [execInputSafe]

theorem execInputHealthy_formKept (input : InputAB) (ch : Bool) (pressMs : Nat) (s : State) : FormKept s (execInputHealthy input ch pressMs s) := by
  simp [execInputHealthy]

theorem execTestPulse_formKept (output failA failB : Bool) (s : State) : FormKept s (execTestPulse output failA failB s) := by
  unfold execTestPulse; split
  · exact formKept_done (State.pulse_keepsForm _ _ _ _ (State.pulse_keepsForm _ _ _ _ (.refl s)))
  · simp

theorem execInputDiscrepancy_formKept (input : InputAB) (s : State) : FormKept s (execInputDiscrepancy input s) := by
  simp [execInputDiscrepancy]

theorem execAckPress_formKept (s : State) : FormKept s (execAckPress s) := by
  simp [execAckPress]

theorem execSafetyTick_formKept (obs : TickObs) (s : State) : FormKept s (execSafetyTick obs s) := by
  simp [execSafetyTick]

theorem execFadeDone_formKept (s : State) : FormKept s (execFadeDone s) := by
  simp [execFadeDone]

theorem execSafetyXcompare_formKept (s : State) : FormKept s (execSafetyXcompare s) := by
  simp [execSafetyXcompare]

theorem execAliveTimeout_formKept (s : State) : FormKept s (execAliveTimeout s) := by
  simp [execAliveTimeout]

theorem execSloCheck_formKept (stage : Fin 3) (obs : SloObs) (s : State) : FormKept s (execSloCheck stage obs s) := by
  simp [execSloCheck]

theorem execSsgDriveEnable_formKept (s : State) : FormKept s (execSsgDriveEnable s) := by
  simp [execSsgDriveEnable]

theorem execHeartbeat_formKept (p : Port) (pdu : List Byte) (s : State) : FormKept s (execHeartbeat p pdu s) := by
  simp [execHeartbeat]

theorem execDemand_formKept (p : Port) (pdu : List Byte) (s : State) : FormKept s (execDemand p pdu s) :=
  State.pdu_formKept (.refl s) _ _ _ (fun t ht => State.bcDemand_keepsForm pdu t ht) (by split <;> simp)

theorem execAck_formKept (p : Port) (pdu : List Byte) (s : State) : FormKept s (execAck p pdu s) :=
  State.pdu_formKept (.refl s) _ _ _ (fun t ht => State.acknowledge_keepsForm t _ ht) (.refl s)

theorem execStatusPdu_formKept (p : Port) (pdu : List Byte) (s : State) : FormKept s (execStatusPdu p pdu s) := by
  simp [execStatusPdu]

theorem execBcWatchdog_formKept (s : State) : FormKept s (execBcWatchdog s) := by
  simp [execBcWatchdog]

theorem execBcDemandTimeout_formKept (s : State) : FormKept s (execBcDemandTimeout s) := by
  simp [execBcDemandTimeout]

theorem execDemandRepeat_formKept (s : State) : FormKept s (execDemandRepeat s) := by
  simp [execDemandRepeat]

theorem execStatusPduSend_formKept (s : State) : FormKept s (execStatusPduSend s) := by
  simp [execStatusPduSend]

theorem execSafetyStrapChanged_formKept (straps : BitVec 6) (s : State) : FormKept s (execSafetyStrapChanged straps s) := by
  simp [execSafetyStrapChanged]

/-! ### Faults.lean -/

theorem execFaultEventExpiry_formKept (source : BitVec 8) (detail : BitVec 16) (s : State) : FormKept s (execFaultEventExpiry source detail s) := by
  simp [execFaultEventExpiry]

theorem execHandlingEnd_formKept (number : Word) (s : State) : FormKept s (execHandlingEnd number s) := by
  simp [execHandlingEnd]

theorem execFaultPairHealthy_formKept (s : State) : FormKept s (execFaultPairHealthy s) := by
  simp [execFaultPairHealthy]

theorem execFltPairReadback_formKept (s : State) : FormKept s (execFltPairReadback s) := by
  simp [execFltPairReadback]

theorem execFlashFail_formKept (s : State) : FormKept s (execFlashFail s) := by
  simp [execFlashFail]

theorem execCompInternal_formKept (s : State) : FormKept s (execCompInternal s) := by
  simp [execCompInternal]

theorem execColourInternal_formKept (s : State) : FormKept s (execColourInternal s) := by
  simp [execColourInternal]

theorem execTumblerParity_formKept (s : State) : FormKept s (execTumblerParity s) := by
  simp [execTumblerParity]

theorem execWardEntropy_formKept (s : State) : FormKept s (execWardEntropy s) := by
  simp [execWardEntropy]

theorem execWardSealedEcc_formKept (s : State) : FormKept s (execWardSealedEcc s) := by
  simp [execWardSealedEcc]

theorem execChkDrainComplete_formKept (u : Fin 4) (s : State) : FormKept s (execChkDrainComplete u s) := by
  simp [execChkDrainComplete]

theorem execAliveDeadline_formKept (u : Fin 4) (s : State) : FormKept s (execAliveDeadline u s) := by
  simp [execAliveDeadline]

/-! ### NvmRows.lean -/

theorem execNvmStoreComplete_formKept (kind : NvmJob) (ok : Bool) (s : State) : FormKept s (execNvmStoreComplete kind ok s) := by
  unfold execNvmStoreComplete; repeat' split
  all_goals simp

theorem execBackgroundEraseDone_formKept (kind : NvmJob) (s : State) : FormKept s (execBackgroundEraseDone kind s) := by
  simp [execBackgroundEraseDone]

theorem execSlotEraseComplete_formKept (s : State) : FormKept s (execSlotEraseComplete s) := by
  simp [execSlotEraseComplete]

theorem execStagingComplete_formKept (s : State) : FormKept s (execStagingComplete s) := by
  simp [execStagingComplete]

theorem execTrialConfirm_formKept (s : State) : FormKept s (execTrialConfirm s) := by
  simp [execTrialConfirm]

theorem execTrialTimerExpiry_formKept (s : State) : FormKept s (execTrialTimerExpiry s) := by
  simp [execTrialTimerExpiry]

theorem execCairnStoreComplete_formKept (ok : Bool) (s : State) : FormKept s (execCairnStoreComplete ok s) := by
  simp [execCairnStoreComplete]

theorem execCairnReload_formKept (s : State) : FormKept s (execCairnReload s) := by
  simp [execCairnReload]

theorem execLogAppend_formKept (s : State) : FormKept s (execLogAppend s) := by
  unfold execLogAppend; dsimp only; repeat' split
  all_goals simp

/-! ### Registers.lean -/

theorem execRegisterWrite_formKept (src : Source) (addr : Word) (w : Word) (s : State) : FormKept s (execRegisterWrite src addr w s) := by
  simp [execRegisterWrite]

theorem execRegisterRead_formKept (src : Source) (addr : Word) (consume : Bool) (s : State) : FormKept s (execRegisterRead src addr consume s) := by
  simp [execRegisterRead]

theorem execHoldMaxS_formKept (src : Source) (w : Word) (s : State) : FormKept s (execHoldMaxS src w s) := by
  simp [execHoldMaxS]

theorem execCompareArm_formKept (src : Source) (n : Fin 8) (w : Word) (s : State) : FormKept s (execCompareArm src n w s) := by
  simp [execCompareArm]

theorem execAdcSnapshotArm_formKept (src : Source) (w : Word) (s : State) : FormKept s (execAdcSnapshotArm src w s) := by
  simp [execAdcSnapshotArm]

theorem execTimeCapSw_formKept (src : Source) (w : Word) (s : State) : FormKept s (execTimeCapSw src w s) := by
  simp [execTimeCapSw]

theorem execTimeCapData0Read_formKept (src : Source) (consume : Bool) (s : State) : FormKept s (execTimeCapData0Read src consume s) := by
  simp [execTimeCapData0Read]

theorem execTimeNowRead_formKept (src : Source) (s : State) : FormKept s (execTimeNowRead src s) := by
  simp [execTimeNowRead]

theorem execTimeLocalRead_formKept (src : Source) (s : State) : FormKept s (execTimeLocalRead src s) := by
  simp [execTimeLocalRead]

theorem execCompCommit_formKept (src : Source) (w : Word) (s : State) : FormKept s (execCompCommit src w s) := by
  simp [execCompCommit]

theorem execColTake_formKept (src : Source) (w : Word) (s : State) : FormKept s (execColTake src w s) := by
  simp [execColTake]

theorem execColEnvData_formKept (src : Source) (w : Word) (s : State) : FormKept s (execColEnvData src w s) := by
  simp [execColEnvData]

theorem execColEnvFill_formKept (src : Source) (w : Word) (s : State) : FormKept s (execColEnvFill src w s) := by
  simp [execColEnvFill]

theorem execColTfData_formKept (src : Source) (w : Word) (s : State) : FormKept s (execColTfData src w s) := by
  simp [execColTfData]

theorem execVfSweepStart_formKept (src : Source) (w : Word) (s : State) : FormKept s (execVfSweepStart src w s) := by
  simp [execVfSweepStart]

theorem execOsSweepStart_formKept (src : Source) (w : Word) (s : State) : FormKept s (execOsSweepStart src w s) := by
  simp [execOsSweepStart]

theorem execSweepStop_formKept (src : Source) (w : Word) (s : State) : FormKept s (execSweepStop src w s) := by
  simp [execSweepStop]

theorem execClrRtFence_formKept (src : Source) (w : Word) (s : State) : FormKept s (execClrRtFence src w s) := by
  simp [execClrRtFence]

theorem execStoreNow_formKept (src : Source) (w : Word) (s : State) : FormKept s (execStoreNow src w s) := by
  simp [execStoreNow]

theorem execPlanNow_formKept (src : Source) (w : Word) (s : State) : FormKept s (execPlanNow src w s) := by
  simp [execPlanNow]

theorem execClrLaneDerate_formKept (src : Source) (w : Word) (s : State) : FormKept s (execClrLaneDerate src w s) := by
  simp [execClrLaneDerate]

theorem execTumStart_formKept (src : Source) (w : Word) (s : State) : FormKept s (execTumStart src w s) := by
  simp [execTumStart]

theorem execTumHalt_formKept (src : Source) (w : Word) (s : State) : FormKept s (execTumHalt src w s) := by
  simp [execTumHalt]

theorem execProgStore_formKept (src : Source) (w : Word) (s : State) : FormKept s (execProgStore src w s) := by
  simp [execProgStore]

theorem execTumDbData_formKept (src : Source) (consume : Bool) (s : State) : FormKept s (execTumDbData src consume s) := by
  simp [execTumDbData]

theorem execRetrain_formKept (src : Source) (p : Port) (w : Word) (s : State) : FormKept s (execRetrain src p w s) := by
  simp [execRetrain]

theorem execClrFence_formKept (src : Source) (p : Port) (w : Word) (s : State) : FormKept s (execClrFence src p w s) := by
  simp [execClrFence]

theorem execPortEnable_formKept (src : Source) (p : Port) (w : Word) (s : State) : FormKept s (execPortEnable src p w s) := by
  simp [execPortEnable]

theorem execLnkEye_formKept (src : Source) (p : Port) (w : Word) (s : State) : FormKept s (execLnkEye src p w s) := by
  simp [execLnkEye]

theorem execTestEn_formKept (src : Source) (p : Port) (w : Word) (s : State) : FormKept s (execTestEn src p w s) := by
  simp [execTestEn]

theorem execTestExit_formKept (src : Source) (p : Port) (w : Word) (s : State) : FormKept s (execTestExit src p w s) := by
  simp [execTestExit]

theorem execLnkInject_formKept (src : Source) (p : Port) (w : Word) (s : State) : FormKept s (execLnkInject src p w s) := by
  simp [execLnkInject]

theorem execNvmUpdData_formKept (src : Source) (w : Word) (s : State) : FormKept s (execNvmUpdData src w s) := by
  simp [execNvmUpdData]

theorem execKeyLoad_formKept (src : Source) (w : Word) (s : State) : FormKept s (execKeyLoad src w s) := by
  simp [execKeyLoad]

theorem execKeyClear_formKept (src : Source) (w : Word) (s : State) : FormKept s (execKeyClear src w s) := by
  simp [execKeyClear]

theorem execFltInject_formKept (src : Source) (w : Word) (s : State) : FormKept s (execFltInject src w s) := by
  simp [execFltInject]

theorem execFltInjectClear_formKept (src : Source) (w : Word) (s : State) : FormKept s (execFltInjectClear src w s) := by
  simp [execFltInjectClear]

theorem execClrFirst_formKept (src : Source) (w : Word) (s : State) : FormKept s (execClrFirst src w s) := by
  simp [execClrFirst]

theorem execChkStart_formKept (src : Source) (u : Fin 4) (w : Word) (s : State) : FormKept s (execChkStart src u w s) := by
  simp [execChkStart]

theorem execChkDataB_formKept (src : Source) (u : Fin 4) (w : Word) (s : State) : FormKept s (execChkDataB src u w s) := by
  simp [execChkDataB]

theorem execChkDataH_formKept (src : Source) (u : Fin 4) (w : Word) (s : State) : FormKept s (execChkDataH src u w s) := by
  simp [execChkDataH]

theorem execChkDataW_formKept (src : Source) (u : Fin 4) (w : Word) (s : State) : FormKept s (execChkDataW src u w s) := by
  simp [execChkDataW]

theorem execChkClose_formKept (src : Source) (u : Fin 4) (w : Word) (s : State) : FormKept s (execChkClose src u w s) := by
  simp [execChkClose]

theorem execChkAliveFeed_formKept (src : Source) (u : Fin 4) (w : Word) (s : State) : FormKept s (execChkAliveFeed src u w s) := by
  simp [execChkAliveFeed]

theorem execChkRstatus_formKept (src : Source) (u : Fin 4) (consume : Bool) (s : State) : FormKept s (execChkRstatus src u consume s) := by
  simp [execChkRstatus]

theorem execRingSigCnt_formKept (src : Source) (consume : Bool) (s : State) : FormKept s (execRingSigCnt src consume s) := by
  simp [execRingSigCnt]

theorem execThermTrimCtrl_formKept (src : Source) (w : Word) (s : State) : FormKept s (execThermTrimCtrl src w s) := by
  simp [execThermTrimCtrl]

theorem execConfirm_formKept (src : Source) (w : Word) (s : State) : FormKept s (execConfirm src w s) := by
  simp [execConfirm]

theorem execCairnStart_formKept (src : Source) (w : Word) (s : State) : FormKept s (execCairnStart src w s) := by
  simp [execCairnStart]

theorem execNvmCairnData_formKept (src : Source) (w : Word) (s : State) : FormKept s (execNvmCairnData src w s) := by
  simp [execNvmCairnData]

theorem execCairnCommit_formKept (src : Source) (w : Word) (s : State) : FormKept s (execCairnCommit src w s) := by
  simp [execCairnCommit]

theorem execStreamContextWrite_formKept (src : Source) (n : Fin 256) (words : List (Fin 4 × Word)) (s : State) :
    FormKept s (execStreamContextWrite src n words s) := by
  simp [execStreamContextWrite]

/-! ### Device.lean -/

theorem execLdx_formKept (t : Fin 8) (rd ra : Fin 16) (imm : BitVec 18) (s : State) : FormKept s (execLdx t rd ra imm s) := by
  simp [execLdx]

theorem execStx_formKept (t : Fin 8) (rd ra : Fin 16) (imm : BitVec 18) (s : State) : FormKept s (execStx t rd ra imm s) := by
  simp [execStx]

theorem execLayer_formKept (t : Fin 8) (rd ra rb : Fin 16) (s : State) : FormKept s (execLayer t rd ra rb s) := by
  simp [execLayer]

theorem execTumblerCommit_formKept (t : Fin 8) (rd ra : Fin 16) (s : State) : FormKept s (execTumblerCommit t rd ra s) := by
  simp [execTumblerCommit]

theorem execTumblerMode_formKept (t : Fin 8) (rd ra : Fin 16) (s : State) : FormKept s (execTumblerMode t rd ra s) := by
  simp [execTumblerMode]

theorem execEnv_formKept (t : Fin 8) (rd ra : Fin 16) (s : State) : FormKept s (execEnv t rd ra s) := by
  simp [execEnv]

theorem execTumblerCal_formKept (t : Fin 8) (rd ra : Fin 16) (s : State) : FormKept s (execTumblerCal t rd ra s) := by
  simp [execTumblerCal]

theorem execTumblerMeas_formKept (t : Fin 8) (rd ra : Fin 16) (s : State) : FormKept s (execTumblerMeas t rd ra s) := by
  simp [execTumblerMeas]

theorem execTumblerStore_formKept (t : Fin 8) (rd ra : Fin 16) (s : State) : FormKept s (execTumblerStore t rd ra s) := by
  refine State.issue_formKept _ _ _ _ fun x => State.deviceOp_keepsForm _ _ _ _ _ (.refl s) ?_
  simp

theorem execSig_formKept (t : Fin 8) (rd ra : Fin 16) (s : State) : FormKept s (execSig t rd ra s) := by
  simp [execSig]

theorem execPost_formKept (t : Fin 8) (rd ra rb : Fin 16) (s : State) : FormKept s (execPost t rd ra rb s) := by
  simp [execPost]

theorem execSreq_formKept (t : Fin 8) (rd : Fin 16) (imm : BitVec 18) (s : State) : FormKept s (execSreq t rd imm s) := by
  refine State.issue_formKept _ _ _ _ fun x => State.deviceOp_keepsForm _ _ _ _ _ (.refl s) ?_
  split <;> simp

/-! ### Commands.lean -/

theorem execPing_formKept (q : CmdReq) (s : State) : FormKept s (execPing q s) := by
  refine State.runCmd_formKept (.refl s) _ _ _ fun t ht => ?_
  simp [ht]

theorem execRead_formKept (q : CmdReq) (s : State) : FormKept s (execRead q s) := by
  simp [execRead]

theorem execWrite_formKept (q : CmdReq) (s : State) : FormKept s (execWrite q s) := by
  unfold execWrite
  exact State.runCmd_formKept (.refl s) _ _ _ fun t ht => State.writeWords_keepsForm t _ _ _ ht

theorem execCommit_formKept (q : CmdReq) (s : State) : FormKept s (execCommit q s) := by
  simp [execCommit]

theorem execMode_formKept (q : CmdReq) (s : State) : FormKept s (execMode q s) := by
  refine State.runCmd_formKept (.refl s) _ _ _ fun t ht => ?_
  simp [ht]

theorem execColourTake_formKept (q : CmdReq) (s : State) : FormKept s (execColourTake q s) := by
  simp [execColourTake]

theorem execCal_formKept (q : CmdReq) (s : State) : FormKept s (execCal q s) := by
  refine State.runCmd_formKept (.refl s) _ _ _ fun t ht => ?_
  simp [ht]

theorem execMeas_formKept (q : CmdReq) (s : State) : FormKept s (execMeas q s) := by
  refine State.runCmd_formKept (.refl s) _ _ _ fun t ht => ?_
  simp [ht]

theorem execStore_formKept (q : CmdReq) (s : State) : FormKept s (execStore q s) := by
  refine State.runCmd_formKept (.refl s) _ _ _ fun t ht => ?_
  simp [ht]

theorem execDoorbell_formKept (q : CmdReq) (s : State) : FormKept s (execDoorbell q s) := by
  simp [execDoorbell]

theorem execProgLoad_formKept (q : CmdReq) (s : State) : FormKept s (execProgLoad q s) := by
  simp [execProgLoad]

theorem execLightOn_formKept (q : CmdReq) (s : State) : FormKept s (execLightOn q s) := by
  refine State.runCmd_formKept (.refl s) _ _ _ fun t ht => ?_
  simp [ht]

theorem execLightOff_formKept (q : CmdReq) (s : State) : FormKept s (execLightOff q s) := by
  refine State.runCmd_formKept (.refl s) _ _ _ fun t ht => ?_
  simp [ht]

theorem execSafeReq_formKept (q : CmdReq) (s : State) : FormKept s (execSafeReq q s) := by
  refine State.runCmd_formKept (.refl s) _ _ _ fun t ht => ?_
  repeat' split
  all_goals simp [ht]

theorem execFaultAck_formKept (q : CmdReq) (s : State) : FormKept s (execFaultAck q s) := by
  refine State.runCmd_formKept (.refl s) _ _ _ fun t ht => ?_
  simp [ht]

theorem execConfigRefresh_formKept (q : CmdReq) (s : State) : FormKept s (execConfigRefresh q s) := by
  refine State.runCmd_formKept (.refl s) _ _ _ fun t ht => ?_
  simp [ht]

theorem execShutdown_formKept (q : CmdReq) (s : State) : FormKept s (execShutdown q s) := by
  refine State.runCmd_formKept (.refl s) _ _ _ fun t ht => ?_
  simp [ht]

theorem execUpdateStart_formKept (q : CmdReq) (s : State) : FormKept s (execUpdateStart q s) := by
  simp [execUpdateStart]

theorem execUpdateAbort_formKept (q : CmdReq) (s : State) : FormKept s (execUpdateAbort q s) := by
  simp [execUpdateAbort]

theorem execRestart_formKept (q : CmdReq) (s : State) : FormKept s (execRestart q s) := by
  refine State.runCmd_formKept (.refl s) _ _ _ fun t ht => ?_
  simp [ht]

theorem execAttest_formKept (q : CmdReq) (s : State) : FormKept s (execAttest q s) := by
  refine State.runCmd_formKept (.refl s) _ _ _ fun t ht => ?_
  simp [ht]

theorem execProofRead_formKept (q : CmdReq) (s : State) : FormKept s (execProofRead q s) := by
  simp [execProofRead]

theorem execSessionOpen_formKept (q : CmdReq) (s : State) : FormKept s (execSessionOpen q s) := by
  refine State.runCmd_formKept (.refl s) _ _ _ fun t ht => ?_
  repeat' split
  all_goals simp [ht]

theorem execOwnerEnroll_formKept (q : CmdReq) (s : State) : FormKept s (execOwnerEnroll q s) := by
  refine State.runCmd_formKept (.refl s) _ _ _ fun t ht => ?_
  repeat' split
  all_goals simp [ht]

theorem execDebugUnlock_formKept (q : CmdReq) (s : State) : FormKept s (execDebugUnlock q s) := by
  simp [execDebugUnlock]

theorem execEnterService_formKept (q : CmdReq) (s : State) : FormKept s (execEnterService q s) := by
  refine State.runCmd_formKept (.refl s) _ _ _ fun t ht => ?_
  simp [ht]

theorem execLeaveService_formKept (q : CmdReq) (s : State) : FormKept s (execLeaveService q s) := by
  refine State.runCmd_formKept (.refl s) _ _ _ fun t ht => ?_
  simp [ht]

theorem execSafetyParam_formKept (q : CmdReq) (s : State) : FormKept s (execSafetyParam q s) := by
  refine State.runCmd_formKept (.refl s) _ _ _ fun t ht => ?_
  split
  · simp [ht]
  split
  · simp [ht]
  extract_lets s1 s2
  have h2 : KeepsForm s s2 := by simp only [s2]; split <;> simp [s1, ht]
  simp [h2]

theorem execNvmErase_formKept (q : CmdReq) (s : State) : FormKept s (execNvmErase q s) := by
  refine State.runCmd_formKept (.refl s) _ _ _ fun t ht => ?_
  split
  · next u hu =>
    have := State.eraseRegion_keepsForm t _ ht hu
    split <;> simp [ht, this]
  · simp [ht]

theorem execBadOpcode_formKept (opcode : Byte) (q : CmdReq) (s : State) : FormKept s (execBadOpcode opcode q s) := by
  unfold execBadOpcode; dsimp only; repeat' split
  all_goals simp

theorem execServiceReply_formKept (s : State) : FormKept s (execServiceReply s) := by
  simp [execServiceReply]

theorem execServiceWrite_formKept (bits : List Bool) (s : State) : FormKept s (execServiceWrite bits s) := by
  simp [execServiceWrite]

theorem execSealChange_formKept (high : Bool) (s : State) : FormKept s (execSealChange high s) := by
  simp [execSealChange]

theorem execPreviousSessionEnd_formKept (s : State) : FormKept s (execPreviousSessionEnd s) := by
  simp [execPreviousSessionEnd]

theorem execProofRecordSigned_formKept (s : State) : FormKept s (execProofRecordSigned s) := by
  simp [execProofRecordSigned]

theorem execDebugChallengeExpiry_formKept (s : State) : FormKept s (execDebugChallengeExpiry s) := by
  simp [execDebugChallengeExpiry]

/-! ### Boot.lean -/

theorem execBootStart_formKept (obs : BootObs) (s : State) : FormKept s (execBootStart obs s) := by
  unfold execBootStart; split
  · simp
  extract_lets s1 s2 s3 e v
  have h1 : KeepsForm s s1 := State.bootFirst_keepsForm s obs (.refl s)
  split
  · simp [h1]
  split
  · simp [h1]
  have h2 : KeepsForm s s2 := by simp [s2, h1]
  have h3 : KeepsForm s s3 := by
    clear_value s2
    simp [s3, h2]
  clear_value s3
  exact formKept_done ((keepsForm_congr rfl).mpr h3)

theorem execBootComplete_formKept (ms : BitVec 16) (rings : List RingBring) (s : State) : FormKept s (execBootComplete ms rings s) := by
  unfold execBootComplete; split
  · simp
  split
  · simp
  extract_lets s1 s2
  have h1 : KeepsForm s s1 := by simp only [s1]; split <;> simp
  have h2 : KeepsForm s s2 := State.settle_keepsForm _ (by simp [h1])
  simp [h2]

/-! ### Power.lean -/

theorem execHousekeepingUp_formKept (s : State) : FormKept s (execHousekeepingUp s) := by
  simp [execHousekeepingUp]

theorem execHousekeepingLost_formKept (s : State) : FormKept s (execHousekeepingLost s) := by
  unfold execHousekeepingLost; split
  · simp
  · exact formKept_done ((keepsForm_congr rfl).mpr (State.logicReset_keepsForm s (.refl s)))

theorem execInrushStart_formKept (s : State) : FormKept s (execInrushStart s) := by
  simp [execInrushStart]

theorem execInrushComplete_formKept (ms : BitVec 16) (s : State) : FormKept s (execInrushComplete ms s) := by
  simp [execInrushComplete]

theorem execInrushTimeout_formKept (s : State) : FormKept s (execInrushTimeout s) := by
  simp [execInrushTimeout]

theorem execBreakerTrip_formKept (s : State) : FormKept s (execBreakerTrip s) := by
  simp [execBreakerTrip]

theorem execBreakerOverload_formKept (s : State) : FormKept s (execBreakerOverload s) := by
  simp [execBreakerOverload]

theorem execBusUv_formKept (s : State) : FormKept s (execBusUv s) := by
  simp [execBusUv]

theorem execTripCooldownEnd_formKept (s : State) : FormKept s (execTripCooldownEnd s) := by
  simp [execTripCooldownEnd]

theorem execBusOv_formKept (s : State) : FormKept s (execBusOv s) := by
  simp [execBusOv]

theorem execPowerGoodRise_formKept (which : PowerGood) (s : State) : FormKept s (execPowerGoodRise which s) := by
  unfold execPowerGoodRise; split <;> simp

theorem execSequenceTimeout_formKept (s : State) : FormKept s (execSequenceTimeout s) := by
  simp [execSequenceTimeout]

theorem execSequenceRetry_formKept (s : State) : FormKept s (execSequenceRetry s) := by
  simp [execSequenceRetry]

theorem execSupplyShutdown_formKept (s : State) : FormKept s (execSupplyShutdown s) := by
  simp [execSupplyShutdown]

theorem execCoreSupplyFault_formKept (supply : Supply) (s : State) : FormKept s (execCoreSupplyFault supply s) := by
  unfold execCoreSupplyFault; repeat' split
  all_goals simp

theorem execHousekeepingUv_formKept (s : State) : FormKept s (execHousekeepingUv s) := by
  simp [execHousekeepingUv]

theorem execRefclkLoss_formKept (s : State) : FormKept s (execRefclkLoss s) := by
  simp [execRefclkLoss]

theorem execPllUnlock_formKept (s : State) : FormKept s (execPllUnlock s) := by
  simp [execPllUnlock]

theorem execClockReset_formKept (s : State) : FormKept s (execClockReset s) := by
  simp [execClockReset]

theorem execClockRecovered_formKept (s : State) : FormKept s (execClockRecovered s) := by
  simp [execClockRecovered]

theorem execPinReset_formKept (edge : PinEdge) (s : State) : FormKept s (execPinReset edge s) := by
  unfold execPinReset; split <;> simp

theorem execMgmtWatchdog_formKept (s : State) : FormKept s (execMgmtWatchdog s) := by
  simp [execMgmtWatchdog]

theorem execJtagSystemReset_formKept (s : State) : FormKept s (execJtagSystemReset s) := by
  simp [execJtagSystemReset]

theorem execDeparture_formKept (s : State) : FormKept s (execDeparture s) := by
  simp [execDeparture]

theorem execPortPark_formKept (p : Port) (s : State) : FormKept s (execPortPark p s) := by
  simp [execPortPark]

theorem execDepartureReset_formKept (us : BitVec 16) (s : State) : FormKept s (execDepartureReset us s) := by
  simp [execDepartureReset]

theorem execDepartureGateOff_formKept (s : State) : FormKept s (execDepartureGateOff s) := by
  simp [execDepartureGateOff]

theorem execJoinComplete_formKept (ms : BitVec 16) (s : State) : FormKept s (execJoinComplete ms s) := by
  simp [execJoinComplete]

theorem execShutdownReset_formKept (s : State) : FormKept s (execShutdownReset s) := by
  simp [execShutdownReset]

theorem execThermalRelease_formKept (reading : Int) (s : State) : FormKept s (execThermalRelease reading s) := by
  simp [execThermalRelease]

/-! ### TumblerAlu.lean -/

theorem execAdd_formKept (t : Fin 8) (rd ra rb : Fin 16) (s : State) : FormKept s (execAdd t rd ra rb s) := by
  simp [execAdd]

theorem execSub_formKept (t : Fin 8) (rd ra rb : Fin 16) (s : State) : FormKept s (execSub t rd ra rb s) := by
  simp [execSub]

theorem execAnd_formKept (t : Fin 8) (rd ra rb : Fin 16) (s : State) : FormKept s (execAnd t rd ra rb s) := by
  simp [execAnd]

theorem execOr_formKept (t : Fin 8) (rd ra rb : Fin 16) (s : State) : FormKept s (execOr t rd ra rb s) := by
  simp [execOr]

theorem execXor_formKept (t : Fin 8) (rd ra rb : Fin 16) (s : State) : FormKept s (execXor t rd ra rb s) := by
  simp [execXor]

theorem execShl_formKept (t : Fin 8) (rd ra rb : Fin 16) (s : State) : FormKept s (execShl t rd ra rb s) := by
  simp [execShl]

theorem execShr_formKept (t : Fin 8) (rd ra rb : Fin 16) (s : State) : FormKept s (execShr t rd ra rb s) := by
  simp [execShr]

theorem execSar_formKept (t : Fin 8) (rd ra rb : Fin 16) (s : State) : FormKept s (execSar t rd ra rb s) := by
  simp [execSar]

theorem execMul_formKept (t : Fin 8) (rd ra rb : Fin 16) (s : State) : FormKept s (execMul t rd ra rb s) := by
  simp [execMul]

theorem execMulhu_formKept (t : Fin 8) (rd ra rb : Fin 16) (s : State) : FormKept s (execMulhu t rd ra rb s) := by
  simp [execMulhu]

theorem execDivu_formKept (t : Fin 8) (rd ra rb : Fin 16) (s : State) : FormKept s (execDivu t rd ra rb s) := by
  simp [execDivu]

theorem execRemu_formKept (t : Fin 8) (rd ra rb : Fin 16) (s : State) : FormKept s (execRemu t rd ra rb s) := by
  simp [execRemu]

theorem execMin_formKept (t : Fin 8) (rd ra rb : Fin 16) (s : State) : FormKept s (execMin t rd ra rb s) := by
  simp [execMin]

theorem execMax_formKept (t : Fin 8) (rd ra rb : Fin 16) (s : State) : FormKept s (execMax t rd ra rb s) := by
  simp [execMax]

theorem execSlt_formKept (t : Fin 8) (rd ra rb : Fin 16) (s : State) : FormKept s (execSlt t rd ra rb s) := by
  simp [execSlt]

theorem execSltu_formKept (t : Fin 8) (rd ra rb : Fin 16) (s : State) : FormKept s (execSltu t rd ra rb s) := by
  simp [execSltu]

theorem execAddi_formKept (t : Fin 8) (rd ra : Fin 16) (imm : BitVec 18) (s : State) : FormKept s (execAddi t rd ra imm s) := by
  simp [execAddi]

theorem execAndi_formKept (t : Fin 8) (rd ra : Fin 16) (imm : BitVec 18) (s : State) : FormKept s (execAndi t rd ra imm s) := by
  simp [execAndi]

theorem execOri_formKept (t : Fin 8) (rd ra : Fin 16) (imm : BitVec 18) (s : State) : FormKept s (execOri t rd ra imm s) := by
  simp [execOri]

theorem execXori_formKept (t : Fin 8) (rd ra : Fin 16) (imm : BitVec 18) (s : State) : FormKept s (execXori t rd ra imm s) := by
  simp [execXori]

theorem execShli_formKept (t : Fin 8) (rd ra : Fin 16) (imm : BitVec 5) (s : State) : FormKept s (execShli t rd ra imm s) := by
  simp [execShli]

theorem execShri_formKept (t : Fin 8) (rd ra : Fin 16) (imm : BitVec 5) (s : State) : FormKept s (execShri t rd ra imm s) := by
  simp [execShri]

theorem execSari_formKept (t : Fin 8) (rd ra : Fin 16) (imm : BitVec 5) (s : State) : FormKept s (execSari t rd ra imm s) := by
  simp [execSari]

theorem execLui_formKept (t : Fin 8) (rd : Fin 16) (imm : BitVec 18) (s : State) : FormKept s (execLui t rd imm s) := by
  simp [execLui]

theorem execSlti_formKept (t : Fin 8) (rd ra : Fin 16) (imm : BitVec 18) (s : State) : FormKept s (execSlti t rd ra imm s) := by
  simp [execSlti]

theorem execLd_formKept (t : Fin 8) (rd ra : Fin 16) (imm : BitVec 18) (s : State) : FormKept s (execLd t rd ra imm s) := by
  simp [execLd]

theorem execLdb_formKept (t : Fin 8) (rd ra : Fin 16) (imm : BitVec 18) (s : State) : FormKept s (execLdb t rd ra imm s) := by
  simp [execLdb]

theorem execSt_formKept (t : Fin 8) (rd ra : Fin 16) (imm : BitVec 18) (s : State) : FormKept s (execSt t rd ra imm s) := by
  simp [execSt]

theorem execStb_formKept (t : Fin 8) (rd ra : Fin 16) (imm : BitVec 18) (s : State) : FormKept s (execStb t rd ra imm s) := by
  simp [execStb]

theorem execSwap_formKept (t : Fin 8) (rd ra : Fin 16) (imm : BitVec 18) (s : State) : FormKept s (execSwap t rd ra imm s) := by
  simp [execSwap]

theorem execBeq_formKept (t : Fin 8) (rd ra : Fin 16) (off : BitVec 18) (s : State) : FormKept s (execBeq t rd ra off s) := by
  simp [execBeq]

theorem execBne_formKept (t : Fin 8) (rd ra : Fin 16) (off : BitVec 18) (s : State) : FormKept s (execBne t rd ra off s) := by
  simp [execBne]

theorem execBlt_formKept (t : Fin 8) (rd ra : Fin 16) (off : BitVec 18) (s : State) : FormKept s (execBlt t rd ra off s) := by
  simp [execBlt]

theorem execBge_formKept (t : Fin 8) (rd ra : Fin 16) (off : BitVec 18) (s : State) : FormKept s (execBge t rd ra off s) := by
  simp [execBge]

theorem execBltu_formKept (t : Fin 8) (rd ra : Fin 16) (off : BitVec 18) (s : State) : FormKept s (execBltu t rd ra off s) := by
  simp [execBltu]

theorem execBgeu_formKept (t : Fin 8) (rd ra : Fin 16) (off : BitVec 18) (s : State) : FormKept s (execBgeu t rd ra off s) := by
  simp [execBgeu]

theorem execJmp_formKept (t : Fin 8) (off : BitVec 18) (s : State) : FormKept s (execJmp t off s) := by
  simp [execJmp]

theorem execJr_formKept (t : Fin 8) (ra : Fin 16) (s : State) : FormKept s (execJr t ra s) := by
  simp [execJr]

@[simp] theorem Thread.push_g_length (x : Thread) : x.push.g.length = x.g.length := by simp [Thread.push]

theorem execCall_formKept (t : Fin 8) (off : BitVec 18) (s : State) : FormKept s (execCall t off s) :=
  State.issue_formKept _ _ _ _ fun x => by split <;> simp

theorem execCallr_formKept (t : Fin 8) (ra : Fin 16) (s : State) : FormKept s (execCallr t ra s) :=
  State.issue_formKept _ _ _ _ fun x => by split <;> simp

theorem execRet_formKept (t : Fin 8) (s : State) : FormKept s (execRet t s) :=
  State.issue_formKept _ _ _ _ fun x => by split <;> simp

theorem execHalt_formKept (t : Fin 8) (s : State) : FormKept s (execHalt t s) := by
  simp [execHalt]

theorem execWaitf_formKept (t : Fin 8) (rd : Fin 16) (imm : BitVec 18) (s : State) : FormKept s (execWaitf t rd imm s) := by
  simp [execWaitf]

theorem execWaitt_formKept (t : Fin 8) (rd ra rb : Fin 16) (s : State) : FormKept s (execWaitt t rd ra rb s) := by
  simp [execWaitt]

theorem execWaitd_formKept (t : Fin 8) (rd ra : Fin 16) (imm : BitVec 18) (s : State) : FormKept s (execWaitd t rd ra imm s) := by
  simp [execWaitd]

theorem execWaite_formKept (t : Fin 8) (rd ra : Fin 16) (imm : BitVec 18) (s : State) : FormKept s (execWaite t rd ra imm s) := by
  simp [execWaite]

theorem execTime_formKept (t : Fin 8) (rd : Fin 16) (sel : Fin 5) (s : State) : FormKept s (execTime t rd sel s) := by
  simp [execTime]

theorem execIllegalInstruction_formKept (t : Fin 8) (s : State) : FormKept s (execIllegalInstruction t s) := by
  simp [execIllegalInstruction]

theorem execRunaway_formKept (t : Fin 8) (s : State) : FormKept s (execRunaway t s) := by
  simp [execRunaway]

theorem execWaiteTimeout_formKept (t : Fin 8) (s : State) : FormKept s (execWaiteTimeout t s) := by
  unfold execWaiteTimeout; split <;> simp

/-! ### Every command -/

theorem exec_formKept : (c : Instr) → (s : State) → FormKept s (exec c s)
  | .housekeepingUp, s => execHousekeepingUp_formKept s
  | .housekeepingLost, s => execHousekeepingLost_formKept s
  | .inrushStart, s => execInrushStart_formKept s
  | .inrushComplete ms, s => execInrushComplete_formKept ms s
  | .inrushTimeout, s => execInrushTimeout_formKept s
  | .breakerTrip, s => execBreakerTrip_formKept s
  | .breakerOverload, s => execBreakerOverload_formKept s
  | .busUv, s => execBusUv_formKept s
  | .tripCooldownEnd, s => execTripCooldownEnd_formKept s
  | .busOv, s => execBusOv_formKept s
  | .powerGoodRise which, s => execPowerGoodRise_formKept which s
  | .sequenceTimeout, s => execSequenceTimeout_formKept s
  | .sequenceRetry, s => execSequenceRetry_formKept s
  | .supplyShutdown, s => execSupplyShutdown_formKept s
  | .coreSupplyFault supply, s => execCoreSupplyFault_formKept supply s
  | .housekeepingUv, s => execHousekeepingUv_formKept s
  | .refclkLoss, s => execRefclkLoss_formKept s
  | .pllUnlock, s => execPllUnlock_formKept s
  | .clockReset, s => execClockReset_formKept s
  | .clockRecovered, s => execClockRecovered_formKept s
  | .pinReset edge, s => execPinReset_formKept edge s
  | .mgmtWatchdog, s => execMgmtWatchdog_formKept s
  | .jtagSystemReset, s => execJtagSystemReset_formKept s
  | .departure, s => execDeparture_formKept s
  | .portPark p, s => execPortPark_formKept p s
  | .departureReset us, s => execDepartureReset_formKept us s
  | .departureGateOff, s => execDepartureGateOff_formKept s
  | .bootStart obs, s => execBootStart_formKept obs s
  | .bootComplete ms rings, s => execBootComplete_formKept ms rings s
  | .joinComplete ms, s => execJoinComplete_formKept ms s
  | .flip n, s => execFlip_formKept n s
  | .takePoint n, s => execTakePoint_formKept n s
  | .latchLaunch ring, s => execLatchLaunch_formKept ring s
  | .timeCompareFire n, s => execTimeCompareFire_formKept n s
  | .adcSnapshot, s => execAdcSnapshot_formKept s
  | .sync p f sinceStart residence, s => execSync_formKept p f sinceStart residence s
  | .followUp p f, s => execFollowUp_formKept p f s
  | .followUpTimeout p, s => execFollowUpTimeout_formKept p s
  | .pdelayReq p f turnaround, s => execPdelayReq_formKept p f turnaround s
  | .pdelayResp p f sinceStart, s => execPdelayResp_formKept p f sinceStart s
  | .pdelaySend p, s => execPdelaySend_formKept p s
  | .pdelayTimeout p, s => execPdelayTimeout_formKept p s
  | .domainLossTimeout d0 d1, s => execDomainLossTimeout_formKept d0 d1 s
  | .holdoverExpiry, s => execHoldoverExpiry_formKept s
  | .slewComplete, s => execSlewComplete_formKept s
  | .switchBack, s => execSwitchBack_formKept s
  | .captureEdge source rising, s => execCaptureEdge_formKept source rising s
  | .frameLockEdge, s => execFrameLockEdge_formKept s
  | .flockLost, s => execFlockLost_formKept s
  | .holdMaxS src w, s => execHoldMaxS_formKept src w s
  | .compareArm src n w, s => execCompareArm_formKept src n w s
  | .adcSnapshotArm src w, s => execAdcSnapshotArm_formKept src w s
  | .timeCapSw src w, s => execTimeCapSw_formKept src w s
  | .timeCapData0Read src consume, s => execTimeCapData0Read_formKept src consume s
  | .timeNowRead src, s => execTimeNowRead_formKept src s
  | .timeLocalRead src, s => execTimeLocalRead_formKept src s
  | .commitAdmission, s => execCommitAdmission_formKept s
  | .compCommit src w, s => execCompCommit_formKept src w s
  | .stream p f, s => execStream_formKept p f s
  | .takeLanding, s => execTakeLanding_formKept s
  | .colTake src w, s => execColTake_formKept src w s
  | .colEnvData src w, s => execColEnvData_formKept src w s
  | .colEnvFill src w, s => execColEnvFill_formKept src w s
  | .colTfData src w, s => execColTfData_formKept src w s
  | .bandComplete obs, s => execBandComplete_formKept obs s
  | .calRecordRebuild, s => execCalRecordRebuild_formKept s
  | .calUpdateComplete, s => execCalUpdateComplete_formKept s
  | .ringRowSend ring, s => execRingRowSend_formKept ring s
  | .readReturn ring kind slots, s => execReadReturn_formKept ring kind slots s
  | .syncEcho ring echo, s => execSyncEcho_formKept ring echo s
  | .breakDetect ring, s => execBreakDetect_formKept ring s
  | .locateComplete ring obs, s => execLocateComplete_formKept ring obs s
  | .restoreProbe ring probe, s => execRestoreProbe_formKept ring probe s
  | .cellReenum ring answered found, s => execCellReenum_formKept ring answered found s
  | .cairnLatch, s => execCairnLatch_formKept s
  | .cairnRestream upsets, s => execCairnRestream_formKept upsets s
  | .vfSweepStart src w, s => execVfSweepStart_formKept src w s
  | .osSweepStart src w, s => execOsSweepStart_formKept src w s
  | .sweepStop src w, s => execSweepStop_formKept src w s
  | .clrRtFence src w, s => execClrRtFence_formKept src w s
  | .ledEvalTimeout, s => execLedEvalTimeout_formKept s
  | .railRampEnd vledMv, s => execRailRampEnd_formKept vledMv s
  | .railStartTimeout vledMv, s => execRailStartTimeout_formKept vledMv s
  | .railOv, s => execRailOv_formKept s
  | .railOcp phase, s => execRailOcp_formKept phase s
  | .railOcpSustained phase, s => execRailOcpSustained_formKept phase s
  | .phaseImbalance phase, s => execPhaseImbalance_formKept phase s
  | .railUv, s => execRailUv_formKept s
  | .railUvHold, s => execRailUvHold_formKept s
  | .railSense, s => execRailSense_formKept s
  | .adcSelfcheck, s => execAdcSelfcheck_formKept s
  | .powerLimitStep p100mw, s => execPowerLimitStep_formKept p100mw s
  | .boardDerateStep, s => execBoardDerateStep_formKept s
  | .ledgerPassComplete bad, s => execLedgerPassComplete_formKept bad s
  | .ledgerStoreStart, s => execLedgerStoreStart_formKept s
  | .ledgerEraseComplete, s => execLedgerEraseComplete_formKept s
  | .ledgerStoreComplete, s => execLedgerStoreComplete_formKept s
  | .ledgerStoreFail, s => execLedgerStoreFail_formKept s
  | .ledgerStoreRetry, s => execLedgerStoreRetry_formKept s
  | .planRewriteComplete, s => execPlanRewriteComplete_formKept s
  | .storeNow src w, s => execStoreNow_formKept src w s
  | .planNow src w, s => execPlanNow_formKept src w s
  | .clrLaneDerate src w, s => execClrLaneDerate_formKept src w s
  | .avsEvaluation slackPs written, s => execAvsEvaluation_formKept slackPs written s
  | .avsCheck ch17Mv, s => execAvsCheck_formKept ch17Mv s
  | .memEyeCheck eyes, s => execMemEyeCheck_formKept eyes s
  | .dqsTracking, s => execDqsTracking_formKept s
  | .laneMarginCheck eyesA eyesB, s => execLaneMarginCheck_formKept eyesA eyesB s
  | .nvmScrub obs, s => execNvmScrub_formKept obs s
  | .add t rd ra rb, s => execAdd_formKept t rd ra rb s
  | .sub t rd ra rb, s => execSub_formKept t rd ra rb s
  | .and t rd ra rb, s => execAnd_formKept t rd ra rb s
  | .or t rd ra rb, s => execOr_formKept t rd ra rb s
  | .xor t rd ra rb, s => execXor_formKept t rd ra rb s
  | .shl t rd ra rb, s => execShl_formKept t rd ra rb s
  | .shr t rd ra rb, s => execShr_formKept t rd ra rb s
  | .sar t rd ra rb, s => execSar_formKept t rd ra rb s
  | .mul t rd ra rb, s => execMul_formKept t rd ra rb s
  | .mulhu t rd ra rb, s => execMulhu_formKept t rd ra rb s
  | .divu t rd ra rb, s => execDivu_formKept t rd ra rb s
  | .remu t rd ra rb, s => execRemu_formKept t rd ra rb s
  | .min t rd ra rb, s => execMin_formKept t rd ra rb s
  | .max t rd ra rb, s => execMax_formKept t rd ra rb s
  | .slt t rd ra rb, s => execSlt_formKept t rd ra rb s
  | .sltu t rd ra rb, s => execSltu_formKept t rd ra rb s
  | .addi t rd ra imm, s => execAddi_formKept t rd ra imm s
  | .andi t rd ra imm, s => execAndi_formKept t rd ra imm s
  | .ori t rd ra imm, s => execOri_formKept t rd ra imm s
  | .xori t rd ra imm, s => execXori_formKept t rd ra imm s
  | .shli t rd ra imm, s => execShli_formKept t rd ra imm s
  | .shri t rd ra imm, s => execShri_formKept t rd ra imm s
  | .sari t rd ra imm, s => execSari_formKept t rd ra imm s
  | .lui t rd imm, s => execLui_formKept t rd imm s
  | .slti t rd ra imm, s => execSlti_formKept t rd ra imm s
  | .ld t rd ra imm, s => execLd_formKept t rd ra imm s
  | .ldb t rd ra imm, s => execLdb_formKept t rd ra imm s
  | .st t rd ra imm, s => execSt_formKept t rd ra imm s
  | .stb t rd ra imm, s => execStb_formKept t rd ra imm s
  | .swap t rd ra imm, s => execSwap_formKept t rd ra imm s
  | .ldx t rd ra imm, s => execLdx_formKept t rd ra imm s
  | .stx t rd ra imm, s => execStx_formKept t rd ra imm s
  | .beq t rd ra off, s => execBeq_formKept t rd ra off s
  | .bne t rd ra off, s => execBne_formKept t rd ra off s
  | .blt t rd ra off, s => execBlt_formKept t rd ra off s
  | .bge t rd ra off, s => execBge_formKept t rd ra off s
  | .bltu t rd ra off, s => execBltu_formKept t rd ra off s
  | .bgeu t rd ra off, s => execBgeu_formKept t rd ra off s
  | .jmp t off, s => execJmp_formKept t off s
  | .jr t ra, s => execJr_formKept t ra s
  | .call t off, s => execCall_formKept t off s
  | .callr t ra, s => execCallr_formKept t ra s
  | .ret t, s => execRet_formKept t s
  | .halt t, s => execHalt_formKept t s
  | .waitf t rd imm, s => execWaitf_formKept t rd imm s
  | .waitt t rd ra rb, s => execWaitt_formKept t rd ra rb s
  | .waitd t rd ra imm, s => execWaitd_formKept t rd ra imm s
  | .waite t rd ra imm, s => execWaite_formKept t rd ra imm s
  | .time t rd sel, s => execTime_formKept t rd sel s
  | .layer t rd ra rb, s => execLayer_formKept t rd ra rb s
  | .tumblerCommit t rd ra, s => execTumblerCommit_formKept t rd ra s
  | .tumblerMode t rd ra, s => execTumblerMode_formKept t rd ra s
  | .env t rd ra, s => execEnv_formKept t rd ra s
  | .tumblerCal t rd ra, s => execTumblerCal_formKept t rd ra s
  | .tumblerMeas t rd ra, s => execTumblerMeas_formKept t rd ra s
  | .tumblerStore t rd ra, s => execTumblerStore_formKept t rd ra s
  | .sig t rd ra, s => execSig_formKept t rd ra s
  | .post t rd ra rb, s => execPost_formKept t rd ra rb s
  | .sreq t rd imm, s => execSreq_formKept t rd imm s
  | .illegalInstruction t, s => execIllegalInstruction_formKept t s
  | .runaway t, s => execRunaway_formKept t s
  | .waiteTimeout t, s => execWaiteTimeout_formKept t s
  | .tumStart src w, s => execTumStart_formKept src w s
  | .tumHalt src w, s => execTumHalt_formKept src w s
  | .progStore src w, s => execProgStore_formKept src w s
  | .tumDbData src consume, s => execTumDbData_formKept src consume s
  | .ping q, s => execPing_formKept q s
  | .read q, s => execRead_formKept q s
  | .write q, s => execWrite_formKept q s
  | .commit q, s => execCommit_formKept q s
  | .mode q, s => execMode_formKept q s
  | .colourTake q, s => execColourTake_formKept q s
  | .cal q, s => execCal_formKept q s
  | .meas q, s => execMeas_formKept q s
  | .store q, s => execStore_formKept q s
  | .doorbell q, s => execDoorbell_formKept q s
  | .progLoad q, s => execProgLoad_formKept q s
  | .lightOn q, s => execLightOn_formKept q s
  | .lightOff q, s => execLightOff_formKept q s
  | .safeReq q, s => execSafeReq_formKept q s
  | .faultAck q, s => execFaultAck_formKept q s
  | .configRefresh q, s => execConfigRefresh_formKept q s
  | .shutdown q, s => execShutdown_formKept q s
  | .updateStart q, s => execUpdateStart_formKept q s
  | .updateAbort q, s => execUpdateAbort_formKept q s
  | .restart q, s => execRestart_formKept q s
  | .attest q, s => execAttest_formKept q s
  | .proofRead q, s => execProofRead_formKept q s
  | .sessionOpen q, s => execSessionOpen_formKept q s
  | .enterService q, s => execEnterService_formKept q s
  | .leaveService q, s => execLeaveService_formKept q s
  | .ownerEnroll q, s => execOwnerEnroll_formKept q s
  | .safetyParam q, s => execSafetyParam_formKept q s
  | .nvmErase q, s => execNvmErase_formKept q s
  | .debugUnlock q, s => execDebugUnlock_formKept q s
  | .serviceReply, s => execServiceReply_formKept s
  | .sealChange high, s => execSealChange_formKept high s
  | .trainDetected p lane payload trains, s => execTrainDetected_formKept p lane payload trains s
  | .rateAgreed p payload, s => execRateAgreed_formKept p payload s
  | .eqRequest p lane payload, s => execEqRequest_formKept p lane payload s
  | .eqDone p payload timeout obs, s => execEqDone_formKept p payload timeout obs s
  | .alignDone p skews, s => execAlignDone_formKept p skews s
  | .trainingTimeout p, s => execTrainingTimeout_formKept p s
  | .quietRetry p, s => execQuietRetry_formKept p s
  | .signalDetect p, s => execSignalDetect_formKept p s
  | .blockLock p obs, s => execBlockLock_formKept p obs s
  | .blockLockLoss p obs, s => execBlockLockLoss_formKept p obs s
  | .amReceived p lane blocks payload skew, s => execAmReceived_formKept p lane blocks payload skew s
  | .markerLockLoss p obs, s => execMarkerLockLoss_formKept p obs s
  | .parkReceived p lane, s => execParkReceived_formKept p lane s
  | .retrainTrigger p lane, s => execRetrainTrigger_formKept p lane s
  | .retrainFollow p lane payload, s => execRetrainFollow_formKept p lane payload s
  | .adaptFreeze p lane, s => execAdaptFreeze_formKept p lane s
  | .adaptResume p lane, s => execAdaptResume_formKept p lane s
  | .retrain src p w, s => execRetrain_formKept src p w s
  | .clrFence src p w, s => execClrFence_formKept src p w s
  | .portEnable src p w, s => execPortEnable_formKept src p w s
  | .lnkEye src p w, s => execLnkEye_formKept src p w s
  | .eyeMeasureComplete p eyes, s => execEyeMeasureComplete_formKept p eyes s
  | .testEn src p w, s => execTestEn_formKept src p w s
  | .testExit src p w, s => execTestExit_formKept src p w s
  | .prbsSyncTimeout p obs, s => execPrbsSyncTimeout_formKept p obs s
  | .prbsSyncLoss p obs, s => execPrbsSyncLoss_formKept p obs s
  | .lnkInject src p w, s => execLnkInject_formKept src p w s
  | .forwardingDecision p hdr, s => execForwardingDecision_formKept p hdr s
  | .frameTrailer p payload trailer, s => execFrameTrailer_formKept p payload trailer s
  | .egressSend p, s => execEgressSend_formKept p s
  | .announceSend, s => execAnnounceSend_formKept s
  | .announce p f, s => execAnnounce_formKept p f s
  | .depart p f, s => execDepart_formKept p f s
  | .assign p f, s => execAssign_formKept p f s
  | .load p f, s => execLoad_formKept p f s
  | .done p f, s => execDone_formKept p f s
  | .entryStale id, s => execEntryStale_formKept id s
  | .streamContextWrite src n words, s => execStreamContextWrite_formKept src n words s
  | .update p f, s => execUpdate_formKept p f s
  | .nvmUpdData src w, s => execNvmUpdData_formKept src w s
  | .keyLoad src w, s => execKeyLoad_formKept src w s
  | .keyClear src w, s => execKeyClear_formKept src w s
  | .previousSessionEnd, s => execPreviousSessionEnd_formKept s
  | .proofRecordSigned, s => execProofRecordSigned_formKept s
  | .debugChallengeExpiry, s => execDebugChallengeExpiry_formKept s
  | .wardEntropy, s => execWardEntropy_formKept s
  | .wardSealedEcc, s => execWardSealedEcc_formKept s
  | .inputSafe input ch, s => execInputSafe_formKept input ch s
  | .inputHealthy input ch pressMs, s => execInputHealthy_formKept input ch pressMs s
  | .testPulse output failA failB, s => execTestPulse_formKept output failA failB s
  | .inputDiscrepancy input, s => execInputDiscrepancy_formKept input s
  | .ackPress, s => execAckPress_formKept s
  | .safetyTick obs, s => execSafetyTick_formKept obs s
  | .safetyXcompare, s => execSafetyXcompare_formKept s
  | .aliveTimeout, s => execAliveTimeout_formKept s
  | .fadeDone, s => execFadeDone_formKept s
  | .sloCheck stage obs, s => execSloCheck_formKept stage obs s
  | .ssgDriveEnable, s => execSsgDriveEnable_formKept s
  | .heartbeat p pdu, s => execHeartbeat_formKept p pdu s
  | .demand p pdu, s => execDemand_formKept p pdu s
  | .ack p pdu, s => execAck_formKept p pdu s
  | .statusPdu p pdu, s => execStatusPdu_formKept p pdu s
  | .bcWatchdog, s => execBcWatchdog_formKept s
  | .bcDemandTimeout, s => execBcDemandTimeout_formKept s
  | .demandRepeat, s => execDemandRepeat_formKept s
  | .statusPduSend, s => execStatusPduSend_formKept s
  | .safetyStrapChanged straps, s => execSafetyStrapChanged_formKept straps s
  | .faultEventExpiry source detail, s => execFaultEventExpiry_formKept source detail s
  | .handlingEnd number, s => execHandlingEnd_formKept number s
  | .faultPairHealthy, s => execFaultPairHealthy_formKept s
  | .fltPairReadback, s => execFltPairReadback_formKept s
  | .fltInject src w, s => execFltInject_formKept src w s
  | .fltInjectClear src w, s => execFltInjectClear_formKept src w s
  | .clrFirst src w, s => execClrFirst_formKept src w s
  | .flashFail, s => execFlashFail_formKept s
  | .chkStart src u w, s => execChkStart_formKept src u w s
  | .chkDataB src u w, s => execChkDataB_formKept src u w s
  | .chkDataH src u w, s => execChkDataH_formKept src u w s
  | .chkDataW src u w, s => execChkDataW_formKept src u w s
  | .chkClose src u w, s => execChkClose_formKept src u w s
  | .chkDrainComplete u, s => execChkDrainComplete_formKept u s
  | .chkAliveFeed src u w, s => execChkAliveFeed_formKept src u w s
  | .aliveDeadline u, s => execAliveDeadline_formKept u s
  | .chkRstatus src u consume, s => execChkRstatus_formKept src u consume s
  | .ringSigCnt src consume, s => execRingSigCnt_formKept src consume s
  | .dieSensorFail sensor reading, s => execDieSensorFail_formKept sensor reading s
  | .thermalEvaluation obs, s => execThermalEvaluation_formKept obs s
  | .ntcCrosscheckFail ntc, s => execNtcCrosscheckFail_formKept ntc s
  | .thresholdCrossing q up value, s => execThresholdCrossing_formKept q up value s
  | .shutdownReset, s => execShutdownReset_formKept s
  | .thermalRelease reading, s => execThermalRelease_formKept reading s
  | .thermTrimCtrl src w, s => execThermTrimCtrl_formKept src w s
  | .trimDaily, s => execTrimDaily_formKept s
  | .selfTrimStart, s => execSelfTrimStart_formKept s
  | .selfTrimComplete trims, s => execSelfTrimComplete_formKept trims s
  | .trimTimeout, s => execTrimTimeout_formKept s
  | .trimApplyTimeout, s => execTrimApplyTimeout_formKept s
  | .nvmStoreComplete kind ok, s => execNvmStoreComplete_formKept kind ok s
  | .backgroundEraseDone kind, s => execBackgroundEraseDone_formKept kind s
  | .userCalStoreComplete ok, s => execUserCalStoreComplete_formKept ok s
  | .slotEraseComplete, s => execSlotEraseComplete_formKept s
  | .stagingComplete, s => execStagingComplete_formKept s
  | .confirm src w, s => execConfirm_formKept src w s
  | .trialConfirm, s => execTrialConfirm_formKept s
  | .trialTimerExpiry, s => execTrialTimerExpiry_formKept s
  | .cairnStart src w, s => execCairnStart_formKept src w s
  | .nvmCairnData src w, s => execNvmCairnData_formKept src w s
  | .cairnCommit src w, s => execCairnCommit_formKept src w s
  | .cairnStoreComplete ok, s => execCairnStoreComplete_formKept ok s
  | .cairnReload, s => execCairnReload_formKept s
  | .logAppend, s => execLogAppend_formKept s
  | .registerWrite src addr w, s => execRegisterWrite_formKept src addr w s
  | .registerRead src addr consume, s => execRegisterRead_formKept src addr consume s
  | .badOpcode opcode q, s => execBadOpcode_formKept opcode q s
  | .serviceWrite bits, s => execServiceWrite_formKept bits s
  | .tDieMove, s => execTDieMove_formKept s
  | .cairnCompletionDeadline ring, s => execCairnCompletionDeadline_formKept ring s
  | .compInternal, s => execCompInternal_formKept s
  | .colourInternal, s => execColourInternal_formKept s
  | .tumblerParity, s => execTumblerParity_formKept s

end Sys2Proof.Machine
open Sys2Proof Sys2Proof.Machine

/-- Settles O51: every command leads to a state as well formed as the one it started from (`exec_formKept`), and so does an idle cycle. -/
theorem stateStaysWellFormed : Obligations.StateStaysWellFormed := by
  unfold Obligations.StateStaysWellFormed
  intro s u hu
  suffices h : KeepsForm s u from h
  unfold step at hu
  split at hu
  · cases hu
    exact State.idle_keepsForm s (.refl s)
  · next c rest _ => exact exec_formKept c (s.withPending rest) u hu

end

section
/-!
PROOFS. O35 (R54, R55, R60, R75, R76, R96, R97, R144, R218, R238, R250, R251): what the commands about the picture, and STORE, DOORBELL and
PROG_LOAD, ask of their units, and what the service port answers.
-/

-- One declaration after another: the whole text compiles close to the memory it may have.
set_option Elab.async false

namespace Sys2Proof.Machine

/-! ### Events -/

section
variable {s : State}

/-- An event that no thread loses posts to the threads and raises nothing (R227, R228). -/
theorem State.fire_unlost {e : Nat} (h : s.losers e = []) : s.fire e = s.onTum fun m => { m with
    threads := m.threads.map fun t => t.post e, evtLost := sat 16 m.evtLost, evtThread := m.evtThread, evtEvent := m.evtEvent } := by
  simp [State.fire, State.fireWith, h]

theorem State.fire_doorbell {e : Nat} (h : s.losers e = []) : (s.fire e).tum.doorbell = s.tum.doorbell := by
  rw [State.fire_unlost h]; rfl

/-- Such an event touches Tumbler alone. -/
theorem State.fire_unlost_tum {e : Nat} (h : s.losers e = []) : s.fire e = { s with tum := (s.fire e).tum } := by
  rw [State.fire_unlost h]; rfl

end

/-! ### How a command on the service port ends -/

/-- A command taken on the service port, as its unit finds the state (R241, R247). -/
abbrev State.taken (s : State) (q : CmdReq) (op : Byte) : State := s.svcOpened.accept q op false

section
variable {s t : State} {q : CmdReq} {op : Byte} {r : OpRule} {b : OpBody} {unit : State → UnitAnswer} {c : Instr} {p : State → Prop}
variable (h : SvcTakes s q op.toNat) (hr : opRule op.toNat = some r) (hc : exec c s = s.runCmd op q b unit) (hb : b.Sound)
include h hr hc hb

/-- The unit answers OK with a result. -/
theorem completes_ok {res : List Byte} (hu : unit (s.taken q op) = (some (stOk, res), t)) (ht : t.cmd = (s.taken q op).cmd) (hcalm : t.Calm)
    (hp : ∀ u, Answered s u q op 0 res → u = { t with cmd := u.cmd, flt := u.flt } → NoNewFault t u → p u) : Completes c s p := by
  obtain ⟨u, hrun, hans, he, hn⟩ := State.runCmd_ok h hr hb hu ht hcalm
  exact ⟨u, hc.trans hrun, hp u hans he hn⟩

/-- The unit answers OK and fires an event that no thread loses. -/
theorem completes_fire {res : List Byte} {e : Nat} (hu : unit (s.taken q op) = (some (stOk, res), t.fire e)) (ht : t.cmd = (s.taken q op).cmd)
    (hl : t.losers e = []) (hcalm : t.Calm)
    (hp : ∀ u, Answered s u q op 0 res → u.tum = (t.fire e).tum → u = { t with tum := u.tum, cmd := u.cmd, flt := u.flt } →
      NoNewFault t u → p u) : Completes c s p := by
  have hfr := State.fire_unlost_tum hl
  generalize t.fire e = v at hfr hu hp
  refine completes_ok h hr hc hb hu (by rw [hfr]; exact ht) (by rw [hfr]; exact hcalm) fun u ha he hn => hp u ha (by rw [he]) ?_ ?_
  · rw [he, hfr]
  · rw [hfr] at hn; exact hn

/-- The unit refuses, with a result word or without one, and nothing else happens. -/
theorem completes_no {st : Byte} {res : List Byte} (hst : st ≠ stOk) (hu : unit (s.taken q op) = (some (st, res), s.taken q op))
    (hcalm : s.Calm) : Completes c s fun u =>
      Answered s u q op st res ∧ u = { s with cmd := u.cmd, flt := u.flt } ∧ NoNewFault s u := by
  have hrun := State.runCmd_service h hr hb unit
  rw [show unit (s.svcOpened.accept q op false) = _ from hu] at hrun
  obtain ⟨hport, -⟩ := h
  have hrun : s.runCmd op q b unit = done (s.svcOpened.answerTo (cmdOut q op) st res true) := hrun.trans (if_neg hst)
  have hs := s.svcOpened.answerTo_service (o := cmdOut q op) hport st res true
  obtain ⟨u, hdone, hn, he⟩ := done_calm (s.svcOpened.answerTo (cmdOut q op) st res true) (State.Calm.of_cmd (t := s.svcOpened) hcalm hs)
  have hcmd : u.cmd = (s.svcOpened.answerTo (cmdOut q op) st res true).cmd := by rw [he]
  refine ⟨u, hc.trans (hrun.trans hdone), ?_, ?_, ?_⟩
  · obtain ⟨hcl, ho⟩ := s.svcOpened.answerTo_closed (o := cmdOut q op) hport st res true
    rw [← hcmd] at hcl ho
    rw [Bool.or_true, if_pos rfl] at hcl
    exact answered_of_closed (s := s) (c := s.svcOpened.cmd) hport rfl hcl ho
  · rw [he, hs]; rfl
  · rw [hs] at hn; exact hn

/-- The unit answers later. -/
theorem completes_later (hu : unit (s.taken q op) = t.later) (ht : t.cmd = (s.taken q op).cmd) (hcalm : t.Calm)
    (hp : ∀ u, Awaited s u q op → u = { t with flt := u.flt } → NoNewFault t u → p u) : Completes c s p := by
  have hrun := State.runCmd_service h hr hb unit
  rw [show unit (s.svcOpened.accept q op false) = _ from hu] at hrun
  obtain ⟨hport, -⟩ := h
  obtain ⟨u, hdone, hn, he⟩ := done_calm t hcalm
  have hcmd : u.cmd = (s.taken q op).cmd := by rw [he, ← ht]
  refine ⟨u, hc.trans (hrun.trans hdone), hp u ?_ he hn⟩
  rw [Awaited, hcmd]
  exact ⟨by simp [State.accept, State.svcOpened, State.onCmd, cmdOut, cmdSrc, hport], rfl, rfl, rfl⟩

end

/-- Who issued a command of the service port. -/
theorem cmdIssuer_service {q : CmdReq} (h : q.port = .service) : cmdIssuer q = .command .service 0 q.cmdId 0 := by
  simp [cmdIssuer, cmdSrc, cmdSession, h]

/-! ### The bytes of an argument word -/

theorem leAt_one (l : List Byte) (i : Nat) : leAt l i 1 = (l.getD i 0).toNat := by simp [leAt, slice, ofLe]

theorem leAt_one_lt (l : List Byte) (i : Nat) : leAt l i 1 < 256 := by rw [leAt_one]; exact (l.getD i 0).isLt

theorem leAt_succ (l : List Byte) (i n : Nat) : leAt l i (n + 1) = leAt l i 1 + 256 * leAt l (i + 1) n := by
  rw [leAt_one]
  simp [leAt, slice, ofLe, List.range_succ_eq_map, Function.comp_def, Nat.add_assoc, Nat.add_comm 1]

theorem leAt_two (l : List Byte) (i : Nat) : leAt l i 2 = leAt l i 1 + 256 * leAt l (i + 1) 1 := leAt_succ l i 1

/-- A word by its four bytes. -/
theorem leAt_four (l : List Byte) (i : Nat) :
    leAt l i 4 = leAt l i 1 + 256 * leAt l (i + 1) 1 + 65536 * leAt l (i + 2) 1 + 16777216 * leAt l (i + 3) 1 := by
  rw [leAt_succ l i 3, leAt_succ l (i + 1) 2, leAt_succ l (i + 1 + 1) 1]; ring

theorem leAt_four_lt (l : List Byte) (i : Nat) : leAt l i 4 < 2 ^ 32 := by
  have h0 := leAt_one_lt l i
  have h1 := leAt_one_lt l (i + 1)
  have h2 := leAt_one_lt l (i + 2)
  have h3 := leAt_one_lt l (i + 3)
  rw [leAt_four]; omega

/-- A field of the first argument word. -/
theorem fld_cmdWord (q : CmdReq) (hi lo : Nat) : fld (cmdWord q 0) hi lo = leAt q.args 0 4 / 2 ^ lo % 2 ^ (hi + 1 - lo) := by
  rw [fld, cmdWord, BitVec.toNat_ofNat, Nat.mod_eq_of_lt (leAt_four_lt _ _), Nat.shiftRight_eq_div_pow]

section
variable (q : CmdReq)

theorem fld_cmdWord_low : fld (cmdWord q 0) 15 0 = leAt q.args 0 2 := by
  have h0 := leAt_one_lt q.args 0
  have h1 := leAt_one_lt q.args 1
  rw [fld_cmdWord, leAt_four, leAt_two]; norm_num; omega

theorem fld_cmdWord_top : fld (cmdWord q 0) 31 24 = leAt q.args 3 1 := by
  have h0 := leAt_one_lt q.args 0
  have h1 := leAt_one_lt q.args 1
  have h2 := leAt_one_lt q.args 2
  have h3 := leAt_one_lt q.args 3
  rw [fld_cmdWord, leAt_four]; norm_num; omega

theorem cmdWord_bit16 : (cmdWord q 0).getLsbD 16 = (BitVec.ofNat 8 (leAt q.args 2 1)).getLsbD 0 := by
  have h0 := leAt_one_lt q.args 0
  have h1 := leAt_one_lt q.args 1
  have h : leAt q.args 0 4 / 2 ^ 16 % 2 = leAt q.args 2 1 % 2 := by rw [leAt_four]; norm_num; omega
  simp only [cmdWord, BitVec.getLsbD_ofNat, Nat.testBit_eq_decide_div_mod_eq, h, pow_zero, Nat.div_one]; rfl

theorem fld_cmdWord_bit0 : fld (cmdWord q 0) 0 0 = leAt q.args 0 1 % 2 := by
  have h0 := leAt_one_lt q.args 0
  rw [fld_cmdWord, leAt_four]; norm_num; omega

theorem fld_cmdWord_bit1 : fld (cmdWord q 0) 1 1 = leAt q.args 0 1 / 2 % 2 := by
  have h0 := leAt_one_lt q.args 0
  rw [fld_cmdWord, leAt_four]; norm_num; omega

theorem fld_cmdWord_kind : fld (cmdWord q 0) 1 0 = leAt q.args 0 1 % 4 := by
  have h0 := leAt_one_lt q.args 0
  rw [fld_cmdWord, leAt_four]; norm_num; omega

theorem fld_cmdWord_interval : fld (cmdWord q 0) 9 2 = leAt q.args 0 2 / 4 % 256 := by
  have h0 := leAt_one_lt q.args 0
  have h1 := leAt_one_lt q.args 1
  rw [fld_cmdWord, leAt_four, leAt_two]; norm_num; omega

end

/-- The result word of a COMMIT refused for BUSY (R71). -/
theorem commitWord_busy {token : Nat} (h : token < 256) : leBytes 4 (commitWord stBusy 0 0 token).toNat = [6, 0, BitVec.ofNat 8 token, 0] := by
  have hw : (commitWord stBusy 0 0 token).toNat = 6 + token * 65536 := by
    simp [commitWord, pack, stBusy]; omega
  rw [hw]
  simp only [leBytes, List.cons.injEq, and_true]
  refine ⟨?_, ?_, ?_, ?_⟩ <;> apply BitVec.eq_of_toNat_eq <;> simp <;> omega

/-- The result word of a take that landed at once (R116). -/
theorem takeWord_ok (token : BitVec 8) : leBytes 4 (takeWord stOk token).toNat = [0, token, 0, 0] := by
  have ht := token.isLt
  have hw : (takeWord stOk token).toNat = token.toNat * 256 := by
    simp [takeWord, pack, stOk]; omega
  rw [hw]
  simp only [leBytes, List.cons.injEq, and_true]
  refine ⟨?_, ?_, ?_, ?_⟩ <;> apply BitVec.eq_of_toNat_eq <;> simp <;> omega

/-! ### What the units answer -/

section
variable {s : State}

/-- The first commit queued starts its admission (R54, R57). -/
theorem State.requestCommit_first (h : s.comp.queue = []) (w : Word) (by_ : Issuer) : s.requestCommit w by_ =
    (stOk, s.onComp fun c => { c with
      queue := [{ mask := BitVec.ofNat 16 (fld w 15 0), globals := w.getLsbD 16, token := BitVec.ofNat 8 (fld w 31 24), by_ := by_ }]
      admitting := some { layers := c.layers.map fun l => l.shadow, bg := c.bg, conf := c.conf }, resFresh := false }) := by
  simp [State.requestCommit, State.startAdmission, State.onComp, h]

theorem State.requestCommit_busy (h : s.comp.queue.length = 5) (w : Word) (by_ : Issuer) : s.requestCommit w by_ = (stBusy, s) := by
  simp [State.requestCommit, h]

theorem State.requestMode_ok {w0 w1 w2 w3 : Word} {m : Mode} (h : s.comp.pendingMode = none) (hm : s.modeOf w0 w1 w2 w3 = some m)
    (hs : s.modeStale m = false) (hf : s.modeFits m = true) :
    s.requestMode w0 w1 w2 w3 = (stOk, s.onComp fun c => { c with pendingMode := some m, vblankUs := m.vblankUs }) := by
  simp [State.requestMode, h, hm, hs, hf]

/-- With none under way a take of a group waits for its landing (R75, R76). -/
theorem State.requestTake_waits (h : s.col.landings = []) {env colour : Bool} (he : (env || colour) = true) (token : BitVec 8) (by_ : Issuer) :
    s.requestTake env colour token by_ = (stOk, false, s.onCol fun c => { c with
      landings := [{ env := if env then some c.envShadow else none, colour := if colour then some c.shadow else none, token := token, by_ := by_ }]
      resFresh := false }) := by
  have hn : (!env && !colour) = false := by cases env <;> cases colour <;> simp_all
  simp [State.requestTake, hn, State.onCol, h]

theorem State.requestTake_neither (token : BitVec 8) (by_ : Issuer) : s.requestTake false false token by_ =
    (stOk, true, s.onCol fun c => { c with resCode := stOk, resToken := token, resFresh := true }) := rfl

theorem State.requestCal_ok {w0 w1 w2 : Word} {x : CalReq} (h : calReq w0 w1 w2 = some x) (hq : s.col.calQueue = []) :
    s.requestCal w0 w1 w2 = (stOk, s.onCol fun c => { c with calQueue := [x] }) := by
  simp [State.requestCal, h, hq]

/-- A sweep starts where R252 lets MEAS through. -/
theorem State.sweepRequest_ok (hl : s.legal 0x08 = true) (hc : s.rings.cairnOn = false) (hs : s.rings.sweep = .none) {kind : Nat}
    (hk : kind = 1 ∨ kind = 2) (interval : Nat) : s.sweepRequest kind interval = (stOk, s.onRings fun u =>
      { u with sweep := if kind = 1 then .vf else .os, interval := max 1 interval, toNext := 0, rounds := 0, sent := none, measFresh := false }) := by
  have hst : s.eng.st = .dark ∨ s.eng.st = .lit := by simpa [State.legal, opRule, opRules] using hl
  have hk0 : kind ≠ 0 := by omega
  have hk2 : ¬ 2 < kind := by omega
  rcases hst with hst | hst <;> simp [State.sweepRequest, hst, hc, hs, hk0, hk2]

theorem State.requestStore_settings (hw : s.pwr.noNewStore = false) (hf : s.unitFenced 9 = false) (hs : s.nvm.storing .settings = false) :
    s.requestStore 0 = (stOk, s.onNvm fun v =>
      { v with jobSettings := some s.snapshot, stKind := 0, stValid := false, stFresh := false, settingsAgain := false }) := by
  simp [State.requestStore, State.startSettings, hw, hf, hs]

theorem State.requestStore_busy (hf : s.unitFenced 9 = false) (hs : s.nvm.storing .settings = true) : s.requestStore 0 = (stBusy, s) := by
  simp [State.requestStore, hf, hs]

/-- What an event does to a thread that is READY: its bit is set in PENDING. -/
theorem Thread.post_ready {x : Thread} (h : x.st = .ready) (e : Nat) : (x.post e).pending = x.pending ||| BitVec.ofNat 32 (2 ^ e) := by
  simp [Thread.post, Thread.checkEvents, h]

theorem State.fire_ready {e n : Nat} (hl : s.losers e = []) (h : (s.thread n).st = .ready) :
    ((s.fire e).thread n).pending = (s.thread n).pending ||| BitVec.ofNat 32 (2 ^ e) := by
  rw [State.fire_unlost hl, ← Thread.post_ready h]
  simp only [State.thread, State.onTum, List.getD_eq_getElem?_getD, List.getElem?_map]
  cases s.tum.threads[n]? <;> rfl

end

/-- Successive words put into a sparse table. -/
theorem sget_ssetAll_range {α : Type} [DecidableEq α] (d : α) (i n : Nat) (w : Nat → α) (t : List (Nat × α)) (j : Nat) :
    sget d j (ssetAll d ((List.range n).map fun k => (i + k, w k)) t) = if i ≤ j ∧ j < i + n then w (j - i) else sget d j t := by
  induction n generalizing t with
  | zero => rw [if_neg (by omega)]; rfl
  | succ n ih =>
    have he : ssetAll d ((List.range (n + 1)).map fun k => (i + k, w k)) t =
        ssetAll d ((List.range n).map fun k => (i + k, w k)) (sset d (i + n) (w n) t) := by
      simp [ssetAll, List.range_succ]
    rw [he, ih]
    by_cases hj : j = i + n
    · subst hj; simp
    · rw [sget_sset_other _ _ _ _ _ hj]
      exact if_congr (by omega) rfl rfl

/-- The state with a word put into the doorbell (R227). -/
def State.putDoorbell (s : State) (w : Word) : State := s.onTum fun m => { m with doorbell := m.doorbell ++ [w] }

/-- The state with words of program memory written, as PROG_LOAD writes them (R218). -/
def State.loadProg (s : State) (i : Nat) (ws : List Word) : State :=
  s.onTum fun m => { m with prog := ssetAll 0 ((List.range ws.length).map fun k => (i + k, ws.getD k 0)) m.prog }

theorem State.loadProg_progWord (s : State) (i : Nat) (ws : List Word) (j : Nat) :
    (s.loadProg i ws).progWord j = if i ≤ j ∧ j < i + ws.length then ws.getD (j - i) 0 else s.progWord j :=
  sget_ssetAll_range 0 i ws.length (fun k => ws.getD k 0) s.tum.prog j

/-- COMMIT (R54, R57): the first in the queue starts its admission. -/
theorem commit_queued (s : State) (q : CmdReq) (h : s.Calm) (hq : SvcTakes s q 0x04) (hl : q.args.length = 4) (hf : s.unitFenced 0 = false)
    (he : s.comp.queue = []) :
    Completes (.commit q) s fun u =>
      u.comp.queue = [{ mask := BitVec.ofNat 16 (leAt q.args 0 2), globals := (BitVec.ofNat 8 (leAt q.args 2 1)).getLsbD 0, token := BitVec.ofNat 8 (leAt q.args 3 1), by_ := .command .service 0 q.cmdId 0 }] ∧
      (u.comp.admitting = some { layers := s.comp.layers.map fun l => l.shadow, bg := s.comp.bg, conf := s.comp.conf } ∧
      Awaited s u q 0x04) ∧ u = { s with comp := u.comp, cmd := u.cmd, flt := u.flt } ∧ NoNewFault s u := by
  obtain ⟨hp, -⟩ := id hq
  refine completes_later (op := 0x04) hq rfl (execCommit.eq_1 q s) ⟨by simp [hl], rfl, rfl, rfl, rfl, hf⟩
    (t := (s.taken q 0x04).onComp fun c => { c with
      queue := [{ mask := BitVec.ofNat 16 (leAt q.args 0 2), globals := (BitVec.ofNat 8 (leAt q.args 2 1)).getLsbD 0
                  token := BitVec.ofNat 8 (leAt q.args 3 1), by_ := .command .service 0 q.cmdId 0 }]
      admitting := some { layers := c.layers.map fun l => l.shadow, bg := c.bg, conf := c.conf }, resFresh := false })
    ?_ rfl h fun u ha hu hn => ⟨by rw [hu]; rfl, ⟨by rw [hu]; rfl, ha⟩, by rw [hu]; rfl, hn⟩
  dsimp only
  rw [State.requestCommit_first (s := s.taken q 0x04) he, fld_cmdWord_low, fld_cmdWord_top, cmdWord_bit16, cmdIssuer_service hp]; rfl

/-- COMMIT while four wait (R55). -/
theorem commit_busy (s : State) (q : CmdReq) (h : s.Calm) (hq : SvcTakes s q 0x04) (hl : q.args.length = 4) (hf : s.unitFenced 0 = false)
    (he : s.comp.queue.length = 5) :
    Completes (.commit q) s fun u =>
      Answered s u q 0x04 0x06 [6, 0, BitVec.ofNat 8 (leAt q.args 3 1), 0] ∧ u = { s with cmd := u.cmd, flt := u.flt } ∧ NoNewFault s u := by
  refine completes_no (c := .commit q) (op := 0x04) hq rfl (execCommit.eq_1 q s) ⟨by simp [hl], rfl, rfl, rfl, rfl, hf⟩
    (st := stBusy) (by decide) ?_ h
  dsimp only
  rw [State.requestCommit_busy (s := s.taken q 0x04) he, fld_cmdWord_top, commitWord_busy (leAt_one_lt _ _)]; rfl

/-- MODE (R60, R61). -/
theorem mode_pending (s : State) (m : Mode) (q : CmdReq) (h : s.Calm) (hq : SvcTakes s q 0x05) (hl : q.args.length = 16)
    (hf : s.unitFenced 0 = false) (hp : s.comp.pendingMode = none)
    (hm : s.modeOf (BitVec.ofNat 32 (leAt q.args 0 4)) (BitVec.ofNat 32 (leAt q.args 4 4)) (BitVec.ofNat 32 (leAt q.args 8 4)) (BitVec.ofNat 32 (leAt q.args 12 4)) = some m)
    (hs : s.modeStale m = false) (hfit : s.modeFits m = true) :
    Completes (.mode q) s fun u =>
      u.comp = { s.comp with pendingMode := some m, vblankUs := m.vblankUs } ∧ Answered s u q 0x05 0 [] ∧
      u = { s with comp := u.comp, cmd := u.cmd, flt := u.flt } ∧ NoNewFault s u := by
  refine completes_ok (op := 0x05) hq rfl (execMode.eq_1 q s) ⟨by simp [hl], rfl, rfl, rfl, rfl, hf⟩ (res := [])
    (t := (s.taken q 0x05).onComp fun c => { c with pendingMode := some m, vblankUs := m.vblankUs })
    ?_ rfl h fun u ha hu hn => ⟨by rw [hu]; rfl, ha, by rw [hu]; rfl, hn⟩
  exact congrArg answerOf (State.requestMode_ok (s := s.taken q 0x05) hp hm hs hfit)

/-- COLOUR_TAKE of a group (R75). -/
theorem colourTake_waits (s : State) (q : CmdReq) (h : s.Calm) (hq : SvcTakes s q 0x06) (hl : q.args.length = 4)
    (hf : s.unitFenced 1 = false) (hn : s.col.landings = []) (hg : leAt q.args 0 1 % 4 ≠ 0) :
    Completes (.colourTake q) s fun u =>
      (u.col.landings = [{ env := if leAt q.args 0 1 % 2 = 1 then some s.col.envShadow else none, colour := if leAt q.args 0 1 / 2 % 2 = 1 then some s.col.shadow else none, token := BitVec.ofNat 8 (leAt q.args 3 1), by_ := .command .service 0 q.cmdId 0 }]) ∧
      u.col.active = s.col.active ∧ u.col.envActive = s.col.envActive ∧ Awaited s u q 0x06 ∧
      u = { s with col := u.col, cmd := u.cmd, flt := u.flt } ∧ NoNewFault s u := by
  obtain ⟨hp, -⟩ := id hq
  have hgroup : (decide (leAt q.args 0 1 % 2 = 1) || decide (leAt q.args 0 1 / 2 % 2 = 1)) = true := by
    simp only [Bool.or_eq_true, decide_eq_true_eq]; omega
  refine completes_later (op := 0x06) hq rfl (execColourTake.eq_1 q s) ⟨by simp [hl], rfl, rfl, rfl, rfl, hf⟩
    (t := (s.taken q 0x06).onCol fun c => { c with
      landings := [{ env := if leAt q.args 0 1 % 2 = 1 then some c.envShadow else none
                     colour := if leAt q.args 0 1 / 2 % 2 = 1 then some c.shadow else none
                     token := BitVec.ofNat 8 (leAt q.args 3 1), by_ := .command .service 0 q.cmdId 0 }]
      resFresh := false })
    ?_ rfl h fun u ha hu hn => ⟨by rw [hu]; rfl, by rw [hu]; rfl, by rw [hu]; rfl, ha, by rw [hu]; rfl, hn⟩
  dsimp only
  rw [fld_cmdWord_bit0, fld_cmdWord_bit1, fld_cmdWord_top, cmdIssuer_service hp, beq_eq_decide, beq_eq_decide,
    State.requestTake_waits (s := s.taken q 0x06) hn hgroup]
  simp

/-- COLOUR_TAKE of neither group (R76). -/
theorem colourTake_neither (s : State) (q : CmdReq) (h : s.Calm) (hq : SvcTakes s q 0x06) (hl : q.args.length = 4)
    (hf : s.unitFenced 1 = false) (hg : leAt q.args 0 1 % 4 = 0) (hlost : s.losers 21 = []) :
    Completes (.colourTake q) s fun u =>
      u.col = { s.col with resCode := 0, resToken := BitVec.ofNat 8 (leAt q.args 3 1), resFresh := true } ∧
      Answered s u q 0x06 0 [0, BitVec.ofNat 8 (leAt q.args 3 1), 0, 0] ∧
      u = { s with col := u.col, tum := u.tum, cmd := u.cmd, flt := u.flt } ∧ NoNewFault s u := by
  have h0 : leAt q.args 0 1 % 2 = 0 := by omega
  have h1 : leAt q.args 0 1 / 2 % 2 = 0 := by omega
  refine completes_fire (op := 0x06) hq rfl (execColourTake.eq_1 q s) ⟨by simp [hl], rfl, rfl, rfl, rfl, hf⟩
    (res := [0, BitVec.ofNat 8 (leAt q.args 3 1), 0, 0]) (e := 21)
    (t := (s.taken q 0x06).onCol fun c => { c with resCode := stOk, resToken := BitVec.ofNat 8 (leAt q.args 3 1), resFresh := true })
    ?_ rfl hlost h fun u ha _ hu hn => ⟨by rw [hu]; rfl, ha, by rw [hu]; rfl, hn⟩
  dsimp only
  rw [fld_cmdWord_bit0, fld_cmdWord_bit1, fld_cmdWord_top, h0, h1]
  exact congrArg (fun r => (some (stOk, r), _)) (takeWord_ok _)

/-- CAL (R96, R97). -/
theorem cal_queued (s : State) (x : CalReq) (q : CmdReq) (h : s.Calm) (hq : SvcTakes s q 0x07) (hl : q.args.length = 12)
    (hf : s.unitFenced 1 = false)
    (hx : calReq (BitVec.ofNat 32 (leAt q.args 0 4)) (BitVec.ofNat 32 (leAt q.args 4 4)) (BitVec.ofNat 32 (leAt q.args 8 4)) = some x)
    (hn : s.col.calQueue = []) :
    Completes (.cal q) s fun u =>
      u.col = { s.col with calQueue := [x] } ∧ Answered s u q 0x07 0 [] ∧ u = { s with col := u.col, cmd := u.cmd, flt := u.flt } ∧
      NoNewFault s u := by
  refine completes_ok (op := 0x07) hq rfl (execCal.eq_1 q s) ⟨by simp [hl], by simp [hq.1], rfl, rfl, rfl, hf⟩ (res := [])
    (t := (s.taken q 0x07).onCol fun c => { c with calQueue := [x] })
    ?_ rfl h fun u ha hu hn => ⟨by rw [hu]; rfl, ha, by rw [hu]; rfl, hn⟩
  exact congrArg answerOf (State.requestCal_ok (s := s.taken q 0x07) hx hn)

/-- MEAS (R144). -/
theorem meas_starts (s : State) (q : CmdReq) (h : s.Calm) (hq : SvcTakes s q 0x08) (hl : q.args.length = 4) (hc : s.rings.cairnOn = false)
    (hs : s.rings.sweep = .none) (hk : (leAt q.args 0 1 % 4 = 1 ∨ leAt q.args 0 1 % 4 = 2)) :
    Completes (.meas q) s fun u =>
      (u.rings = { s.rings with sweep := if leAt q.args 0 1 % 4 = 1 then .vf else .os, interval := max 1 (leAt q.args 0 2 / 4 % 256), toNext := 0, rounds := 0, sent := none, measFresh := false } ∧
      Answered s u q 0x08 0 []) ∧ u = { s with rings := u.rings, cmd := u.cmd, flt := u.flt } ∧ NoNewFault s u := by
  obtain ⟨-, -, -, -, -, -, -, -, -, -, hlegal⟩ := id hq
  refine completes_ok (op := 0x08) hq rfl (execMeas.eq_1 q s) ⟨by simp [hl], rfl, rfl, rfl, rfl, rfl⟩ (res := [])
    (t := (s.taken q 0x08).onRings fun u =>
      { u with sweep := if leAt q.args 0 1 % 4 = 1 then .vf else .os, interval := max 1 (leAt q.args 0 2 / 4 % 256)
               toNext := 0, rounds := 0, sent := none, measFresh := false })
    ?_ rfl h fun u ha hu hn => ⟨⟨by rw [hu]; rfl, ha⟩, by rw [hu]; rfl, hn⟩
  rw [fld_cmdWord_kind, fld_cmdWord_interval]
  exact congrArg answerOf (State.sweepRequest_ok (s := s.taken q 0x08) hlegal hc hs hk _)

/-- STORE of the settings (R235). -/
theorem store_starts (s : State) (q : CmdReq) (h : s.Calm) (hq : SvcTakes s q 0x09) (ha : q.args = [0, 0, 0, 0])
    (hw : s.pwr.noNewStore = false) (hf : s.unitFenced 9 = false) (hs : s.nvm.storing .settings = false) :
    Completes (.store q) s fun u =>
      u.nvm = { s.nvm with jobSettings := some s.snapshot, stKind := 0, stValid := false, stFresh := false, settingsAgain := false } ∧
      Answered s u q 0x09 0 [] ∧ u = { s with nvm := u.nvm, cmd := u.cmd, flt := u.flt } ∧ NoNewFault s u := by
  refine completes_ok (op := 0x09) hq rfl (execStore.eq_1 q s) ⟨by simp [ha], rfl, rfl, rfl, rfl, rfl⟩ (res := [])
    (t := (s.taken q 0x09).onNvm fun v =>
      { v with jobSettings := some s.snapshot, stKind := 0, stValid := false, stFresh := false, settingsAgain := false })
    ?_ rfl h fun u hans hu hn => ⟨by rw [hu]; rfl, hans, by rw [hu]; rfl, hn⟩
  rw [show cmdWord q 0 = 0 by rw [cmdWord, ha]; rfl]
  exact congrArg answerOf (State.requestStore_settings (s := s.taken q 0x09) hw hf hs)

/-- STORE of the settings while one runs (R235). -/
theorem store_busy (s : State) (q : CmdReq) (h : s.Calm) (hq : SvcTakes s q 0x09) (ha : q.args = [0, 0, 0, 0]) (hf : s.unitFenced 9 = false)
    (hs : s.nvm.storing .settings = true) :
    Completes (.store q) s fun u =>
      Answered s u q 0x09 0x06 [] ∧ u = { s with cmd := u.cmd, flt := u.flt } ∧ NoNewFault s u := by
  refine completes_no (c := .store q) (op := 0x09) hq rfl (execStore.eq_1 q s) ⟨by simp [ha], rfl, rfl, rfl, rfl, rfl⟩
    (st := stBusy) (by decide) ?_ h
  rw [show cmdWord q 0 = 0 by rw [cmdWord, ha]; rfl]
  exact congrArg answerOf (State.requestStore_busy (s := s.taken q 0x09) hf hs)

/-- DOORBELL (R227). -/
theorem doorbell_rings (s : State) (q : CmdReq) (h : s.Calm) (hq : SvcTakes s q 0x0A) (hl : q.args.length = 4) (hf : s.unitFenced 5 = false)
    (hd : s.tum.doorbell.length < 4) (hlost : s.losers 11 = []) :
    Completes (.doorbell q) s fun u =>
      u.tum.doorbell = s.tum.doorbell ++ [BitVec.ofNat 32 (leAt q.args 0 4)] ∧ Answered s u q 0x0A 0 [] ∧ (∀ n, (s.thread n).st = .ready →
      (u.thread n).pending = (s.thread n).pending ||| 0x800) ∧ u = { s with tum := u.tum, cmd := u.cmd, flt := u.flt } ∧ NoNewFault s u := by
  have hlost' : ((s.taken q 0x0A).putDoorbell (cmdWord q 0)).losers 11 = [] := hlost
  refine completes_fire (op := 0x0A) hq rfl (execDoorbell.eq_1 q s) ⟨by simp [hl], rfl, rfl, rfl, rfl, hf⟩ (res := []) (e := 11)
    (t := (s.taken q 0x0A).putDoorbell (cmdWord q 0)) (if_neg (Nat.not_le.mpr hd)) rfl hlost' h fun u ha htum hu hn =>
      ⟨(congrArg Tum.doorbell htum).trans (State.fire_doorbell hlost'), ha, fun n hr => ?_, by rw [hu]; rfl, hn⟩
  rw [State.thread, htum]; exact State.fire_ready hlost' hr

/-- DOORBELL with four words queued (R238). -/
theorem doorbell_busy (s : State) (q : CmdReq) (h : s.Calm) (hq : SvcTakes s q 0x0A) (hl : q.args.length = 4) (hf : s.unitFenced 5 = false)
    (hd : s.tum.doorbell.length = 4) :
    Completes (.doorbell q) s fun u =>
      Answered s u q 0x0A 0x06 [] ∧ u = { s with cmd := u.cmd, flt := u.flt } ∧ NoNewFault s u := by
  refine completes_no (c := .doorbell q) (op := 0x0A) hq rfl (execDoorbell.eq_1 q s) ⟨by simp [hl], rfl, rfl, rfl, rfl, hf⟩
    (st := stBusy) (by decide) ?_ h
  exact if_pos (Nat.le_of_eq hd.symm)

/-- PROG_LOAD (R218). -/
theorem progLoad_writes (s : State) (i n : Nat) (q : CmdReq) (h : s.Calm) (hq : SvcTakes s q 0x0B) (hl : q.args.length = 4 + 4 * n)
    (hi : leAt q.args 0 4 = i) (h1 : 1 ≤ n) (h2 : n ≤ 2048) (h3 : i + n ≤ 16384) (hh : s.allHalted = true) (hf : s.unitFenced 5 = false) :
    Completes (.progLoad q) s fun u =>
      (∀ j, u.progWord j = if i ≤ j ∧ j < i + n then BitVec.ofNat 32 (leAt q.args (4 + 4 * (j - i)) 4) else s.progWord j) ∧
      u.tum.threads = s.tum.threads ∧ u.tum.dmem = s.tum.dmem ∧ Answered s u q 0x0B 0 [] ∧
      u = { s with tum := u.tum, cmd := u.cmd, flt := u.flt } ∧ NoNewFault s u := by
  have hlen : (wordsOf (q.args.drop 4)).length = n := by rw [wordsOf_length, List.length_drop]; omega
  refine completes_ok (op := 0x0B) hq rfl (execProgLoad.eq_1 q s)
    ⟨by simp [hl]; omega, rfl, hh, rfl, rfl, hf⟩ (res := [])
    (t := (s.taken q 0x0B).loadProg i (wordsOf (q.args.drop 4))) ?_ rfl h fun u ha hu hn =>
      ⟨fun j => ?_, by rw [hu]; rfl, by rw [hu]; rfl, ha, by rw [hu]; rfl, hn⟩
  · rw [hi]
    exact if_neg (by omega)
  · rw [hu]
    refine ((s.taken q 0x0B).loadProg_progWord i _ j).trans ?_
    rw [hlen]
    split
    · next hj => exact wordsOf_drop_getD q.args hl (by omega)
    · rfl

end Sys2Proof.Machine
open Sys2Proof Sys2Proof.Machine

/-- Settles O35: the service port takes each command to its unit, whose answer it gives or keeps open. -/
theorem pictureCommandsComplete : Obligations.PictureCommandsComplete := by
  unfold Obligations.PictureCommandsComplete
  exact ⟨commit_queued, commit_busy, mode_pending, colourTake_waits, colourTake_neither, cal_queued, meas_starts, store_starts,
    store_busy, doorbell_rings, doorbell_busy, progLoad_writes⟩

end

section
/-!
PROOFS. O21 (R74, R97, R197): a band that the pipeline writes also takes the rewrite of a plan pass on, and the clause that names what else
BAND_COMPLETE changes leaves the ageing engine out.
-/

-- One declaration after another: the whole text compiles close to the memory it may have.
set_option Elab.async false

namespace Sys2Proof.Machine

/-- What a calm state rests on, the free values used so far, and whether a confidence picture goes upstream. -/
def State.bandParts (s : State) := (s.eng, s.flt, s.saf, s.free, s.comp.confOn)

theorem State.putPixel_bandParts (s : State) (x y : Nat) (o : PixelOut) : (s.putPixel x y o).bandParts = s.bandParts := rfl

theorem State.setBands_bandParts (s : State) (n : Nat) : (s.onComp fun c => { c with bands := n }).bandParts = s.bandParts := rfl

/-- A plan pass that has rewritten every record goes on by a free value. -/
theorem State.rewriteAdvance_bandParts {s : State} (hres : s.age.resNext.isNone = false) (hpos : 1048576 ≤ s.age.rewritePos)
    (hf : s.unitFenced 4 = false) : s.rewriteAdvance.bandParts = (s.eng, s.flt, s.saf, s.free + 1, s.comp.confOn) := by
  have hd : ∀ n, (List.range (min 1048576 n)).drop s.takeFree.age.rewritePos = [] := fun n =>
    List.drop_eq_nil_of_le (by rw [List.length_range]; exact (Nat.min_le_left _ _).trans hpos)
  simp only [State.rewriteAdvance, hres, hf, State.rewriteTo, hd]
  rfl

/-- While a plan pass rewrites, so does a band without a bad zone or burst. -/
theorem State.writeBand_bandParts {s : State} (hres : s.age.resNext.isNone = false) (hpos : 1048576 ≤ s.age.rewritePos)
    (hcal : s.col.calRunning = false) (hf : s.unitFenced 4 = false) (band : Nat) :
    (s.writeBand { badZones := [], badBursts := [] } band).bandParts = (s.eng, s.flt, s.saf, s.free + 1, s.comp.confOn) := by
  have hc : s.calAdvance = s := by simp [State.calAdvance, hcal]
  unfold State.writeBand
  extract_lets inBand zone s1 s2 s3
  have h2 : s2.bandParts = (s.eng, s.flt, s.saf, s.free + 1, s.comp.confOn) := by
    simp only [s2, s1, List.filter_nil, List.foldl_nil, hc]
    exact State.rewriteAdvance_bandParts hres hpos hf
  have h3 : s3.bandParts = s2.bandParts := foldl_keeps State.bandParts _ (fun t p => t.putPixel_bandParts _ _ _) _ _
  rw [State.setBands_bandParts, h3, h2]

/-- What BAND_COMPLETE does while the pipeline writes (R74). -/
theorem execBandComplete_writes {s : State} (obs : BandObs) (hrun : s.running = true) (hb : s.eng.st ≠ .boot) (hc : s.comp.composing = true)
    (hl : s.comp.composed < 256) (hr : s.comp.rateStep = 0) (hbands : s.comp.bands = s.comp.composed) (hh : s.col.halted = false) :
    execBandComplete obs s = done (((s.writeBand obs s.comp.composed).onComp fun c => { c with composed := s.comp.composed + 1 }).confBand
      s.comp.composed) := by
  have hl' : ¬ 256 ≤ s.comp.composed := Nat.not_le.mpr hl
  simp [execBandComplete, hrun, hb, hc, hl', hr, hbands, hh]

theorem State.confBand_off {s : State} (h : s.comp.confOn = false) (band : Nat) : s.confBand band = s := if_pos (by rw [h]; rfl)

/-- A state like a calm one in the parts that calm rests on is calm. -/
theorem State.Calm.of_parts {s t : State} (h : s.Calm) (heng : t.eng = s.eng) (hflt : t.flt = s.flt) (hsaf : t.saf = s.saf) : t.Calm := by
  obtain ⟨h1, h2, h3, h4⟩ := h
  refine ⟨by rw [State.FaultsHandled, hflt]; exact h1, by rw [heng]; exact h2, by rw [hsaf]; exact h3, fun hst => ?_⟩
  rw [State.safeDemand, hsaf]
  exact h4 (by rw [← heng]; exact hst)

/-- With no confidence picture, a band that is done leaves the free values as the pipeline left them. -/
theorem band_done_free {s t u : State} {n k : Nat} (h : s.Calm) (hp : t.bandParts = (s.eng, s.flt, s.saf, n, false))
    (hu : done ((t.onComp fun c => { c with composed := k + 1 }).confBand k) = .next u) : u.free = n := by
  simp only [State.bandParts, Prod.mk.injEq] at hp
  obtain ⟨heng, hflt, hsaf, hfree, hoff⟩ := hp
  have hoff' : (t.onComp fun c => { c with composed := k + 1 }).comp.confOn = false := hoff
  rw [State.confBand_off hoff'] at hu
  obtain ⟨v, hv, -, he⟩ := done_calm (t.onComp fun c => { c with composed := k + 1 }) (h.of_parts heng hflt hsaf)
  obtain rfl : v = u := by rw [hv] at hu; cases hu; rfl
  rw [he]; exact hfree

/-- While a plan pass rewrites, BAND_COMPLETE uses up a free value. -/
theorem bandComplete_free {s u : State} (h : s.Calm) (hrun : s.running = true) (hb : s.eng.st ≠ .boot) (hc : s.comp.composing = true)
    (hl : s.comp.composed < 256) (hr : s.comp.rateStep = 0) (hbands : s.comp.bands = s.comp.composed) (hh : s.col.halted = false)
    (hconf : s.comp.confOn = false) (hcal : s.col.calRunning = false) (hres : s.age.resNext.isNone = false)
    (hpos : 1048576 ≤ s.age.rewritePos) (hf : s.unitFenced 4 = false)
    (hu : exec (.bandComplete { badZones := [], badBursts := [] }) s = .next u) : u.free = s.free + 1 := by
  have hparts := State.writeBand_bandParts hres hpos hcal hf s.comp.composed
  rw [hconf] at hparts
  exact band_done_free h hparts ((execBandComplete_writes _ hrun hb hc hl hr hbands hh).symm.trans hu)

/-- A tile that composes in DARK while the ageing engine rewrites the records of a plan pass, and has come to their end. -/
def midRewrite : State :=
  { eng := { st := .dark }
    comp := { composing := true }
    age := { resNext := some [], rewritePos := 1048576 } }

end Sys2Proof.Machine
open Sys2Proof Sys2Proof.Machine

/-- Refutes O21: a band written while the ageing engine rewrites the records of a plan pass takes that rewrite on, which uses up a free value
that the clause holds fixed. -/
theorem not_compositionCompletes : ¬ Obligations.CompositionCompletes := by
  unfold Obligations.CompositionCompletes
  intro h
  obtain ⟨-, -, -, -, -, -, -, -, -, -, -, -, -, hband, -⟩ := h
  have hcalm : midRewrite.Calm := ⟨rfl, rfl, rfl, by decide⟩
  obtain ⟨u, hu, -, -, -, -, he, -⟩ := hband midRewrite { badZones := [], badBursts := [] } hcalm rfl (by decide) rfl (by decide) rfl rfl rfl
    rfl rfl rfl rfl
  have hused : u.free = 0 + 1 := bandComplete_free hcalm rfl (by decide) rfl (by decide) rfl rfl rfl rfl rfl rfl (Nat.le_refl _) rfl hu
  have hkept : u.free = 0 := by rw [he]; rfl
  rw [hused] at hkept
  exact absurd hkept (by decide)

end

section
/-!
PROOFS. O18 (R45, R46, R310, R311, R312, R355, R357, R358, R359, R462), first part: what the fault collector leaves of a landed payload, of
an update in progress and of the conditions of a refused tag.
-/

-- One declaration after another: the whole text compiles close to the memory it may have.
set_option Elab.async false

namespace Sys2Proof.Machine

/-! ### What faults leave of received data -/

/-- A fault of this source cannot fence the colour pipeline (R417): no DRAM is cleared. -/
@[simp] def sparing (n : Nat) : Bool := n / 16 != 5 && !(decide (0x10 ≤ n) && decide (n ≤ 0x17))

/-- A source whose condition is no refused tag of a STREAM or an UPDATE frame. -/
@[simp] def noTag (n : Nat) : Bool := n != 0x27 && n != 0xB4

/-- The conditions of STREAM_AUTH_FAIL and of a refused UPDATE frame. -/
def tagConds (l : List Cond) : List Cond := l.filter fun c => !noTag c.src

theorem tagConds_cons {c : Cond} (h : noTag c.src = true) (l : List Cond) : tagConds (c :: l) = tagConds l :=
  List.filter_cons_of_neg (by rw [h]; decide)

/-- Conditions of another source that go. -/
theorem tagConds_filter {n : Nat} (h : noTag n = true) {p : Cond → Bool} (hp : ∀ c, c.src ≠ n → p c = true) (l : List Cond) :
    tagConds (l.filter p) = tagConds l := by
  rw [tagConds, tagConds, List.filter_filter]
  refine List.filter_congr fun c _ => ?_
  by_cases hc : c.src = n
  · rw [hc, h]; rfl
  · rw [hp c hc, Bool.and_true]

/-- What streams and updates received, and whether only faults wait that spare it. -/
def State.received (s : State) :=
  (s.dram, s.nvm.nextOffset, s.ward.updLast, s.ward.tagFails, tagConds s.flt.conds, s.flt.newFaults.all fun n => sparing n.src)

@[simp] theorem Ward.markProof_updLast (w : Ward) (i) : (w.markProof i).updLast = w.updLast := rfl
@[simp] theorem Ward.markProof_tagFails (w : Ward) (i) : (w.markProof i).tagFails = w.tagFails := rfl

/-- The mirror of the first record keeps all else. -/
theorem Flt.mirrorFirst_eq (f : Flt) (r : FaultRecord) : f.mirrorFirst r = { f with firstInfo := (f.mirrorFirst r).firstInfo } := by
  unfold Flt.mirrorFirst; split <;> rfl

@[simp] theorem Flt.mirrorFirst_conds (f : Flt) (r) : (f.mirrorFirst r).conds = f.conds := by rw [f.mirrorFirst_eq r]
@[simp] theorem Flt.mirrorFirst_newFaults (f : Flt) (r) : (f.mirrorFirst r).newFaults = f.newFaults := by rw [f.mirrorFirst_eq r]

/-! ### Every operation of a reaction keeps it -/

@[simp] theorem State.onEng_received (s : State) (f) : (s.onEng f).received = s.received := rfl
@[simp] theorem State.onFlt_received (s : State) (f) (h : ∀ x, (f x).conds = x.conds ∧ (f x).newFaults = x.newFaults) :
    (s.onFlt f).received = s.received := by simp [State.received, State.onFlt, h]
@[simp] theorem State.onLinkA_received (s : State) (f) : (s.onLinkA f).received = s.received := rfl
@[simp] theorem State.onLinkB_received (s : State) (f) : (s.onLinkB f).received = s.received := rfl
@[simp] theorem State.onWall_received (s : State) (f) : (s.onWall f).received = s.received := rfl
@[simp] theorem State.onTime_received (s : State) (f) : (s.onTime f).received = s.received := rfl
@[simp] theorem State.onTum_received (s : State) (f) : (s.onTum f).received = s.received := rfl
@[simp] theorem State.onComp_received (s : State) (f) : (s.onComp f).received = s.received := rfl
@[simp] theorem State.onCol_received (s : State) (f) : (s.onCol f).received = s.received := rfl
@[simp] theorem State.onRings_received (s : State) (f) : (s.onRings f).received = s.received := rfl
@[simp] theorem State.onLed_received (s : State) (f) : (s.onLed f).received = s.received := rfl
@[simp] theorem State.onSaf_received (s : State) (f) : (s.onSaf f).received = s.received := rfl
@[simp] theorem State.onAge_received (s : State) (f) : (s.onAge f).received = s.received := rfl
@[simp] theorem State.onWard_received (s : State) (f) (h : ∀ w, (f w).updLast = w.updLast ∧ (f w).tagFails = w.tagFails) :
    (s.onWard f).received = s.received := by simp [State.received, State.onWard, h]
@[simp] theorem State.onNvm_received (s : State) (f) (h : ∀ v, (f v).nextOffset = v.nextOffset) :
    (s.onNvm f).received = s.received := by simp [State.received, State.onNvm, h]
@[simp] theorem State.onThread_received (s : State) (i f) : (s.onThread i f).received = s.received := rfl
@[simp] theorem State.onRing_received (s : State) (i f) : (s.onRing i f).received = s.received := rfl
@[simp] theorem State.onLayer_received (s : State) (i f) : (s.onLayer i f).received = s.received := rfl
@[simp] theorem State.takeFree_received (s : State) : s.takeFree.received = s.received := rfl
@[simp] theorem State.onLink_received (s : State) (p f) : (s.onLink p f).received = s.received := by cases p <;> rfl

/-- The end of a condition that is no refused tag. -/
@[simp] theorem State.endCond_received (s : State) (a b) (h : noTag a = true) : (s.endCond a b).received = s.received := by
  have hf : tagConds (s.endCond a b).flt.conds = tagConds s.flt.conds := tagConds_filter h (fun c hc => by simp [hc]) _
  simp only [State.received, hf]; rfl

@[simp] theorem State.endSrc_received (s : State) (a) (h : noTag a = true) : (s.endSrc a).received = s.received := by
  have hf : tagConds (s.endSrc a).flt.conds = tagConds s.flt.conds := tagConds_filter h (fun c hc => by simp [hc]) _
  simp only [State.received, hf]; rfl

theorem State.raise_new (s : State) {n d : Nat} (h : ¬ (s.hasCond n d && isLevel n) = true) : s.raise n d = s.onFlt fun f =>
    { f with
      newFaults := f.newFaults ++ [{ src := n, detail := d, injected := false, react := true }]
      conds := { src := n, detail := d, injected := false, react := true, sev := f.sevOf n } ::
        f.conds.filter fun c => !(c.src == n && c.detail == d && !c.injected) } := by
  rw [State.raise, if_neg h]

/-- A sparing fault that is no refused tag. -/
@[simp] theorem State.raise_received (s : State) (a b) (hn : noTag a = true) (hs : sparing a = true) : (s.raise a b).received = s.received := by
  by_cases h : (s.hasCond a b && isLevel a) = true
  · rw [State.raise, if_pos h]
  · have hf : tagConds (s.raise a b).flt.conds = tagConds s.flt.conds := by
      rw [s.raise_new h]
      exact (tagConds_cons hn _).trans (tagConds_filter hn (fun c hc => by simp [hc]) _)
    have hw : ((s.raise a b).flt.newFaults.all fun n => sparing n.src) = s.flt.newFaults.all fun n => sparing n.src := by
      rw [s.raise_new h]; simp only [State.onFlt, List.all_append, List.all_cons, hs]; simp
    simp only [State.received, hf, hw]
    rw [s.raise_new h]; rfl

@[simp] theorem State.raiseAt_received (s : State) (n a b) (hn : noTag a = true) (hs : sparing a = true) :
    (s.raiseAt n a b).received = s.received := by
  unfold State.raiseAt; split
  · exact s.raise_received a b hn hs
  · rfl

@[simp] theorem State.fireWith_received (s : State) (b e) : (s.fireWith b e).received = s.received := by
  unfold State.fireWith; simp only []; split <;> simp

@[simp] theorem State.fire_received (s : State) (e) : (s.fire e).received = s.received := by
  simp [State.fire]

@[simp] theorem State.captureWith_received (s : State) (a b c) : (s.captureWith a b c).received = s.received := by
  unfold State.captureWith; repeat' split
  all_goals simp

@[simp] theorem State.haltAll_received (s : State) (c) : (s.haltAll c).received = s.received := by
  simp [State.haltAll]

@[simp] theorem State.discardResults_received (s : State) (n) : (s.discardResults n).received = s.received := by
  simp [State.discardResults]

@[simp] theorem State.startThread_received (s : State) (n) : (s.startThread n).received = s.received := by
  simp [State.startThread]

@[simp] theorem State.startThreads_received (s : State) : (s.startThreads).received = s.received := by
  unfold State.startThreads
  split
  · rfl
  · exact State.each_keeps State.received _ (fun t n => by split <;> simp) s 8

@[simp] theorem State.applyCeilings_received (s : State) : (s.applyCeilings).received = s.received := by
  unfold State.applyCeilings
  split
  · rfl
  · exact State.each_keeps State.received _ (fun t n => by simp) s 64

@[simp] theorem State.setPoint_received (s : State) (m) : (s.setPoint m).received = s.received := by
  simp [State.setPoint]

@[simp] theorem State.railOff_received (s : State) : (s.railOff).received = s.received := by
  simp [State.railOff]

@[simp] theorem State.railStart_received (s : State) : (s.railStart).received = s.received := by
  unfold State.railStart; repeat' split
  all_goals simp

@[simp] theorem State.railStartIfOff_received (s : State) : (s.railStartIfOff).received = s.received := by
  unfold State.railStartIfOff; repeat' split
  all_goals simp

@[simp] theorem State.stopSweep_received (s : State) : (s.stopSweep).received = s.received := by
  unfold State.stopSweep; repeat' split
  all_goals simp

@[simp] theorem State.askZeroFrame_received (s : State) : (s.askZeroFrame).received = s.received := by
  simp [State.askZeroFrame]

@[simp] theorem State.cairnStream_received (s : State) : (s.cairnStream).received = s.received := by
  simp [State.cairnStream]

@[simp] theorem State.cairnRequest_received (s : State) : (s.cairnRequest).received = s.received := by
  unfold State.cairnRequest; repeat' split
  all_goals simp

@[simp] theorem State.cairnEnd_received (s : State) : (s.cairnEnd).received = s.received := by
  simp [State.cairnEnd]

@[simp] theorem State.fenceRing_received (s : State) (k) : (s.fenceRing k).received = s.received := by
  simp [State.fenceRing]

@[simp] theorem State.setEng_received (s : State) (n) : (s.setEng n).received = s.received := by
  unfold State.setEng; simp only []; repeat' split
  all_goals simp

@[simp] theorem State.enterDark_received (s : State) : (s.enterDark).received = s.received := by
  simp [State.enterDark]

@[simp] theorem State.writeBoot_received (s : State) (f) : (s.writeBoot f).received = s.received := by
  unfold State.writeBoot; split <;> simp

@[simp] theorem State.abortStaging_received (s : State) : (s.abortStaging).received = s.received := by
  simp [State.abortStaging]

@[simp] theorem State.performSlo_received (s : State) : (s.performSlo).received = s.received := by
  simp [State.performSlo]

@[simp] theorem State.performSfd_received (s : State) : (s.performSfd).received = s.received := by
  unfold State.performSfd; repeat' split
  all_goals simp

@[simp] theorem State.performSsg_received (s : State) : (s.performSsg).received = s.received := by
  unfold State.performSsg; repeat' split
  all_goals simp

@[simp] theorem State.applyFunc_received (s : State) (o) : (s.applyFunc o).received = s.received := by
  unfold State.applyFunc; repeat' split
  all_goals simp

@[simp] theorem State.enterSafe_received (s : State) : (s.enterSafe).received = s.received := by
  unfold State.enterSafe; repeat' split
  all_goals simp

@[simp] theorem State.addCause_received (s : State) (c f) : (s.addCause c f).received = s.received := by
  unfold State.addCause; simp only [State.enterSafe_received, State.applyFunc_received]; repeat' split
  all_goals simp

@[simp] theorem State.releaseOutputs_received (s : State) : (s.releaseOutputs).received = s.received := by
  unfold State.releaseOutputs; repeat' split
  all_goals simp

@[simp] theorem State.reportProg_received (s : State) : s.reportProg.received = s.received := by
  simp [State.reportProg]

@[simp] theorem State.enterJoin_received (s : State) : (s.enterJoin).received = s.received := by
  unfold State.enterJoin; simp only [State.railStartIfOff_received, State.releaseOutputs_received]; repeat' split
  all_goals simp

@[simp] theorem State.exitSafe_received (s : State) : (s.exitSafe).received = s.received := by
  unfold State.exitSafe; simp only []; repeat' split
  all_goals simp

@[simp] theorem State.clearCauses_received (s : State) (p) : (s.clearCauses p).received = s.received := by
  unfold State.clearCauses; simp only []; repeat' split
  all_goals simp

@[simp] theorem State.checkInternal_received (s : State) : (s.checkInternal).received = s.received := by
  unfold State.checkInternal; simp only []; repeat' split
  all_goals simp

@[simp] theorem State.checkSsgFenced_received (s : State) : (s.checkSsgFenced).received = s.received := by
  unfold State.checkSsgFenced; repeat' split
  all_goals simp

@[simp] theorem State.pairUpdate_received (s : State) : (s.pairUpdate).received = s.received := by
  unfold State.pairUpdate; repeat' split
  all_goals simp

@[simp] theorem State.cutOff_received (s : State) (p) : (s.cutOff p).received = s.received := by
  have hat : ∀ (t : State) (l : List Byte), (t.cutOffAt p l).received = t.received := by
    intro t l; unfold State.cutOffAt; split
    · rfl
    · simp only []; split <;> simp
  unfold State.cutOff; split
  · rfl
  · exact hat s _

@[simp] theorem State.mapPortLoss_received (s : State) (p) : (s.mapPortLoss p).received = s.received := by
  simp [State.mapPortLoss]

@[simp] theorem State.leaveActive_received (s : State) (p) : (s.leaveActive p).received = s.received := by
  unfold State.leaveActive; repeat' split
  all_goals simp

@[simp] theorem State.disablePort_received (s : State) (p) : (s.disablePort p).received = s.received := by
  simp [State.disablePort]

@[simp] theorem State.setFence_received (s : State) (i) : (s.setFence i).received = s.received := by
  simp [State.setFence]

/-- A fenced unit other than the colour pipeline (R417). -/
theorem State.fenceUnit_received (s : State) {u : FenceUnit} (h : u ≠ .unit 1) : (s.fenceUnit u).received = s.received := by
  have hend : ∀ t : State, (t.onWard Ward.endSessions).received = t.received := fun t => t.onWard_received _ fun w => ⟨rfl, rfl⟩
  unfold State.fenceUnit; split
  · rfl
  · simp
  · next i =>
    have hi : i ≠ 1 := fun he => h (by rw [he])
    simp only [hi, if_false]; repeat' split
    all_goals simp [hend]

@[simp] theorem State.logEvent_received (s : State) (a b c) : (s.logEvent a b c).received = s.received := by
  simp [State.logEvent]

@[simp] theorem State.mergeInto_received (s : State) (i n v c) : (s.mergeInto i n v c).received = s.received := by
  unfold State.mergeInto; split
  · rfl
  · dsimp only; split <;> simp

@[simp] theorem State.createRec_received (s : State) (i n v) : (s.createRec i n v).received = s.received := by
  have hold : ∀ (f : Flt) (o : Option FaultRecord), ((o.map f.mirrorFirst).getD f).conds = f.conds ∧
      ((o.map f.mirrorFirst).getD f).newFaults = f.newFaults := fun f o => by cases o <;> simp
  unfold State.createRec
  extract_lets no r hour logged s1 s2 s3 s4
  have h1 : s1.received = s.received := s.onFlt_received _ fun f => by dsimp only; split <;> exact hold _ _
  have h2 : s2.received = s1.received := by unfold s2; simp
  have h3 : s3.received = s2.received := by unfold s3; split <;> simp
  have h4 : s4.received = s3.received := by unfold s4; split <;> simp
  rw [← h1, ← h2, ← h3, ← h4]
  split <;> simp

/-! ### Recording and reacting -/

/-- Received data stays as in `v`, and only faults wait that spare it. -/
def State.Keeps (v s : State) : Prop :=
  s.received = (v.dram, v.nvm.nextOffset, v.ward.updLast, v.ward.tagFails, tagConds v.flt.conds, true)

section
variable {v s : State}

theorem State.Keeps.congr {u : State} (h : v.Keeps s) (hu : u.received = s.received) : v.Keeps u := hu.trans h

theorem State.Keeps.spares (h : v.Keeps s) : ∀ n ∈ s.flt.newFaults, sparing n.src = true :=
  List.all_eq_true.mp (congrArg (·.2.2.2.2.2) h)

theorem State.Keeps.taken (h : v.Keeps s) : v.Keeps (s.onFlt fun f => { f with newFaults := [] }) := by
  obtain ⟨hd, ho, hu, ht, hc, -⟩ : _ ∧ _ ∧ _ ∧ _ ∧ _ ∧ _ := by simpa only [State.Keeps, State.received, Prod.mk.injEq] using h
  simp [State.Keeps, State.received, State.onFlt, hd, ho, hu, ht, hc]

theorem fenceOf_sparing (s : State) {n : Nat} (d : Nat) (h : sparing n = true) : s.fenceOf n d ≠ .unit 1 := by
  simp only [sparing, Bool.and_eq_true, bne_iff_ne, Bool.not_eq_true', Bool.and_eq_false_iff, decide_eq_false_iff_not] at h
  obtain ⟨h5, h1⟩ := h
  have h1 : ¬ (0x10 ≤ n ∧ n ≤ 0x17) := by omega
  unfold State.fenceOf
  simp only [h5, h1, if_false]
  repeat' split
  all_goals simp
  omega

theorem State.Keeps.react (h : v.Keeps s) {n : NewFault} (hn : sparing n.src = true) (sev : Fin 4) : v.Keeps (s.react n sev) := by
  have hf : v.Keeps (if fencing n.src sev then s.fenceUnit (s.fenceOf n.src n.detail) else s) := by
    split
    · exact h.congr (s.fenceUnit_received (fenceOf_sparing s _ hn))
    · exact h
  unfold State.react; split
  · exact h
  · dsimp only; split
    · exact hf.congr (State.addCause_received _ _ _)
    · exact hf

theorem State.Keeps.fifoFull (h : v.Keeps s) (i : Nat) (j r : Bool) : v.Keeps (s.fifoFull i j r) := by
  rw [s.fifoFull_eq]
  refine State.Keeps.react ((h.congr ?_).congr (State.mergeInto_received _ _ _ _ _)) (by simp) _
  have hf : tagConds (s.fifoCounted j r).flt.conds = tagConds s.flt.conds := by
    exact (tagConds_cons rfl _).trans (tagConds_filter (n := 0x19) rfl (fun c hc => by simp [hc]) _)
  simp only [State.received, hf]; rfl

theorem State.Keeps.record (h : v.Keeps s) (old : List (BitVec 32)) (n : NewFault) (sev : Fin 4) : v.Keeps (s.record old n sev) := by
  unfold State.record; repeat' split
  · exact h.congr (s.mergeInto_received _ _ _ _)
  · exact h.congr (s.createRec_received _ _ _)
  · exact h.congr (s.createRec_received _ _ _)
  · exact (h.congr (s.mergeInto_received _ _ _ _)).fifoFull _ _ _
  · exact h.congr (s.onFlt_received _ fun f => ⟨rfl, rfl⟩)
  · exact h.congr (s.createRec_received _ _ _)
  · exact h

theorem State.Keeps.foldl (old : List (BitVec 32)) {l : List NewFault} (hl : ∀ n ∈ l, sparing n.src = true) (h : v.Keeps s) :
    v.Keeps (l.foldl (fun s n => (s.record old n (s.flt.sevOf n.src)).react n (s.flt.sevOf n.src)) s) := by
  induction l generalizing s with
  | nil => exact h
  | cons n l ih =>
    exact ih (fun m hm => hl m (List.mem_cons_of_mem _ hm)) ((h.record old n _).react (hl n List.mem_cons_self) _)

theorem mem_insertFault {f : Flt} {m n : NewFault} {l : List NewFault} (h : n ∈ insertFault f m l) : n = m ∨ n ∈ l := by
  induction l with
  | nil => simpa [insertFault] using h
  | cons a l ih =>
    unfold insertFault at h; split at h
    · simpa using h
    · rcases List.mem_cons.mp h with rfl | h
      · simp
      · rcases ih h with hm | hl
        · exact .inl hm
        · exact .inr (List.mem_cons_of_mem _ hl)

/-- The order of R411 adds no fault. -/
theorem mem_orderFaults {f : Flt} {n : NewFault} {l : List NewFault} (h : n ∈ orderFaults f l) : n ∈ l := by
  induction l with
  | nil => exact h
  | cons a l ih =>
    rcases mem_insertFault h with rfl | h
    · exact List.mem_cons_self
    · exact List.mem_cons_of_mem _ (ih h)

theorem State.Keeps.settleN (h : v.Keeps s) (k : Nat) (old : List (BitVec 32)) : v.Keeps (s.settleN k old) := by
  induction k generalizing s with
  | zero => exact h.taken
  | succ k ih =>
    unfold State.settleN; split
    · exact h
    · exact ih (State.Keeps.foldl old (fun n hn => h.spares n (mem_orderFaults hn)) h.taken)

/-- What follows a command whose faults spare received data. -/
theorem State.Keeps.settle (h : v.Keeps s) (hr : s.eng.resetDue = none) : v.Keeps s.settle := by
  have hk : ∀ old, v.Keeps (((s.settleN 6 old).checkSsgFenced.checkInternal.settleN 6 old).pairUpdate) := fun old =>
    ((((h.settleN 6 old).congr (State.checkSsgFenced_received _)).congr (State.checkInternal_received _)).settleN 6 old).congr (State.pairUpdate_received _)
  have ho : ∀ old, (((s.settleN 6 old).checkSsgFenced.checkInternal.settleN 6 old).pairUpdate).outside = s.outside := by intro old; simp
  unfold State.settle; extract_lets old
  rw [State.resetIfDue_none _ ((State.resetDue_of_outside (ho old)).trans hr)]
  exact hk old

end

end Sys2Proof.Machine
end

section
/-!
PROOFS. O18 (R45, R46, R310, R311, R312, R355, R357, R358, R359, R462), second part: the stream context table and a write to it.
-/

-- One declaration after another: the whole text compiles close to the memory it may have.
set_option Elab.async false

namespace Sys2Proof.Machine

/-- A command whose own effect is `t`, which leaves nothing to be recorded. -/
theorem completes_calm {c : Instr} {s t : State} {p : State → Prop} (hc : exec c s = done t) (ht : t.Calm)
    (hp : ∀ u, u = { t with flt := u.flt } → NoNewFault t u → p u) : Completes c s p := by
  obtain ⟨u, hrun, hn, he⟩ := done_calm t ht
  exact ⟨u, hc.trans hrun, hp u he hn⟩

/-! ### One context of the table -/

section
variable {s : State} {n : Nat} {f : Ctx → Ctx}

theorem State.onCtx_ctx_same (h : n < s.ctxs.length) : (s.onCtx n f).ctx n = f (s.ctx n) := upd_getD_same _ _ _ _ h

theorem State.onCtx_ctx_other {m : Nat} (h : m ≠ n) : (s.onCtx n f).ctx m = s.ctx m := upd_getD_other _ _ _ _ _ h

/-- Abandoning a frame leaves the context as it is, but for the frame and the drops (R48, R311). -/
theorem State.abandonFrame_ctx_same (h : n < s.ctxs.length) :
    (s.abandonFrame n).ctx n = { s.ctx n with land := none, drops := ((s.abandonFrame n).ctx n).drops } := by
  unfold State.abandonFrame State.landDrop; split
  · next hl => rw [← hl]
  · next l hl =>
    split
    · rw [State.onCtx_ctx_same h]
    · rw [State.onCtx_ctx_same (by simpa using h), State.onCtx_ctx_same (by simpa using h)]; rfl

theorem State.abandonFrame_ctx_other {m : Nat} (h : m ≠ n) : (s.abandonFrame n).ctx m = s.ctx m := by
  unfold State.abandonFrame State.landDrop; split
  · rfl
  · split
    · rw [State.onCtx_ctx_other h]
    · rw [State.onCtx_ctx_other h, State.onCtx_ctx_other h]; rfl

@[simp] theorem State.abandonFrame_length : (s.abandonFrame n).ctxs.length = s.ctxs.length := by
  unfold State.abandonFrame State.landDrop; split
  · rfl
  · split <;> simp

/-- It counts a drop in the composition unit too. -/
theorem State.abandonFrame_eq : s.abandonFrame n = { s with ctxs := (s.abandonFrame n).ctxs, comp := (s.abandonFrame n).comp } := by
  unfold State.abandonFrame State.landDrop; split
  · rfl
  · split <;> rfl

end

/-! ### The words written -/

/-- The words of one context as words of the table. -/
def ctxWords (n : Nat) (words : List (Fin 4 × Word)) : List (Nat × Word) := words.map fun p => (16 * n + p.1.val, p.2)

/-- The table with those words (R311). -/
def ctxTable (t : List Ctx) (l : List (Nat × Word)) : List Ctx := l.foldl (fun t p => upd t (p.1 / 16) fun c => c.setWord (p.1 % 16) p.2) t

/-- A context with words written. -/
def Ctx.setWords (c : Ctx) (words : List (Fin 4 × Word)) : Ctx := words.foldl (fun c p => c.setWord p.1.val p.2) c

theorem ctxTable_cons (t : List Ctx) (n : Nat) (p : Fin 4 × Word) (words : List (Fin 4 × Word)) :
    ctxTable t (ctxWords n (p :: words)) = ctxTable (upd t n fun c => c.setWord p.1.val p.2) (ctxWords n words) := by
  have hp := p.1.isLt
  have hn : (16 * n + p.1.val) / 16 = n := by omega
  have hw : (16 * n + p.1.val) % 16 = p.1.val := by omega
  simp only [ctxTable, ctxWords, List.map_cons, List.foldl_cons, hn, hw]

theorem ctxTable_same {t : List Ctx} {n : Nat} (h : n < t.length) (words : List (Fin 4 × Word)) :
    (ctxTable t (ctxWords n words)).getD n {} = (t.getD n {}).setWords words := by
  induction words generalizing t with
  | nil => rfl
  | cons p words ih =>
    rw [ctxTable_cons, ih (by simpa using h), upd_getD_same _ _ _ _ h]; rfl

theorem ctxTable_other {t : List Ctx} {n m : Nat} (h : m ≠ n) (words : List (Fin 4 × Word)) :
    (ctxTable t (ctxWords n words)).getD m {} = t.getD m {} := by
  induction words generalizing t with
  | nil => rfl
  | cons p words ih => rw [ctxTable_cons, ih, upd_getD_other _ _ _ _ _ h]

/-- The words of one context touch that context alone. -/
theorem ctxWords_touched {n : Nat} (hn : n < 256) {words : List (Fin 4 × Word)} (h : words ≠ []) :
    ((List.range 256).filter fun m => (ctxWords n words).any fun p => decide (p.1 / 16 = m) && decide (p.1 % 16 < 4)) = [n] := by
  have hm : ∀ m, ((ctxWords n words).any fun p => decide (p.1 / 16 = m) && decide (p.1 % 16 < 4)) = (m == n) := by
    intro m
    have hw : ∀ p : Fin 4 × Word, ((16 * n + p.1.val) / 16 = m ∧ (16 * n + p.1.val) % 16 < 4) ↔ m = n := fun p => by
      have hp := p.1.isLt
      omega
    obtain ⟨p, words, rfl⟩ := List.exists_cons_of_ne_nil h
    rw [Bool.eq_iff_iff]
    simp only [ctxWords, List.any_map, Function.comp_def, ← Bool.decide_and, hw, beq_iff_eq, List.any_cons, Bool.or_eq_true, decide_eq_true_eq,
      List.any_eq_true]
    exact ⟨fun h => h.elim id fun ⟨_, _, h⟩ => h, .inl⟩
  simp only [hm]
  rw [List.filter_beq, List.count_eq_one_of_mem List.nodup_range (List.mem_range.mpr hn)]; rfl

theorem ctxWords_stride (n : Nat) (words : List (Fin 4 × Word)) :
    ((ctxWords n words).any fun p => decide (p.1 = 16 * n + 2)) = words.any fun p => decide (p.1.val = 2) := by
  simp [ctxWords, List.any_map, Function.comp_def]

/-! ### A write that a row of R311 refuses, or none -/

section
variable {s : State} {n : Nat} {words : List (Fin 4 × Word)}
variable (hn : n < 256) (hlen : s.ctxs.length = 256) (hw : words ≠ [])
include hn hlen hw

theorem State.writeCtx_busy (h : s.ctxBusy n (s.ctx n) ((s.ctx n).setWords words) = true) :
    s.writeCtx (ctxWords n words) = (stBusy, s) := by
  have ht : (ctxTable s.ctxs (ctxWords n words)).getD n {} = (s.ctx n).setWords words := ctxTable_same (by rw [hlen]; exact hn) words
  rw [State.writeCtx]
  simp only [ctxWords_touched hn hw, List.any_cons, List.any_nil, Bool.or_false]
  rw [if_pos]
  exact (congrArg _ ht).trans h

/-- The context `c` as the words `d` leave it (R311, R45, R356). -/
def Ctx.written (c d : Ctx) : Ctx :=
  let e := { c with w0 := d.w0, base := d.base, stride := d.stride, any := c.any && fld d.w0 15 8 == fld c.w0 15 8 }
  if fld d.w0 3 1 == fld c.w0 3 1 && d.base == c.base && d.stride == c.stride then e
  else { e with hasNewest := false, bufs := e.bufs.map fun b => { b with complete := false } }

theorem State.writeCtx_took (hb : s.ctxBusy n (s.ctx n) ((s.ctx n).setWords words) = false)
    (hl : ((s.ctx n).setWords words).badLen (words.any fun p => decide (p.1.val = 2)) = false)
    (ha : s.ctxBadAddr (ctxTable s.ctxs (ctxWords n words)) n = false) :
    s.writeCtx (ctxWords n words) = took ((s.abandonFrame n).onCtx n fun c => c.written ((s.ctx n).setWords words)) := by
  have ht : (ctxTable s.ctxs (ctxWords n words)).getD n {} = (s.ctx n).setWords words := ctxTable_same (by rw [hlen]; exact hn) words
  rw [State.writeCtx]
  simp only [ctxWords_touched hn hw, ctxWords_stride, List.any_cons, List.any_nil, Bool.or_false, List.foldl_cons, List.foldl_nil]
  change (if s.ctxBusy n (s.ctx n) ((ctxTable s.ctxs (ctxWords n words)).getD n {}) = true then _ else if
    ((ctxTable s.ctxs (ctxWords n words)).getD n {}).badLen _ = true then _ else if s.ctxBadAddr (ctxTable s.ctxs (ctxWords n words)) n = true
    then _ else took ((s.abandonFrame n).onCtx n fun c => c.written ((ctxTable s.ctxs (ctxWords n words)).getD n {}))) = _
  rw [ht, ha, hb, hl]; rfl

omit hw in
/-- Neither outside DRAM nor over another context’s buffers (R311). -/
theorem State.ctxBadAddr_free {d : Ctx} (hd : d = (s.ctx n).setWords words)
    (hr : (d.enable && !d.idle) = true → 0x83000000 ≤ d.range.1 ∧ d.range.2 ≤ s.dramEnd)
    (ho : (List.range 256).all (fun m => decide (m = n ∨ d.range.2 ≤ d.range.1 ∨ (s.ctx m).range.2 ≤ (s.ctx m).range.1 ∨
      d.range.2 ≤ (s.ctx m).range.1 ∨ (s.ctx m).range.2 ≤ d.range.1)) = true) :
    s.ctxBadAddr (ctxTable s.ctxs (ctxWords n words)) n = false := by
  have ht : (ctxTable s.ctxs (ctxWords n words)).getD n {} = d := by rw [ctxTable_same (by rw [hlen]; exact hn) words, hd]; rfl
  have hempty : (d.enable && !d.idle) = false → ¬ d.range.1 < d.range.2 := fun h => by simp [Ctx.range, h]
  rw [State.ctxBadAddr, ht]; dsimp only
  cases hlt : decide (d.range.1 < d.range.2)
  · rfl
  · have hlt := of_decide_eq_true hlt
    obtain ⟨hlo, hhi⟩ := hr (by by_contra h; exact hempty (by simpa using h) hlt)
    have hany : ((List.range 256).any fun m => m != n && decide (((ctxTable s.ctxs (ctxWords n words)).getD m {}).range.1 <
        ((ctxTable s.ctxs (ctxWords n words)).getD m {}).range.2) && decide (d.range.1 < ((ctxTable s.ctxs (ctxWords n words)).getD m {}).range.2)
        && decide (((ctxTable s.ctxs (ctxWords n words)).getD m {}).range.1 < d.range.2)) = false := by
      refine List.any_eq_false.mpr fun m hm => ?_
      by_cases he : m = n
      · simp [he]
      · have := of_decide_eq_true (List.all_eq_true.mp ho m hm)
        rw [show (ctxTable s.ctxs (ctxWords n words)).getD m {} = s.ctx m from ctxTable_other he words]
        simp only [Bool.and_eq_true, decide_eq_true_eq]
        rintro ⟨⟨⟨-, h1⟩, h2⟩, h3⟩
        omega
    rw [hany, decide_eq_false (by omega), decide_eq_false (by omega)]; rfl

end

theorem Ctx.written_eq (c d : Ctx) : c.written d = { c with
    w0 := d.w0, base := d.base, stride := d.stride, any := c.any && fld d.w0 15 8 == fld c.w0 15 8
    hasNewest := c.hasNewest && fld d.w0 3 1 == fld c.w0 3 1 && d.base == c.base && d.stride == c.stride
    bufs := (c.written d).bufs } := by
  unfold Ctx.written; dsimp only
  cases h : fld d.w0 3 1 == fld c.w0 3 1 && d.base == c.base && d.stride == c.stride
  · simp only [Bool.and_assoc] at h
    simp [Bool.and_assoc, h]
  · simp only [Bool.and_assoc] at h
    simp [Bool.and_assoc, h]

/-- The frame in progress and the drops do not matter. -/
theorem Ctx.written_land (c d : Ctx) (l : Option Land) (x : Nat) :
    { c with land := l, drops := x }.written d = { c.written d with land := l, drops := x } := by
  unfold Ctx.written; dsimp only; split <;> rfl

/-! ### STREAM_CONTEXT_WRITE (R311) -/

section
variable {s : State} {src : Source} {n : Fin 256} {words : List (Fin 4 × Word)}
variable (hcalm : s.Calm) (hc : s.canAccess src = true) (hl : s.accessLegal src true (0x40000 + 64 * n.val) = true) (hs : src ≠ .tumbler)
variable (hw : words ≠ [])

include hc hl hs hw in
theorem exec_streamContextWrite : exec (.streamContextWrite src n words) s =
    done ((s.writeCtx (ctxWords n words)).2.answer src (0x40000 + 64 * n.val) 0 (s.writeCtx (ctxWords n words)).1) := by
  change execStreamContextWrite src n words s = _
  simp [execStreamContextWrite, hc, hl, hs, hw, ctxWords]

/-- The answer of a write to context `n`. -/
def ctxAnswer (src : Source) (n : Fin 256) (status : Byte) : Access :=
  { source := src, addr := 0x40000 + 64 * n.val, data := 0, status := status }

variable (hlen : s.ctxs.length = 256)
include hcalm hc hl hs hw hlen

theorem streamContextWrite_busy (h : s.ctxBusy n (s.ctx n) ((s.ctx n).setWords words) = true) :
    Completes (.streamContextWrite src n words) s fun u =>
      u.acc = some (ctxAnswer src n stBusy) ∧ u = { s with acc := u.acc, flt := u.flt } ∧ NoNewFault s u := by
  have hx := exec_streamContextWrite hc hl hs hw
  rw [State.writeCtx_busy n.isLt hlen hw h] at hx
  exact completes_calm hx hcalm fun u he hn => ⟨by rw [he]; rfl, by rw [he]; rfl, hn⟩

theorem streamContextWrite_took (hb : s.ctxBusy n (s.ctx n) ((s.ctx n).setWords words) = false)
    (hbl : ((s.ctx n).setWords words).badLen (words.any fun p => decide (p.1.val = 2)) = false)
    (ha : s.ctxBadAddr (ctxTable s.ctxs (ctxWords n words)) n = false) :
    Completes (.streamContextWrite src n words) s fun u =>
      u.ctx n = { (s.ctx n).written ((s.ctx n).setWords words) with land := none, drops := (u.ctx n).drops } ∧
        (∀ m, m ≠ n.val → u.ctx m = s.ctx m) ∧ u.acc = some (ctxAnswer src n stOk) ∧
        u = { s with ctxs := u.ctxs, comp := u.comp, acc := u.acc, flt := u.flt } ∧ NoNewFault s u := by
  have hx := exec_streamContextWrite hc hl hs hw
  rw [State.writeCtx_took n.isLt hlen hw hb hbl ha] at hx
  have hn : n.val < s.ctxs.length := by rw [hlen]; exact n.isLt
  have hsame := State.onCtx_ctx_same (f := fun c => c.written ((s.ctx n).setWords words))
    (show n.val < (s.abandonFrame n).ctxs.length by rwa [State.abandonFrame_length])
  have hother := fun m (hm : m ≠ n.val) => (State.onCtx_ctx_other (s := s.abandonFrame n)
    (f := fun c => c.written ((s.ctx n).setWords words)) hm).trans (State.abandonFrame_ctx_other hm)
  rw [State.abandonFrame_ctx_same hn] at hsame
  have hframe := s.abandonFrame_eq (n := n)
  generalize hv : (s.abandonFrame n).onCtx n (fun c => c.written ((s.ctx n).setWords words)) = v at hx hsame hother
  have hve : v = { s with ctxs := v.ctxs, comp := v.comp } := by rw [← hv, hframe]; rfl
  refine completes_calm hx (by rw [hve]; exact hcalm) fun u he hn => ?_
  have hctx : ∀ m, u.ctx m = v.ctx m := fun m => by rw [he]; rfl
  refine ⟨?_, fun m hm => (hctx m).trans (hother m hm), by rw [he]; rfl, by rw [he, hve]; rfl, by rw [hve] at hn; exact hn⟩
  rw [hctx, hsame, Ctx.written_land]

end

end Sys2Proof.Machine
end

section
/-!
PROOFS. O18 (R45, R46, R310, R311, R312, R355, R357, R358, R359, R462), third part: STREAM_CONTEXT_WRITE.
-/

-- One declaration after another: the whole text compiles close to the memory it may have.
set_option Elab.async false

namespace Sys2Proof.Machine

/-! ### Word 0 of a context -/

/-- The writable bits of word 0 keep NBUF (R310). -/
theorem nbuf_masked (w : Word) : fld (w &&& 0x0FFFFF1F) 3 1 = w.toNat / 2 % 8 := by
  rw [fld, BitVec.toNat_and, Nat.shiftRight_and_distrib, Nat.and_mod_two_pow, Nat.shiftRight_eq_div_pow]
  exact (Nat.and_two_pow_sub_one_eq_mod _ 3).trans (Nat.mod_mod _ _)

theorem bit0_masked (w : Word) : (w &&& 0x0FFFFF1F).getLsbD 0 = w.getLsbD 0 := by simp

theorem bit4_masked (w : Word) : (w &&& 0x0FFFFF1F).getLsbD 4 = w.getLsbD 4 := by simp

theorem Ctx.range_disabled {c : Ctx} (h : c.enable = false) : c.range.2 ≤ c.range.1 := by simp [Ctx.range, h]

theorem State.ctxBusy_unused {s : State} {n : Nat} (h : s.ctxUsed n = false) (c d : Ctx) : s.ctxBusy n c d = false := by simp [State.ctxBusy, h]

/-- A context that the write set: all but what the frame in progress and its buffers become. -/
theorem Ctx.written_self {x c d : Ctx} (h : x = { c.written d with land := none, drops := x.drops }) :
    x = { c with w0 := d.w0, base := d.base, stride := d.stride, land := none, drops := x.drops, any := x.any, hasNewest := x.hasNewest
                 bufs := x.bufs } := by
  rw [Ctx.written_eq] at h
  rw [h]

/-! ### The clauses -/

/-- A context that stays disabled. -/
theorem streamContextWrite_disabled (s : State) (w : Word) (src : Source) (n : Fin 256) (h : s.Calm) (hc : s.canAccess src = true)
    (hl : s.accessLegal src true (0x40000 + 64 * n.val) = true) (hs : src ≠ .tumbler) (hlen : s.ctxs.length = 256) (hu : s.ctxUsed n = false)
    (he : w.getLsbD 0 = false) (h2 : 2 ≤ w.toNat / 2 % 8) (h4 : w.toNat / 2 % 8 ≤ 4) (hb : (s.ctx n).base.toNat % 4096 = 0) :
    Completes (.streamContextWrite src n [(0, w)]) s fun u =>
      (u.ctx n = { s.ctx n with w0 := w &&& 0x0FFFFF1F, land := none, drops := (u.ctx n).drops, any := (u.ctx n).any, hasNewest := (u.ctx n).hasNewest, bufs := (u.ctx n).bufs } ∧
        (∀ m, m ≠ n.val → u.ctx m = s.ctx m)) ∧ u.acc = some { source := src, addr := 0x40000 + 64 * n.val, data := 0, status := 0 } ∧
        u = { s with ctxs := u.ctxs, comp := u.comp, acc := u.acc, flt := u.flt } ∧ NoNewFault s u := by
  have hoff : ((s.ctx n).setWords [(0, w)]).enable = false := (bit0_masked w).trans he
  have hlenOk : ((s.ctx n).setWords [(0, w)]).badLen false = false := by
    have hnb : ((s.ctx n).setWords [(0, w)]).nbuf = w.toNat / 2 % 8 := nbuf_masked w
    have hba : ((s.ctx n).setWords [(0, w)]).base = (s.ctx n).base := rfl
    simp [Ctx.badLen, hoff, hnb, hba, hb]; omega
  have hfree := State.ctxBadAddr_free (words := [(0, w)]) n.isLt hlen rfl (fun hx => by simp [hoff] at hx)
    (List.all_eq_true.mpr fun m _ => decide_eq_true (.inr (.inl (Ctx.range_disabled hoff))))
  obtain ⟨u, hx, hn, ho, hacc, hframe, hf⟩ := streamContextWrite_took h hc hl hs (List.cons_ne_nil _ _) hlen (State.ctxBusy_unused hu _ _) hlenOk hfree
  exact ⟨u, hx, ⟨Ctx.written_self hn, ho⟩, hacc, hframe, hf⟩

/-- Three words enable a context where no other is enabled. -/
theorem streamContextWrite_enabled (s : State) (w : Word) (b : Word) (st : Word) (src : Source) (n : Fin 256) (h : s.Calm)
    (hc : s.canAccess src = true) (hl : s.accessLegal src true (0x40000 + 64 * n.val) = true) (hs : src ≠ .tumbler)
    (hlen : s.ctxs.length = 256) (hu : s.ctxUsed n = false) (hall : s.ctxs.all (fun c => !c.w0.getLsbD 0) = true) (he : w.getLsbD 0 = true)
    (hi : w.getLsbD 4 = false) (h2 : 2 ≤ w.toNat / 2 % 8) (h4 : w.toNat / 2 % 8 ≤ 4) (hb : b.toNat % 4096 = 0) (hst : strideOk st = true)
    (hlo : 0x83000000 ≤ b.toNat) (hhi : b.toNat + w.toNat / 2 % 8 * st.toNat ≤ s.dramEnd) :
    Completes (.streamContextWrite src n [(0, w), (1, b), (2, st)]) s fun u =>
      (u.ctx n = { s.ctx n with w0 := w &&& 0x0FFFFF1F, base := b, stride := st, land := none, drops := (u.ctx n).drops, any := (u.ctx n).any, hasNewest := (u.ctx n).hasNewest, bufs := (u.ctx n).bufs } ∧
        (∀ m, m ≠ n.val → u.ctx m = s.ctx m)) ∧ u.acc = some { source := src, addr := 0x40000 + 64 * n.val, data := 0, status := 0 } ∧
        u = { s with ctxs := u.ctxs, comp := u.comp, acc := u.acc, flt := u.flt } ∧ NoNewFault s u := by
  have hd : (s.ctx n).setWords [(0, w), (1, b), (2, st)] = { s.ctx n with w0 := w &&& 0x0FFFFF1F, base := b, stride := st } := rfl
  have hnb : ((s.ctx n).setWords [(0, w), (1, b), (2, st)]).nbuf = w.toNat / 2 % 8 := nbuf_masked w
  have hon : (((s.ctx n).setWords [(0, w), (1, b), (2, st)]).enable && !((s.ctx n).setWords [(0, w), (1, b), (2, st)]).idle) = true := by
    rw [show ((s.ctx n).setWords [(0, w), (1, b), (2, st)]).enable = true from (bit0_masked w).trans he,
      show ((s.ctx n).setWords [(0, w), (1, b), (2, st)]).idle = false from (bit4_masked w).trans hi]; rfl
  have hr : ((s.ctx n).setWords [(0, w), (1, b), (2, st)]).range = (b.toNat, b.toNat + w.toNat / 2 % 8 * st.toNat) := by
    rw [Ctx.range, if_pos hon, hnb, hd]
  have hlenOk : ((s.ctx n).setWords [(0, w), (1, b), (2, st)]).badLen true = false := by
    simp only [Ctx.badLen, hon, hnb]
    simp [hd, hb, hst]; omega
  have hfree := State.ctxBadAddr_free (words := [(0, w), (1, b), (2, st)]) n.isLt hlen rfl (fun _ => by rw [hr]; exact ⟨hlo, hhi⟩)
    (List.all_eq_true.mpr fun m hm => decide_eq_true (.inr (.inr (.inl (Ctx.range_disabled ?_)))))
  · obtain ⟨u, hx, hn, ho, hacc, hframe, hf⟩ := streamContextWrite_took h hc hl hs (List.cons_ne_nil _ _) hlen (State.ctxBusy_unused hu _ _) hlenOk hfree
    exact ⟨u, hx, ⟨Ctx.written_self hn, ho⟩, hacc, hframe, hf⟩
  · have hm : m < s.ctxs.length := by rw [hlen]; exact List.mem_range.mp hm
    have := List.all_eq_true.mp hall _ (List.getElem_mem hm)
    simpa [Ctx.enable, State.ctx, hm] using this

/-- Words that no row of R311 refuses. -/
theorem streamContextWrite_written (s : State) (d : Ctx) (src : Source) (n : Fin 256) (words : List (Fin 4 × Word)) (h : s.Calm)
    (hc : s.canAccess src = true) (hl : s.accessLegal src true (0x40000 + 64 * n.val) = true) (hs : src ≠ .tumbler)
    (hlen : s.ctxs.length = 256) (hw : words ≠ []) (hd : d = words.foldl (fun c p => c.setWord p.1.val p.2) (s.ctx n))
    (hb : s.ctxBusy n (s.ctx n) d = false) (hbl : d.badLen (words.any fun p => decide (p.1.val = 2)) = false)
    (hr : (d.enable && !d.idle) = true → 0x83000000 ≤ d.range.1 ∧ d.range.2 ≤ s.dramEnd)
    (ha : ((List.range 256).all (fun m => decide (m = n.val ∨ d.range.2 ≤ d.range.1 ∨ (s.ctx m).range.2 ≤ (s.ctx m).range.1 ∨
      d.range.2 ≤ (s.ctx m).range.1 ∨ (s.ctx m).range.2 ≤ d.range.1)) = true)) :
    Completes (.streamContextWrite src n words) s fun u =>
      ((u.ctx n).w0 = d.w0 ∧ (u.ctx n).base = d.base ∧ (u.ctx n).stride = d.stride ∧ (u.ctx n).land = none ∧ (∀ m, m ≠ n.val →
        u.ctx m = s.ctx m)) ∧ (u.ctx n).any = ((s.ctx n).any && fld d.w0 15 8 == fld (s.ctx n).w0 15 8) ∧
        (u.ctx n).hasNewest = ((s.ctx n).hasNewest && fld d.w0 3 1 == fld (s.ctx n).w0 3 1 && d.base == (s.ctx n).base && d.stride == (s.ctx n).stride) ∧
        u.acc = some { source := src, addr := 0x40000 + 64 * n.val, data := 0, status := 0 } ∧
        u = { s with ctxs := u.ctxs, comp := u.comp, acc := u.acc, flt := u.flt } ∧ NoNewFault s u := by
  have hfree := State.ctxBadAddr_free n.isLt hlen hd hr ha
  obtain ⟨u, hx, hn, ho, hacc, hframe, hf⟩ := streamContextWrite_took (words := words) h hc hl hs hw hlen (by rwa [hd] at hb) (by rwa [hd] at hbl) hfree
  rw [show (s.ctx n).setWords words = d from hd.symm, Ctx.written_eq] at hn
  refine ⟨u, hx, ⟨?_, ?_, ?_, ?_, ho⟩, ?_, ?_, hacc, hframe, hf⟩
  all_goals rw [hn]

/-- Disabling a context that a layer uses (R311). -/
theorem streamContextWrite_used (s : State) (w : Word) (src : Source) (n : Fin 256) (h : s.Calm) (hc : s.canAccess src = true)
    (hl : s.accessLegal src true (0x40000 + 64 * n.val) = true) (hs : src ≠ .tumbler) (hlen : s.ctxs.length = 256) (hu : s.ctxUsed n = true)
    (he : (s.ctx n).w0.getLsbD 0 = true) (hw : w.getLsbD 0 = false) :
    Completes (.streamContextWrite src n [(0, w)]) s fun u =>
      u.acc = some { source := src, addr := 0x40000 + 64 * n.val, data := 0, status := 0x06 } ∧
        u = { s with acc := u.acc, flt := u.flt } ∧ NoNewFault s u := by
  refine streamContextWrite_busy h hc hl hs (List.cons_ne_nil _ _) hlen ?_
  have hoff : ((s.ctx n).setWords [(0, w)]).enable = false := (bit0_masked w).trans hw
  have hon : (s.ctx n).enable = true := he
  simp [State.ctxBusy, hu, hoff, hon]

end Sys2Proof.Machine
end

section
/-!
PROOFS. O18 (R45, R46, R310, R311, R312, R355, R357, R358, R359, R462), fourth part: the payload of a STREAM frame in DRAM.
-/

-- One declaration after another: the whole text compiles close to the memory it may have.
set_option Elab.async false

namespace Sys2Proof.Machine

/-! ### Bytes stored in DRAM -/

theorem State.dramBytes_dramStore (s : State) (a : Nat) (l : List Byte) : (s.dramStore a l).dramBytes a l.length = l := by
  refine List.ext_getElem (by simp [State.dramBytes]) fun i h _ => ?_
  have hi : i < l.length := by simpa [State.dramBytes] using h
  simp only [State.dramBytes, List.getElem_map, List.getElem_range, State.dramByte, State.dramStore]
  rw [sget_storeBytes_same _ _ _ _ _ hi, List.getD_eq_getElem _ _ hi]

/-! ### The replay check (R359) -/

/-- What the replay check and the counters of a context hold. -/
def Ctx.tally (c : Ctx) := (c.window, c.lastSeq, c.any, c.authFails, c.replays, c.drops)

/-- A payload that is no replay advances the window and the key generation alone. -/
theorem Ctx.checkReplay_eq {c d : Ctx} {k : KeySlot} {seq : BitVec 32} (h : c.checkReplay k seq = some d) :
    d = { c with any := true, lastSeq := d.lastSeq, window := d.window, keyGen := d.keyGen } := by
  have hself : c.any = true → c = { c with any := true } := fun ha => by rw [← ha]
  unfold Ctx.checkReplay at h; dsimp only at h
  split at h
  · cases h; rfl
  · next ha =>
    have ha : c.any = true := by simpa using ha
    split at h
    · cases h; simp [← ha]
    · split at h
      · cases h; simp [← ha]
      · cases h

/-! ### What a frame that has landed whole leaves -/

/-- From `s` to `t` the tally of context `n`, the other contexts and DRAM are as they were, and only faults that spare them wait. -/
structure State.Rests (s : State) (n : Nat) (t : State) : Prop where
  tally : (t.ctx n).tally = (s.ctx n).tally
  others : ∀ m, m ≠ n → t.ctx m = s.ctx m
  keeps : s.Keeps t
  reset : t.eng.resetDue = none

section
variable {s t : State} {n : Nat}

theorem State.Keeps.rfl_of (h : ∀ m ∈ s.flt.newFaults, sparing m.src = true) : s.Keeps s := by
  simp only [State.Keeps, State.received, List.all_eq_true.mpr h]

theorem State.Keeps.dram {v : State} (h : v.Keeps s) : s.dram = v.dram := congrArg (·.1) h

theorem State.ctx_of_outside {u : State} (h : u.outside = t.outside) (m : Nat) : u.ctx m = t.ctx m := by
  have hc : u.ctxs = t.ctxs := congrArg (·.2.2.2.1) h
  rw [State.ctx, State.ctx, hc]

/-- Faults recorded change none of it. -/
theorem State.Rests.settle (h : s.Rests n t) : s.Rests n t.settle where
  tally := by rw [State.ctx_of_outside (t.settle_outside h.reset)]; exact h.tally
  others m hm := by rw [State.ctx_of_outside (t.settle_outside h.reset)]; exact h.others m hm
  keeps := h.keeps.settle h.reset
  reset := (State.resetDue_of_outside (t.settle_outside h.reset)).trans h.reset

/-- Nor an event. -/
theorem State.Rests.fire (h : s.Rests n t) (e : Nat) : s.Rests n (t.fire e) where
  tally := by rw [State.ctx_of_outside (t.fire_outside e)]; exact h.tally
  others m hm := by rw [State.ctx_of_outside (t.fire_outside e)]; exact h.others m hm
  keeps := h.keeps.congr (t.fire_received e)
  reset := (State.resetDue_of_outside (t.fire_outside e)).trans h.reset

variable (hf : s.FaultsHandled) (hr : s.eng.resetDue = none) (hn : n < s.ctxs.length)
include hf hr hn

theorem State.rests_onCtx {g : Ctx → Ctx} (hg : ∀ c, (g c).tally = c.tally) : s.Rests n (s.onCtx n g) where
  tally := by rw [State.onCtx_ctx_same hn]; exact hg _
  others m hm := State.onCtx_ctx_other hm
  keeps := State.Keeps.congr (.rfl_of fun m hm => by rw [hf] at hm; cases hm) rfl
  reset := hr

theorem State.rests_frameComplete (l : Land) : s.Rests n (s.frameComplete n l) := by
  unfold State.frameComplete; dsimp only
  split
  · exact State.rests_onCtx hf hr hn fun c => rfl
  · split
    · refine State.Rests.fire (State.rests_onCtx hf hr hn ?_) 10
      exact fun c => rfl
    · exact State.rests_onCtx hf hr hn fun c => rfl

end

/-! ### A payload lands (R45 to R48) -/

/-- A frame in progress with one more payload. -/
def Land.add (l : Land) (off len : Nat) (last : Bool) : Land :=
  { l with ranges := (off, off + len) :: l.ranges, last := if last then some (off + len) else l.last }

/-- Where in DRAM a payload of buffer `b` lands. -/
def Ctx.at_ (c : Ctx) (b off : Nat) : Nat := c.base.toNat - 0x80000000 + b * c.stride.toNat + off

theorem Ctx.checkReplay_at {c d : Ctx} {k : KeySlot} {seq : BitVec 32} (h : c.checkReplay k seq = some d) (b off : Nat) :
    d.at_ b off = c.at_ b off := by rw [Ctx.checkReplay_eq h]; rfl

/-- The payload in DRAM, and the frame in progress with it. -/
def State.stored (s : State) (n : Nat) (l : Land) (off : Nat) (last : Bool) (data : List Byte) : State :=
  (s.dramStore ((s.ctx n).at_ l.buf off) data).onCtx n fun c => { c with land := some (l.add off data.length last) }

section
variable {s : State} {n : Nat} {l : Land} {off : Nat} {last : Bool} {data : List Byte}

theorem State.land_progress (hl : (s.ctx n).land = some l) (hd : l.dropped = false) : s.land n l.frame off last data =
    if (l.add off data.length last).complete then (s.stored n l off last data).frameComplete n (l.add off data.length last)
    else s.stored n l off last data := by
  simp only [State.land, hl, if_true]
  rw [if_neg (by rw [hd]; decide)]; rfl

variable (hf : s.FaultsHandled) (hr : s.eng.resetDue = none) (hn : n < s.ctxs.length)
include hf hr hn

/-- A payload of the frame in progress: its bytes stand in the buffer, and the tally and the other contexts stay. -/
theorem State.land_settle (hl : (s.ctx n).land = some l) (hd : l.dropped = false) :
    ((s.land n l.frame off last data).settle.ctx n).tally = (s.ctx n).tally ∧
      (∀ m, m ≠ n → (s.land n l.frame off last data).settle.ctx m = s.ctx m) ∧
      (s.land n l.frame off last data).settle.dramBytes ((s.ctx n).at_ l.buf off) data.length = data := by
  have hs : n < (s.dramStore ((s.ctx n).at_ l.buf off) data).ctxs.length := hn
  have hrest : (s.stored n l off last data).Rests n (s.land n l.frame off last data) := by
    have hn' : n < (s.stored n l off last data).ctxs.length := by simpa [State.stored] using hn
    rw [State.land_progress hl hd]; split
    · exact State.rests_frameComplete (s := s.stored n l off last data) hf hr hn' _
    · exact ⟨rfl, fun _ _ => rfl, .rfl_of fun m hm => (by rw [show (s.stored n l off last data).flt.newFaults = [] from hf] at hm; cases hm), hr⟩
  obtain ⟨htally, hothers, hkeeps, -⟩ := hrest.settle
  refine ⟨htally.trans ?_, fun m hm => (hothers m hm).trans (State.onCtx_ctx_other hm), ?_⟩
  · rw [State.stored, State.onCtx_ctx_same hs]; rfl
  · have hb : ∀ u : State, u.dram = (s.stored n l off last data).dram →
        u.dramBytes ((s.ctx n).at_ l.buf off) data.length = (s.dramStore ((s.ctx n).at_ l.buf off) data).dramBytes ((s.ctx n).at_ l.buf off) data.length :=
      fun u hu => by simp only [State.dramBytes, State.dramByte, hu]; rfl
    rw [hb _ hkeeps.dram, State.dramBytes_dramStore]

/-- The first payload of a frame, in the buffer that is chosen (R46). -/
theorem State.land_start_settle {b : Nat} {frame : BitVec 32} (hl : (s.ctx n).land = none) (hb : s.chooseBuf n = some b) :
    ((s.land n frame off last data).settle.ctx n).tally = (s.ctx n).tally ∧
      (∀ m, m ≠ n → (s.land n frame off last data).settle.ctx m = s.ctx m) ∧
      (s.land n frame off last data).settle.dramBytes ((s.ctx n).at_ b off) data.length = data := by
  have hstart : s.startFrame n frame = s.onCtx n fun c =>
      { c with land := some { frame := frame, buf := b, ranges := [], last := none, dropped := false }
               bufs := upd c.bufs b fun x => { x with frame := frame, complete := false } } := by
    rw [State.startFrame, hb]
  have hctx := State.onCtx_ctx_same (f := fun c =>
      { c with land := some { frame := frame, buf := b, ranges := [], last := none, dropped := false }
               bufs := upd c.bufs b fun x => { x with frame := frame, complete := false } }) hn
  rw [← hstart] at hctx
  have hland : s.land n frame off last data = (s.startFrame n frame).land n frame off last data := by
    simp only [State.land, hl, hctx, if_true]
  have hlen : n < (s.startFrame n frame).ctxs.length := by rw [hstart]; simpa using hn
  have hf' : (s.startFrame n frame).FaultsHandled := by rw [hstart]; exact hf
  have hr' : (s.startFrame n frame).eng.resetDue = none := by rw [hstart]; exact hr
  obtain ⟨h1, h2, h3⟩ := State.land_settle (off := off) (last := last) (data := data) hf' hr' hlen (by rw [hctx]) rfl
  rw [hland]
  refine ⟨h1.trans (by rw [hctx]; rfl), fun m hm => (h2 m hm).trans (by rw [hstart]; exact State.onCtx_ctx_other hm), ?_⟩
  rw [hctx] at h3
  exact h3

end

end Sys2Proof.Machine
end

section
/-!
PROOFS. O18 (R45, R46, R310, R311, R312, R355, R357, R358, R359, R462), fifth part: STREAM frames.
-/

-- One declaration after another: the whole text compiles close to the memory it may have.
set_option Elab.async false

namespace Sys2Proof.Machine

/-- A counter of 16 bits that takes one more. -/
theorem inc_sixteen (n : Nat) : inc 16 n = min 65535 (n + 1) := Nat.min_comm _ _

/-! ### The condition of a refused tag -/

theorem State.hasCond_tagConds (s : State) {n : Nat} (h : noTag n = false) (d : Nat) :
    s.hasCond n d = (tagConds s.flt.conds).any fun c => c.src == n && c.detail == d && !c.injected := by
  rw [State.hasCond, tagConds, List.any_filter]
  refine congrArg s.flt.conds.any (funext fun c => ?_)
  cases hc : c.src == n
  · simp
  · rw [beq_iff_eq.mp hc, h]; simp

theorem State.hasCond_raise (s : State) (n d : Nat) : (s.raise n d).hasCond n d = true := by
  by_cases h : (s.hasCond n d && isLevel n) = true
  · rw [State.raise, if_pos h]; exact (Bool.and_eq_true_iff.mp h).1
  · rw [s.raise_new h]; simp [State.hasCond, State.onFlt]

/-- The tag was refused, and the fault collector keeps that condition. -/
theorem State.hasCond_settle_raise {s : State} (hf : s.FaultsHandled) (hr : s.eng.resetDue = none) {n d : Nat} (hn : noTag n = false)
    (hs : sparing n = true) : (s.raise n d).Keeps (s.raise n d).settle ∧ (s.raise n d).settle.hasCond n d = true := by
  have hk : (s.raise n d).Keeps (s.raise n d).settle := by
    refine State.Keeps.settle (.rfl_of fun m hm => ?_) ((State.resetDue_of_outside (s.raise_outside n d)).trans hr)
    by_cases h : (s.hasCond n d && isLevel n) = true
    · rw [State.raise, if_pos h, hf] at hm; cases hm
    · rw [s.raise_new h] at hm
      simp only [State.onFlt, show s.flt.newFaults = [] from hf, List.nil_append, List.mem_singleton] at hm
      rw [hm]; exact hs
  have hc : tagConds (s.raise n d).settle.flt.conds = tagConds (s.raise n d).flt.conds := congrArg (·.2.2.2.2.1) hk
  refine ⟨hk, ?_⟩
  rw [State.hasCond_tagConds _ hn, hc, ← State.hasCond_tagConds _ hn, State.hasCond_raise]

theorem State.raise_settle_outside (s : State) (hr : s.eng.resetDue = none) (n d : Nat) : (s.raise n d).settle.outside = s.outside :=
  (State.settle_outside _ ((State.resetDue_of_outside (s.raise_outside n d)).trans hr)).trans (s.raise_outside n d)

/-! ### A frame that reaches its tag check -/

/-- A STREAM frame for an enabled context that takes its source, delivered with its key slot while Ward is not fenced (R312, R357). -/
structure StreamDelivered (s : State) (p : Port) (f : Frame) (k : KeySlot) : Prop where
  calm : s.Calm
  gets : s.gets p f = true
  type : hType f.hdr = 1
  length : s.ctxs.length = 256
  enabled : (s.ctx (hCtx f.hdr)).w0.getLsbD 0 = true
  notIdle : (s.ctx (hCtx f.hdr)).w0.getLsbD 4 = false
  source : fld (s.ctx (hCtx f.hdr)).w0 27 16 = 0 ∨ fld (s.ctx (hCtx f.hdr)).w0 27 16 = hSrc f.hdr
  unfenced : s.unitFenced 3 = false
  delivered : (s.link p).delivered = some (f, some k)

/-- What such a frame comes to, by its tag and the replay check (R312). -/
def State.streamed (s : State) (p : Port) (f : Frame) (k : KeySlot) : Host.Outcome State Fault Refusal :=
  match streamOpen k f with
  | none => done ((s.onCtx (hCtx f.hdr) fun c => { c with authFails := inc 16 c.authFails }).raise 0x27 (portNo p))
  | some data =>
    match (s.ctx (hCtx f.hdr)).checkReplay k (BitVec.ofNat 32 (hSeq f.hdr)) with
    | none => done ((s.onCtx (hCtx f.hdr) fun c => { c with replays := inc 16 c.replays }).onWard fun w => { w with replays := inc 16 w.replays })
    | some c1 =>
      if (s.ctx (hCtx f.hdr)).stride.toNat < leAt f.payload 4 4 + data.length ∨ data.length = 0 then
        done ((s.onCtx (hCtx f.hdr) fun _ => c1).onCtx (hCtx f.hdr) fun c => { c with drops := inc 16 c.drops })
      else done ((s.onCtx (hCtx f.hdr) fun _ => c1).land (hCtx f.hdr) (BitVec.ofNat 32 (leAt f.payload 0 4)) (leAt f.payload 4 4)
        (f.payload.getD 8 0 |>.getLsbD 0) data)

theorem hCtx_lt (h : BitVec 128) : hCtx h < 256 := by
  unfold hCtx bits128; exact Nat.mod_lt _ (by decide)

section
variable {s : State} {p : Port} {f : Frame} {k : KeySlot} {data : List Byte} {c : Ctx} (h : StreamDelivered s p f k)
include h

theorem StreamDelivered.lt : hCtx f.hdr < s.ctxs.length := by rw [h.length]; exact hCtx_lt _

theorem StreamDelivered.exec_eq : exec (.stream p f) s = s.streamed p f k := by
  obtain ⟨-, hg, ht, -, he, hi, hsrc, hu, hd⟩ := h
  have hsrc' : ¬ (fld (s.ctx (hCtx f.hdr)).w0 27 16 ≠ 0 ∧ fld (s.ctx (hCtx f.hdr)).w0 27 16 ≠ hSrc f.hdr) := by tauto
  have hrow : (!s.gets p f || decide (hType f.hdr ≠ 1)) = false := by simp [hg, ht]
  have hon : (!(s.ctx (hCtx f.hdr)).w0.getLsbD 0 || (s.ctx (hCtx f.hdr)).w0.getLsbD 4) = false := by rw [he, hi]; rfl
  change execStream p f s = _
  unfold execStream
  simp only [hrow, hon, hu, hd, if_neg hsrc', if_true]
  rfl

theorem stream_tagFails (ho : streamOpen k f = none) : Completes (.stream p f) s fun u =>
    (u.ctx (hCtx f.hdr)) = { (s.ctx (hCtx f.hdr)) with authFails := min 65535 ((s.ctx (hCtx f.hdr)).authFails + 1) } ∧
      u.hasCond 0x27 (portNo p) = true ∧ u.dram = s.dram ∧ (∀ m, m ≠ hCtx f.hdr → u.ctx m = s.ctx m) := by
  have hx := h.exec_eq
  obtain ⟨hf, hr, -⟩ := h.calm
  have hsame := State.onCtx_ctx_same (f := fun c => { c with authFails := inc 16 c.authFails }) h.lt
  have hother := fun m (hm : m ≠ hCtx f.hdr) => State.onCtx_ctx_other (s := s) (f := fun c => { c with authFails := inc 16 c.authFails }) hm
  have hdram := s.onCtx_dram (hCtx f.hdr) fun c => { c with authFails := inc 16 c.authFails }
  have hf' : (s.onCtx (hCtx f.hdr) fun c => { c with authFails := inc 16 c.authFails }).FaultsHandled := hf
  have hr' : (s.onCtx (hCtx f.hdr) fun c => { c with authFails := inc 16 c.authFails }).eng.resetDue = none := hr
  rw [State.streamed, ho] at hx; dsimp only at hx
  generalize (s.onCtx (hCtx f.hdr) fun c => { c with authFails := inc 16 c.authFails }) = t at hx hsame hother hdram hf' hr'
  obtain ⟨hk, hc⟩ := State.hasCond_settle_raise hf' hr' (n := 0x27) (d := portNo p) rfl (by decide)
  have hctx := State.ctx_of_outside (t.raise_settle_outside hr' 0x27 (portNo p))
  refine ⟨_, hx, ?_, hc, hk.dram.trans ((t.raise_dram _ _).trans hdram), fun m hm => (hctx m).trans (hother m hm)⟩
  rw [hctx, hsame, inc_sixteen]

theorem stream_replayed (ho : streamOpen k f = some data) (hr : (s.ctx (hCtx f.hdr)).checkReplay k (BitVec.ofNat 32 (hSeq f.hdr)) = none) :
    Completes (.stream p f) s fun u =>
      (u.ctx (hCtx f.hdr)) = { (s.ctx (hCtx f.hdr)) with replays := min 65535 ((s.ctx (hCtx f.hdr)).replays + 1) } ∧
        u.ward = { s.ward with replays := min 65535 (s.ward.replays + 1) } ∧ (∀ m, m ≠ hCtx f.hdr → u.ctx m = s.ctx m) ∧
        u = { s with ctxs := u.ctxs, ward := u.ward, flt := u.flt } ∧ NoNewFault s u := by
  have hx := h.exec_eq
  rw [State.streamed, ho] at hx; dsimp only at hx; rw [hr] at hx
  refine completes_calm hx h.calm fun u he hn => ?_
  have hctx : ∀ m, u.ctx m = (s.onCtx (hCtx f.hdr) fun c => { c with replays := inc 16 c.replays }).ctx m := fun m => by rw [he]; rfl
  refine ⟨?_, by rw [he, ← inc_sixteen]; rfl, fun m hm => (hctx m).trans (State.onCtx_ctx_other hm), by rw [he]; rfl, hn⟩
  rw [hctx, State.onCtx_ctx_same h.lt, inc_sixteen]

variable (ho : streamOpen k f = some data) (hc : (s.ctx (hCtx f.hdr)).checkReplay k (BitVec.ofNat 32 (hSeq f.hdr)) = some c)
include ho hc

theorem stream_dropped (hd : data = [] ∨ (s.ctx (hCtx f.hdr)).stride.toNat < leAt f.payload 4 4 + data.length) :
    Completes (.stream p f) s fun u =>
      (u.ctx (hCtx f.hdr)).drops = min 65535 ((s.ctx (hCtx f.hdr)).drops + 1) ∧ (u.ctx (hCtx f.hdr)).window = c.window ∧
        (u.ctx (hCtx f.hdr)).land = (s.ctx (hCtx f.hdr)).land ∧ u.dram = s.dram ∧ (∀ m, m ≠ hCtx f.hdr → u.ctx m = s.ctx m) ∧
        u = { s with ctxs := u.ctxs, flt := u.flt } ∧ NoNewFault s u := by
  have hx := h.exec_eq
  rw [State.streamed, ho] at hx; dsimp only at hx; rw [hc] at hx; dsimp only at hx
  rw [if_pos (by rw [List.length_eq_zero_iff]; exact hd.symm)] at hx
  refine completes_calm hx h.calm fun u he hn => ?_
  have hctx : ∀ m, u.ctx m = ((s.onCtx (hCtx f.hdr) fun _ => c).onCtx (hCtx f.hdr) fun c => { c with drops := inc 16 c.drops }).ctx m :=
    fun m => by rw [he]; rfl
  have hsame : u.ctx (hCtx f.hdr) = { c with drops := inc 16 c.drops } := by
    rw [hctx, State.onCtx_ctx_same (by simpa using h.lt), State.onCtx_ctx_same h.lt]
  have hcc := Ctx.checkReplay_eq hc
  refine ⟨?_, by rw [hsame], ?_, by rw [he]; rfl,
    fun m hm => (hctx m).trans ((State.onCtx_ctx_other hm).trans (State.onCtx_ctx_other hm)), by rw [he]; rfl, hn⟩
  · rw [hsame, ← inc_sixteen, hcc]
  · rw [hsame, hcc]

variable (hd : data ≠ []) (hfit : leAt f.payload 4 4 + data.length ≤ (s.ctx (hCtx f.hdr)).stride.toNat)
include hd hfit

/-- The payload is accepted (R312). -/
theorem StreamDelivered.exec_land : exec (.stream p f) s = done ((s.onCtx (hCtx f.hdr) fun _ => c).land (hCtx f.hdr)
    (BitVec.ofNat 32 (leAt f.payload 0 4)) (leAt f.payload 4 4) (f.payload.getD 8 0 |>.getLsbD 0) data) := by
  have hx := h.exec_eq
  rw [State.streamed, ho] at hx; dsimp only at hx; rw [hc] at hx; dsimp only at hx
  rwa [if_neg (by rw [List.length_eq_zero_iff]; push Not; exact ⟨hfit, hd⟩)] at hx

theorem stream_continues {l : Land} (hl : (s.ctx (hCtx f.hdr)).land = some l) (hfr : l.frame = BitVec.ofNat 32 (leAt f.payload 0 4))
    (hdr : l.dropped = false) : Completes (.stream p f) s fun u =>
      (u.ctx (hCtx f.hdr)).window = c.window ∧ (u.ctx (hCtx f.hdr)).lastSeq = c.lastSeq ∧ (u.ctx (hCtx f.hdr)).any = true ∧
        (u.ctx (hCtx f.hdr)).drops = (s.ctx (hCtx f.hdr)).drops ∧
        u.dramBytes ((s.ctx (hCtx f.hdr)).base.toNat - 0x80000000 + l.buf * (s.ctx (hCtx f.hdr)).stride.toNat + leAt f.payload 4 4) data.length = data ∧
        (∀ m, m ≠ hCtx f.hdr → u.ctx m = s.ctx m) := by
  have hx := h.exec_land ho hc hd hfit
  rw [← hfr] at hx
  obtain ⟨hf, hr, -⟩ := h.calm
  have hcc := Ctx.checkReplay_eq hc
  have hsame := State.onCtx_ctx_same (f := fun _ => c) h.lt
  have hother := fun m (hm : m ≠ hCtx f.hdr) => State.onCtx_ctx_other (s := s) (f := fun _ => c) hm
  obtain ⟨h1, h2, h3⟩ := State.land_settle (s := s.onCtx (hCtx f.hdr) fun _ => c) (n := hCtx f.hdr) (l := l) (off := leAt f.payload 4 4)
    (last := f.payload.getD 8 0 |>.getLsbD 0) (data := data) hf hr (by simpa using h.lt) (by rw [hsame, hcc]; exact hl) hdr
  refine ⟨_, hx, ?_⟩
  rw [hsame] at h1 h3
  obtain ⟨hw, hq, ha, -, -, hdrops⟩ : _ ∧ _ ∧ _ ∧ _ ∧ _ ∧ _ := by simpa only [Ctx.tally, Prod.mk.injEq] using h1
  refine ⟨hw, hq, ha.trans (by rw [hcc]), hdrops.trans (by rw [hcc]), ?_, fun m hm => (h2 m hm).trans (hother m hm)⟩
  rw [Ctx.checkReplay_at hc] at h3
  exact h3

theorem stream_starts {b : Nat} (hl : (s.ctx (hCtx f.hdr)).land = none) (hb : s.chooseBuf (hCtx f.hdr) = some b) :
    Completes (.stream p f) s fun u =>
      (u.ctx (hCtx f.hdr)).window = c.window ∧ (u.ctx (hCtx f.hdr)).lastSeq = c.lastSeq ∧ (u.ctx (hCtx f.hdr)).any = true ∧
        (u.ctx (hCtx f.hdr)).authFails = (s.ctx (hCtx f.hdr)).authFails ∧ (u.ctx (hCtx f.hdr)).replays = (s.ctx (hCtx f.hdr)).replays ∧
        u.dramBytes ((s.ctx (hCtx f.hdr)).base.toNat - 0x80000000 + b * (s.ctx (hCtx f.hdr)).stride.toNat + leAt f.payload 4 4) data.length = data ∧
        (∀ m, m ≠ hCtx f.hdr → u.ctx m = s.ctx m) := by
  have hx := h.exec_land ho hc hd hfit
  obtain ⟨hf, hr, -⟩ := h.calm
  have hcc := Ctx.checkReplay_eq hc
  have hsame := State.onCtx_ctx_same (f := fun _ => c) h.lt
  have hother := fun m (hm : m ≠ hCtx f.hdr) => State.onCtx_ctx_other (s := s) (f := fun _ => c) hm
  have hchoose : (s.onCtx (hCtx f.hdr) fun _ => c).chooseBuf (hCtx f.hdr) = some b := by
    rw [← hb, State.chooseBuf, State.chooseBuf, hsame, hcc]; rfl
  obtain ⟨h1, h2, h3⟩ := State.land_start_settle (s := s.onCtx (hCtx f.hdr) fun _ => c) (n := hCtx f.hdr) (off := leAt f.payload 4 4)
    (last := f.payload.getD 8 0 |>.getLsbD 0) (data := data) (frame := BitVec.ofNat 32 (leAt f.payload 0 4)) hf hr (by simpa using h.lt)
    (by rw [hsame, hcc]; exact hl) hchoose
  refine ⟨_, hx, ?_⟩
  rw [hsame] at h1 h3
  obtain ⟨hw, hq, ha, hau, hre, -⟩ : _ ∧ _ ∧ _ ∧ _ ∧ _ ∧ _ := by simpa only [Ctx.tally, Prod.mk.injEq] using h1
  refine ⟨hw, hq, ha.trans (by rw [hcc]), hau.trans (by rw [hcc]), hre.trans (by rw [hcc]), ?_, fun m hm => (h2 m hm).trans (hother m hm)⟩
  rw [Ctx.checkReplay_at hc] at h3
  exact h3

end

/-- A STREAM frame for a context without ENABLE is counted and discarded (R312). -/
theorem stream_noContext (s : State) (p : Port) (f : Frame) (h : s.Calm) (hg : s.gets p f = true) (ht : hType f.hdr = 1)
    (he : (s.ctx (hCtx f.hdr)).w0.getLsbD 0 = false) : Completes (.stream p f) s fun u =>
      u.wall.noCtx = min 65535 (s.wall.noCtx + 1) ∧ u = { s with wall := u.wall, flt := u.flt } ∧ NoNewFault s u := by
  have hx : exec (.stream p f) s = done (s.onWall fun w => { w with noCtx := inc 16 w.noCtx }) := by
    have hrow : (!s.gets p f || decide (hType f.hdr ≠ 1)) = false := by simp [hg, ht]
    have hoff : (!(s.ctx (hCtx f.hdr)).w0.getLsbD 0 || (s.ctx (hCtx f.hdr)).w0.getLsbD 4) = true := by rw [he]; rfl
    change execStream p f s = _
    unfold execStream
    simp only [hrow, hoff, if_true]; rfl
  exact completes_calm hx h fun u he hn => ⟨by rw [he, ← inc_sixteen]; rfl, by rw [he]; rfl, hn⟩

end Sys2Proof.Machine
end

section
/-!
PROOFS. O18 (R45, R46, R310, R311, R312, R355, R357, R358, R359, R462), sixth part: UPDATE frames and NVM_UPD_DATA.
-/

-- One declaration after another: the whole text compiles close to the memory it may have.
set_option Elab.async false

namespace Sys2Proof.Machine

/-! ### Staging (R462) -/

theorem Nvm.onSlot_slot_same (v : Nvm) (k : Bool) (f : FwSlot → FwSlot) : (v.onSlot k f).slot k = f (v.slot k) := by cases k <;> rfl

theorem Nvm.onSlot_slot_other (v : Nvm) (k : Bool) (f : FwSlot → FwSlot) : (v.onSlot k f).slot (!k) = v.slot (!k) := by cases k <;> rfl

theorem Nvm.onSlot_drops (v : Nvm) (k : Bool) (f : FwSlot → FwSlot) : (v.onSlot k f).drops = v.drops := by cases k <;> rfl

/-- The NVM with body data staged at the next offset. -/
def State.nvmStaged (s : State) (data : List Byte) : Nvm :=
  { s.nvm.onSlot s.nvm.updTarget fun x => { x with body := x.body ++ data } with
    nextSeq := s.nvm.nextSeq + 1
    nextOffset := BitVec.ofNat 32 (s.nvm.nextOffset.toNat + data.length)
    waiting := s.staged + data.length
    progAt := if s.staged = 0 then s.time.local_
      else s.nvm.progAt + (s.time.local_ - s.nvm.progAt) / (400000 * 65536) * (400000 * 65536)
    phase := if s.nvm.nextOffset.toNat + data.length = (s.nvm.slot s.nvm.updTarget).bodyLen then .verifying else s.nvm.phase }

/-- The NVM with one dropped piece of a body counted. -/
def Nvm.dropOne (v : Nvm) : Nvm := { v with drops := inc 16 v.drops }

section
variable {s : State} {data : List Byte}

theorem State.nvmStaged_body : ((s.nvmStaged data).slot s.nvm.updTarget).body = (s.nvm.slot s.nvm.updTarget).body ++ data :=
  congrArg FwSlot.body (s.nvm.onSlot_slot_same s.nvm.updTarget fun x => { x with body := x.body ++ data })

theorem State.nvmStaged_other : (s.nvmStaged data).slot (!s.nvm.updTarget) = s.nvm.slot (!s.nvm.updTarget) :=
  s.nvm.onSlot_slot_other s.nvm.updTarget fun x => { x with body := x.body ++ data }

theorem State.nvmStaged_drops : (s.nvmStaged data).drops = s.nvm.drops :=
  s.nvm.onSlot_drops s.nvm.updTarget fun x => { x with body := x.body ++ data }

theorem State.stage_taken {offset : Nat} (hp : s.nvm.phase = .receiving) (hs : s.staged < 65536) (hw : s.pwr.noNewStore = false)
    (ho : offset = s.nvm.nextOffset.toNat) (hl : s.nvm.nextOffset.toNat + data.length ≤ (s.nvm.slot s.nvm.updTarget).bodyLen) :
    s.stage offset data = (true, s.onNvm fun _ => s.nvmStaged data) := by
  subst ho
  have hoff : ¬ (s.nvm.nextOffset.toNat ≠ s.nvm.nextOffset.toNat ∨
      (s.nvm.slot s.nvm.updTarget).bodyLen < s.nvm.nextOffset.toNat + data.length) := by omega
  have hphase : (s.nvm.phase != .receiving) = false := by rw [hp]; rfl
  simp only [State.stage, hphase, if_neg hoff, if_neg (Nat.not_le.mpr hs), hw]
  rfl

theorem State.stage_dropped {offset : Nat} (h : s.nvm.phase ≠ .receiving ∨ offset ≠ s.nvm.nextOffset.toNat) :
    s.stage offset data = (false, s.onNvm Nvm.dropOne) := by
  by_cases hp : s.nvm.phase = .receiving
  · have hoff : offset ≠ s.nvm.nextOffset.toNat ∨ (s.nvm.slot s.nvm.updTarget).bodyLen < offset + data.length := .inl (h.resolve_left fun hn => hn hp)
    have hphase : (s.nvm.phase != .receiving) = false := by rw [hp]; rfl
    simp only [State.stage, hphase, if_pos hoff]; rfl
  · have hphase : (s.nvm.phase != .receiving) = true := bne_iff_ne.mpr hp
    simp only [State.stage, hphase]; rfl

end

/-! ### UPDATE frames (R355, R462) -/

section
variable {s : State} {p : Port} {f : Frame} (h : s.Calm) (hg : s.gets p f = true) (ht : hType f.hdr = 8)
include h hg ht

theorem update_tagFails (hk : s.cmdTagOk 0x04 f (f.payload.length - 8) = false) : Completes (.update p f) s fun u =>
    u.ward.tagFails = min 65535 (s.ward.tagFails + 1) ∧ u.ward.updLast = s.ward.updLast ∧ u.hasCond 0xB4 0 = true ∧
      u.nvm.nextOffset = s.nvm.nextOffset := by
  have hx : exec (.update p f) s = done (s.tagFailed.raise 0xB4 0) := by
    change execUpdate p f s = _
    simp [execUpdate, hg, ht, hk]
  obtain ⟨hf, hr, -⟩ := h
  have hward : s.tagFailed.ward = { s.ward with tagFails := inc 16 s.ward.tagFails } := rfl
  have hnvm : s.tagFailed.nvm = s.nvm := rfl
  obtain ⟨hkeep, hc⟩ := State.hasCond_settle_raise (s := s.tagFailed) hf hr (n := 0xB4) (d := 0) rfl (by decide)
  generalize s.tagFailed = t at hx hward hnvm hkeep hc
  obtain ⟨-, ho, hu, htf, -⟩ : _ ∧ _ ∧ _ ∧ _ ∧ _ ∧ _ := by simpa only [State.Keeps, State.received, Prod.mk.injEq] using hkeep
  rw [State.raise_ward, hward] at hu htf
  rw [State.raise_nvm, hnvm] at ho
  exact ⟨_, hx, htf.trans (inc_sixteen _), hu, hc, ho⟩

variable (hk : s.cmdTagOk 0x04 f (f.payload.length - 8) = true) (hq : s.ward.updSeqOk (hSrc f.hdr) (hSeq f.hdr) = true)
variable (h20 : 20 ≤ f.payload.length) (hmax : f.payload.length ≤ 9208) (h4 : f.payload.length % 4 = 0) (hz : leAt f.payload 4 4 = 0)
include hk hq h20 hmax h4 hz

omit h in
/-- An UPDATE frame that Ward accepts goes to staging. -/
theorem exec_update : exec (.update p f) s =
    (let (ok, s1) := s.stage (leAt f.payload 0 4) (slice f.payload 8 (f.payload.length - 16))
    if !ok then done s1
    else done ((s1.onWard fun w => { w with updLast := some (BitVec.ofNat 12 (hSrc f.hdr), BitVec.ofNat 32 (hSeq f.hdr)) }).onNvm fun v =>
      { v with nextSeq := BitVec.ofNat 32 (hSeq f.hdr + 1) })) := by
  have hlen : (slice f.payload 8 (f.payload.length - 16)).length = f.payload.length - 16 := by simp [slice]
  have hform : ¬ (f.payload.length < 20 ∨ 9192 < (slice f.payload 8 (f.payload.length - 16)).length ∨
      (slice f.payload 8 (f.payload.length - 16)).length % 4 ≠ 0 ∨ leAt f.payload 4 4 ≠ 0) := by rw [hlen]; omega
  have hrow : (!s.gets p f || decide (hType f.hdr ≠ 8)) = false := by simp [hg, ht]
  change execUpdate p f s = _
  unfold execUpdate
  simp only [hrow, hk, hq, if_neg hform]
  rfl

theorem update_dropped (ho : s.nvm.phase ≠ .receiving ∨ leAt f.payload 0 4 ≠ s.nvm.nextOffset.toNat) : Completes (.update p f) s fun u =>
    u.nvm = { s.nvm with drops := min 65535 (s.nvm.drops + 1) } ∧ u = { s with nvm := u.nvm, flt := u.flt } ∧ NoNewFault s u := by
  have hx := exec_update hg ht hk hq h20 hmax h4 hz
  rw [State.stage_dropped ho] at hx
  exact completes_calm hx h fun u he hn => ⟨by rw [he, ← inc_sixteen]; rfl, by rw [he]; rfl, hn⟩

theorem update_staged (hp : s.nvm.phase = .receiving) (hs : s.staged < 65536) (hw : s.pwr.noNewStore = false)
    (ho : leAt f.payload 0 4 = s.nvm.nextOffset.toNat)
    (hl : s.nvm.nextOffset.toNat + (f.payload.length - 16) ≤ (s.nvm.slot s.nvm.updTarget).bodyLen) : Completes (.update p f) s fun u =>
      (u.nvm.slot s.nvm.updTarget).body = (s.nvm.slot s.nvm.updTarget).body ++ slice f.payload 8 (f.payload.length - 16) ∧
        u.nvm.slot (!s.nvm.updTarget) = s.nvm.slot (!s.nvm.updTarget) ∧ u.nvm.drops = s.nvm.drops ∧
        (u.nvm.nextOffset = BitVec.ofNat 32 (s.nvm.nextOffset.toNat + (f.payload.length - 16)) ∧
        u.nvm.nextSeq = BitVec.ofNat 32 (hSeq f.hdr + 1) ∧
        u.nvm.phase = (if s.nvm.nextOffset.toNat + (f.payload.length - 16) = (s.nvm.slot s.nvm.updTarget).bodyLen then .verifying
        else .receiving)) ∧ u.ward = { s.ward with updLast := some (BitVec.ofNat 12 (hSrc f.hdr), BitVec.ofNat 32 (hSeq f.hdr)) } ∧
        u = { s with nvm := u.nvm, ward := u.ward, flt := u.flt } ∧ NoNewFault s u := by
  have hlen : (slice f.payload 8 (f.payload.length - 16)).length = f.payload.length - 16 := by simp [slice]
  have hx := exec_update hg ht hk hq h20 hmax h4 hz
  rw [State.stage_taken hp hs hw ho (by rw [hlen]; exact hl)] at hx
  generalize hdata : slice f.payload 8 (f.payload.length - 16) = data at hx hlen
  refine completes_calm hx h fun u he hn => ?_
  have hnvm : u.nvm = { s.nvmStaged data with nextSeq := BitVec.ofNat 32 (hSeq f.hdr + 1) } := by rw [he]; rfl
  refine ⟨?_, ?_, ?_, ⟨?_, ?_, ?_⟩, by rw [he]; rfl, by rw [he]; rfl, hn⟩
  · rw [hnvm]; exact State.nvmStaged_body
  · rw [hnvm]; exact State.nvmStaged_other
  · rw [hnvm]; exact State.nvmStaged_drops
  · rw [hnvm, ← hlen]; rfl
  · rw [hnvm]
  · rw [hnvm, ← hlen, ← hp]; rfl

end

/-! ### NVM_UPD_DATA (R462) -/

section
variable {s : State} {src : Source} {w : Word}

theorem State.access_updData (hc : s.canAccess src = true) (hl : s.accessLegal src true 0x3C24 = true) (hs : isService src = true) :
    s.access src 0x3C24 w = done ((s.stageWord w).answer src 0x3C24 0 stOk) := by
  have hread : s.readReg src 0x3C24 = some 0 := rfl
  have hne : (src == .tumbler) = false := by cases src <;> simp_all [isService]
  have hdenied : s.deniedAt src 0x3C24 w = false := by simp [State.deniedAt, State.deniedReg, deniedNvm, hs]
  exact State.access_took hc hl hdenied (by simp [State.writable, hread, hne]) (by simp [State.mapRow])
    (by simp [State.writeAt, State.writeReg, State.writeNvm, cairnReg, inArr])

variable (h : s.Calm) (hc : s.canAccess src = true) (hl : s.accessLegal src true 0x3C24 = true) (hs : isService src = true)
include h hc hl hs

theorem nvmUpdData_dropped (hp : s.nvm.phase ≠ .receiving) : Completes (.nvmUpdData src w) s fun u =>
    u.acc = some { source := src, addr := 0x3C24, data := 0, status := 0 } ∧
      u.nvm = { s.nvm with drops := min 65535 (s.nvm.drops + 1) } ∧ u = { s with nvm := u.nvm, acc := u.acc, flt := u.flt } ∧
      NoNewFault s u := by
  have hx : exec (.nvmUpdData src w) s = _ := State.access_updData hc hl hs
  rw [State.stageWord, State.stage_dropped (.inl hp)] at hx
  exact completes_calm hx h fun u he hn => ⟨by rw [he]; rfl, by rw [he, ← inc_sixteen]; rfl, by rw [he]; rfl, hn⟩

theorem nvmUpdData_staged (hp : s.nvm.phase = .receiving) (hst : s.staged < 65536) (hw : s.pwr.noNewStore = false)
    (hb : s.nvm.nextOffset.toNat + 4 ≤ (s.nvm.slot s.nvm.updTarget).bodyLen) : Completes (.nvmUpdData src w) s fun u =>
      u.acc = some { source := src, addr := 0x3C24, data := 0, status := 0 } ∧
        ((u.nvm.slot s.nvm.updTarget).body = (s.nvm.slot s.nvm.updTarget).body ++ leBytes 4 w.toNat ∧
        u.nvm.nextOffset = BitVec.ofNat 32 (s.nvm.nextOffset.toNat + 4) ∧ u.nvm.nextSeq = s.nvm.nextSeq + 1 ∧
        u.nvm.phase = (if s.nvm.nextOffset.toNat + 4 = (s.nvm.slot s.nvm.updTarget).bodyLen then .verifying else .receiving) ∧
        u.nvm.drops = s.nvm.drops) ∧ u = { s with nvm := u.nvm, acc := u.acc, flt := u.flt } ∧ NoNewFault s u := by
  have hlen : (leBytes 4 w.toNat).length = 4 := rfl
  have hx : exec (.nvmUpdData src w) s = _ := State.access_updData hc hl hs
  rw [State.stageWord, State.stage_taken hp hst hw rfl (by rw [hlen]; exact hb)] at hx
  generalize leBytes 4 w.toNat = data at hx hlen
  refine completes_calm hx h fun u he hn => ?_
  have hnvm : u.nvm = s.nvmStaged data := by rw [he]; rfl
  refine ⟨by rw [he]; rfl, ⟨?_, ?_, ?_, ?_, ?_⟩, by rw [he]; rfl, hn⟩
  · rw [hnvm]; exact State.nvmStaged_body
  · rw [hnvm, ← hlen]; rfl
  · rw [hnvm]; rfl
  · rw [hnvm, ← hlen, ← hp]; rfl
  · rw [hnvm]; exact State.nvmStaged_drops

end

end Sys2Proof.Machine
open Sys2Proof Sys2Proof.Machine

/-- Settles O18: each clause is a lemma about its command. -/
theorem streamsComplete : Obligations.StreamsComplete := by
  unfold Obligations.StreamsComplete
  exact ⟨streamContextWrite_disabled, streamContextWrite_enabled, streamContextWrite_written, streamContextWrite_used,
    fun _ _ _ _ _ _ _ h1 h2 h3 h4 h5 h6 h7 h8 h9 ho hc hd hfit hl hb => stream_starts ⟨h1, h2, h3, h4, h5, h6, h7, h8, h9⟩ ho hc hd hfit hl hb,
    fun _ _ _ _ _ _ _ h1 h2 h3 h4 h5 h6 h7 h8 h9 ho hc hd hfit hl hfr hdr =>
      stream_continues ⟨h1, h2, h3, h4, h5, h6, h7, h8, h9⟩ ho hc hd hfit hl hfr hdr,
    fun _ _ _ _ _ _ h1 h2 h3 h4 h5 h6 h7 h8 h9 ho hc hd => stream_dropped ⟨h1, h2, h3, h4, h5, h6, h7, h8, h9⟩ ho hc hd,
    fun _ _ _ _ _ h1 h2 h3 h4 h5 h6 h7 h8 h9 ho hr => stream_replayed ⟨h1, h2, h3, h4, h5, h6, h7, h8, h9⟩ ho hr,
    fun _ _ _ _ h1 h2 h3 h4 h5 h6 h7 h8 h9 ho => stream_tagFails ⟨h1, h2, h3, h4, h5, h6, h7, h8, h9⟩ ho,
    stream_noContext,
    fun _ _ _ h hg ht hk hq h20 hmax h4 hz hp hs hw ho hl => update_staged h hg ht hk hq h20 hmax h4 hz hp hs hw ho hl,
    fun _ _ _ h hg ht hk hq h20 hmax h4 hz ho => update_dropped h hg ht hk hq h20 hmax h4 hz ho,
    fun _ _ _ h hg ht hk => update_tagFails h hg ht hk,
    fun _ _ _ h hc hl hs hp hst hw hb => nvmUpdData_staged h hc hl hs hp hst hw hb,
    fun _ _ _ h hc hl hs hp => nvmUpdData_dropped h hc hl hs hp⟩

end

section
/-!
PROOFS. What refutes O27 (R182, R186): a ledger pass that completes while a ledger store copies.
-/

-- One declaration after another: the whole text compiles close to the memory it may have.
set_option Elab.async false

namespace Sys2Proof.Machine

/-! ### A running store keeps the doses that it has copied (R186) -/

/-- What both branches of an operation keep, the operation keeps. -/
theorem ite_keeps {γ : Type} (g : State → γ) {c : Prop} [Decidable c] {a b : State} {x : γ} (ha : g a = x) (hb : g b = x) :
    g (if c then a else b) = x := by
  split
  · exact ha
  · exact hb

theorem State.copyAdvance_copyPos (s : State) : s.age.copyPos ≤ s.copyAdvance.age.copyPos :=
  iteInduction (motive := fun t : State => s.age.copyPos ≤ t.age.copyPos) (fun _ => Nat.le_max_left _ _) fun _ => Nat.le_refl _

/-- The store goes on, and keeps the doses that it has put by. -/
theorem State.copyAdvance_store (s : State) : (s.copyAdvance.age.busy, s.copyAdvance.age.copying, s.copyAdvance.age.copyOld) =
    (s.age.busy, s.age.copying, s.age.copyOld) :=
  ite_keeps (fun t => (t.age.busy, t.age.copying, t.age.copyOld)) rfl rfl

theorem State.putDose_copyOld {s : State} {e : Nat} (d : Nat) (hb : s.age.busy = true) (hc : s.age.copying = true)
    (he : e < 3 * s.age.copyPos) (ho : s.age.copyOld = []) : (s.putDose e d).age.copyOld = [(e, BitVec.ofNat 48 (s.dose e))] := by
  have hkeep : (s.age.busy && s.age.copying && decide (e < 3 * s.age.copyPos) && !(s.age.copyOld.any fun q => q.1 == e)) = true := by
    rw [hb, hc, ho, decide_eq_true he]; rfl
  exact (congrArg (fun t : State => t.age.copyOld) (if_pos hkeep)).trans (congrArg _ ho)

/-- The dose of one emitter that the store has copied is written. -/
theorem State.applySample_copyOld {s : State} {x : Sample} {e : Nat × Nat × Nat} (hx : x.emit = [e]) (hb : s.age.busy = true)
    (hc : s.age.copying = true) (he : e.1 < 3 * s.age.copyPos) (ho : s.age.copyOld = []) :
    (s.applySample x).age.copyOld = [(e.1, BitVec.ofNat 48 (s.copyAdvance.dose e.1))] := by
  obtain ⟨hb', hc', ho'⟩ : _ ∧ _ ∧ _ := by simpa only [Prod.mk.injEq] using s.copyAdvance_store
  have hreach : e.1 < 3 * s.copyAdvance.age.copyPos := Nat.lt_of_lt_of_le he (Nat.mul_le_mul_left 3 s.copyAdvance_copyPos)
  obtain ⟨d, hd⟩ : ∃ d, s.addDoses x x.emit = s.copyAdvance.putDose e.1 d := ⟨_, by rw [hx]; rfl⟩
  exact (congrArg (fun t : State => t.age.copyOld) hd).trans
    (State.putDose_copyOld d (hb'.trans hb) (hc'.trans hc) hreach (ho'.trans ho))

/-- What a calm state depends on. -/
noncomputable def State.calmParts (s : State) := (s.eng, s.flt, s.saf)

/-- The pass of a sample leaves a calm state calm. -/
theorem State.Calm.applySample {s : State} (h : s.Calm) (x : Sample) : (s.applySample x).Calm := by
  have hput : ∀ (t : State) e d, (t.putDose e d).calmParts = t.calmParts := fun t e d => ite_keeps State.calmParts rfl rfl
  have hgo : s.copyAdvance.calmParts = s.calmParts := ite_keeps State.calmParts rfl rfl
  have hall : (s.addDoses x x.emit).calmParts = s.calmParts := (foldl_keeps State.calmParts _ (fun t q => hput t _ _) _ _).trans hgo
  exact h.of_parts (congrArg (·.1) hall) (congrArg (·.2.1) hall) (congrArg (·.2.2) hall)

/-! ### The counterexample -/

/-- One emitter that shows its full code at full level, in the first frames. -/
noncomputable def oneEmitter : Sample := { emit := [(0, 0xFFFF, 191)], weights := [], dtUs := 33333, atUs := 33333 }

/-- A pass in LIT that adds to the red emitter of the first pixel, which the store that runs has copied; every burst is correctable. -/
noncomputable def passWhileCopying : Scene where
  start := { State.reset with
    eng := { st := .lit, prev := .dark }
    age := { busy := true, copying := true, copyPos := 1, sample := some oneEmitter } }
  command := .ledgerPassComplete {}

/-- The pass goes through there, nothing waits for the fault collector, and the store keeps a dose. -/
theorem exec_passWhileCopying :
    ∃ t : State, exec (.ledgerPassComplete {}) passWhileCopying.start = done t ∧ t.Calm ∧ t.age.copyOld ≠ [] := by
  have hcalm := State.Calm.applySample (s := passWhileCopying.start) (by decide +kernel) oneEmitter
  have hcopied := State.applySample_copyOld (s := passWhileCopying.start) (x := oneEmitter) rfl rfl rfl (by decide) rfl
  exact ⟨_, rfl, hcalm, fun hnil => List.cons_ne_nil _ _ (hcopied.symm.trans hnil)⟩

end Sys2Proof.Machine
open Sys2Proof Sys2Proof.Machine

/-- Refutes O27: LEDGER_PASS_COMPLETE can come while a ledger store copies (R186). A dose that the store has copied and the pass now raises is
kept for the store, so that more of the ageing block changes than the statement lists. -/
theorem not_ledgerCompletes : ¬ Obligations.LedgerCompletes := by
  unfold Obligations.LedgerCompletes
  rintro ⟨hpass, -⟩
  obtain ⟨u, hu, hage, -⟩ := hpass passWhileCopying.start _ [] (by decide +kernel) rfl rfl
  obtain ⟨t, ht, hcalm, hkept⟩ := exec_passWhileCopying
  have hsettle : t.settle = u := by injection (ht.symm.trans hu)
  have hsame : u.age = t.age := by rw [← hsettle, t.settle_calm hcalm]
  rw [hage] at hsame
  exact hkept (congrArg Age.copyOld hsame).symm

end

section
/-!
PROOFS. O28 (R202 to R206, R451), first part: what a reaction to a fault leaves of ageing, of the NVM and of the conditions that are present.
-/

-- One declaration after another: the whole text compiles close to the memory it may have.
set_option Elab.async false

namespace Sys2Proof.Machine

/-! ### Lists of conditions -/

/-- A filter that keeps every condition of some kind leaves it as it was whether there is one. -/
theorem any_filter_of_imp {p q : Cond → Bool} (h : ∀ c, p c = true → q c = true) (l : List Cond) : (l.filter q).any p = l.any p :=
  List.any_filter.trans (congrArg l.any (funext fun c => Bool.and_eq_right_iff_imp.mpr (h c)))

theorem src_of_match {c : Cond} {n d : Nat} (h : (c.src == n && c.detail == d && !c.injected) = true) : c.src = n :=
  eq_of_beq (Bool.and_eq_true_iff.mp (Bool.and_eq_true_iff.mp h).1).1

theorem not_match_of_src {c : Cond} {n : Nat} (h : c.src ≠ n) (d : Nat) : (!(c.src == n && c.detail == d && !c.injected)) = true := by
  rw [beq_false_of_ne h]; rfl

/-- The sources of which a reaction to a fault can raise or end a condition; every other source is steady. -/
noncomputable def steadySrc (n : Nat) : Bool := !([0x19, 0x22, 0x35, 0x67, 0xA2, 0xC2, 0xC9].contains n)

/-- The conditions of steady sources. -/
noncomputable def steadyConds (l : List Cond) : List Cond := l.filter fun c => steadySrc c.src

theorem steadyConds_cons {c : Cond} (h : steadySrc c.src = false) (l : List Cond) : steadyConds (c :: l) = steadyConds l :=
  List.filter_cons_of_neg (Bool.eq_false_iff.mp h)

theorem steadyConds_filter {n : Nat} (h : steadySrc n = false) {p : Cond → Bool} (hp : ∀ c, c.src ≠ n → p c = true) (l : List Cond) :
    steadyConds (l.filter p) = steadyConds l :=
  List.filter_filter.trans (List.filter_congr fun c _ => Bool.and_eq_left_iff_imp.mpr fun hs =>
    hp c fun hc => Bool.eq_false_iff.mp h (hc ▸ hs))

/-! ### What no reaction touches -/

/-- Ageing but for the time of entry to JOIN, which an exit from SAFE may set (R25, R186). -/
noncomputable def Age.steady (a : Age) : Age := { a with joinAt := none }

/-- The count of corrected words and the settings: reactions write the log, the boot control record (R26) and what confirmation looks at
(R466). -/
noncomputable def Nvm.steady (v : Nvm) := (v.eccCorr, v.area0, v.area1)

/-- What no reaction to a fault touches in ageing, the NVM and the conditions; for the rest of the state see `State.outside`. -/
noncomputable def State.steady (s : State) := (s.age.steady, s.nvm.steady, steadyConds s.flt.conds)

theorem State.hasCond_of_steady {s u : State} (h : u.steady = s.steady) {n : Nat} (hn : steadySrc n = true) (d : Nat) :
    u.hasCond n d = s.hasCond n d := by
  have hc : ∀ t : State, (steadyConds t.flt.conds).any (fun c => c.src == n && c.detail == d && !c.injected) = t.hasCond n d := fun t =>
    any_filter_of_imp (fun c hm => src_of_match hm ▸ hn) _
  rw [← hc, ← hc, show steadyConds u.flt.conds = steadyConds s.flt.conds from congrArg (·.2.2) h]

theorem ite_steady {c : Prop} [Decidable c] {a b : State} {x} (ha : a.steady = x) (hb : b.steady = x) :
    (if c then a else b).steady = x := ite_keeps State.steady ha hb

theorem State.onFlt_steady (s : State) {f : Flt → Flt} (h : steadyConds (f s.flt).conds = steadyConds s.flt.conds) :
    (s.onFlt f).steady = s.steady := congrArg (fun l => (s.age.steady, s.nvm.steady, l)) h

theorem State.onNvm_steady (s : State) {f : Nvm → Nvm} (h : ∀ v, (f v).steady = v.steady) : (s.onNvm f).steady = s.steady :=
  congrArg (fun v => (s.age.steady, v, steadyConds s.flt.conds)) (h s.nvm)

theorem State.takeFree_steady (s : State) : s.takeFree.steady = s.steady := rfl

/-! ### Conditions of sources that are not steady -/

theorem State.endCond_steady (s : State) {n : Nat} (d : Nat) (h : steadySrc n = false) : (s.endCond n d).steady = s.steady :=
  s.onFlt_steady (steadyConds_filter h (fun _ hc => not_match_of_src hc d) _)

theorem State.endSrc_steady (s : State) {n : Nat} (h : steadySrc n = false) : (s.endSrc n).steady = s.steady :=
  s.onFlt_steady (steadyConds_filter h (fun c hc => by simp [hc]) _)

theorem State.raise_steady (s : State) {n : Nat} (d : Nat) (h : steadySrc n = false) : (s.raise n d).steady = s.steady :=
  ite_steady rfl (s.onFlt_steady ((steadyConds_cons h _).trans (steadyConds_filter h (fun _ hc => not_match_of_src hc d) _)))

/-! ### The operations of a reaction, from events to the safety functions -/

theorem State.fireWith_steady (s : State) (b e) : (s.fireWith b e).steady = s.steady :=
  ite_steady rfl (ite_steady (State.raise_steady _ _ rfl) rfl)

theorem State.fire_steady (s : State) (e) : (s.fire e).steady = s.steady := s.fireWith_steady true e

theorem State.captureWith_steady (s : State) (b n r) : (s.captureWith b n r).steady = s.steady :=
  ite_steady rfl (ite_steady (ite_steady (State.raise_steady _ _ rfl) rfl) (State.fireWith_steady _ _ _))

theorem State.onLink_steady (s : State) (p f) : (s.onLink p f).steady = s.steady := by cases p <;> rfl

theorem State.onRing_steady (s : State) (k f) : (s.onRing k f).steady = s.steady := rfl

theorem State.startThreads_steady (s : State) : s.startThreads.steady = s.steady := by
  unfold State.startThreads
  exact ite_steady rfl (State.each_keeps State.steady _ (fun t n => by split <;> rfl) s 8)

theorem State.applyCeilings_steady (s : State) : s.applyCeilings.steady = s.steady := by
  unfold State.applyCeilings
  exact ite_steady rfl (State.each_keeps State.steady _ (fun t n => t.onRing_steady n _) s 64)

theorem State.railStart_steady (s : State) : s.railStart.steady = s.steady := ite_steady rfl rfl

theorem State.railStartIfOff_steady (s : State) : s.railStartIfOff.steady = s.steady := ite_steady rfl s.railStart_steady

theorem State.stopSweep_steady (s : State) : s.stopSweep.steady = s.steady := ite_steady rfl (State.fire_steady _ _)

theorem State.cairnRequest_steady (s : State) : s.cairnRequest.steady = s.steady :=
  ite_steady s.stopSweep_steady ((State.raise_steady _ _ rfl).trans s.stopSweep_steady)

theorem State.cairnEnd_steady (s : State) : s.cairnEnd.steady = s.steady := State.endSrc_steady _ rfl

theorem State.performSlo_steady (s : State) : s.performSlo.steady = s.steady := State.cairnEnd_steady _

theorem State.performSfd_steady (s : State) : s.performSfd.steady = s.steady := ite_steady rfl (State.applyCeilings_steady _)

theorem State.performSsg_steady (s : State) : s.performSsg.steady = s.steady :=
  ite_steady ((State.raise_steady _ _ rfl).trans s.performSlo_steady)
    (ite_steady (ite_steady (State.railStart_steady _) rfl) (State.cairnRequest_steady _))

theorem State.applyFunc_steady (s : State) (o) : (s.applyFunc o).steady = s.steady := by
  refine ite_steady rfl ?_
  cases s.saf.func with
  | none => rfl
  | some f =>
    cases f with
    | slo => exact s.performSlo_steady
    | ssg => exact s.performSsg_steady
    | sfd => exact ite_steady s.performSlo_steady (s.cairnEnd.performSfd_steady.trans s.cairnEnd_steady)

/-! ### Transitions of the engine -/

theorem State.setEng_steady (s : State) (n) : (s.setEng n).steady = s.steady := by
  have hf : ∀ g, ((s.onEng g).fire 24).steady = s.steady := fun g => State.fire_steady _ _
  exact ite_steady rfl (ite_steady (hf _) (ite_steady (hf _) (hf _)))

theorem State.enterDark_steady (s : State) : s.enterDark.steady = s.steady := by
  rw [State.enterDark, State.onNvm_steady]
  · exact s.setEng_steady .dark
  · exact fun v => rfl

theorem State.writeBoot_steady (s : State) (f) : (s.writeBoot f).steady = s.steady := ite_steady rfl rfl

theorem State.abortStaging_steady (s : State) : s.abortStaging.steady = s.steady := by
  unfold State.abortStaging
  refine (State.takeFree_steady _).trans (Eq.trans (State.onNvm_steady _ ?_) (s.writeBoot_steady _))
  exact fun v => rfl

theorem State.enterSafe_steady (s : State) : s.enterSafe.steady = s.steady := by
  have hs : ∀ t : State, t.steady = s.steady → ((t.setEng .safe).stopSweep).steady = s.steady := fun t ht =>
    (State.stopSweep_steady _).trans ((t.setEng_steady _).trans ht)
  refine ite_steady rfl ?_
  cases s.eng.st with
  | join | dark | lit | service => exact hs _ rfl
  | update => exact hs _ s.abortStaging_steady
  | _ => rfl

theorem State.addCause_steady (s : State) (c fn) : (s.addCause c fn).steady = s.steady := by
  have hd : (s.demanded c fn).steady = s.steady :=
    ite_steady ((State.fire_steady _ _).trans (ite_steady rfl (State.raise_steady _ _ rfl))) rfl
  exact (State.enterSafe_steady _).trans ((State.applyFunc_steady _ _).trans hd)

theorem State.releaseOutputs_steady (s : State) : s.releaseOutputs.steady = s.steady := ite_steady (State.cairnEnd_steady _) rfl

theorem State.enterJoin_steady (s : State) : s.enterJoin.steady = s.steady := by
  unfold State.enterJoin
  extract_lets stale s1 s2
  have h1 : s1.steady = s.steady := s.setEng_steady .join
  have h2 : s2.steady = s.steady := ite_steady h1 h1
  exact (State.railStartIfOff_steady _).trans ((State.releaseOutputs_steady _).trans (ite_steady h1 (s2.startThreads_steady.trans h2)))

theorem State.exitSafe_steady (s : State) : s.exitSafe.steady = s.steady := by
  unfold State.exitSafe
  extract_lets s1
  have h1 : s1.steady = s.steady := s.releaseOutputs_steady
  refine ite_steady h1 (ite_steady (ite_steady ?_ (ite_steady ?_ ?_)) h1)
  · exact (s1.setEng_steady _).trans h1
  · exact (State.railStartIfOff_steady _).trans (s1.enterDark_steady.trans h1)
  · exact s1.enterJoin_steady.trans h1

theorem State.clearCauses_steady (s : State) (p) : (s.clearCauses p).steady = s.steady := by
  unfold State.clearCauses
  extract_lets old cl s0 s1
  have h1 : s1.steady = s.steady := s0.fire_steady 23
  exact ite_steady rfl (ite_steady rfl (ite_steady ((s1.applyFunc_steady _).trans h1) (s1.exitSafe_steady.trans h1)))

theorem State.checkInternal_steady (s : State) : s.checkInternal.steady = s.steady := by
  unfold State.checkInternal
  extract_lets s1
  have h1 : s1.steady = s.steady := ite_steady (s.clearCauses_steady _) rfl
  exact ite_steady (s1.exitSafe_steady.trans h1) h1

theorem State.checkSsgFenced_steady (s : State) : s.checkSsgFenced.steady = s.steady := ite_steady rfl (s.endCond_steady 0 rfl)

theorem State.pairUpdate_steady (s : State) : s.pairUpdate.steady = s.steady := ite_steady rfl rfl

/-! ### Fences and records -/

theorem State.cutOff_steady (s : State) (p) : (s.cutOff p).steady = s.steady := by
  have hat : ∀ l, (s.cutOffAt p l).steady = s.steady := fun l => by
    unfold State.cutOffAt; split
    · rfl
    · refine (State.onLink_steady _ _ _).trans ?_
      split
      · rfl
      · exact s.onLink_steady _ _
  unfold State.cutOff; split
  · rfl
  · exact hat _

theorem State.disablePort_steady (s : State) (p) : (s.disablePort p).steady = s.steady :=
  (State.onLink_steady _ _ _).trans <| ite_steady
    ((State.raise_steady _ _ rfl).trans ((State.onLink_steady _ _ _).trans (s.cutOff_steady p))) rfl

theorem State.fenceUnit_steady (s : State) (u) : (s.fenceUnit u).steady = s.steady := by
  cases u with
  | none | ring k => rfl
  | unit i =>
    have h2 : ((s.setFence i).railOff.performSlo.raise 0xC2 0).steady = s.steady :=
      (State.raise_steady _ _ rfl).trans (State.performSlo_steady _)
    have hp : ∀ p, ((s.setFence i).disablePort p).steady = s.steady := fun p => State.disablePort_steady _ p
    exact ite_steady rfl <| ite_steady (ite_steady rfl rfl) <| ite_steady (ite_steady h2 rfl) <| ite_steady rfl <| ite_steady rfl <|
      ite_steady (hp .a) <| ite_steady (hp .b) rfl

theorem State.mergeInto_steady (s : State) (i n v c) : (s.mergeInto i n v c).steady = s.steady := by
  have hm : ∀ r (f : Flt → Flt), (f s.flt).conds = s.flt.conds → (s.onFlt fun x => (f x).mirrorFirst r).steady = s.steady := fun r f hf =>
    s.onFlt_steady (congrArg steadyConds ((Flt.mirrorFirst_conds _ r).trans hf))
  unfold State.mergeInto; split
  · rfl
  · exact ite_steady ((State.fire_steady _ _).trans (hm _ _ rfl)) (hm _ _ rfl)

theorem State.createRec_steady (s : State) (i n v) : (s.createRec i n v).steady = s.steady := by
  have hold : ∀ (f : Flt) (o : Option FaultRecord), ((o.map f.mirrorFirst).getD f).conds = f.conds := fun f o => by
    cases o
    · rfl
    · exact f.mirrorFirst_conds _
  unfold State.createRec
  extract_lets no r hour logged s1 s2 s3 s4
  have h1 : s1.steady = s.steady := s.onFlt_steady (congrArg steadyConds (by dsimp only; split <;> exact hold _ _))
  have h2 : s2.steady = s.steady := (State.fireWith_steady _ _ _).trans ((s1.captureWith_steady _ _ _).trans h1)
  have h3 : s3.steady = s.steady := ite_steady h2 h2
  have h4 : s4.steady = s.steady := ite_steady h3 h3
  exact ite_steady h4 h4

/-! ### The fault collector keeps it -/

theorem steady_kept (x) : KeptBySettling fun s => s.steady = x where
  taken _ h := h
  merged s i n v c h := (s.mergeInto_steady i n v c).trans h
  created s i n v h := (s.createRec_steady i n v).trans h
  counted _ h := h
  full s j r h := by
    refine (s.onFlt_steady ?_).trans h
    exact (steadyConds_cons rfl _).trans (steadyConds_filter (n := 0x19) rfl (fun c hc => by simp [hc]) _)
  fenced s u h := (s.fenceUnit_steady u).trans h
  demanded s h := (s.addCause_steady _ _).trans h

/-- What follows a command that brings no reset leaves it alone. -/
theorem State.settle_steady (s : State) (hr : s.eng.resetDue = none) : s.settle.steady = s.steady := by
  have hn : ∀ t : State, ∀ old, (t.settleN 6 old).steady = t.steady := fun t old => (steady_kept _).settleN 6 old rfl
  unfold State.settle
  extract_lets old
  rw [State.resetIfDue_none, State.pairUpdate_steady, hn, State.checkInternal_steady, State.checkSsgFenced_steady, hn]
  exact (State.resetDue_of_outside (by simp)).trans hr

/-- A command whose own effect is `t` and brings no reset. -/
theorem completes_steady {c : Instr} {s t : State} {p : State → Prop} (hc : exec c s = done t) (hr : t.eng.resetDue = none)
    (hp : ∀ u, u.steady = t.steady → p u) : Completes c s p :=
  ⟨_, hc, hp _ (t.settle_steady hr)⟩

/-- `completes_calm` with the state that the fault collector leaves written out. -/
theorem completes_onFlt {c : Instr} {s t : State} {p : State → Prop} (hc : exec c s = done t) (ht : t.Calm)
    (hp : ∀ f, NoNewFault t (t.onFlt fun _ => f) → p (t.onFlt fun _ => f)) : Completes c s p := by
  refine completes_calm hc ht fun u hu hn => ?_
  obtain ⟨f, rfl⟩ : ∃ f, u = t.onFlt fun _ => f := ⟨u.flt, hu⟩
  exact hp f hn

/-- A command that raises a steady source last. -/
theorem completes_raising {c : Instr} {s t : State} {n d : Nat} {p : State → Prop} (hc : exec c s = done (t.raise n d))
    (hr : t.eng.resetDue = none) (hn : steadySrc n = true)
    (hp : ∀ u, u.age.steady = t.age.steady → u.nvm.steady = t.nvm.steady → u.hasCond n d = true → p u) : Completes c s p := by
  refine completes_steady hc ((congrArg Eng.resetDue (t.raise_eng n d)).trans hr) fun u hu => hp u ?_ ?_ ?_
  · exact (congrArg (·.1) hu).trans (congrArg Age.steady (t.raise_age n d))
  · exact (congrArg (·.2.1) hu).trans (congrArg Nvm.steady (t.raise_nvm n d))
  · exact (State.hasCond_of_steady hu hn d).trans (t.hasCond_raise n d)

end Sys2Proof.Machine
end

section
/-!
PROOFS. O28 (R202 to R206, R451), second part: the core voltage.
-/

-- One declaration after another: the whole text compiles close to the memory it may have.
set_option Elab.async false

namespace Sys2Proof.Machine

/-! ### Conditions that are raised and ended -/

theorem State.hasCond_raise_of {s : State} {a b : Nat} (h : s.hasCond a b = true) {n : Nat} (hn : a ≠ n) (d : Nat) :
    (s.raise n d).hasCond a b = true := by
  unfold State.raise; split
  · exact h
  · refine Bool.or_eq_true_iff.mpr (Or.inr ((any_filter_of_imp (fun c hc => not_match_of_src (n := n) ?_ d) _).trans h))
    exact src_of_match hc ▸ hn

theorem State.hasCond_endCond_same (s : State) (n d : Nat) : (s.endCond n d).hasCond n d = false :=
  List.any_eq_false.mpr fun _ hc hm => by
    have hno := (List.mem_filter.mp hc).2
    rw [hm] at hno
    cases hno

theorem State.hasCond_endCond_other (s : State) {a n : Nat} (h : a ≠ n) (b d : Nat) : (s.endCond n d).hasCond a b = s.hasCond a b :=
  any_filter_of_imp (fun _ hc => not_match_of_src (src_of_match hc ▸ h) d) _

theorem State.noNewFault_endCond (s : State) (n d : Nat) : NoNewFault s (s.endCond n d) :=
  ⟨rfl, fun _ hc => (List.mem_filter.mp hc).1⟩

theorem NoNewFault.trans {s t u : State} (h1 : NoNewFault s t) (h2 : NoNewFault t u) : NoNewFault s u :=
  ⟨h2.1.trans (congrArg (fun f : Flt => { f with conds := u.flt.conds, pairFault := u.flt.pairFault }) h1.1), fun c hc => h1.2 c (h2.2 c hc)⟩

theorem NoNewFault.hasCond_false {t u : State} (h : NoNewFault t u) {n d : Nat} (hc : t.hasCond n d = false) : u.hasCond n d = false :=
  List.any_eq_false.mpr fun c hm => List.any_eq_false.mp hc c (h.2 c hm)

theorem State.level_true (s : State) {b : Bool} (h : b = true) (n d : Nat) : s.level b n d = s.raise n d := if_pos h

theorem State.level_false (s : State) {b : Bool} (h : b = false) (n d : Nat) : s.level b n d = s.endCond n d :=
  if_neg (Bool.eq_false_iff.mp h)

/-! ### Core voltage (R202, R203) -/

/-- The core voltage stands at the top of its range. -/
noncomputable def Age.atTop (a : Age) : Bool := decide (a.avsVmax ≤ a.vcoreMv)

/-- Since when the least slack has been at least 100 ps, after an evaluation that finds `m` (R202). -/
noncomputable def State.slackSinceAt (s : State) (m : Nat) : Option Nat := if m < 100 then none else some (s.age.slackSince.getD s.time.local_)

/-- Ageing after an evaluation noted (R202, R209). -/
noncomputable def State.ageNoted (s : State) (q : Nat × Nat) : Age :=
  { s.age with
    slacks := (s.time.local_, q) :: s.age.slacks.filter fun y => decide (s.time.local_ < y.1 + 65536000000000)
    slackSince := s.slackSinceAt q.1 }

/-- Slack below 20 ps at the top of the range: CORE_MARGIN_CRIT (R202). -/
noncomputable def Age.marginCrit (a : Age) (m : Nat) : Bool := a.avsEn && m < 20 && a.atTop

/-- Slack of 20 ps or more, below 60 ps, at the top of the range: CORE_MARGIN_LOW (R202). -/
noncomputable def Age.marginLow (a : Age) (m : Nat) : Bool := a.avsEn && 20 ≤ m && m < 60 && a.atTop

/-- An evaluation noted, with the conditions of little slack (R202, R203). -/
noncomputable def State.avsNoted (s : State) (q : Nat × Nat) : State :=
  ((s.onAge fun _ => s.ageNoted q).level (s.age.marginCrit q.1) 0x90 0).level (s.age.marginLow q.1) 0x96 0

/-- The least slack has been at least 100 ps for an hour (R202). -/
noncomputable def State.slackLong (s : State) (m : Nat) : Bool :=
  match s.slackSinceAt m with | some t => decide (3600000000000 * 65536 ≤ s.time.local_ - t) | none => false

/-- The voltage that an evaluation writes, if any, and whether that is a step up (R203). -/
noncomputable def State.avsTarget (s : State) (m : Nat) : Option (Nat × Bool) :=
  if s.age.avsDead then none
  else if !s.age.avsEn then (if s.age.vcoreMv = 750 then none else some (750, false))
  else if m < 60 && !s.age.atTop then some (min (s.age.vcoreMv + 5) s.age.avsVmax, true)
  else if s.slackLong m && !s.therm.trimBusy && !s.therm.trimPending && s.age.avsVmin < s.age.vcoreMv then
    some (max (s.age.vcoreMv - 5) s.age.avsVmin, false)
  else none

/-- The voltage written, if one is to be. -/
noncomputable def State.writeCore (s : State) (written : Bool) : Option (Nat × Bool) → State
  | none => s
  | some (mv, up) => s.setCore mv written up

section
variable {s : State} {q : Nat × Nat}

/-- An evaluation is noted, then the voltage is written. -/
theorem exec_avsEvaluation (l : List (BitVec 10)) (written : Bool) (hrun : s.running = true) :
    exec (.avsEvaluation l written) s = done ((s.avsNoted (leastSlack l)).writeCore written (s.avsTarget (leastSlack l).1)) := by
  change execAvsEvaluation l written s = _
  unfold execAvsEvaluation
  generalize leastSlack l = q
  obtain ⟨m, w⟩ := q
  let f x := done ((s.avsNoted (m, w)).writeCore written x)
  rw [hrun, State.avsTarget]
  refine (if_neg (by decide)).trans (Eq.trans ?_ (apply_ite f _ _ _).symm)
  refine congrArg (ite _ _) (Eq.trans ?_ (apply_ite f _ _ _).symm)
  refine congr (congrArg (ite _) ?_) (Eq.trans ?_ (apply_ite f _ _ _).symm)
  · exact congrArg done (apply_ite ((s.avsNoted (m, w)).writeCore written) _ none (some (750, false))).symm
  · refine congrArg (ite _ _) (Eq.trans ?_ (apply_ite f _ _ _).symm)
    rfl

@[simp] theorem State.avsNoted_eng : (s.avsNoted q).eng = s.eng := by
  have hl : ∀ (t : State) b n, (t.level b n 0).eng = t.eng := fun t b n => by
    unfold State.level; split
    · exact t.raise_eng n 0
    · rfl
  exact (hl _ _ _).trans (hl _ _ _)

theorem State.avsNoted_age : (s.avsNoted q).age = s.ageNoted q := by
  have hl : ∀ (t : State) b n, (t.level b n 0).age = t.age := fun t b n => by
    unfold State.level; split
    · exact t.raise_age n 0
    · rfl
  exact (hl _ _ _).trans (hl _ _ _)

/-- An evaluation that finds enough slack, or room for a step up, only ends conditions. -/
theorem State.avsNoted_quiet (hq : s.age.avsEn = true → q.1 < 60 → s.age.vcoreMv < s.age.avsVmax) :
    s.avsNoted q = ((s.onAge fun _ => s.ageNoted q).endCond 0x90 0).endCond 0x96 0 := by
  have hroom : ∀ b, (b = true → s.age.avsEn = true ∧ q.1 < 60) → (b && s.age.atTop) = false := fun b hb => by
    cases b
    · rfl
    · exact decide_eq_false (Nat.not_le.mpr (hq (hb rfl).1 (hb rfl).2))
  have hcrit : s.age.marginCrit q.1 = false := hroom _ fun h => by
    obtain ⟨hen, hm⟩ := Bool.and_eq_true_iff.mp h
    exact ⟨hen, Nat.lt_trans (of_decide_eq_true hm) (by decide)⟩
  have hlow : s.age.marginLow q.1 = false := hroom _ fun h => by
    obtain ⟨hen, hm⟩ := Bool.and_eq_true_iff.mp h
    exact ⟨(Bool.and_eq_true_iff.mp hen).1, of_decide_eq_true hm⟩
  exact (State.level_false _ hlow _ _).trans (congrArg (·.endCond 0x96 0) (State.level_false _ hcrit _ _))

/-- Little slack at the top of the range raises its source, below 20 ps CORE_MARGIN_CRIT (R202). -/
theorem State.avsNoted_alarm (hen : s.age.avsEn = true) (hm : q.1 < 60) (htop : s.age.avsVmax ≤ s.age.vcoreMv) :
    (s.avsNoted q).hasCond (if q.1 < 20 then 0x90 else 0x96) 0 = true := by
  by_cases h20 : q.1 < 20
  · have hcrit : s.age.marginCrit q.1 = true := by
      rw [Age.marginCrit, hen, Age.atTop, decide_eq_true h20, decide_eq_true htop]; rfl
    have hlow : s.age.marginLow q.1 = false := by
      rw [Age.marginLow, hen, decide_eq_false (Nat.not_le.mpr h20)]; rfl
    rw [State.avsNoted, State.level_true _ hcrit, State.level_false _ hlow, if_pos h20, State.hasCond_endCond_other _ (by decide)]
    exact State.hasCond_raise _ _ _
  · have hlow : s.age.marginLow q.1 = true := by
      rw [Age.marginLow, hen, Age.atTop, decide_eq_true (Nat.not_lt.mp h20), decide_eq_true hm, decide_eq_true htop]; rfl
    rw [State.avsNoted, State.level_true _ hlow, if_neg h20]
    exact State.hasCond_raise _ _ _

end

/-! ### The clauses of AVS_EVALUATION and AVS_CHECK -/

/-- Ageing after a write of the core voltage, a step up or not (R203). -/
noncomputable def Age.coreWritten (a : Age) (mv : Nat) (up : Bool) : Age :=
  { a with vcoreMv := mv, vcoreCmd := some (voutCommand mv a.avsExp), pmbus := voutBytes a.avsAddr (voutCommand mv a.avsExp)
           stepsUp := if up then inc 16 a.stepsUp else a.stepsUp }

section
variable (s : State) (t : Nat) (l : List (BitVec 10))

/-- An evaluation that raises nothing and writes a voltage. -/
theorem avsEvaluation_writes {mv : Nat} {up : Bool} {p : State → Prop} (h : s.Calm) (hrun : s.running = true)
    (hq : s.age.avsEn = true → (leastSlack l).1 < 60 → s.age.vcoreMv < s.age.avsVmax)
    (ht : s.avsTarget (leastSlack l).1 = some (mv, up))
    (hp : ∀ f, let u := (s.onAge fun _ => (s.ageNoted (leastSlack l)).coreWritten mv up).onFlt fun _ => f
      u.hasCond 0x90 0 = false → u.hasCond 0x96 0 = false → NoNewFault s u → p u) : Completes (.avsEvaluation l true) s p := by
  have hx := exec_avsEvaluation l true hrun
  rw [ht, State.avsNoted_quiet hq] at hx
  refine completes_onFlt hx h fun f hn => hp f (hn.hasCond_false ?_) (hn.hasCond_false ?_) ?_
  · exact (State.hasCond_endCond_other _ (by decide) 0 0).trans (State.hasCond_endCond_same _ 0x90 0)
  · exact State.hasCond_endCond_same _ 0x96 0
  · exact ((State.noNewFault_endCond (s.onAge _) 0x90 0).trans (State.noNewFault_endCond _ 0x96 0)).trans hn

/-- While AVS works, only a step up or down writes the voltage. -/
theorem State.avsTarget_enabled {m : Nat} (hen : s.age.avsEn = true) (hdead : s.age.avsDead = false) : s.avsTarget m =
    if m < 60 && !s.age.atTop then some (min (s.age.vcoreMv + 5) s.age.avsVmax, true)
    else if s.slackLong m && !s.therm.trimBusy && !s.therm.trimPending && s.age.avsVmin < s.age.vcoreMv then
      some (max (s.age.vcoreMv - 5) s.age.avsVmin, false)
    else none :=
  (if_neg (Bool.eq_false_iff.mp hdead)).trans (if_neg (by rw [hen]; decide))

theorem State.avsTarget_up {m : Nat} (hen : s.age.avsEn = true) (hdead : s.age.avsDead = false) (hm : m < 60)
    (hv : s.age.vcoreMv < s.age.avsVmax) : s.avsTarget m = some (min (s.age.vcoreMv + 5) s.age.avsVmax, true) := by
  refine (s.avsTarget_enabled hen hdead).trans (if_pos ?_)
  rw [Age.atTop, decide_eq_true hm, decide_eq_false (Nat.not_le.mpr hv)]; rfl

theorem State.avsTarget_none {m : Nat} (hen : s.age.avsEn = true) (hdead : s.age.avsDead = false) (hup : m < 60 → s.age.avsVmax ≤ s.age.vcoreMv)
    (hm : m < 100) : s.avsTarget m = none := by
  refine (s.avsTarget_enabled hen hdead).trans ((if_neg fun h => ?_).trans (if_neg ?_))
  · obtain ⟨hlow, htop⟩ := Bool.and_eq_true_iff.mp h
    rw [Age.atTop, decide_eq_true (hup (of_decide_eq_true hlow))] at htop
    cases htop
  · rw [State.slackLong, State.slackSinceAt, if_pos hm]
    exact Bool.false_ne_true

theorem avsEvaluation_up (h : s.Calm) (hrun : s.running = true) (hen : s.age.avsEn = true) (hdead : s.age.avsDead = false)
    (hm : (leastSlack l).1 < 60) (hv : s.age.vcoreMv < s.age.avsVmax) : Completes (.avsEvaluation l true) s fun u =>
      u.age.vcoreMv = min (s.age.vcoreMv + 5) s.age.avsVmax ∧ u.age.stepsUp = min 65535 (s.age.stepsUp + 1) ∧
        u.age.slacks.head? = some (s.time.local_, leastSlack l) ∧
        u.age.pmbus = voutBytes s.age.avsAddr (voutCommand (min (s.age.vcoreMv + 5) s.age.avsVmax) s.age.avsExp) ∧
        u.age.vcoreCmd = some (voutCommand (min (s.age.vcoreMv + 5) s.age.avsVmax) s.age.avsExp) ∧ u.hasCond 0x90 0 = false ∧
        u.hasCond 0x96 0 = false ∧ u = { s with age := u.age, flt := u.flt } ∧ NoNewFault s u := by
  exact avsEvaluation_writes s l h hrun (fun _ _ => hv) (s.avsTarget_up hen hdead hm hv) fun f h90 h96 hn =>
    ⟨rfl, inc_sixteen _, rfl, rfl, rfl, h90, h96, rfl, hn⟩

theorem avsEvaluation_disabled (h : s.Calm) (hrun : s.running = true) (hen : s.age.avsEn = false) (hdead : s.age.avsDead = false)
    (hv : s.age.vcoreMv ≠ 750) : Completes (.avsEvaluation l true) s fun u =>
      u.age.vcoreMv = 750 ∧ u.age.slacks.head? = some (s.time.local_, leastSlack l) ∧
        u.age.vcoreCmd = some (voutCommand 750 s.age.avsExp) := by
  have ht : s.avsTarget (leastSlack l).1 = some (750, false) := by rw [State.avsTarget, hdead, hen]; exact if_neg hv
  exact avsEvaluation_writes s l h hrun (fun he => absurd (hen.symm.trans he) (by decide)) ht fun f _ _ _ => ⟨rfl, rfl, rfl⟩

theorem avsEvaluation_down (h : s.Calm) (hrun : s.running = true) (hen : s.age.avsEn = true) (hdead : s.age.avsDead = false)
    (hm : 100 ≤ (leastSlack l).1) (hsince : s.age.slackSince = some t) (hlong : 235929600000000000 ≤ s.time.local_ - t)
    (hbusy : s.therm.trimBusy = false) (hpend : s.therm.trimPending = false) (hv : s.age.avsVmin < s.age.vcoreMv) :
    Completes (.avsEvaluation l true) s fun u =>
      u.age.vcoreMv = max (s.age.vcoreMv - 5) s.age.avsVmin ∧ u.age.stepsUp = s.age.stepsUp ∧
        u.age.vcoreCmd = some (voutCommand (max (s.age.vcoreMv - 5) s.age.avsVmin) s.age.avsExp) := by
  have h60 : ¬ (leastSlack l).1 < 60 := Nat.not_lt.mpr (Nat.le_trans (by decide) hm)
  have hs : s.slackLong (leastSlack l).1 = true := by
    rw [State.slackLong, State.slackSinceAt, if_neg (Nat.not_lt.mpr hm), hsince]
    exact decide_eq_true hlong
  have ht : s.avsTarget (leastSlack l).1 = some (max (s.age.vcoreMv - 5) s.age.avsVmin, false) := by
    refine (s.avsTarget_enabled hen hdead).trans ((if_neg fun hup => ?_).trans (if_pos ?_))
    · exact h60 (of_decide_eq_true (Bool.and_eq_true_iff.mp hup).1)
    · rw [hs, hbusy, hpend, decide_eq_true hv]; rfl
  exact avsEvaluation_writes s l h hrun (fun _ hlt => absurd hlt h60) ht fun f _ _ _ => ⟨rfl, rfl, rfl⟩

/-- An evaluation that writes nothing: whatever it raises, it is noted. -/
theorem avsEvaluation_notes (written : Bool) {p : State → Prop} (h : s.Calm) (hrun : s.running = true)
    (ht : s.avsTarget (leastSlack l).1 = none)
    (hp : ∀ u, u.age.steady = (s.ageNoted (leastSlack l)).steady → u.steady = (s.avsNoted (leastSlack l)).steady → p u) :
    Completes (.avsEvaluation l written) s p := by
  obtain ⟨-, hr, -, -⟩ := h
  have hx := exec_avsEvaluation l written hrun
  rw [ht] at hx
  exact completes_steady hx ((congrArg Eng.resetDue State.avsNoted_eng).trans hr) fun u hu =>
    hp u ((congrArg (·.1) hu).trans (congrArg Age.steady State.avsNoted_age)) hu

theorem avsEvaluation_top (written : Bool) (h : s.Calm) (hrun : s.running = true) (hen : s.age.avsEn = true) (hdead : s.age.avsDead = false)
    (hm : (leastSlack l).1 < 60) (hv : s.age.avsVmax ≤ s.age.vcoreMv) : Completes (.avsEvaluation l written) s fun u =>
      u.age.vcoreMv = s.age.vcoreMv ∧ u.hasCond (if (leastSlack l).1 < 20 then 0x90 else 0x96) 0 = true := by
  have ht := s.avsTarget_none hen hdead (fun _ => hv) (Nat.lt_trans hm (by decide))
  refine avsEvaluation_notes s l written h hrun ht fun u ha hu => ⟨(congrArg Age.vcoreMv ha :), ?_⟩
  rw [State.hasCond_of_steady hu (by split <;> rfl)]
  exact State.avsNoted_alarm hen hm hv

theorem avsEvaluation_holds (written : Bool) (h : s.Calm) (hrun : s.running = true)
    (hno : s.age.avsDead = true ∨ (s.age.avsEn = true ∧ 60 ≤ (leastSlack l).1 ∧ (leastSlack l).1 < 100)) :
    Completes (.avsEvaluation l written) s fun u =>
      u.age.vcoreMv = s.age.vcoreMv ∧ u.age.slacks.head? = some (s.time.local_, leastSlack l) ∧ u.age.pmbus = s.age.pmbus := by
  have ht : s.avsTarget (leastSlack l).1 = none := by
    by_cases hd : s.age.avsDead = true
    · exact if_pos hd
    · obtain ⟨he, h60, h100⟩ := hno.resolve_left hd
      exact s.avsTarget_none he (Bool.eq_false_iff.mpr hd) (fun hlt => absurd hlt (Nat.not_lt.mpr h60)) h100
  refine avsEvaluation_notes s l written h hrun ht fun u ha _ => ⟨(congrArg Age.vcoreMv ha :), ?_, (congrArg Age.pmbus ha :)⟩
  exact congrArg (fun a : Age => a.slacks.head?) ha

/-- AVS fails, whatever else there is: AVS_MISMATCH is raised, and nothing more is written until BOOT (R203). -/
theorem completes_avsDead {s t : State} {c : Instr} (hx : exec c s = done ((t.onAge fun a => { a with avsDead := true }).raise 0x97 0))
    (hr : t.eng.resetDue = none) (hv : t.age.vcoreMv = s.age.vcoreMv) : Completes c s fun u =>
      u.age.avsDead = true ∧ u.age.vcoreMv = s.age.vcoreMv ∧ u.hasCond 0x97 0 = true :=
  completes_raising hx hr rfl fun _ ha _ hc => ⟨congrArg Age.avsDead ha, (congrArg Age.vcoreMv ha).trans hv, hc⟩

theorem avsEvaluation_fails (h : s.Calm) (hrun : s.running = true) (hen : s.age.avsEn = true) (hdead : s.age.avsDead = false)
    (hm : (leastSlack l).1 < 60) (hv : s.age.vcoreMv < s.age.avsVmax) : Completes (.avsEvaluation l false) s fun u =>
      u.age.vcoreMv = s.age.vcoreMv ∧ u.age.avsDead = true ∧ u.hasCond 0x97 0 = true := by
  obtain ⟨-, hr, -, -⟩ := h
  have hx := exec_avsEvaluation l false hrun
  rw [s.avsTarget_up hen hdead hm hv] at hx
  obtain ⟨u, hu, hd, hvc, hc⟩ := completes_avsDead hx ((congrArg Eng.resetDue State.avsNoted_eng).trans hr)
    (congrArg Age.vcoreMv State.avsNoted_age :)
  exact ⟨u, hu, hvc, hd, hc⟩

theorem avsCheck_mismatch (mv : BitVec 12) (h : s.Calm) (hc : s.age.vcoreCmd.isSome = true) (hdead : s.age.avsDead = false)
    (hv : mv.toNat + 25 < s.age.vcoreMv ∨ s.age.vcoreMv + 25 < mv.toNat) : Completes (.avsCheck mv) s fun u =>
      u.age.avsDead = true ∧ u.age.vcoreMv = s.age.vcoreMv ∧ u.hasCond 0x97 0 = true := by
  obtain ⟨-, hr, -, -⟩ := h
  have hoff : ¬ (s.age.vcoreMv ≤ mv.toNat + 25 ∧ mv.toNat ≤ s.age.vcoreMv + 25) := fun ⟨hl, hu⟩ =>
    hv.elim (Nat.not_lt.mpr hl) (Nat.not_lt.mpr hu)
  refine completes_avsDead (t := s) ?_ hr rfl
  change execAvsCheck mv s = _
  refine if_neg ?_
  rw [← Option.not_isSome, hc, hdead, ← Bool.decide_and, decide_eq_false hoff]
  decide

theorem avsCheck_close (mv : BitVec 12) (_ : s.Calm) (hl : s.age.vcoreMv ≤ mv.toNat + 25) (hu : mv.toNat ≤ s.age.vcoreMv + 25) :
    Completes (.avsCheck mv) s fun u => u = s := by
  refine ⟨s, ?_, rfl⟩
  change execAvsCheck mv s = _
  refine if_pos ?_
  rw [decide_eq_true hl, decide_eq_true hu, Bool.and_self, Bool.or_true]

end
end Sys2Proof.Machine
end

section
/-!
PROOFS. O28 (R202 to R206, R451), third part: memory timing, lane margins and the scrub of the NVM, and the obligation.
-/

-- One declaration after another: the whole text compiles close to the memory it may have.
set_option Elab.async false

namespace Sys2Proof.Machine

/-! ### Memory timing (R204) -/

/-- Ageing after the read eyes are measured. -/
noncomputable def Age.eyesRead (a : Age) (eyes : List Nat) : Age :=
  { a with readEyes := eyes, nextSet := a.nextSet || eyes.any fun e => decide (100 * e < 35 * 256) }

/-- An eye under timing set 1 is below 0.30 UI. -/
noncomputable def Age.memLow (a : Age) (eyes : List Nat) : Bool := a.memSet && (eyes ++ a.writeEyes).any fun e => decide (100 * e < 30 * 256)

section
variable (s : State) (eyes : List (BitVec 8))

theorem exec_memEyeCheck (hrun : s.running = true) : exec (.memEyeCheck eyes) s =
    done ((s.onAge fun a => a.eyesRead (eyes.map (·.toNat))).level (s.age.memLow (eyes.map (·.toNat))) 0x98 0) := by
  change execMemEyeCheck eyes s = _
  rw [execMemEyeCheck, hrun]; rfl

theorem memEyeCheck_set0 (h : s.Calm) (hrun : s.running = true) (hset : s.age.memSet = false) : Completes (.memEyeCheck eyes) s fun u =>
      (u.age.readEyes = eyes.map (fun e => e.toNat) ∧ u.age.nextSet = (s.age.nextSet || eyes.any fun e => decide (100 * e.toNat < 8960)) ∧
        u.age.memSet = false ∧ u.hasCond 0x98 0 = false) ∧ u = { s with age := u.age, flt := u.flt } ∧ NoNewFault s u := by
  have hx := exec_memEyeCheck s eyes hrun
  rw [State.level_false _ (show s.age.memLow (eyes.map (·.toNat)) = false by rw [Age.memLow, hset]; rfl)] at hx
  exact completes_onFlt hx h fun f hn => ⟨⟨rfl, congrArg (s.age.nextSet || ·) List.any_map, hset,
    hn.hasCond_false (State.hasCond_endCond_same _ _ _)⟩, rfl, (State.noNewFault_endCond (s.onAge _) 0x98 0).trans hn⟩

theorem memEyeCheck_set1 (h : s.Calm) (hrun : s.running = true) (hset : s.age.memSet = true)
    (heye : eyes.any (fun e => decide (100 * e.toNat < 7680)) = true) : Completes (.memEyeCheck eyes) s fun u =>
      u.age.readEyes = eyes.map (fun e => e.toNat) ∧ u.age.nextSet = true ∧ u.hasCond 0x98 0 = true := by
  obtain ⟨-, hr, -, -⟩ := h
  have hlow : ∀ w, 7680 ≤ w → ((eyes.map (·.toNat)).any fun e => decide (100 * e < w)) = true := fun w hw => by
    obtain ⟨e, he, hlt⟩ := List.any_eq_true.mp heye
    exact List.any_map.trans (List.any_eq_true.mpr ⟨e, he, decide_eq_true (Nat.lt_of_lt_of_le (of_decide_eq_true hlt) hw)⟩)
  have hx := exec_memEyeCheck s eyes hrun
  rw [State.level_true _ (show s.age.memLow (eyes.map (·.toNat)) = true by
    rw [Age.memLow, hset, List.any_append, hlow _ (by decide)]; rfl)] at hx
  refine completes_raising hx hr rfl fun u ha _ hc => ⟨(congrArg Age.readEyes ha :), ?_, hc⟩
  refine Eq.trans (congrArg Age.nextSet ha :) ?_
  exact (congrArg (s.age.nextSet || ·) (hlow (35 * 256) (by decide))).trans (Bool.or_true _)

theorem dqsTracking_counts (h : s.Calm) (hrun : s.running = true) : Completes .dqsTracking s fun u =>
      u.age = { s.age with dqsRuns := s.age.dqsRuns + 1 } ∧ u = { s with age := u.age, flt := u.flt } ∧ NoNewFault s u := by
  have hx : exec .dqsTracking s = done (s.onAge fun a => { a with dqsRuns := a.dqsRuns + 1 }) := by
    change execDqsTracking s = _
    rw [execDqsTracking, hrun]; rfl
  exact completes_onFlt hx h fun f hn => ⟨rfl, rfl, hn⟩

end

/-! ### The least eye of the used lanes (R205, R280) -/

/-- The least eye of some lanes, in 1/256 UI. -/
noncomputable def leastEye (used : List Nat) (eyes : List (BitVec 8)) : Nat := used.foldl (fun m i => min m (eyes.getD i 255).toNat) 255

theorem foldl_min_le (f : Nat → Nat) (l : List Nat) (m : Nat) :
    l.foldl (fun m i => min m (f i)) m ≤ m ∧ ∀ i ∈ l, l.foldl (fun m i => min m (f i)) m ≤ f i := by
  induction l generalizing m with
  | nil => exact ⟨Nat.le_refl m, fun _ h => nomatch h⟩
  | cons a l ih =>
    obtain ⟨hm, hl⟩ := ih (min m (f a))
    exact ⟨hm.trans (Nat.min_le_left _ _), List.forall_mem_cons.mpr ⟨hm.trans (Nat.min_le_right _ _), hl⟩⟩

theorem leastEye_le {used : List Nat} {i : Nat} (h : i ∈ used) (eyes : List (BitVec 8)) : leastEye used eyes ≤ (eyes.getD i 255).toNat :=
  (foldl_min_le (fun i => (eyes.getD i 255).toNat) used 255).2 i h

theorem Link.mem_usedLanes {l : Link} {i : Nat} : i ∈ l.usedLanes ↔ i < 4 ∧ l.used.getLsbD i = true := by
  rw [Link.usedLanes, List.mem_filter, List.mem_range]

/-- Every used lane has an eye of at least 0.30 UI. -/
theorem leastEye_wide {l : Link} {eyes : List (BitVec 8)}
    (h : (List.range 4).all (fun i => !l.used.getLsbD i || decide (7680 ≤ 100 * (eyes.getD i 255).toNat)) = true) :
    7680 ≤ 100 * leastEye l.usedLanes eyes := by
  refine List.foldlRecOn (motive := fun m => 7680 ≤ 100 * m) _ _ (by decide) fun m hm i hi => ?_
  obtain ⟨h4, hu⟩ := Link.mem_usedLanes.mp hi
  have hw := List.all_eq_true.mp h i (List.mem_range.mpr h4)
  rw [hu] at hw
  exact (Nat.mul_min_mul_left 100 _ _).symm ▸ Nat.le_min.mpr ⟨hm, of_decide_eq_true hw⟩

/-! ### One port of LANE_MARGIN_CHECK (R205) -/

/-- Lane `i` with its eye measured, if it is used (R280). -/
noncomputable def Link.laneAfter (l : Link) (eyes : List (BitVec 8)) (i : Nat) :=
  if l.usedLanes.contains i then { l.lanes.getD i {} with eye := (eyes.getD i 255).toNat } else l.lanes.getD i {}

/-- The link with the eyes of its used lanes measured (R280). -/
noncomputable def Link.measured (l : Link) (eyes : List (BitVec 8)) : Link :=
  { l with
    lanes := (List.range 4).map (l.laneAfter eyes)
    eyeMin := if l.eyeValid then leastEye l.usedLanes eyes else l.eyeMin, eyeLanes := if l.eyeValid then laneMask l.usedLanes else l.eyeLanes
    eyeFresh := l.eyeFresh || l.eyeValid }

theorem Link.measured_eye {l : Link} {i : Nat} (h : i ∈ l.usedLanes) (eyes : List (BitVec 8)) :
    ((l.measured eyes).lanes.getD i {}).eye = (eyes.getD i 255).toNat := by
  have hi : i < ((List.range 4).map (l.laneAfter eyes)).length := by
    rw [List.length_map, List.length_range]; exact (Link.mem_usedLanes.mp h).1
  have hlane : (l.measured eyes).lanes.getD i {} = l.laneAfter eyes i := by
    refine (List.getD_eq_getElem _ _ hi).trans ?_
    rw [List.getElem_map, List.getElem_range]
  rw [hlane, Link.laneAfter, if_pos (List.contains_iff_mem.mpr h)]

/-- The least eye noted in AGE_LANES. -/
noncomputable def Age.noteLane (a : Age) (p : Port) (least : Nat) : Age :=
  match p with | .a => { a with laneA := least } | .b => { a with laneB := least }

/-- The start rate one step lower. -/
noncomputable def Age.lowerStart (a : Age) (p : Port) : Age :=
  match p with | .a => { a with startA := min 2 (a.startA + 1) } | .b => { a with startB := min 2 (a.startB + 1) }

/-- The eyes of a port measured and noted. -/
noncomputable def State.laneMeasured (s : State) (p : Port) (eyes : List (BitVec 8)) : State :=
  (s.onLink p fun l => l.measured eyes).onAge fun a => a.noteLane p (leastEye (s.link p).usedLanes eyes)

/-- The port starts one step lower. -/
noncomputable def State.startLowered (s : State) (p : Port) (eyes : List (BitVec 8)) : State :=
  (s.laneMeasured p eyes).onAge fun a => a.lowerStart p

/-- A settings store that starts changes nothing outside the NVM. -/
theorem State.startSettings_onNvm (s : State) : ∃ v, s.startSettings = s.onNvm fun _ => v := by
  refine iteInduction (motive := fun t => ∃ v, t = s.onNvm fun _ => v) (fun _ => ⟨s.nvm, rfl⟩) fun _ => ?_
  exact iteInduction (motive := fun t => ∃ v, t = s.onNvm fun _ => v) (fun _ => ⟨_, rfl⟩) fun _ => ⟨_, rfl⟩

section
variable {s : State} {p : Port} {eyes : List (BitVec 8)}

theorem State.laneMargin_eq : s.laneMargin p eyes =
    if (s.link p).st != .active || (s.link p).usedLanes.isEmpty then s
    else if 7680 ≤ 100 * leastEye (s.link p).usedLanes eyes then s.laneMeasured p eyes
    else (if (s.startLowered p eyes).startRate p = s.startRate p then s.startLowered p eyes else (s.startLowered p eyes).startSettings).raise
      0x9B (portNo p) := by
  cases p <;> rfl

/-- The start rate of the port is one step lower, a settings store may have started, and LANE_MARGIN is raised. -/
noncomputable def State.LaneLow (s : State) (p : Port) (eyes : List (BitVec 8)) (t : State) : Prop :=
  ∃ v, t = ((s.startLowered p eyes).onNvm fun _ => v).raise 0x9B (portNo p)

theorem State.laneLow_raise : s.LaneLow p eyes
    ((if (s.startLowered p eyes).startRate p = s.startRate p then s.startLowered p eyes else (s.startLowered p eyes).startSettings).raise
      0x9B (portNo p)) := by
  split
  · exact ⟨(s.startLowered p eyes).nvm, rfl⟩
  · obtain ⟨v, hv⟩ := (s.startLowered p eyes).startSettings_onNvm
    exact ⟨v, congrArg (fun t : State => t.raise 0x9B (portNo p)) hv⟩

/-- The port does nothing, its eyes are measured, or it has a low eye. -/
theorem State.laneMargin_cases :
    s.laneMargin p eyes = s ∨ s.laneMargin p eyes = s.laneMeasured p eyes ∨ s.LaneLow p eyes (s.laneMargin p eyes) := by
  rw [State.laneMargin_eq]
  split
  · exact .inl rfl
  · split
    · exact .inr (.inl rfl)
    · exact .inr (.inr State.laneLow_raise)

theorem State.laneMargin_idle (h : s.active p = false) : s.laneMargin p eyes = s :=
  if_pos (Bool.or_eq_true_iff.mpr (.inl (congrArg not h)))

variable (h : s.active p = true) (hu : (s.link p).usedLanes ≠ [])
include h hu

theorem State.laneMargin_active : ¬ ((s.link p).st != .active || (s.link p).usedLanes.isEmpty) = true := by
  rw [List.isEmpty_eq_false_iff.mpr hu, Bool.or_false]
  exact Bool.eq_false_iff.mp (congrArg not h)

theorem State.laneMargin_wide (hw : 7680 ≤ 100 * leastEye (s.link p).usedLanes eyes) : s.laneMargin p eyes = s.laneMeasured p eyes := by
  rw [State.laneMargin_eq, if_neg (State.laneMargin_active h hu), if_pos hw]

theorem State.laneMargin_low (hl : 100 * leastEye (s.link p).usedLanes eyes < 7680) : s.LaneLow p eyes (s.laneMargin p eyes) := by
  rw [State.laneMargin_eq, if_neg (State.laneMargin_active h hu), if_neg (Nat.not_le.mpr hl)]
  exact State.laneLow_raise

end

/-! ### The clauses of LANE_MARGIN_CHECK -/

/-- Port A’s check changes nothing of port B, nor the state of the engine. -/
theorem State.laneMargin_a_keeps (s : State) (eyes : List (BitVec 8)) : (s.laneMargin .a eyes).linkB = s.linkB ∧
    (s.laneMargin .a eyes).age.startB = s.age.startB ∧ (s.laneMargin .a eyes).eng = s.eng := by
  rcases State.laneMargin_cases (s := s) (p := .a) (eyes := eyes) with h | h | ⟨v, h⟩
  · rw [h]; exact ⟨rfl, rfl, rfl⟩
  · rw [h]; exact ⟨rfl, rfl, rfl⟩
  · rw [h, State.raise_linkB, State.raise_age, State.raise_eng]; exact ⟨rfl, rfl, rfl⟩

section
variable (s : State) (i : Nat) (eyesA eyesB : List (BitVec 8))

theorem exec_laneMarginCheck (hrun : s.running = true) :
    exec (.laneMarginCheck eyesA eyesB) s = done ((s.laneMargin .a eyesA).laneMargin .b eyesB) := by
  change execLaneMarginCheck eyesA eyesB s = _
  rw [execLaneMarginCheck, hrun]; rfl

theorem laneMarginCheck_wide (h : s.Calm) (hrun : s.running = true) (ha : s.active .a = true) (hb : s.active .b = true)
    (hua : s.linkA.usedLanes ≠ []) (hub : s.linkB.usedLanes ≠ [])
    (hwa : (List.range 4).all (fun i => !s.linkA.used.getLsbD i || decide (7680 ≤ 100 * (eyesA.getD i 255).toNat)) = true)
    (hwb : (List.range 4).all (fun i => !s.linkB.used.getLsbD i || decide (7680 ≤ 100 * (eyesB.getD i 255).toNat)) = true) :
    Completes (.laneMarginCheck eyesA eyesB) s fun u =>
      (u.age.startA = s.age.startA ∧ u.age.startB = s.age.startB ∧ (∀ i, i < 4 → s.linkA.used.getLsbD i = true →
        u.age.laneA ≤ (eyesA.getD i 255).toNat ∧ (u.linkA.lanes.getD i {}).eye = (eyesA.getD i 255).toNat)) ∧ (∀ i, i < 4 →
        s.linkB.used.getLsbD i = true → u.age.laneB ≤ (eyesB.getD i 255).toNat ∧
        (u.linkB.lanes.getD i {}).eye = (eyesB.getD i 255).toNat) ∧
        u = { s with age := u.age, linkA := u.linkA, linkB := u.linkB, flt := u.flt } ∧ NoNewFault s u := by
  have hx := exec_laneMarginCheck s eyesA eyesB hrun
  have hmb : (s.laneMeasured .a eyesA).laneMargin .b eyesB = (s.laneMeasured .a eyesA).laneMeasured .b eyesB :=
    State.laneMargin_wide hb hub (leastEye_wide hwb)
  rw [State.laneMargin_wide ha hua (leastEye_wide hwa), hmb] at hx
  refine completes_onFlt hx h fun f hn => ⟨⟨rfl, rfl, fun i h4 hi => ?_⟩, fun i h4 hi => ?_, rfl, hn⟩
  · have hm := Link.mem_usedLanes.mpr ⟨h4, hi⟩
    exact ⟨leastEye_le hm _, Link.measured_eye hm _⟩
  · have hm := Link.mem_usedLanes.mpr ⟨h4, hi⟩
    exact ⟨leastEye_le hm _, Link.measured_eye hm _⟩

theorem laneMarginCheck_lowA (h : s.Calm) (hrun : s.running = true) (ha : s.active .a = true) (hb : s.active .b = false) (h4 : i < 4)
    (hi : s.linkA.used.getLsbD i = true)
    (hl : 100 * (eyesA.getD i 255).toNat < 7680) : Completes (.laneMarginCheck eyesA eyesB) s fun u =>
      u.age.startA = min 2 (s.age.startA + 1) ∧ u.age.startB = s.age.startB ∧ u.age.laneA ≤ (eyesA.getD i 255).toNat ∧
        u.hasCond 0x9B 0 = true := by
  obtain ⟨-, hr, -, -⟩ := h
  have hm : i ∈ (s.link .a).usedLanes := Link.mem_usedLanes.mpr ⟨h4, hi⟩
  have hle := leastEye_le hm eyesA
  obtain ⟨hlink, -⟩ := s.laneMargin_a_keeps eyesA
  have hidle : (s.laneMargin .a eyesA).active .b = false := (congrArg (fun l : Link => l.st == .active) hlink).trans hb
  obtain ⟨v, hv⟩ := State.laneMargin_low ha (List.ne_nil_of_mem hm) (Nat.lt_of_le_of_lt (Nat.mul_le_mul_left 100 hle) hl)
  have hx := exec_laneMarginCheck s eyesA eyesB hrun
  rw [State.laneMargin_idle hidle, hv] at hx
  exact completes_raising hx hr rfl fun u hage _ hc => ⟨(congrArg Age.startA hage :), (congrArg Age.startB hage :),
    Nat.le_trans (Nat.le_of_eq (congrArg Age.laneA hage :)) hle, hc⟩

theorem laneMarginCheck_lowB (h : s.Calm) (hrun : s.running = true) (hb : s.active .b = true) (h4 : i < 4)
    (hi : s.linkB.used.getLsbD i = true)
    (hl : 100 * (eyesB.getD i 255).toNat < 7680) : Completes (.laneMarginCheck eyesA eyesB) s fun u =>
      u.age.startB = min 2 (s.age.startB + 1) ∧ u.age.laneB ≤ (eyesB.getD i 255).toNat ∧ u.hasCond 0x9B 1 = true := by
  obtain ⟨-, hr, -, -⟩ := h
  have hx := exec_laneMarginCheck s eyesA eyesB hrun
  obtain ⟨hlink, hstart, heng⟩ := s.laneMargin_a_keeps eyesA
  generalize s.laneMargin .a eyesA = t at hx hlink hstart heng
  have hm : i ∈ (t.link .b).usedLanes := Link.mem_usedLanes.mpr ⟨h4, (congrArg (fun l : Link => l.used.getLsbD i) hlink).trans hi⟩
  have hle := leastEye_le hm eyesB
  have hact : t.active .b = true := (congrArg (fun l : Link => l.st == .active) hlink).trans hb
  obtain ⟨v, hv⟩ := State.laneMargin_low hact (List.ne_nil_of_mem hm) (Nat.lt_of_le_of_lt (Nat.mul_le_mul_left 100 hle) hl)
  rw [hv] at hx
  refine completes_raising hx ((congrArg Eng.resetDue heng).trans hr) rfl fun u hage _ hc =>
    ⟨?_, Nat.le_trans (Nat.le_of_eq (congrArg Age.laneB hage :)) hle, hc⟩
  rw [← hstart]
  exact (congrArg Age.startB hage :)

end

/-! ### The scrub of the NVM (R206, R451) -/

/-- The NVM with `n` more corrected words counted (R474). -/
noncomputable def Nvm.corrected (v : Nvm) (n : Nat) : Nvm := { v with eccCorr := sat 16 (v.eccCorr + n) }

/-- Ageing with a scrub that refreshed `n` pages counted (R206, R209). -/
noncomputable def Age.scrubbed (a : Age) (n : Nat) : Age :=
  { a with refreshed := sat 16 (a.refreshed + n), refreshedRec := sat 16 (a.refreshedRec + n), intervalH := if n = 0 then 24 else 6 }

/-- A scrub counted, and recorded where it refreshed a page. -/
noncomputable def State.scrubbed (s : State) (obs : ScrubObs) : State :=
  if obs.refreshed = 0 then (s.onAge (·.scrubbed obs.refreshed)).onNvm (·.corrected obs.corrected)
  else ((s.onAge (·.scrubbed obs.refreshed)).onNvm (·.corrected obs.corrected)).raise 0xD6 0

/-- What a bad page spoils, by the region that holds it (R451). -/
noncomputable def Nvm.spoilIn (v : Nvm) (x : Option (NvmRegion × Nat)) : Nvm :=
  match x with
  | none => v
  | some (r, o) =>
    let n := o / nvmPage
    match r with
    | .slot k => if k then { v with slot1 := { v.slot1 with bad := true } } else { v with slot0 := { v.slot0 with bad := true } }
    | .settings a k => if a then { v with area1 := v.area1.spoilPage k true n } else { v with area0 := v.area0.spoilPage k true n }
    | .program k => { v with prog := v.prog.spoilPage k false n }
    | .plane => { v with planeBad := true }
    | .journal => { v with journal := none }
    | .bootControl k => { v with boot := v.boot.spoilPage k true n }
    | .safety k => { v with safety := v.safety.spoilPage k true n }
    | .retained k => { v with retained := v.retained.spoilPage k true n }
    | .cairnHeader k => { v with cairnHdr := v.cairnHdr.spoilPage k true n }
    | .log | .reserved | .sealed => v

theorem Nvm.spoilAt_eq (v : Nvm) (page : Nat) : v.spoilAt page = v.spoilIn (regionAt (nvmPage * page)) := rfl

theorem Nvm.spoilIn_eccCorr (v : Nvm) (x) : (v.spoilIn x).eccCorr = v.eccCorr := by
  rcases x with - | ⟨r, o⟩
  · rfl
  · cases r with
    | slot k => cases k <;> rfl
    | settings a k => cases a <;> rfl
    | _ => rfl

theorem Pair.spoilPage_copy_same {α : Type} {p : Pair α} {k : Bool} {n : Nat} (h : (p.copy k).uses true n = true) :
    (p.spoilPage k true n).copy k = (p.copy k).spoil := by
  cases k <;> exact if_pos h

theorem Pair.spoilPage_copy_other {α : Type} (p : Pair α) (k b : Bool) (n : Nat) : (p.spoilPage k b n).copy (!k) = p.copy (!k) := by
  cases k <;> rfl

section
variable {s : State} {obs : ScrubObs}

theorem State.scrubbed_eng : (s.scrubbed obs).eng = s.eng := by
  unfold State.scrubbed; split
  · rfl
  · exact State.raise_eng _ _ _

theorem State.scrubbed_age : (s.scrubbed obs).age = s.age.scrubbed obs.refreshed := by
  unfold State.scrubbed; split
  · rfl
  · exact State.raise_age _ _ _

theorem State.scrubbed_nvm : (s.scrubbed obs).nvm = s.nvm.corrected obs.corrected := by
  unfold State.scrubbed; split
  · rfl
  · exact State.raise_nvm _ _ _

theorem State.scrubbed_hasCond (h : obs.refreshed ≠ 0) : (s.scrubbed obs).hasCond 0xD6 0 = true := by
  rw [State.scrubbed, if_neg h, State.hasCond_raise]

theorem sat_sixteen (n : Nat) : sat 16 n = min 65535 n := Nat.min_comm _ _

variable (hrun : s.running = true) (hf : s.unitFenced 9 = false) (hw : s.nvm.working = false) (hn : s.pwr.noNewStore = false)
include hrun hf hw hn

theorem exec_nvmScrub_clean (hbad : obs.bad = none) : exec (.nvmScrub obs) s = done (s.scrubbed obs) := by
  change execNvmScrub obs s = _
  unfold execNvmScrub
  rw [hrun, hf, hw, hn, hbad]; rfl

theorem exec_nvmScrub_bad {p : Fin 8192} (hbad : obs.bad = some p) :
    exec (.nvmScrub obs) s = done (((s.scrubbed obs).onNvm fun v => v.spoilAt p.val).raise 0xD0 0) := by
  change execNvmScrub obs s = _
  unfold execNvmScrub
  rw [hrun, hf, hw, hn, hbad]; rfl

end

section
variable (s : State) (p : Fin 8192) (c : Bool) (o : Nat) (obs : ScrubObs)

theorem nvmScrub_counts (h : s.Calm) (hrun : s.running = true) (hf : s.unitFenced 9 = false) (hw : s.nvm.working = false)
    (hns : s.pwr.noNewStore = false) : Completes (.nvmScrub obs) s fun u =>
      (u.nvm.eccCorr = min 65535 (s.nvm.eccCorr + obs.corrected) ∧ u.age.intervalH = (if obs.refreshed = 0 then 24 else 6)) ∧
        ((obs.refreshed ≠ 0 → u.hasCond 0xD6 0 = true) ∧ (obs.bad.isSome = true → u.hasCond 0xD0 0 = true)) := by
  obtain ⟨-, hr, -, -⟩ := h
  have hreset : (s.scrubbed obs).eng.resetDue = none := (congrArg Eng.resetDue State.scrubbed_eng).trans hr
  have hecc : (s.scrubbed obs).nvm.eccCorr = min 65535 (s.nvm.eccCorr + obs.corrected) :=
    (congrArg Nvm.eccCorr State.scrubbed_nvm).trans (sat_sixteen _)
  have hint : (s.scrubbed obs).age.intervalH = if obs.refreshed = 0 then 24 else 6 := congrArg Age.intervalH State.scrubbed_age
  cases hbad : obs.bad with
  | none =>
    refine completes_steady (exec_nvmScrub_clean hrun hf hw hns hbad) hreset fun u hu => ⟨⟨?_, ?_⟩, fun hne => ?_, fun hb => nomatch hb⟩
    · exact Eq.trans (congrArg (·.2.1.1) hu :) hecc
    · exact Eq.trans (congrArg (·.1.intervalH) hu :) hint
    · exact (State.hasCond_of_steady hu rfl 0).trans (State.scrubbed_hasCond hne)
  | some p =>
    refine completes_steady (exec_nvmScrub_bad hrun hf hw hns hbad) ((congrArg Eng.resetDue (State.raise_eng _ _ _)).trans hreset)
      fun u hu => ⟨⟨?_, ?_⟩, fun hne => ?_, fun _ => ?_⟩
    · refine Eq.trans (congrArg (·.2.1.1) hu :) ((congrArg Nvm.eccCorr (State.raise_nvm _ _ _)).trans ?_)
      exact (Nvm.spoilIn_eccCorr _ (regionAt (nvmPage * p.val))).trans hecc
    · exact Eq.trans (congrArg (·.1.intervalH) hu :) ((congrArg Age.intervalH (State.raise_age _ _ _)).trans hint)
    · refine (State.hasCond_of_steady hu rfl 0).trans (State.hasCond_raise_of ?_ (by decide) 0)
      exact State.scrubbed_hasCond (s := s) hne
    · exact (State.hasCond_of_steady hu rfl 0).trans (State.hasCond_raise _ _ _)

theorem nvmScrub_clean (h : s.Calm) (hrun : s.running = true) (hf : s.unitFenced 9 = false) (hw : s.nvm.working = false)
    (hns : s.pwr.noNewStore = false) (h0 : obs.refreshed = 0) (hbad : obs.bad = none) : Completes (.nvmScrub obs) s fun u =>
      u.age = { s.age with refreshed := u.age.refreshed, refreshedRec := u.age.refreshedRec, intervalH := 24 } ∧
        u.nvm = { s.nvm with eccCorr := min 65535 (s.nvm.eccCorr + obs.corrected) } ∧
        u = { s with age := u.age, nvm := u.nvm, flt := u.flt } ∧ NoNewFault s u := by
  have hx := exec_nvmScrub_clean hrun hf hw hns hbad
  rw [State.scrubbed, if_pos h0, h0] at hx
  refine completes_onFlt hx h fun f hn => ?_
  rw [← sat_sixteen]
  exact ⟨rfl, rfl, rfl, hn⟩

theorem nvmScrub_spoils (h : s.Calm) (hrun : s.running = true) (hf : s.unitFenced 9 = false)
    (hw : s.nvm.working = false) (hns : s.pwr.noNewStore = false) (hbad : obs.bad = some p)
    (hreg : regionAt (512 * p.val) = some (.settings false c, o)) (huse : (s.nvm.area0.copy c).uses true (o / 512) = true) :
    Completes (.nvmScrub obs) s fun u =>
      (settingsLayout false).valid c (u.nvm.area0.copy c) = false ∧ u.nvm.area0.copy (!c) = s.nvm.area0.copy (!c) ∧
        u.nvm.area1 = s.nvm.area1 ∧ u.hasCond 0xD0 0 = true ∧ u.age.intervalH = (if obs.refreshed = 0 then 24 else 6) := by
  obtain ⟨-, hr, -, -⟩ := h
  have hspoilt : ((s.scrubbed obs).nvm.spoilAt p.val).steady = ((s.nvm.corrected obs.corrected).spoilIn (some (.settings false c, o))).steady := by
    rw [State.scrubbed_nvm, Nvm.spoilAt_eq]; exact congrArg (fun x => ((s.nvm.corrected obs.corrected).spoilIn x).steady) hreg
  refine completes_raising (exec_nvmScrub_bad hrun hf hw hns hbad) ((congrArg Eng.resetDue State.scrubbed_eng).trans hr) rfl
    fun u hage hnvm hc => ?_
  have hn := hnvm.trans hspoilt
  have h0 : u.nvm.area0 = s.nvm.area0.spoilPage c true (o / 512) := congrArg (·.2.1) hn
  refine ⟨?_, ?_, congrArg (·.2.2) hn, hc, Eq.trans (congrArg Age.intervalH hage :) (congrArg Age.intervalH State.scrubbed_age)⟩
  · rw [h0, Pair.spoilPage_copy_same huse]; rfl
  · rw [h0, Pair.spoilPage_copy_other]

end
end Sys2Proof.Machine
open Sys2Proof Sys2Proof.Machine

/-- Settles O28: each clause is a lemma about its command. -/
theorem marginsComplete : Obligations.MarginsComplete := by
  unfold Obligations.MarginsComplete
  exact ⟨avsEvaluation_up, avsEvaluation_top, avsEvaluation_fails, avsEvaluation_disabled, avsEvaluation_down, avsEvaluation_holds,
    avsCheck_mismatch, avsCheck_close, memEyeCheck_set0, dqsTracking_counts, memEyeCheck_set1, laneMarginCheck_wide, laneMarginCheck_lowA,
    laneMarginCheck_lowB, nvmScrub_counts, nvmScrub_clean, nvmScrub_spoils⟩

end
